-- ==== Sys2Proof/Word.lean ====
section
/-! DEFINITION. The 32-bit word of R5, the byte, and the sparse list form in which the
model keeps everything the part numbers by an address or an index. -/

namespace Sys2Proof

/-- A 32-bit register or memory word (R5). -/
abbrev Word := BitVec 32

/-- One byte; the least significant byte of a word lies at the lowest offset (R5). -/
abbrev Byte := BitVec 8

/-- A string of bytes, lowest offset first: a frame, a descriptor, a record (R5). -/
abbrev Bytes := List Byte

/-- A map from numbers to values as a list of pairs, keys rising; a key that is not listed
holds the map's default value. -/
abbrev Sparse (α : Type) := List (Nat × α)

end Sys2Proof
end

