-- ==== Sys2Proof/Config.lean ====
section
/-! DEFINITION. What an implementation fixes and the spec leaves open: free values, with no
body, so that nothing in Lean can tell what they are; and the bounds of the part's units. -/

namespace Sys2Proof.Config

/-- A value the spec does not give, fresh for every n (notes/assumptions/2.md). -/
opaque freeValue : Nat → Nat

/-- Whether tininess is detected after rounding: IEEE 754-2019 leaves it to the
implementation (R252). -/
opaque tinyAfter : Bool

/-- Whether inf x 0 + quiet NaN sets NV: IEEE 754-2019 leaves it to the implementation
(R252). -/
opaque fmaQuietNv : Bool

/-- The Skamberno vendor ID of PCIe, whose number the spec does not give (R320). -/
opaque vendorId : Nat

/-- The 64-bit identity the device reports in MHELLO (R392). -/
opaque deviceUid : Nat

/-- Which of two valid commit records is taken as the newest when neither SEQ is ahead of the
other by 1 to 2^31 - 1 (R551): the spec gives no rule. True: copy 1. -/
opaque recordTie : Bool

/-- Which buffer of the retain store is taken as the newest when neither SEQ is ahead of the
other by 1 to 2^31 - 1 (R467): the spec gives no rule. True: buffer 1. -/
opaque retainTie : Bool

/-- What the maker of cell c declares (REPLY): its identity, forwarding latency, lead time,
largest hold count, versions, and whether it is a full bridge. -/
opaque cellUid : Nat → Nat
/-- FWD of cell c. -/
opaque cellFwd : Nat → Nat
/-- LEAD of cell c. -/
opaque cellLead : Nat → Nat
/-- HMAX of cell c. -/
opaque cellHmax : Nat → Nat
/-- VERS of cell c. -/
opaque cellVers : Nat → Nat
/-- FB of cell c. -/
opaque cellFb : Nat → Bool

/-- Lanes L0 to L47 (R86). -/
def lanes : Nat := 48
/-- Strings (R86). -/
def strings : Nat := 44
/-- Cores C0 to C15 (R225). -/
def cores : Nat := 16
/-- Rings (R324). -/
def rings : Nat := 32
/-- Cell controllers: 192 on each of 44 strings (R86, R114). -/
def cells : Nat := 8448
/-- Lock groups (R49). -/
def groups : Nat := 8
/-- Trim channels (R186). -/
def trims : Nat := 48
/-- Arms UA to LC (R10). -/
def arms : Nat := 6
/-- Nanoseconds in a second (R31). -/
def nsPerSec : Nat := 1000000000
/-- The bit that separates the per-origin copies of a register in the register file (R58). -/
def originStride : Nat := 0x100000000

end Sys2Proof.Config
end

