-- ==== Sys2Proof/Syntax.lean ====
section
/-! DEFINITION. The commands of the part: what comes to it from outside, one constructor per row
of the table, with the data that a command carries. -/
namespace Sys2Proof

/-- How the host answers a read that fails (R372, R376). -/
inductive HostErr
  | ur | ca | timeout | ep
  deriving DecidableEq, Repr

/-- Host memory as a command sees it: the bytes that are not 0 by bus address, and the
address ranges [lo, hi) whose reads fail. -/
structure HostMem where
  cells : List (Nat × Byte) := []
  bad : List (Nat × Nat × HostErr) := []
  deriving DecidableEq, Repr

/-- What a cell measures for its telemetry record (Telemetry record tables): VCAP, VCAP_MIN,
TSW, SOFS, TEMP, GDIAG, and its own fault, OV, GDF and AUXLOW. -/
structure CellMeas where
  vcap : Nat := 0
  vmin : Nat := 0
  tsw : Nat := 0xFFF
  sofs : Nat := 0
  temp : Nat := 0
  gdiag : Nat := 0
  fault : Bool := false
  ov : Bool := false
  gdf : Bool := false
  aux : Bool := false
  deriving DecidableEq, Repr

/-- What a board carries beside the part, as a power-on finds it: the ordering code (R2), the
content of the boot flash (R550) and of the OTP key slots (R556). -/
structure Fitted where
  es : Bool := true
  flash : List (Nat × Byte) := []
  hash : List (Nat × Bytes) := []
  prog : Nat := 0
  revoked : Nat := 0
  deriving DecidableEq, Repr

/-- What the scrubber of class 5 finds (R366, R376): nothing, an error it corrects, an
uncorrectable error in the configuration of TIME, MOD, STR or CENG, or one in the staging
memory under the transaction of a ring and descriptor index. -/
inductive ScrubHit
  | clean | corrected | config
  | staging (ring idx : Nat)
  deriving DecidableEq, Repr

/-- Why a transmission of a CAN controller did not succeed (R537, R538). -/
inductive CanTxErr
  /-- arbitration lost: no counter changes -/
  | lost
  /-- a bit, stuff or form error -/
  | error
  /-- no acknowledgement -/
  | noAck
  deriving DecidableEq, Repr

/-- Synchronisation as a lane's receiver finds it: the lane, and the RATE of the stream it hears
(R71, R86). -/
structure SyncRx where
  lane : Nat
  rate : Nat
  deriving DecidableEq, Repr

/-- A code error (R69): characters since the last one, the running disparity
before it, the ten bits received, and its place in the frame that is coming in, if one is. -/
structure CodeErr where
  gap : Nat
  rd : Bool := false
  code : Nat := 0
  pos : Option Nat := none
  deriving DecidableEq, Repr

/-- An overflow (or else an underflow) of an elastic buffer (R77), and its place in the frame that
is coming in, if one is. -/
structure EbSlip where
  ovf : Bool
  pos : Option Nat := none
  deriving DecidableEq, Repr

/-- Octets that a lane's checker receives (R95). -/
structure PrbsRx where
  lane : Nat
  rx : Bytes
  deriving DecidableEq, Repr

/-- A level of an input pin, and for how many sampling cycles in a row it has stood there (R204,
R423). -/
structure PinLevel where
  level : Bool
  held : Nat
  deriving DecidableEq, Repr

/-- The contacts of a safety input that disagree (R424): the input, and for how many island cycles
in a row they have. -/
structure Disagree where
  sin : Nat
  held : Nat
  deriving DecidableEq, Repr

/-- The commands: one constructor for each row of the table, those with operands
first, each part in the order of the table. A docstring gives the rule and what the row says. -/
inductive Instr
  /-- POWER_ON_RESET, R544: A supply falls below its reset threshold and the device enters RESET with
  CAUSE 0x1. -/
  | powerOnReset (fit : Option Fitted)
  /-- DEV_RESET, R544: A host write of DEV_RESET with the correct KEY resets the device, and DAWN
  selects a forced dawn start. -/
  | devReset (key : Nat) (dawn : Bool)
  /-- RESET_RELEASE, R545: Once supplies are in range and the clean PLL is locked, RESET ends,
  RESET_EPOCH increments and BOOT begins its start. -/
  | resetRelease (refA : Bool) (refB : Bool) (side : Bool) (home : Bool)
  /-- START_STEP_DONE, R547: A step of the dawn or noon start completes and the next step begins. -/
  | startStepDone (pass : Bool) (hm : HostMem)
  /-- REF_LOSS, R34: Loss of the selected reference is detected within 1 µs and, with AUTOSW, the
  other reference is taken, or REF_NONE sets. -/
  | refLoss (r : Nat)
  /-- REF_RETURN, R35: A usable reference returns within 10 ms and the PLL relocks without a step. -/
  | refReturn (r : Nat)
  /-- LG_START, R51: At the START offset of a group's period the group's converters sample. -/
  | lgStart (g : Nat)
  /-- TIME_SNAP, R579: A write of TAKE latches station time, period index and offset, or NOPER before
  the first apply instant. -/
  | timeSnap (org : Nat)
  /-- TIME_TW_PUSH, R59: A push queues the staged timed write under its tag or refuses it as FULL,
  PAST or BADADDR. -/
  | timeTwPush (org : Nat) (tag : Nat)
  /-- TIME_TW_CANCEL, R62: A cancel removes every pending timed write with the written tag. -/
  | timeTwCancel (org : Nat) (tag : Nat)
  /-- LANE_TRAIN, R89: A write of LANE_CTRL.TRAIN takes a STRING or MIRROR lane from DISABLED into
  TRAIN. -/
  | laneTrain (l : Nat)
  /-- LANE_CFG_WRITE, R89: A write in CONFIG that changes ROLE or RATE returns the lane to DISABLED
  and clears its coefficients. -/
  | laneCfgWrite (l : Nat) (data : Nat)
  /-- LANE_TXEQ_WRITE, R79: A transmit-equaliser write that breaks the limits is refused and sets
  EQ_REJ. -/
  | laneTxeqWrite (l : Nat) (data : Nat)
  /-- LANE_SYNC_ACQUIRE, R71: Three aligned K28.5 without code error set SYNC. -/
  | laneSyncAcquire (l : SyncRx)
  /-- LANE_CODE_ERROR, R69: A code error is counted, replaced by an error character and added to the
  error score. -/
  | laneCodeError (l : Nat) (e : CodeErr)
  /-- SKP_RECEIVE, R74: A received SKP lets the elastic buffer insert or delete K28.0 characters and
  is removed from the stream. -/
  | skpReceive (l : Nat) (n : Nat) (fill : Nat)
  /-- ELASTIC_BUFFER_ERROR, R77: An elastic-buffer overflow or underflow sets EB_ERR and is counted. -/
  | elasticBufferError (l : Nat) (e : EbSlip)
  /-- ADAPT_UPDATE, R81: Every 1,024 parallel cycles the CTLE and DFE adapt by sign-sign LMS. -/
  | adaptUpdate (l : Nat) (ctle : Int) (taps : List Int)
  /-- ADAPT_FREEZE, R82: Adaptation freezes after 64 consecutive IDLE ordered sets. -/
  | adaptFreeze (l : Nat)
  /-- ADAPT_RESUME, R82: Adaptation resumes once 256 frame characters have been received since the
  freeze. -/
  | adaptResume (l : Nat)
  /-- TRAIN_ADAPT_DONE, R90: Adaptation time in TRAIN ends, the snapshot is taken and the lane enters
  HELLO. -/
  | trainAdaptDone (l : Nat)
  /-- HELLO_RESEND, R90: In HELLO the lane sends a HELLO frame every 100 µs. -/
  | helloResend (l : Nat)
  /-- TRAIN_ATTEMPT_TIMEOUT, R90: The 2 ms attempt timer expires and the lane enters BACKOFF or
  ABSENT. -/
  | trainAttemptTimeout (l : Nat)
  /-- BACKOFF_EXPIRY, R90: The backoff timer elapses and the lane retries TRAIN. -/
  | backoffExpiry (l : Nat)
  /-- ABSENT_RETRY, R92: 100 ms after the previous attempt an ABSENT lane starts a new attempt. -/
  | absentRetry (l : Nat)
  /-- LANE_HELLO_REPLY, R90: A valid reply in HELLO brings the lane UP and hands it to the string or
  mirror block. -/
  | laneHelloReply (l : Nat) (f : Bytes)
  /-- LANE_HELLO_RECEIVE, R106: A string lane or cell port answers a HELLO with ENUM 0 by a REPLY of
  kind LINK. -/
  | laneHelloReceive (l : Nat) (f : Bytes)
  /-- LANE_LOS, R90: Signal lost for 1 µs, or SYNC cleared, takes an UP lane back to TRAIN and counts
  a retrain. -/
  | laneLos (l : Nat) (sig : Bool)
  /-- LANE_CNT_CLR, R97: A write of CLR clears the lane error, buffer and adaptation counters. -/
  | laneCntClr (l : Nat)
  /-- PRBS_LOCK, R95: The checker locks after 256 consecutive error-free bits. -/
  | prbsLock (l : PrbsRx)
  /-- PRBS_LOCK_LOST, R95: 64 errors in 1,024 bits clear LOCK, set LOCK_LOST and reseed the checker. -/
  | prbsLockLost (l : Nat) (n : Nat) (errs : Nat)
  /-- PRBS_ERR_READ, R96: A read of LANE_PRBS_ERR latches both halves of the bit count. -/
  | prbsErrRead (l : Nat) (n : Nat) (errs : Nat)
  /-- PRBS_CLR, R96: A write of LANE_PRBS_CTRL.CLR zeroes the error and bit counts. -/
  | prbsClr (l : Nat)
  /-- ENUM, R114: A write of STR_CTRL.ENUM re-enumerates a LIVE or FAILED string in READY, or sets
  CMD_IGN. -/
  | enum (n : Nat)
  /-- ENUM_REPLY_RECEIVE, R114: A reply to an enumeration HELLO records the end kind or sends a
  provisional ASSIGN to the new cell. -/
  | enumReplyReceive (n : Nat) (f : Bytes)
  /-- ENUM_REPLY_TIMEOUT, R114: No reply within 50 µs ends the cell search and sets SHORT. -/
  | enumReplyTimeout (n : Nat)
  /-- ACK_RECEIVE, R117: An ACK to a provisional or final ASSIGN advances enumeration or puts the fret
  in service. -/
  | ackReceive (n : Nat) (f : Bytes)
  /-- ACK_TIMEOUT, R117: An ASSIGN without ACK is retried, ends the search, or fails the string with
  code 0x5. -/
  | ackTimeout (n : Nat)
  /-- ENUM_ECHO_RETURN, R115: A returned ECHO gives a round trip from which the fret delays are
  derived. -/
  | enumEchoReturn (n : Nat) (f : Bytes) (half : Nat)
  /-- ENUM_ECHO_TIMEOUT, R114: An ECHO not returned within 50 µs is retried up to 3 times, then drops
  the frets beyond. -/
  | enumEchoTimeout (n : Nat)
  /-- REENUM, R121: A write of REENUM on a LIVE string re-admits a cell of the map that is out of
  service. -/
  | reenum (n : Nat)
  /-- STR_CNT_CLR, R156: A write of CLR clears every STR counter of the string. -/
  | strCntClr (n : Nat)
  /-- BOW, R52: At LAUNCH_OFS the strokes of a group leave on all its string lanes. -/
  | bow (g : Nat)
  /-- STROKE_RETURN, R135: A stroke that comes home is absorbed and its telemetry slots are parsed, or
  it is counted in RETCRC. -/
  | strokeReturn (n : Nat) (f : Bytes)
  /-- STROKE_NOHOME, R135: A stroke not home by the return bound is counted in NOHOME. -/
  | strokeNohome (n : Nat)
  /-- STROKE_REFLECT, R133: A lane on a string the device does not launch on reflects the stroke and
  records what it passes. -/
  | strokeReflect (l : Nat) (f : Bytes)
  /-- LANE_ECHO_RECEIVE, R112: A string lane returns an ECHO with FRET 0xFF with the reflection
  latency. -/
  | laneEchoReceive (l : Nat) (f : Bytes)
  /-- LANE_ENUM_HELLO_RECEIVE, R107: A string lane that receives a HELLO with ENUM 1 replies
  END_PARTNER. -/
  | laneEnumHelloReceive (l : Nat) (f : Bytes)
  /-- BLK_RECEIVE, R144: A valid BLK on a string lane records G in G_RX, and an invalid one is
  counted. -/
  | blkReceive (l : Nat) (g : Nat) (fourth : Nat)
  /-- CELL_HELLO, R107: A cell answers, forwards or consumes an enumeration HELLO by its state. -/
  | cellHello (c : Nat) (port : Nat) (f : Bytes)
  /-- CELL_ASSIGN, R110: A cell whose UID matches takes or refuses an ASSIGN and answers with an ACK. -/
  | cellAssign (c : Nat) (port : Nat) (f : Bytes)
  /-- CELL_ECHO, R112: The addressed fret or the string end returns an ECHO; other cells forward it. -/
  | cellEcho (c : Nat) (port : Nat) (f : Bytes)
  /-- CELL_RELEASE, R113: A cell accepting RELEASE blocks, forgets its assignment and forwards the
  frame. -/
  | cellRelease (c : Nat) (port : Nat) (f : Bytes)
  /-- CELL_STROKE, R128: A cell processes a stroke, validates its command, writes telemetry and
  forwards or turns it around. -/
  | cellStroke (c : Nat) (port : Nat) (f : Bytes) (m : CellMeas)
  /-- CELL_APPLY_INSTANT, R132: At its apply instant a cell applies its command, or holds its last
  one, or blocks after H+1 misses. -/
  | cellApplyInstant (c : Nat)
  /-- CELL_BLK, R143: A valid BLK turns the cell's switches off, is forwarded, and forces BLOCK for
  two periods. -/
  | cellBlk (c : Nat) (port : Nat) (g : Nat) (fourth : Nat)
  /-- CELL_AUTH_TIMEOUT, R405: A cell without a stroke of its authority for 100 ms drops that
  authority. -/
  | cellAuthTimeout (c : Nat)
  /-- CELL_TABLE_WRITE, R160: A host or firmware write to a cell-table entry is taken only at word
  0x0C, else discarded. -/
  | cellTableWrite (c : Nat) (w : Nat) (data : Nat)
  /-- MOD_ARM_COMMIT, R183: A commit arriving at MOD copies the arm's output area for the next cut. -/
  | modArmCommit (a : Nat) (tag : Nat)
  /-- LAUNCH_CUT, R189: At the cut trim latches move, trim channels freeze and every fret's command is
  encoded. -/
  | launchCut (g : Nat)
  /-- TRIM_CTRL_WRITE, R186: A write of EN arms or stops a trim channel and its counter. -/
  | trimCtrlWrite (t : Nat) (data : Nat)
  /-- TRIM_PER_WRITE, R188: A PER write below P is refused, and one below the counter wraps it at the
  next tick. -/
  | trimPerWrite (t : Nat) (per : Nat)
  /-- DT_TABLE_WRITE, R199: A write to the dead-time table is taken only at byte 0, else discarded. -/
  | dtTableWrite (c : Nat) (w : Nat) (data : Nat)
  /-- TRIP_FILTER_PASS, R204: A trip input holds a new level for FILT and the filtered level changes. -/
  | tripFilterPass (n : Nat) (p : PinLevel)
  /-- TRIP_SOFT, R207: A write of TRIP_SOFT latches the named groups. -/
  | tripSoft (m : Nat)
  /-- TRIP_CLR, R214: A write of TRIP_CLR clears a latch unless its group is ACTIVE. -/
  | tripClr (m : Nat)
  /-- TRIP_IN_CFG_WRITE, R205: A trip input configuration write leaves an out-of-range FILT unchanged. -/
  | tripInCfgWrite (n : Nat) (data : Nat)
  /-- CENG_EVALUATE, R304: At EVAL the engine evaluates the group's enabled slots and fills their
  latches. -/
  | cengEvaluate (g : Nat)
  /-- ADD, R238: Core ADD sums two registers. -/
  | coreAdd (c : Nat)
  /-- SUB, R238: Core SUB subtracts two registers. -/
  | coreSub (c : Nat)
  /-- AND, R238: Core AND forms a bitwise and. -/
  | coreAnd (c : Nat)
  /-- OR, R238: Core OR forms a bitwise or. -/
  | coreOr (c : Nat)
  /-- XOR, R238: Core XOR forms a bitwise exclusive or. -/
  | coreXor (c : Nat)
  /-- ANDN, R238: Core ANDN forms gA and not gB. -/
  | coreAndn (c : Nat)
  /-- SHL, R238: Core SHL shifts left. -/
  | coreShl (c : Nat)
  /-- SHR, R238: Core SHR shifts right logically. -/
  | coreShr (c : Nat)
  /-- SAR, R238: Core SAR shifts right arithmetically. -/
  | coreSar (c : Nat)
  /-- MUL, R238: Core MUL keeps the low 32 bits of a product. -/
  | coreMul (c : Nat)
  /-- CMP, R238: Core CMP sets flags from a subtraction. -/
  | coreCmp (c : Nat)
  /-- MOV, R238: Core MOV copies a register or immediate. -/
  | coreMov (c : Nat)
  /-- POPC, R238: Core POPC counts set bits. -/
  | corePopc (c : Nat)
  /-- CLZ, R238: Core CLZ counts leading zeros. -/
  | coreClz (c : Nat)
  /-- LD, R242: Core LD loads through a pointer. -/
  | coreLd (c : Nat)
  /-- ST, R240: Core ST stores through a pointer, posted when outside its own memory. -/
  | coreSt (c : Nat)
  /-- LDX, R238: Core LDX loads from a register plus offset. -/
  | coreLdx (c : Nat)
  /-- STX, R238: Core STX stores to a register plus offset. -/
  | coreStx (c : Nat)
  /-- VLD, R244: Core VLD loads 16 bytes through a pointer. -/
  | coreVld (c : Nat)
  /-- VST, R238: Core VST stores 16 bytes through a pointer. -/
  | coreVst (c : Nat)
  /-- VGET, R238: Core VGET reads a word of a vector register. -/
  | coreVget (c : Nat)
  /-- VPUT, R238: Core VPUT writes a word of a vector register. -/
  | coreVput (c : Nat)
  /-- VBC, R238: Core VBC broadcasts a halfword to every lane. -/
  | coreVbc (c : Nat)
  /-- VADD, R249: Core VADD adds lanes, saturating with SAT. -/
  | coreVadd (c : Nat)
  /-- VSUB, R249: Core VSUB subtracts lanes, saturating with SAT. -/
  | coreVsub (c : Nat)
  /-- VAND, R238: Core VAND forms a 128-bit and. -/
  | coreVand (c : Nat)
  /-- VOR, R238: Core VOR forms a 128-bit or. -/
  | coreVor (c : Nat)
  /-- VXOR, R238: Core VXOR forms a 128-bit exclusive or. -/
  | coreVxor (c : Nat)
  /-- VANDN, R238: Core VANDN forms vA and not vB. -/
  | coreVandn (c : Nat)
  /-- VMAC, R247: Core VMAC accumulates lane products. -/
  | coreVmac (c : Nat)
  /-- VMSU, R247: Core VMSU subtracts lane products. -/
  | coreVmsu (c : Nat)
  /-- VMACM, R247: Core VMACM accumulates products of two memory operands. -/
  | coreVmacm (c : Nat)
  /-- VACLR, R238: Core VACLR clears a vector accumulator. -/
  | coreVaclr (c : Nat)
  /-- VEXT, R248: Core VEXT extracts lanes from an accumulator with rounding. -/
  | coreVext (c : Nat)
  /-- SCLR, R238: Core SCLR resets the search results. -/
  | coreSclr (c : Nat)
  /-- SRCH, R250: Core SRCH takes one masked minimum and maximum search step. -/
  | coreSrch (c : Nat)
  /-- SGET, R238: Core SGET reads a search result. -/
  | coreSget (c : Nat)
  /-- SMAC, R247: Core SMAC accumulates a scalar product. -/
  | coreSmac (c : Nat)
  /-- SMSU, R247: Core SMSU subtracts a scalar product. -/
  | coreSmsu (c : Nat)
  /-- SMAC2, R247: Core SMAC2 accumulates two scalar products. -/
  | coreSmac2 (c : Nat)
  /-- SACLR, R238: Core SACLR clears a scalar accumulator. -/
  | coreSaclr (c : Nat)
  /-- SEXT, R248: Core SEXT extracts from a scalar accumulator with rounding. -/
  | coreSext (c : Nat)
  /-- FADD, R252: Core FADD adds binary32 values. -/
  | coreFadd (c : Nat)
  /-- FSUB, R252: Core FSUB subtracts binary32 values. -/
  | coreFsub (c : Nat)
  /-- FMUL, R252: Core FMUL multiplies binary32 values. -/
  | coreFmul (c : Nat)
  /-- FMA, R252: Core FMA computes a fused multiply-add. -/
  | coreFma (c : Nat)
  /-- FDIV, R252: Core FDIV divides binary32 values. -/
  | coreFdiv (c : Nat)
  /-- FSQRT, R252: Core FSQRT takes a binary32 square root. -/
  | coreFsqrt (c : Nat)
  /-- FMIN, R253: Core FMIN returns minimumNumber. -/
  | coreFmin (c : Nat)
  /-- FMAX, R253: Core FMAX returns maximumNumber. -/
  | coreFmax (c : Nat)
  /-- FCMP, R253: Core FCMP sets flags from a binary32 comparison. -/
  | coreFcmp (c : Nat)
  /-- FCVTI, R252: Core FCVTI converts an integer to binary32. -/
  | coreFcvti (c : Nat)
  /-- FCVTF, R253: Core FCVTF converts binary32 to a saturated integer. -/
  | coreFcvtf (c : Nat)
  /-- FABS, R238: Core FABS clears the sign bit. -/
  | coreFabs (c : Nat)
  /-- FNEG, R238: Core FNEG inverts the sign bit. -/
  | coreFneg (c : Nat)
  /-- PSET, R245: Core PSET writes a pointer field. -/
  | corePset (c : Nat)
  /-- PGET, R238: Core PGET reads a pointer field. -/
  | corePget (c : Nat)
  /-- PUPD, R242: Core PUPD updates a pointer without an access. -/
  | corePupd (c : Nat)
  /-- MFS, R235: Core MFS reads a special register. -/
  | coreMfs (c : Nat)
  /-- MTS, R235: Core MTS writes a special register by its access codes. -/
  | coreMts (c : Nat)
  /-- B, R238: Core B branches when its condition holds. -/
  | coreB (c : Nat)
  /-- BR, R238: Core BR branches to a register address. -/
  | coreBr (c : Nat)
  /-- CALL, R238: Core CALL saves the return address and branches. -/
  | coreCall (c : Nat)
  /-- LOOP, R254: Core LOOP starts a hardware loop. -/
  | coreLoop (c : Nat)
  /-- DMA, R256: Core DMA starts a transfer described in its own memory and returns a tag. -/
  | coreDma (c : Nat)
  /-- DMAW, R256: Core DMAW waits for a transfer tag and returns the bytes moved. -/
  | coreDmaw (c : Nat)
  /-- SUBMIT, R239: Core SUBMIT hands a work-item descriptor to the scheduler. -/
  | coreSubmit (c : Nat)
  /-- FENCE, R240: Core FENCE waits until every posted store has reached its target. -/
  | coreFence (c : Nat)
  /-- END, R239: Core END completes the item as DONE once its DMA transfers are done. -/
  | coreEnd (c : Nat)
  /-- NOP, R238: Core NOP does nothing. -/
  | coreNop (c : Nat)
  /-- CORE_DMA_DONE, R256: A core DMA transfer completes or stops on a fault, freeing its tag. -/
  | coreDmaDone (c : Nat) (tag : Nat) (hm : HostMem)
  /-- CONTEXT_SAVE_DONE, R261: The pre-empted item's context is saved and the pre-empting item
  dispatches one depth higher. -/
  | contextSaveDone (c : Nat)
  /-- CONTEXT_RESTORE_DONE, R280: A saved item's context is restored and it resumes on the same core. -/
  | contextRestoreDone (c : Nat)
  /-- PERIOD_TABLE_FIRE, R270: A period-table entry fires at its offset and submits its template. -/
  | periodTableFire (e : Nat)
  /-- TEL_SUBMIT, R271: The telemetry source submits once the group's strokes are home or the return
  bound passes. -/
  | telSubmit (g : Nat)
  /-- SCHED_CANCEL, R287: A write of SCHED_CANCEL cancels every matching outstanding item. -/
  | schedCancel (src : Nat) (tag : Nat)
  /-- RING_ENABLE, R325: A write of EN 1 to a DISABLED ring enables it or refuses with EN_REJ. -/
  | ringEnable (r : Nat)
  /-- RING_DISABLE, R329: A write of EN 0 takes a ring into DRAINING. -/
  | ringDisable (r : Nat)
  /-- RING_RESUME, R329: A write of RESUME takes a HALTED ring back to RUNNING. -/
  | ringResume (r : Nat)
  /-- HOST_DB, R327: A doorbell advances PI and starts fetching, or is discarded. -/
  | hostDb (r : Nat) (pi : Nat)
  /-- FETCH_FAULT, R329: A descriptor fetch that fails halts the ring with FETCH_HALT. -/
  | fetchFault (r : Nat) (hm : HostMem)
  /-- RING_NOP, R335: A NOP descriptor completes as DONE. -/
  | ringNop (r : Nat) (hm : HostMem)
  /-- WORK_SUBMIT, R337: A WORK SUBMIT descriptor passes its item to the scheduler. -/
  | workSubmit (r : Nat) (hm : HostMem)
  /-- COPY, R338: A DMA COPY descriptor moves bytes between host and device memory. -/
  | copy (r : Nat) (hm : HostMem)
  /-- COPY_DONE, R339: A COPY ends and completes with the bytes moved. -/
  | copyDone (r : Nat) (hm : HostMem)
  /-- QUEUE, R340: A TW QUEUE descriptor pushes a timed write. -/
  | queue (r : Nat) (hm : HostMem)
  /-- RING_CANCEL, R341: A CANCEL descriptor acts on every earlier outstanding descriptor with its
  tag. -/
  | ringCancel (r : Nat) (hm : HostMem)
  /-- TRANSACT, R348: A TRANSACT descriptor is checked and its entry list read into staging. -/
  | transact (r : Nat) (hm : HostMem)
  /-- TRANSACT_VALIDATED, R349: Validation of a staged transaction ends and it waits for its instant
  or fails. -/
  | transactValidated (r : Nat) (idx : Nat)
  /-- HOST_ABI_SEL_WRITE, R344: A write of HOST_ABI_SEL selects an ABI while every ring is DISABLED,
  else sets ABI_REJ. -/
  | hostAbiSelWrite (data : Nat)
  /-- MSIX_UNMASK, R345: Unmasking a vector sends its pending message. -/
  | msixUnmask (v : Nat)
  /-- BAR0_BAD_ACCESS, R321: A BAR0 access that is not an aligned 32-bit access completes with
  Unsupported Request. -/
  | bar0BadAccess (a : Nat) (size : Nat)
  /-- REGISTER_WRITE, R6: A write to a register without a row of its own acts field by field by its
  access codes. -/
  | registerWrite (a : Nat) (data : Nat)
  /-- SCRUB_STEP, R366: Every STEP cycles the scrubber reads one row per bank and corrects or poisons
  it. -/
  | scrubStep (m : Nat) (hit : ScrubHit)
  /-- IOMMU_CTRL_WRITE, R370: A change of MODE or DIRBITS is taken only while all rings are DISABLED
  and no host DMA is outstanding. -/
  | iommuCtrlWrite (data : Nat)
  /-- IOMMU_INV, R374: A write of IOMMU_INV starts an invalidation and sets INV_BUSY. -/
  | iommuInv (scope : Nat)
  /-- MHELLO, R380: A received MHELLO is judged for identity and strap findings and answered. -/
  | mhello (l : Nat) (f : Bytes)
  /-- MREPLY, R390: A received MREPLY completes the exchange and may bring the mirror link UP. -/
  | mreply (l : Nat) (f : Bytes)
  /-- TSYNC, R396: A received TSYNC gives d_m and theta, and a follower steps or trims its time. -/
  | tsync (l : Nat) (f : Bytes) (ago : Nat)
  /-- HEALTH, R386: A received HEALTH record is stored and compared with ACT_IN. -/
  | health (l : Nat) (f : Bytes)
  /-- CKPT, R401: A received checkpoint segment is stored, or the capture is discarded with RESYNC. -/
  | ckpt (l : Nat) (f : Bytes)
  /-- MAP, R119: A received MAP makes the NIGHTWATCH measure its delays by ECHO. -/
  | map (l : Nat) (f : Bytes)
  /-- DLY, R118: A received DLY gives both leads, and the ACT holder sends ASSIGNs with them and
  resumes launches. -/
  | dly (l : Nat) (f : Bytes)
  /-- DLY_TIMEOUT, R119: No DLY within 20 ms of the MAP resumes launches with B_TIMED clear. -/
  | dlyTimeout (n : Nat)
  /-- SREP, R145: A received SREP reports which strokes arrived and may mark a string BROKEN and start
  relay. -/
  | srep (l : Nat) (f : Bytes)
  /-- RELAY, R408: A received RELAY frame is launched cut-through on the string lane at bow plus RLAG. -/
  | relay (l : Nat) (f : Bytes)
  /-- RTEL, R147: A received RTEL hands the relayed string's telemetry to the ACT holder. -/
  | rtel (l : Nat) (f : Bytes)
  /-- RETURN_REQ, R411: A received RETURN_REQ is answered with ACK and H or with REJ. -/
  | returnReq (l : Nat) (f : Bytes)
  /-- OFFER, R411: A received OFFER is answered with ACK or REJ. -/
  | offer (l : Nat) (f : Bytes)
  /-- CTRL_ACK, R412: A received ACK makes a handover pending for period H. -/
  | ctrlAck (l : Nat) (f : Bytes)
  /-- CTRL_REJ, R411: A received REJ records its cause and sets HO_REJ. -/
  | ctrlRej (l : Nat) (f : Bytes)
  /-- RESYNC, R399: A received RESYNC marks every granule dirty. -/
  | resync (l : Nat) (f : Bytes)
  /-- ISLAND_SELFTEST_DONE, R439: The island self-test ends and the island enters UNCONF, OPERATE or
  FAULT. -/
  | islandSelftestDone (pass : Bool) (cause : Nat)
  /-- CONTACT_DEBOUNCE, R423: A contact holding a new level for DEB changes its debounced level. -/
  | contactDebounce (n : Nat) (b : Bool) (p : PinLevel)
  /-- INPUT_DISCREPANCY, R424: Contacts that disagree for DISC put the input into latched FAULT. -/
  | inputDiscrepancy (d : Disagree)
  /-- ISLAND_EVALUATION, R423: Every 1,000 island cycles inputs, functions, outputs and permit lines
  are evaluated. -/
  | islandEvaluation (rba : Nat) (rbb : Nat) (permits : Nat)
  /-- OFF_PULSE_TEST, R435: Every OPI an energised output is switched off for OPW and its readbacks
  are tested. -/
  | offPulseTest (o : Nat) (bad : Nat)
  /-- CONFIG_CRC_CHECK, R421: Every 10 ms the active image's CRC is recomputed, a mismatch is an
  island fault. -/
  | configCrcCheck (w : Nat) (flip : Nat)
  /-- RC_MONITOR_CHECK, R438: Every 10 ms the RC oscillator is checked against the 32 kHz one. -/
  | rcMonitorCheck (err : Nat)
  /-- MARCH_TEST, R438: Every 100 ms the island memory is march-tested. -/
  | marchTest (pass : Bool)
  /-- PATTERN_TEST, R438: Every 1 s the function logic is pattern-tested. -/
  | patternTest (pass : Bool)
  /-- LOGIC_MEM_ACCESS, R448: A LOGIC_MEM_DATA access reads or writes an image word and may advance
  the offset. -/
  | logicMemAccess (wr : Option Nat)
  /-- RETAIN_WRITE_DONE, R466: A retain-store write ends with its header read back. -/
  | retainWriteDone (back : Bytes)
  /-- VSP_CMD, R479: A write of VSP_CMD soft-triggers the named segments in one cycle. -/
  | vspCmd (m : Nat)
  /-- ARM, R481: VSP_SEG_CMD ARM checks the segment and arms it or refuses. -/
  | arm (g : Nat)
  /-- DISARM, R480: VSP_SEG_CMD DISARM returns a segment to IDLE and discards its record. -/
  | disarm (g : Nat)
  /-- RELEASE, R480: VSP_SEG_CMD RELEASE discards a DONE record and enters REARM. -/
  | release (g : Nat)
  /-- SOFT, R479: VSP_SEG_CMD SOFT triggers one segment. -/
  | soft (g : Nat)
  /-- REARM_DONE, R480: 2 µs after release the segment is ARMED again. -/
  | rearmDone (g : Nat)
  /-- VSP_CONFIG_WRITE, R475: A write to a segment's configuration while it is not IDLE is refused
  with CFG_WREJ. -/
  | vspConfigWrite (g : Nat) (k : Nat) (data : Nat)
  /-- VSP_READ, R486: A VSP READ descriptor copies a DONE record image to the host. -/
  | vspRead (r : Nat) (hm : HostMem)
  /-- VSP_READ_DONE, R487: A READ ends, completes and may release the segment. -/
  | vspReadDone (r : Nat) (hm : HostMem)
  /-- START, R491: A write of ADC_CTRL.START samples at the next sample-clock edge or is ignored. -/
  | adcStart (c : Nat)
  /-- ADC_RESULT, R494: A conversion completes and its result with flags reaches DATA. -/
  | adcResult (c : Nat) (k : Nat) (raw : Int) (beyond : Bool)
  /-- CAL, R497: ADC_CMD CAL starts a 2.2 ms MEAS calibration or is refused. -/
  | cal (cv : Nat)
  /-- CAL_COMPLETE, R497: A MEAS calibration ends and replaces all five slices' factors. -/
  | calComplete (c : Nat) (facts : List Nat)
  /-- ACCEPT, R499: ADC_CMD ACCEPT clears CAL_STALE of the named converters. -/
  | accept (cv : Nat)
  /-- PROT_CAL_ROTATE, R496: Every 1 ms the spare slice takes over one slice of a PROT converter for
  calibration. -/
  | protCalRotate (c : Nat) (fact : Nat)
  /-- ADC_REF_SELECT, R500: A change of ADC_REF.SEL clears REF_OK and sets CAL_STALE everywhere. -/
  | adcRefSelect (sel : Nat)
  /-- ETH_FRAME_RECEIVE, R506: A received frame is classified and parsed into a subscription record or
  written to a BUF. -/
  | ethFrameReceive (p : Nat) (frame : Bytes) (ago : Nat) (hm : HostMem)
  /-- SUBSCRIPTION_STALE, R527: No accepted message within the time limit sets STALE. -/
  | subscriptionStale (sv : Bool) (n : Nat)
  /-- ETH_SEND, R507: An ETH_TX SEND descriptor queues a frame or fails while the link is down. -/
  | ethSend (r : Nat) (hm : HostMem)
  /-- ETH_SEND_DONE, R507: The last byte leaves the port and the SEND completes with its stamp queued. -/
  | ethSendDone (p : Nat) (ago : Nat)
  /-- ETH_BUF, R508: An ETH_RX BUF descriptor supplies a receive buffer. -/
  | ethBuf (r : Nat) (hm : HostMem)
  /-- ETH_TSQ_HEAD_READ, R514: A read of ETH_TSQ_HEAD removes the head stamp and latches it. -/
  | ethTsqHeadRead (p : Nat)
  /-- ETH_FREQ_WRITE, R516: A write of ETH_FREQ sets the time-base frequency offset. -/
  | ethFreqWrite (v : Nat)
  /-- ETH_SLEW_WRITE, R517: A write of ETH_SLEW starts or replaces a slew. -/
  | ethSlewWrite (v : Nat)
  /-- ETH_SLEW_RATE_WRITE, R517: A write of ETH_SLEW_RATE governs the rest of the slew. -/
  | ethSlewRateWrite (v : Nat)
  /-- PPS_IN_EDGE, R522: A rising edge on PPS_IN is stamped and counted. -/
  | ppsInEdge
  /-- CAN_ENABLE, R530: A write of CAN_CTRL.EN 1 puts the controller on the bus or refuses with
  EN_REJ. -/
  | canEnable (n : Nat)
  /-- CAN_DISABLE, R540: A write of EN 0 ends the frame in progress and cancels every queue entry. -/
  | canDisable (n : Nat)
  /-- RECOVER, R538: A write of RECOVER in bus-off starts recovery. -/
  | recover (n : Nat)
  /-- CAN_RECOVERY_DONE, R538: After 128 occurrences of 11 recessive bits the controller becomes
  error-active. -/
  | canRecoveryDone (n : Nat)
  /-- CAN_SEND, R536: A CAN_TX SEND descriptor enters the transmit queue or fails. -/
  | canSend (r : Nat) (hm : HostMem)
  /-- CAN_FRAME_SENT, R536: A frame is sent and acknowledged and its entry completes with its stamp. -/
  | canFrameSent (n : Nat) (sync : Bool) (ago : Nat)
  /-- CAN_TX_ERROR, R538: Lost arbitration or an error updates the error counters and retries the
  head. -/
  | canTxError (n : Nat) (kind : CanTxErr)
  /-- CAN_FRAME_RECEIVE, R541: A received frame is filtered into the FIFO and the logic mailbox. -/
  | canFrameReceive (n : Nat) (id : Nat) (fmt : Nat) (data : Bytes) (ago : Nat)
  /-- CAN_BUF, R541: A CAN_RX BUF descriptor takes one frame from the FIFO. -/
  | canBuf (r : Nat) (hm : HostMem)
  /-- IMG_ERASE, R558: An IMG ERASE marks the slot UPDATING and erases it. -/
  | imgErase (r : Nat) (hm : HostMem)
  /-- IMG_PROGRAM, R558: An IMG PROGRAM writes bytes into an UPDATING slot and reads them back. -/
  | imgProgram (r : Nat) (hm : HostMem)
  /-- IMG_VERIFY, R558: An IMG VERIFY runs the image checks on a slot. -/
  | imgVerify (r : Nat) (hm : HostMem)
  /-- IMG_COMMIT, R558: An IMG COMMIT writes a record making the slot VALID and ACTIVE. -/
  | imgCommit (r : Nat) (hm : HostMem)
  /-- IMG_STEP_DONE, R558: A flash operation of an IMG step ends and the descriptor completes. -/
  | imgStepDone (r : Nat) (hm : HostMem)
  /-- PROGRAM, R556: DEV_OTP_CMD PROGRAM writes a key hash into an OTP slot. -/
  | otpProgram (slot : Nat)
  /-- REVOKE, R557: DEV_OTP_CMD REVOKE marks an OTP key slot revoked or is refused. -/
  | otpRevoke (slot : Nat)
  /-- OTP_PROGRAM_DONE, R556: OTP programming ends, the slot is read back and OTP_BUSY clears. -/
  | otpProgramDone (back : Bytes)
  /-- UNDEFINED_INSTRUCTION, R237: A core issues a word whose OP is not in the instruction table, such
  as a zeroed word, and raises ILLEGAL. -/
  | undefinedInstruction (c : Nat)
  /-- UNDEFINED_OP_DESCRIPTOR, R332: A fetched descriptor whose OP is not defined for its ring type or
  ABI completes at once as FAILED_ACCESS. -/
  | undefinedOpDescriptor (r : Nat) (hm : HostMem)
  /-- MIRROR_FRAME_DISCARDED, R392: A mirror frame with unknown TYPE, wrong LEN or failed CRC is
  discarded and counted in PAIR_CNT_MERR. -/
  | mirrorFrameDiscarded (l : Nat) (f : Bytes)
  /-- CMD_UNDEFINED, R6: A write of an undefined code to a command register such as DEV_CMD,
  LOGIC_CMD, SAFE_CMD, PAIR_CMD or ADC_CMD, or a wrong DEV_RESET KEY, is refused and sets its
  CMD_REJ. -/
  | cmdUndefined (a : Nat) (data : Nat)
  /-- AIN_COMPARATOR_EDGE, R477: An edge of an AIN pin's window comparator is stamped by the TDC and
  changes the level of a trigger unit with SRC 1. -/
  | ainComparatorEdge (u : Nat) (hi : Bool) (up : Bool) (t64 : Nat)
  /-- ETH_LINK_UP, R507: An Ethernet port's link comes up, with auto-negotiation done, and
  ETH_PORT_STAT.LINK sets. -/
  | ethLinkUp (p : Nat)
  /-- ETH_LINK_DOWN, R507: An Ethernet port's link goes down, LINK clears, and later SENDs complete at
  once as FAILED_ACCESS. -/
  | ethLinkDown (p : Nat)
  /-- CAN_RX_ERROR, R538: A bus error detected while receiving raises REC and may change the error
  state. -/
  | canRxError (n : Nat) (dominant : Bool)
  /-- LINK_TRAINED, R360: The PCIe link completes training, and HOST_LINK shows its speed, width and
  UP. -/
  | linkTrained (speed : Nat) (width : Nat)
  /-- CELL_PORT_UP, R99: A cell port receives a valid reply to its link HELLO and becomes UP. -/
  | cellPortUp (c : Nat) (port : Nat)
  /-- CELL_PORT_LOSS, R99: A cell port loses signal or synchronisation and leaves UP, so the cell
  turns strokes around on its other port. -/
  | cellPortLoss (c : Nat) (port : Nat)
  /-- RESET_N_LOW, R544: RESET_N held low for at least 1 µs puts the device into RESET with CAUSE 0x2. -/
  | resetNLow
  /-- START_TIME_LIMIT, R548: A start that lasts more than 2 s fails. -/
  | startTimeLimit
  /-- GO_READY, R29: DEV_CMD GO_READY checks every block in order and enters READY or refuses with REJ
  0b010. -/
  | goReady
  /-- GO_RUN, R30: DEV_CMD GO_RUN is accepted when DEV_RUN_AT lies in its window and sets RUN_PEND. -/
  | goRun
  /-- STOP, R28: DEV_CMD STOP returns RUN to READY or cancels a pending GO_RUN. -/
  | stop
  /-- GO_CONFIG, R20: DEV_CMD GO_CONFIG returns READY to CONFIG and sends the island a STOP token. -/
  | goConfig
  /-- FORCE_SAFE_HOLD, R25: DEV_CMD 0xF forces SAFE_HOLD with REASON 0x06. -/
  | forceSafeHold
  /-- PERIOD_ENGINE_START, R37: A write of TIME_CTRL.PEN starts the period engine, whose first apply
  instant falls where NS next passes through 0. -/
  | periodEngineStart
  /-- APPLY_INSTANT, R42: At each apply instant the cells apply commands, the transaction applies,
  latches move, timed writes fire and the period index is published. -/
  | applyInstant
  /-- PERIOD_ENGINE_STALL, R41: The independent checker finds an apply instant more than 100 ns late
  and the device enters SAFE_HOLD with REASON 0x03. -/
  | periodEngineStall
  /-- REF_HOLDOVER_EXPIRY, R35: No usable reference returns within 10 ms and the device enters
  SAFE_HOLD with REASON 0x05. -/
  | refHoldoverExpiry
  /-- TIMED_WRITE_FIRE, R60: A queued entry reaches its target time and writes its masked data. -/
  | timedWriteFire
  /-- TIME_CNT_CLR, R56: A write of CLR sets every LATE counter to 0. -/
  | timeCntClr
  /-- ENUM_START, R114: An IDLE string whose conditions hold starts enumeration with a new MAP_ID and
  a RELEASE. -/
  | enumStart
  /-- BLK_INJECT, R141: A new BLK request bit places BLK into the lane stream within t_inj, followed
  by three more. -/
  | blkInject
  /-- OBS_UPDATE, R170: From OBS the observer updates every in-service entry with charge, telemetry
  correction and prediction. -/
  | obsUpdate
  /-- VECTOR_DELIVERY, R177: An arm's vector block is copied into its home core's memory once its
  update and the previous arm's delivery are done. -/
  | vectorDelivery
  /-- MOD_CNT_CLR, R7: A write of CLR clears every MOD observer counter. -/
  | modCntClr
  /-- TRIM_WRAP, R186: A trim counter reaches PER, wraps to 0 and advances its cycle index. -/
  | trimWrap
  /-- MOD_MCNT_CLR, R7: A write of CLR clears every modulation counter and MOD_TRIM_SHORT. -/
  | modMcntClr
  /-- TRIP_CNT_CLR, R7: A write of CLR clears every TRIP_CNT. -/
  | tripCntClr
  /-- SCHED_DISPATCH, R278: An idle core takes the chosen ready item and starts it after 10 cycles. -/
  | schedDispatch
  /-- SCHED_PREEMPT, R282: A ready item of high priority with no idle core pre-empts a lower-priority
  item. -/
  | schedPreempt
  /-- SPILL_REFILL, R275: The oldest spill-ring entry moves into a hardware queue with room. -/
  | spillRefill
  /-- DEADLINE_EXPIRY, R285: An undispatched item whose deadline has passed completes as DEADLINE. -/
  | deadlineExpiry
  /-- AFF_WAIT_EXPIRY, R281: After AFF_WAIT an affinity item may run on any core it names. -/
  | affWaitExpiry
  /-- QUOTA_WINDOW_END, R292: At each 1,024-period window QTUSE resets and per-core figures latch. -/
  | quotaWindowEnd
  /-- SCHED_CNT_CLR, R7: A write of CLR clears the scheduler counters, histograms and MAX fields. -/
  | schedCntClr
  /-- RING_DRAIN_DONE, R329: A draining ring with CI equal to PI becomes DISABLED. -/
  | ringDrainDone
  /-- TRANSACT_COMMIT, R353: A transaction becomes committed 1 µs before its apply instant. -/
  | transactCommit
  /-- IRQ_COALESCE_TIMEOUT, R345: TIME µs after the first gathered completion the coalesced message is
  sent. -/
  | irqCoalesceTimeout
  /-- LINK_RESET, R360: A PCIe hot reset, link down or PERST# resets the host interface only. -/
  | linkReset
  /-- HOST_CNT_CLR, R7: A write of CLR clears every HOST_RING_QREJ and HOST_RING_ABORT. -/
  | hostCntClr
  /-- MEM_CNT_CLR, R7: A write of CLR clears every MEM counter. -/
  | memCntClr
  /-- IOMMU_INV_DONE, R374: Matching entries are removed and their requests completed, and INV_BUSY
  clears. -/
  | iommuInvDone
  /-- IOMMU_CNT_CLR, R7: A write of CLR clears the IOMMU counters. -/
  | iommuCntClr
  /-- ACT_IN_HIGH, R381: PAIR_ACT_IN is seen high and any claim in progress ends or is lost by the
  side rule. -/
  | actInHigh
  /-- ACT_IN_LOW, R381: PAIR_ACT_IN low for 100 ns is seen low and, with TAKE_ARMED, a claim guard
  starts. -/
  | actInLow
  /-- INITIAL_CLAIM_START, R388: On entry to READY or 5 or 10 ms later a NIGHTWATCH starts an initial
  claim. -/
  | initialClaimStart
  /-- CLAIM_GUARD_END, R384: After 2 µs of low ACT_IN the claim passes the veto and asserts
  PAIR_ACT_OUT with a new epoch. -/
  | claimGuardEnd
  /-- CLAIM_VETO_END, R384: 1.2P without a HEALTH reporting ACT ends the veto wait. -/
  | claimVetoEnd
  /-- CLAIM_CONFIRM, R384: ACT_IN low for 200 ns after assertion confirms the claim. -/
  | claimConfirm
  /-- HEARTBEAT_EXPIRY, R383: The heartbeat timer expires, drops PAIR_ACT_OUT and enters SAFE_HOLD. -/
  | heartbeatExpiry
  /-- RETURN_HOLDOFF_EXPIRY, R409: TAKE_OK held for HOLDOFF seconds makes a home NIGHTWATCH send
  RETURN_REQ. -/
  | returnHoldoffExpiry
  /-- RETURN_TIMEOUT, R411: No answer within 8 periods counts as a refusal with cause 0x6. -/
  | returnTimeout
  /-- HANDOVER, R410: A write of PAIR_CMD HANDOVER in ACTIVE sends OFFER, else sets CMD_REJ. -/
  | handover
  /-- FINAL_SEGMENT_SENT, R412: When the last FINAL segment has left the LEAVING device drops
  PAIR_ACT_OUT. -/
  | finalSegmentSent
  /-- FINAL_CAPTURE_APPLY, R413: A NIGHTWATCH applies a complete FINAL capture at once and claims. -/
  | finalCaptureApply
  /-- FINAL_CAPTURE_TIMEOUT, R413: No complete FINAL capture 8 µs after T_h means the NIGHTWATCH does
  not claim. -/
  | finalCaptureTimeout
  /-- LEAVING_RECLAIM, R387: ACT_IN still low 4P after PAIR_ACT_OUT fell makes the LEAVING device
  claim again. -/
  | leavingReclaim
  /-- PAIR_CNT_CLR, R7: A write of CLR clears every PAIR counter. -/
  | pairCntClr
  /-- VDDSAFE_UP, R418: VDDSAFE in range starts the island's self-test from POWERUP. -/
  | vddsafeUp
  /-- VDDSAFE_LOSS, R418: Loss of VDDSAFE returns the island to POWERUP in the safe state. -/
  | vddsafeLoss
  /-- COMMIT, R420: SAFE_CMD COMMIT checks the staged image and makes it active with every function
  latched. -/
  | commit
  /-- RESET, R427: SAFE_CMD RESET issues a host reset request for functions with RST_HOST. -/
  | islandReset
  /-- FRESET, R439: SAFE_CMD FRESET repeats the self-test to leave FAULT, or is refused. -/
  | freset
  /-- SAFE_CNT_CLR, R7: SAFE_CMD 0x4 clears the island counters. -/
  | safeCntClr
  /-- SAP_DELAY_EXPIRY, R433: SAP conditions held for DLY energise the SAP outputs. -/
  | sapDelayExpiry
  /-- WATCHDOG_EXPIRY, R437: No token within WD_MAX expires the watchdog and demands its functions. -/
  | watchdogExpiry
  /-- VDDSAFE_OUT_OF_RANGE, R438: VDDSAFE outside its window for 10 µs is an island fault. -/
  | vddsafeOutOfRange
  /-- LOGIC_CYCLE_START, R457: At a cycle boundary the engine sends SYNC, freezes %I, publishes %Q and
  starts the program. -/
  | logicCycleStart
  /-- START_COLD, R463: LOGIC_CMD START_COLD arms the engine for a cold restart. -/
  | startCold
  /-- START_WARM, R463: LOGIC_CMD START_WARM arms the engine for a warm restart. -/
  | startWarm
  /-- LOGIC_STOP, R463: LOGIC_CMD STOP stops the engine at the end of the current cycle. -/
  | logicStop
  /-- VALIDATE, R450: LOGIC_CMD VALIDATE starts checking the staged program bank. -/
  | validate
  /-- VALIDATE_DONE, R450: Validation ends and records the first failure or sets VALID. -/
  | validateDone
  /-- EXCHANGE, R468: LOGIC_CMD EXCHANGE swaps banks at once or sets XPEND. -/
  | exchange
  /-- LOGIC_CNT_CLR, R7: LOGIC_CMD 0x6 clears the LOGIC counters. -/
  | logicCntClr
  /-- LOGIC_LD, R451: LD loads a bit into LA. -/
  | logicLd
  /-- LOGIC_LDN, R451: LDN loads an inverted bit into LA. -/
  | logicLdn
  /-- LOGIC_AND, R451: AND ands a bit into LA. -/
  | logicAnd
  /-- LOGIC_ANDN, R451: ANDN ands an inverted bit into LA. -/
  | logicAndn
  /-- LOGIC_OR, R451: OR ors a bit into LA. -/
  | logicOr
  /-- LOGIC_ORN, R451: ORN ors an inverted bit into LA. -/
  | logicOrn
  /-- LOGIC_XOR, R451: XOR exclusive-ors a bit into LA. -/
  | logicXor
  /-- LOGIC_ST, R451: ST stores LA into a bit. -/
  | logicSt
  /-- LOGIC_STN, R451: STN stores inverted LA into a bit. -/
  | logicStn
  /-- LOGIC_SET, R451: SET sets a bit when LA is 1. -/
  | logicSet
  /-- LOGIC_RST, R451: RST clears a bit when LA is 1. -/
  | logicRst
  /-- LOGIC_NOT, R451: NOT inverts LA. -/
  | logicNot
  /-- PUSHA, R453: PUSHA pushes LA with and and sets LA to 1. -/
  | pusha
  /-- PUSHO, R453: PUSHO pushes LA with or and clears LA. -/
  | pusho
  /-- POP, R453: POP joins the saved LA with LA. -/
  | pop
  /-- LOGIC_RE, R455: RE detects a rising edge of LA. -/
  | logicRe
  /-- LOGIC_FE, R455: FE detects a falling edge of LA. -/
  | logicFe
  /-- TON, R454: TON runs an on-delay timer. -/
  | ton
  /-- TOF, R454: TOF runs an off-delay timer. -/
  | tof
  /-- TP, R454: TP runs a pulse timer. -/
  | tp
  /-- CTU, R454: CTU counts up on a rising LA. -/
  | ctu
  /-- CTD, R454: CTD counts down on a rising LA. -/
  | ctd
  /-- CRST, R451: CRST resets a counter when LA is 1. -/
  | crst
  /-- LDW, R451: LDW loads a word into ACC. -/
  | ldw
  /-- LDI, R451: LDI loads a sign-extended immediate into ACC. -/
  | ldi
  /-- LDIH, R451: LDIH loads the high half of ACC. -/
  | ldih
  /-- STW, R451: STW stores ACC into a word. -/
  | stw
  /-- STWC, R451: STWC stores ACC when LA is 1. -/
  | stwc
  /-- LOGIC_ADD, R451: ADD adds a word to ACC. -/
  | logicAdd
  /-- LOGIC_SUB, R451: SUB subtracts a word from ACC. -/
  | logicSub
  /-- LOGIC_MUL, R451: MUL multiplies ACC by a word. -/
  | logicMul
  /-- ANDW, R451: ANDW ands a word into ACC. -/
  | andw
  /-- ORW, R451: ORW ors a word into ACC. -/
  | orw
  /-- XORW, R451: XORW exclusive-ors a word into ACC. -/
  | xorw
  /-- ADDI, R451: ADDI adds an immediate to ACC. -/
  | addi
  /-- LOGIC_SHL, R451: SHL shifts ACC left. -/
  | logicShl
  /-- LOGIC_SHR, R451: SHR shifts ACC right logically. -/
  | logicShr
  /-- LOGIC_SAR, R451: SAR shifts ACC right arithmetically. -/
  | logicSar
  /-- CEQ, R451: CEQ sets LA when ACC equals a word. -/
  | ceq
  /-- CGT, R451: CGT sets LA when ACC is greater. -/
  | cgt
  /-- CLT, R451: CLT sets LA when ACC is less. -/
  | clt
  /-- LOGIC_BIT, R451: BIT loads a bit of ACC into LA. -/
  | logicBit
  /-- JMP, R451: JMP jumps to a target. -/
  | jmp
  /-- JT, R451: JT jumps when LA is 1. -/
  | jt
  /-- JF, R451: JF jumps when LA is 0. -/
  | jf
  /-- LOGIC_END, R461: END ends execution and runs the end sequence of copy, retention, exchange and
  stop. -/
  | logicEnd
  /-- RDR, R452: RDR reads a BAR0 word into ACC. -/
  | rdr
  /-- WRR, R452: WRR writes ACC to a BAR0 offset when LA is 1. -/
  | wrr
  /-- SUBM, R452: SUBM submits a template as source 0x17 when LA is 1. -/
  | subm
  /-- LOGIC_NOP, R451: NOP does nothing. -/
  | logicNop
  /-- VSP_TICK, R473: At each tick a segment records one sample of its channels. -/
  | vspTick
  /-- TRIGGER_UNIT_FIRE, R478: A trigger unit's events meet its type and fire at the trigger instant. -/
  | triggerUnitFire
  /-- TRIGGER_TIMEOUT, R478: T1 passes after enter HIGH with no enter LOW and a timeout trigger fires. -/
  | triggerTimeout
  /-- VSP_CNT_CLR, R7: A write of CLR clears every VSP_SEG_MISSED and VSP_SEG_MASKED. -/
  | vspCntClr
  /-- FREE_RUN_SAMPLE, R491: With RUN set the converter samples at every station time whose NS is a
  multiple of 50. -/
  | freeRunSample
  /-- CAL_INTERRUPT, R498: A calibration interrupted by reset, SAFE_HOLD or REF_OK fall changes no
  factor and sets CAL_ABORT. -/
  | calInterrupt
  /-- ADC_CNT_CLR, R7: ADC_CMD 0x3 clears ADC_CNT_OVR. -/
  | adcCntClr
  /-- REF_SETTLED, R500: The reference settles and REF_OK sets. -/
  | refSettled
  /-- SLEW_DONE, R517: Station time has moved by SLEW and SLEW_BUSY clears. -/
  | slewDone
  /-- GO, R518: ETH_STEP_CMD GO requests a step of station time or is refused. -/
  | stepGo
  /-- HOLDOVER, R520: 10 s without an adjustment write sets HOLDOVER. -/
  | holdover
  /-- PPS_OUT_PULSE, R521: At each whole second plus OUT_OFS PPS_OUT rises for WIDTH ms. -/
  | ppsOutPulse
  /-- ETH_PPSIN_SEC_READ, R522: A read of ETH_PPSIN_SEC marks the stamp as read. -/
  | ethPpsinSecRead
  /-- ETH_CNT_CLR, R7: A write of CLR clears every ETH counter. -/
  | ethCntClr
  /-- NO_ACK_ALONE, R539: 16 consecutive acknowledgement errors set NO_ACK_ALONE and may abort the
  head. -/
  | noAckAlone
  /-- TAKE, R543: CAN_CORR_CMD TAKE latches the counter and station time together. -/
  | take
  /-- CAN_CORR_LATCH, R543: At each whole station second the counter and time are latched together. -/
  | canCorrLatch
  /-- CAN_CNT_CLR, R7: A write of CLR clears every CAN counter. -/
  | canCntClr
  /-- REFERENCE_OUT_OF_TOLERANCE, R500: The converter reference leaves ±1 % of its settled value and
  REF_OK falls. -/
  | referenceOutOfTolerance
  deriving DecidableEq, Repr

end Sys2Proof
end

