-- ==== Sys2Proof/Machine/Bits.lean ====
section
/-! DEFINITION. Numbers and bytes: bit fields, sign extension, little-endian order (R5), the
rounding of the manual's div, rs and rnd (R169), and the sparse lists. -/

namespace Sys2Proof.Machine

/-- Bits [lo + w - 1 : lo] of x. -/
def bits (x lo w : Nat) : Nat := (x >>> lo) % 2 ^ w

/-- Bit i of x. -/
def bit (x i : Nat) : Bool := x.testBit i

/-- x with the w bits from lo replaced by v. -/
def setBits (x lo w v : Nat) : Nat :=
  x - (bits x lo w) * 2 ^ lo + (v % 2 ^ w) * 2 ^ lo

/-- x with bit i set or cleared. -/
def setBit (x i : Nat) (b : Bool) : Nat := setBits x i 1 (if b then 1 else 0)

/-- 1 for true. -/
def b2n (b : Bool) : Nat := if b then 1 else 0

/-- The w low bits of x read as two's complement. -/
def sx (w x : Nat) : Int :=
  let y := x % 2 ^ w
  if y < 2 ^ (w - 1) then y else (y : Int) - 2 ^ w

/-- Two's complement of i in w bits. -/
def us (w : Nat) (i : Int) : Nat := (i % (2 ^ w : Nat)).toNat

/-- i clamped to [lo, hi]. -/
def clampI (lo hi i : Int) : Int := if i < lo then lo else if i > hi then hi else i

/-- n clamped to [lo, hi]. -/
def clampN (lo hi n : Nat) : Nat := if n < lo then lo else if n > hi then hi else n

/-- n + 1, saturating at the largest value of w bits. -/
def satInc (w n : Nat) : Nat := if n + 1 < 2 ^ w then n + 1 else 2 ^ w - 1

/-- n / d rounded half to even (R169); 0 where d is 0. -/
def rdiv (n d : Int) : Int :=
  if d = 0 then 0
  else
    let q := Int.fdiv (if d < 0 then -n else n) (if d < 0 then -d else d)
    let m : Int := if d < 0 then -d else d
    let r := (if d < 0 then -n else n) - q * m
    if 2 * r < m then q
    else if 2 * r > m then q + 1
    else if q % 2 = 0 then q else q + 1

/-- rs(x, k) of R169: x / 2^k rounded half to even. -/
def rs (x : Int) (k : Nat) : Int := rdiv x ((2 ^ k : Nat) : Int)

/-- Number of 1 bits among the w low bits of x. -/
def popc (w x : Nat) : Nat := ((List.range w).filter (fun i => x.testBit i)).length

/-- The lowest set bit among the w low bits of x. -/
def lowBit? (w x : Nat) : Option Nat := (List.range w).find? (fun i => x.testBit i)

/-- The indices of the 1 bits among the w low bits of x, rising. -/
def bitList (w x : Nat) : List Nat := (List.range w).filter (fun i => x.testBit i)

/-- x with its n low bits reversed (bitrev_n of R242). -/
def bitrev : Nat → Nat → Nat
  | 0, _ => 0
  | n + 1, x => (x % 2) * 2 ^ n + bitrev n (x / 2)

/-- The number whose bit i is p i, for i below w. -/
def ofBits (w : Nat) (p : Nat → Bool) : Nat :=
  (List.range w).foldl (fun a i => if p i then a + 2 ^ i else a) 0

/-- A little-endian number (R5). -/
def leNat : Bytes → Nat
  | [] => 0
  | b :: r => b.toNat + 256 * leNat r

/-- n as k little-endian bytes (R5). -/
def toLE : Nat → Nat → Bytes
  | 0, _ => []
  | k + 1, n => BitVec.ofNat 8 n :: toLE k (n / 256)

/-- k bytes of a byte string from an offset; bytes past its end read 0. -/
def slice (b : Bytes) (ofs k : Nat) : Bytes :=
  let t := (b.drop ofs).take k
  t ++ List.replicate (k - t.length) 0

/-- The little-endian field of k bytes at an offset. -/
def fieldLE (b : Bytes) (ofs k : Nat) : Nat := leNat (slice b ofs k)

/-- b with k little-endian bytes at an offset replaced by n. -/
def putLE (b : Bytes) (ofs k n : Nat) : Bytes :=
  b.take ofs ++ toLE k n ++ b.drop (ofs + k)

/-- b with the bytes from an offset replaced by d. -/
def putBytes (b : Bytes) (ofs : Nat) (d : Bytes) : Bytes :=
  b.take ofs ++ d ++ b.drop (ofs + d.length)

/-- The value of key k, or d where it is not listed. -/
def sget {α : Type} (m : Sparse α) (d : α) (k : Nat) : α :=
  match m with
  | [] => d
  | (k', v) :: r => if k' = k then v else sget r d k

/-- Key k taken out. -/
def sdel {α : Type} (m : Sparse α) (k : Nat) : Sparse α := m.filter (fun p => p.1 ≠ k)

/-- Key k at value v, keys kept in rising order. -/
def sins {α : Type} (m : Sparse α) (k : Nat) (v : α) : Sparse α :=
  match m with
  | [] => [(k, v)]
  | (k', v') :: r =>
    if k < k' then (k, v) :: (k', v') :: r
    else if k = k' then (k, v) :: r
    else (k', v') :: sins r k v

/-- Key k at value v; a key at the default value d is not listed. -/
def sput {α : Type} [DecidableEq α] (m : Sparse α) (d : α) (k : Nat) (v : α) : Sparse α :=
  if v = d then sdel m k else sins m k v

/-- The element at index i, or a default. -/
def nth {α : Type} (l : List α) (d : α) (i : Nat) : α := (l[i]?).getD d

/-- l with element i replaced. -/
def setNth {α : Type} (l : List α) (i : Nat) (v : α) : List α := l.set i v

/-- Two half-open ranges share a number. -/
def overlap (a la b lb : Nat) : Bool := decide (a < b + lb) && decide (b < a + la)

end Sys2Proof.Machine
end

