-- ==== Sys2Proof/Machine/Code10.lean ====
section
/-! DEFINITION. Characters on a lane and their 8b/10b code (R69): the code tables of IEEE 802.3
clause 36 with running disparity (PRESUMED from that standard, notes/assumptions/91.md), the
ordered sets and delimiters of R70, and the PRBS patterns of R94. -/

namespace Sys2Proof.Machine

open Sys2Proof

/-- A character of a lane: a data character, or one of the five control characters (R69). -/
inductive LaneChar
  | data (b : Byte)
  | k285 | k280 | k283 | k277 | k297
  deriving DecidableEq, Repr

/-! ## Ordered sets (R70) -/

/-- IDLE. -/
def idleSet : List LaneChar := [.k285, .data 0x50, .data 0x50, .data 0x50]

/-- SKP with n K28.0; the PX6400 sends three (R73). -/
def skpSet (n : Nat) : List LaneChar := .k285 :: List.replicate n .k280

/-- BLK with mask G. -/
def blkSet (g : Nat) : List LaneChar :=
  [.k285, .k283, .data (BitVec.ofNat 8 g), .data (BitVec.ofNat 8 (255 - g))]

/-- A frame between its delimiters. -/
def frameChars (f : Bytes) : List LaneChar := .k277 :: f.map .data ++ [.k297]

/-- A SKP as the receiver knows it: 1 to 5 K28.0 (R75). -/
def skpIs (n : Nat) : Bool := decide (1 ≤ n) && decide (n ≤ 5)

/-- The delivered stream without its SKPs (R75): a K28.5 followed by 1 to 5 K28.0 is removed
whole. -/
def skpStrip : Nat → List LaneChar → List LaneChar
  | 0, l => l
  | _, [] => []
  | k + 1, c :: r =>
    let n := (r.takeWhile (· = .k280)).length
    if c = .k285 && skpIs n then skpStrip k (r.drop n) else c :: skpStrip k r

/-! ## 8b/10b -/

/-- The 6-bit blocks of D.0 to D.31 at negative running disparity, bit a first. -/
def code6 : List Nat :=
  [0x27, 0x1D, 0x2D, 0x31, 0x35, 0x29, 0x19, 0x38, 0x39, 0x25, 0x15, 0x34, 0x0D, 0x2C, 0x1C, 0x17,
   0x1B, 0x23, 0x13, 0x32, 0x0B, 0x2A, 0x1A, 0x3A, 0x33, 0x26, 0x16, 0x36, 0x0E, 0x2E, 0x1E, 0x2B]

/-- The 4-bit blocks of .0 to .7 at negative running disparity, bit f first. -/
def code4 : List Nat := [0xB, 0x9, 0x5, 0xC, 0xD, 0xA, 0x6, 0xE]

/-- A block of w bits at a running disparity (true positive), and the disparity after it: an
unbalanced block is complemented at positive disparity and turns it over; a balanced one stays,
but for the one whose halves differ. -/
def blockAt (w v : Nat) (rd : Bool) : Nat × Bool :=
  let n := popc w v
  let alt := v = 0x38 && w = 6 || v = 0xC && w = 4
  let flip := 2 * n ≠ w
  (if rd && (flip || alt) then v ^^^ (2 ^ w - 1) else v, if flip then !rd else rd)

/-- A data character at a running disparity: its code group and the disparity after it. The
block .7 takes its other form where a run of five would follow. -/
def encData (b : Nat) (rd : Bool) : Nat × Bool :=
  let x := b % 32
  let (p, r1) := blockAt 6 (nth code6 0 x) rd
  let run := if r1 then ([11, 13, 14] : List Nat).contains x else ([17, 18, 20] : List Nat).contains x
  let (q, r2) := blockAt 4 (if b / 32 = 7 && run then 0x7 else nth code4 0 (b / 32)) r1
  (16 * p + q, r2)

/-- A control character at negative running disparity, and whether it turns the disparity over. -/
def LaneChar.ctl : LaneChar → Option (Nat × Bool)
  | .k285 => some (0x0FA, true)
  | .k280 => some (0x0F4, false)
  | .k283 => some (0x0F3, true)
  | .k277 => some (0x368, false)
  | .k297 => some (0x2E8, false)
  | .data _ => none

/-- The code group of a character at a running disparity (R69). -/
def enc10 (c : LaneChar) (rd : Bool) : Nat × Bool :=
  match c with
  | .data b => encData b.toNat rd
  | c => match c.ctl with
    | some (v, flip) => (if rd then v ^^^ 0x3FF else v, if flip then !rd else rd)
    | none => (0, rd)

/-- The characters that a lane may carry (R69). -/
def laneChars : List LaneChar :=
  [.k285, .k280, .k283, .k277, .k297] ++ (List.range 256).map (fun b => .data (BitVec.ofNat 8 b))

/-- The character of a code group received at a running disparity; none is a code error: an
invalid group, another control character, or a running-disparity error (R69). -/
def dec10 (rd : Bool) (code : Nat) : Option LaneChar :=
  laneChars.find? (fun c => (enc10 c rd).1 = code)

/-! ## PRBS patterns (R94) -/

/-- The two taps of a pattern. -/
def prbsTaps (pat : Nat) : Nat × Nat :=
  match pat with
  | 0 => (7, 6)
  | 1 => (15, 14)
  | 2 => (23, 18)
  | _ => (31, 28)

/-- The next bit after the register r of the last bits, newest in bit 0. -/
def prbsBit (pat r : Nat) : Bool :=
  let (n, m) := prbsTaps pat
  bit r (n - 1) != bit r (m - 1)

/-- The register after a bit. -/
def prbsPush (pat r : Nat) (b : Bool) : Nat := (2 * r + b2n b) % 2 ^ (prbsTaps pat).1

/-- k bits of a pattern from a register. -/
def prbsBits (pat : Nat) : Nat → Nat → List Bool
  | 0, _ => []
  | k + 1, r => prbsBit pat r :: prbsBits pat k (prbsPush pat r (prbsBit pat r))

/-- The register k bits later. -/
def prbsSkip (pat : Nat) : Nat → Nat → Nat
  | 0, r => r
  | k + 1, r => prbsSkip pat k (prbsPush pat r (prbsBit pat r))

/-- The checker over received bits: it has seeded itself from the register of those before, and
counts the bits in error (R95). -/
def prbsErrs (pat : Nat) : Nat → List Bool → Nat
  | _, [] => 0
  | r, b :: l => b2n (b != prbsBit pat r) + prbsErrs pat (prbsPush pat r b) l

/-- A register filled from received bits, oldest first. -/
def prbsSeed (pat : Nat) (l : List Bool) : Nat := l.foldl (prbsPush pat) 0

/-- The bits of a byte string, bit 0 of byte 0 first. -/
def bitsOf (b : Bytes) : List Bool := b.flatMap (fun x => (List.range 8).map (fun i => x.toNat.testBit i))

end Sys2Proof.Machine
end

