-- ==== Sys2Proof/Machine/Crc.lean ====
section
/-! DEFINITION. The two checks of the string protocol: CRC-32 (R104) and CRC-16 (R105). -/

namespace Sys2Proof.Machine

/-- One bit of the reflected CRC-32, polynomial 0x04C1_1DB7 (R104). -/
def crc32Bit (c : Nat) : Nat :=
  if c % 2 = 1 then (c / 2) ^^^ 0xEDB88320 else c / 2

/-- One byte into a running CRC-32. -/
def crc32Byte (c : Nat) (b : Byte) : Nat :=
  crc32Bit (crc32Bit (crc32Bit (crc32Bit (crc32Bit (crc32Bit (crc32Bit (crc32Bit
    (c ^^^ b.toNat))))))))

/-- CRC-32 of IEEE 802.3 over a byte string (R104). -/
def crc32 (b : Bytes) : Nat := (b.foldl crc32Byte 0xFFFFFFFF) ^^^ 0xFFFFFFFF

/-- One bit of the CRC-16 with polynomial 0x1021 (R105). -/
def crc16Bit (c : Nat) : Nat :=
  if c ≥ 0x8000 then ((2 * c) % 0x10000) ^^^ 0x1021 else 2 * c

/-- One byte into a running CRC-16. -/
def crc16Byte (c : Nat) (b : Byte) : Nat :=
  crc16Bit (crc16Bit (crc16Bit (crc16Bit (crc16Bit (crc16Bit (crc16Bit (crc16Bit
    (c ^^^ (b.toNat * 256)))))))))

/-- CRC-16 of R105, initial value 0xFFFF, no reflection. -/
def crc16 (b : Bytes) : Nat := b.foldl crc16Byte 0xFFFF

/-- A frame body with its CRC-32 appended, little-endian (R104). -/
def withCrc32 (b : Bytes) : Bytes := b ++ toLE 4 (crc32 b)

/-- The last four bytes of a frame are the CRC-32 of the rest. -/
def crc32Ok (f : Bytes) : Bool :=
  decide (4 ≤ f.length) && decide (fieldLE f (f.length - 4) 4 = crc32 (f.take (f.length - 4)))

end Sys2Proof.Machine
end

