-- ==== Sys2Proof/Machine/State.lean ====
section
/-! DEFINITION. The state of the part as plain data: its registers (a sparse file over BAR0
offsets in which an unlisted register holds its reset value), its memories, and what every
block keeps beside its registers; the reasons a command can stop; the state at power-on. -/

namespace Sys2Proof.Machine

/-- A register, or a field of one: its BAR0 offset, the register's reset value, the field's
lowest bit and its width (R5). -/
structure Fld where
  addr : Nat
  rst : Nat
  lo : Nat
  w : Nat
  deriving DecidableEq, Repr

/-- The access codes of R6. -/
inductive Acc
  | RO | RW | WO | W1C | W1S | RWL | RWT
  deriving DecidableEq, Repr

/-- One field of a register table: place, access code, and the range of values the table
lets the field take (a value outside it leaves the field unchanged). -/
structure FAcc where
  lo : Nat
  w : Nat
  acc : Acc
  min : Nat
  max : Nat
  deriving DecidableEq, Repr

/-- One register of the register tables: offset, reset value, the stride and count of each
index, and its fields. -/
structure RegRow where
  addr : Nat
  rst : Nat
  dims : List (Nat × Nat)
  fields : List FAcc
  deriving DecidableEq, Repr

/-- What the block sends out, in the order it sends it: the model's own record of everything
that leaves the part, so that a statement can speak of it. -/
inductive Out
  /-- an MSI-X message of a vector (R345, R346) -/
  | msix (vec : Nat)
  /-- a write request to host memory at an I/O virtual address (R322, R334, R338) -/
  | host (iova : Nat) (data : Bytes)
  /-- a frame on a string lane, between its delimiters (R103) -/
  | lane (l : Nat) (frame : Bytes)
  /-- a stroke launched or returned on a string lane (R123, R133) -/
  | stroke (l : Nat) (frame : Bytes)
  /-- the fill of a lane since its latest frame, IDLE but for n SKP ordered sets (R73) -/
  | fill (l n : Nat)
  /-- a SKP ordered set immediately after an end delimiter (R73) -/
  | skp (l : Nat)
  /-- bits on a transmit pair as they were recovered: far-end loopback (R98) -/
  | looped (l : Nat) (bits : List Bool)
  /-- a BLK ordered set with mask G on a lane (R141) -/
  | blk (l g : Nat)
  /-- a frame on a mirror lane (R392) -/
  | mirror (l : Nat) (frame : Bytes)
  /-- a frame out of a cell's port (R100) -/
  | cell (c port : Nat) (frame : Bytes)
  /-- a BLK out of a cell's port (R143) -/
  | cellBlk (c port g : Nat)
  /-- an Ethernet frame on a port (R507) -/
  | eth (port : Nat) (frame : Bytes)
  /-- a CAN frame queued on a bus: controller, identifier word, data (R534) -/
  | can (n id dlc : Nat) (data : Bytes)
  /-- a bus answer to a read of BAR0: the data, and whether the completion is poisoned
  (R365) or an Unsupported Request (R321) -/
  | bar0 (data : Nat) (poisoned unsupported : Bool)
  /-- a level of a pin, by the name of the pin -/
  | pin (name : String) (level : Bool)
  /-- a pulse on a pin: how long it is high, in ns (R521) -/
  | pulse (name : String) (width : Nat)
  deriving DecidableEq, Repr

/-- Straps and static inputs: the ordering code (R2) and the pair straps (R15). -/
structure Straps where
  /-- true on a PX6400-ES, whose safety island is enabled -/
  es : Bool := true
  /-- PAIR_SIDE: false side A, true side B -/
  side : Bool := false
  /-- PAIR_HOME -/
  home : Bool := false
  deriving DecidableEq, Repr

/-- A DEV_CMD accepted in a core cycle: what a fatal fault of that cycle takes back (R27). -/
structure CmdUndo where
  /-- the core cycle of the command -/
  cyc : Nat
  /-- the registers that it changed: offset, word before, word after; none where not listed -/
  regs : List (Nat × Option Word × Option Word)
  deriving DecidableEq, Repr

/-- DEV: what the registers of DEV do not hold (R20, R546 to R549). -/
structure DevS where
  /-- the device is in RESET (never read in DEV_STATE) -/
  inReset : Bool := true
  /-- the previous start completed (R546) -/
  prevDone : Bool := false
  /-- an image COMMIT has completed since the previous start (R546) -/
  committed : Bool := false
  /-- an uncorrectable error of class 2 or 5 since the previous start (R546) -/
  ue25 : Bool := false
  /-- period index whose apply instant starts RUN, as an accepted GO_RUN named it (R30) -/
  runAt : Nat := 0
  /-- the start step in progress, 1 to 8; 0 outside BOOT (R547) -/
  step : Nat := 0
  /-- register list of the image in hand, applied at step 6: address, mask, data (R554) -/
  regList : List (Nat × Nat × Nat) := []
  /-- the converters that were of class MEAS when the device left CONFIG or a later state for
  RESET, bit c for CVc: step 5 keeps their factors (R547) -/
  meas : Nat := 0
  /-- core cycle of the latest fatal fault that acted (R27) -/
  faultAt : Option Nat := none
  /-- the latest accepted DEV_CMD (R27) -/
  undo : Option CmdUndo := none
  /-- strings whose launches go on until the next apply instant after GO_CONFIG (R20, R154) -/
  lastBow : List Nat := []
  deriving DecidableEq, Repr

/-- An entry of the timed-write queue (R57); `org` is its origin (R58) and `ring` the ring
and descriptor index of an entry that a QUEUE descriptor pushed (R340). -/
structure TwEntry where
  addr : Nat
  data : Nat
  mask : Nat
  ns : Nat
  sec : Nat
  tag : Nat
  org : Nat
  ring : Option (Nat × Nat) := none
  /-- a cancel met the entry in the tick in which it fires (R62) -/
  late : Bool := false
  /-- a forward step has carried station time past its target (R64) -/
  passed : Bool := false
  deriving DecidableEq, Repr

/-- The latest timed write that fired: core cycle, target, and the tags fired in that cycle
(R61, R62). -/
structure TwFired where
  cyc : Nat
  target : Int
  tags : List Nat
  deriving DecidableEq, Repr

/-- TIME: station time (R31), the period count (R39), the timed-write queue (R57). -/
structure TimeS where
  sec : Nat := 0
  ns : Nat := 0
  frac : Nat := 0
  /-- period index n; counts from the first apply instant (R37) -/
  pidx : Nat := 0
  /-- station nanoseconds since the apply instant of period n -/
  pofs : Nat := 0
  /-- P in force for the current period (R36) -/
  per : Nat := 5000
  tw : List TwEntry := []
  /-- a step of station time that waits for the apply instant, in 2^-16 ns (R63) -/
  step : Option Int := none
  /-- the partner's next apply instant, onto which this device moves: station nanoseconds until
  it, and its period index (R396) -/
  align : Option (Nat × Nat) := none
  /-- what has fallen in this period at its offset (R43): kind and lock group -/
  acted : List (Nat × Nat) := []
  fired : Option TwFired := none
  /-- the label of the latest apply instant and what its steps 2 and 3 wrote: offset and mask
  (R42) -/
  instW : Int × List (Nat × Nat) := (0, [])
  /-- what is left of a slew, in units of 2^-16 ns (R517) -/
  slew : Int := 0
  /-- the pull of the frequency adjustment not yet carried into FRAC -/
  acc : Int := 0
  /-- core cycles since RESET (R235); the model runs them with station nanoseconds -/
  cyc : Nat := 0
  /-- nanoseconds that the CAN clock has run since RESET (R542) -/
  canNs : Nat := 0
  deriving DecidableEq, Repr

/-- What an error does to the frame that a lane is receiving (R69, R77): a character replaced by
an error character, one lost, or an error character gained. -/
inductive Hurt
  | bad | lost | extra
  deriving DecidableEq, Repr

/-- One lane: what its registers do not hold (R72, R74, R82, R90, R95). -/
structure LaneS where
  /-- the error score (R72) -/
  score : Nat := 0
  /-- characters since the last code error, modulo 64 (R72) -/
  good : Nat := 0
  /-- aligned K28.5 seen toward SYNC (R71) -/
  commas : Nat := 0
  /-- fill of the elastic buffer (R74) -/
  fill : Nat := 4
  /-- consecutive IDLE ordered sets (R82) -/
  idles : Nat := 0
  /-- frame characters since the freeze (R82) -/
  frameCh : Nat := 0
  /-- a trained snapshot exists (R83) -/
  snap : Bool := false
  /-- frozen by the drift guard until the next TRAIN (R84) -/
  guard : Bool := false
  /-- the buffer re-centres at the next SKP (R77) -/
  recentre : Bool := false
  /-- bits compared while LOCK was set (R95) -/
  bits : Nat := 0
  /-- LOS, ABSENT first-attempt timing and backoff in ms (R90) -/
  backoff : Nat := 0
  /-- nonce of the last HELLO sent, and whether it still waits for its reply -/
  nonce : Nat := 0
  /-- errors in the frame being received: character position and kind (R69, R77) -/
  hurt : List (Nat × Hurt) := []
  /-- when the latest SKP left: nanoseconds passed (R73) -/
  skpAt : Nat := 0
  /-- the PRBS generator: its register when GEN_EN was written, and nanoseconds passed then
  (R94) -/
  seed : Nat := 0
  genAt : Nat := 0
  deriving DecidableEq, Repr

/-- Where an enumeration or a re-admission stands (R114, R121). -/
inductive EnumPhase
  | none
  | hello
  | prov
  | echo (tries : Nat)
  | echoEnd (tries : Nat)
  | final (tries : Nat)
  | reHello
  | reAssign (fret tries : Nat)
  /-- the measurement of R119 on the NIGHTWATCH: ECHO to fret k, then to the string end -/
  | meas (k : Nat)
  | measEnd
  deriving DecidableEq, Repr

/-- A fret of a string's map, in this device's numbering (R114 to R118, R158). -/
structure FretS where
  uid : Nat := 0
  rt : Nat := 0
  fwd : Nat := 0
  lead : Nat := 0
  hmax : Nat := 0
  fb : Bool := false
  ver : Nat := 0
  insvc : Bool := false
  cid : Nat := 0xFFFF
  /-- D(k) from this device; `dOther` from the partner, 0xFFFF unknown (R118) -/
  d : Nat := 0
  dOther : Nat := 0xFFFF
  hold : Nat := 0
  cmdA : Nat := 0
  telA : Nat := 0
  cmdB : Nat := 0
  telB : Nat := 0
  leadA : Nat := 0xFFFF
  leadB : Nat := 0xFFFF
  /-- the side's lead the cell has acknowledged -/
  timed : Bool := false
  deriving DecidableEq, Repr

/-- A stroke launched and not yet home (R135). -/
structure Flight where
  pidx : Nat
  len : Nat
  deriving DecidableEq, Repr

/-- One string: what its registers do not hold. -/
structure StrS where
  lastMap : Nat := 0
  phase : EnumPhase := .none
  k : Nat := 0
  nonce : Nat := 0
  frets : List FretS := []
  rtEnd : Option Nat := none
  /-- first failing check before the final ASSIGNs: code 0x1 or 0 -/
  early : Nat := 0
  /-- the fret an ASSIGN of the leads is out to (R118), with its tries -/
  leadOut : Option (Nat × Nat) := none
  /-- launches held for the measurement of R119 -/
  mapWait : Bool := false
  flights : List Flight := []
  /-- low 32 bits of the latest period reported without a stroke received, where the report
  before it is not of a stroke received (R145) -/
  missAt : Option Nat := none
  /-- low 32 bits of the latest period whose direct stroke reached the partner, while in relay
  (R148) -/
  directAt : Option Nat := none
  /-- enumeration frames that wait for the gap after the next stroke (R122) -/
  held : List Bytes := []
  /-- the mirror lane index that carries the string's relay -/
  relayOn : Option Nat := none
  /-- the BLK request bits now active, by source: trips, SVB, R26 (R141) -/
  blkTrip : Nat := 0
  blkSvb : Nat := 0
  blkHold : Nat := 0
  /-- PIDX of the latest direct stroke received (for SREP) -/
  seen : Option Nat := none
  /-- periods of the latest strokes launched, newest first (R145) -/
  launched : List Nat := []
  /-- stroke under construction for the next bow: command records by fret -/
  built : Option Bytes := none
  deriving DecidableEq, Repr

/-- A cell's place in enumeration (R110). -/
inductive CellState
  | unassigned | provisional | assigned
  deriving DecidableEq, Repr

/-- One cell controller on a string (R99 to R143): ports, declarations, assignment,
authority, the command it holds and its telemetry flags. -/
structure CellS where
  up0 : Bool := false
  up1 : Bool := false
  uid : Nat := 0
  fwd : Nat := 0
  lead : Nat := 0
  hmax : Nat := 8
  vers : Nat := 3
  fb : Bool := false
  st : CellState := .unassigned
  /-- the port that faces side A (R101) -/
  portA : Nat := 0
  /-- side of the device whose provisional ASSIGN the cell took, and its fret there -/
  provSide : Bool := false
  fret : Nat := 0
  mapId : Nat := 0
  ver : Nat := 0
  fretA : Nat := 0
  fretB : Nat := 0
  cid : Nat := 0
  cmdA : Nat := 0
  telA : Nat := 0
  cmdB : Nat := 0
  telB : Nat := 0
  leadA : Nat := 0xFFFF
  leadB : Nat := 0xFFFF
  per : Nat := 0
  rlag : Nat := 0
  hold : Nat := 0
  string : Nat := 0
  /-- current authority: side and epoch (R137) -/
  auth : Option (Bool × Nat) := none
  dual : Bool := false
  /-- epochs recorded while DUAL was latched (R139) -/
  dualEpochs : List Nat := []
  /-- side of the strokes processed lately, and when that run of one side began, in nanoseconds
  passed (R139) -/
  runSide : Bool := false
  runFrom : Nat := 0
  /-- nanoseconds passed at the last processed start delimiter (R138) -/
  lastStart : Option Nat := none
  /-- nanoseconds passed at the next apply instant (R129, R132) -/
  dueAt : Option Nat := none
  /-- validated command for the next apply instant: record bytes, and its PIDX -/
  cmd : Option (Bytes × Nat) := none
  /-- the last applied record -/
  last : Option Bytes := none
  /-- PIDX of the commands applied, newest first; one 2^31 periods or more behind the newest counts
  no more (R128) -/
  applied : List Nat := []
  misses : Nat := 0
  /-- the states applied now: INIT, ON and the toggles (R125), and the dead-time code -/
  init : Nat := 3
  on : Nat := 3
  tog1 : Nat := 0xFFFF
  tog2 : Nat := 0xFFFF
  dtc : Nat := 0
  /-- apply instants up to this number of nanoseconds passed apply BLOCK (R143) -/
  blkUntil : Option Nat := none
  /-- the bypass switch is closed (R127) -/
  bypass : Bool := false
  /-- a command for INSERT_NEG reached a half-bridge cell at this apply instant (R126) -/
  negF : Bool := false
  crcErr : Bool := false
  holdF : Bool := false
  linkDeg : Bool := false
  seqEcho : Nat := 0
  /-- the diagnostic request acted on last (R127) -/
  diagReq : Nat := 0
  deriving DecidableEq, Repr


/-- One command for a cell: states before, between and after its toggles (R125), and DTC. -/
structure CmdRec where
  init : Nat := 3
  on : Nat := 3
  tog1 : Nat := 0xFFFF
  tog2 : Nat := 0xFFFF
  dtc : Nat := 0
  deriving DecidableEq, Repr

/-- A parsed telemetry slot that waits for the observer (R164, R165). -/
structure TelIn where
  cid : Nat
  tchk : Nat
  data : Bytes
  pidx : Nat
  ts : Nat
  deriving DecidableEq, Repr

/-- An arm in MOD: the commit that waits for the cut, the vector of the last cut and the
arm current of the last two updates (R183, R184, R167). -/
structure ArmS where
  /-- INS_OUT, NEG_OUT, TAG of a commit not yet used -/
  commit : Option (Bytes × Bytes × Nat) := none
  /-- the core cycle in which it arrived (R53, R183) -/
  commitAt : Nat := 0
  ins : Bytes := []
  neg : Bytes := []
  tag : Nat := 0
  /-- i(u) and i(u-1), in converter LSB -/
  iu : Int := 0
  ip : Int := 0
  /-- a current has been read since power-on, so that i(u-1) exists -/
  seen : Bool := false
  bad : Bool := false
  /-- the update of this period is done; the vector of this period is delivered -/
  updated : Bool := false
  delivered : Bool := false
  deriving DecidableEq, Repr

/-- A trim channel: counter and cycle index (R186) and the register state frozen at the last
cut (R189): MOD_TRIM_CTRL, PER, DUTY, MIN. -/
structure TrimS where
  armed : Bool := false
  running : Bool := false
  count : Nat := 0
  cyc : Nat := 0
  fCtrl : Nat := 0x2000
  fPer : Nat := 0x1388
  fDuty : Nat := 0
  fMin : Nat := 0x8C
  /-- writers of DUTY since the last cut: a control-engine latch, any other (R190) -/
  byCeng : Bool := false
  byOther : Bool := false
  /-- the core cycle of the last write to the channel, and what CTRL, PER, DUTY, MIN and byOther were
  before that cycle's writes: a cut of that cycle freezes these (R189) -/
  keptAt : Option Nat := none
  kept : Nat × Nat × Nat × Nat := (0, 0, 0, 0)
  keptBy : Bool := false
  /-- DUTY is among that cycle's writes -/
  keptDuty : Bool := false
  deriving DecidableEq, Repr

/-- MOD: arms, trim channels, the previous command of each cell from this device's stroke
builder (keyed 256 x string + fret), telemetry waiting for the observer. -/
structure ModS where
  arms : Sparse ArmS := []
  trims : Sparse TrimS := []
  prev : Sparse CmdRec := []
  tel : List TelIn := []
  /-- REQ_CLR has been acted on for these cells and RECOVER is being counted (R174) -/
  clrWait : List Nat := []
  /-- DIAG 0x1 goes out once in the next command to these cells (R174) -/
  diag : List Nat := []
  /-- cells whose CNOM the host has changed since their last update (R173) -/
  cnom : List Nat := []
  /-- period index of the latest observer update (R168: one in a period) -/
  obsAt : Option Nat := none
  deriving DecidableEq, Repr

/-- A pointer of a core (R225, R242); STEP is kept as its 16 bits. -/
structure Ptr where
  base : Nat := 0
  len : Nat := 0
  step : Nat := 0
  mode : Nat := 0
  ofs : Nat := 0
  deriving DecidableEq, Repr

/-- A level of the loop stack (R254): the first and last instruction of the body and the
passes left. -/
structure LoopF where
  first : Nat
  last : Nat
  left : Nat
  deriving DecidableEq, Repr

/-- The architectural state of a core's item (R225, R233). Register files list only the
registers that are not zero. -/
structure Ctx where
  g : Sparse Word := []
  v : Sparse (BitVec 128) := []
  va : Sparse (BitVec 40) := []
  sa : Sparse (BitVec 72) := []
  p : Sparse Ptr := []
  mn : Nat := 0
  mx : Nat := 0
  mni : Nat := 0
  mxi : Nat := 0
  loops : List LoopF := []
  pc : Nat := 0
  status : Word := 0x10
  fpcsr : Word := 0
  deriving DecidableEq, Repr

/-- A work item (R266) with what the scheduler keeps beside its descriptor. -/
structure Item where
  /-- the descriptor's 32 bytes with SRC as the scheduler wrote it (R267) -/
  entry : Nat := 0
  cores : Nat := 0
  arg : Nat := 0
  prio : Nat := 0
  affEn : Bool := false
  dlEn : Bool := false
  dlRel : Bool := false
  stream : Nat := 0
  src : Nat := 0
  deadline : Nat := 0
  tag : Nat := 0
  cpl : Nat := 0
  /-- D of R285, judged at acceptance -/
  dl : Nat := 0
  /-- unique number of the item, in order of acceptance -/
  uid : Nat := 0
  /-- core cycle in which it became ready, and whether AFF_WAIT has run out (R281) -/
  ready : Nat := 0
  affOver : Bool := false
  preempted : Bool := false
  /-- a cancel matched it after dispatch (R287) -/
  cancelLate : Bool := false
  /-- ring and descriptor index of a WORK SUBMIT (R337) -/
  ring : Option (Nat × Nat) := none
  /-- period-table entry that submitted it (R270) -/
  pt : Option Nat := none
  /-- its entry in its level's spill ring (R276) -/
  slot : Nat := 0
  deriving DecidableEq, Repr

/-- An item on a core with its context; `depth` levels lie below it (R261). -/
structure Running where
  item : Item
  ctx : Ctx := {}
  /-- shared-SRAM address of its descriptor's copy (R279) -/
  place : Nat := 0
  /-- the core's CYC_HI latch at its pre-emption (R233, R261) -/
  cycHi : Nat := 0
  deriving DecidableEq, Repr

/-- A transfer tag of a core's DMA channel (R256). -/
structure DmaTag where
  owner : Nat
  src : Nat
  dst : Nat
  len : Nat
  srcHost : Bool
  dstHost : Bool
  hostHi : Nat
  /-- the result once done: bytes moved, and whether the transfer completed -/
  done : Option (Nat × Bool) := none
  deriving DecidableEq, Repr

/-- What a core is doing (R277 to R280). -/
inductive CorePhase
  | run
  /-- saving the running item for an item that will be dispatched one depth higher, none where that
  item has completed undispatched meanwhile; the cycles go to the item's source (R283) -/
  | saving (next : Option Item) (src : Nat)
  /-- restoring the top of the stack; the cycles go to the source of the item that ran above it
  (R283) -/
  | restoring (src : Nat)
  deriving DecidableEq, Repr

/-- A core. `stack` holds the running item first and the pre-empted ones below it. -/
structure CoreS where
  stack : List Running := []
  phase : CorePhase := .run
  /-- CYC_HI as the last read of CYC_LO latched it (R235) -/
  cycHi : Nat := 0
  /-- transfers by 8 x owner + tag: each item has its own eight tags (R256, R261) -/
  dma : Sparse (Option DmaTag) := []
  /-- exceptions since RESET (R265) -/
  excs : Nat := 0
  /-- busy cycles, items and pre-emptions in this window (R295) -/
  busy : Nat := 0
  items : Nat := 0
  preempts : Nat := 0
  deriving DecidableEq, Repr

/-- The scheduler: hardware queues and spill rings by level, oldest first (R275). -/
structure SchedS where
  queues : Sparse (List Item) := []
  spills : Sparse (List Item) := []
  /-- index in its spill ring at which the next entry is written (R276) -/
  spillWr : Sparse Nat := []
  uid : Nat := 0
  /-- core cycles of each source in this window (R292) -/
  qcyc : Sparse Nat := []
  /-- the default completion queue holds 4,096 unread records (R291) -/
  cqFull : Bool := false
  /-- the period index at which the last window ended (R292) -/
  winAt : Option Nat := none
  /-- by lock group, 1 + the last period whose telemetry item has been submitted (R271) -/
  telAt : Sparse Nat := []
  deriving DecidableEq, Repr

/-- A descriptor fetched and not yet completed (R328, R342). -/
structure Desc where
  idx : Nat
  bytes : Bytes
  /-- handed to its engine (R331: ORDER holds it back until then) -/
  started : Bool := false
  /-- an engine has begun the work itself (COPY, READ, IMG step, SEND) -/
  busy : Bool := false
  cancelLate : Bool := false
  /-- fields set by the engine while it works: bytes moved so far -/
  aux : Nat := 0
  deriving DecidableEq, Repr

/-- A completion that waits for its turn in ring order (R324). -/
structure Cpl where
  idx : Nat
  tag : Nat
  irq : Bool
  status : Nat
  result : Nat
  flags : Nat
  counted : Bool
  deriving DecidableEq, Repr

/-- One ring: what its registers do not hold. -/
structure RingS where
  /-- index of the first descriptor not yet fetched -/
  fetch : Nat := 0
  outs : List Desc := []
  /-- completions written beyond CI -/
  doneIdx : List Nat := []
  /-- completions held for ring order -/
  held : List Cpl := []
  /-- completions gathered toward one message (R345) -/
  gathered : Nat := 0
  /-- clock of the first of them, in core cycles -/
  gatherAt : Nat := 0
  /-- the walk's PI after a walk fault (R359) -/
  walkPi : Option Nat := none
  /-- the ring's TYPE, of work that goes on after a link reset (R360) -/
  lostType : Nat := 0
  deriving DecidableEq, Repr

/-- A staged transaction (R348). `imm` waits for the first free instant. -/
structure Txn where
  ring : Nat
  idx : Nat
  /-- the list: address, mask, data, and bytes 12 to 15 -/
  entries : List (Nat × Nat × Nat × Nat) := []
  imm : Bool := false
  /-- low 32 bits of the period index whose instant applies it; none while an IMMEDIATE one is
  being validated (R350) -/
  apply : Option Nat := none
  /-- the list stands in the staging memory (R348) -/
  staged : Bool := false
  /-- list read and checked; waits for its instant -/
  valid : Bool := false
  committed : Bool := false
  cancelLate : Bool := false
  deriving DecidableEq, Repr

/-- A DEBLOCK that has written at the apply instant of this time-base cycle: a latch of the same cycle
still rejects it (R218). -/
structure DbWait where
  /-- the cycle, in nanoseconds that have passed -/
  cyc : Nat
  txn : Txn
  /-- the arms whose bit it raised, and by arm the entry that covers the bit -/
  rise : Nat
  entry : List Nat
  /-- the registers that it changed: offset, word before, word after; none where not listed -/
  regs : List (Nat × Option Word × Option Word)
  deriving DecidableEq, Repr

/-- TRIP: what the registers of TRIP do not hold (R208, R215, R218). Times are nanoseconds that have
passed, plus 1. -/
structure TripS where
  /-- by group, when its latch last set -/
  latchAt : Sparse Nat := []
  /-- by group, when a clear of it was last accepted, and whether it was latched then -/
  clrAt : Sparse (Nat × Bool) := []
  db : Option DbWait := none
  deriving DecidableEq, Repr

/-- The PCIe configuration space and the MSI-X table (R320): what in them is not fixed
(notes/assumptions/103.md). -/
structure PcieS where
  /-- bus addresses that the host has given BAR0 and BAR2 -/
  bar0 : Nat := 0
  bar2 : Nat := 0
  /-- largest payload and largest read request, in bytes -/
  payload : Nat := 128
  readReq : Nat := 512
  /-- ECRC generation and check enabled -/
  ecrcGen : Bool := false
  ecrcChk : Bool := false
  /-- uncorrectable and correctable error status of AER -/
  aerUnc : Nat := 0
  aerCor : Nat := 0
  /-- MSI-X table: by vector the message address and data; the mask bit is in HostS.unmasked -/
  table : Sparse (Nat × Nat) := []
  deriving DecidableEq, Repr

/-- HOST: rings, staging memory, MSI-X table. -/
structure HostS where
  rings : Sparse RingS := []
  txns : List Txn := []
  pcie : PcieS := {}
  /-- vectors unmasked, and vectors with their pending bit set (R345) -/
  unmasked : List Nat := []
  pendingV : List Nat := []
  /-- the link has trained once since power-on (R360) -/
  trained : Bool := false
  /-- the reset walk of this BOOT has ended (R357) -/
  walked : Bool := false
  deriving DecidableEq, Repr

/-- IOMMU translation cache (R373), newest first: leaf entries by page and directory entries
by span. -/
structure IommuS where
  leaves : List (Nat × Nat) := []
  dirs : List (Nat × Nat) := []
  /-- scope and page of each invalidation in progress (R374) -/
  inv : List (Nat × Nat) := []
  /-- host memory as a command last showed it (the model's own record, notes/assumptions/31.md) -/
  view : HostMem := {}
  deriving DecidableEq, Repr

/-- Memory control: scrub rows and the error window (R366, R367). -/
structure MemS where
  /-- next row of each class's scrubber -/
  row : Sparse Nat := []
  /-- uncorrectable errors in this window and in the one before (R402) -/
  winUe : Nat := 0
  prevUe : Nat := 0
  /-- correctable errors in this window, and whether CE_HIGH has been recorded in it -/
  winCe : Nat := 0
  winHit : Bool := false
  /-- fault-log entries that the host has not read (R378) -/
  unread : List Nat := []
  deriving DecidableEq, Repr

/-- Where a claim of ACT stands (R384). -/
inductive Claim
  | none | guard | veto | confirm
  deriving DecidableEq, Repr

/-- PAIR: what its registers do not hold (R380 to R413). -/
structure PairS where
  /-- ARM_RUN of the last applied capture, or of the FINAL one that this device has sent (R222) -/
  capRun : Nat := 0
  claim : Claim := .none
  /-- confirm has completed; the role changes at the next apply instant (R387) -/
  won : Bool := false
  /-- since the device entered READY: ACT_IN seen high, and ACT held (R388) -/
  seenHigh : Bool := false
  heldAct : Bool := false
  /-- a FINAL capture has been applied and the device claims (R413) -/
  finalClaim : Bool := false
  /-- consecutive apply instants at which ACT_IN and the partner's ACT bit disagree (R386) -/
  disagree : Nat := 0
  /-- consecutive apply instants with TAKE_OK set, and with it clear (R402) -/
  okRun : Nat := 0
  badRun : Nat := 0
  /-- mirror lanes whose MHELLO exchange is complete, by index: VERS, STRAP and PAIR_ID of the
  partner -/
  peers : Sparse (Nat × Nat × Nat) := []
  /-- the first theta after the link came UP has been used (R396) -/
  stepped : Bool := false
  /-- consecutive TSYNCs inside and outside the band (R396) -/
  inBand : Nat := 0
  outBand : Nat := 0
  /-- own TSYNCs sent lately, newest first: period index and TX in 2^-16 ns -/
  sentTs : List (Nat × Nat) := []
  /-- the partner's latest TSYNC: its PIDX, and its arrival in 2^-16 ns -/
  rxTs : Option (Nat × Nat) := none
  /-- STEPS of the partner's latest TSYNC -/
  peerSteps : Option Nat := none
  /-- telemetry CRC errors seen in reflected strokes (ERRS) -/
  errs : Nat := 0
  /-- core cycle of the latest HEALTH that reported ACT (R384) -/
  actAt : Option Nat := none
  /-- the latest HEALTH body of the partner -/
  peer : Option Bytes := none
  /-- SEQ of the next capture -/
  seq : Nat := 0
  /-- bytes of the latest capture still to leave (R399) -/
  sendLeft : Nat := 0
  /-- granules of 64 bytes written and not yet captured: by address / 64 in shared SRAM and in
  the live logic image, by offset / 64 of the gain tables, and by address / 64 of the logic
  image as of the last ended cycle (R399, R465) -/
  dirty : List Nat := []
  dirtyGt : List Nat := []
  dirtyLg : List Nat := []
  /-- every granule is dirty -/
  allDirty : Bool := true
  /-- bodies of the segments received of the capture in hand -/
  rxSegs : List Bytes := []
  /-- SEQ of a discarded capture of which segments may still come (R401) -/
  badSeq : Option Nat := none
  /-- apply instants since the latest capture was applied (R401) -/
  age : Nat := 65535
  /-- a complete capture that waits to be applied (R400, R413) -/
  ready : List Bytes := []
  /-- a capture without PARTIAL has been applied since the last RESYNC or link-up (R401) -/
  full : Bool := false
  /-- H of an acknowledged handover (R412) -/
  hoAt : Option Nat := none
  /-- a request or offer that waits for its answer, with the H of an offer (R411) -/
  asked : Option Nat := none
  /-- core cycle from which the hold-off counts (R409) -/
  holdAt : Option Nat := none
  deriving DecidableEq, Repr

/-- A control-engine slot: what its registers do not hold (R301, R304, R307, R318). Numbers
are binary32 patterns. -/
structure SlotS where
  integ : Nat := 0
  /-- the latch in its destination's format; none before the first evaluation -/
  latch : Option Nat := none
  /-- u as it was last placed in the latch -/
  held : Nat := 0
  /-- last good REF, MEAS and FF -/
  good : List Nat := [0, 0, 0]
  /-- an evaluation is due in this group period, and done -/
  due : Bool := false
  done : Bool := false
  /-- bias of an ended auto-tune, until the next evaluation -/
  resume : Option Nat := none
  deriving DecidableEq, Repr

/-- A relay auto-tune in progress (R311 to R317). -/
structure TuneS where
  slot : Nat
  entry : Nat
  /-- evaluations so far -/
  k : Nat := 0
  bias : Nat := 0
  up : Bool := true
  ePrev : Nat := 0
  /-- time of the last rising switch in evaluations, and the extremes of e since then -/
  ts : Option Nat := none
  eMax : Nat := 0
  eMin : Nat := 0
  /-- evaluations since the last switch -/
  quiet : Nat := 0
  /-- Tu and a of the cycles so far -/
  cycles : List (Nat × Nat) := []
  deriving DecidableEq, Repr

/-- CENG: slots and the auto-tune. -/
structure CengS where
  slots : Sparse SlotS := []
  tune : Option TuneS := none
  deriving DecidableEq, Repr


/-- LOGIC: what its registers and its memory do not hold (R444, R463 to R470). -/
structure LogicS where
  /-- %Q as published at the latest cycle start, bit b of %QX b (R464) -/
  qPub : Nat := 0
  /-- the logic accumulator LA and the word accumulator ACC (R444) -/
  la : Bool := false
  acc : Nat := 0
  /-- the stack, newest first: a saved LA, and whether it joins by and (R453) -/
  stack : List (Bool × Bool) := []
  /-- index of the next instruction -/
  pc : Nat := 0
  /-- a cycle has started and has not ended -/
  inCycle : Bool := false
  /-- the cycle index k (R456) -/
  k : Nat := 0
  /-- logic clocks of the cycle in progress, and of the cycle before -/
  clocks : Nat := 0
  prev : Nat := 0
  /-- the restart kind that ARMED records: true cold (R463) -/
  cold : Bool := false
  /-- bits 2 to 6 and 10 of %S at the next cycle start (R447) -/
  events : Nat := 0
  /-- scheduled starts skipped in a row, and whether the latest was (R462) -/
  skips : Nat := 0
  /-- the period index whose scheduled start has been taken, plus 1 -/
  taken : Nat := 0
  /-- the %Q of all 0 is still to be published (R464) -/
  zeroPub : Bool := false
  /-- the cycle-end copy that the last end sequence used, and the stored CRC-32 of its
  retained image (R461, R467) -/
  copy : Nat := 1
  copyCrc : Sparse Nat := []
  /-- cycle ends since the last retention point (R466) -/
  retCnt : Nat := 0
  /-- the retain-store write in progress: buffer, data, header (R466) -/
  retPend : Option (Nat × Bytes × Bytes) := none
  /-- the external retain store as this device has written it, by byte (R466) -/
  store : Sparse Byte := []
  /-- the forces in effect: image offset of a word, mask, value, in order of application
  (R469) -/
  forces : List (Nat × Nat × Nat) := []
  deriving DecidableEq, Repr

/-- SAFE: what the island's registers do not hold (R418 to R437). -/
structure SafeS where
  /-- VDDSAFE is in range -/
  vdd : Bool := false
  /-- a self-test runs -/
  testing : Bool := false
  /-- the active image by BAR0 offset, at the registers' reset values where not listed, the
  CRC stored at commit, and whether there has been a commit (R419, R421) -/
  active : Sparse Word := []
  crc : Nat := 0
  committed : Bool := false
  /-- debounced levels of the contacts A and B, bit i for input i (R423) -/
  ca : Nat := 0
  cb : Nat := 0
  /-- inputs in FAULT (R424) -/
  faults : Nat := 0
  /-- reset inputs: core cycle at which both contacts became active, and for how many cycles
  they were so together (R425) -/
  pressAt : Sparse Nat := []
  pressLen : Sparse Nat := []
  /-- a reset request of an input, or of the host, waits for the next evaluation (R427) -/
  reqIn : Bool := false
  reqHost : Bool := false
  /-- a COMMIT or an accepted FRESET since the last evaluation (R428) -/
  fresh : Bool := false
  /-- core cycle since which the conditions of SAP have held (R433) -/
  sapFrom : Option Nat := none
  /-- outputs energised, readbacks of the last evaluation, outputs with FLT (R434, R436) -/
  drive : Nat := 0
  rba : Nat := 0
  rbb : Nat := 0
  flt : Nat := 0
  /-- core cycle of the last change of drive, and consecutive evaluations with a bad readback -/
  driveAt : Sparse Nat := []
  badRun : Sparse Nat := []
  /-- the watchdog: core cycle of the last token, and tokens in a row inside the window -/
  wdLast : Option Nat := none
  wdGood : Nat := 0
  deriving DecidableEq, Repr


/-- ADC: a sample whose result is still to come (R490, R499, R501). -/
structure Sample where
  /-- the sampling instant, in station time in units of 2^-16 ns -/
  at' : Nat
  /-- the input converted -/
  src : Nat
  /-- outside the 100 ns after a change of MUX -/
  far : Bool
  /-- REF_OK was 0, and CAL_STALE was 1 -/
  unset : Bool
  stale : Bool
  /-- the factor words of the five slices -/
  facts : List Nat
  deriving DecidableEq, Repr

/-- ADC: what the registers of a converter do not hold (R490 to R497). Instants are station
time in units of 2^-16 ns. -/
structure AdcS where
  /-- the latest sampling instant -/
  last : Option Nat := none
  /-- samples whose result is still to come, oldest first -/
  flight : List Sample := []
  /-- the latest results, newest first: instant and DATA word -/
  hist : List (Nat × Nat) := []
  /-- the latest change of MUX (R490) -/
  muxAt : Option Nat := none
  /-- rotations of the spare slice since CAL_STALE last set (R496) -/
  rot : Nat := 0
  /-- nanoseconds that had passed at the latest START that took a sample (R493) -/
  startAt : Option Nat := none
  deriving DecidableEq, Repr

/-- VSP: a segment beside its registers (R473, R480, R482, R485). -/
structure SegS where
  /-- samples written since it last became ARMED -/
  cnt : Nat := 0
  /-- station time of tick 0; with TBASE 1 known once tick 0 has been taken -/
  first : Option Nat := none
  /-- period index of the next tick with TBASE 1 -/
  nextP : Nat := 0
  /-- the trigger: its instant in 2^-16 ns, and the index of the trigger sample -/
  trig : Option (Nat × Nat) := none
  tsrc : Nat := 0
  /-- nanoseconds that had passed when it last became ARMED, and when its trigger was taken
  (R483) -/
  armAt : Option Nat := none
  latchAt : Option Nat := none
  interp : Bool := false
  /-- period index at the trigger instant -/
  pidx : Nat := 0
  /-- PRE and POST of the closed record -/
  pre : Nat := 0
  post : Nat := 0
  trunc : Bool := false
  /-- records closed -/
  seq : Nat := 0
  /-- the header of the closed record -/
  hdr : Bytes := []
  deriving DecidableEq, Repr

/-- A trigger unit (R477, R478); instants in 2^-16 ns. -/
structure TuS where
  /-- 0 LOW, 1 MID, 2 HIGH; none before the first value -/
  level : Option Nat := none
  /-- the first enter HIGH since the latest enter LOW -/
  high : Option Nat := none
  /-- the latest leave LOW with no enter HIGH and no enter LOW since -/
  left : Option Nat := none
  /-- triggers detected and not yet fired, oldest first: instant, and whether from the TDC -/
  fires : List (Nat × Bool) := []
  /-- the timeout of this enter HIGH has fired -/
  timed : Bool := false
  deriving DecidableEq, Repr

/-- VSP: segments, units, and what its sources last delivered. -/
structure VspS where
  segs : Sparse SegS := []
  tus : Sparse TuS := []
  /-- arm aggregates of the latest observer update, by 6 * arm + SEL: numerator and
  denominator, 0 where no cell is in OK (R472) -/
  arms : Sparse (Int × Nat) := []
  /-- Sampled Values elements, by 16 * subscription + element: value, and whether valid -/
  sv : Sparse (Int × Bool) := []
  deriving DecidableEq, Repr

/-- An entry of a CAN transmit queue (R534): its submission, identifier word (ID, IDE, RTR),
format (DLC, FDF, BRS), and data. -/
structure CanTx where
  /-- ring and descriptor index; none for a frame of the logic engine's publish -/
  ring : Option (Nat × Nat)
  id : Nat
  fmt : Nat
  data : Bytes
  /-- a cancel found its start of frame on the bus (R537) -/
  cancelled : Bool := false
  deriving DecidableEq, Repr

/-- CAN: what the registers of a controller do not hold (R534, R535, R539, R541). -/
structure CanS where
  queue : List CanTx := []
  /-- the SYNC frame that waits in its slot: its identifier word -/
  sync : Option Nat := none
  /-- EN has been written 0 with a frame in progress, at whose end the controller goes off -/
  ending : Bool := false
  /-- the controller was bus-off when it went off the bus (R538) -/
  wasOff : Bool := false
  /-- consecutive acknowledgement errors -/
  acks : Nat := 0
  /-- the receive FIFO, oldest first: record headers with their data -/
  fifo : List Bytes := []
  /-- logic mailboxes by filter -/
  mail : Sparse Bytes := []
  deriving DecidableEq, Repr

/-- A frame that waits on an Ethernet port (R507): its submission, bytes, and the identifier of
a stamp that is asked for. -/
structure EthTx where
  ring : Nat
  idx : Nat
  frame : Bytes
  tsid : Option Nat
  deriving DecidableEq, Repr

/-- A stamp that found a queue full, kept for a read of the same cycle (R515): nanoseconds that
had passed, identifier, stamp, and TSQ_OVF and ETH_CNT_TSQOVF as they were. -/
structure TsqLost where
  cyc : Nat
  tsid : Nat
  stamp : Nat
  ovf : Nat
  cnt : Nat
  deriving DecidableEq, Repr

/-- ETH: what its registers do not hold. -/
structure EthS where
  /-- frames that wait, by port, oldest first -/
  tx : Sparse (List EthTx) := []
  /-- transmit-timestamp queues by port, oldest first: identifier, and stamp in 2^-16 ns
  (R514) -/
  tsq : Sparse (List (Nat × Nat)) := []
  lost : Sparse (Option TsqLost) := []
  /-- nanoseconds that had passed at the latest pulse of PPS_OUT (R521) -/
  ppsAt : Option Nat := none
  /-- the same at the latest write of an adjustment register (R520) -/
  adjAt : Option Nat := none
  /-- the same at the latest accepted message of a subscription, 32 + i for SV i, and its
  timeAllowedToLive in ms (R527) -/
  accAt : Sparse (Option (Nat × Nat)) := []
  /-- the PPS_IN stamp has not been read (R522) -/
  ppsUnread : Bool := false
  /-- the same as ppsAt for the latest rising edge of PPS_IN that was stamped (R522) -/
  ppsInAt : Option Nat := none
  deriving DecidableEq, Repr


/-- The boot flash, the OTP key slots and the image operation in progress (R550, R551, R556,
R558). Flash and OTP keep their content over every reset and over power-off. -/
structure ImgS where
  /-- flash bytes by offset; an unlisted byte is erased and reads 0xFF -/
  flash : Sparse Byte := []
  /-- hashes of the key slots -/
  hash : Sparse Bytes := []
  /-- PROG and REVOKED of the key slots, bit k for slot k -/
  prog : Nat := 0
  revoked : Nat := 0
  /-- an OTP PROGRAM in progress: the slot and the hash to program -/
  otp : Option (Nat × Bytes) := none
  /-- slots with a VERIFY completed DONE since their last ERASE or PROGRAM: bit 0 A, bit 1 B -/
  verified : Nat := 0
  deriving DecidableEq, Repr

/-- The state of the part. Default values are the values at power-on reset. -/
structure State where
  /-- registers by BAR0 offset; per-origin copies of a register lie 2^32 apart (R58). An
  unlisted register holds the reset value of its table. -/
  regs : Sparse Word := []
  /-- shared SRAM, core data and instruction memories and Vesper memory by BAR0 offset
  (R361); an unlisted byte reads 0 (notes/assumptions/3.md) -/
  mem : List Host.Cell := []
  /-- syndromes of memory words whose stored check bits do not fit their data, by word
  number BAR0 offset / 4 (R362, R363) -/
  synd : Sparse Nat := []
  straps : Straps := {}
  dev : DevS := {}
  time : TimeS := {}
  lanes : Sparse LaneS := []
  strs : Sparse StrS := []
  cells : Sparse CellS := []
  modu : ModS := {}
  ceng : CengS := {}
  logic : LogicS := {}
  trip : TripS := {}
  safe : SafeS := {}
  adc : Sparse AdcS := []
  vsp : VspS := {}
  eth : EthS := {}
  cans : Sparse CanS := []
  cores : Sparse CoreS := []
  sched : SchedS := {}
  host : HostS := {}
  iommu : IommuS := {}
  pair : PairS := {}
  img : ImgS := {}
  memc : MemS := {}
  /-- everything sent out of the part so far, oldest first (the model's own record) -/
  out : List Out := []
  /-- nanoseconds that have passed, through steps of station time and resets: the clock by which
  the cells, which no device reset reaches, count (the model's own record) -/
  elapsed : Nat := 0
  /-- free values taken so far (the model's own counter, notes/assumptions/2.md) -/
  free : Nat := 0
  /-- commands that wait, first in first out -/
  pending : List Instr := []
  deriving DecidableEq, Repr

/-- Faults: none. Every command of the part either acts or has no effect, so no meaning ends
in a fault. The one constructor names a stop that no command raises; it is kept so that the
type is inhabited. Safe. -/
inductive Fault
  /-- raised by nothing; safe -/
  | none
  deriving DecidableEq, Repr

/-- Refusals. -/
inductive Refusal
  /-- a command whose meaning is not written yet; safe -/
  | notModelled (mnemonic : String)
  /-- an operand names a lane, string, core, ring or other unit that does not exist: no
  such command can reach the part (WellFormed.lean). Raised by every meaning; safe. -/
  | illFormed
  deriving DecidableEq, Repr

/-- The part right after power-on: every register at its reset value, memories clear,
nothing queued; the device is in RESET until RESET_RELEASE (R20, R545). -/
def State.reset : State := {}

end Sys2Proof.Machine
end

