-- ==== Sys2Proof/Machine/RegMap.lean ====
section
/-! DEFINITION. A handle for every register and every register field of the manual's
register tables: the register's BAR0 offset, its reset value, the field's lowest bit and its
width. `R.NAME` is a whole register, `F.NAME_FIELD` one field; an indexed register takes its
indices in the order of the manual. -/

namespace Sys2Proof.Machine

-- spec/00_scope.md
def R.DEV_BLK_ID : Fld := ⟨0x0, 0x20564544, 0, 32⟩
def F.DEV_BLK_ID_ID : Fld := ⟨0x0, 0x20564544, 0, 32⟩
def R.DEV_BLK_VER : Fld := ⟨0x4, 0x10000, 0, 32⟩
def F.DEV_BLK_VER_MAJOR : Fld := ⟨0x4, 0x10000, 16, 16⟩
def F.DEV_BLK_VER_MINOR : Fld := ⟨0x4, 0x10000, 8, 8⟩
def F.DEV_BLK_VER_PATCH : Fld := ⟨0x4, 0x10000, 0, 8⟩
def R.TIME_BLK_ID : Fld := ⟨0x10000, 0x454d4954, 0, 32⟩
def F.TIME_BLK_ID_ID : Fld := ⟨0x10000, 0x454d4954, 0, 32⟩
def R.TIME_BLK_VER : Fld := ⟨0x10004, 0x10000, 0, 32⟩
def F.TIME_BLK_VER_MAJOR : Fld := ⟨0x10004, 0x10000, 16, 16⟩
def F.TIME_BLK_VER_MINOR : Fld := ⟨0x10004, 0x10000, 8, 8⟩
def F.TIME_BLK_VER_PATCH : Fld := ⟨0x10004, 0x10000, 0, 8⟩
def R.HOST_BLK_ID : Fld := ⟨0x20000, 0x54534f48, 0, 32⟩
def F.HOST_BLK_ID_ID : Fld := ⟨0x20000, 0x54534f48, 0, 32⟩
def R.HOST_BLK_VER : Fld := ⟨0x20004, 0x10000, 0, 32⟩
def F.HOST_BLK_VER_MAJOR : Fld := ⟨0x20004, 0x10000, 16, 16⟩
def F.HOST_BLK_VER_MINOR : Fld := ⟨0x20004, 0x10000, 8, 8⟩
def F.HOST_BLK_VER_PATCH : Fld := ⟨0x20004, 0x10000, 0, 8⟩
def R.SCHED_BLK_ID : Fld := ⟨0x30000, 0x44484353, 0, 32⟩
def F.SCHED_BLK_ID_ID : Fld := ⟨0x30000, 0x44484353, 0, 32⟩
def R.SCHED_BLK_VER : Fld := ⟨0x30004, 0x10000, 0, 32⟩
def F.SCHED_BLK_VER_MAJOR : Fld := ⟨0x30004, 0x10000, 16, 16⟩
def F.SCHED_BLK_VER_MINOR : Fld := ⟨0x30004, 0x10000, 8, 8⟩
def F.SCHED_BLK_VER_PATCH : Fld := ⟨0x30004, 0x10000, 0, 8⟩
def R.CENG_BLK_ID : Fld := ⟨0x40000, 0x474e4543, 0, 32⟩
def F.CENG_BLK_ID_ID : Fld := ⟨0x40000, 0x474e4543, 0, 32⟩
def R.CENG_BLK_VER : Fld := ⟨0x40004, 0x10000, 0, 32⟩
def F.CENG_BLK_VER_MAJOR : Fld := ⟨0x40004, 0x10000, 16, 16⟩
def F.CENG_BLK_VER_MINOR : Fld := ⟨0x40004, 0x10000, 8, 8⟩
def F.CENG_BLK_VER_PATCH : Fld := ⟨0x40004, 0x10000, 0, 8⟩
def R.MOD_BLK_ID : Fld := ⟨0x50000, 0x20444f4d, 0, 32⟩
def F.MOD_BLK_ID_ID : Fld := ⟨0x50000, 0x20444f4d, 0, 32⟩
def R.MOD_BLK_VER : Fld := ⟨0x50004, 0x10000, 0, 32⟩
def F.MOD_BLK_VER_MAJOR : Fld := ⟨0x50004, 0x10000, 16, 16⟩
def F.MOD_BLK_VER_MINOR : Fld := ⟨0x50004, 0x10000, 8, 8⟩
def F.MOD_BLK_VER_PATCH : Fld := ⟨0x50004, 0x10000, 0, 8⟩
def R.TRIP_BLK_ID : Fld := ⟨0x60000, 0x50495254, 0, 32⟩
def F.TRIP_BLK_ID_ID : Fld := ⟨0x60000, 0x50495254, 0, 32⟩
def R.TRIP_BLK_VER : Fld := ⟨0x60004, 0x10000, 0, 32⟩
def F.TRIP_BLK_VER_MAJOR : Fld := ⟨0x60004, 0x10000, 16, 16⟩
def F.TRIP_BLK_VER_MINOR : Fld := ⟨0x60004, 0x10000, 8, 8⟩
def F.TRIP_BLK_VER_PATCH : Fld := ⟨0x60004, 0x10000, 0, 8⟩
def R.SAFE_BLK_ID : Fld := ⟨0x70000, 0x45464153, 0, 32⟩
def F.SAFE_BLK_ID_ID : Fld := ⟨0x70000, 0x45464153, 0, 32⟩
def R.SAFE_BLK_VER : Fld := ⟨0x70004, 0x10000, 0, 32⟩
def F.SAFE_BLK_VER_MAJOR : Fld := ⟨0x70004, 0x10000, 16, 16⟩
def F.SAFE_BLK_VER_MINOR : Fld := ⟨0x70004, 0x10000, 8, 8⟩
def F.SAFE_BLK_VER_PATCH : Fld := ⟨0x70004, 0x10000, 0, 8⟩
def R.LOGIC_BLK_ID : Fld := ⟨0x80000, 0x43474f4c, 0, 32⟩
def F.LOGIC_BLK_ID_ID : Fld := ⟨0x80000, 0x43474f4c, 0, 32⟩
def R.LOGIC_BLK_VER : Fld := ⟨0x80004, 0x10000, 0, 32⟩
def F.LOGIC_BLK_VER_MAJOR : Fld := ⟨0x80004, 0x10000, 16, 16⟩
def F.LOGIC_BLK_VER_MINOR : Fld := ⟨0x80004, 0x10000, 8, 8⟩
def F.LOGIC_BLK_VER_PATCH : Fld := ⟨0x80004, 0x10000, 0, 8⟩
def R.VSP_BLK_ID : Fld := ⟨0x90000, 0x20505356, 0, 32⟩
def F.VSP_BLK_ID_ID : Fld := ⟨0x90000, 0x20505356, 0, 32⟩
def R.VSP_BLK_VER : Fld := ⟨0x90004, 0x10000, 0, 32⟩
def F.VSP_BLK_VER_MAJOR : Fld := ⟨0x90004, 0x10000, 16, 16⟩
def F.VSP_BLK_VER_MINOR : Fld := ⟨0x90004, 0x10000, 8, 8⟩
def F.VSP_BLK_VER_PATCH : Fld := ⟨0x90004, 0x10000, 0, 8⟩
def R.ADC_BLK_ID : Fld := ⟨0xa0000, 0x20434441, 0, 32⟩
def F.ADC_BLK_ID_ID : Fld := ⟨0xa0000, 0x20434441, 0, 32⟩
def R.ADC_BLK_VER : Fld := ⟨0xa0004, 0x10000, 0, 32⟩
def F.ADC_BLK_VER_MAJOR : Fld := ⟨0xa0004, 0x10000, 16, 16⟩
def F.ADC_BLK_VER_MINOR : Fld := ⟨0xa0004, 0x10000, 8, 8⟩
def F.ADC_BLK_VER_PATCH : Fld := ⟨0xa0004, 0x10000, 0, 8⟩
def R.ETH_BLK_ID : Fld := ⟨0xb0000, 0x20485445, 0, 32⟩
def F.ETH_BLK_ID_ID : Fld := ⟨0xb0000, 0x20485445, 0, 32⟩
def R.ETH_BLK_VER : Fld := ⟨0xb0004, 0x10000, 0, 32⟩
def F.ETH_BLK_VER_MAJOR : Fld := ⟨0xb0004, 0x10000, 16, 16⟩
def F.ETH_BLK_VER_MINOR : Fld := ⟨0xb0004, 0x10000, 8, 8⟩
def F.ETH_BLK_VER_PATCH : Fld := ⟨0xb0004, 0x10000, 0, 8⟩
def R.CAN_BLK_ID : Fld := ⟨0xc0000, 0x204e4143, 0, 32⟩
def F.CAN_BLK_ID_ID : Fld := ⟨0xc0000, 0x204e4143, 0, 32⟩
def R.CAN_BLK_VER : Fld := ⟨0xc0004, 0x10000, 0, 32⟩
def F.CAN_BLK_VER_MAJOR : Fld := ⟨0xc0004, 0x10000, 16, 16⟩
def F.CAN_BLK_VER_MINOR : Fld := ⟨0xc0004, 0x10000, 8, 8⟩
def F.CAN_BLK_VER_PATCH : Fld := ⟨0xc0004, 0x10000, 0, 8⟩
def R.PAIR_BLK_ID : Fld := ⟨0xd0000, 0x52494150, 0, 32⟩
def F.PAIR_BLK_ID_ID : Fld := ⟨0xd0000, 0x52494150, 0, 32⟩
def R.PAIR_BLK_VER : Fld := ⟨0xd0004, 0x10000, 0, 32⟩
def F.PAIR_BLK_VER_MAJOR : Fld := ⟨0xd0004, 0x10000, 16, 16⟩
def F.PAIR_BLK_VER_MINOR : Fld := ⟨0xd0004, 0x10000, 8, 8⟩
def F.PAIR_BLK_VER_PATCH : Fld := ⟨0xd0004, 0x10000, 0, 8⟩
def R.MEM_BLK_ID : Fld := ⟨0xe0000, 0x204d454d, 0, 32⟩
def F.MEM_BLK_ID_ID : Fld := ⟨0xe0000, 0x204d454d, 0, 32⟩
def R.MEM_BLK_VER : Fld := ⟨0xe0004, 0x10000, 0, 32⟩
def F.MEM_BLK_VER_MAJOR : Fld := ⟨0xe0004, 0x10000, 16, 16⟩
def F.MEM_BLK_VER_MINOR : Fld := ⟨0xe0004, 0x10000, 8, 8⟩
def F.MEM_BLK_VER_PATCH : Fld := ⟨0xe0004, 0x10000, 0, 8⟩
def R.LANE_BLK_ID (i : Nat) : Fld := ⟨0x100000 + 0x1000 * i, 0x454e414c, 0, 32⟩
def F.LANE_BLK_ID_ID (i : Nat) : Fld := ⟨0x100000 + 0x1000 * i, 0x454e414c, 0, 32⟩
def R.LANE_BLK_VER (i : Nat) : Fld := ⟨0x100004 + 0x1000 * i, 0x10000, 0, 32⟩
def F.LANE_BLK_VER_MAJOR (i : Nat) : Fld := ⟨0x100004 + 0x1000 * i, 0x10000, 16, 16⟩
def F.LANE_BLK_VER_MINOR (i : Nat) : Fld := ⟨0x100004 + 0x1000 * i, 0x10000, 8, 8⟩
def F.LANE_BLK_VER_PATCH (i : Nat) : Fld := ⟨0x100004 + 0x1000 * i, 0x10000, 0, 8⟩
def R.STR_BLK_ID (i : Nat) : Fld := ⟨0x200000 + 0x2000 * i, 0x20525453, 0, 32⟩
def F.STR_BLK_ID_ID (i : Nat) : Fld := ⟨0x200000 + 0x2000 * i, 0x20525453, 0, 32⟩
def R.STR_BLK_VER (i : Nat) : Fld := ⟨0x200004 + 0x2000 * i, 0x10000, 0, 32⟩
def F.STR_BLK_VER_MAJOR (i : Nat) : Fld := ⟨0x200004 + 0x2000 * i, 0x10000, 16, 16⟩
def F.STR_BLK_VER_MINOR (i : Nat) : Fld := ⟨0x200004 + 0x2000 * i, 0x10000, 8, 8⟩
def F.STR_BLK_VER_PATCH (i : Nat) : Fld := ⟨0x200004 + 0x2000 * i, 0x10000, 0, 8⟩

-- spec/01_station_view.md
def R.DEV_STATE : Fld := ⟨0x8, 0x1, 0, 32⟩
def F.DEV_STATE_STATE : Fld := ⟨0x8, 0x1, 0, 3⟩
def F.DEV_STATE_PREV : Fld := ⟨0x8, 0x1, 3, 3⟩
def F.DEV_STATE_REASON : Fld := ⟨0x8, 0x1, 8, 8⟩
def F.DEV_STATE_RUN_PEND : Fld := ⟨0x8, 0x1, 16, 1⟩
def F.DEV_STATE_CMD_REJ : Fld := ⟨0x8, 0x1, 17, 1⟩
def F.DEV_STATE_REJ : Fld := ⟨0x8, 0x1, 18, 3⟩
def R.DEV_CMD : Fld := ⟨0xc, 0x0, 0, 32⟩
def F.DEV_CMD_CMD : Fld := ⟨0xc, 0x0, 0, 4⟩
def R.DEV_RUN_AT : Fld := ⟨0x10, 0x0, 0, 32⟩
def F.DEV_RUN_AT_PERIOD : Fld := ⟨0x10, 0x0, 0, 32⟩

-- spec/02_period_and_station_time.md
def R.TIME_CTRL : Fld := ⟨0x10008, 0x4, 0, 32⟩
def F.TIME_CTRL_PEN : Fld := ⟨0x10008, 0x4, 0, 1⟩
def F.TIME_CTRL_REFSEL : Fld := ⟨0x10008, 0x4, 1, 1⟩
def F.TIME_CTRL_AUTOSW : Fld := ⟨0x10008, 0x4, 2, 1⟩
def R.TIME_STATUS : Fld := ⟨0x1000c, 0x0, 0, 32⟩
def F.TIME_STATUS_REF_A_OK : Fld := ⟨0x1000c, 0x0, 0, 1⟩
def F.TIME_STATUS_REF_B_OK : Fld := ⟨0x1000c, 0x0, 1, 1⟩
def F.TIME_STATUS_REF_ACT : Fld := ⟨0x1000c, 0x0, 2, 1⟩
def F.TIME_STATUS_PLL_LOCK : Fld := ⟨0x1000c, 0x0, 3, 1⟩
def F.TIME_STATUS_REF_NONE : Fld := ⟨0x1000c, 0x0, 4, 1⟩
def F.TIME_STATUS_PE_RUN : Fld := ⟨0x1000c, 0x0, 5, 1⟩
def F.TIME_STATUS_STEP_PEND : Fld := ⟨0x1000c, 0x0, 6, 1⟩
def F.TIME_STATUS_REF_SW : Fld := ⟨0x1000c, 0x0, 7, 1⟩
def R.TIME_PERIOD : Fld := ⟨0x10010, 0x1f4, 0, 32⟩
def F.TIME_PERIOD_STEPS : Fld := ⟨0x10010, 0x1f4, 0, 13⟩
def R.TIME_MOD_OFS : Fld := ⟨0x10014, 0x12c00c8, 0, 32⟩
def F.TIME_MOD_OFS_OBS : Fld := ⟨0x10014, 0x12c00c8, 0, 16⟩
def F.TIME_MOD_OFS_VEC : Fld := ⟨0x10014, 0x12c00c8, 16, 16⟩
def R.TIME_SNAP : Fld := ⟨0x10020, 0x0, 0, 32⟩
def F.TIME_SNAP_TAKE : Fld := ⟨0x10020, 0x0, 0, 1⟩
def R.TIME_SNAP_FRAC : Fld := ⟨0x10024, 0x0, 0, 32⟩
def F.TIME_SNAP_FRAC_FRAC : Fld := ⟨0x10024, 0x0, 0, 16⟩
def R.TIME_SNAP_NS : Fld := ⟨0x10028, 0x0, 0, 32⟩
def F.TIME_SNAP_NS_NS : Fld := ⟨0x10028, 0x0, 0, 30⟩
def R.TIME_SNAP_SEC_LO : Fld := ⟨0x1002c, 0x0, 0, 32⟩
def F.TIME_SNAP_SEC_LO_SEC : Fld := ⟨0x1002c, 0x0, 0, 32⟩
def R.TIME_SNAP_SEC_HI : Fld := ⟨0x10030, 0x0, 0, 32⟩
def F.TIME_SNAP_SEC_HI_SEC : Fld := ⟨0x10030, 0x0, 0, 32⟩
def R.TIME_SNAP_PIDX_LO : Fld := ⟨0x10034, 0x0, 0, 32⟩
def F.TIME_SNAP_PIDX_LO_PIDX : Fld := ⟨0x10034, 0x0, 0, 32⟩
def R.TIME_SNAP_PIDX_HI : Fld := ⟨0x10038, 0x0, 0, 32⟩
def F.TIME_SNAP_PIDX_HI_PIDX : Fld := ⟨0x10038, 0x0, 0, 32⟩
def R.TIME_SNAP_POFS : Fld := ⟨0x1003c, 0x0, 0, 32⟩
def F.TIME_SNAP_POFS_POFS : Fld := ⟨0x1003c, 0x0, 0, 16⟩
def F.TIME_SNAP_POFS_NOPER : Fld := ⟨0x1003c, 0x0, 16, 1⟩
def R.TIME_LATE : Fld := ⟨0x10040, 0x0, 0, 32⟩
def F.TIME_LATE_ARM_LATE : Fld := ⟨0x10040, 0x0, 0, 6⟩
def F.TIME_LATE_CENG_LATE : Fld := ⟨0x10040, 0x0, 6, 8⟩
def F.TIME_LATE_OVERLAP : Fld := ⟨0x10040, 0x0, 14, 1⟩
def R.TIME_CNT_CLR : Fld := ⟨0x10044, 0x0, 0, 32⟩
def F.TIME_CNT_CLR_CLR : Fld := ⟨0x10044, 0x0, 0, 1⟩
def R.TIME_LATE_CNT (i : Nat) : Fld := ⟨0x10048 + 0x4 * i, 0x0, 0, 32⟩
def F.TIME_LATE_CNT_COUNT (i : Nat) : Fld := ⟨0x10048 + 0x4 * i, 0x0, 0, 32⟩
def R.TIME_CENG_LATE_CNT : Fld := ⟨0x10060, 0x0, 0, 32⟩
def F.TIME_CENG_LATE_CNT_COUNT : Fld := ⟨0x10060, 0x0, 0, 32⟩
def R.TIME_CHK : Fld := ⟨0x10064, 0x0, 0, 32⟩
def F.TIME_CHK_CODE : Fld := ⟨0x10064, 0x0, 0, 4⟩
def F.TIME_CHK_GROUP : Fld := ⟨0x10064, 0x0, 4, 3⟩
def R.TIME_TW_ADDR : Fld := ⟨0x10080, 0x0, 0, 32⟩
def F.TIME_TW_ADDR_WORD : Fld := ⟨0x10080, 0x0, 2, 22⟩
def R.TIME_TW_DATA : Fld := ⟨0x10084, 0x0, 0, 32⟩
def F.TIME_TW_DATA_DATA : Fld := ⟨0x10084, 0x0, 0, 32⟩
def R.TIME_TW_MASK : Fld := ⟨0x10088, 0xffffffff, 0, 32⟩
def F.TIME_TW_MASK_MASK : Fld := ⟨0x10088, 0xffffffff, 0, 32⟩
def R.TIME_TW_NS : Fld := ⟨0x1008c, 0x0, 0, 32⟩
def F.TIME_TW_NS_NS : Fld := ⟨0x1008c, 0x0, 0, 30⟩
def R.TIME_TW_SEC : Fld := ⟨0x10090, 0x0, 0, 32⟩
def F.TIME_TW_SEC_SEC : Fld := ⟨0x10090, 0x0, 0, 32⟩
def R.TIME_TW_PUSH : Fld := ⟨0x10094, 0x0, 0, 32⟩
def F.TIME_TW_PUSH_TAG : Fld := ⟨0x10094, 0x0, 0, 16⟩
def R.TIME_TW_STAT : Fld := ⟨0x10098, 0x0, 0, 32⟩
def F.TIME_TW_STAT_DEPTH : Fld := ⟨0x10098, 0x0, 0, 9⟩
def F.TIME_TW_STAT_LAST : Fld := ⟨0x10098, 0x0, 9, 2⟩
def F.TIME_TW_STAT_REJ : Fld := ⟨0x10098, 0x0, 11, 1⟩
def F.TIME_TW_STAT_STEP_FIRED : Fld := ⟨0x10098, 0x0, 12, 1⟩
def F.TIME_TW_STAT_CANCEL_LATE : Fld := ⟨0x10098, 0x0, 13, 1⟩
def F.TIME_TW_STAT_CANCEL_MISS : Fld := ⟨0x10098, 0x0, 14, 1⟩
def R.TIME_TW_CANCEL : Fld := ⟨0x1009c, 0x0, 0, 32⟩
def F.TIME_TW_CANCEL_TAG : Fld := ⟨0x1009c, 0x0, 0, 16⟩
def R.TIME_LG_CFG (i : Nat) : Fld := ⟨0x10100 + 0x20 * i, 0x2, 0, 32⟩
def F.TIME_LG_CFG_EN (i : Nat) : Fld := ⟨0x10100 + 0x20 * i, 0x2, 0, 1⟩
def F.TIME_LG_CFG_DIV (i : Nat) : Fld := ⟨0x10100 + 0x20 * i, 0x2, 1, 7⟩
def R.TIME_LG_OFS0 (i : Nat) : Fld := ⟨0x10104 + 0x20 * i, 0x780000, 0, 32⟩
def F.TIME_LG_OFS0_START_OFS (i : Nat) : Fld := ⟨0x10104 + 0x20 * i, 0x780000, 0, 16⟩
def F.TIME_LG_OFS0_EVAL_OFS (i : Nat) : Fld := ⟨0x10104 + 0x20 * i, 0x780000, 16, 16⟩
def R.TIME_LG_OFS1 (i : Nat) : Fld := ⟨0x10108 + 0x20 * i, 0x3e80384, 0, 32⟩
def F.TIME_LG_OFS1_CUT_OFS (i : Nat) : Fld := ⟨0x10108 + 0x20 * i, 0x3e80384, 0, 16⟩
def F.TIME_LG_OFS1_LAUNCH_OFS (i : Nat) : Fld := ⟨0x10108 + 0x20 * i, 0x3e80384, 16, 16⟩
def R.TIME_LG_STRA (i : Nat) : Fld := ⟨0x1010c + 0x20 * i, 0x0, 0, 32⟩
def F.TIME_LG_STRA_STR (i : Nat) : Fld := ⟨0x1010c + 0x20 * i, 0x0, 0, 32⟩
def R.TIME_LG_STRB (i : Nat) : Fld := ⟨0x10110 + 0x20 * i, 0x0, 0, 32⟩
def F.TIME_LG_STRB_STR (i : Nat) : Fld := ⟨0x10110 + 0x20 * i, 0x0, 0, 12⟩
def R.TIME_LG_CV (i : Nat) : Fld := ⟨0x10114 + 0x20 * i, 0x0, 0, 32⟩
def F.TIME_LG_CV_CV (i : Nat) : Fld := ⟨0x10114 + 0x20 * i, 0x0, 0, 8⟩

-- spec/03_lanes.md
def R.LANE_CFG (i : Nat) : Fld := ⟨0x100008 + 0x1000 * i, 0x0, 0, 32⟩
def F.LANE_CFG_ROLE (i : Nat) : Fld := ⟨0x100008 + 0x1000 * i, 0x0, 0, 2⟩
def F.LANE_CFG_RATE (i : Nat) : Fld := ⟨0x100008 + 0x1000 * i, 0x0, 2, 2⟩
def F.LANE_CFG_INDEX (i : Nat) : Fld := ⟨0x100008 + 0x1000 * i, 0x0, 4, 6⟩
def R.LANE_CTRL (i : Nat) : Fld := ⟨0x10000c + 0x1000 * i, 0x2, 0, 32⟩
def F.LANE_CTRL_TRAIN (i : Nat) : Fld := ⟨0x10000c + 0x1000 * i, 0x2, 0, 1⟩
def F.LANE_CTRL_ADAPT_EN (i : Nat) : Fld := ⟨0x10000c + 0x1000 * i, 0x2, 1, 1⟩
def F.LANE_CTRL_GUARD_FREEZE (i : Nat) : Fld := ⟨0x10000c + 0x1000 * i, 0x2, 2, 1⟩
def F.LANE_CTRL_LOOP (i : Nat) : Fld := ⟨0x10000c + 0x1000 * i, 0x2, 3, 2⟩
def R.LANE_TXEQ (i : Nat) : Fld := ⟨0x100010 + 0x1000 * i, 0x1008, 0, 32⟩
def F.LANE_TXEQ_SWING (i : Nat) : Fld := ⟨0x100010 + 0x1000 * i, 0x1008, 0, 4⟩
def F.LANE_TXEQ_PRE (i : Nat) : Fld := ⟨0x100010 + 0x1000 * i, 0x1008, 4, 5⟩
def F.LANE_TXEQ_POST (i : Nat) : Fld := ⟨0x100010 + 0x1000 * i, 0x1008, 9, 5⟩
def R.LANE_RXEQ (i : Nat) : Fld := ⟨0x100014 + 0x1000 * i, 0x84010, 0, 32⟩
def F.LANE_RXEQ_CTLE_FIX (i : Nat) : Fld := ⟨0x100014 + 0x1000 * i, 0x84010, 0, 1⟩
def F.LANE_RXEQ_CTLE_SET (i : Nat) : Fld := ⟨0x100014 + 0x1000 * i, 0x84010, 1, 4⟩
def F.LANE_RXEQ_CTLE_CUR (i : Nat) : Fld := ⟨0x100014 + 0x1000 * i, 0x84010, 5, 4⟩
def F.LANE_RXEQ_CTLE_SNAP (i : Nat) : Fld := ⟨0x100014 + 0x1000 * i, 0x84010, 9, 4⟩
def F.LANE_RXEQ_GUARD_CTLE (i : Nat) : Fld := ⟨0x100014 + 0x1000 * i, 0x84010, 13, 3⟩
def F.LANE_RXEQ_GUARD_DFE (i : Nat) : Fld := ⟨0x100014 + 0x1000 * i, 0x84010, 16, 5⟩
def R.LANE_DFE (i : Nat) : Fld := ⟨0x100018 + 0x1000 * i, 0x0, 0, 32⟩
def F.LANE_DFE_DFE1 (i : Nat) : Fld := ⟨0x100018 + 0x1000 * i, 0x0, 0, 6⟩
def F.LANE_DFE_DFE2 (i : Nat) : Fld := ⟨0x100018 + 0x1000 * i, 0x0, 6, 6⟩
def F.LANE_DFE_DFE3 (i : Nat) : Fld := ⟨0x100018 + 0x1000 * i, 0x0, 12, 6⟩
def F.LANE_DFE_DFE4 (i : Nat) : Fld := ⟨0x100018 + 0x1000 * i, 0x0, 18, 6⟩
def F.LANE_DFE_DFE5 (i : Nat) : Fld := ⟨0x100018 + 0x1000 * i, 0x0, 24, 6⟩
def R.LANE_DFE_SNAP (i : Nat) : Fld := ⟨0x10001c + 0x1000 * i, 0x0, 0, 32⟩
def F.LANE_DFE_SNAP_DFE1 (i : Nat) : Fld := ⟨0x10001c + 0x1000 * i, 0x0, 0, 6⟩
def F.LANE_DFE_SNAP_DFE2 (i : Nat) : Fld := ⟨0x10001c + 0x1000 * i, 0x0, 6, 6⟩
def F.LANE_DFE_SNAP_DFE3 (i : Nat) : Fld := ⟨0x10001c + 0x1000 * i, 0x0, 12, 6⟩
def F.LANE_DFE_SNAP_DFE4 (i : Nat) : Fld := ⟨0x10001c + 0x1000 * i, 0x0, 18, 6⟩
def F.LANE_DFE_SNAP_DFE5 (i : Nat) : Fld := ⟨0x10001c + 0x1000 * i, 0x0, 24, 6⟩
def R.LANE_STAT (i : Nat) : Fld := ⟨0x100020 + 0x1000 * i, 0x0, 0, 32⟩
def F.LANE_STAT_STATE (i : Nat) : Fld := ⟨0x100020 + 0x1000 * i, 0x0, 0, 3⟩
def F.LANE_STAT_SIG_DET (i : Nat) : Fld := ⟨0x100020 + 0x1000 * i, 0x0, 3, 1⟩
def F.LANE_STAT_CDR_LOCK (i : Nat) : Fld := ⟨0x100020 + 0x1000 * i, 0x0, 4, 1⟩
def F.LANE_STAT_SYNC (i : Nat) : Fld := ⟨0x100020 + 0x1000 * i, 0x0, 5, 1⟩
def F.LANE_STAT_FROZEN (i : Nat) : Fld := ⟨0x100020 + 0x1000 * i, 0x0, 6, 1⟩
def F.LANE_STAT_ATTEMPT (i : Nat) : Fld := ⟨0x100020 + 0x1000 * i, 0x0, 7, 4⟩
def F.LANE_STAT_LOS (i : Nat) : Fld := ⟨0x100020 + 0x1000 * i, 0x0, 11, 1⟩
def F.LANE_STAT_ADAPT_REVERT (i : Nat) : Fld := ⟨0x100020 + 0x1000 * i, 0x0, 12, 1⟩
def F.LANE_STAT_EB_ERR (i : Nat) : Fld := ⟨0x100020 + 0x1000 * i, 0x0, 13, 1⟩
def F.LANE_STAT_CFG_IGN (i : Nat) : Fld := ⟨0x100020 + 0x1000 * i, 0x0, 14, 1⟩
def F.LANE_STAT_EQ_REJ (i : Nat) : Fld := ⟨0x100020 + 0x1000 * i, 0x0, 15, 1⟩
def F.LANE_STAT_ABSENT_SEEN (i : Nat) : Fld := ⟨0x100020 + 0x1000 * i, 0x0, 16, 1⟩
def R.LANE_CODE_ERR (i : Nat) : Fld := ⟨0x100024 + 0x1000 * i, 0x0, 0, 32⟩
def F.LANE_CODE_ERR_COUNT (i : Nat) : Fld := ⟨0x100024 + 0x1000 * i, 0x0, 0, 32⟩
def R.LANE_EB_CNT (i : Nat) : Fld := ⟨0x100028 + 0x1000 * i, 0x0, 0, 32⟩
def F.LANE_EB_CNT_OVF (i : Nat) : Fld := ⟨0x100028 + 0x1000 * i, 0x0, 0, 16⟩
def F.LANE_EB_CNT_UNF (i : Nat) : Fld := ⟨0x100028 + 0x1000 * i, 0x0, 16, 16⟩
def R.LANE_ADAPT_CNT (i : Nat) : Fld := ⟨0x10002c + 0x1000 * i, 0x0, 0, 32⟩
def F.LANE_ADAPT_CNT_REVERTS (i : Nat) : Fld := ⟨0x10002c + 0x1000 * i, 0x0, 0, 16⟩
def F.LANE_ADAPT_CNT_RETRAINS (i : Nat) : Fld := ⟨0x10002c + 0x1000 * i, 0x0, 16, 16⟩
def R.LANE_CNT_CLR (i : Nat) : Fld := ⟨0x100030 + 0x1000 * i, 0x0, 0, 32⟩
def F.LANE_CNT_CLR_CLR (i : Nat) : Fld := ⟨0x100030 + 0x1000 * i, 0x0, 0, 1⟩
def R.LANE_CHK (i : Nat) : Fld := ⟨0x100034 + 0x1000 * i, 0x0, 0, 32⟩
def F.LANE_CHK_CODE (i : Nat) : Fld := ⟨0x100034 + 0x1000 * i, 0x0, 0, 4⟩
def R.LANE_PRBS_CTRL (i : Nat) : Fld := ⟨0x100040 + 0x1000 * i, 0x0, 0, 32⟩
def F.LANE_PRBS_CTRL_GEN_EN (i : Nat) : Fld := ⟨0x100040 + 0x1000 * i, 0x0, 0, 1⟩
def F.LANE_PRBS_CTRL_GEN_PAT (i : Nat) : Fld := ⟨0x100040 + 0x1000 * i, 0x0, 1, 2⟩
def F.LANE_PRBS_CTRL_GEN_INV (i : Nat) : Fld := ⟨0x100040 + 0x1000 * i, 0x0, 3, 1⟩
def F.LANE_PRBS_CTRL_CHK_EN (i : Nat) : Fld := ⟨0x100040 + 0x1000 * i, 0x0, 4, 1⟩
def F.LANE_PRBS_CTRL_CHK_PAT (i : Nat) : Fld := ⟨0x100040 + 0x1000 * i, 0x0, 5, 2⟩
def F.LANE_PRBS_CTRL_CHK_INV (i : Nat) : Fld := ⟨0x100040 + 0x1000 * i, 0x0, 7, 1⟩
def F.LANE_PRBS_CTRL_CLR (i : Nat) : Fld := ⟨0x100040 + 0x1000 * i, 0x0, 8, 1⟩
def R.LANE_PRBS_STAT (i : Nat) : Fld := ⟨0x100044 + 0x1000 * i, 0x0, 0, 32⟩
def F.LANE_PRBS_STAT_LOCK (i : Nat) : Fld := ⟨0x100044 + 0x1000 * i, 0x0, 0, 1⟩
def F.LANE_PRBS_STAT_LOCK_LOST (i : Nat) : Fld := ⟨0x100044 + 0x1000 * i, 0x0, 1, 1⟩
def R.LANE_PRBS_ERR (i : Nat) : Fld := ⟨0x100048 + 0x1000 * i, 0x0, 0, 32⟩
def F.LANE_PRBS_ERR_COUNT (i : Nat) : Fld := ⟨0x100048 + 0x1000 * i, 0x0, 0, 32⟩
def R.LANE_PRBS_BITS_LO (i : Nat) : Fld := ⟨0x10004c + 0x1000 * i, 0x0, 0, 32⟩
def F.LANE_PRBS_BITS_LO_BITS (i : Nat) : Fld := ⟨0x10004c + 0x1000 * i, 0x0, 0, 32⟩
def R.LANE_PRBS_BITS_HI (i : Nat) : Fld := ⟨0x100050 + 0x1000 * i, 0x0, 0, 32⟩
def F.LANE_PRBS_BITS_HI_BITS (i : Nat) : Fld := ⟨0x100050 + 0x1000 * i, 0x0, 0, 32⟩

-- spec/04_strings.md
def R.STR_CFG (i : Nat) : Fld := ⟨0x200008 + 0x2000 * i, 0x117, 0, 32⟩
def F.STR_CFG_ARM (i : Nat) : Fld := ⟨0x200008 + 0x2000 * i, 0x117, 0, 3⟩
def F.STR_CFG_VMAX (i : Nat) : Fld := ⟨0x200008 + 0x2000 * i, 0x117, 3, 2⟩
def F.STR_CFG_HOLD (i : Nat) : Fld := ⟨0x200008 + 0x2000 * i, 0x117, 5, 4⟩
def R.STR_CTRL (i : Nat) : Fld := ⟨0x20000c + 0x2000 * i, 0x0, 0, 32⟩
def F.STR_CTRL_ENUM (i : Nat) : Fld := ⟨0x20000c + 0x2000 * i, 0x0, 0, 1⟩
def F.STR_CTRL_REENUM (i : Nat) : Fld := ⟨0x20000c + 0x2000 * i, 0x0, 1, 1⟩
def R.STR_STAT (i : Nat) : Fld := ⟨0x200010 + 0x2000 * i, 0x0, 0, 32⟩
def F.STR_STAT_STATE (i : Nat) : Fld := ⟨0x200010 + 0x2000 * i, 0x0, 0, 3⟩
def F.STR_STAT_FAR (i : Nat) : Fld := ⟨0x200010 + 0x2000 * i, 0x0, 3, 2⟩
def F.STR_STAT_SHORT (i : Nat) : Fld := ⟨0x200010 + 0x2000 * i, 0x0, 5, 1⟩
def F.STR_STAT_EXPECT_MET (i : Nat) : Fld := ⟨0x200010 + 0x2000 * i, 0x0, 6, 1⟩
def F.STR_STAT_ARM_HOLD (i : Nat) : Fld := ⟨0x200010 + 0x2000 * i, 0x0, 7, 1⟩
def F.STR_STAT_BROKEN (i : Nat) : Fld := ⟨0x200010 + 0x2000 * i, 0x0, 8, 1⟩
def F.STR_STAT_RELAY (i : Nat) : Fld := ⟨0x200010 + 0x2000 * i, 0x0, 9, 1⟩
def F.STR_STAT_RELAY_OK (i : Nat) : Fld := ⟨0x200010 + 0x2000 * i, 0x0, 10, 1⟩
def F.STR_STAT_B_TIMED (i : Nat) : Fld := ⟨0x200010 + 0x2000 * i, 0x0, 11, 1⟩
def F.STR_STAT_RELAY_NOCAP (i : Nat) : Fld := ⟨0x200010 + 0x2000 * i, 0x0, 12, 1⟩
def F.STR_STAT_CMD_IGN (i : Nat) : Fld := ⟨0x200010 + 0x2000 * i, 0x0, 13, 1⟩
def F.STR_STAT_DECL_BAD (i : Nat) : Fld := ⟨0x200010 + 0x2000 * i, 0x0, 14, 1⟩
def F.STR_STAT_REENUM_FAIL (i : Nat) : Fld := ⟨0x200010 + 0x2000 * i, 0x0, 15, 1⟩
def R.STR_ENUM (i : Nat) : Fld := ⟨0x200014 + 0x2000 * i, 0x0, 0, 32⟩
def F.STR_ENUM_FRETS (i : Nat) : Fld := ⟨0x200014 + 0x2000 * i, 0x0, 0, 8⟩
def F.STR_ENUM_MAP_ID (i : Nat) : Fld := ⟨0x200014 + 0x2000 * i, 0x0, 8, 8⟩
def F.STR_ENUM_HMIN (i : Nat) : Fld := ⟨0x200014 + 0x2000 * i, 0x0, 16, 4⟩
def F.STR_ENUM_INCOMPAT (i : Nat) : Fld := ⟨0x200014 + 0x2000 * i, 0x0, 20, 8⟩
def R.STR_EXPECT_FRETS (i : Nat) : Fld := ⟨0x200018 + 0x2000 * i, 0x0, 0, 32⟩
def F.STR_EXPECT_FRETS_COUNT (i : Nat) : Fld := ⟨0x200018 + 0x2000 * i, 0x0, 0, 8⟩
def R.STR_ACCEPT (i : Nat) : Fld := ⟨0x20001c + 0x2000 * i, 0x0, 0, 32⟩
def F.STR_ACCEPT_DEGRADED_ACCEPT (i : Nat) : Fld := ⟨0x20001c + 0x2000 * i, 0x0, 0, 1⟩
def R.STR_CHK (i : Nat) : Fld := ⟨0x200020 + 0x2000 * i, 0x0, 0, 32⟩
def F.STR_CHK_CODE (i : Nat) : Fld := ⟨0x200020 + 0x2000 * i, 0x0, 0, 4⟩
def F.STR_CHK_FRET (i : Nat) : Fld := ⟨0x200020 + 0x2000 * i, 0x0, 4, 8⟩
def R.STR_BUDGET (i : Nat) : Fld := ⟨0x200024 + 0x2000 * i, 0x0, 0, 32⟩
def F.STR_BUDGET_ARRIVE (i : Nat) : Fld := ⟨0x200024 + 0x2000 * i, 0x0, 0, 16⟩
def F.STR_BUDGET_LIMIT (i : Nat) : Fld := ⟨0x200024 + 0x2000 * i, 0x0, 16, 16⟩
def R.STR_HOME (i : Nat) : Fld := ⟨0x200028 + 0x2000 * i, 0x0, 0, 32⟩
def F.STR_HOME_HOME (i : Nat) : Fld := ⟨0x200028 + 0x2000 * i, 0x0, 0, 20⟩
def R.STR_LEN (i : Nat) : Fld := ⟨0x20002c + 0x2000 * i, 0x0, 0, 32⟩
def F.STR_LEN_CMD (i : Nat) : Fld := ⟨0x20002c + 0x2000 * i, 0x0, 0, 12⟩
def F.STR_LEN_LEN (i : Nat) : Fld := ⟨0x20002c + 0x2000 * i, 0x0, 16, 13⟩
def R.STR_RTEND (i : Nat) : Fld := ⟨0x200030 + 0x2000 * i, 0x0, 0, 32⟩
def F.STR_RTEND_RT_END (i : Nat) : Fld := ⟨0x200030 + 0x2000 * i, 0x0, 0, 20⟩
def R.STR_BLK (i : Nat) : Fld := ⟨0x200034 + 0x2000 * i, 0x0, 0, 32⟩
def F.STR_BLK_G_TX (i : Nat) : Fld := ⟨0x200034 + 0x2000 * i, 0x0, 0, 8⟩
def F.STR_BLK_G_RX (i : Nat) : Fld := ⟨0x200034 + 0x2000 * i, 0x0, 8, 8⟩
def R.STR_CNT_CLR (i : Nat) : Fld := ⟨0x20005c + 0x2000 * i, 0x0, 0, 32⟩
def F.STR_CNT_CLR_CLR (i : Nat) : Fld := ⟨0x20005c + 0x2000 * i, 0x0, 0, 1⟩
def R.STR_FRET (i j : Nat) : Fld := ⟨0x200400 + 0x2000 * i + 0x4 * j, 0x0, 0, 32⟩
def F.STR_FRET_DLY (i j : Nat) : Fld := ⟨0x200400 + 0x2000 * i + 0x4 * j, 0x0, 0, 16⟩
def F.STR_FRET_FWD (i j : Nat) : Fld := ⟨0x200400 + 0x2000 * i + 0x4 * j, 0x0, 16, 6⟩
def F.STR_FRET_VER (i j : Nat) : Fld := ⟨0x200400 + 0x2000 * i + 0x4 * j, 0x0, 22, 2⟩
def F.STR_FRET_INSVC (i j : Nat) : Fld := ⟨0x200400 + 0x2000 * i + 0x4 * j, 0x0, 24, 1⟩
def R.STR_FLEAD (i j : Nat) : Fld := ⟨0x200800 + 0x2000 * i + 0x4 * j, 0x0, 0, 32⟩
def F.STR_FLEAD_LEAD (i j : Nat) : Fld := ⟨0x200800 + 0x2000 * i + 0x4 * j, 0x0, 0, 12⟩
def F.STR_FLEAD_HMAX (i j : Nat) : Fld := ⟨0x200800 + 0x2000 * i + 0x4 * j, 0x0, 12, 4⟩
def F.STR_FLEAD_FB (i j : Nat) : Fld := ⟨0x200800 + 0x2000 * i + 0x4 * j, 0x0, 16, 1⟩
def R.STR_CNT_LAUNCH (i : Nat) : Fld := ⟨0x200040 + 0x2000 * i, 0x0, 0, 32⟩
def F.STR_CNT_LAUNCH_COUNT (i : Nat) : Fld := ⟨0x200040 + 0x2000 * i, 0x0, 0, 32⟩
def R.STR_CNT_RETCRC (i : Nat) : Fld := ⟨0x200044 + 0x2000 * i, 0x0, 0, 32⟩
def F.STR_CNT_RETCRC_COUNT (i : Nat) : Fld := ⟨0x200044 + 0x2000 * i, 0x0, 0, 32⟩
def R.STR_CNT_NOHOME (i : Nat) : Fld := ⟨0x200048 + 0x2000 * i, 0x0, 0, 32⟩
def F.STR_CNT_NOHOME_COUNT (i : Nat) : Fld := ⟨0x200048 + 0x2000 * i, 0x0, 0, 32⟩
def R.STR_CNT_TELCRC (i : Nat) : Fld := ⟨0x20004c + 0x2000 * i, 0x0, 0, 32⟩
def F.STR_CNT_TELCRC_COUNT (i : Nat) : Fld := ⟨0x20004c + 0x2000 * i, 0x0, 0, 32⟩
def R.STR_CNT_EMPTY (i : Nat) : Fld := ⟨0x200050 + 0x2000 * i, 0x0, 0, 32⟩
def F.STR_CNT_EMPTY_COUNT (i : Nat) : Fld := ⟨0x200050 + 0x2000 * i, 0x0, 0, 32⟩
def R.STR_CNT_BLKERR (i : Nat) : Fld := ⟨0x200054 + 0x2000 * i, 0x0, 0, 32⟩
def F.STR_CNT_BLKERR_COUNT (i : Nat) : Fld := ⟨0x200054 + 0x2000 * i, 0x0, 0, 32⟩
def R.STR_CNT_RELAY (i : Nat) : Fld := ⟨0x200058 + 0x2000 * i, 0x0, 0, 32⟩
def F.STR_CNT_RELAY_COUNT (i : Nat) : Fld := ⟨0x200058 + 0x2000 * i, 0x0, 0, 32⟩

-- spec/05_cell_table_and_observer.md
def R.MOD_CT_BASE : Fld := ⟨0x50100, 0x1f, 0, 32⟩
def F.MOD_CT_BASE_BASE : Fld := ⟨0x50100, 0x1f, 0, 5⟩
def R.MOD_OBS_CFG : Fld := ⟨0x50104, 0x400340, 0, 32⟩
def F.MOD_OBS_CFG_KV : Fld := ⟨0x50104, 0x400340, 0, 8⟩
def F.MOD_OBS_CFG_OUTN : Fld := ⟨0x50104, 0x400340, 8, 8⟩
def F.MOD_OBS_CFG_KC : Fld := ⟨0x50104, 0x400340, 16, 16⟩
def R.MOD_OBS_LIM : Fld := ⟨0x50108, 0xe61400c8, 0, 32⟩
def F.MOD_OBS_LIM_OUTLIM : Fld := ⟨0x50108, 0xe61400c8, 0, 16⟩
def F.MOD_OBS_LIM_DVMIN : Fld := ⟨0x50108, 0xe61400c8, 16, 8⟩
def F.MOD_OBS_LIM_CLOW : Fld := ⟨0x50108, 0xe61400c8, 24, 8⟩
def R.MOD_OBS_HLTH : Fld := ⟨0x5010c, 0x75302004, 0, 32⟩
def F.MOD_OBS_HLTH_RECOVER : Fld := ⟨0x5010c, 0x75302004, 0, 8⟩
def F.MOD_OBS_HLTH_STALE_N : Fld := ⟨0x5010c, 0x75302004, 8, 8⟩
def F.MOD_OBS_HLTH_VMAX : Fld := ⟨0x5010c, 0x75302004, 16, 16⟩
def R.MOD_OBS_STAT : Fld := ⟨0x50110, 0x0, 0, 32⟩
def F.MOD_OBS_STAT_ISRC_BAD : Fld := ⟨0x50110, 0x0, 0, 6⟩
def F.MOD_OBS_STAT_CID_CLASH : Fld := ⟨0x50110, 0x0, 6, 1⟩
def F.MOD_OBS_STAT_CT_WDISC : Fld := ⟨0x50110, 0x0, 7, 1⟩
def R.MOD_ARM_ISRC (i : Nat) : Fld := ⟨0x50140 + 0x4 * i, 0x0, 0, 32⟩
def F.MOD_ARM_ISRC_CV (i : Nat) : Fld := ⟨0x50140 + 0x4 * i, 0x0, 0, 3⟩
def F.MOD_ARM_ISRC_EN (i : Nat) : Fld := ⟨0x50140 + 0x4 * i, 0x0, 3, 1⟩
def F.MOD_ARM_ISRC_INV (i : Nat) : Fld := ⟨0x50140 + 0x4 * i, 0x0, 4, 1⟩
def R.MOD_ARM_K (i : Nat) : Fld := ⟨0x50160 + 0x4 * i, 0x0, 0, 32⟩
def F.MOD_ARM_K_K (i : Nat) : Fld := ⟨0x50160 + 0x4 * i, 0x0, 0, 32⟩
def R.MOD_ARM_DST (i : Nat) : Fld := ⟨0x50180 + 0x4 * i, 0x0, 0, 32⟩
def F.MOD_ARM_DST_CORE (i : Nat) : Fld := ⟨0x50180 + 0x4 * i, 0x0, 0, 4⟩
def F.MOD_ARM_DST_EN (i : Nat) : Fld := ⟨0x50180 + 0x4 * i, 0x0, 4, 1⟩
def F.MOD_ARM_DST_ADDR (i : Nat) : Fld := ⟨0x50180 + 0x4 * i, 0x0, 8, 14⟩
def R.MOD_CID_BASE (i : Nat) : Fld := ⟨0x50200 + 0x4 * i, 0x0, 0, 32⟩
def F.MOD_CID_BASE_BASE (i : Nat) : Fld := ⟨0x50200 + 0x4 * i, 0x0, 0, 12⟩
def R.MOD_CNT_CLR : Fld := ⟨0x501b4, 0x0, 0, 32⟩
def F.MOD_CNT_CLR_CLR : Fld := ⟨0x501b4, 0x0, 0, 1⟩
def R.MOD_CNT_OUTLIER : Fld := ⟨0x501a0, 0x0, 0, 32⟩
def F.MOD_CNT_OUTLIER_COUNT : Fld := ⟨0x501a0, 0x0, 0, 32⟩
def R.MOD_CNT_RESEED : Fld := ⟨0x501a4, 0x0, 0, 32⟩
def F.MOD_CNT_RESEED_COUNT : Fld := ⟨0x501a4, 0x0, 0, 32⟩
def R.MOD_CNT_SEQERR : Fld := ⟨0x501a8, 0x0, 0, 32⟩
def F.MOD_CNT_SEQERR_COUNT : Fld := ⟨0x501a8, 0x0, 0, 32⟩
def R.MOD_CNT_STALE : Fld := ⟨0x501ac, 0x0, 0, 32⟩
def F.MOD_CNT_STALE_COUNT : Fld := ⟨0x501ac, 0x0, 0, 32⟩
def R.MOD_CNT_WDISC : Fld := ⟨0x501b0, 0x0, 0, 32⟩
def F.MOD_CNT_WDISC_COUNT : Fld := ⟨0x501b0, 0x0, 0, 32⟩

-- spec/06_arm_modulation.md
def R.MOD_ARM_OUT (i : Nat) : Fld := ⟨0x50300 + 0x20 * i, 0x0, 0, 32⟩
def F.MOD_ARM_OUT_ADDR (i : Nat) : Fld := ⟨0x50300 + 0x20 * i, 0x0, 8, 14⟩
def R.MOD_ARM_COMMIT (i : Nat) : Fld := ⟨0x50304 + 0x20 * i, 0x0, 0, 32⟩
def F.MOD_ARM_COMMIT_TAG (i : Nat) : Fld := ⟨0x50304 + 0x20 * i, 0x0, 0, 16⟩
def R.MOD_ARM_VSTAT (i : Nat) : Fld := ⟨0x50308 + 0x20 * i, 0x0, 0, 32⟩
def F.MOD_ARM_VSTAT_TAG (i : Nat) : Fld := ⟨0x50308 + 0x20 * i, 0x0, 0, 16⟩
def F.MOD_ARM_VSTAT_PEND (i : Nat) : Fld := ⟨0x50308 + 0x20 * i, 0x0, 16, 1⟩
def F.MOD_ARM_VSTAT_HELD (i : Nat) : Fld := ⟨0x50308 + 0x20 * i, 0x0, 17, 1⟩
def F.MOD_ARM_VSTAT_NINS (i : Nat) : Fld := ⟨0x50308 + 0x20 * i, 0x0, 18, 13⟩
def R.MOD_ARM_SWLIM (i : Nat) : Fld := ⟨0x5030c + 0x20 * i, 0x0, 0, 32⟩
def F.MOD_ARM_SWLIM_MAXCH (i : Nat) : Fld := ⟨0x5030c + 0x20 * i, 0x0, 0, 12⟩
def R.MOD_ARM_FLAG (i : Nat) : Fld := ⟨0x50310 + 0x20 * i, 0x0, 0, 32⟩
def F.MOD_ARM_FLAG_SWLIM_HIT (i : Nat) : Fld := ⟨0x50310 + 0x20 * i, 0x0, 0, 1⟩
def F.MOD_ARM_FLAG_NEG_HB (i : Nat) : Fld := ⟨0x50310 + 0x20 * i, 0x0, 1, 1⟩
def F.MOD_ARM_FLAG_INELIG_INS (i : Nat) : Fld := ⟨0x50310 + 0x20 * i, 0x0, 2, 1⟩
def F.MOD_ARM_FLAG_COMMIT_OVR (i : Nat) : Fld := ⟨0x50310 + 0x20 * i, 0x0, 3, 1⟩
def F.MOD_ARM_FLAG_TRIM_CLASH (i : Nat) : Fld := ⟨0x50310 + 0x20 * i, 0x0, 4, 1⟩
def R.MOD_TRIM_CTRL (i : Nat) : Fld := ⟨0x50400 + 0x10 * i, 0x2000, 0, 32⟩
def F.MOD_TRIM_CTRL_EN (i : Nat) : Fld := ⟨0x50400 + 0x10 * i, 0x2000, 0, 1⟩
def F.MOD_TRIM_CTRL_CELL (i : Nat) : Fld := ⟨0x50400 + 0x10 * i, 0x2000, 1, 12⟩
def F.MOD_TRIM_CTRL_HI (i : Nat) : Fld := ⟨0x50400 + 0x10 * i, 0x2000, 13, 2⟩
def F.MOD_TRIM_CTRL_LO (i : Nat) : Fld := ⟨0x50400 + 0x10 * i, 0x2000, 15, 2⟩
def R.MOD_TRIM_PER (i : Nat) : Fld := ⟨0x50404 + 0x10 * i, 0x1388, 0, 32⟩
def F.MOD_TRIM_PER_PER (i : Nat) : Fld := ⟨0x50404 + 0x10 * i, 0x1388, 0, 16⟩
def R.MOD_TRIM_DUTY (i : Nat) : Fld := ⟨0x50408 + 0x10 * i, 0x0, 0, 32⟩
def F.MOD_TRIM_DUTY_FRAC (i : Nat) : Fld := ⟨0x50408 + 0x10 * i, 0x0, 0, 4⟩
def F.MOD_TRIM_DUTY_INT (i : Nat) : Fld := ⟨0x50408 + 0x10 * i, 0x0, 4, 16⟩
def R.MOD_TRIM_MIN (i : Nat) : Fld := ⟨0x5040c + 0x10 * i, 0x8c, 0, 32⟩
def F.MOD_TRIM_MIN_MINPULSE (i : Nat) : Fld := ⟨0x5040c + 0x10 * i, 0x8c, 0, 10⟩
def F.MOD_TRIM_MIN_POLICY (i : Nat) : Fld := ⟨0x5040c + 0x10 * i, 0x8c, 10, 1⟩
def F.MOD_TRIM_MIN_MIN_EFF (i : Nat) : Fld := ⟨0x5040c + 0x10 * i, 0x8c, 16, 10⟩
def R.MOD_TRIM_STAT (i : Nat) : Fld := ⟨0x50700 + 0x4 * i, 0x0, 0, 32⟩
def F.MOD_TRIM_STAT_COUNT (i : Nat) : Fld := ⟨0x50700 + 0x4 * i, 0x0, 0, 16⟩
def F.MOD_TRIM_STAT_CYC (i : Nat) : Fld := ⟨0x50700 + 0x4 * i, 0x0, 16, 4⟩
def F.MOD_TRIM_STAT_OUT (i : Nat) : Fld := ⟨0x50700 + 0x4 * i, 0x0, 20, 1⟩
def F.MOD_TRIM_STAT_ACTIVE (i : Nat) : Fld := ⟨0x50700 + 0x4 * i, 0x0, 21, 1⟩
def F.MOD_TRIM_STAT_PER_REJ (i : Nat) : Fld := ⟨0x50700 + 0x4 * i, 0x0, 24, 1⟩
def F.MOD_TRIM_STAT_PER_FOLD (i : Nat) : Fld := ⟨0x50700 + 0x4 * i, 0x0, 25, 1⟩
def F.MOD_TRIM_STAT_DUTY_CLASH (i : Nat) : Fld := ⟨0x50700 + 0x4 * i, 0x0, 26, 1⟩
def F.MOD_TRIM_STAT_CELL_BAD (i : Nat) : Fld := ⟨0x50700 + 0x4 * i, 0x0, 27, 1⟩
def F.MOD_TRIM_STAT_CELL_INELIG (i : Nat) : Fld := ⟨0x50700 + 0x4 * i, 0x0, 28, 1⟩
def F.MOD_TRIM_STAT_TOG_OVF (i : Nat) : Fld := ⟨0x50700 + 0x4 * i, 0x0, 29, 1⟩
def R.MOD_TRIM_SHORT (i : Nat) : Fld := ⟨0x50800 + 0x4 * i, 0x0, 0, 32⟩
def F.MOD_TRIM_SHORT_COUNT (i : Nat) : Fld := ⟨0x50800 + 0x4 * i, 0x0, 0, 32⟩
def R.MOD_DT_BASE : Fld := ⟨0x50900, 0x1ef, 0, 32⟩
def F.MOD_DT_BASE_BASE : Fld := ⟨0x50900, 0x1ef, 0, 9⟩
def R.MOD_DT_CFG : Fld := ⟨0x50904, 0x1024079, 0, 32⟩
def F.MOD_DT_CFG_EN : Fld := ⟨0x50904, 0x1024079, 0, 1⟩
def F.MOD_DT_CFG_MARGIN : Fld := ⟨0x50904, 0x1024079, 1, 8⟩
def F.MOD_DT_CFG_KT : Fld := ⟨0x50904, 0x1024079, 9, 8⟩
def F.MOD_DT_CFG_NUP : Fld := ⟨0x50904, 0x1024079, 17, 4⟩
def F.MOD_DT_CFG_NDN : Fld := ⟨0x50904, 0x1024079, 21, 8⟩
def R.MOD_DT_LIM : Fld := ⟨0x50908, 0xa1f05, 0, 32⟩
def F.MOD_DT_LIM_DTC_MIN : Fld := ⟨0x50908, 0xa1f05, 0, 5⟩
def F.MOD_DT_LIM_DTC_MAX : Fld := ⟨0x50908, 0xa1f05, 8, 5⟩
def F.MOD_DT_LIM_DTC_INIT : Fld := ⟨0x50908, 0xa1f05, 16, 5⟩
def R.MOD_MCHK : Fld := ⟨0x5090c, 0x0, 0, 32⟩
def F.MOD_MCHK_CODE : Fld := ⟨0x5090c, 0x0, 0, 4⟩
def F.MOD_MCHK_ARM : Fld := ⟨0x5090c, 0x0, 4, 3⟩
def R.MOD_MSTAT : Fld := ⟨0x50910, 0x0, 0, 32⟩
def F.MOD_MSTAT_DT_WDISC : Fld := ⟨0x50910, 0x0, 0, 1⟩
def R.MOD_MCNT_CLR : Fld := ⟨0x5092c, 0x0, 0, 32⟩
def F.MOD_MCNT_CLR_CLR : Fld := ⟨0x5092c, 0x0, 0, 1⟩
def R.MOD_CNT_DTUP : Fld := ⟨0x50914, 0x0, 0, 32⟩
def F.MOD_CNT_DTUP_COUNT : Fld := ⟨0x50914, 0x0, 0, 32⟩
def R.MOD_CNT_DTDN : Fld := ⟨0x50918, 0x0, 0, 32⟩
def F.MOD_CNT_DTDN_COUNT : Fld := ⟨0x50918, 0x0, 0, 32⟩
def R.MOD_CNT_DTSAT : Fld := ⟨0x5091c, 0x0, 0, 32⟩
def F.MOD_CNT_DTSAT_COUNT : Fld := ⟨0x5091c, 0x0, 0, 32⟩
def R.MOD_CNT_SWLIM : Fld := ⟨0x50920, 0x0, 0, 32⟩
def F.MOD_CNT_SWLIM_COUNT : Fld := ⟨0x50920, 0x0, 0, 32⟩
def R.MOD_CNT_NEGHB : Fld := ⟨0x50924, 0x0, 0, 32⟩
def F.MOD_CNT_NEGHB_COUNT : Fld := ⟨0x50924, 0x0, 0, 32⟩
def R.MOD_CNT_DTWDISC : Fld := ⟨0x50928, 0x0, 0, 32⟩
def F.MOD_CNT_DTWDISC_COUNT : Fld := ⟨0x50928, 0x0, 0, 32⟩

-- spec/07_trips_and_blocking.md
def R.TRIP_STAT : Fld := ⟨0x60008, 0x3f0000, 0, 32⟩
def F.TRIP_STAT_LATCH : Fld := ⟨0x60008, 0x3f0000, 0, 8⟩
def F.TRIP_STAT_ACTIVE : Fld := ⟨0x60008, 0x3f0000, 8, 8⟩
def F.TRIP_STAT_ARM_BLK : Fld := ⟨0x60008, 0x3f0000, 16, 6⟩
def F.TRIP_STAT_SVB_DEM : Fld := ⟨0x60008, 0x3f0000, 22, 6⟩
def R.TRIP_CLR : Fld := ⟨0x6000c, 0x0, 0, 32⟩
def F.TRIP_CLR_G : Fld := ⟨0x6000c, 0x0, 0, 8⟩
def R.TRIP_SOFT : Fld := ⟨0x60010, 0x0, 0, 32⟩
def F.TRIP_SOFT_G : Fld := ⟨0x60010, 0x0, 0, 8⟩
def R.TRIP_FLAG : Fld := ⟨0x60014, 0x0, 0, 32⟩
def F.TRIP_FLAG_CLR_REJ_G : Fld := ⟨0x60014, 0x0, 0, 8⟩
def F.TRIP_FLAG_TRIP_CLR_REJ : Fld := ⟨0x60014, 0x0, 8, 1⟩
def R.TRIP_ARM : Fld := ⟨0x60018, 0x0, 0, 32⟩
def F.TRIP_ARM_ARM_RUN : Fld := ⟨0x60018, 0x0, 0, 6⟩
def R.TRIP_DBCHK : Fld := ⟨0x6001c, 0x0, 0, 32⟩
def F.TRIP_DBCHK_ARM : Fld := ⟨0x6001c, 0x0, 0, 3⟩
def F.TRIP_DBCHK_CAUSE : Fld := ⟨0x6001c, 0x0, 4, 4⟩
def R.TRIP_IN_MASK : Fld := ⟨0x60020, 0x0, 0, 32⟩
def F.TRIP_IN_MASK_MASK : Fld := ⟨0x60020, 0x0, 0, 24⟩
def R.TRIP_IN_LVL : Fld := ⟨0x60024, 0x0, 0, 32⟩
def F.TRIP_IN_LVL_LVL : Fld := ⟨0x60024, 0x0, 0, 24⟩
def R.TRIP_IN_HIT : Fld := ⟨0x60028, 0x0, 0, 32⟩
def F.TRIP_IN_HIT_HIT : Fld := ⟨0x60028, 0x0, 0, 24⟩
def R.TRIP_CNT_CLR : Fld := ⟨0x6002c, 0x0, 0, 32⟩
def F.TRIP_CNT_CLR_CLR : Fld := ⟨0x6002c, 0x0, 0, 1⟩
def R.TRIP_IN_CFG (i : Nat) : Fld := ⟨0x60100 + 0x4 * i, 0x190, 0, 32⟩
def F.TRIP_IN_CFG_EN (i : Nat) : Fld := ⟨0x60100 + 0x4 * i, 0x190, 0, 1⟩
def F.TRIP_IN_CFG_POL (i : Nat) : Fld := ⟨0x60100 + 0x4 * i, 0x190, 1, 1⟩
def F.TRIP_IN_CFG_FILT (i : Nat) : Fld := ⟨0x60100 + 0x4 * i, 0x190, 2, 9⟩
def F.TRIP_IN_CFG_MAP (i : Nat) : Fld := ⟨0x60100 + 0x4 * i, 0x190, 16, 8⟩
def R.TRIP_GRP (i : Nat) : Fld := ⟨0x60180 + 0x4 * i, 0x0, 0, 32⟩
def F.TRIP_GRP_ARMS (i : Nat) : Fld := ⟨0x60180 + 0x4 * i, 0x0, 0, 6⟩
def R.TRIP_FIRST_SRC (i : Nat) : Fld := ⟨0x60200 + 0x10 * i, 0x0, 0, 32⟩
def F.TRIP_FIRST_SRC_INPUT (i : Nat) : Fld := ⟨0x60200 + 0x10 * i, 0x0, 0, 5⟩
def F.TRIP_FIRST_SRC_MULTI (i : Nat) : Fld := ⟨0x60200 + 0x10 * i, 0x0, 5, 1⟩
def F.TRIP_FIRST_SRC_SOFT (i : Nat) : Fld := ⟨0x60200 + 0x10 * i, 0x0, 6, 1⟩
def R.TRIP_FIRST_NS (i : Nat) : Fld := ⟨0x60204 + 0x10 * i, 0x0, 0, 32⟩
def F.TRIP_FIRST_NS_TIME (i : Nat) : Fld := ⟨0x60204 + 0x10 * i, 0x0, 0, 30⟩
def R.TRIP_FIRST_SEC (i : Nat) : Fld := ⟨0x60208 + 0x10 * i, 0x0, 0, 32⟩
def F.TRIP_FIRST_SEC_TIME (i : Nat) : Fld := ⟨0x60208 + 0x10 * i, 0x0, 0, 32⟩
def R.TRIP_CNT (i : Nat) : Fld := ⟨0x60300 + 0x4 * i, 0x0, 0, 32⟩
def F.TRIP_CNT_COUNT (i : Nat) : Fld := ⟨0x60300 + 0x4 * i, 0x0, 0, 32⟩

-- spec/09_work_scheduler.md
def R.SCHED_CFG : Fld := ⟨0x30008, 0x6446, 0, 32⟩
def F.SCHED_CFG_PREEMPT_LEVEL : Fld := ⟨0x30008, 0x6446, 0, 3⟩
def F.SCHED_CFG_NEST_MAX : Fld := ⟨0x30008, 0x6446, 3, 4⟩
def F.SCHED_CFG_AFF_WAIT : Fld := ⟨0x30008, 0x6446, 7, 10⟩
def R.SCHED_CORE_EN : Fld := ⟨0x3000c, 0xffff, 0, 32⟩
def F.SCHED_CORE_EN_EN : Fld := ⟨0x3000c, 0xffff, 0, 16⟩
def R.SCHED_CANCEL : Fld := ⟨0x30010, 0x0, 0, 32⟩
def F.SCHED_CANCEL_SRC : Fld := ⟨0x30010, 0x0, 0, 6⟩
def F.SCHED_CANCEL_TAG : Fld := ⟨0x30010, 0x0, 16, 16⟩
def R.SCHED_FLAG : Fld := ⟨0x30014, 0x0, 0, 32⟩
def F.SCHED_FLAG_CANCEL_MISS : Fld := ⟨0x30014, 0x0, 0, 1⟩
def F.SCHED_FLAG_CQ_OVF : Fld := ⟨0x30014, 0x0, 1, 1⟩
def F.SCHED_FLAG_TPL_ERR : Fld := ⟨0x30014, 0x0, 2, 1⟩
def F.SCHED_FLAG_SPILL_FULL : Fld := ⟨0x30014, 0x0, 3, 1⟩
def F.SCHED_FLAG_PT_SKIP : Fld := ⟨0x30014, 0x0, 4, 1⟩
def R.SCHED_OVERQ : Fld := ⟨0x30018, 0x0, 0, 32⟩
def F.SCHED_OVERQ_OVER_QUOTA : Fld := ⟨0x30018, 0x0, 0, 32⟩
def R.SCHED_CHK : Fld := ⟨0x3001c, 0x0, 0, 32⟩
def F.SCHED_CHK_CODE : Fld := ⟨0x3001c, 0x0, 0, 4⟩
def F.SCHED_CHK_INDEX : Fld := ⟨0x3001c, 0x0, 4, 6⟩
def R.SCHED_RUN_BASE : Fld := ⟨0x30020, 0xfc0000, 0, 32⟩
def F.SCHED_RUN_BASE_BASE : Fld := ⟨0x30020, 0xfc0000, 6, 18⟩
def R.SCHED_CQ_BASE : Fld := ⟨0x30024, 0xf7, 0, 32⟩
def F.SCHED_CQ_BASE_BASE : Fld := ⟨0x30024, 0xf7, 0, 8⟩
def R.SCHED_CQ_PI : Fld := ⟨0x30028, 0x0, 0, 32⟩
def F.SCHED_CQ_PI_INDEX : Fld := ⟨0x30028, 0x0, 0, 12⟩
def R.SCHED_CQ_CI : Fld := ⟨0x3002c, 0x0, 0, 32⟩
def F.SCHED_CQ_CI_INDEX : Fld := ⟨0x3002c, 0x0, 0, 12⟩
def R.SCHED_WIN : Fld := ⟨0x3003c, 0x0, 0, 32⟩
def F.SCHED_WIN_PIDX : Fld := ⟨0x3003c, 0x0, 0, 32⟩
def R.SCHED_ARM_TPL (i : Nat) : Fld := ⟨0x30040 + 0x4 * i, 0x0, 0, 32⟩
def F.SCHED_ARM_TPL_EN (i : Nat) : Fld := ⟨0x30040 + 0x4 * i, 0x0, 0, 1⟩
def F.SCHED_ARM_TPL_TPL (i : Nat) : Fld := ⟨0x30040 + 0x4 * i, 0x0, 5, 19⟩
def R.SCHED_TEL (i : Nat) : Fld := ⟨0x30060 + 0x4 * i, 0x0, 0, 32⟩
def F.SCHED_TEL_EN (i : Nat) : Fld := ⟨0x30060 + 0x4 * i, 0x0, 0, 1⟩
def F.SCHED_TEL_TPL (i : Nat) : Fld := ⟨0x30060 + 0x4 * i, 0x0, 5, 19⟩
def R.SCHED_LVL_DEPTH (i : Nat) : Fld := ⟨0x30100 + 0x20 * i, 0x0, 0, 32⟩
def F.SCHED_LVL_DEPTH_DEPTH (i : Nat) : Fld := ⟨0x30100 + 0x20 * i, 0x0, 0, 9⟩
def F.SCHED_LVL_DEPTH_MAX (i : Nat) : Fld := ⟨0x30100 + 0x20 * i, 0x0, 16, 9⟩
def R.SCHED_SPILL_CFG (i : Nat) : Fld := ⟨0x30104 + 0x20 * i, 0x0, 0, 32⟩
def F.SCHED_SPILL_CFG_SIZE (i : Nat) : Fld := ⟨0x30104 + 0x20 * i, 0x0, 0, 5⟩
def F.SCHED_SPILL_CFG_BASE (i : Nat) : Fld := ⟨0x30104 + 0x20 * i, 0x0, 8, 12⟩
def R.SCHED_SPILL_STAT (i : Nat) : Fld := ⟨0x30108 + 0x20 * i, 0x0, 0, 32⟩
def F.SCHED_SPILL_STAT_DEPTH (i : Nat) : Fld := ⟨0x30108 + 0x20 * i, 0x0, 0, 17⟩
def R.SCHED_SPILL_MAX (i : Nat) : Fld := ⟨0x3010c + 0x20 * i, 0x0, 0, 32⟩
def F.SCHED_SPILL_MAX_DEPTH (i : Nat) : Fld := ⟨0x3010c + 0x20 * i, 0x0, 0, 17⟩
def R.SCHED_HIST (i j : Nat) : Fld := ⟨0x30200 + 0x20 * i + 0x4 * j, 0x0, 0, 32⟩
def F.SCHED_HIST_COUNT (i j : Nat) : Fld := ⟨0x30200 + 0x20 * i + 0x4 * j, 0x0, 0, 32⟩
def R.SCHED_QUOTA (i : Nat) : Fld := ⟨0x30400 + 0x10 * i, 0x0, 0, 32⟩
def F.SCHED_QUOTA_MAXOUT (i : Nat) : Fld := ⟨0x30400 + 0x10 * i, 0x0, 0, 16⟩
def F.SCHED_QUOTA_QTIME (i : Nat) : Fld := ⟨0x30400 + 0x10 * i, 0x0, 16, 16⟩
def R.SCHED_QUSE (i : Nat) : Fld := ⟨0x30404 + 0x10 * i, 0x0, 0, 32⟩
def F.SCHED_QUSE_OUT (i : Nat) : Fld := ⟨0x30404 + 0x10 * i, 0x0, 0, 20⟩
def R.SCHED_AFF_LAST (i : Nat) : Fld := ⟨0x30600 + 0x4 * i, 0x0, 0, 32⟩
def F.SCHED_AFF_LAST_CORE (i : Nat) : Fld := ⟨0x30600 + 0x4 * i, 0x0, 0, 4⟩
def F.SCHED_AFF_LAST_VALID (i : Nat) : Fld := ⟨0x30600 + 0x4 * i, 0x0, 4, 1⟩
def R.SCHED_CORE_STAT (i : Nat) : Fld := ⟨0x30700 + 0x10 * i, 0x0, 0, 32⟩
def F.SCHED_CORE_STAT_LEVEL (i : Nat) : Fld := ⟨0x30700 + 0x10 * i, 0x0, 0, 3⟩
def F.SCHED_CORE_STAT_BUSY (i : Nat) : Fld := ⟨0x30700 + 0x10 * i, 0x0, 3, 1⟩
def F.SCHED_CORE_STAT_DEPTH (i : Nat) : Fld := ⟨0x30700 + 0x10 * i, 0x0, 4, 4⟩
def F.SCHED_CORE_STAT_SRC (i : Nat) : Fld := ⟨0x30700 + 0x10 * i, 0x0, 8, 6⟩
def R.SCHED_PT_CFG (i : Nat) : Fld := ⟨0x30800 + 0x8 * i, 0x4, 0, 32⟩
def F.SCHED_PT_CFG_EN (i : Nat) : Fld := ⟨0x30800 + 0x8 * i, 0x4, 0, 1⟩
def F.SCHED_PT_CFG_SKIP_BUSY (i : Nat) : Fld := ⟨0x30800 + 0x8 * i, 0x4, 1, 1⟩
def F.SCHED_PT_CFG_DIV (i : Nat) : Fld := ⟨0x30800 + 0x8 * i, 0x4, 2, 7⟩
def F.SCHED_PT_CFG_PHASE (i : Nat) : Fld := ⟨0x30800 + 0x8 * i, 0x4, 9, 7⟩
def F.SCHED_PT_CFG_OFS (i : Nat) : Fld := ⟨0x30800 + 0x8 * i, 0x4, 16, 16⟩
def R.SCHED_PT_TPL (i : Nat) : Fld := ⟨0x30804 + 0x8 * i, 0x0, 0, 32⟩
def F.SCHED_PT_TPL_TPL (i : Nat) : Fld := ⟨0x30804 + 0x8 * i, 0x0, 5, 19⟩
def R.SCHED_CNT_CQLOST : Fld := ⟨0x30030, 0x0, 0, 32⟩
def F.SCHED_CNT_CQLOST_COUNT : Fld := ⟨0x30030, 0x0, 0, 32⟩
def R.SCHED_CNT_TPLERR : Fld := ⟨0x30034, 0x0, 0, 32⟩
def F.SCHED_CNT_TPLERR_COUNT : Fld := ⟨0x30034, 0x0, 0, 32⟩
def R.SCHED_QTUSE (i : Nat) : Fld := ⟨0x30408 + 0x10 * i, 0x0, 0, 32⟩
def F.SCHED_QTUSE_COUNT (i : Nat) : Fld := ⟨0x30408 + 0x10 * i, 0x0, 0, 32⟩
def R.SCHED_QREJ (i : Nat) : Fld := ⟨0x3040c + 0x10 * i, 0x0, 0, 32⟩
def F.SCHED_QREJ_COUNT (i : Nat) : Fld := ⟨0x3040c + 0x10 * i, 0x0, 0, 32⟩
def R.SCHED_CORE_BUSY (i : Nat) : Fld := ⟨0x30704 + 0x10 * i, 0x0, 0, 32⟩
def F.SCHED_CORE_BUSY_COUNT (i : Nat) : Fld := ⟨0x30704 + 0x10 * i, 0x0, 0, 32⟩
def R.SCHED_CORE_ITEMS (i : Nat) : Fld := ⟨0x30708 + 0x10 * i, 0x0, 0, 32⟩
def F.SCHED_CORE_ITEMS_COUNT (i : Nat) : Fld := ⟨0x30708 + 0x10 * i, 0x0, 0, 32⟩
def R.SCHED_CORE_PREEMPT (i : Nat) : Fld := ⟨0x3070c + 0x10 * i, 0x0, 0, 32⟩
def F.SCHED_CORE_PREEMPT_COUNT (i : Nat) : Fld := ⟨0x3070c + 0x10 * i, 0x0, 0, 32⟩
def R.SCHED_CNT_CLR : Fld := ⟨0x30038, 0x0, 0, 32⟩
def F.SCHED_CNT_CLR_CLR : Fld := ⟨0x30038, 0x0, 0, 1⟩

-- spec/10_control_engine.md
def R.CENG_CHK : Fld := ⟨0x40008, 0x0, 0, 32⟩
def F.CENG_CHK_CODE : Fld := ⟨0x40008, 0x0, 0, 4⟩
def F.CENG_CHK_SLOT : Fld := ⟨0x40008, 0x0, 4, 5⟩
def R.CENG_FLAG : Fld := ⟨0x4000c, 0x0, 0, 32⟩
def F.CENG_FLAG_TUNE_END : Fld := ⟨0x4000c, 0x0, 0, 1⟩
def R.CENG_TUNE_CFG : Fld := ⟨0x40010, 0x14c8000, 0, 32⟩
def F.CENG_TUNE_CFG_PERMQ : Fld := ⟨0x40010, 0x14c8000, 0, 12⟩
def F.CENG_TUNE_CFG_RULE : Fld := ⟨0x40010, 0x14c8000, 12, 2⟩
def F.CENG_TUNE_CFG_NSKIP : Fld := ⟨0x40010, 0x14c8000, 14, 4⟩
def F.CENG_TUNE_CFG_NMEAS : Fld := ⟨0x40010, 0x14c8000, 18, 4⟩
def F.CENG_TUNE_CFG_TOL : Fld := ⟨0x40010, 0x14c8000, 22, 8⟩
def R.CENG_TUNE_LIM : Fld := ⟨0x40014, 0x201388, 0, 32⟩
def F.CENG_TUNE_LIM_TMAX : Fld := ⟨0x40014, 0x201388, 0, 16⟩
def F.CENG_TUNE_LIM_CYC_MAX : Fld := ⟨0x40014, 0x201388, 16, 8⟩
def R.CENG_TUNE_STAT : Fld := ⟨0x40024, 0x0, 0, 32⟩
def F.CENG_TUNE_STAT_STATE : Fld := ⟨0x40024, 0x0, 0, 4⟩
def F.CENG_TUNE_STAT_SLOT : Fld := ⟨0x40024, 0x0, 4, 5⟩
def F.CENG_TUNE_STAT_CYCLES : Fld := ⟨0x40024, 0x0, 16, 8⟩
def R.CENG_TUNE_TPL : Fld := ⟨0x40040, 0x0, 0, 32⟩
def F.CENG_TUNE_TPL_EN : Fld := ⟨0x40040, 0x0, 0, 1⟩
def F.CENG_TUNE_TPL_TPL : Fld := ⟨0x40040, 0x0, 5, 19⟩
def R.CENG_GRP_TPL (i : Nat) : Fld := ⟨0x40060 + 0x4 * i, 0x0, 0, 32⟩
def F.CENG_GRP_TPL_EN (i : Nat) : Fld := ⟨0x40060 + 0x4 * i, 0x0, 0, 1⟩
def F.CENG_GRP_TPL_TPL (i : Nat) : Fld := ⟨0x40060 + 0x4 * i, 0x0, 5, 19⟩
def R.CENG_SLOT_CFG (i : Nat) : Fld := ⟨0x40100 + 0x40 * i, 0x0, 0, 32⟩
def F.CENG_SLOT_CFG_EN (i : Nat) : Fld := ⟨0x40100 + 0x40 * i, 0x0, 0, 1⟩
def F.CENG_SLOT_CFG_GROUP (i : Nat) : Fld := ⟨0x40100 + 0x40 * i, 0x0, 1, 3⟩
def F.CENG_SLOT_CFG_DTYPE (i : Nat) : Fld := ⟨0x40100 + 0x40 * i, 0x0, 4, 2⟩
def F.CENG_SLOT_CFG_DFMT (i : Nat) : Fld := ⟨0x40100 + 0x40 * i, 0x0, 6, 1⟩
def R.CENG_MODE (i : Nat) : Fld := ⟨0x4012c + 0x40 * i, 0x0, 0, 32⟩
def F.CENG_MODE_MODE (i : Nat) : Fld := ⟨0x4012c + 0x40 * i, 0x0, 0, 2⟩
def F.CENG_MODE_GT_EN (i : Nat) : Fld := ⟨0x4012c + 0x40 * i, 0x0, 2, 1⟩
def R.CENG_DST (i : Nat) : Fld := ⟨0x40134 + 0x40 * i, 0x0, 0, 32⟩
def F.CENG_DST_WORD (i : Nat) : Fld := ⟨0x40134 + 0x40 * i, 0x0, 2, 22⟩
def F.CENG_DST_TRIM (i : Nat) : Fld := ⟨0x40134 + 0x40 * i, 0x0, 24, 6⟩
def R.CENG_DMASK (i : Nat) : Fld := ⟨0x40138 + 0x40 * i, 0xffffffff, 0, 32⟩
def F.CENG_DMASK_MASK (i : Nat) : Fld := ⟨0x40138 + 0x40 * i, 0xffffffff, 0, 32⟩
def R.CENG_SSTAT (i : Nat) : Fld := ⟨0x4013c + 0x40 * i, 0x0, 0, 32⟩
def F.CENG_SSTAT_SRC_BAD (i : Nat) : Fld := ⟨0x4013c + 0x40 * i, 0x0, 0, 1⟩
def F.CENG_SSTAT_NANF (i : Nat) : Fld := ⟨0x4013c + 0x40 * i, 0x0, 1, 1⟩
def F.CENG_SSTAT_USAT (i : Nat) : Fld := ⟨0x4013c + 0x40 * i, 0x0, 2, 1⟩
def F.CENG_SSTAT_ISTOP (i : Nat) : Fld := ⟨0x4013c + 0x40 * i, 0x0, 3, 1⟩
def F.CENG_SSTAT_DCONV (i : Nat) : Fld := ⟨0x4013c + 0x40 * i, 0x0, 4, 1⟩
def F.CENG_SSTAT_GT_BAD (i : Nat) : Fld := ⟨0x4013c + 0x40 * i, 0x0, 5, 1⟩
def R.CENG_TUNE_D : Fld := ⟨0x40018, 0x0, 0, 32⟩
def F.CENG_TUNE_D_VALUE : Fld := ⟨0x40018, 0x0, 0, 32⟩
def R.CENG_TUNE_H : Fld := ⟨0x4001c, 0x0, 0, 32⟩
def F.CENG_TUNE_H_VALUE : Fld := ⟨0x4001c, 0x0, 0, 32⟩
def R.CENG_TUNE_EMAX : Fld := ⟨0x40020, 0x0, 0, 32⟩
def F.CENG_TUNE_EMAX_VALUE : Fld := ⟨0x40020, 0x0, 0, 32⟩
def R.CENG_TUNE_A : Fld := ⟨0x40028, 0x0, 0, 32⟩
def F.CENG_TUNE_A_VALUE : Fld := ⟨0x40028, 0x0, 0, 32⟩
def R.CENG_TUNE_TU : Fld := ⟨0x4002c, 0x0, 0, 32⟩
def F.CENG_TUNE_TU_VALUE : Fld := ⟨0x4002c, 0x0, 0, 32⟩
def R.CENG_TUNE_KU : Fld := ⟨0x40030, 0x0, 0, 32⟩
def F.CENG_TUNE_KU_VALUE : Fld := ⟨0x40030, 0x0, 0, 32⟩
def R.CENG_TUNE_KP_PROP : Fld := ⟨0x40034, 0x0, 0, 32⟩
def F.CENG_TUNE_KP_PROP_VALUE : Fld := ⟨0x40034, 0x0, 0, 32⟩
def R.CENG_TUNE_KI_PROP : Fld := ⟨0x40038, 0x0, 0, 32⟩
def F.CENG_TUNE_KI_PROP_VALUE : Fld := ⟨0x40038, 0x0, 0, 32⟩
def R.CENG_SCL_REF (i : Nat) : Fld := ⟨0x40110 + 0x40 * i, 0x0, 0, 32⟩
def F.CENG_SCL_REF_VALUE (i : Nat) : Fld := ⟨0x40110 + 0x40 * i, 0x0, 0, 32⟩
def R.CENG_SCL_MEAS (i : Nat) : Fld := ⟨0x40114 + 0x40 * i, 0x0, 0, 32⟩
def F.CENG_SCL_MEAS_VALUE (i : Nat) : Fld := ⟨0x40114 + 0x40 * i, 0x0, 0, 32⟩
def R.CENG_SCL_FF (i : Nat) : Fld := ⟨0x40118 + 0x40 * i, 0x0, 0, 32⟩
def F.CENG_SCL_FF_VALUE (i : Nat) : Fld := ⟨0x40118 + 0x40 * i, 0x0, 0, 32⟩
def R.CENG_KP (i : Nat) : Fld := ⟨0x4011c + 0x40 * i, 0x0, 0, 32⟩
def F.CENG_KP_VALUE (i : Nat) : Fld := ⟨0x4011c + 0x40 * i, 0x0, 0, 32⟩
def R.CENG_KI (i : Nat) : Fld := ⟨0x40120 + 0x40 * i, 0x0, 0, 32⟩
def F.CENG_KI_VALUE (i : Nat) : Fld := ⟨0x40120 + 0x40 * i, 0x0, 0, 32⟩
def R.CENG_UMIN (i : Nat) : Fld := ⟨0x40124 + 0x40 * i, 0x0, 0, 32⟩
def F.CENG_UMIN_VALUE (i : Nat) : Fld := ⟨0x40124 + 0x40 * i, 0x0, 0, 32⟩
def R.CENG_UMAX (i : Nat) : Fld := ⟨0x40128 + 0x40 * i, 0x0, 0, 32⟩
def F.CENG_UMAX_VALUE (i : Nat) : Fld := ⟨0x40128 + 0x40 * i, 0x0, 0, 32⟩
def R.CENG_MAN (i : Nat) : Fld := ⟨0x40130 + 0x40 * i, 0x0, 0, 32⟩
def F.CENG_MAN_VALUE (i : Nat) : Fld := ⟨0x40130 + 0x40 * i, 0x0, 0, 32⟩
def R.CENG_OUT (i : Nat) : Fld := ⟨0x41000 + 0x10 * i, 0x0, 0, 32⟩
def F.CENG_OUT_VALUE (i : Nat) : Fld := ⟨0x41000 + 0x10 * i, 0x0, 0, 32⟩
def R.CENG_INT (i : Nat) : Fld := ⟨0x41004 + 0x10 * i, 0x0, 0, 32⟩
def F.CENG_INT_VALUE (i : Nat) : Fld := ⟨0x41004 + 0x10 * i, 0x0, 0, 32⟩
def R.CENG_ERR (i : Nat) : Fld := ⟨0x41008 + 0x10 * i, 0x0, 0, 32⟩
def F.CENG_ERR_VALUE (i : Nat) : Fld := ⟨0x41008 + 0x10 * i, 0x0, 0, 32⟩
def R.CENG_GAIN (i : Nat) : Fld := ⟨0x4100c + 0x10 * i, 0x0, 0, 32⟩
def F.CENG_GAIN_VALUE (i : Nat) : Fld := ⟨0x4100c + 0x10 * i, 0x0, 0, 32⟩
def R.CENG_GTAB (i j : Nat) : Fld := ⟨0x44000 + 0x200 * i + 0x4 * j, 0x0, 0, 32⟩
def F.CENG_GTAB_VALUE (i j : Nat) : Fld := ⟨0x44000 + 0x200 * i + 0x4 * j, 0x0, 0, 32⟩
def R.CENG_GT_EMIN (i : Nat) : Fld := ⟨0x44104 + 0x200 * i, 0x0, 0, 32⟩
def F.CENG_GT_EMIN_VALUE (i : Nat) : Fld := ⟨0x44104 + 0x200 * i, 0x0, 0, 32⟩
def R.CENG_GT_ESTEP (i : Nat) : Fld := ⟨0x44108 + 0x200 * i, 0x0, 0, 32⟩
def F.CENG_GT_ESTEP_VALUE (i : Nat) : Fld := ⟨0x44108 + 0x200 * i, 0x0, 0, 32⟩
def R.CENG_SRC_REF (i : Nat) : Fld := ⟨0x40104 + 0x40 * i, 0x0, 0, 32⟩
def F.CENG_SRC_REF_TYPE (i : Nat) : Fld := ⟨0x40104 + 0x40 * i, 0x0, 0, 2⟩
def F.CENG_SRC_REF_FMT (i : Nat) : Fld := ⟨0x40104 + 0x40 * i, 0x0, 2, 1⟩
def F.CENG_SRC_REF_INDEX (i : Nat) : Fld := ⟨0x40104 + 0x40 * i, 0x0, 3, 5⟩
def F.CENG_SRC_REF_WORD (i : Nat) : Fld := ⟨0x40104 + 0x40 * i, 0x0, 10, 22⟩
def R.CENG_SRC_MEAS (i : Nat) : Fld := ⟨0x40108 + 0x40 * i, 0x0, 0, 32⟩
def F.CENG_SRC_MEAS_TYPE (i : Nat) : Fld := ⟨0x40108 + 0x40 * i, 0x0, 0, 2⟩
def F.CENG_SRC_MEAS_FMT (i : Nat) : Fld := ⟨0x40108 + 0x40 * i, 0x0, 2, 1⟩
def F.CENG_SRC_MEAS_INDEX (i : Nat) : Fld := ⟨0x40108 + 0x40 * i, 0x0, 3, 5⟩
def F.CENG_SRC_MEAS_WORD (i : Nat) : Fld := ⟨0x40108 + 0x40 * i, 0x0, 10, 22⟩
def R.CENG_SRC_FF (i : Nat) : Fld := ⟨0x4010c + 0x40 * i, 0x0, 0, 32⟩
def F.CENG_SRC_FF_TYPE (i : Nat) : Fld := ⟨0x4010c + 0x40 * i, 0x0, 0, 2⟩
def F.CENG_SRC_FF_FMT (i : Nat) : Fld := ⟨0x4010c + 0x40 * i, 0x0, 2, 1⟩
def F.CENG_SRC_FF_INDEX (i : Nat) : Fld := ⟨0x4010c + 0x40 * i, 0x0, 3, 5⟩
def F.CENG_SRC_FF_WORD (i : Nat) : Fld := ⟨0x4010c + 0x40 * i, 0x0, 10, 22⟩

-- spec/11_host_rings.md
def R.HOST_EPOCH : Fld := ⟨0x20008, 0x0, 0, 32⟩
def F.HOST_EPOCH_RESET_EPOCH : Fld := ⟨0x20008, 0x0, 0, 32⟩
def R.HOST_ABI_CAP : Fld := ⟨0x2000c, 0x1000102, 0, 32⟩
def F.HOST_ABI_CAP_MAX_MINOR : Fld := ⟨0x2000c, 0x1000102, 0, 8⟩
def F.HOST_ABI_CAP_MAX_MAJOR : Fld := ⟨0x2000c, 0x1000102, 8, 8⟩
def F.HOST_ABI_CAP_MIN_MINOR : Fld := ⟨0x2000c, 0x1000102, 16, 8⟩
def F.HOST_ABI_CAP_MIN_MAJOR : Fld := ⟨0x2000c, 0x1000102, 24, 8⟩
def R.HOST_ABI_SEL : Fld := ⟨0x20010, 0x0, 0, 32⟩
def F.HOST_ABI_SEL_MINOR : Fld := ⟨0x20010, 0x0, 0, 8⟩
def F.HOST_ABI_SEL_MAJOR : Fld := ⟨0x20010, 0x0, 8, 8⟩
def F.HOST_ABI_SEL_VALID : Fld := ⟨0x20010, 0x0, 16, 1⟩
def R.HOST_STAT : Fld := ⟨0x20014, 0x0, 0, 32⟩
def F.HOST_STAT_ABI_REJ : Fld := ⟨0x20014, 0x0, 0, 1⟩
def F.HOST_STAT_WALK_FAULT : Fld := ⟨0x20014, 0x0, 1, 1⟩
def R.HOST_EVT_EN : Fld := ⟨0x20018, 0x0, 0, 32⟩
def F.HOST_EVT_EN_STATE : Fld := ⟨0x20018, 0x0, 0, 1⟩
def F.HOST_EVT_EN_TRIP : Fld := ⟨0x20018, 0x0, 1, 1⟩
def F.HOST_EVT_EN_ROLE : Fld := ⟨0x20018, 0x0, 2, 1⟩
def F.HOST_EVT_EN_LATE : Fld := ⟨0x20018, 0x0, 3, 1⟩
def F.HOST_EVT_EN_FAULT : Fld := ⟨0x20018, 0x0, 4, 1⟩
def F.HOST_EVT_EN_WALK_DONE : Fld := ⟨0x20018, 0x0, 5, 1⟩
def R.HOST_EVT_CAUSE : Fld := ⟨0x2001c, 0x0, 0, 32⟩
def F.HOST_EVT_CAUSE_STATE : Fld := ⟨0x2001c, 0x0, 0, 1⟩
def F.HOST_EVT_CAUSE_TRIP : Fld := ⟨0x2001c, 0x0, 1, 1⟩
def F.HOST_EVT_CAUSE_ROLE : Fld := ⟨0x2001c, 0x0, 2, 1⟩
def F.HOST_EVT_CAUSE_LATE : Fld := ⟨0x2001c, 0x0, 3, 1⟩
def F.HOST_EVT_CAUSE_FAULT : Fld := ⟨0x2001c, 0x0, 4, 1⟩
def F.HOST_EVT_CAUSE_WALK_DONE : Fld := ⟨0x2001c, 0x0, 5, 1⟩
def R.HOST_EVT_VEC : Fld := ⟨0x20020, 0x0, 0, 32⟩
def F.HOST_EVT_VEC_VEC : Fld := ⟨0x20020, 0x0, 0, 6⟩
def R.HOST_LINK : Fld := ⟨0x20024, 0x0, 0, 32⟩
def F.HOST_LINK_SPEED : Fld := ⟨0x20024, 0x0, 0, 2⟩
def F.HOST_LINK_WIDTH : Fld := ⟨0x20024, 0x0, 2, 3⟩
def F.HOST_LINK_UP : Fld := ⟨0x20024, 0x0, 5, 1⟩
def F.HOST_LINK_LRESETS : Fld := ⟨0x20024, 0x0, 16, 16⟩
def R.HOST_CTX_STAT : Fld := ⟨0x20028, 0x0, 0, 32⟩
def F.HOST_CTX_STAT_PENDING : Fld := ⟨0x20028, 0x0, 0, 5⟩
def R.HOST_CNT_CLR : Fld := ⟨0x2002c, 0x0, 0, 32⟩
def F.HOST_CNT_CLR_CLR : Fld := ⟨0x2002c, 0x0, 0, 1⟩
def R.HOST_RING_CFG (i : Nat) : Fld := ⟨0x21000 + 0x40 * i, 0x100, 0, 32⟩
def F.HOST_RING_CFG_EN (i : Nat) : Fld := ⟨0x21000 + 0x40 * i, 0x100, 0, 1⟩
def F.HOST_RING_CFG_RESUME (i : Nat) : Fld := ⟨0x21000 + 0x40 * i, 0x100, 1, 1⟩
def F.HOST_RING_CFG_TYPE (i : Nat) : Fld := ⟨0x21000 + 0x40 * i, 0x100, 2, 4⟩
def F.HOST_RING_CFG_SIZE (i : Nat) : Fld := ⟨0x21000 + 0x40 * i, 0x100, 6, 5⟩
def F.HOST_RING_CFG_SUB (i : Nat) : Fld := ⟨0x21000 + 0x40 * i, 0x100, 11, 3⟩
def F.HOST_RING_CFG_HALT_ON_FAULT (i : Nat) : Fld := ⟨0x21000 + 0x40 * i, 0x100, 14, 1⟩
def F.HOST_RING_CFG_VEC (i : Nat) : Fld := ⟨0x21000 + 0x40 * i, 0x100, 15, 6⟩
def R.HOST_RING_BASE_LO (i : Nat) : Fld := ⟨0x21004 + 0x40 * i, 0x0, 0, 32⟩
def F.HOST_RING_BASE_LO_BASE (i : Nat) : Fld := ⟨0x21004 + 0x40 * i, 0x0, 0, 32⟩
def R.HOST_RING_BASE_HI (i : Nat) : Fld := ⟨0x21008 + 0x40 * i, 0x0, 0, 32⟩
def F.HOST_RING_BASE_HI_BASE (i : Nat) : Fld := ⟨0x21008 + 0x40 * i, 0x0, 0, 32⟩
def R.HOST_RING_CREDIT (i : Nat) : Fld := ⟨0x2100c + 0x40 * i, 0x0, 0, 32⟩
def F.HOST_RING_CREDIT_CREDIT (i : Nat) : Fld := ⟨0x2100c + 0x40 * i, 0x0, 0, 17⟩
def R.HOST_RING_PI (i : Nat) : Fld := ⟨0x21010 + 0x40 * i, 0x0, 0, 32⟩
def F.HOST_RING_PI_INDEX (i : Nat) : Fld := ⟨0x21010 + 0x40 * i, 0x0, 0, 32⟩
def R.HOST_RING_CI (i : Nat) : Fld := ⟨0x21014 + 0x40 * i, 0x0, 0, 32⟩
def F.HOST_RING_CI_INDEX (i : Nat) : Fld := ⟨0x21014 + 0x40 * i, 0x0, 0, 32⟩
def R.HOST_RING_STAT (i : Nat) : Fld := ⟨0x21018 + 0x40 * i, 0x0, 0, 32⟩
def F.HOST_RING_STAT_STATE (i : Nat) : Fld := ⟨0x21018 + 0x40 * i, 0x0, 0, 2⟩
def F.HOST_RING_STAT_OVER_CREDIT (i : Nat) : Fld := ⟨0x21018 + 0x40 * i, 0x0, 2, 1⟩
def F.HOST_RING_STAT_EN_REJ (i : Nat) : Fld := ⟨0x21018 + 0x40 * i, 0x0, 3, 1⟩
def F.HOST_RING_STAT_CFG_IGN (i : Nat) : Fld := ⟨0x21018 + 0x40 * i, 0x0, 4, 1⟩
def F.HOST_RING_STAT_DB_BAD (i : Nat) : Fld := ⟨0x21018 + 0x40 * i, 0x0, 5, 1⟩
def F.HOST_RING_STAT_DB_DROP (i : Nat) : Fld := ⟨0x21018 + 0x40 * i, 0x0, 6, 1⟩
def F.HOST_RING_STAT_FAULT_HALT (i : Nat) : Fld := ⟨0x21018 + 0x40 * i, 0x0, 7, 1⟩
def F.HOST_RING_STAT_FETCH_HALT (i : Nat) : Fld := ⟨0x21018 + 0x40 * i, 0x0, 8, 1⟩
def F.HOST_RING_STAT_RESET_HALT (i : Nat) : Fld := ⟨0x21018 + 0x40 * i, 0x0, 9, 1⟩
def F.HOST_RING_STAT_WALK_FAULT (i : Nat) : Fld := ⟨0x21018 + 0x40 * i, 0x0, 10, 1⟩
def R.HOST_RING_OUT (i : Nat) : Fld := ⟨0x2101c + 0x40 * i, 0x0, 0, 32⟩
def F.HOST_RING_OUT_OUT (i : Nat) : Fld := ⟨0x2101c + 0x40 * i, 0x0, 0, 17⟩
def R.HOST_RING_IRQ (i : Nat) : Fld := ⟨0x21020 + 0x40 * i, 0x0, 0, 32⟩
def F.HOST_RING_IRQ_CNT (i : Nat) : Fld := ⟨0x21020 + 0x40 * i, 0x0, 0, 8⟩
def F.HOST_RING_IRQ_TIME (i : Nat) : Fld := ⟨0x21020 + 0x40 * i, 0x0, 8, 16⟩
def R.HOST_RING_QREJ (i : Nat) : Fld := ⟨0x21024 + 0x40 * i, 0x0, 0, 32⟩
def F.HOST_RING_QREJ_COUNT (i : Nat) : Fld := ⟨0x21024 + 0x40 * i, 0x0, 0, 32⟩
def R.HOST_RING_ABORT (i : Nat) : Fld := ⟨0x21028 + 0x40 * i, 0x0, 0, 32⟩
def F.HOST_RING_ABORT_COUNT (i : Nat) : Fld := ⟨0x21028 + 0x40 * i, 0x0, 0, 32⟩
def R.HOST_DB (i : Nat) : Fld := ⟨0x22000 + 0x8 * i, 0x0, 0, 32⟩
def F.HOST_DB_PI (i : Nat) : Fld := ⟨0x22000 + 0x8 * i, 0x0, 0, 32⟩

-- spec/12_memory_and_faults.md
def R.MEM_ECC_CTRL : Fld := ⟨0xe0008, 0x1, 0, 32⟩
def F.MEM_ECC_CTRL_SCRUB_EN : Fld := ⟨0xe0008, 0x1, 0, 1⟩
def R.MEM_FLAG : Fld := ⟨0xe000c, 0x0, 0, 32⟩
def F.MEM_FLAG_CE_HIGH : Fld := ⟨0xe000c, 0x0, 0, 1⟩
def F.MEM_FLAG_SPILL_LOST : Fld := ⟨0xe000c, 0x0, 1, 1⟩
def F.MEM_FLAG_FLOG_OVF : Fld := ⟨0xe000c, 0x0, 2, 1⟩
def R.MEM_CHK : Fld := ⟨0xe0010, 0x0, 0, 32⟩
def F.MEM_CHK_CODE : Fld := ⟨0xe0010, 0x0, 0, 4⟩
def F.MEM_CHK_AREA_A : Fld := ⟨0xe0010, 0x0, 8, 8⟩
def F.MEM_CHK_AREA_B : Fld := ⟨0xe0010, 0x0, 16, 8⟩
def R.MEM_CE_LIM : Fld := ⟨0xe0014, 0x40, 0, 32⟩
def F.MEM_CE_LIM_LIM : Fld := ⟨0xe0014, 0x40, 0, 16⟩
def R.MEM_INJ : Fld := ⟨0xe0018, 0x0, 0, 32⟩
def F.MEM_INJ_MODE : Fld := ⟨0xe0018, 0x0, 0, 2⟩
def F.MEM_INJ_CLASS : Fld := ⟨0xe0018, 0x0, 2, 3⟩
def F.MEM_INJ_BIT_A : Fld := ⟨0xe0018, 0x0, 5, 5⟩
def F.MEM_INJ_BIT_B : Fld := ⟨0xe0018, 0x0, 10, 5⟩
def R.MEM_CNT_CLR : Fld := ⟨0xe001c, 0x0, 0, 32⟩
def F.MEM_CNT_CLR_CLR : Fld := ⟨0xe001c, 0x0, 0, 1⟩
def R.MEM_FLOG_IDX : Fld := ⟨0xe0020, 0x0, 0, 32⟩
def F.MEM_FLOG_IDX_WR : Fld := ⟨0xe0020, 0x0, 0, 4⟩
def F.MEM_FLOG_IDX_TOTAL : Fld := ⟨0xe0020, 0x0, 4, 28⟩
def R.MEM_SCRUB (i : Nat) : Fld := ⟨0xe0100 + 0x20 * i, (if i < 3 then 256 else if i = 3 then 128 else 64), 0, 32⟩
def F.MEM_SCRUB_STEP (i : Nat) : Fld := ⟨0xe0100 + 0x20 * i, (if i < 3 then 256 else if i = 3 then 128 else 64), 0, 16⟩
def R.MEM_FLOG (i j : Nat) : Fld := ⟨0xe0400 + 0x10 * i + 0x4 * j, 0x0, 0, 32⟩
def F.MEM_FLOG_WORD (i j : Nat) : Fld := ⟨0xe0400 + 0x10 * i + 0x4 * j, 0x0, 0, 32⟩
def R.MEM_PR_BASE (i j : Nat) : Fld := ⟨0xe1000 + 0x100 * i + 0x10 * j, 0x0, 0, 32⟩
def F.MEM_PR_BASE_GRAN (i j : Nat) : Fld := ⟨0xe1000 + 0x100 * i + 0x10 * j, 0x0, 6, 26⟩
def R.MEM_PR_LIMIT (i j : Nat) : Fld := ⟨0xe1004 + 0x100 * i + 0x10 * j, 0x0, 0, 32⟩
def F.MEM_PR_LIMIT_GRAN (i j : Nat) : Fld := ⟨0xe1004 + 0x100 * i + 0x10 * j, 0x0, 6, 26⟩
def R.MEM_PR_ATTR (i j : Nat) : Fld := ⟨0xe1008 + 0x100 * i + 0x10 * j, 0x0, 0, 32⟩
def F.MEM_PR_ATTR_EN (i j : Nat) : Fld := ⟨0xe1008 + 0x100 * i + 0x10 * j, 0x0, 0, 1⟩
def F.MEM_PR_ATTR_RD (i j : Nat) : Fld := ⟨0xe1008 + 0x100 * i + 0x10 * j, 0x0, 1, 1⟩
def F.MEM_PR_ATTR_WR (i j : Nat) : Fld := ⟨0xe1008 + 0x100 * i + 0x10 * j, 0x0, 2, 1⟩
def R.IOMMU_CTRL : Fld := ⟨0x20800, 0x0, 0, 32⟩
def F.IOMMU_CTRL_MODE : Fld := ⟨0x20800, 0x0, 0, 1⟩
def F.IOMMU_CTRL_DIRBITS : Fld := ⟨0x20800, 0x0, 1, 5⟩
def R.IOMMU_DIR_LO : Fld := ⟨0x20804, 0x0, 0, 32⟩
def F.IOMMU_DIR_LO_ADDR : Fld := ⟨0x20804, 0x0, 12, 20⟩
def R.IOMMU_DIR_HI : Fld := ⟨0x20808, 0x0, 0, 32⟩
def F.IOMMU_DIR_HI_ADDR : Fld := ⟨0x20808, 0x0, 0, 32⟩
def R.IOMMU_INV : Fld := ⟨0x2080c, 0x0, 0, 32⟩
def F.IOMMU_INV_SCOPE : Fld := ⟨0x2080c, 0x0, 0, 2⟩
def R.IOMMU_INV_ADDR : Fld := ⟨0x20810, 0x0, 0, 32⟩
def F.IOMMU_INV_ADDR_PAGE : Fld := ⟨0x20810, 0x0, 0, 27⟩
def R.IOMMU_STAT : Fld := ⟨0x20814, 0x0, 0, 32⟩
def F.IOMMU_STAT_INV_BUSY : Fld := ⟨0x20814, 0x0, 0, 1⟩
def F.IOMMU_STAT_MODE_REJ : Fld := ⟨0x20814, 0x0, 1, 1⟩
def F.IOMMU_STAT_FLT : Fld := ⟨0x20814, 0x0, 2, 1⟩
def R.IOMMU_FLT_ADDR_LO : Fld := ⟨0x20818, 0x0, 0, 32⟩
def F.IOMMU_FLT_ADDR_LO_ADDR : Fld := ⟨0x20818, 0x0, 0, 32⟩
def R.IOMMU_FLT_ADDR_HI : Fld := ⟨0x2081c, 0x0, 0, 32⟩
def F.IOMMU_FLT_ADDR_HI_ADDR : Fld := ⟨0x2081c, 0x0, 0, 32⟩
def R.IOMMU_FLT_INFO : Fld := ⟨0x20820, 0x0, 0, 32⟩
def F.IOMMU_FLT_INFO_KIND : Fld := ⟨0x20820, 0x0, 0, 4⟩
def F.IOMMU_FLT_INFO_WRITE : Fld := ⟨0x20820, 0x0, 4, 1⟩
def F.IOMMU_FLT_INFO_REQ : Fld := ⟨0x20820, 0x0, 5, 8⟩
def R.IOMMU_CNT_MISS : Fld := ⟨0x20824, 0x0, 0, 32⟩
def F.IOMMU_CNT_MISS_COUNT : Fld := ⟨0x20824, 0x0, 0, 32⟩
def R.IOMMU_CNT_FLT : Fld := ⟨0x20828, 0x0, 0, 32⟩
def F.IOMMU_CNT_FLT_COUNT : Fld := ⟨0x20828, 0x0, 0, 32⟩
def R.IOMMU_CNT_CLR : Fld := ⟨0x2082c, 0x0, 0, 32⟩
def F.IOMMU_CNT_CLR_CLR : Fld := ⟨0x2082c, 0x0, 0, 1⟩
def R.MEM_PASS (i : Nat) : Fld := ⟨0xe0104 + 0x20 * i, 0x0, 0, 32⟩
def F.MEM_PASS_COUNT (i : Nat) : Fld := ⟨0xe0104 + 0x20 * i, 0x0, 0, 32⟩
def R.MEM_CE (i : Nat) : Fld := ⟨0xe0108 + 0x20 * i, 0x0, 0, 32⟩
def F.MEM_CE_COUNT (i : Nat) : Fld := ⟨0xe0108 + 0x20 * i, 0x0, 0, 32⟩
def R.MEM_UE (i : Nat) : Fld := ⟨0xe010c + 0x20 * i, 0x0, 0, 32⟩
def F.MEM_UE_COUNT (i : Nat) : Fld := ⟨0xe010c + 0x20 * i, 0x0, 0, 32⟩
def R.MEM_POISON_RD (i : Nat) : Fld := ⟨0xe0110 + 0x20 * i, 0x0, 0, 32⟩
def F.MEM_POISON_RD_COUNT (i : Nat) : Fld := ⟨0xe0110 + 0x20 * i, 0x0, 0, 32⟩

-- spec/13_pair.md
def R.PAIR_CFG : Fld := ⟨0xd0008, 0x20000, 0, 32⟩
def F.PAIR_CFG_PAIR_ID : Fld := ⟨0xd0008, 0x20000, 0, 16⟩
def F.PAIR_CFG_MLVMAX : Fld := ⟨0xd0008, 0x20000, 16, 2⟩
def F.PAIR_CFG_NOTAKE : Fld := ⟨0xd0008, 0x20000, 18, 1⟩
def R.PAIR_STAT : Fld := ⟨0xd000c, 0x170000, 0, 32⟩
def F.PAIR_STAT_ROLE : Fld := ⟨0xd000c, 0x170000, 0, 3⟩
def F.PAIR_STAT_SIDE : Fld := ⟨0xd000c, 0x170000, 3, 1⟩
def F.PAIR_STAT_HOME : Fld := ⟨0xd000c, 0x170000, 4, 1⟩
def F.PAIR_STAT_LINK : Fld := ⟨0xd000c, 0x170000, 5, 2⟩
def F.PAIR_STAT_ACT_OUT : Fld := ⟨0xd000c, 0x170000, 7, 1⟩
def F.PAIR_STAT_ACT_IN : Fld := ⟨0xd000c, 0x170000, 8, 1⟩
def F.PAIR_STAT_ALIGNED : Fld := ⟨0xd000c, 0x170000, 9, 1⟩
def F.PAIR_STAT_TAKE_OK : Fld := ⟨0xd000c, 0x170000, 10, 1⟩
def F.PAIR_STAT_TAKE_ARMED : Fld := ⟨0xd000c, 0x170000, 11, 1⟩
def F.PAIR_STAT_PEER_TAKE_OK : Fld := ⟨0xd000c, 0x170000, 12, 1⟩
def F.PAIR_STAT_MLVER : Fld := ⟨0xd000c, 0x170000, 13, 2⟩
def F.PAIR_STAT_HO_PEND : Fld := ⟨0xd000c, 0x170000, 15, 1⟩
def F.PAIR_STAT_NR : Fld := ⟨0xd000c, 0x170000, 16, 8⟩
def R.PAIR_FLAG : Fld := ⟨0xd0010, 0x0, 0, 32⟩
def F.PAIR_FLAG_ID_CLASH : Fld := ⟨0xd0010, 0x0, 0, 1⟩
def F.PAIR_FLAG_SIDE_CLASH : Fld := ⟨0xd0010, 0x0, 1, 1⟩
def F.PAIR_FLAG_HOME_CLASH : Fld := ⟨0xd0010, 0x0, 2, 1⟩
def F.PAIR_FLAG_MIS_CABLE : Fld := ⟨0xd0010, 0x0, 3, 1⟩
def F.PAIR_FLAG_CLAIM_LOST : Fld := ⟨0xd0010, 0x0, 4, 1⟩
def F.PAIR_FLAG_WIRE_FAULT : Fld := ⟨0xd0010, 0x0, 5, 1⟩
def F.PAIR_FLAG_CK_LAG : Fld := ⟨0xd0010, 0x0, 6, 1⟩
def F.PAIR_FLAG_CK_PARTIAL : Fld := ⟨0xd0010, 0x0, 7, 1⟩
def F.PAIR_FLAG_CK_BAD : Fld := ⟨0xd0010, 0x0, 8, 1⟩
def F.PAIR_FLAG_HO_REJ : Fld := ⟨0xd0010, 0x0, 9, 1⟩
def F.PAIR_FLAG_ADJ_IGN : Fld := ⟨0xd0010, 0x0, 10, 1⟩
def F.PAIR_FLAG_CMD_REJ : Fld := ⟨0xd0010, 0x0, 11, 1⟩
def R.PAIR_CMD : Fld := ⟨0xd0014, 0x0, 0, 32⟩
def F.PAIR_CMD_CMD : Fld := ⟨0xd0014, 0x0, 0, 4⟩
def R.PAIR_EPOCH : Fld := ⟨0xd0018, 0x0, 0, 32⟩
def F.PAIR_EPOCH_EPOCH : Fld := ⟨0xd0018, 0x0, 0, 8⟩
def F.PAIR_EPOCH_SIDE : Fld := ⟨0xd0018, 0x0, 8, 1⟩
def R.PAIR_CKPT : Fld := ⟨0xd001c, 0xa, 0, 32⟩
def F.PAIR_CKPT_K : Fld := ⟨0xd001c, 0xa, 0, 7⟩
def R.PAIR_CKPT_STAT : Fld := ⟨0xd0020, 0xffff0000, 0, 32⟩
def F.PAIR_CKPT_STAT_SEQ : Fld := ⟨0xd0020, 0xffff0000, 0, 16⟩
def F.PAIR_CKPT_STAT_AGE : Fld := ⟨0xd0020, 0xffff0000, 16, 16⟩
def R.PAIR_RET : Fld := ⟨0xd0024, 0x3c, 0, 32⟩
def F.PAIR_RET_HOLDOFF : Fld := ⟨0xd0024, 0x3c, 0, 12⟩
def F.PAIR_RET_INHIBIT : Fld := ⟨0xd0024, 0x3c, 12, 1⟩
def F.PAIR_RET_INHQ_EN : Fld := ⟨0xd0024, 0x3c, 13, 1⟩
def F.PAIR_RET_INHQ : Fld := ⟨0xd0024, 0x3c, 14, 12⟩
def R.PAIR_HO_STAT : Fld := ⟨0xd0028, 0x0, 0, 32⟩
def F.PAIR_HO_STAT_CAUSE : Fld := ⟨0xd0028, 0x0, 0, 4⟩
def F.PAIR_HO_STAT_HOLD_LEFT : Fld := ⟨0xd0028, 0x0, 16, 16⟩
def R.PAIR_HO_H : Fld := ⟨0xd002c, 0x0, 0, 32⟩
def F.PAIR_HO_H_H : Fld := ⟨0xd002c, 0x0, 0, 32⟩
def R.PAIR_DLY : Fld := ⟨0xd0030, 0x0, 0, 32⟩
def F.PAIR_DLY_DM : Fld := ⟨0xd0030, 0x0, 0, 16⟩
def F.PAIR_DLY_RLAG : Fld := ⟨0xd0030, 0x0, 16, 16⟩
def R.PAIR_OFS : Fld := ⟨0xd0034, 0x0, 0, 32⟩
def F.PAIR_OFS_THETA : Fld := ⟨0xd0034, 0x0, 0, 32⟩
def R.PAIR_ASYM : Fld := ⟨0xd0038, 0x0, 0, 32⟩
def F.PAIR_ASYM_ASYM : Fld := ⟨0xd0038, 0x0, 0, 16⟩
def R.PAIR_CHK : Fld := ⟨0xd003c, 0x0, 0, 32⟩
def F.PAIR_CHK_CODE : Fld := ⟨0xd003c, 0x0, 0, 4⟩
def F.PAIR_CHK_REGION : Fld := ⟨0xd003c, 0x0, 4, 4⟩
def R.PAIR_REG_BASE (i : Nat) : Fld := ⟨0xd0100 + 0x8 * i, 0x0, 0, 32⟩
def F.PAIR_REG_BASE_VALUE (i : Nat) : Fld := ⟨0xd0100 + 0x8 * i, 0x0, 6, 18⟩
def R.PAIR_REG_SIZE (i : Nat) : Fld := ⟨0xd0104 + 0x8 * i, 0x0, 0, 32⟩
def F.PAIR_REG_SIZE_VALUE (i : Nat) : Fld := ⟨0xd0104 + 0x8 * i, 0x0, 6, 18⟩
def R.PAIR_HLTH_PEER (i : Nat) : Fld := ⟨0xd0200 + 0x4 * i, 0x0, 0, 32⟩
def F.PAIR_HLTH_PEER_WORD (i : Nat) : Fld := ⟨0xd0200 + 0x4 * i, 0x0, 0, 32⟩
def R.PAIR_HLTH_OWN (i : Nat) : Fld := ⟨0xd0220 + 0x4 * i, 0x0, 0, 32⟩
def F.PAIR_HLTH_OWN_WORD (i : Nat) : Fld := ⟨0xd0220 + 0x4 * i, 0x0, 0, 32⟩
def R.PAIR_CNT_CLAIM : Fld := ⟨0xd0040, 0x0, 0, 32⟩
def F.PAIR_CNT_CLAIM_COUNT : Fld := ⟨0xd0040, 0x0, 0, 32⟩
def R.PAIR_CNT_CKPT : Fld := ⟨0xd0044, 0x0, 0, 32⟩
def F.PAIR_CNT_CKPT_COUNT : Fld := ⟨0xd0044, 0x0, 0, 32⟩
def R.PAIR_CNT_CKBAD : Fld := ⟨0xd0048, 0x0, 0, 32⟩
def F.PAIR_CNT_CKBAD_COUNT : Fld := ⟨0xd0048, 0x0, 0, 32⟩
def R.PAIR_CNT_MERR : Fld := ⟨0xd004c, 0x0, 0, 32⟩
def F.PAIR_CNT_MERR_COUNT : Fld := ⟨0xd004c, 0x0, 0, 32⟩
def R.PAIR_CNT_HO : Fld := ⟨0xd0050, 0x0, 0, 32⟩
def F.PAIR_CNT_HO_COUNT : Fld := ⟨0xd0050, 0x0, 0, 32⟩
def R.PAIR_CNT_CLR : Fld := ⟨0xd0054, 0x0, 0, 32⟩
def F.PAIR_CNT_CLR_CLR : Fld := ⟨0xd0054, 0x0, 0, 1⟩

-- spec/14_safety_island.md
def R.SAFE_STAT : Fld := ⟨0x70008, 0x0, 0, 32⟩
def F.SAFE_STAT_ISTATE : Fld := ⟨0x70008, 0x0, 0, 3⟩
def F.SAFE_STAT_STAGED : Fld := ⟨0x70008, 0x0, 3, 1⟩
def F.SAFE_STAT_WD_ARMED : Fld := ⟨0x70008, 0x0, 4, 1⟩
def F.SAFE_STAT_WD_EXP : Fld := ⟨0x70008, 0x0, 5, 1⟩
def F.SAFE_STAT_SVB : Fld := ⟨0x70008, 0x0, 6, 1⟩
def F.SAFE_STAT_SBT : Fld := ⟨0x70008, 0x0, 7, 1⟩
def F.SAFE_STAT_SAP_ON : Fld := ⟨0x70008, 0x0, 8, 1⟩
def R.SAFE_FLAG : Fld := ⟨0x7000c, 0x0, 0, 32⟩
def F.SAFE_FLAG_CRC_REJ : Fld := ⟨0x7000c, 0x0, 0, 1⟩
def F.SAFE_FLAG_RST_REJ : Fld := ⟨0x7000c, 0x0, 1, 1⟩
def F.SAFE_FLAG_WD_EARLY : Fld := ⟨0x7000c, 0x0, 2, 1⟩
def F.SAFE_FLAG_WD_LATE : Fld := ⟨0x7000c, 0x0, 3, 1⟩
def F.SAFE_FLAG_DISC : Fld := ⟨0x7000c, 0x0, 4, 1⟩
def F.SAFE_FLAG_OUT_FLT : Fld := ⟨0x7000c, 0x0, 5, 1⟩
def F.SAFE_FLAG_CMD_REJ : Fld := ⟨0x7000c, 0x0, 6, 1⟩
def R.SAFE_CMD : Fld := ⟨0x70010, 0x0, 0, 32⟩
def F.SAFE_CMD_CMD : Fld := ⟨0x70010, 0x0, 0, 4⟩
def R.SAFE_CRC : Fld := ⟨0x70014, 0x0, 0, 32⟩
def F.SAFE_CRC_CRC : Fld := ⟨0x70014, 0x0, 0, 32⟩
def R.SAFE_CRC_CUR : Fld := ⟨0x70018, 0x0, 0, 32⟩
def F.SAFE_CRC_CUR_CRC : Fld := ⟨0x70018, 0x0, 0, 32⟩
def R.SAFE_CHK : Fld := ⟨0x7001c, 0x0, 0, 32⟩
def F.SAFE_CHK_CODE : Fld := ⟨0x7001c, 0x0, 0, 4⟩
def F.SAFE_CHK_FCAUSE : Fld := ⟨0x7001c, 0x0, 8, 4⟩
def R.SAFE_WD : Fld := ⟨0x70020, 0x0, 0, 32⟩
def F.SAFE_WD_WD_MIN : Fld := ⟨0x70020, 0x0, 0, 16⟩
def F.SAFE_WD_WD_MAX : Fld := ⟨0x70020, 0x0, 16, 16⟩
def R.SAFE_SVB_SRC : Fld := ⟨0x70024, 0x0, 0, 32⟩
def F.SAFE_SVB_SRC_SIN : Fld := ⟨0x70024, 0x0, 0, 16⟩
def F.SAFE_SVB_SRC_WD : Fld := ⟨0x70024, 0x0, 16, 1⟩
def R.SAFE_SBT_SRC : Fld := ⟨0x7002c, 0x0, 0, 32⟩
def F.SAFE_SBT_SRC_SIN : Fld := ⟨0x7002c, 0x0, 0, 16⟩
def F.SAFE_SBT_SRC_WD : Fld := ⟨0x7002c, 0x0, 16, 1⟩
def R.SAFE_SVB_CFG : Fld := ⟨0x70028, 0x8040, 0, 32⟩
def F.SAFE_SVB_CFG_ARMS : Fld := ⟨0x70028, 0x8040, 0, 6⟩
def F.SAFE_SVB_CFG_ALL : Fld := ⟨0x70028, 0x8040, 6, 1⟩
def F.SAFE_SVB_CFG_RST_HOST : Fld := ⟨0x70028, 0x8040, 7, 1⟩
def F.SAFE_SVB_CFG_G : Fld := ⟨0x70028, 0x8040, 8, 8⟩
def R.SAFE_SBT_CFG : Fld := ⟨0x70030, 0x0, 0, 32⟩
def F.SAFE_SBT_CFG_OUTS : Fld := ⟨0x70030, 0x0, 0, 8⟩
def F.SAFE_SBT_CFG_RST_HOST : Fld := ⟨0x70030, 0x0, 8, 1⟩
def R.SAFE_SAP_IN : Fld := ⟨0x70034, 0x0, 0, 32⟩
def F.SAFE_SAP_IN_SIN : Fld := ⟨0x70034, 0x0, 0, 16⟩
def R.SAFE_SAP_CFG : Fld := ⟨0x70038, 0x3c4000, 0, 32⟩
def F.SAFE_SAP_CFG_OUTS : Fld := ⟨0x70038, 0x3c4000, 0, 8⟩
def F.SAFE_SAP_CFG_ARMS : Fld := ⟨0x70038, 0x3c4000, 8, 6⟩
def F.SAFE_SAP_CFG_NEED_SBT : Fld := ⟨0x70038, 0x3c4000, 14, 1⟩
def F.SAFE_SAP_CFG_DLY : Fld := ⟨0x70038, 0x3c4000, 16, 12⟩
def R.SAFE_IN : Fld := ⟨0x7003c, 0x0, 0, 32⟩
def F.SAFE_IN_STATE : Fld := ⟨0x7003c, 0x0, 0, 32⟩
def R.SAFE_OUT : Fld := ⟨0x70040, 0x0, 0, 32⟩
def F.SAFE_OUT_STATE : Fld := ⟨0x70040, 0x0, 0, 32⟩
def R.SAFE_SIN_CFG (i : Nat) : Fld := ⟨0x70100 + 0x4 * i, 0x6450, 0, 32⟩
def F.SAFE_SIN_CFG_TYPE (i : Nat) : Fld := ⟨0x70100 + 0x4 * i, 0x6450, 0, 2⟩
def F.SAFE_SIN_CFG_DEB (i : Nat) : Fld := ⟨0x70100 + 0x4 * i, 0x6450, 2, 8⟩
def F.SAFE_SIN_CFG_DISC (i : Nat) : Fld := ⟨0x70100 + 0x4 * i, 0x6450, 10, 8⟩
def R.SAFE_SOUT_CFG (i : Nat) : Fld := ⟨0x70140 + 0x4 * i, 0x64147a, 0, 32⟩
def F.SAFE_SOUT_CFG_EN (i : Nat) : Fld := ⟨0x70140 + 0x4 * i, 0x64147a, 0, 1⟩
def F.SAFE_SOUT_CFG_OPT_EN (i : Nat) : Fld := ⟨0x70140 + 0x4 * i, 0x64147a, 1, 1⟩
def F.SAFE_SOUT_CFG_OPW (i : Nat) : Fld := ⟨0x70140 + 0x4 * i, 0x64147a, 2, 7⟩
def F.SAFE_SOUT_CFG_RBT (i : Nat) : Fld := ⟨0x70140 + 0x4 * i, 0x64147a, 9, 7⟩
def F.SAFE_SOUT_CFG_OPI (i : Nat) : Fld := ⟨0x70140 + 0x4 * i, 0x64147a, 16, 12⟩
def R.SAFE_CNT_DEM : Fld := ⟨0x70044, 0x0, 0, 32⟩
def F.SAFE_CNT_DEM_COUNT : Fld := ⟨0x70044, 0x0, 0, 32⟩
def R.SAFE_CNT_OP : Fld := ⟨0x70048, 0x0, 0, 32⟩
def F.SAFE_CNT_OP_COUNT : Fld := ⟨0x70048, 0x0, 0, 32⟩
def R.SAFE_CNT_RST : Fld := ⟨0x7004c, 0x0, 0, 32⟩
def F.SAFE_CNT_RST_COUNT : Fld := ⟨0x7004c, 0x0, 0, 32⟩

-- spec/15_station_logic.md
def R.LOGIC_CFG : Fld := ⟨0x80008, 0xc8, 0, 32⟩
def F.LOGIC_CFG_MULT : Fld := ⟨0x80008, 0xc8, 0, 20⟩
def F.LOGIC_CFG_AUTO : Fld := ⟨0x80008, 0xc8, 20, 1⟩
def F.LOGIC_CFG_RET_EN : Fld := ⟨0x80008, 0xc8, 21, 1⟩
def R.LOGIC_PHASE : Fld := ⟨0x8000c, 0x0, 0, 32⟩
def F.LOGIC_PHASE_PHASE : Fld := ⟨0x8000c, 0x0, 0, 20⟩
def R.LOGIC_CMD : Fld := ⟨0x80010, 0x0, 0, 32⟩
def F.LOGIC_CMD_CMD : Fld := ⟨0x80010, 0x0, 0, 4⟩
def R.LOGIC_STAT : Fld := ⟨0x80014, 0x0, 0, 32⟩
def F.LOGIC_STAT_LSTATE : Fld := ⟨0x80014, 0x0, 0, 3⟩
def F.LOGIC_STAT_BANK : Fld := ⟨0x80014, 0x0, 3, 1⟩
def F.LOGIC_STAT_VALID : Fld := ⟨0x80014, 0x0, 4, 1⟩
def F.LOGIC_STAT_XPEND : Fld := ⟨0x80014, 0x0, 5, 1⟩
def F.LOGIC_STAT_STOP_PEND : Fld := ⟨0x80014, 0x0, 6, 1⟩
def F.LOGIC_STAT_RET_BUSY : Fld := ⟨0x80014, 0x0, 7, 1⟩
def F.LOGIC_STAT_HCAUSE : Fld := ⟨0x80014, 0x0, 8, 4⟩
def R.LOGIC_FLAG : Fld := ⟨0x80018, 0x0, 0, 32⟩
def F.LOGIC_FLAG_OVR : Fld := ⟨0x80018, 0x0, 0, 1⟩
def F.LOGIC_FLAG_CMD_REJ : Fld := ⟨0x80018, 0x0, 1, 1⟩
def F.LOGIC_FLAG_ACC_REJ : Fld := ⟨0x80018, 0x0, 2, 1⟩
def F.LOGIC_FLAG_RD_ERR : Fld := ⟨0x80018, 0x0, 3, 1⟩
def F.LOGIC_FLAG_FORCE_ORPHAN : Fld := ⟨0x80018, 0x0, 4, 1⟩
def F.LOGIC_FLAG_FORCE_DROPPED : Fld := ⟨0x80018, 0x0, 5, 1⟩
def F.LOGIC_FLAG_RET_LOST : Fld := ⟨0x80018, 0x0, 6, 1⟩
def F.LOGIC_FLAG_RET_ERR : Fld := ⟨0x80018, 0x0, 7, 1⟩
def F.LOGIC_FLAG_RET_SKIP : Fld := ⟨0x80018, 0x0, 8, 1⟩
def F.LOGIC_FLAG_TAKE_PMIS : Fld := ⟨0x80018, 0x0, 9, 1⟩
def F.LOGIC_FLAG_MEM_WDISC : Fld := ⟨0x80018, 0x0, 10, 1⟩
def R.LOGIC_CHK : Fld := ⟨0x8001c, 0x0, 0, 32⟩
def F.LOGIC_CHK_CODE : Fld := ⟨0x8001c, 0x0, 0, 4⟩
def R.LOGIC_XCHK : Fld := ⟨0x80020, 0x0, 0, 32⟩
def F.LOGIC_XCHK_CODE : Fld := ⟨0x80020, 0x0, 0, 4⟩
def F.LOGIC_XCHK_BUSY : Fld := ⟨0x80020, 0x0, 4, 1⟩
def F.LOGIC_XCHK_INDEX : Fld := ⟨0x80020, 0x0, 16, 16⟩
def R.LOGIC_PROG_BASE (i : Nat) : Fld := ⟨0x80024 + 0x4 * i, 0x0, 0, 32⟩
def F.LOGIC_PROG_BASE_BASE (i : Nat) : Fld := ⟨0x80024 + 0x4 * i, 0x0, 12, 12⟩
def R.LOGIC_SHR_BASE : Fld := ⟨0x8002c, 0x0, 0, 32⟩
def F.LOGIC_SHR_BASE_EN : Fld := ⟨0x8002c, 0x0, 0, 1⟩
def F.LOGIC_SHR_BASE_BASE : Fld := ⟨0x8002c, 0x0, 6, 18⟩
def R.LOGIC_RET : Fld := ⟨0x80030, 0x1, 0, 32⟩
def F.LOGIC_RET_EVERY : Fld := ⟨0x80030, 0x1, 0, 8⟩
def R.LOGIC_RET_STAT : Fld := ⟨0x80034, 0x0, 0, 32⟩
def F.LOGIC_RET_STAT_BUF : Fld := ⟨0x80034, 0x0, 0, 1⟩
def F.LOGIC_RET_STAT_VALID : Fld := ⟨0x80034, 0x0, 1, 2⟩
def F.LOGIC_RET_STAT_SEQ : Fld := ⟨0x80034, 0x0, 16, 16⟩
def R.LOGIC_MEM_ADDR : Fld := ⟨0x80038, 0x0, 0, 32⟩
def F.LOGIC_MEM_ADDR_WORD : Fld := ⟨0x80038, 0x0, 2, 14⟩
def F.LOGIC_MEM_ADDR_INC : Fld := ⟨0x80038, 0x0, 16, 1⟩
def R.LOGIC_MEM_DATA : Fld := ⟨0x8003c, 0x0, 0, 32⟩
def F.LOGIC_MEM_DATA_DATA : Fld := ⟨0x8003c, 0x0, 0, 32⟩
def R.LOGIC_FRC_ADDR (i : Nat) : Fld := ⟨0x80800 + 0x8 * i, 0x0, 0, 32⟩
def F.LOGIC_FRC_ADDR_INDEX (i : Nat) : Fld := ⟨0x80800 + 0x8 * i, 0x0, 0, 16⟩
def F.LOGIC_FRC_ADDR_AREA (i : Nat) : Fld := ⟨0x80800 + 0x8 * i, 0x0, 16, 4⟩
def F.LOGIC_FRC_ADDR_WORD (i : Nat) : Fld := ⟨0x80800 + 0x8 * i, 0x0, 20, 1⟩
def F.LOGIC_FRC_ADDR_ORPHAN (i : Nat) : Fld := ⟨0x80800 + 0x8 * i, 0x0, 21, 1⟩
def F.LOGIC_FRC_ADDR_DROPPED (i : Nat) : Fld := ⟨0x80800 + 0x8 * i, 0x0, 22, 1⟩
def F.LOGIC_FRC_ADDR_EN (i : Nat) : Fld := ⟨0x80800 + 0x8 * i, 0x0, 31, 1⟩
def R.LOGIC_FRC_VAL (i : Nat) : Fld := ⟨0x80804 + 0x8 * i, 0x0, 0, 32⟩
def F.LOGIC_FRC_VAL_VALUE (i : Nat) : Fld := ⟨0x80804 + 0x8 * i, 0x0, 0, 32⟩
def R.LOGIC_IMAP_CFG (i : Nat) : Fld := ⟨0x81000 + 0x8 * i, 0x0, 0, 32⟩
def F.LOGIC_IMAP_CFG_TYPE (i : Nat) : Fld := ⟨0x81000 + 0x8 * i, 0x0, 0, 3⟩
def R.LOGIC_IMAP_ARG (i : Nat) : Fld := ⟨0x81004 + 0x8 * i, 0x0, 0, 32⟩
def F.LOGIC_IMAP_ARG_ARG (i : Nat) : Fld := ⟨0x81004 + 0x8 * i, 0x0, 0, 32⟩
def R.LOGIC_OMAP_CFG (i : Nat) : Fld := ⟨0x81800 + 0x10 * i, 0x0, 0, 32⟩
def F.LOGIC_OMAP_CFG_TYPE (i : Nat) : Fld := ⟨0x81800 + 0x10 * i, 0x0, 0, 3⟩
def R.LOGIC_OMAP_ARG (i : Nat) : Fld := ⟨0x81804 + 0x10 * i, 0x0, 0, 32⟩
def F.LOGIC_OMAP_ARG_ARG (i : Nat) : Fld := ⟨0x81804 + 0x10 * i, 0x0, 0, 32⟩
def R.LOGIC_OMAP_MASK (i : Nat) : Fld := ⟨0x81808 + 0x10 * i, 0xffffffff, 0, 32⟩
def F.LOGIC_OMAP_MASK_MASK (i : Nat) : Fld := ⟨0x81808 + 0x10 * i, 0xffffffff, 0, 32⟩
def R.LOGIC_TEXEC_LAST : Fld := ⟨0x80040, 0x0, 0, 32⟩
def F.LOGIC_TEXEC_LAST_COUNT : Fld := ⟨0x80040, 0x0, 0, 32⟩
def R.LOGIC_TEXEC_MAX : Fld := ⟨0x80044, 0x0, 0, 32⟩
def F.LOGIC_TEXEC_MAX_COUNT : Fld := ⟨0x80044, 0x0, 0, 32⟩
def R.LOGIC_CNT_CYC : Fld := ⟨0x80050, 0x0, 0, 32⟩
def F.LOGIC_CNT_CYC_COUNT : Fld := ⟨0x80050, 0x0, 0, 32⟩
def R.LOGIC_CNT_OVR : Fld := ⟨0x80054, 0x0, 0, 32⟩
def F.LOGIC_CNT_OVR_COUNT : Fld := ⟨0x80054, 0x0, 0, 32⟩
def R.LOGIC_CNT_XCHG : Fld := ⟨0x80058, 0x0, 0, 32⟩
def F.LOGIC_CNT_XCHG_COUNT : Fld := ⟨0x80058, 0x0, 0, 32⟩
def R.LOGIC_CNT_RET : Fld := ⟨0x8005c, 0x0, 0, 32⟩
def F.LOGIC_CNT_RET_COUNT : Fld := ⟨0x8005c, 0x0, 0, 32⟩
def R.LOGIC_CNT_RETERR : Fld := ⟨0x80060, 0x0, 0, 32⟩
def F.LOGIC_CNT_RETERR_COUNT : Fld := ⟨0x80060, 0x0, 0, 32⟩
def R.LOGIC_CNT_ACCREJ : Fld := ⟨0x80064, 0x0, 0, 32⟩
def F.LOGIC_CNT_ACCREJ_COUNT : Fld := ⟨0x80064, 0x0, 0, 32⟩
def R.LOGIC_CNT_CANOK : Fld := ⟨0x80068, 0x0, 0, 32⟩
def F.LOGIC_CNT_CANOK_COUNT : Fld := ⟨0x80068, 0x0, 0, 32⟩
def R.LOGIC_CNT_CANERR : Fld := ⟨0x8006c, 0x0, 0, 32⟩
def F.LOGIC_CNT_CANERR_COUNT : Fld := ⟨0x8006c, 0x0, 0, 32⟩

-- spec/16_vesper_recorder.md
def R.VSP_CFG : Fld := ⟨0x90008, 0x0, 0, 32⟩
def F.VSP_CFG_UNIT : Fld := ⟨0x90008, 0x0, 0, 16⟩
def R.VSP_STAT : Fld := ⟨0x9000c, 0x0, 0, 32⟩
def F.VSP_STAT_DONE : Fld := ⟨0x9000c, 0x0, 0, 16⟩
def F.VSP_STAT_ARMED : Fld := ⟨0x9000c, 0x0, 16, 16⟩
def R.VSP_CMD : Fld := ⟨0x90010, 0x0, 0, 32⟩
def F.VSP_CMD_SOFT : Fld := ⟨0x90010, 0x0, 0, 16⟩
def R.VSP_DONE_TPL : Fld := ⟨0x90014, 0x0, 0, 32⟩
def F.VSP_DONE_TPL_EN : Fld := ⟨0x90014, 0x0, 0, 1⟩
def F.VSP_DONE_TPL_TPL : Fld := ⟨0x90014, 0x0, 5, 19⟩
def R.VSP_FLAG : Fld := ⟨0x90018, 0x0, 0, 32⟩
def F.VSP_FLAG_CFG_WREJ : Fld := ⟨0x90018, 0x0, 0, 1⟩
def R.VSP_CNT_CLR : Fld := ⟨0x9001c, 0x0, 0, 32⟩
def F.VSP_CNT_CLR_CLR : Fld := ⟨0x9001c, 0x0, 0, 1⟩
def R.VSP_CH_CFG (i : Nat) : Fld := ⟨0x90100 + 0x4 * i, 0x0, 0, 32⟩
def F.VSP_CH_CFG_TYPE (i : Nat) : Fld := ⟨0x90100 + 0x4 * i, 0x0, 0, 3⟩
def F.VSP_CH_CFG_INDEX (i : Nat) : Fld := ⟨0x90100 + 0x4 * i, 0x0, 3, 5⟩
def F.VSP_CH_CFG_SEL (i : Nat) : Fld := ⟨0x90100 + 0x4 * i, 0x0, 8, 4⟩
def F.VSP_CH_CFG_SHIFT (i : Nat) : Fld := ⟨0x90100 + 0x4 * i, 0x0, 12, 6⟩
def R.VSP_SEG_CFG (i : Nat) : Fld := ⟨0x90200 + 0x40 * i, 0x0, 0, 32⟩
def F.VSP_SEG_CFG_FULLPRE (i : Nat) : Fld := ⟨0x90200 + 0x40 * i, 0x0, 0, 1⟩
def F.VSP_SEG_CFG_TBASE (i : Nat) : Fld := ⟨0x90200 + 0x40 * i, 0x0, 1, 1⟩
def F.VSP_SEG_CFG_DIV (i : Nat) : Fld := ⟨0x90200 + 0x40 * i, 0x0, 16, 16⟩
def R.VSP_SEG_MEM (i : Nat) : Fld := ⟨0x90204 + 0x40 * i, 0x0, 0, 32⟩
def F.VSP_SEG_MEM_BASE (i : Nat) : Fld := ⟨0x90204 + 0x40 * i, 0x0, 0, 11⟩
def F.VSP_SEG_MEM_LEN (i : Nat) : Fld := ⟨0x90204 + 0x40 * i, 0x0, 16, 12⟩
def R.VSP_SEG_CHLO (i : Nat) : Fld := ⟨0x90208 + 0x40 * i, 0x0, 0, 32⟩
def F.VSP_SEG_CHLO_CH (i : Nat) : Fld := ⟨0x90208 + 0x40 * i, 0x0, 0, 32⟩
def R.VSP_SEG_CHHI (i : Nat) : Fld := ⟨0x9020c + 0x40 * i, 0x0, 0, 32⟩
def F.VSP_SEG_CHHI_CH (i : Nat) : Fld := ⟨0x9020c + 0x40 * i, 0x0, 0, 32⟩
def R.VSP_SEG_POST (i : Nat) : Fld := ⟨0x90210 + 0x40 * i, 0x0, 0, 32⟩
def F.VSP_SEG_POST_POST (i : Nat) : Fld := ⟨0x90210 + 0x40 * i, 0x0, 0, 23⟩
def R.VSP_SEG_TRIG (i : Nat) : Fld := ⟨0x90214 + 0x40 * i, 0x0, 0, 32⟩
def F.VSP_SEG_TRIG_UNITS (i : Nat) : Fld := ⟨0x90214 + 0x40 * i, 0x0, 0, 8⟩
def F.VSP_SEG_TRIG_TRIP (i : Nat) : Fld := ⟨0x90214 + 0x40 * i, 0x0, 8, 1⟩
def R.VSP_SEG_CMD (i : Nat) : Fld := ⟨0x90218 + 0x40 * i, 0x0, 0, 32⟩
def F.VSP_SEG_CMD_CMD (i : Nat) : Fld := ⟨0x90218 + 0x40 * i, 0x0, 0, 3⟩
def R.VSP_SEG_STAT (i : Nat) : Fld := ⟨0x9021c + 0x40 * i, 0x0, 0, 32⟩
def F.VSP_SEG_STAT_STATE (i : Nat) : Fld := ⟨0x9021c + 0x40 * i, 0x0, 0, 3⟩
def F.VSP_SEG_STAT_CODE (i : Nat) : Fld := ⟨0x9021c + 0x40 * i, 0x0, 4, 4⟩
def F.VSP_SEG_STAT_ARM_REJ (i : Nat) : Fld := ⟨0x9021c + 0x40 * i, 0x0, 8, 1⟩
def F.VSP_SEG_STAT_MISS (i : Nat) : Fld := ⟨0x9021c + 0x40 * i, 0x0, 9, 1⟩
def R.VSP_SEG_MISS_NS (i : Nat) : Fld := ⟨0x90228 + 0x40 * i, 0x0, 0, 32⟩
def F.VSP_SEG_MISS_NS_TIME (i : Nat) : Fld := ⟨0x90228 + 0x40 * i, 0x0, 0, 30⟩
def R.VSP_SEG_MISS_SEC (i : Nat) : Fld := ⟨0x9022c + 0x40 * i, 0x0, 0, 32⟩
def F.VSP_SEG_MISS_SEC_TIME (i : Nat) : Fld := ⟨0x9022c + 0x40 * i, 0x0, 0, 32⟩
def R.VSP_SEG_WR (i : Nat) : Fld := ⟨0x90230 + 0x40 * i, 0x0, 0, 32⟩
def F.VSP_SEG_WR_COUNT (i : Nat) : Fld := ⟨0x90230 + 0x40 * i, 0x0, 0, 32⟩
def R.VSP_TU_CFG (i : Nat) : Fld := ⟨0x90600 + 0x10 * i, 0x0, 0, 32⟩
def F.VSP_TU_CFG_EN (i : Nat) : Fld := ⟨0x90600 + 0x10 * i, 0x0, 0, 1⟩
def F.VSP_TU_CFG_TYPE (i : Nat) : Fld := ⟨0x90600 + 0x10 * i, 0x0, 1, 2⟩
def F.VSP_TU_CFG_POL (i : Nat) : Fld := ⟨0x90600 + 0x10 * i, 0x0, 3, 1⟩
def F.VSP_TU_CFG_COND (i : Nat) : Fld := ⟨0x90600 + 0x10 * i, 0x0, 4, 2⟩
def F.VSP_TU_CFG_SRC (i : Nat) : Fld := ⟨0x90600 + 0x10 * i, 0x0, 6, 1⟩
def F.VSP_TU_CFG_INDEX (i : Nat) : Fld := ⟨0x90600 + 0x10 * i, 0x0, 7, 6⟩
def R.VSP_TU_TH (i : Nat) : Fld := ⟨0x90604 + 0x10 * i, 0x0, 0, 32⟩
def F.VSP_TU_TH_TH_LO (i : Nat) : Fld := ⟨0x90604 + 0x10 * i, 0x0, 0, 16⟩
def F.VSP_TU_TH_TH_HI (i : Nat) : Fld := ⟨0x90604 + 0x10 * i, 0x0, 16, 16⟩
def R.VSP_TU_T1 (i : Nat) : Fld := ⟨0x90608 + 0x10 * i, 0x0, 0, 32⟩
def F.VSP_TU_T1_T (i : Nat) : Fld := ⟨0x90608 + 0x10 * i, 0x0, 0, 32⟩
def R.VSP_TU_T2 (i : Nat) : Fld := ⟨0x9060c + 0x10 * i, 0x0, 0, 32⟩
def F.VSP_TU_T2_T (i : Nat) : Fld := ⟨0x9060c + 0x10 * i, 0x0, 0, 32⟩
def R.VSP_SEG_MISSED (i : Nat) : Fld := ⟨0x90220 + 0x40 * i, 0x0, 0, 32⟩
def F.VSP_SEG_MISSED_COUNT (i : Nat) : Fld := ⟨0x90220 + 0x40 * i, 0x0, 0, 32⟩
def R.VSP_SEG_MASKED (i : Nat) : Fld := ⟨0x90224 + 0x40 * i, 0x0, 0, 32⟩
def F.VSP_SEG_MASKED_COUNT (i : Nat) : Fld := ⟨0x90224 + 0x40 * i, 0x0, 0, 32⟩

-- spec/17_analogue_inputs.md
def R.ADC_REF : Fld := ⟨0xa0008, 0x0, 0, 32⟩
def F.ADC_REF_SEL : Fld := ⟨0xa0008, 0x0, 0, 2⟩
def F.ADC_REF_REF_OK : Fld := ⟨0xa0008, 0x0, 2, 1⟩
def R.ADC_CMD : Fld := ⟨0xa000c, 0x0, 0, 32⟩
def F.ADC_CMD_CMD : Fld := ⟨0xa000c, 0x0, 0, 4⟩
def F.ADC_CMD_CV : Fld := ⟨0xa000c, 0x0, 8, 8⟩
def R.ADC_FLAG : Fld := ⟨0xa0010, 0x0, 0, 32⟩
def F.ADC_FLAG_CMD_REJ : Fld := ⟨0xa0010, 0x0, 0, 1⟩
def R.ADC_CHK : Fld := ⟨0xa0014, 0x0, 0, 32⟩
def F.ADC_CHK_CODE : Fld := ⟨0xa0014, 0x0, 0, 4⟩
def F.ADC_CHK_CV : Fld := ⟨0xa0014, 0x0, 4, 3⟩
def R.ADC_TEMP_CAL (i : Nat) : Fld := ⟨0xa0018 + 0x4 * i, 0x0, 0, 32⟩
def F.ADC_TEMP_CAL_TOFS (i : Nat) : Fld := ⟨0xa0018 + 0x4 * i, 0x0, 0, 16⟩
def R.ADC_CFG (i : Nat) : Fld := ⟨0xa0100 + 0x40 * i, 0x0, 0, 32⟩
def F.ADC_CFG_MUX (i : Nat) : Fld := ⟨0xa0100 + 0x40 * i, 0x0, 0, 6⟩
def F.ADC_CFG_CLASS (i : Nat) : Fld := ⟨0xa0100 + 0x40 * i, 0x0, 6, 1⟩
def F.ADC_CFG_ILV (i : Nat) : Fld := ⟨0xa0100 + 0x40 * i, 0x0, 7, 1⟩
def R.ADC_CTRL (i : Nat) : Fld := ⟨0xa0104 + 0x40 * i, 0x0, 0, 32⟩
def F.ADC_CTRL_START (i : Nat) : Fld := ⟨0xa0104 + 0x40 * i, 0x0, 0, 1⟩
def F.ADC_CTRL_RUN (i : Nat) : Fld := ⟨0xa0104 + 0x40 * i, 0x0, 1, 1⟩
def R.ADC_DATA (i : Nat) : Fld := ⟨0xa0108 + 0x40 * i, 0x0, 0, 32⟩
def F.ADC_DATA_SAMPLE (i : Nat) : Fld := ⟨0xa0108 + 0x40 * i, 0x0, 0, 16⟩
def F.ADC_DATA_VALID (i : Nat) : Fld := ⟨0xa0108 + 0x40 * i, 0x0, 16, 1⟩
def F.ADC_DATA_OVR (i : Nat) : Fld := ⟨0xa0108 + 0x40 * i, 0x0, 17, 1⟩
def F.ADC_DATA_REF_UNSETTLED (i : Nat) : Fld := ⟨0xa0108 + 0x40 * i, 0x0, 18, 1⟩
def F.ADC_DATA_CAL_STALE (i : Nat) : Fld := ⟨0xa0108 + 0x40 * i, 0x0, 19, 1⟩
def F.ADC_DATA_CNT (i : Nat) : Fld := ⟨0xa0108 + 0x40 * i, 0x0, 20, 6⟩
def F.ADC_DATA_SRC (i : Nat) : Fld := ⟨0xa0108 + 0x40 * i, 0x0, 26, 6⟩
def R.ADC_PDATA (i : Nat) : Fld := ⟨0xa0400 + 0x4 * i, 0x0, 0, 32⟩
def F.ADC_PDATA_SAMPLE (i : Nat) : Fld := ⟨0xa0400 + 0x4 * i, 0x0, 0, 16⟩
def F.ADC_PDATA_VALID (i : Nat) : Fld := ⟨0xa0400 + 0x4 * i, 0x0, 16, 1⟩
def F.ADC_PDATA_OVR (i : Nat) : Fld := ⟨0xa0400 + 0x4 * i, 0x0, 17, 1⟩
def F.ADC_PDATA_REF_UNSETTLED (i : Nat) : Fld := ⟨0xa0400 + 0x4 * i, 0x0, 18, 1⟩
def F.ADC_PDATA_CAL_STALE (i : Nat) : Fld := ⟨0xa0400 + 0x4 * i, 0x0, 19, 1⟩
def F.ADC_PDATA_CNT (i : Nat) : Fld := ⟨0xa0400 + 0x4 * i, 0x0, 20, 6⟩
def F.ADC_PDATA_SRC (i : Nat) : Fld := ⟨0xa0400 + 0x4 * i, 0x0, 26, 6⟩
def R.ADC_STAT (i : Nat) : Fld := ⟨0xa010c + 0x40 * i, 0x12, 0, 32⟩
def F.ADC_STAT_CAL_BUSY (i : Nat) : Fld := ⟨0xa010c + 0x40 * i, 0x12, 0, 1⟩
def F.ADC_STAT_CAL_STALE (i : Nat) : Fld := ⟨0xa010c + 0x40 * i, 0x12, 1, 1⟩
def F.ADC_STAT_SPARE (i : Nat) : Fld := ⟨0xa010c + 0x40 * i, 0x12, 2, 3⟩
def F.ADC_STAT_START_IGN (i : Nat) : Fld := ⟨0xa010c + 0x40 * i, 0x12, 8, 1⟩
def F.ADC_STAT_START_DLY (i : Nat) : Fld := ⟨0xa010c + 0x40 * i, 0x12, 9, 1⟩
def F.ADC_STAT_CAL_DONE (i : Nat) : Fld := ⟨0xa010c + 0x40 * i, 0x12, 10, 1⟩
def F.ADC_STAT_CAL_ABORT (i : Nat) : Fld := ⟨0xa010c + 0x40 * i, 0x12, 11, 1⟩
def R.ADC_FACT (i j : Nat) : Fld := ⟨0xa0110 + 0x40 * i + 0x4 * j, 0x8000, 0, 32⟩
def F.ADC_FACT_GAIN (i j : Nat) : Fld := ⟨0xa0110 + 0x40 * i + 0x4 * j, 0x8000, 0, 16⟩
def F.ADC_FACT_OFS (i j : Nat) : Fld := ⟨0xa0110 + 0x40 * i + 0x4 * j, 0x8000, 16, 16⟩
def R.ADC_CNT_OVR (i : Nat) : Fld := ⟨0xa0124 + 0x40 * i, 0x0, 0, 32⟩
def F.ADC_CNT_OVR_COUNT (i : Nat) : Fld := ⟨0xa0124 + 0x40 * i, 0x0, 0, 32⟩

-- spec/18_ethernet_and_time.md
def R.ETH_TIME_STAT : Fld := ⟨0xb0008, 0x0, 0, 32⟩
def F.ETH_TIME_STAT_SLEW_BUSY : Fld := ⟨0xb0008, 0x0, 0, 1⟩
def F.ETH_TIME_STAT_HOLDOVER : Fld := ⟨0xb0008, 0x0, 1, 1⟩
def F.ETH_TIME_STAT_ADJ_CLAMP : Fld := ⟨0xb0008, 0x0, 2, 1⟩
def F.ETH_TIME_STAT_STEP_REJ : Fld := ⟨0xb0008, 0x0, 3, 1⟩
def F.ETH_TIME_STAT_SLEW_CANCEL : Fld := ⟨0xb0008, 0x0, 4, 1⟩
def F.ETH_TIME_STAT_PPSIN_OVR : Fld := ⟨0xb0008, 0x0, 5, 1⟩
def F.ETH_TIME_STAT_PPSIN_CNT : Fld := ⟨0xb0008, 0x0, 16, 16⟩
def R.ETH_FREQ : Fld := ⟨0xb000c, 0x0, 0, 32⟩
def F.ETH_FREQ_FREQ : Fld := ⟨0xb000c, 0x0, 0, 32⟩
def R.ETH_SLEW : Fld := ⟨0xb0010, 0x0, 0, 32⟩
def F.ETH_SLEW_SLEW : Fld := ⟨0xb0010, 0x0, 0, 32⟩
def R.ETH_SLEW_LEFT : Fld := ⟨0xb0014, 0x0, 0, 32⟩
def F.ETH_SLEW_LEFT_LEFT : Fld := ⟨0xb0014, 0x0, 0, 32⟩
def R.ETH_SLEW_RATE : Fld := ⟨0xb0018, 0xa, 0, 32⟩
def F.ETH_SLEW_RATE_RATE : Fld := ⟨0xb0018, 0xa, 0, 7⟩
def R.ETH_STEP_SEC : Fld := ⟨0xb001c, 0x0, 0, 32⟩
def F.ETH_STEP_SEC_SEC : Fld := ⟨0xb001c, 0x0, 0, 32⟩
def R.ETH_STEP_NS : Fld := ⟨0xb0020, 0x0, 0, 32⟩
def F.ETH_STEP_NS_NS : Fld := ⟨0xb0020, 0x0, 0, 30⟩
def R.ETH_STEP_CMD : Fld := ⟨0xb0024, 0x0, 0, 32⟩
def F.ETH_STEP_CMD_GO : Fld := ⟨0xb0024, 0x0, 0, 1⟩
def R.ETH_PPS_CFG : Fld := ⟨0xb0028, 0x190, 0, 32⟩
def F.ETH_PPS_CFG_PPS_OUT_EN : Fld := ⟨0xb0028, 0x190, 0, 1⟩
def F.ETH_PPS_CFG_PPS_IN_EN : Fld := ⟨0xb0028, 0x190, 1, 1⟩
def F.ETH_PPS_CFG_WIDTH : Fld := ⟨0xb0028, 0x190, 2, 10⟩
def F.ETH_PPS_CFG_OUT_OFS : Fld := ⟨0xb0028, 0x190, 12, 20⟩
def R.ETH_PPSIN_NS : Fld := ⟨0xb002c, 0x0, 0, 32⟩
def F.ETH_PPSIN_NS_TIME : Fld := ⟨0xb002c, 0x0, 0, 30⟩
def R.ETH_PPSIN_SEC : Fld := ⟨0xb0030, 0x0, 0, 32⟩
def F.ETH_PPSIN_SEC_TIME : Fld := ⟨0xb0030, 0x0, 0, 32⟩
def R.ETH_EVT_TPL : Fld := ⟨0xb0034, 0x0, 0, 32⟩
def F.ETH_EVT_TPL_EN : Fld := ⟨0xb0034, 0x0, 0, 1⟩
def F.ETH_EVT_TPL_TPL : Fld := ⟨0xb0034, 0x0, 5, 19⟩
def R.ETH_GSE_BASE : Fld := ⟨0xb0038, 0x0, 0, 32⟩
def F.ETH_GSE_BASE_BASE : Fld := ⟨0xb0038, 0x0, 8, 16⟩
def R.ETH_SV_BASE : Fld := ⟨0xb003c, 0x0, 0, 32⟩
def F.ETH_SV_BASE_BASE : Fld := ⟨0xb003c, 0x0, 8, 16⟩
def R.ETH_GSE_CHG : Fld := ⟨0xb0040, 0x0, 0, 32⟩
def F.ETH_GSE_CHG_CHG : Fld := ⟨0xb0040, 0x0, 0, 32⟩
def R.ETH_SV_CHG : Fld := ⟨0xb0044, 0x0, 0, 32⟩
def F.ETH_SV_CHG_CHG : Fld := ⟨0xb0044, 0x0, 0, 16⟩
def R.ETH_PORT_CFG (i : Nat) : Fld := ⟨0xb0100 + 0x80 * i, 0x4, 0, 32⟩
def F.ETH_PORT_CFG_MODE (i : Nat) : Fld := ⟨0xb0100 + 0x80 * i, 0x4, 0, 2⟩
def F.ETH_PORT_CFG_AN_EN (i : Nat) : Fld := ⟨0xb0100 + 0x80 * i, 0x4, 2, 1⟩
def F.ETH_PORT_CFG_STAMP (i : Nat) : Fld := ⟨0xb0100 + 0x80 * i, 0x4, 3, 1⟩
def R.ETH_PORT_STAT (i : Nat) : Fld := ⟨0xb0104 + 0x80 * i, 0x0, 0, 32⟩
def F.ETH_PORT_STAT_LINK (i : Nat) : Fld := ⟨0xb0104 + 0x80 * i, 0x0, 0, 1⟩
def F.ETH_PORT_STAT_AN_DONE (i : Nat) : Fld := ⟨0xb0104 + 0x80 * i, 0x0, 1, 1⟩
def F.ETH_PORT_STAT_TSQ_OVF (i : Nat) : Fld := ⟨0xb0104 + 0x80 * i, 0x0, 2, 1⟩
def R.ETH_LAT (i : Nat) : Fld := ⟨0xb0108 + 0x80 * i, 0x1a00260, 0, 32⟩
def F.ETH_LAT_RXLAT (i : Nat) : Fld := ⟨0xb0108 + 0x80 * i, 0x1a00260, 0, 16⟩
def F.ETH_LAT_TXLAT (i : Nat) : Fld := ⟨0xb0108 + 0x80 * i, 0x1a00260, 16, 16⟩
def R.ETH_ASYM (i : Nat) : Fld := ⟨0xb010c + 0x80 * i, 0x0, 0, 32⟩
def F.ETH_ASYM_ASYM (i : Nat) : Fld := ⟨0xb010c + 0x80 * i, 0x0, 0, 16⟩
def R.ETH_TSQ_HEAD (i : Nat) : Fld := ⟨0xb0110 + 0x80 * i, 0x0, 0, 32⟩
def F.ETH_TSQ_HEAD_TSID (i : Nat) : Fld := ⟨0xb0110 + 0x80 * i, 0x0, 0, 16⟩
def F.ETH_TSQ_HEAD_VALID (i : Nat) : Fld := ⟨0xb0110 + 0x80 * i, 0x0, 16, 1⟩
def F.ETH_TSQ_HEAD_DEPTH (i : Nat) : Fld := ⟨0xb0110 + 0x80 * i, 0x0, 17, 5⟩
def R.ETH_TSQ_NS (i : Nat) : Fld := ⟨0xb0114 + 0x80 * i, 0x0, 0, 32⟩
def F.ETH_TSQ_NS_NS (i : Nat) : Fld := ⟨0xb0114 + 0x80 * i, 0x0, 0, 30⟩
def R.ETH_TSQ_SEC (i : Nat) : Fld := ⟨0xb0118 + 0x80 * i, 0x0, 0, 32⟩
def F.ETH_TSQ_SEC_SEC (i : Nat) : Fld := ⟨0xb0118 + 0x80 * i, 0x0, 0, 32⟩
def R.ETH_TSQ_FRAC (i : Nat) : Fld := ⟨0xb011c + 0x80 * i, 0x0, 0, 32⟩
def F.ETH_TSQ_FRAC_FRAC (i : Nat) : Fld := ⟨0xb011c + 0x80 * i, 0x0, 0, 16⟩
def R.ETH_GSE_MAC (i : Nat) : Fld := ⟨0xb0400 + 0x10 * i, 0x0, 0, 32⟩
def F.ETH_GSE_MAC_MAC (i : Nat) : Fld := ⟨0xb0400 + 0x10 * i, 0x0, 0, 32⟩
def R.ETH_SV_MAC (i : Nat) : Fld := ⟨0xb0600 + 0x10 * i, 0x0, 0, 32⟩
def F.ETH_SV_MAC_MAC (i : Nat) : Fld := ⟨0xb0600 + 0x10 * i, 0x0, 0, 32⟩
def R.ETH_GSE_ID (i : Nat) : Fld := ⟨0xb0404 + 0x10 * i, 0x0, 0, 32⟩
def F.ETH_GSE_ID_MAC_HI (i : Nat) : Fld := ⟨0xb0404 + 0x10 * i, 0x0, 0, 16⟩
def F.ETH_GSE_ID_APPID (i : Nat) : Fld := ⟨0xb0404 + 0x10 * i, 0x0, 16, 16⟩
def R.ETH_SV_ID (i : Nat) : Fld := ⟨0xb0604 + 0x10 * i, 0x0, 0, 32⟩
def F.ETH_SV_ID_MAC_HI (i : Nat) : Fld := ⟨0xb0604 + 0x10 * i, 0x0, 0, 16⟩
def F.ETH_SV_ID_APPID (i : Nat) : Fld := ⟨0xb0604 + 0x10 * i, 0x0, 16, 16⟩
def R.ETH_GSE_CFG (i : Nat) : Fld := ⟨0xb0408 + 0x10 * i, 0x0, 0, 32⟩
def F.ETH_GSE_CFG_EN (i : Nat) : Fld := ⟨0xb0408 + 0x10 * i, 0x0, 0, 1⟩
def F.ETH_GSE_CFG_PORTS (i : Nat) : Fld := ⟨0xb0408 + 0x10 * i, 0x0, 1, 4⟩
def F.ETH_GSE_CFG_CONF_CHK (i : Nat) : Fld := ⟨0xb0408 + 0x10 * i, 0x0, 5, 1⟩
def F.ETH_GSE_CFG_SIM_OK (i : Nat) : Fld := ⟨0xb0408 + 0x10 * i, 0x0, 6, 1⟩
def R.ETH_SV_CFG (i : Nat) : Fld := ⟨0xb0608 + 0x10 * i, 0x3e80000, 0, 32⟩
def F.ETH_SV_CFG_EN (i : Nat) : Fld := ⟨0xb0608 + 0x10 * i, 0x3e80000, 0, 1⟩
def F.ETH_SV_CFG_PORTS (i : Nat) : Fld := ⟨0xb0608 + 0x10 * i, 0x3e80000, 1, 4⟩
def F.ETH_SV_CFG_CONF_CHK (i : Nat) : Fld := ⟨0xb0608 + 0x10 * i, 0x3e80000, 5, 1⟩
def F.ETH_SV_CFG_SIM_OK (i : Nat) : Fld := ⟨0xb0608 + 0x10 * i, 0x3e80000, 6, 1⟩
def F.ETH_SV_CFG_ASDU (i : Nat) : Fld := ⟨0xb0608 + 0x10 * i, 0x3e80000, 7, 3⟩
def F.ETH_SV_CFG_STALE_US (i : Nat) : Fld := ⟨0xb0608 + 0x10 * i, 0x3e80000, 16, 16⟩
def R.ETH_CNT_DUP : Fld := ⟨0xb004c, 0x0, 0, 32⟩
def F.ETH_CNT_DUP_COUNT : Fld := ⟨0xb004c, 0x0, 0, 32⟩
def R.ETH_CNT_PARSE : Fld := ⟨0xb0050, 0x0, 0, 32⟩
def F.ETH_CNT_PARSE_COUNT : Fld := ⟨0xb0050, 0x0, 0, 32⟩
def R.ETH_CNT_RXERR (i : Nat) : Fld := ⟨0xb0120 + 0x80 * i, 0x0, 0, 32⟩
def F.ETH_CNT_RXERR_COUNT (i : Nat) : Fld := ⟨0xb0120 + 0x80 * i, 0x0, 0, 32⟩
def R.ETH_CNT_RXNOBUF (i : Nat) : Fld := ⟨0xb0124 + 0x80 * i, 0x0, 0, 32⟩
def F.ETH_CNT_RXNOBUF_COUNT (i : Nat) : Fld := ⟨0xb0124 + 0x80 * i, 0x0, 0, 32⟩
def R.ETH_CNT_RXOK (i : Nat) : Fld := ⟨0xb0128 + 0x80 * i, 0x0, 0, 32⟩
def F.ETH_CNT_RXOK_COUNT (i : Nat) : Fld := ⟨0xb0128 + 0x80 * i, 0x0, 0, 32⟩
def R.ETH_CNT_TXOK (i : Nat) : Fld := ⟨0xb012c + 0x80 * i, 0x0, 0, 32⟩
def F.ETH_CNT_TXOK_COUNT (i : Nat) : Fld := ⟨0xb012c + 0x80 * i, 0x0, 0, 32⟩
def R.ETH_CNT_TSQOVF (i : Nat) : Fld := ⟨0xb0130 + 0x80 * i, 0x0, 0, 32⟩
def F.ETH_CNT_TSQOVF_COUNT (i : Nat) : Fld := ⟨0xb0130 + 0x80 * i, 0x0, 0, 32⟩
def R.ETH_CNT_CLR : Fld := ⟨0xb0048, 0x0, 0, 32⟩
def F.ETH_CNT_CLR_CLR : Fld := ⟨0xb0048, 0x0, 0, 1⟩
def R.ETH_GSE_CONF (i : Nat) : Fld := ⟨0xb040c + 0x10 * i, 0x0, 0, 32⟩
def F.ETH_GSE_CONF_CONFREV (i : Nat) : Fld := ⟨0xb040c + 0x10 * i, 0x0, 0, 32⟩
def R.ETH_SV_CONF (i : Nat) : Fld := ⟨0xb060c + 0x10 * i, 0x0, 0, 32⟩
def F.ETH_SV_CONF_CONFREV (i : Nat) : Fld := ⟨0xb060c + 0x10 * i, 0x0, 0, 32⟩

-- spec/19_can.md
def R.CAN_CORR_CMD : Fld := ⟨0xc0008, 0x0, 0, 32⟩
def F.CAN_CORR_CMD_TAKE : Fld := ⟨0xc0008, 0x0, 0, 1⟩
def R.CAN_CORR_CNT : Fld := ⟨0xc000c, 0x0, 0, 32⟩
def F.CAN_CORR_CNT_CNT : Fld := ⟨0xc000c, 0x0, 0, 32⟩
def R.CAN_CORR_NS : Fld := ⟨0xc0010, 0x0, 0, 32⟩
def F.CAN_CORR_NS_TIME : Fld := ⟨0xc0010, 0x0, 0, 30⟩
def R.CAN_CORR_SEC : Fld := ⟨0xc0014, 0x0, 0, 32⟩
def F.CAN_CORR_SEC_TIME : Fld := ⟨0xc0014, 0x0, 0, 32⟩
def R.CAN_CNT_CLR : Fld := ⟨0xc0018, 0x0, 0, 32⟩
def F.CAN_CNT_CLR_CLR : Fld := ⟨0xc0018, 0x0, 0, 1⟩
def R.CAN_CTRL (i : Nat) : Fld := ⟨0xc0100 + 0x400 * i, 0x0, 0, 32⟩
def F.CAN_CTRL_EN (i : Nat) : Fld := ⟨0xc0100 + 0x400 * i, 0x0, 0, 1⟩
def F.CAN_CTRL_LISTEN (i : Nat) : Fld := ⟨0xc0100 + 0x400 * i, 0x0, 1, 1⟩
def F.CAN_CTRL_FD_EN (i : Nat) : Fld := ⟨0xc0100 + 0x400 * i, 0x0, 2, 1⟩
def F.CAN_CTRL_TRIPLE (i : Nat) : Fld := ⟨0xc0100 + 0x400 * i, 0x0, 3, 1⟩
def F.CAN_CTRL_ABORT_ON_ALONE (i : Nat) : Fld := ⟨0xc0100 + 0x400 * i, 0x0, 4, 1⟩
def F.CAN_CTRL_SYNC_EN (i : Nat) : Fld := ⟨0xc0100 + 0x400 * i, 0x0, 5, 1⟩
def F.CAN_CTRL_RECOVER (i : Nat) : Fld := ⟨0xc0100 + 0x400 * i, 0x0, 6, 1⟩
def R.CAN_NBT (i : Nat) : Fld := ⟨0xc0104 + 0x400 * i, 0x830e07, 0, 32⟩
def F.CAN_NBT_BRP (i : Nat) : Fld := ⟨0xc0104 + 0x400 * i, 0x830e07, 0, 8⟩
def F.CAN_NBT_TSEG1 (i : Nat) : Fld := ⟨0xc0104 + 0x400 * i, 0x830e07, 8, 8⟩
def F.CAN_NBT_TSEG2 (i : Nat) : Fld := ⟨0xc0104 + 0x400 * i, 0x830e07, 16, 7⟩
def F.CAN_NBT_SJW (i : Nat) : Fld := ⟨0xc0104 + 0x400 * i, 0x830e07, 23, 7⟩
def R.CAN_DBT (i : Nat) : Fld := ⟨0xc0108 + 0x400 * i, 0x5ccd40, 0, 32⟩
def F.CAN_DBT_BRP (i : Nat) : Fld := ⟨0xc0108 + 0x400 * i, 0x5ccd40, 0, 5⟩
def F.CAN_DBT_TSEG1 (i : Nat) : Fld := ⟨0xc0108 + 0x400 * i, 0x5ccd40, 5, 5⟩
def F.CAN_DBT_TSEG2 (i : Nat) : Fld := ⟨0xc0108 + 0x400 * i, 0x5ccd40, 10, 4⟩
def F.CAN_DBT_SJW (i : Nat) : Fld := ⟨0xc0108 + 0x400 * i, 0x5ccd40, 14, 4⟩
def F.CAN_DBT_TDC_EN (i : Nat) : Fld := ⟨0xc0108 + 0x400 * i, 0x5ccd40, 18, 1⟩
def F.CAN_DBT_TDCO (i : Nat) : Fld := ⟨0xc0108 + 0x400 * i, 0x5ccd40, 19, 7⟩
def R.CAN_SYNC (i : Nat) : Fld := ⟨0xc010c + 0x400 * i, 0x80, 0, 32⟩
def F.CAN_SYNC_ID (i : Nat) : Fld := ⟨0xc010c + 0x400 * i, 0x80, 0, 29⟩
def F.CAN_SYNC_IDE (i : Nat) : Fld := ⟨0xc010c + 0x400 * i, 0x80, 29, 1⟩
def R.CAN_STAT (i : Nat) : Fld := ⟨0xc0110 + 0x400 * i, 0x0, 0, 32⟩
def F.CAN_STAT_STATE (i : Nat) : Fld := ⟨0xc0110 + 0x400 * i, 0x0, 0, 2⟩
def F.CAN_STAT_NO_ACK_ALONE (i : Nat) : Fld := ⟨0xc0110 + 0x400 * i, 0x0, 2, 1⟩
def F.CAN_STAT_RECOVERING (i : Nat) : Fld := ⟨0xc0110 + 0x400 * i, 0x0, 3, 1⟩
def F.CAN_STAT_TEC (i : Nat) : Fld := ⟨0xc0110 + 0x400 * i, 0x0, 4, 8⟩
def F.CAN_STAT_REC (i : Nat) : Fld := ⟨0xc0110 + 0x400 * i, 0x0, 12, 8⟩
def F.CAN_STAT_TXQ (i : Nat) : Fld := ⟨0xc0110 + 0x400 * i, 0x0, 20, 6⟩
def F.CAN_STAT_SYNC_LATE (i : Nat) : Fld := ⟨0xc0110 + 0x400 * i, 0x0, 26, 1⟩
def F.CAN_STAT_BUSOFF_SEEN (i : Nat) : Fld := ⟨0xc0110 + 0x400 * i, 0x0, 27, 1⟩
def F.CAN_STAT_EN_REJ (i : Nat) : Fld := ⟨0xc0110 + 0x400 * i, 0x0, 28, 1⟩
def F.CAN_STAT_CODE (i : Nat) : Fld := ⟨0xc0110 + 0x400 * i, 0x0, 29, 3⟩
def R.CAN_FILT_ID (i j : Nat) : Fld := ⟨0xc0200 + 0x400 * i + 0x8 * j, 0x0, 0, 32⟩
def F.CAN_FILT_ID_ID (i j : Nat) : Fld := ⟨0xc0200 + 0x400 * i + 0x8 * j, 0x0, 0, 29⟩
def F.CAN_FILT_ID_IDE (i j : Nat) : Fld := ⟨0xc0200 + 0x400 * i + 0x8 * j, 0x0, 29, 1⟩
def F.CAN_FILT_ID_RING (i j : Nat) : Fld := ⟨0xc0200 + 0x400 * i + 0x8 * j, 0x0, 30, 1⟩
def F.CAN_FILT_ID_LOGIC (i j : Nat) : Fld := ⟨0xc0200 + 0x400 * i + 0x8 * j, 0x0, 31, 1⟩
def R.CAN_FILT_MASK (i j : Nat) : Fld := ⟨0xc0204 + 0x400 * i + 0x8 * j, 0x0, 0, 32⟩
def F.CAN_FILT_MASK_MASK (i j : Nat) : Fld := ⟨0xc0204 + 0x400 * i + 0x8 * j, 0x0, 0, 29⟩
def F.CAN_FILT_MASK_EN (i j : Nat) : Fld := ⟨0xc0204 + 0x400 * i + 0x8 * j, 0x0, 29, 1⟩
def R.CAN_CNT_TXOK (i : Nat) : Fld := ⟨0xc0120 + 0x400 * i, 0x0, 0, 32⟩
def F.CAN_CNT_TXOK_COUNT (i : Nat) : Fld := ⟨0xc0120 + 0x400 * i, 0x0, 0, 32⟩
def R.CAN_CNT_RXOK (i : Nat) : Fld := ⟨0xc0124 + 0x400 * i, 0x0, 0, 32⟩
def F.CAN_CNT_RXOK_COUNT (i : Nat) : Fld := ⟨0xc0124 + 0x400 * i, 0x0, 0, 32⟩
def R.CAN_CNT_RXOVF (i : Nat) : Fld := ⟨0xc0128 + 0x400 * i, 0x0, 0, 32⟩
def F.CAN_CNT_RXOVF_COUNT (i : Nat) : Fld := ⟨0xc0128 + 0x400 * i, 0x0, 0, 32⟩
def R.CAN_CNT_RXNOMATCH (i : Nat) : Fld := ⟨0xc012c + 0x400 * i, 0x0, 0, 32⟩
def F.CAN_CNT_RXNOMATCH_COUNT (i : Nat) : Fld := ⟨0xc012c + 0x400 * i, 0x0, 0, 32⟩
def R.CAN_CNT_BUSOFF (i : Nat) : Fld := ⟨0xc0130 + 0x400 * i, 0x0, 0, 32⟩
def F.CAN_CNT_BUSOFF_COUNT (i : Nat) : Fld := ⟨0xc0130 + 0x400 * i, 0x0, 0, 32⟩

-- spec/20_starts_and_images.md
def R.DEV_RST_CAUSE : Fld := ⟨0x14, 0x1, 0, 32⟩
def F.DEV_RST_CAUSE_CAUSE : Fld := ⟨0x14, 0x1, 0, 3⟩
def F.DEV_RST_CAUSE_DAWN_REQ : Fld := ⟨0x14, 0x1, 3, 1⟩
def R.DEV_RESET : Fld := ⟨0x18, 0x0, 0, 32⟩
def F.DEV_RESET_KEY : Fld := ⟨0x18, 0x0, 0, 16⟩
def F.DEV_RESET_DAWN : Fld := ⟨0x18, 0x0, 16, 1⟩
def R.DEV_START : Fld := ⟨0x1c, 0x0, 0, 32⟩
def F.DEV_START_KIND : Fld := ⟨0x1c, 0x0, 0, 1⟩
def F.DEV_START_FAILS : Fld := ⟨0x1c, 0x0, 1, 2⟩
def F.DEV_START_FCODE : Fld := ⟨0x1c, 0x0, 3, 5⟩
def F.DEV_START_TIME : Fld := ⟨0x1c, 0x0, 8, 12⟩
def R.DEV_IMG : Fld := ⟨0x20, 0x0, 0, 32⟩
def F.DEV_IMG_RUN_SLOT : Fld := ⟨0x20, 0x0, 0, 1⟩
def F.DEV_IMG_STATE_A : Fld := ⟨0x20, 0x0, 1, 2⟩
def F.DEV_IMG_STATE_B : Fld := ⟨0x20, 0x0, 3, 2⟩
def F.DEV_IMG_KEYSLOT : Fld := ⟨0x20, 0x0, 5, 3⟩
def F.DEV_IMG_FALLBACK : Fld := ⟨0x20, 0x0, 8, 1⟩
def F.DEV_IMG_INCOMPLETE : Fld := ⟨0x20, 0x0, 9, 1⟩
def R.DEV_IMG_VER : Fld := ⟨0x24, 0x0, 0, 32⟩
def F.DEV_IMG_VER_IMAGE_VER : Fld := ⟨0x24, 0x0, 0, 32⟩
def R.DEV_OTP_STAT : Fld := ⟨0x28, 0x0, 0, 32⟩
def F.DEV_OTP_STAT_PROG : Fld := ⟨0x28, 0x0, 0, 8⟩
def F.DEV_OTP_STAT_REVOKED : Fld := ⟨0x28, 0x0, 8, 8⟩
def F.DEV_OTP_STAT_OTP_BUSY : Fld := ⟨0x28, 0x0, 16, 1⟩
def F.DEV_OTP_STAT_OTP_REJ : Fld := ⟨0x28, 0x0, 17, 1⟩
def F.DEV_OTP_STAT_OTP_ERR : Fld := ⟨0x28, 0x0, 18, 1⟩
def R.DEV_OTP_CMD : Fld := ⟨0x2c, 0x0, 0, 32⟩
def F.DEV_OTP_CMD_CMD : Fld := ⟨0x2c, 0x0, 0, 2⟩
def F.DEV_OTP_CMD_SLOT : Fld := ⟨0x2c, 0x0, 2, 3⟩
def R.DEV_OTP_DATA (i : Nat) : Fld := ⟨0x40 + 0x4 * i, 0x0, 0, 32⟩
def F.DEV_OTP_DATA_WORD (i : Nat) : Fld := ⟨0x40 + 0x4 * i, 0x0, 0, 32⟩

-- spec/21_electrical_and_package.md
def R.DEV_SSC : Fld := ⟨0x30, 0x10, 0, 32⟩
def F.DEV_SSC_EN : Fld := ⟨0x30, 0x10, 0, 1⟩
def F.DEV_SSC_DEPTH : Fld := ⟨0x30, 0x10, 1, 4⟩
def R.DEV_IO : Fld := ⟨0x34, 0x11, 0, 32⟩
def F.DEV_IO_SLEW0 : Fld := ⟨0x34, 0x11, 0, 2⟩
def F.DEV_IO_SLEW2 : Fld := ⟨0x34, 0x11, 4, 2⟩
def F.DEV_IO_LV0 : Fld := ⟨0x34, 0x11, 8, 1⟩
def F.DEV_IO_LV1 : Fld := ⟨0x34, 0x11, 9, 1⟩
def F.DEV_IO_LV2 : Fld := ⟨0x34, 0x11, 10, 1⟩

end Sys2Proof.Machine
end

