-- ==== Sys2Proof/Machine/Ops.lean ====
section
/-! DEFINITION. The named operations every block is built from: reading and writing register
fields, raising device events and interrupts (R345, R346), the global state (R20), the
memories with their error code (R361 to R365) and the fault log (R378). -/

namespace Sys2Proof.Machine

open Sys2Proof

/-! ## Registers -/

/-- The whole word of the register a handle lies in. -/
def State.word (s : State) (f : Fld) : Nat := (sget s.regs (BitVec.ofNat 32 f.rst) f.addr).toNat

/-- The value of a register field. -/
def State.get (s : State) (f : Fld) : Nat := bits (s.word f) f.lo f.w

/-- A register field written by the hardware itself. -/
def State.set (s : State) (f : Fld) (v : Nat) : State :=
  let w := BitVec.ofNat 32 (setBits (s.word f) f.lo f.w v)
  { s with regs := sput s.regs (BitVec.ofNat 32 f.rst) f.addr w }

/-- A one-bit field reads 1. -/
def State.on (s : State) (f : Fld) : Bool := decide (s.get f = 1)

/-- The word listed for a register, none where it holds its reset value. -/
def regAt (m : Sparse Word) (a : Nat) : Option Word := (m.find? (fun p => p.1 = a)).map (·.2)

/-- The registers that differ between two register files: offset, first word, second word. -/
def regDiff (x y : Sparse Word) : List (Nat × Option Word × Option Word) :=
  ((x.map (·.1)) ++ ((y.map (·.1)).filter (fun a => (regAt x a).isNone))).filterMap (fun a =>
    if regAt x a = regAt y a then none else some (a, regAt x a, regAt y a))

/-- A register put back, where it still holds what the command left in it. -/
def regBack (m : Sparse Word) (c : Nat × Option Word × Option Word) : Sparse Word :=
  if regAt m c.1 = c.2.2 then
    (match c.2.1 with
      | some v => sins m c.1 v
      | none => sdel m c.1)
  else m

/-- A one-bit flag set. -/
def State.flag (s : State) (f : Fld) : State := s.set f 1

/-- Bit i of a field. -/
def State.bitOf (s : State) (f : Fld) (i : Nat) : Bool := (s.get f).testBit i

/-- Bits OR-ed into a field. -/
def State.orF (s : State) (f : Fld) (v : Nat) : State := s.set f (s.get f ||| v)

/-- Bits cleared in a field. -/
def State.clrF (s : State) (f : Fld) (v : Nat) : State :=
  s.set f (s.get f &&& (v ^^^ (2 ^ f.w - 1)))

/-- A saturating counter advanced by one. -/
def State.inc (s : State) (f : Fld) : State := s.set f (satInc f.w (s.get f))

/-- A saturating counter advanced by n. -/
def State.addSat (s : State) (f : Fld) (n : Nat) : State :=
  s.set f (min (s.get f + n) (2 ^ f.w - 1))

/-- Several fields set to 0. -/
def State.zero (s : State) (fs : List Fld) : State := fs.foldl (fun t f => t.set f 0) s

/-- A function applied when a condition holds. -/
def State.when (s : State) (c : Bool) (f : State → State) : State := if c then f s else s

/-- A handle's copy for an origin of access: 0 the host, 1 + c core c, 17 the logic engine
(R58). -/
def Fld.of (f : Fld) (org : Nat) : Fld := { f with addr := f.addr + Config.originStride * org }

/-- The next free value (notes/assumptions/2.md). -/
def State.fresh (s : State) : Nat × State := (Config.freeValue s.free, { s with free := s.free + 1 })

/-- Something sent out of the part. -/
def State.emit (s : State) (o : Out) : State := { s with out := s.out ++ [o] }

/-! ## Station time -/

/-- P in force, in station nanoseconds (R36). -/
def State.P (s : State) : Nat := s.time.per

/-- Station time as nanoseconds since its zero (R31). -/
def State.now (s : State) : Nat := s.time.sec * Config.nsPerSec + s.time.ns

/-- Station time in units of 2^-16 ns. -/
def State.now16 (s : State) : Nat := s.now * 2 ^ 16 + s.time.frac % 2 ^ 16

/-- Station time of the apply instant of the current period. -/
def State.tApply (s : State) : Nat := s.now - s.time.pofs

/-- The period engine runs (R37). -/
def State.peRun (s : State) : Bool := s.on F.TIME_STATUS_PE_RUN

/-- Low 32 bits of the period index; 0 when no period engine runs (R333). -/
def State.pidx32 (s : State) : Nat := if s.peRun then s.time.pidx % 2 ^ 32 else 0

/-- Station time set to a number of nanoseconds. -/
def TimeS.setNow (t : TimeS) (n : Nat) : TimeS :=
  { t with sec := n / Config.nsPerSec % 2 ^ 64, ns := n % Config.nsPerSec }

/-! ## Interrupts and device events -/

/-- A message of a vector falls due: sent, or pending while the vector is masked (R345). -/
def State.msi (s : State) (v : Nat) : State :=
  if s.host.unmasked.contains v then s.emit (.msix v)
  else if s.host.pendingV.contains v then s
  else { s with host := { s.host with pendingV := v :: s.host.pendingV } }

/-- Device events of HOST_EVT_CAUSE (R346). -/
inductive Evt
  | state | trip | role | late | fault | walkDone
  deriving DecidableEq, Repr

/-- The bit of an event in HOST_EVT_EN and HOST_EVT_CAUSE. -/
def Evt.bit : Evt → Nat
  | .state => 0 | .trip => 1 | .role => 2 | .late => 3 | .fault => 4 | .walkDone => 5

/-- A cause sets; if it was clear and is enabled, its message goes (R346). -/
def State.evt (s : State) (e : Evt) : State :=
  let was := bit (s.word R.HOST_EVT_CAUSE) e.bit
  let s' := s.set R.HOST_EVT_CAUSE (setBit (s.word R.HOST_EVT_CAUSE) e.bit true)
  if !was && bit (s.word R.HOST_EVT_EN) e.bit then s'.msi (s.get F.HOST_EVT_VEC_VEC) else s'

/-- LATE bits set in a field of TIME_LATE (R53, R55), with the LATE event (R346). -/
def State.late (s : State) (f : Fld) (m : Nat) : State :=
  if s.get f ||| m = s.get f then s else (s.orF f m).evt .late

/-! ## Global state -/

/-- The global states of R20. -/
inductive GState
  | reset | boot | config | ready | run | safeHold
  deriving DecidableEq, Repr

/-- The code of a global state in DEV_STATE.STATE; RESET is never read. -/
def GState.code : GState → Nat
  | .reset => 0 | .boot => 1 | .config => 2 | .ready => 3 | .run => 4 | .safeHold => 5

/-- The global state (R20). -/
def State.gst (s : State) : GState :=
  if s.dev.inReset then .reset
  else match s.get F.DEV_STATE_STATE with
    | 2 => .config
    | 3 => .ready
    | 4 => .run
    | 5 => .safeHold
    | _ => .boot

/-- The device is in READY or RUN, where roles exist (R24). -/
def State.live (s : State) : Bool := s.gst = .ready || s.gst = .run

/-- A transition of the global state with its REASON (R20); sets the STATE event. -/
def State.goto (s : State) (g : GState) (reason : Nat) : State :=
  (((s.set F.DEV_STATE_PREV (s.get F.DEV_STATE_STATE)).set F.DEV_STATE_STATE g.code).set
    F.DEV_STATE_REASON reason).evt .state

/-- A DEV_CMD refused with its cause (R27 to R30). -/
def State.devRej (s : State) (rej : Nat) : State :=
  (s.flag F.DEV_STATE_CMD_REJ).set F.DEV_STATE_REJ rej

/-! ## Memories -/

/-- Offset of shared SRAM in BAR0 (R361). -/
def sramBase : Nat := 0x01000000
/-- Size of shared SRAM. -/
def sramSize : Nat := 0x01000000
/-- Data memory of core c in BAR0 (R226). -/
def dataBase (c : Nat) : Nat := 0x02000000 + 0x40000 * c
/-- Instruction memory of core c in BAR0 (R227). -/
def instrBase (c : Nat) : Nat := 0x02400000 + 0x40000 * c
/-- Vesper memory in BAR0 (R361). -/
def vspBase : Nat := 0x02800000

/-- The memory class at a BAR0 offset (R361); the holes of the instruction memories hold
nothing (R227). -/
def memClass (a : Nat) : Option Nat :=
  if 0x01000000 ≤ a && a < 0x02000000 then some 0
  else if 0x02000000 ≤ a && a < 0x02400000 then some 1
  else if 0x02400000 ≤ a && a < 0x02800000 then
    (if a % 0x40000 < 0x10000 then some 2 else none)
  else if 0x02800000 ≤ a && a < 0x03000000 then some 3
  else if 0x04000000 ≤ a && a < 0x04040000 then some 4
  else none

/-- The model's own offset of the logic engine memory, beyond BAR0 (R361: class 4 is reached
through LOGIC alone). -/
def logicBase : Nat := 0x04000000

/-- A stored byte, error code aside. -/
def memGet (m : List Host.Cell) (a : Nat) : Byte := sget m 0 a

/-- A byte stored; the canonical form keeps addresses rising and lists no byte at its
default 0. -/
def memPut (m : List Host.Cell) (a : Nat) (b : Byte) : List Host.Cell := sput m 0 a b

/-- The canonical form of a memory: addresses strictly rising, no byte at the default. -/
abbrev Memory.wf (m : List Host.Cell) : Prop :=
  (m.map Prod.fst).Pairwise (· < ·) ∧ ∀ c ∈ m, c.2 ≠ 0

/-- k stored bytes from an offset. -/
def State.rdB (s : State) (a k : Nat) : Bytes := (List.range k).map (fun i => memGet s.mem (a + i))

/-- The stored little-endian number of k bytes. -/
def State.rdN (s : State) (a k : Nat) : Nat := leNat (s.rdB a k)

/-- A stored 32-bit word. -/
def State.rd32 (s : State) (a : Nat) : Nat := s.rdN a 4

/-- Bytes stored, error code aside. -/
def memPuts (m : List Host.Cell) (a : Nat) : Bytes → List Host.Cell
  | [] => m
  | b :: r => memPuts (memPut m a b) (a + 1) r

/-- The syndromes of the words of [a, a + k) cleared: fresh codewords (R362). -/
def State.freshCode (s : State) (a k : Nat) : State :=
  { s with synd := s.synd.filter (fun p => decide (p.1 < a / 4 ∨ (a + k + 3) / 4 ≤ p.1)) }

/-- The columns H(i) of the check matrix (R362). -/
def eccCols : List Nat :=
  [0x07, 0x0B, 0x0D, 0x0E, 0x13, 0x15, 0x16, 0x19, 0x1A, 0x1C, 0x23, 0x25, 0x26, 0x29, 0x2A,
   0x2C, 0x31, 0x32, 0x34, 0x38, 0x43, 0x45, 0x46, 0x49, 0x4A, 0x4C, 0x51, 0x52, 0x54, 0x58,
   0x61, 0x62]

/-- The check bits of a word (R362). -/
def eccCheck (d : Nat) : Nat :=
  (List.range 32).foldl (fun c i => if d.testBit i then c ^^^ nth eccCols 0 i else c) 0

/-- What a syndrome says (R363). -/
inductive Syn
  | clean
  | data (i : Nat)
  | check
  | poisoned
  | uncorrectable
  deriving DecidableEq, Repr

/-- Syndrome decoding (R363). -/
def synOf (x : Nat) : Syn :=
  if x = 0 then .clean
  else if x = 0x7F then .poisoned
  else match (List.range 32).find? (fun i => nth eccCols 0 i = x) with
    | some i => .data i
    | none => if (List.range 7).any (fun j => 2 ^ j = x) then .check else .uncorrectable

/-- A fault record into the log (R378): KIND, CLASS, REQ, DETAIL, ADDR, AUX. -/
def State.faultRec (s : State) (kind cls req detail addr aux : Nat) : State :=
  let e := s.get F.MEM_FLOG_IDX_WR
  let s := s.when (s.memc.unread.contains e) (·.flag F.MEM_FLAG_FLOG_OVF)
  let s := s.set (R.MEM_FLOG e 0) (kind + cls * 2 ^ 8 + req * 2 ^ 16 + detail * 2 ^ 24)
  let s := s.set (R.MEM_FLOG e 1) addr
  let s := s.set (R.MEM_FLOG e 2) aux
  let s := s.set (R.MEM_FLOG e 3) s.pidx32
  let s := (s.set F.MEM_FLOG_IDX_WR ((e + 1) % 16)).inc F.MEM_FLOG_IDX_TOTAL
  let s := { s with memc := { s.memc with unread := e :: s.memc.unread.filter (· ≠ e) } }
  s.evt .fault

/-- A value where the manual gives one, else a free value of w bits. -/
def State.orFree (s : State) (w : Nat) : Option Nat → Nat × State
  | some v => (v, s)
  | none => (s.fresh.1 % 2 ^ w, s.fresh.2)

/-- A fault record; the fields that R378 gives no content for this kind hold free values
(notes/assumptions/37.md). -/
def State.faultLog (s : State) (kind : Nat) (cls req detail addr aux : Option Nat) : State :=
  let (c, s) := s.orFree 3 cls
  let (r, s) := s.orFree 8 req
  let (d, s) := s.orFree 8 detail
  let (a, s) := s.orFree 32 addr
  let (x, s) := s.orFree 32 aux
  s.faultRec kind c r d a x

/-- A correctable error counted, and the window limit judged (R363, R367). -/
def State.ceCount (s : State) (cls : Nat) : State :=
  let s := s.inc (F.MEM_CE_COUNT cls)
  let n := s.memc.winCe + 1
  let s := { s with memc := { s.memc with winCe := n } }
  let lim := s.get F.MEM_CE_LIM_LIM
  if lim ≠ 0 && n > lim && !s.memc.winHit then
    let s := { s with memc := { s.memc with winHit := true } }
    (s.flag F.MEM_FLAG_CE_HIGH).faultLog 0x01 none none none none none
  else s

/-- The class used in counters for an offset, 0 where no memory lies. -/
def memCls (a : Nat) : Nat := (memClass a).getD 0

/-- ADDR of a fault record: a BAR0 offset; a free value for a memory that BAR0 does not show
(R378 gives none). -/
def State.faultAddr (s : State) (a : Nat) : Nat × State :=
  if a < logicBase then (a, s) else (s.fresh.1 % 2 ^ 32, s.fresh.2)

/-- A read of the word at a 4-byte aligned offset through the error code (R363): the data,
whether it is bad (uncorrectable or poisoned), and the state after. -/
def State.eccRd (s : State) (a req : Nat) : Nat × Bool × State :=
  let d := s.rd32 a
  let x := sget s.synd 0 (a / 4)
  let cls := memCls a
  match synOf x with
  | .clean => (d, false, s)
  | .data i =>
    let d' := d ^^^ 2 ^ i
    let s := { s with mem := memPuts s.mem a (toLE 4 d'), synd := sput s.synd 0 (a / 4) 0 }
    (d', false, s.ceCount cls)
  | .check =>
    let s := { s with synd := sput s.synd 0 (a / 4) 0 }
    (d, false, s.ceCount cls)
  | .poisoned => (d, true, s.inc (F.MEM_POISON_RD_COUNT cls))
  | .uncorrectable =>
    let s := { s with synd := sput s.synd 0 (a / 4) 0x7F }
    let s := s.when (cls = 2) (fun t => { t with dev := { t.dev with ue25 := true } })
    let (at', s) := s.faultAddr a
    let s := { s with memc := { s.memc with winUe := s.memc.winUe + 1 } }
    (d, true, (s.inc (F.MEM_UE_COUNT cls)).faultLog 0x03 cls req x at' none)

/-- The fault record of a poisoned word that a requester has read (R376, R378). -/
def State.poisonLog (s : State) (a req : Nat) : State :=
  let x := s.faultAddr a
  x.2.faultLog 0x04 (some (memCls a)) (some req) (some 0x7F) x.1 none

/-- A read whose fault is contained by R376 or R365: one fault record, of an uncorrectable word by
R363 itself, of a poisoned one here (notes/assumptions/101.md). -/
def State.eccRdF (s : State) (a req : Nat) : Nat × Bool × State :=
  let pois := decide (sget s.synd 0 (a / 4) = 0x7F)
  let x := s.eccRd a req
  (x.1, x.2.1, x.2.2.when pois (·.poisonLog a req))

/-- Reads of n consecutive words; the bytes before the first bad word, whether one was bad,
and its offset. -/
def State.eccRds (s : State) (a req : Nat) : Nat → Bytes × Option Nat × State
  | 0 => ([], none, s)
  | n + 1 =>
    let (d, bad, s) := s.eccRdF a req
    if bad then ([], some a, s)
    else
      let (r, b, s) := State.eccRds s (a + 4) req n
      (toLE 4 d ++ r, b, s)

/-- A read of k bytes from any offset through the error code of every word it touches. -/
def State.eccRdB (s : State) (a k req : Nat) : Bytes × Option Nat × State :=
  let w0 := a / 4 * 4
  let n := (a + k + 3) / 4 - a / 4
  let (b, bad, s) := s.eccRds w0 req n
  ((b.drop (a - w0)).take k, bad, s)

/-- Words at 4-byte aligned offsets read by an engine through the error code: what the reads
leave (R363). Afterwards their data stand corrected, and a word that is bad is not clean. -/
def State.eccTouch (s : State) (as : List Nat) (req : Nat) : State :=
  as.foldl (fun t a => (t.eccRd a req).2.2) s

/-- Every word of a range read by an engine through the error code; only those whose code does not
fit their data show it (R363). -/
def State.eccTouchIn (s : State) (a n req : Nat) : State :=
  s.eccTouch ((s.synd.map (4 * ·.1)).filter (fun x => decide (a ≤ x) && decide (x < a + n))) req

/-- A write of the word at an offset marks its granule for the next capture: shared SRAM, and
the live logic image (R399, R465). -/
def State.mark (s : State) (a : Nat) : State :=
  if ((sramBase ≤ a && a < sramBase + sramSize) || (logicBase ≤ a && a < logicBase + 0xD000)) &&
      !s.pair.allDirty && !s.pair.dirty.contains (a / 64) then
    { s with pair := { s.pair with dirty := a / 64 :: s.pair.dirty } }
  else s

/-- A whole word stored with a fresh codeword, or with the error MEM_INJ asks for (R364,
MEM_INJ). -/
def State.wr32 (s : State) (a v : Nat) : State :=
  let s := s.mark a
  let s := { s with mem := memPuts s.mem a (toLE 4 v), synd := sput s.synd 0 (a / 4) 0 }
  let md := s.get F.MEM_INJ_MODE
  if md ≠ 0 && md ≠ 3 && memClass a = some (s.get F.MEM_INJ_CLASS) then
    let i := s.get F.MEM_INJ_BIT_A
    let j := s.get F.MEM_INJ_BIT_B
    let flip := if md = 1 then 2 ^ i else 2 ^ i ^^^ 2 ^ j
    let v' := v % 2 ^ 32 ^^^ flip
    let s := { s with mem := memPuts s.mem a (toLE 4 v'),
                      synd := sput s.synd 0 (a / 4) (eccCheck (v % 2 ^ 32) ^^^ eccCheck v') }
    s.set F.MEM_INJ_MODE 0
  else s

/-- Whole words stored from a 4-byte aligned offset. -/
def State.wrWords (s : State) (a : Nat) : List Nat → State
  | [] => s
  | v :: r => State.wrWords (s.wr32 a v) (a + 4) r

/-- A byte string as little-endian words. -/
def wordsOf (b : Bytes) : List Nat :=
  (List.range ((b.length + 3) / 4)).map (fun i => fieldLE b (4 * i) 4)

/-- Bytes of a whole number of words stored from a 4-byte aligned offset. -/
def State.wrB (s : State) (a : Nat) (b : Bytes) : State := s.wrWords a (wordsOf b)

/-- A store of 1 or 2 bytes: the word is read first, and a bad word is not written (R364).
The flag says the store was performed. -/
def State.wrPart (s : State) (a k v req : Nat) : Bool × State :=
  let (d, bad, s) := s.eccRd (a / 4 * 4) req
  if bad then (false, s)
  else (true, s.wr32 (a / 4 * 4) (setBits d (8 * (a % 4)) (8 * k) v))

/-- Whether the word at an offset reads clean or corrected. -/
def State.wordClean (s : State) (a : Nat) : Bool :=
  match synOf (sget s.synd 0 (a / 4)) with
  | .clean | .data _ | .check => true
  | _ => false

/-- Part of a word written: the word is read first, and a bad one keeps what it holds (R364). -/
def State.mergeWr (s : State) (a mask data req : Nat) : Bool × State :=
  if mask = 0 then (false, s)
  else if mask = 0xFFFFFFFF then (true, s.wr32 a data)
  else
    let (d, bad, s) := s.eccRd a req
    if bad then (false, s)
    else (true, s.wr32 a ((d &&& (mask ^^^ 0xFFFFFFFF)) ||| (data &&& mask)))

/-- A single bit of a stored word written by an engine. -/
def State.wrBits (s : State) (a lo w v : Nat) : State := s.wr32 a (setBits (s.rd32 a) lo w v)

end Sys2Proof.Machine
end

