-- ==== Sys2Proof/Machine/Host.lean ====
section
/-! DEFINITION. The host side: address translation (R370 to R375), the rings' states, the
fetch of a descriptor (R327 to R332), credits (R342), completions (R333) and their interrupts
(R345). What a descriptor's engine does with it lies in the engines' files. -/

namespace Sys2Proof.Machine

open Sys2Proof

/-! ## The endpoint (R320) -/

/-- Device ID and class code of the configuration space (R320); the vendor ID is
Config.vendorId. -/
def pcieDevice : Nat := 0x6400
def pcieClass : Nat := 0x118000

/-- Bytes of the windows of BAR0 and BAR2, and the places of the MSI-X table and of the
pending-bit array in BAR2 (R320). -/
def bar0Size : Nat := 0x4000000
def bar2Size : Nat := 0x4000
def msixTableAt : Nat := 0
def msixPbaAt : Nat := 0x2000

/-- Dword w of BAR2 (R320): a table entry is address low and high, data, and vector control with
the mask bit (notes/assumptions/103.md). -/
def State.bar2 (s : State) (w : Nat) : Nat :=
  let (v, k) := (w / 4, w % 4)
  let (a, d) := sget s.host.pcie.table (0, 0) v
  if w < 256 then
    match k with
    | 0 => a % 2 ^ 32
    | 1 => a / 2 ^ 32
    | 2 => d
    | _ => b2n (!s.host.unmasked.contains v)
  else if 4 * w = msixPbaAt then ofBits 32 (fun i => s.host.pendingV.contains i)
  else if 4 * w = msixPbaAt + 4 then ofBits 32 (fun i => s.host.pendingV.contains (32 + i))
  else 0

/-- The bit of AER's uncorrectable error status that notes an Unsupported Request
(notes/assumptions/103.md). -/
def aerUnsupported : Nat := 20

/-- AER notes an uncorrectable error (R320). -/
def State.aer (s : State) (i : Nat) : State :=
  let p := s.host.pcie
  { s with host := { s.host with pcie := { p with aerUnc := setBit p.aerUnc i true } } }

/-! ## Translation -/

/-- Fault kinds of IOMMU_FLT_INFO (R371, R372). -/
inductive XFault
  | range | dirInv | leafInv | perm | rsvd | walkErr
  deriving DecidableEq, Repr

/-- The KIND code of a translation fault. -/
def XFault.code : XFault → Nat
  | .range => 1 | .dirInv => 2 | .leafInv => 3 | .perm => 4 | .rsvd => 5 | .walkErr => 6

/-- Why a host access stopped: a translation fault, or the completer's answer (R376). -/
inductive HFault
  | xlate
  | abort (e : HostErr)
  deriving DecidableEq, Repr

/-- The error that meets a read of [a, a + k), if any. -/
def hmErr (hm : HostMem) (a k : Nat) : Option HostErr :=
  (hm.bad.find? (fun r => decide (r.1 < a + k) && decide (a < r.2.1))).map (·.2.2)

/-- k bytes of host memory at a bus address. -/
def hmRd (hm : HostMem) (a k : Nat) : Bytes :=
  (List.range k).map (fun i => sget hm.cells 0 (a + i))

/-- A translation fault recorded: latched if none is, counted, logged (R375). -/
def State.xfault (s : State) (k : XFault) (write : Bool) (req iova : Nat) : State :=
  let s := if s.on F.IOMMU_STAT_FLT then s else
    let s := s.set R.IOMMU_FLT_ADDR_LO (iova % 2 ^ 32)
    let s := s.set R.IOMMU_FLT_ADDR_HI (iova / 2 ^ 32)
    let s := s.set F.IOMMU_FLT_INFO_KIND k.code
    let s := s.set F.IOMMU_FLT_INFO_WRITE (b2n write)
    (s.set F.IOMMU_FLT_INFO_REQ req).flag F.IOMMU_STAT_FLT
  (s.inc R.IOMMU_CNT_FLT).faultLog 0x05 none req k.code (some (iova % 2 ^ 32)) (some (iova / 2 ^ 32))

/-- A leaf entry taken into the cache: 128 sets of 4 ways, oldest out
(notes/assumptions/7.md; R373). -/
def IommuS.addLeaf (c : IommuS) (page e : Nat) : IommuS :=
  let other := c.leaves.filter (fun p => p.1 % 128 ≠ page % 128)
  let same := c.leaves.filter (fun p => p.1 % 128 = page % 128 && p.1 ≠ page)
  { c with leaves := (page, e) :: same.take 3 ++ other }

/-- A directory entry taken into the cache: 64 entries, oldest out (R373). -/
def IommuS.addDir (c : IommuS) (span e : Nat) : IommuS :=
  { c with dirs := (span, e) :: (c.dirs.filter (fun p => p.1 ≠ span)).take 63 }

/-- The permission of a leaf entry and the bus address it gives (R371). -/
def leafUse (le a : Nat) (write : Bool) : Option Nat :=
  if (!write && !bit le 1) || (write && !bit le 2) then none
  else some (bits le 12 40 * 4096 + a % 4096)

/-- The leaf entry of an address, by the cache or by the walk (R371 to R373). -/
def State.walk (s : State) (hm : HostMem) (a : Nat) : Except XFault Nat × State :=
  let page := a / 4096
  match s.iommu.leaves.find? (fun p => p.1 = page) with
  | some (_, le) => (.ok le, s)
  | none =>
    let s := s.inc R.IOMMU_CNT_MISS
    let span := a / 2 ^ 21
    let dirAt := s.get R.IOMMU_DIR_HI * 2 ^ 32 + s.get R.IOMMU_DIR_LO / 4096 * 4096 + 8 * span
    let dir : Except XFault Nat × State :=
      match s.iommu.dirs.find? (fun p => p.1 = span) with
      | some (_, de) => (.ok de, s)
      | none =>
        if (hmErr hm dirAt 8).isSome then (.error .walkErr, s)
        else
          let de := leNat (hmRd hm dirAt 8)
          if !bit de 0 then (.error .dirInv, s)
          else if bits de 1 11 ≠ 0 then (.error .rsvd, s)
          else (.ok de, { s with iommu := s.iommu.addDir span de })
    match dir with
    | (.error e, s) => (.error e, s)
    | (.ok de, s) =>
      let leafAt := bits de 12 40 * 4096 + 8 * (page % 512)
      if (hmErr hm leafAt 8).isSome then (.error .walkErr, s)
      else
        let le := leNat (hmRd hm leafAt 8)
        if !bit le 0 then (.error .leafInv, s)
        else if bits le 3 9 ≠ 0 then (.error .rsvd, s)
        else (.ok le, { s with iommu := s.iommu.addLeaf page le })

/-- Translation of an I/O virtual address for a request (R370, R371); a fault is recorded. -/
def State.xlate (s : State) (hm : HostMem) (write : Bool) (req a : Nat) : Option Nat × State :=
  if !s.on F.IOMMU_CTRL_MODE then (some a, s)
  else if a / 2 ^ (21 + s.get F.IOMMU_CTRL_DIRBITS) ≠ 0 then
    (none, s.xfault .range write req a)
  else match s.walk hm a with
    | (.error e, s) => (none, s.xfault e write req a)
    | (.ok le, s) => match leafUse le a write with
      | some b => (some b, s)
      | none => (none, s.xfault .perm write req a)

/-- A read that the host answers with an error writes one fault record (R376): a poisoned completion
as a poisoned word, any other with a free KIND (notes/assumptions/101.md). -/
def State.hostErr (s : State) (e : HostErr) (req a : Nat) : State :=
  match e with
  | .ep => s.faultLog 0x04 none req none (some (a % 2 ^ 32)) (some (a / 2 ^ 32))
  | _ =>
    let (k, s) := s.fresh
    s.faultLog (k % 256) none req none (some (a % 2 ^ 32)) (some (a / 2 ^ 32))

/-- Bytes read from host memory at an I/O virtual address, page by page, until a fault. The
first argument bounds the number of pages. -/
def State.hostRd (s : State) (hm : HostMem) (req : Nat) :
    Nat → Nat → Nat → Bytes × Option HFault × State
  | 0, _, _ => ([], none, s)
  | fuel + 1, a, k =>
    if k = 0 then ([], none, s)
    else
      let n := min k (4096 - a % 4096)
      match s.xlate hm false req a with
      | (none, s) => ([], some .xlate, s)
      | (some b, s) =>
        match hmErr hm b n with
        | some e =>
          let lo := ((hm.bad.find? (fun r => decide (r.1 < b + n) && decide (b < r.2.1))).map
            (·.1)).getD b
          (hmRd hm b (lo - b), some (.abort e), s.hostErr e req (a + (lo - b)))
        | none =>
          let (r, f, s) := State.hostRd s hm req fuel (a + n) (k - n)
          (hmRd hm b n ++ r, f, s)

/-- Bytes written to host memory page by page until a fault; the number that went. -/
def State.hostWr (s : State) (hm : HostMem) (req : Nat) :
    Nat → Nat → Bytes → Nat × Bool × State
  | 0, _, _ => (0, true, s)
  | fuel + 1, a, d =>
    if d.length = 0 then (0, true, s)
    else
      let n := min d.length (4096 - a % 4096)
      match s.xlate hm true req a with
      | (none, s) => (0, false, s)
      | (some b, s) =>
        let s := s.emit (.host b (d.take n))
        let (m, ok, s) := State.hostWr s hm req fuel (a + n) (d.drop n)
        (n + m, ok, s)

/-- Pages that k bytes from an address touch. -/
def pagesOf (a k : Nat) : Nat := (a % 4096 + k + 4095) / 4096 + 1

/-! ## Rings -/

/-- The hidden state of ring r. -/
def State.ring (s : State) (r : Nat) : RingS := sget s.host.rings {} r

/-- The hidden state of ring r replaced. -/
def State.setRing (s : State) (r : Nat) (x : RingS) : State :=
  { s with host := { s.host with rings := sput s.host.rings {} r x } }

/-- Ring states (R329). -/
inductive RState
  | disabled | running | draining | halted
  deriving DecidableEq, Repr

/-- The code of a ring state in HOST_RING_STAT. -/
def RState.code : RState → Nat
  | .disabled => 0 | .running => 1 | .draining => 2 | .halted => 3

/-- The state of ring r. -/
def State.rst (s : State) (r : Nat) : RState :=
  match s.get (F.HOST_RING_STAT_STATE r) with
  | 1 => .running
  | 2 => .draining
  | 3 => .halted
  | _ => .disabled

/-- Ring r enters a state. -/
def State.setRst (s : State) (r : Nat) (x : RState) : State :=
  s.set (F.HOST_RING_STAT_STATE r) x.code

/-- Ring types (R324). -/
inductive RType
  | none | work | ctx | dma | tw | vsp | ethTx | ethRx | canTx | canRx | img | undef
  deriving DecidableEq, Repr

/-- The type a TYPE code names. -/
def rtype (code : Nat) : RType :=
  match code with
  | 0 => .none | 1 => .work | 2 => .ctx | 3 => .dma | 4 => .tw | 5 => .vsp | 6 => .ethTx
  | 7 => .ethRx | 8 => .canTx | 9 => .canRx | 10 => .img | _ => .undef

/-- The TYPE code of ring r. From 32 on ring numbers name what a link reset left of a ring: ring
r + 32 of the last one, r + 64 of the one before (R360). -/
def State.rtypeCode (s : State) (r : Nat) : Nat :=
  if r < Config.rings then s.get (F.HOST_RING_CFG_TYPE r) else (s.ring r).lostType

/-- The type of ring r. -/
def State.rtype (s : State) (r : Nat) : RType := Machine.rtype (s.rtypeCode r)

/-- The rings, and what link resets left of rings. -/
def State.ringNos (s : State) : List Nat :=
  List.range Config.rings ++ (s.host.rings.map (·.1)).filter (fun r => decide (Config.rings ≤ r))

/-- The ring r, or what a link reset left of it, of which an engine has a descriptor in work. -/
def State.workRing (s : State) (r : Nat) : Nat :=
  (s.ringNos.find? (fun q => q % Config.rings = r && (s.ring q).outs.any (·.busy))).getD r

/-- Largest SUB of a type (R324). -/
def RType.subMax : RType → Nat
  | .work => 7 | .dma => 3 | .ethTx => 3 | .ethRx => 3 | .canTx => 1 | .canRx => 1 | _ => 0

/-- The minor ABI version from which a type is part of the ABI (R324, R344). -/
def RType.abi : RType → Nat
  | .tw => 1 | .img => 2 | _ => 0

/-- The type completes its descriptors in ring order (R324). -/
def RType.inOrder : RType → Bool
  | .dma | .vsp | .ethTx | .ethRx | .canRx | .img => true
  | _ => false

/-- The selected minor version of ABI 1, when the selection is valid (R344). -/
def State.abi? (s : State) : Option Nat :=
  if s.on F.HOST_ABI_SEL_VALID then some (s.get F.HOST_ABI_SEL_MINOR) else none

/-- The selected minor version, 0 when none is valid. -/
def State.abi (s : State) : Nat := s.abi?.getD 0

/-- The requester number of ring r in fault records (R378). -/
def ringReq (r : Nat) : Nat := 0x10 + r % Config.rings

/-- The ring of a type and SUB that is not DISABLED, if any. -/
def State.ringOf? (s : State) (t : RType) (sub : Nat) : Option Nat :=
  (List.range Config.rings).find? (fun r => s.rst r ≠ .disabled && s.rtype r = t &&
    s.get (F.HOST_RING_CFG_SUB r) = sub)

/-- OUT and OVER_CREDIT brought up to date (R342, R343). -/
def State.ringCounts (s : State) (r : Nat) : State :=
  let n := (s.ring r).outs.length
  let cr := s.get (F.HOST_RING_CREDIT_CREDIT r)
  (s.set (F.HOST_RING_OUT_OUT r) n).set (F.HOST_RING_STAT_OVER_CREDIT r)
    (b2n (cr ≠ 0 && n ≥ cr))

/-- CI passes every completed descriptor (R328). -/
def ciPass : Nat → Nat → List Nat → Nat × List Nat
  | 0, ci, d => (ci, d)
  | fuel + 1, ci, d =>
    if d.contains ci then ciPass fuel ((ci + 1) % 2 ^ 32) (d.filter (· ≠ ci)) else (ci, d)

/-- The I/O virtual address of slot x of ring r (R326). -/
def State.slotAt (s : State) (r x : Nat) : Nat :=
  s.get (R.HOST_RING_BASE_HI r) * 2 ^ 32 + s.get (R.HOST_RING_BASE_LO r) +
    64 * (x % 2 ^ s.get (F.HOST_RING_CFG_SIZE r))

/-- SRC of a ring's completions (R333). -/
def State.ringSrc (s : State) (r : Nat) : Nat :=
  if s.rtype r = .work then 0x18 + s.get (F.HOST_RING_CFG_SUB r) else 0x20 + r

/-- The completion area of a descriptor (R333). -/
def State.cplArea (s : State) (r : Nat) (tag status result pidx flags : Nat) : Bytes :=
  toLE 2 tag ++ toLE 1 (s.ringSrc r) ++ toLE 1 status ++ toLE 4 result ++ toLE 4 pidx ++
    toLE 1 flags ++ toLE 1 1 ++
    toLE 1 (if s.abi = 0 then 0 else s.get R.HOST_EPOCH % 256) ++ toLE 1 0

/-- A completion with IRQ set: its message, or its place in the gathering (R345). -/
def State.ringIrq (s : State) (r : Nat) : State :=
  let cnt := s.get (F.HOST_RING_IRQ_CNT r)
  if s.abi < 2 || cnt = 0 then s.msi (s.get (F.HOST_RING_CFG_VEC r))
  else
    let g := (s.ring r).gathered + 1
    if g ≥ cnt || s.get (F.HOST_RING_IRQ_TIME r) = 0 then
      (s.setRing r { s.ring r with gathered := 0 }).msi (s.get (F.HOST_RING_CFG_VEC r))
    else s.setRing r { s.ring r with gathered := g,
                                     gatherAt := if g = 1 then s.time.cyc else (s.ring r).gatherAt }

/-- Host memory shown with a command: a completion's page walk meets it as it was last shown
(notes/assumptions/31.md). -/
def State.see (s : State) (hm : HostMem) : State := { s with iommu := { s.iommu with view := hm } }

/-- One completion written: the area goes to host memory where its translation lets it (R370 to
R375), then the message (R323), CI moves and a fault completion may halt the ring (R329). -/
def State.cplWrite (s : State) (r : Nat) (c : Cpl) : State :=
  let area := s.cplArea r c.tag c.status c.result s.pidx32 c.flags
  let (_, _, s) := s.hostWr s.iommu.view (ringReq r) 2 (s.slotAt r c.idx + 48) area
  let x := s.ring r
  let x := { x with doneIdx := c.idx :: x.doneIdx, outs := x.outs.filter (·.idx ≠ c.idx) }
  let (ci, d) := ciPass x.doneIdx.length (s.get (R.HOST_RING_CI r)) x.doneIdx
  let s := ((s.setRing r { x with doneIdx := d }).set (R.HOST_RING_CI r) ci).ringCounts r
  let s := s.when c.irq (·.ringIrq r)
  if (c.status = 2 || c.status = 3) && s.rst r = .running &&
      s.on (F.HOST_RING_CFG_HALT_ON_FAULT r) then
    (s.setRst r .halted).flag (F.HOST_RING_STAT_FAULT_HALT r)
  else s

/-- Held completions of a ring in ring order, written as far as their turn has come. -/
def State.cplRelease (s : State) (r : Nat) : Nat → State
  | 0 => s
  | fuel + 1 =>
    match (s.ring r).held.find? (fun c => c.idx = s.get (R.HOST_RING_CI r)) with
    | none => s
    | some c =>
      let x := s.ring r
      State.cplRelease
        ((s.setRing r { x with held := x.held.filter (·.idx ≠ c.idx) }).cplWrite r c) r fuel

/-- A completion of ring r: written at once, or in its turn where the type keeps ring order
(R324, R328). What a link reset left of a ring only loses the descriptor (R360). -/
def State.cpl (s : State) (r : Nat) (c : Cpl) : State :=
  if Config.rings ≤ r then
    let l := (s.ring r).outs.filter (fun d => d.idx ≠ c.idx)
    s.setRing r (if l.isEmpty then {} else { s.ring r with outs := l })
  else if (s.rtype r).inOrder && c.idx ≠ s.get (R.HOST_RING_CI r) then
    let x := s.ring r
    s.setRing r { x with held := c :: x.held }
  else
    let s := s.cplWrite r c
    s.cplRelease r (s.ring r).held.length

/-- The outstanding descriptor of an index. -/
def State.desc? (s : State) (r idx : Nat) : Option Desc :=
  (s.ring r).outs.find? (fun d => d.idx = idx)

/-- TAG of a descriptor (R331). -/
def Desc.tag (d : Desc) : Nat := fieldLE d.bytes 2 2

/-- OP of a descriptor. -/
def Desc.op (d : Desc) : Nat := fieldLE d.bytes 0 1

/-- IRQ of a descriptor. -/
def Desc.irq (d : Desc) : Bool := bit (fieldLE d.bytes 1 1) 0

/-- ORDER of a descriptor. -/
def Desc.order (d : Desc) : Bool := bit (fieldLE d.bytes 1 1) 1

/-- An outstanding descriptor completes. A descriptor that a CANCEL matched after it started
turns DONE into CANCEL_LATE; a failure keeps its status (R341). A descriptor that is no longer
outstanding (R360) completes nothing. -/
def State.complete (s : State) (r idx status result flags : Nat) : State :=
  match s.desc? r idx with
  | none => s
  | some d =>
    let st := if status = 0 && d.cancelLate then 5 else status
    s.cpl r ⟨idx, d.tag, d.irq, st, result, flags, true⟩

/-- A descriptor outstanding with a change. -/
def State.updDesc (s : State) (r idx : Nat) (f : Desc → Desc) : State :=
  let x := s.ring r
  s.setRing r { x with outs := x.outs.map (fun d => if d.idx = idx then f d else d) }

/-- Bits of a descriptor's bytes 1 to 47 that are defined, by type and OP: (first byte, last
byte, mask) (R331, R336, R347, R486, R507, R536, R541, R558). None where the OP is not
defined for the type. -/
def bodyLayout (t : RType) (op : Nat) : Option (List (Nat × Nat × Nat)) :=
  if op = 0x00 then some []
  else if op = 0x7F then some [(8, 9, 0xFF)]
  else match t, op with
    | .work, 1 => some [(8, 39, 0xFF)]
    | .dma, 1 => some [(8, 22, 0xFF), (23, 23, 0x01), (24, 24, 0x01)]
    | .tw, 1 => some [(8, 22, 0xFF), (23, 23, 0x3F), (24, 27, 0xFF)]
    | .ctx, 1 => some [(8, 17, 0xFF), (18, 18, 0x01), (20, 23, 0xFF)]
    | .vsp, 1 => some [(8, 8, 0x0F), (9, 9, 0x01), (12, 19, 0xFF), (24, 31, 0xFF)]
    | .ethTx, 1 => some [(8, 17, 0xFF), (18, 18, 0x01), (20, 21, 0xFF)]
    | .ethRx, 1 => some [(8, 17, 0xFF)]
    | .canTx, 1 => some [(8, 10, 0xFF), (11, 11, 0x7F), (12, 12, 0x3F), (16, 23, 0xFF)]
    | .canRx, 1 => some [(8, 17, 0xFF)]
    | .img, 1 => some [(8, 8, 0x01)]
    | .img, 2 => some [(8, 8, 0x01), (12, 19, 0xFF), (24, 31, 0xFF)]
    | .img, 3 => some [(8, 8, 0x01)]
    | .img, 4 => some [(8, 8, 0x01)]
    | _, _ => none

/-- The defined bits of byte i under a layout. -/
def layoutMask (l : List (Nat × Nat × Nat)) (i : Nat) : Nat :=
  if i = 1 then 0x03
  else if i = 2 || i = 3 then 0xFF
  else match l.find? (fun e => decide (e.1 ≤ i) && decide (i ≤ e.2.1)) with
    | some e => e.2.2
    | none => 0

/-- The first offending byte of a descriptor (R332), if any. -/
def descBad (t : RType) (minor : Nat) (b : Bytes) : Option Nat :=
  let op := fieldLE b 0 1
  match bodyLayout t op with
  | none => some 0
  | some l =>
    if op = 0x7F && minor < 1 then some 0
    else (List.range 48).find? (fun i =>
      i ≠ 0 && (fieldLE b i 1 &&& (layoutMask l i ^^^ 0xFF)) ≠ 0)

/-! ## The staging memory -/

/-- The staging memory replaced, with HOST_CTX_STAT (R348). -/
def State.setTxns (s : State) (l : List Txn) : State :=
  ({ s with host := { s.host with txns := l } }).set F.HOST_CTX_STAT_PENDING l.length

/-- A transaction of the staging memory. -/
def State.txn? (s : State) (r idx : Nat) : Option Txn :=
  s.host.txns.find? (fun t => t.ring = r && t.idx = idx)

/-- The first pending transaction of ring r and an index of which p holds, among those of the ring
and those that a link reset left of it (R360). -/
def State.txnOf (s : State) (r idx : Nat) (p : Txn → Bool) : Option Txn :=
  s.host.txns.find? (fun t => t.ring % Config.rings = r && t.idx = idx && p t)

/-- A transaction changed. -/
def State.updTxn (s : State) (r idx : Nat) (f : Txn → Txn) : State :=
  s.setTxns (s.host.txns.map (fun t => if t.ring = r && t.idx = idx then f t else t))

/-- A transaction leaves the staging memory with its completion. -/
def State.txnEnd (s : State) (t : Txn) (status result : Nat) : State :=
  let s := s.setTxns (s.host.txns.filter (fun x => !(x.ring = t.ring && x.idx = t.idx)))
  let st := if status = 0 && t.cancelLate then 5 else status
  s.complete t.ring t.idx st result 0

/-- A DEBLOCK whose cycle has passed without a latch completes (R218). -/
def State.dbDone (s : State) : State :=
  match s.trip.db with
  | some d =>
    let s := { s with trip := { s.trip with db := none } }
    s.txnEnd ((s.txn? d.txn.ring d.txn.idx).getD d.txn) 0 0
  | none => s

/-- A TRANSACT is pending from its fetch on: checks 0x01 and 0x02 (R348, R349). Whether it
stands. -/
def State.txnPend (s : State) (r : Nat) (d : Desc) : Bool × State :=
  let n := fieldLE d.bytes 16 2
  if n < 1 || 256 < n then (false, s.complete r d.idx 1 1 0)
  else if s.host.txns.length ≥ 16 then (false, s.complete r d.idx 1 2 0)
  else
    let imm := bit (fieldLE d.bytes 18 1) 0
    (true, s.setTxns (s.host.txns ++ [{ ring := r, idx := d.idx, imm := imm,
                                        apply := if imm then none else some (fieldLE d.bytes 20 4) }]))

/-- What becomes of the next event of a ring: nothing, or a descriptor whose engine acts. -/
inductive Fetched
  | nothing
  | start (d : Desc)
  deriving DecidableEq, Repr

/-- Ring types that fetch nothing in SAFE_HOLD (R330). -/
def RType.holds : RType → Bool
  | .work | .ctx | .dma | .tw => true
  | _ => false

/-- Fetching is possible at all: the device is out of RESET and past the reset walk (R357),
and the type fetches in the present state (R330). In BOOT a WORK ring waits for the scheduler, which
accepts nothing there (R274; notes/assumptions/100.md). -/
def State.canFetch (s : State) (r : Nat) : Bool :=
  !s.dev.inReset && ((s.gst ≠ .boot && s.gst ≠ .safeHold) || s.host.walked) &&
    !(s.gst = .safeHold && (s.rtype r).holds) && !(s.gst = .boot && s.rtype r = .work)

/-- The descriptor at the fetch index as host memory holds it now, when the ring may fetch
it. -/
def State.peek (s : State) (r : Nat) (hm : HostMem) : Option (Bytes × Option HFault × State) :=
  let x := s.ring r
  if (s.rst r = .running || s.rst r = .draining) && s.canFetch r &&
      x.outs.all (·.started) && x.fetch ≠ s.get (R.HOST_RING_PI r) then
    some (s.hostRd hm (ringReq r) 2 (s.slotAt r x.fetch) 64)
  else none

/-- A fetch that failed halts the ring with the descriptor unfetched (R329). -/
def State.fetchHalt (s : State) (r : Nat) : State :=
  (s.setRst r .halted).flag (F.HOST_RING_STAT_FETCH_HALT r)

/-- The event "a descriptor with this OP is fetched, or starts" on ring r. A descriptor that
ORDER held back starts once every earlier one has completed (R331); else the next one is
fetched. It is judged by R332, then by the credit (R342). The event does nothing where the
descriptor in turn is not of the given kind (`want`). -/
def State.fetchEvent (s : State) (r : Nat) (hm : HostMem) (want : Bytes → Bool) :
    Fetched × State :=
  let x := s.ring r
  match x.outs.find? (fun d => !d.started) with
  | some d =>
    if want d.bytes && x.outs.length = 1 && s.canFetch r then
      (.start { d with started := true }, s.updDesc r d.idx (fun e => { e with started := true }))
    else (.nothing, s)
  | none =>
    match s.peek r hm with
    | none => (.nothing, s)
    | some (_, some _, s') => (.nothing, s'.fetchHalt r)
    | some (b, none, s') =>
      if !want b then (.nothing, s)
      else
        let idx := x.fetch
        let s := s'.setRing r { s'.ring r with fetch := (idx + 1) % 2 ^ 32 }
        let fin (st res : Nat) : State :=
          s.cpl r ⟨idx, fieldLE b 2 2, bit (fieldLE b 1 1) 0, st, res, 0, false⟩
        if s.rst r = .draining then (.nothing, fin 4 0)
        else match descBad (s.rtype r) s.abi b with
        | some o => (.nothing, fin 1 (0xF0 + o * 0x100))
        | none =>
          let cr := s.get (F.HOST_RING_CREDIT_CREDIT r)
          if fieldLE b 0 1 ≠ 0x7F && cr ≠ 0 && x.outs.length ≥ cr then
            let s := s.inc (R.HOST_RING_QREJ r)
            (.nothing, s.cpl r ⟨idx, fieldLE b 2 2, bit (fieldLE b 1 1) 0, 6, 0, 0, false⟩)
          else
            let wait := bit (fieldLE b 1 1) 1 && x.outs.length ≠ 0
            let d : Desc := { idx := idx, bytes := b, started := !wait }
            let s := (s.setRing r { s.ring r with outs := (s.ring r).outs ++ [d] }).ringCounts r
            if wait then (.nothing, s.when (s.rtype r = .ctx && d.op = 1) (fun s => (s.txnPend r d).2))
            else (.start d, s)

/-- The descriptor is of a type and OP. -/
def wantOp (s : State) (r : Nat) (t : RType) (op : Nat) (b : Bytes) : Bool :=
  s.rtype r = t && fieldLE b 0 1 = op

/-! ## Requests that only the rings themselves answer -/

/-- The event of a NOP: it completes as DONE (R335). -/
def State.ringNop (s : State) (r : Nat) (hm : HostMem) : State :=
  match s.fetchEvent r hm (fun b => fieldLE b 0 1 = 0) with
  | (.start d, s) => s.complete r d.idx 0 0 0
  | (.nothing, s) => s

/-- The event of a descriptor whose OP is not defined: R332 completes it. -/
def State.ringUndef (s : State) (r : Nat) (hm : HostMem) : State :=
  (s.fetchEvent r hm (fun b => descBad (s.rtype r) s.abi b = some 0)).2

/-- The event of a fetch that fails (R329): nothing where the fetch would succeed. -/
def State.ringFetchFault (s : State) (r : Nat) (hm : HostMem) : State :=
  match s.peek r hm with
  | some (_, some _, s') => s'.fetchHalt r
  | _ => s

/-- A doorbell (R327). -/
def State.doorbell (s : State) (r pi : Nat) : State :=
  if s.rst r = .disabled || s.rst r = .draining then s.flag (F.HOST_RING_STAT_DB_DROP r)
  else
    let ci := s.get (R.HOST_RING_CI r)
    let span := (pi + 2 ^ 32 - ci) % 2 ^ 32
    let last := (s.get (R.HOST_RING_PI r) + 2 ^ 32 - ci) % 2 ^ 32
    if span > 2 ^ s.get (F.HOST_RING_CFG_SIZE r) || span < last then
      s.flag (F.HOST_RING_STAT_DB_BAD r)
    else s.set (R.HOST_RING_PI r) pi

/-- A write of EN = 1 to a DISABLED ring passes R325. -/
def State.enableOk (s : State) (r : Nat) : Bool :=
  let t := s.rtype r
  let sub := s.get (F.HOST_RING_CFG_SUB r)
  let size := s.get (F.HOST_RING_CFG_SIZE r)
  match s.abi? with
  | none => false
  | some minor =>
    t ≠ .none && t ≠ .undef && t.abi ≤ minor && sub ≤ t.subMax &&
      !((List.range Config.rings).any (fun q => q ≠ r && s.rst q ≠ .disabled && s.rtype q = t &&
        s.get (F.HOST_RING_CFG_SUB q) = sub)) &&
      4 ≤ size && size ≤ 16 && s.get (R.HOST_RING_BASE_LO r) % 4096 = 0

/-- EN written 1 (R325, R326, R329). -/
def State.ringEnable (s : State) (r : Nat) : State :=
  match s.rst r with
  | .disabled =>
    if s.enableOk r then
      let s := (s.set (R.HOST_RING_PI r) 0).set (R.HOST_RING_CI r) 0
      let s := (s.setRing r {}).set (F.HOST_RING_CFG_EN r) 1
      (s.setRst r .running).ringCounts r
    else (s.set (F.HOST_RING_CFG_EN r) 0).flag (F.HOST_RING_STAT_EN_REJ r)
  | .draining => (s.set (F.HOST_RING_CFG_EN r) 0).flag (F.HOST_RING_STAT_EN_REJ r)
  | .running | .halted => s

/-- EN written 0 (R329). -/
def State.ringDisable (s : State) (r : Nat) : State :=
  let s := s.set (F.HOST_RING_CFG_EN r) 0
  match s.rst r with
  | .running | .halted => s.setRst r .draining
  | _ => s

/-- A draining ring with CI = PI becomes DISABLED (R329). -/
def State.drainDone (s : State) (r : Nat) : State :=
  if s.rst r = .draining && s.get (R.HOST_RING_CI r) = s.get (R.HOST_RING_PI r) then
    s.setRst r .disabled
  else s

/-- RESUME written (R329, R359). -/
def State.ringResume (s : State) (r : Nat) : State :=
  if s.rst r = .halted then
    match (s.ring r).walkPi with
    | some p =>
      let s := (s.set (R.HOST_RING_CI r) p).setRing r { s.ring r with
        walkPi := none, outs := [], doneIdx := [], held := [], fetch := p }
      (s.ringCounts r).setRst r .running
    | none => s.setRst r .running
  else s

/-- A write of HOST_RING_CFG: EN, RESUME, and the fields that only a DISABLED ring takes
(R325, R329, HOST_RING_CFG). A RESUME that the ring takes comes first, and an EN of 0 beside it
then drains the ring only where EN was 1 (notes/assumptions/102.md). -/
def State.ringCfgWrite (s : State) (r mask data : Nat) : State :=
  let old := s.word (R.HOST_RING_CFG r)
  let lockM := 0x00007FFC
  let s :=
    if s.rst r = .disabled then
      s.set (R.HOST_RING_CFG r)
        ((old &&& ((mask &&& 0x1FFFFC) ^^^ 0xFFFFFFFF)) ||| (data &&& mask &&& 0x1FFFFC))
    else
      let s := s.when ((old ^^^ data) &&& mask &&& lockM ≠ 0) (·.flag (F.HOST_RING_STAT_CFG_IGN r))
      s.set (R.HOST_RING_CFG r)
        ((old &&& ((mask &&& 0x1F8000) ^^^ 0xFFFFFFFF)) ||| (data &&& mask &&& 0x1F8000))
  let res := bit mask 1 && bit data 1 && decide (s.rst r = .halted)
  let s := s.when res (·.ringResume r)
  if !bit mask 0 then s
  else if bit data 0 then s.ringEnable r
  else if res && !s.on (F.HOST_RING_CFG_EN r) then s
  else s.ringDisable r

/-- A write of HOST_ABI_SEL (R344). -/
def State.abiSel (s : State) (mask data : Nat) : State :=
  if (List.range Config.rings).all (fun r => s.rst r = .disabled) then
    let m := mask &&& 0xFFFF
    let v := (s.word R.HOST_ABI_SEL &&& 0xFFFF &&& (m ^^^ 0xFFFF)) ||| (data &&& m)
    let ok := v / 256 = 1 && v % 256 ≤ 2
    let s := s.set R.HOST_ABI_SEL (v + 0x10000 * b2n ok)
    s.when (!ok) (·.flag F.HOST_STAT_ABI_REJ)
  else s.flag F.HOST_STAT_ABI_REJ

/-- The coalescing time runs out: the gathered message goes (R345). -/
def State.irqTimeout (s : State) (r : Nat) : State :=
  if (s.ring r).gathered = 0 then s
  else (s.setRing r { s.ring r with gathered := 0 }).msi (s.get (F.HOST_RING_CFG_VEC r))

/-- A vector is unmasked: a pending message goes (R345). -/
def State.msixUnmask (s : State) (v : Nat) : State :=
  let h := s.host
  let s := { s with host := { h with
    unmasked := if h.unmasked.contains v then h.unmasked else v :: h.unmasked,
    pendingV := h.pendingV.filter (· ≠ v) } }
  s.when (h.pendingV.contains v) (·.emit (.msix v))

/-! ## IOMMU registers -/

/-- A write of IOMMU_CTRL (R370): a change of MODE or DIRBITS needs every ring DISABLED and no
core transfer with a host side; DIRBITS above 18 leaves the field unchanged. -/
def State.iommuCtrl (s : State) (mask data : Nat) : State :=
  let old := s.word R.IOMMU_CTRL
  let v := (old &&& ((mask &&& 0x3F) ^^^ 0xFFFFFFFF)) ||| (data &&& mask &&& 0x3F)
  let v := if bits v 1 5 > 18 then setBits v 1 5 (bits old 1 5) else v
  if v = old then s
  else
    let idle := (List.range Config.rings).all (fun r => s.rst r = .disabled) &&
      (List.range Config.cores).all (fun c => (sget s.cores {} c).dma.all (fun p =>
        match p.2 with
        | some t => !(t.srcHost || t.dstHost) || t.done.isSome
        | none => true))
    if idle then s.set R.IOMMU_CTRL v else s.flag F.IOMMU_STAT_MODE_REJ

/-- A write of IOMMU_INV starts an invalidation; one that is in progress goes on beside it
(R374). -/
def State.iommuInv (s : State) (scope : Nat) : State :=
  if scope = 0 then s
  else
    let s := { s with iommu := { s.iommu with inv := s.iommu.inv ++ [(scope, s.get F.IOMMU_INV_ADDR_PAGE)] } }
    s.flag F.IOMMU_STAT_INV_BUSY

/-- The cache without the entries of a scope (R374). -/
def IommuS.drop (c : IommuS) (q : Nat × Nat) : IommuS :=
  match q.1 with
  | 1 => { c with leaves := c.leaves.filter (fun p => p.1 ≠ q.2) }
  | 2 => { c with leaves := c.leaves.filter (fun p => p.1 / 512 ≠ q.2 / 512),
                  dirs := c.dirs.filter (fun p => p.1 ≠ q.2 / 512) }
  | _ => { c with leaves := [], dirs := [] }

/-- The invalidations in progress end: every matching entry is gone (R374). -/
def State.iommuInvDone (s : State) : State :=
  if s.iommu.inv.isEmpty then s
  else
    ({ s with iommu := { s.iommu.inv.foldl IommuS.drop s.iommu with inv := [] } }).set
      F.IOMMU_STAT_INV_BUSY 0

end Sys2Proof.Machine
end

