-- ==== Sys2Proof/Machine/Sched.lean ====
section
/-! DEFINITION. Work items (R266), their sources and acceptance (R267 to R276), dispatch,
affinity and pre-emption (R277 to R284), deadlines, cancel, completion and quotas (R285 to
R294), and what an exception does to a core's item (R262 to R265). -/

namespace Sys2Proof.Machine

open Sys2Proof

/-- Core c. -/
def State.core (s : State) (c : Nat) : CoreS := sget s.cores {} c

/-- Core c replaced. -/
def State.setCore (s : State) (c : Nat) (x : CoreS) : State :=
  { s with cores := sput s.cores {} c x }

/-- Hardware queue of a level, oldest first (R275). -/
def State.queue (s : State) (l : Nat) : List Item := sget s.sched.queues [] l

/-- Items in the spill ring of a level, oldest first. -/
def State.spill (s : State) (l : Nat) : List Item := sget s.sched.spills [] l

/-- A level's hardware queue replaced, with its depth registers. -/
def State.setQueue (s : State) (l : Nat) (q : List Item) : State :=
  let s := { s with sched := { s.sched with queues := sput s.sched.queues [] l q } }
  let s := s.set (F.SCHED_LVL_DEPTH_DEPTH l) q.length
  s.set (F.SCHED_LVL_DEPTH_MAX l) (max q.length (s.get (F.SCHED_LVL_DEPTH_MAX l)))

/-- A level's spill ring replaced, with its depth registers. -/
def State.setSpill (s : State) (l : Nat) (q : List Item) : State :=
  let s := { s with sched := { s.sched with spills := sput s.sched.spills [] l q } }
  let s := s.set (F.SCHED_SPILL_STAT_DEPTH l) q.length
  s.set (F.SCHED_SPILL_MAX_DEPTH l) (max q.length (s.get (F.SCHED_SPILL_MAX_DEPTH l)))

/-- The 32 bytes of an item's descriptor, with SRC as the scheduler wrote it (R266, R267). -/
def Item.bytes (i : Item) : Bytes :=
  toLE 2 i.entry ++ toLE 2 i.cores ++ toLE 4 i.arg ++
    toLE 1 (i.prio + 8 * b2n i.affEn + 16 * b2n i.dlEn + 32 * b2n i.dlRel) ++ toLE 1 i.stream ++
    toLE 1 i.src ++ [0] ++ toLE 4 i.deadline ++ toLE 2 i.tag ++ [0, 0] ++ toLE 4 i.cpl ++
    toLE 8 0

/-- A descriptor read from its 32 bytes. -/
def Item.parse (b : Bytes) (src : Nat) : Item :=
  { entry := fieldLE b 0 2, cores := fieldLE b 2 2, arg := fieldLE b 4 4,
    prio := fieldLE b 8 1 % 8, affEn := bit (fieldLE b 8 1) 3, dlEn := bit (fieldLE b 8 1) 4,
    dlRel := bit (fieldLE b 8 1) 5, stream := fieldLE b 9 1 % 64, src := src,
    deadline := fieldLE b 12 4, tag := fieldLE b 16 2, cpl := fieldLE b 20 4 }

/-- A reserved bit of a descriptor is set, or ENTRY is not 8-byte aligned, or no core may run
it (R273, check 1). -/
def State.itemInvalid (s : State) (b : Bytes) : Bool :=
  fieldLE b 0 2 % 8 ≠ 0 || fieldLE b 8 1 / 64 ≠ 0 || fieldLE b 9 1 / 64 ≠ 0 ||
    fieldLE b 10 1 / 64 ≠ 0 || fieldLE b 11 1 ≠ 0 || fieldLE b 18 2 ≠ 0 ||
    fieldLE b 24 8 ≠ 0 || (fieldLE b 2 2 &&& s.get R.SCHED_CORE_EN) = 0

/-- Source q is at or over one of its limits (R292). -/
def State.overQuota (s : State) (q : Nat) : Bool :=
  let mo := s.get (F.SCHED_QUOTA_MAXOUT q)
  let qt := s.get (F.SCHED_QUOTA_QTIME q)
  (mo ≠ 0 && s.get (F.SCHED_QUSE_OUT q) ≥ mo) || (qt ≠ 0 && s.get (R.SCHED_QTUSE q) ≥ qt)

/-- Bit q of SCHED_OVERQ brought up to date (R292). -/
def State.quotaUpd (s : State) (q : Nat) : State :=
  s.set R.SCHED_OVERQ (setBit (s.word R.SCHED_OVERQ) q (s.overQuota q))

/-- The deadline still lets the item be dispatched (R285). -/
def State.dlOpen (s : State) (i : Item) : Bool :=
  !i.dlEn ||
    (let d := (i.dl + 2 ^ 32 - s.time.pidx % 2 ^ 32) % 2 ^ 32
     1 ≤ d && d ≤ 2 ^ 31 - 1)

/-- The completion record of an item (R289). -/
def itemRecord (tag src status result pidx flags : Nat) : Bytes :=
  toLE 2 tag ++ toLE 1 src ++ toLE 1 status ++ toLE 4 result ++ toLE 4 pidx ++ toLE 1 flags ++
    [0, 0, 0]

/-- A record at the tail of the default completion queue (R291). -/
def State.cqPut (s : State) (rcd : Bytes) : State :=
  if s.sched.cqFull then (s.flag F.SCHED_FLAG_CQ_OVF).inc R.SCHED_CNT_CQLOST
  else
    let pi := s.get F.SCHED_CQ_PI_INDEX
    let s := s.wrB (sramBase + s.get F.SCHED_CQ_BASE_BASE * 0x10000 + 16 * pi) rcd
    let s := s.set F.SCHED_CQ_PI_INDEX ((pi + 1) % 4096)
    { s with sched := { s.sched with
      cqFull := decide (s.get F.SCHED_CQ_PI_INDEX = s.get F.SCHED_CQ_CI_INDEX) } }

/-- CPL names a place for a completion record (R289). -/
def cplOk (a : Nat) : Bool := a ≠ 0 && a % 16 = 0 && sramBase ≤ a && a < sramBase + sramSize

/-- The completion of an item or of a refused submission, to its ring, its CPL or the default
completion queue (R289, R337). -/
def State.itemReport (s : State) (i : Item) (status result flags : Nat) : State :=
  match i.ring with
  | some (r, idx) => s.complete r idx status result flags
  | none =>
    let rcd := itemRecord i.tag i.src status result s.pidx32 flags
    if cplOk i.cpl then s.wrB i.cpl rcd else s.cqPut rcd

/-- An accepted item completes: its source's OUT falls and its completion goes out (R289,
R292); `core` is the core that ran it, if one did. -/
def State.itemDone (s : State) (i : Item) (status result : Nat) (core : Option Nat) : State :=
  let late := i.dlEn && !s.dlOpen i && core.isSome
  let st := if status = 0 && i.cancelLate then 5 else status
  let s := s.set (F.SCHED_QUSE_OUT i.src) (s.get (F.SCHED_QUSE_OUT i.src) - 1)
  (s.itemReport i st result (core.getD 0 + 16 * b2n late + 32 * b2n i.preempted)).quotaUpd i.src

/-- The device accepts submissions (R274). -/
def State.accepting (s : State) : Bool := s.gst = .config || s.gst = .ready || s.gst = .run

/-- An item stored as the tail of its level's spill ring: the descriptor in the next free entry in
shared SRAM, with SRC and TAG copied into bytes 24 and 26 (R275, R276, R377). -/
def State.spillPut (s : State) (l : Nat) (i : Item) : State :=
  let n := 2 ^ s.get (F.SCHED_SPILL_CFG_SIZE l)
  let w0 := sget s.sched.spillWr 0 l
  let w := ((List.range n).map (fun k => (w0 + k) % n)).find? (fun k => !(s.spill l).any (·.slot = k))
  let w := w.getD w0
  let b := putLE (putLE i.bytes 24 1 i.src) 26 2 i.tag
  let s := s.wrB (sramBase + s.get (F.SCHED_SPILL_CFG_BASE l) * 0x1000 + 32 * (w % n)) b
  let s := { s with sched := { s.sched with spillWr := sput s.sched.spillWr 0 l ((w + 1) % n) } }
  s.setSpill l (s.spill l ++ [{ i with slot := w }])

/-- A submission judged and queued, or refused with its completion (R267, R273, R275). -/
def State.submit (s : State) (src : Nat) (b : Bytes) (ring : Option (Nat × Nat))
    (pt : Option Nat) : State :=
  if !s.accepting then s
  else
    let i := { Item.parse b src with ring := ring, pt := pt }
    let l := i.prio
    let dl := if i.dlRel then (i.deadline + s.time.pidx) % 2 ^ 32 else i.deadline
    let i := { i with dl := dl, uid := s.sched.uid, ready := s.time.cyc }
    if s.itemInvalid b then s.itemReport i 1 0 0
    else if s.overQuota src then (s.inc (R.SCHED_QREJ src)).itemReport i 6 0 0
    else if !s.dlOpen i then s.itemReport i 7 0 0
    else
      let size := s.get (F.SCHED_SPILL_CFG_SIZE l)
      let toSpill := (s.queue l).length ≥ 256 || (s.spill l).length ≠ 0
      if toSpill && (size = 0 || (s.spill l).length ≥ 2 ^ size) then
        ((s.inc (R.SCHED_QREJ src)).flag F.SCHED_FLAG_SPILL_FULL).itemReport i 6 0 0
      else
        let s := { s with sched := { s.sched with uid := s.sched.uid + 1 } }
        let s := (s.addSat (F.SCHED_QUSE_OUT src) 1).quotaUpd src
        if toSpill then s.spillPut l i else s.setQueue l (s.queue l ++ [i])

/-- A template in shared SRAM copied and submitted by a hardware source (R269). -/
def State.submitTpl (s : State) (src ofs : Nat) (pt : Option Nat) : State :=
  if !s.accepting then s
  else
    match s.eccRds (sramBase + ofs) 0x31 8 with
    | (_, some _, s) => (s.flag F.SCHED_FLAG_TPL_ERR).inc R.SCHED_CNT_TPLERR
    | (b, none, s) => s.submit src b none pt

/-! ## Refill, deadlines, cancel -/

/-- The oldest entry of a level's spill ring moves to the hardware queue (R275); an entry that
cannot be read completes as FAILED_ECC, or as an orphan (R377); an entry past its deadline
completes as DEADLINE (R285). -/
def State.spillRefill (s : State) (l : Nat) : State :=
  match s.spill l with
  | [] => s
  | i :: rest =>
    if (s.queue l).length ≥ 256 || !s.accepting then s
    else
      let at' := i.slot
      let a := sramBase + s.get (F.SCHED_SPILL_CFG_BASE l) * 0x1000 + 32 * at'
      let known := (s.wordClean (a + 8) && s.wordClean (a + 16)) || s.wordClean (a + 24)
      let (b, bad, s) := s.eccRds a 0x31 8
      let s := s.setSpill l rest
      if bad.isSome then
        if known then s.itemDone i 2 0 none
        else
          let rcd := itemRecord 0xFFFF 0x3F 2 (l + at' * 0x10000) s.pidx32 0
          ((s.cqPut rcd).flag F.MEM_FLAG_SPILL_LOST).faultRec 0x08 0 0x31 l a at'
      else
        let j := Item.parse b (fieldLE b 10 1 % 64)
        let i := { i with entry := j.entry, cores := j.cores, arg := j.arg, cpl := j.cpl }
        if !s.dlOpen i then s.itemDone i 7 0 none
        else s.setQueue l (s.queue l ++ [i])

/-- Items of a list completed with one status, none of them dispatched. -/
def State.itemsDone (s : State) (status : Nat) : List Item → State
  | [] => s
  | i :: r => State.itemsDone (s.itemDone i status 0 none) status r

/-- The items that wait for the end of a save and meet a test complete undispatched; the save goes
on. -/
def State.saveDrop (s : State) (p : Item → Bool) (status : Nat) : State :=
  (List.range Config.cores).foldl (fun t c =>
    match (t.core c).phase with
    | .saving (some i) q =>
      if p i then (t.setCore c { t.core c with phase := .saving none q }).itemDone i status 0 none else t
    | _ => t) s

/-- Undispatched items of the hardware queues whose deadline no longer holds complete as
DEADLINE, one that waits for the end of a save included (R285). -/
def State.deadlineExpiry (s : State) : State :=
  if !s.accepting then s
  else
    let s := (List.range 8).foldl (fun t l =>
      let gone := (t.queue l).filter (fun i => !t.dlOpen i)
      if gone.isEmpty then t
      else (t.setQueue l ((t.queue l).filter (fun i => t.dlOpen i))).itemsDone 7 gone) s
    s.saveDrop (fun i => !s.dlOpen i) 7

/-- An item matches a cancel (R287). -/
def Item.hit (i : Item) (src tag : Nat) : Bool := i.src = src && i.tag = tag

/-- A core's items marked for CANCEL_LATE where they match. -/
def CoreS.cancel (x : CoreS) (src tag : Nat) : CoreS :=
  let mark (i : Item) : Item := if i.hit src tag then { i with cancelLate := true } else i
  { x with stack := x.stack.map (fun r => { r with item := mark r.item }) }

/-- Number of dispatched items of a core that match. -/
def CoreS.hits (x : CoreS) (src tag : Nat) : Nat :=
  (x.stack.filter (fun r => r.item.hit src tag)).length

/-- The item that waits for a core's save matches. -/
def CoreS.waitHit (x : CoreS) (src tag : Nat) : Bool :=
  match x.phase with
  | .saving (some i) _ => i.hit src tag
  | _ => false

/-- A cancel by source and tag (R287, R288); the number of items it matched. -/
def State.cancelItems (s : State) (src tag : Nat) : Nat × State :=
  let (n, s) := (List.range 8).foldl (fun (p : Nat × State) l =>
    let (n, t) := p
    let q := (t.queue l).filter (·.hit src tag)
    let w := (t.spill l).filter (·.hit src tag)
    if q.isEmpty && w.isEmpty then (n, t)
    else
      let t := if q.isEmpty then t else t.setQueue l ((t.queue l).filter (!·.hit src tag))
      let t := if w.isEmpty then t else t.setSpill l ((t.spill l).filter (!·.hit src tag))
      (n + q.length + w.length, (t.itemsDone 4 q).itemsDone 4 w)) (0, s)
  let k := ((List.range Config.cores).filter (fun c => (s.core c).waitHit src tag)).length
  let s := s.saveDrop (fun i => i.hit src tag) 4
  let m := (List.range Config.cores).foldl (fun a c => a + (s.core c).hits src tag) 0
  let s := if m = 0 then s else
    (List.range Config.cores).foldl (fun t c =>
      if (t.core c).hits src tag = 0 then t else t.setCore c ((t.core c).cancel src tag)) s
  (n + k + m, s)

/-- A write of SCHED_CANCEL (R287). In SAFE_HOLD no item completes (R274): there it only tells a
miss. -/
def State.schedCancel (s : State) (src tag : Nat) : State :=
  let (n, t) := s.cancelItems src tag
  if n = 0 then t.flag F.SCHED_FLAG_CANCEL_MISS else if s.accepting then t else s

/-! ## Dispatch -/

/-- Core c takes items: its bit is set and the device runs cores (R274, R277). -/
def State.coreOpen (s : State) (c : Nat) : Bool :=
  bit (s.get R.SCHED_CORE_EN) c && s.accepting

/-- Core c is idle (R277). -/
def State.coreIdle (s : State) (c : Nat) : Bool :=
  (s.core c).stack.isEmpty && s.coreOpen c &&
    (match (s.core c).phase with
      | .run => true
      | _ => false)

/-- The core an affinity item's stream last ran on (R281). -/
def State.affCore? (s : State) (i : Item) : Option Nat :=
  if i.affEn && s.on (F.SCHED_AFF_LAST_VALID i.stream) then
    some (s.get (F.SCHED_AFF_LAST_CORE i.stream))
  else none

/-- The item waits for its stream's core, for AFF_WAIT core cycles since it became ready (R281). -/
def State.affWaits (s : State) (i : Item) : Bool :=
  match s.affCore? i with
  | some c => bit i.cores c && !s.coreIdle c && !i.affOver &&
      decide (s.time.cyc - i.ready < s.get F.SCHED_CFG_AFF_WAIT)
  | none => false

/-- The candidate of level l for core c among its 16 oldest entries (R278). -/
def State.cand (s : State) (c l : Nat) : Option Item :=
  let q := ((s.queue l).take 16).filter (fun i => bit i.cores c && s.dlOpen i)
  match q.find? (fun i => s.affCore? i = some c) with
  | some i => some i
  | none => q.find? (fun i => !s.affWaits i)

/-- The item that an idle core c takes: from the highest level with a candidate (R278). -/
def State.pick (s : State) (c : Nat) : Option Item :=
  (([7, 6, 5, 4, 3, 2, 1, 0] : List Nat).findSome? (fun l => s.cand c l))

/-- The bin of SCHED_HIST for a wait (R295). -/
def histBin (w : Nat) : Nat :=
  if w < 64 then 0 else if w < 128 then 1 else if w < 256 then 2 else if w < 512 then 3
  else if w < 1024 then 4 else if w < 4096 then 5 else if w < 16384 then 6 else 7

/-- An item out of its level's hardware queue. -/
def State.unqueue (s : State) (i : Item) : State :=
  s.setQueue i.prio ((s.queue i.prio).filter (fun j => j.uid ≠ i.uid))

/-- SCHED_CORE_STAT brought up to date. -/
def State.coreStat (s : State) (c : Nat) : State :=
  match (s.core c).stack with
  | [] => s.set (R.SCHED_CORE_STAT c) 0
  | r :: rest =>
    let s := s.set (F.SCHED_CORE_STAT_LEVEL c) r.item.prio
    let s := s.set (F.SCHED_CORE_STAT_BUSY c) 1
    (s.set (F.SCHED_CORE_STAT_DEPTH c) rest.length).set (F.SCHED_CORE_STAT_SRC c) r.item.src

/-- The state of a core before the first instruction of an item (R233). -/
def State.dispatchCtx (s : State) (i : Item) : Ctx :=
  let g := sput (sput ([] : Sparse Word) 0 1 (BitVec.ofNat 32 i.arg)) 0 2
    (BitVec.ofNat 32 s.time.pidx)
  { g := g, pc := i.entry }

/-- An item dispatched to core c one level above what its stack holds (R279, R281, R233,
R295). -/
def State.dispatchTo (s : State) (c : Nat) (i : Item) : State :=
  let x := s.core c
  let depth := x.stack.length
  let a := sramBase + s.get F.SCHED_RUN_BASE_BASE * 64 + 32 * (9 * c + depth)
  let s := s.wrB a i.bytes
  let s := s.setCore c { x with stack := { item := i, ctx := s.dispatchCtx i, place := a } :: x.stack,
                                phase := .run }
  let s := if i.affEn then
      (s.set (F.SCHED_AFF_LAST_CORE i.stream) c).set (F.SCHED_AFF_LAST_VALID i.stream) 1
    else s
  let s := s.inc (R.SCHED_HIST i.prio (histBin (s.time.cyc - i.ready + 10)))
  s.coreStat c

/-- The lowest-numbered idle core that has a candidate takes it (R277, R278). -/
def State.dispatch (s : State) : State :=
  match (List.range Config.cores).findSome? (fun c =>
      if s.coreIdle c then (s.pick c).map (fun i => (c, i)) else none) with
  | some (c, i) => (s.unqueue i).dispatchTo c i
  | none => s

/-- Item i has no idle core among those it names, and its PRIO lets it pre-empt (R282). -/
def State.mayPreempt (s : State) (i : Item) : Bool :=
  i.prio ≥ s.get F.SCHED_CFG_PREEMPT_LEVEL && s.dlOpen i &&
    !((List.range Config.cores).any (fun c => bit i.cores c && s.coreIdle c))

/-- Core c can be pre-empted by item i (R282). -/
def State.canTake (s : State) (i : Item) (c : Nat) : Bool :=
  bit i.cores c && s.coreOpen c &&
    (match (s.core c).phase, (s.core c).stack with
      | .run, r :: rest => r.item.prio < i.prio && rest.length < s.get F.SCHED_CFG_NEST_MAX
      | _, _ => false)

/-- The core on which item i pre-empts (R282): its stream's core if that qualifies, else the
one whose running item has the lowest PRIO, lowest number first. -/
def State.preemptOn (s : State) (i : Item) : Option Nat :=
  let qs := (List.range Config.cores).filter (s.canTake i)
  let prioOf (c : Nat) : Nat := match (s.core c).stack with
    | r :: _ => r.item.prio
    | [] => 0
  let low := qs.foldl (fun (best : Option Nat) c => match best with
    | none => some c
    | some d => if prioOf c < prioOf d then some c else some d) none
  match s.affCore? i with
  | some c => if qs.contains c then some c else low
  | none => low

/-- The item that pre-empts next and its core: the highest level first, the oldest first. -/
def State.preemptPick (s : State) : Option (Item × Nat) :=
  ([7, 6, 5, 4, 3, 2, 1, 0] : List Nat).findSome? (fun l =>
    ((s.queue l).take 16).findSome? (fun i =>
      if s.mayPreempt i then (s.preemptOn i).map (fun c => (i, c)) else none))

/-- A pre-emption is decided: the running item's context is saved and the new item waits for
the end of the save (R261, R282, R283). -/
def State.preempt (s : State) : State :=
  match s.preemptPick with
  | none => s
  | some (i, c) =>
    let s := s.unqueue i
    let x := s.core c
    let stack := match x.stack with
      | r :: rest => { r with item := { r.item with preempted := true }, cycHi := x.cycHi } :: rest
      | [] => []
    let s := s.setCore c { x with stack := stack, phase := .saving (some i) i.src, preempts := x.preempts + 1 }
    s.set (F.SCHED_CORE_STAT_BUSY c) 1

/-- BAR0 offset of the context frame of depth k of core c (R228). -/
def frameAt (c k : Nat) : Nat := dataBase c + 0x3E000 + 0x400 * k

/-- A context frame written: its format is internal, so its words are free values (R261;
notes/assumptions/30.md). -/
def State.saveFrame (s : State) (a : Nat) : State :=
  ({ s with free := s.free + 256 }).wrWords a
    ((List.range 256).map (fun i => Config.freeValue (s.free + i) % 2 ^ 32))

/-- After an item of core c has ended with items saved below it: a ready item that could
pre-empt the saved one takes the core without a restore; otherwise the restore begins
(R280); `src` is the source of the item that has ended. -/
def State.afterItem (s : State) (c src : Nat) : State :=
  match (s.core c).stack with
  | [] => s.coreStat c
  | r :: rest =>
    let ok (i : Item) : Bool := s.mayPreempt i && bit i.cores c && r.item.prio < i.prio &&
      rest.length < s.get F.SCHED_CFG_NEST_MAX
    match ([7, 6, 5, 4, 3, 2, 1, 0] : List Nat).findSome? (fun l =>
        ((s.queue l).take 16).find? ok) with
    | some i => (s.unqueue i).dispatchTo c i
    | none => (s.setCore c { s.core c with phase := .restoring src }).coreStat c

/-- The save ends: the frame is written, and the item is dispatched one depth higher; where that item
has completed meanwhile, the core goes on as after an item (R261, R279, R280). In SAFE_HOLD the
cores stand (R26, R274). -/
def State.saveDone (s : State) (c : Nat) : State :=
  if !s.accepting then s
  else match (s.core c).phase with
  | .saving next q =>
    let s := s.saveFrame (frameAt c ((s.core c).stack.length - 1))
    match next with
    | some i => s.dispatchTo c i
    | none => (s.setCore c { s.core c with phase := .run }).afterItem c q
  | _ => s

/-- The running item of core c leaves it with a status and result (R289, R295); its transfer
tags go with it. -/
def State.itemEnd (s : State) (c status result : Nat) : State :=
  let x := s.core c
  match x.stack with
  | [] => s
  | r :: rest =>
    let dma := x.dma.filter (fun p => match p.2 with
      | some t => t.owner ≠ r.item.uid
      | none => false)
    let s := s.setCore c { x with stack := rest, phase := .run,
                                  dma := dma, items := x.items + 1 }
    (s.itemDone r.item status result (some c)).afterItem c r.item.src

/-- Each outstanding transfer of an aborted item stops, with one DMA_CANCEL record per tag.
A transfer moves its bytes at its CORE_DMA_DONE, so a stopped one has moved none and the
record's byte count is 0 (R262, R376; DESIGN CHOICE, log 63). -/
def State.dmaCancel (s : State) (c uid : Nat) : State :=
  (s.core c).dma.foldl (fun t p => match p.2 with
    | some d =>
      if d.owner = uid && d.done.isNone then
        t.faultLog 0x07 none c (some (p.1 % 8)) none (some 0)
      else t
    | none => t) s

/-- Exception causes (R262). -/
inductive Exc
  | illegal | align | unmapped | prot | decc | iecc | badpc | loopstk
  deriving DecidableEq, Repr

/-- CAUSE code of an exception. -/
def Exc.code : Exc → Nat
  | .illegal => 1 | .align => 2 | .unmapped => 3 | .prot => 4 | .decc => 5 | .iecc => 6
  | .badpc => 7 | .loopstk => 8

/-- Completion status of an exception (R262). -/
def Exc.status : Exc → Nat
  | .decc | .iecc => 2
  | _ => 1

/-- First address of a core's own data memory (R226). -/
def ownBase : Nat := 0x40000000

/-- An address lies in the own data memory. -/
def inOwn (a : Nat) : Bool := ownBase ≤ a && a < ownBase + 0x40000

/-- The place of a core data address in the BAR0 map. -/
def coreOfs (c a : Nat) : Nat := if inOwn a then dataBase c + (a - ownBase) else a

/-- Shared-SRAM address of the running item's descriptor copy, special register ITEM: where its
dispatch has put it (R279). -/
def State.itemAddr (s : State) (c : Nat) : Nat :=
  match (s.core c).stack with
  | r :: _ => r.place
  | [] => 0

/-- An exception aborts the running item of core c (R262, R265): its transfers stop, the fault
record is written unless the bad word has written it (R376), its completion posted, and the item
below resumes. -/
def State.coreExc (s : State) (c : Nat) (e : Exc) (opnd addr : Nat) : State :=
  match (s.core c).stack with
  | [] => s
  | r :: _ =>
    let s := s.dmaCancel c r.item.uid
    let x := s.core c
    let n := satInc 32 x.excs
    let s := s.setCore c { x with excs := n }
    let a := dataBase c + 0x3DC00
    let s := s.wrWords a [e.code + 0x100 * opnd, r.ctx.pc % 65536, addr, s.itemAddr c, s.pidx32, n, 0, 0]
    let s := s.when (e ≠ .decc && e ≠ .iecc) (·.faultLog 0x06 none c e.code
      (if opnd = 0 then none else some (coreOfs c addr)) none)
    s.itemEnd c e.status 0

/-- The restore of a saved item ends: it resumes, or a bad word of its frame raises DECC with
OPND 3 (R261, R262, R376). -/
def State.restoreDone (s : State) (c : Nat) : State :=
  if !s.accepting then s
  else match (s.core c).phase, (s.core c).stack with
  | .restoring _, r :: rest =>
    let (_, bad, s) := s.eccRds (frameAt c rest.length) c 256
    let s := s.setCore c { s.core c with phase := .run, cycHi := r.cycHi }
    match bad with
    | some a => s.coreExc c .decc 3 a
    | none => s.coreStat c
  | _, _ => s

/-- AFF_WAIT of an item has run out (R281). -/
def State.affExpire (s : State) (uid : Nat) : State :=
  (List.range 8).foldl (fun t l =>
    if (t.queue l).any (fun i => i.uid = uid) then
      t.setQueue l ((t.queue l).map (fun i => if i.uid = uid then { i with affOver := true } else i))
    else t) s

/-! ## Period table, telemetry, windows -/

/-- An item submitted by period-table entry e is outstanding (R270). -/
def State.ptBusy (s : State) (e : Nat) : Bool :=
  (List.range 8).any (fun l => (s.queue l).any (fun i => i.pt = some e) ||
      (s.spill l).any (fun i => i.pt = some e)) ||
    (List.range Config.cores).any (fun c => (s.core c).stack.any (fun r => r.item.pt = some e) ||
      (match (s.core c).phase with
        | .saving (some i) _ => i.pt = some e
        | _ => false))

/-- Period-table entry e at its offset (R270, R272). -/
def State.ptFire (s : State) (e : Nat) : State :=
  let div := s.get (F.SCHED_PT_CFG_DIV e)
  if s.live && s.on (F.SCHED_PT_CFG_EN e) && div ≠ 0 &&
      s.time.pidx % div = s.get (F.SCHED_PT_CFG_PHASE e) then
    if s.on (F.SCHED_PT_CFG_SKIP_BUSY e) && s.ptBusy e then s.flag F.SCHED_FLAG_PT_SKIP
    else s.submitTpl 0x10 (s.get (R.SCHED_PT_TPL e) / 32 * 32) (some e)
  else s

/-- The telemetry source of lock group g submits its item of period n, one per period (R271, R272). -/
def State.telItem (s : State) (g n : Nat) : State :=
  if s.live && s.on (F.SCHED_TEL_EN g) && sget s.sched.telAt 0 g ≠ n + 1 then
    { s with sched := { s.sched with telAt := sput s.sched.telAt 0 g (n + 1) } }.submitTpl 0x12
      (s.get (F.SCHED_TEL_TPL g) * 32) none
  else s

/-- The end of a 1,024-period window, at a period index divisible by 1,024 (R292, R295): QTUSE starts again, the per-core figures
are latched, and the error window of R367 starts again. -/
def State.windowEnd (s : State) : State :=
  if !s.peRun || s.time.pidx % 1024 ≠ 0 || s.sched.winAt = some s.time.pidx then s
  else
  let s := (List.range Config.cores).foldl (fun t c =>
    let x := t.core c
    let t := (t.set (R.SCHED_CORE_BUSY c) x.busy).set (R.SCHED_CORE_ITEMS c) x.items
    let t := t.set (R.SCHED_CORE_PREEMPT c) x.preempts
    t.setCore c { x with busy := 0, items := 0, preempts := 0 }) s
  let s := (List.range 32).foldl (fun t q => (t.set (R.SCHED_QTUSE q) 0).quotaUpd q) s
  let s := { s with sched := { s.sched with qcyc := [], winAt := some s.time.pidx },
                    memc := { s.memc with winCe := 0, winHit := false, winUe := 0,
                                          prevUe := s.memc.winUe } }
  s.set R.SCHED_WIN ((s.time.pidx - 1024) % 2 ^ 32)

/-- Core time passes: busy cycles and the core time of each source, a save or restore charged to
the pre-empting item (R283, R292, R295). In SAFE_HOLD the cores stand (R26). -/
def State.coreTime (s : State) (n : Nat) : State :=
  if !s.accepting then s
  else (List.range Config.cores).foldl (fun t c =>
    let x := t.core c
    match x.stack with
    | [] => t
    | r :: _ =>
      let src := match x.phase with
        | .saving _ q => q
        | .restoring q => q
        | .run => r.item.src
      let t := t.setCore c { x with busy := x.busy + n }
      let q := sget t.sched.qcyc 0 src + n
      let t := { t with sched := { t.sched with qcyc := sput t.sched.qcyc 0 src q } }
      (t.set (R.SCHED_QTUSE src) (q / 1024)).quotaUpd src) s

/-! ## Configuration check -/

/-- The scheduler's own areas in shared SRAM by area ID: offset and size (R368, R580). -/
def State.schedAreas (s : State) : List (Nat × Nat × Nat) :=
  [(0x03, s.get F.SCHED_RUN_BASE_BASE * 64, 4608), (0x04, s.get F.SCHED_CQ_BASE_BASE * 0x10000, 65536)] ++
    (List.range 8).filterMap (fun l =>
      let size := s.get (F.SCHED_SPILL_CFG_SIZE l)
      if size = 0 then none
      else some (0x08 + l, s.get (F.SCHED_SPILL_CFG_BASE l) * 0x1000, 32 * 2 ^ size))

/-- The first area of a list that leaves shared SRAM (code 2) or overlaps an area before it
(code 1): code, lower area, area (R368). -/
def areaCheck : List (Nat × Nat × Nat) → List (Nat × Nat × Nat) → Option (Nat × Nat × Nat)
  | _, [] => none
  | before, x :: rest =>
    if x.2.1 + x.2.2 > sramSize then some (2, x.1, 0)
    else match before.find? (fun y => overlap y.2.1 y.2.2 x.2.1 x.2.2) with
      | some y => some (1, y.1, x.1)
      | none => areaCheck (before ++ [x]) rest

/-- SCHED_CHK's code and INDEX at GO_READY (R580). -/
def State.schedCheck (s : State) : Option (Nat × Nat) :=
  match areaCheck [] s.schedAreas with
  | some (code, a, b) => some (1, if code = 2 then a else b)
  | none =>
    match (List.range 64).find? (fun e => s.on (F.SCHED_PT_CFG_EN e) &&
        (s.get (F.SCHED_PT_CFG_DIV e) < 1 || s.get (F.SCHED_PT_CFG_DIV e) > 64 ||
          s.get (F.SCHED_PT_CFG_PHASE e) ≥ s.get (F.SCHED_PT_CFG_DIV e) ||
          s.get (F.SCHED_PT_CFG_OFS e) ≥ s.P)) with
    | some e => some (2, e)
    | none =>
      let n := s.get F.SCHED_CFG_NEST_MAX
      if n < 1 || n > 8 then some (3, 0) else none

/-- SCHED_CNT_CLR: counters, histogram bins and MAX fields (R7, SCHED registers). -/
def State.schedCntClr (s : State) : State :=
  let s := { s with sched := { s.sched with qcyc := [] } }
  let s := s.zero [R.SCHED_CNT_CQLOST, R.SCHED_CNT_TPLERR]
  let s := (List.range 32).foldl (fun t q => t.zero [R.SCHED_QTUSE q, R.SCHED_QREJ q]) s
  let s := (List.range Config.cores).foldl (fun t c =>
    t.zero [R.SCHED_CORE_BUSY c, R.SCHED_CORE_ITEMS c, R.SCHED_CORE_PREEMPT c]) s
  let s := (List.range 8).foldl (fun t l =>
    let t := (List.range 8).foldl (fun u b => u.set (R.SCHED_HIST l b) 0) t
    (t.set (F.SCHED_LVL_DEPTH_MAX l) 0).set (F.SCHED_SPILL_MAX_DEPTH l) 0) s
  (List.range 32).foldl State.quotaUpd s

end Sys2Proof.Machine
end

