-- ==== Sys2Proof/Machine/Lane.lean ====
section
/-! DEFINITION. Lanes: synchronisation and the error score (R69 to R72), rate matching (R74,
R77), adaptation and the drift guard (R80 to R85), training (R89 to R93), PRBS (R94 to R97),
and the frames of the HELLO exchange (R103 to R107, R392). -/

namespace Sys2Proof.Machine

open Sys2Proof

/-- The hidden state of lane l. -/
def State.lane (s : State) (l : Nat) : LaneS := sget s.lanes {} l

/-- The hidden state of lane l replaced. -/
def State.setLane (s : State) (l : Nat) (x : LaneS) : State :=
  { s with lanes := sput s.lanes {} l x }

/-- Training states (R90). -/
inductive LState
  | disabled | train | hello | backoff | up | absent | test
  deriving DecidableEq, Repr

/-- The code of a training state in LANE_STAT. -/
def LState.code : LState → Nat
  | .disabled => 0 | .train => 1 | .hello => 2 | .backoff => 3 | .up => 4 | .absent => 5 | .test => 6

/-- The training state of lane l. -/
def State.lst (s : State) (l : Nat) : LState :=
  match s.get (F.LANE_STAT_STATE l) with
  | 1 => .train | 2 => .hello | 3 => .backoff | 4 => .up | 5 => .absent | 6 => .test
  | _ => .disabled

/-- Lane l enters a training state; TRAIN reads 1 outside DISABLED. -/
def State.setLst (s : State) (l : Nat) (x : LState) : State :=
  (s.set (F.LANE_STAT_STATE l) x.code).set (F.LANE_CTRL_TRAIN l) (b2n (x ≠ .disabled))

/-- Roles (R86). -/
inductive LRole
  | none | string | mirror | test
  deriving DecidableEq, Repr

/-- The role of lane l. -/
def State.lrole (s : State) (l : Nat) : LRole :=
  match s.get (F.LANE_CFG_ROLE l) with
  | 1 => .string | 2 => .mirror | 3 => .test | _ => .none

/-- INDEX of lane l: its string or mirror index. -/
def State.lidx (s : State) (l : Nat) : Nat := s.get (F.LANE_CFG_INDEX l)

/-- The lowest-numbered lane that carries string n (R86, R87). -/
def State.strLane? (s : State) (n : Nat) : Option Nat :=
  (List.range Config.lanes).find? (fun l => s.lrole l = .string && s.lidx l = n)

/-- The lowest-numbered lane with mirror index i. -/
def State.mirLane? (s : State) (i : Nat) : Option Nat :=
  (List.range Config.lanes).find? (fun l => s.lrole l = .mirror && s.lidx l = i)

/-- The lane of string n is UP. -/
def State.strUp (s : State) (n : Nat) : Bool :=
  match s.strLane? n with
  | some l => s.lst l = .up
  | none => false

/-- Character time of lane l in ns (R68). -/
def State.tChar (s : State) (l : Nat) : Nat := 2 ^ s.get (F.LANE_CFG_RATE l)

/-- Transmit latency of lane l in ns (R68). -/
def State.tTx (s : State) (l : Nat) : Nat := 20 + 20 * s.tChar l

/-- Receive latency of lane l in ns (R68). -/
def State.tRx (s : State) (l : Nat) : Nat := 30 + 20 * s.tChar l

/-- The transmitter and the receiver of lane l are on: its role is not NONE (R86). -/
def State.laneOn (s : State) (l : Nat) : Bool := s.lrole l ≠ .none

/-! ## What a lane transmits -/

/-- What a lane transmits where no frame is on it. -/
inductive Fill
  /-- electrical idle: role NONE (R86) -/
  | off
  /-- IDLE, with SKPs among them (R70, R73, R90, R91, R151) -/
  | idle
  /-- the PRBS generator (R94) -/
  | prbs
  /-- the received bits: far-end loopback (R98) -/
  | looped
  deriving DecidableEq, Repr

/-- What lane l transmits outside frames (R70, R86, R91, R94, R98). -/
def State.laneFill (s : State) (l : Nat) : Fill :=
  match s.lrole l with
  | .none => .off
  | .test =>
    if s.get (F.LANE_CTRL_LOOP l) = 3 then .looped
    else if s.on (F.LANE_PRBS_CTRL_GEN_EN l) then .prbs else .idle
  | _ => .idle

/-- SKPs sent in the fill since the latest SKP: one every 1,024 characters (R73). One that falls
due in the 8 characters before a frame has been sent before them. -/
def State.fillSkps (s : State) (l : Nat) : Nat :=
  if s.laneFill l = .idle then (s.elapsed - (s.lane l).skpAt) / (1024 * s.tChar l) else 0

/-- The fill of lane l since its latest frame. -/
def State.fillOut (s : State) (l : Nat) : State :=
  let k := s.fillSkps l
  s.when (k ≠ 0) (·.emit (.fill l k))

/-- A frame of n characters between its delimiters leaves on lane l: the fill before it, a BLK
immediately before its start delimiter where `g` is not 0 (R141), the frame, and one SKP
immediately after its end delimiter (R73). -/
def State.sendFrame (s : State) (l n g : Nat) (o : Out) : State :=
  let s := (((s.fillOut l).when (g ≠ 0) (·.emit (.blk l g))).emit o).emit (.skp l)
  s.setLane l { s.lane l with skpAt := s.elapsed + (n + 2 + (skpSet 3).length) * s.tChar l }

/-- A frame of a string lane leaves (R103). -/
def State.sendLane (s : State) (l : Nat) (f : Bytes) : State := s.sendFrame l f.length 0 (.lane l f)

/-- A stroke leaves, with a BLK of mask g before its start delimiter (R123, R141). -/
def State.sendStroke (s : State) (l g : Nat) (f : Bytes) : State :=
  s.sendFrame l f.length g (.stroke l f)

/-- A frame of a mirror lane leaves (R392). -/
def State.sendMirror (s : State) (l : Nat) (f : Bytes) : State := s.sendFrame l f.length 0 (.mirror l f)

/-! ## What a lane delivers -/

/-- A frame with the errors of its reception (R69, R77): an error character in place of a
character, a character lost, an error character gained. An error character is no data character;
the complement in its place makes the CRC fail. -/
def hurtFrame (f : Bytes) : List (Nat × Hurt) → Bytes
  | [] => f
  | (k, .bad) :: r => hurtFrame (f.take k ++ ((f.drop k).take 1).map (· ^^^ 0xFF) ++ f.drop (k + 1)) r
  | (k, .lost) :: r => hurtFrame (f.take k ++ f.drop (k + 1)) r
  | (k, .extra) :: r => hurtFrame (f.take k ++ [0xFF] ++ f.drop k) r

/-- A frame arrives on lane l and is handed on as the receiver delivers it. -/
def State.onFrame (s : State) (l : Nat) (f : Bytes) (k : State → Bytes → State) : State :=
  let h := (s.lane l).hurt
  if h.isEmpty then k s f
  else k (s.setLane l { s.lane l with hurt := [] }) (hurtFrame f h)

/-- An error in the frame being received on lane l, at a character position. -/
def State.hurtAt (s : State) (l : Nat) (pos : Option Nat) (h : Hurt) : State :=
  match pos with
  | some k => s.setLane l { s.lane l with hurt := (s.lane l).hurt ++ [(k, h)] }
  | none => s

/-! ## Frames of the HELLO exchange -/

/-- MODE bit 1: SIDE (string frames). -/
def State.sideBit (s : State) : Nat := b2n s.straps.side

/-- A HELLO (HELLO table). -/
def helloFrame (enum side string nonce : Nat) : Bytes :=
  withCrc32 (toLE 1 2 ++ toLE 1 (enum + 2 * side) ++ toLE 1 3 ++ toLE 1 string ++ toLE 4 nonce)

/-- A REPLY of a device: bytes 2 to 19 are 0 except NONCE (HELLO exchange). -/
def devReply (kind nonce : Nat) : Bytes :=
  withCrc32 (toLE 1 3 ++ toLE 1 kind ++ [0, 0] ++ toLE 4 nonce ++ List.replicate 12 0)

/-- A mirror frame of a type with its body (R392). -/
def mirrorFrame (type : Nat) (body : Bytes) : Bytes :=
  withCrc32 (toLE 1 type ++ [0] ++ toLE 2 body.length ++ body)

/-- The MHELLO or MREPLY body of lane l (R392). -/
def State.mhelloBody (s : State) (l nonce : Nat) : Bytes :=
  toLE 1 (if s.get F.PAIR_CFG_MLVMAX = 1 then 1 else 3) ++
    toLE 1 (b2n s.straps.side + 2 * b2n s.straps.home) ++ toLE 1 (s.lidx l) ++ [0] ++
    toLE 2 (s.get F.PAIR_CFG_PAIR_ID) ++ [0, 0] ++ toLE 4 nonce ++ toLE 8 Config.deviceUid

/-- Lane l sends its own HELLO, with a fresh NONCE, in the form of its role (R90). -/
def State.sendHello (s : State) (l : Nat) : State :=
  let (v, s) := s.fresh
  let n := v % 2 ^ 32
  let s := s.setLane l { s.lane l with nonce := n }
  match s.lrole l with
  | .string => s.sendLane l (helloFrame 0 s.sideBit (s.lidx l) n)
  | .mirror => s.sendMirror l (mirrorFrame 0x20 (s.mhelloBody l n))
  | _ => s

/-- A string frame of a fixed length is well formed: TYPE, length and CRC (R103, R104). -/
def strFrameOk (type len : Nat) (f : Bytes) : Bool :=
  f.length = len && fieldLE f 0 1 = type && crc32Ok f

/-- A mirror frame is well formed: TYPE, LEN and CRC (R392). -/
def mirFrameOk (type : Nat) (f : Bytes) : Bool :=
  8 ≤ f.length && fieldLE f 0 1 = type && fieldLE f 2 2 + 8 = f.length && crc32Ok f

/-! ## Coding, synchronisation, rate matching -/

/-- With CTLE_FIX set the CTLE holds CTLE_SET, and reads 0 in DISABLED (R80, R90). -/
def State.ctleHold (s : State) (l : Nat) : State :=
  s.when (s.on (F.LANE_RXEQ_CTLE_FIX l) && s.lst l ≠ .disabled) (fun s =>
    s.set (F.LANE_RXEQ_CTLE_CUR l) (s.get (F.LANE_RXEQ_CTLE_SET l)))

/-- Entry to TRAIN (R90): the coefficients of the snapshot, or CTLE_SET and 0. A freeze of either
kind ends here (R84, notes/assumptions/92.md). -/
def State.toTrain (s : State) (l : Nat) : State :=
  let snap := (s.lane l).snap
  let s := s.setLane l { s.lane l with idles := 0, guard := false }
  let s := s.set (F.LANE_STAT_FROZEN l) 0
  let s :=
    if snap then
      (s.set (F.LANE_RXEQ_CTLE_CUR l) (s.get (F.LANE_RXEQ_CTLE_SNAP l))).set (R.LANE_DFE l)
        (s.get (R.LANE_DFE_SNAP l))
    else
      (s.set (F.LANE_RXEQ_CTLE_CUR l) (s.get (F.LANE_RXEQ_CTLE_SET l))).set (R.LANE_DFE l) 0
  (s.setLst l .train).ctleHold l

/-- UP is left for TRAIN (R90); nothing is injected any more (R141, notes/assumptions/96.md). -/
def State.laneDrop (s : State) (l : Nat) : State :=
  if s.lst l = .up then
    let s := (s.flag (F.LANE_STAT_LOS l)).inc (F.LANE_ADAPT_CNT_RETRAINS l)
    let s := s.when (s.lrole l = .string && s.strLane? (s.lidx l) = some l) (fun s =>
      s.set (F.STR_BLK_G_TX (s.lidx l)) 0)
    (s.set (F.LANE_STAT_ATTEMPT l) 0).toTrain l
  else s

/-- SYNC sets after three aligned K28.5 (R71) from a link peer of the same rate (R66); SIG_DET and
CDR_LOCK set with it (notes/assumptions/93.md). -/
def State.syncAcquire (s : State) (l rate : Nat) : State :=
  if s.laneOn l && rate = s.get (F.LANE_CFG_RATE l) then
    let s := s.setLane l { s.lane l with score := 0, good := 0, commas := 3 }
    ((s.flag (F.LANE_STAT_SIG_DET l)).flag (F.LANE_STAT_CDR_LOCK l)).flag (F.LANE_STAT_SYNC l)
  else s

/-- A code error after `gap` characters without one (R72): counted and scored; a score of 4
clears SYNC. -/
def State.codeScore (s : State) (l gap : Nat) : State :=
  let s := s.inc (R.LANE_CODE_ERR l)
  if s.on (F.LANE_STAT_SYNC l) then
    let x := s.lane l
    let sc := (x.score - (x.good + gap) / 64) + 1
    if sc ≥ 4 then
      (s.setLane l { x with score := 0, good := 0, commas := 0 }).set (F.LANE_STAT_SYNC l) 0
    else s.setLane l { x with score := sc, good := 0 }
  else s.setLane l { s.lane l with commas := 0, good := 0 }

/-- A code group received at a running disparity that no character has is a code error (R69): it
is counted and scored, and an error character stands in the frame. -/
def State.codeError (s : State) (l gap : Nat) (rd : Bool) (code : Nat) (pos : Option Nat) : State :=
  if s.laneOn l && (dec10 rd code).isNone then (s.codeScore l gap).hurtAt l pos .bad else s

/-- The loss of signal on lane l (R90). -/
def State.sigLost (s : State) (l : Nat) : State :=
  ((s.set (F.LANE_STAT_SIG_DET l) 0).set (F.LANE_STAT_CDR_LOCK l) 0).set (F.LANE_STAT_SYNC l) 0

/-- A SKP with n K28.0 at a fill of the elastic buffer (R74, R77); 1 to 5 make a SKP (R75). -/
def State.skp (s : State) (l n fill : Nat) : State :=
  if !s.laneOn l || !skpIs n then s
  else
  let x := s.lane l
  let f :=
    if x.recentre then 4
    else if fill > 5 then fill - min 2 (min (fill - 4) (n - 1))
    else if fill < 3 then fill + min 2 (min (4 - fill) (5 - n))
    else fill
  s.setLane l { x with fill := f, recentre := false }

/-- An overflow or underflow of the elastic buffer (R77): the incoming character is lost, or an
error character is gained. -/
def State.ebError (s : State) (l : Nat) (ovf : Bool) (pos : Option Nat) : State :=
  if !s.laneOn l then s
  else
    let s := s.flag (F.LANE_STAT_EB_ERR l)
    let s := if ovf then s.inc (F.LANE_EB_CNT_OVF l) else s.inc (F.LANE_EB_CNT_UNF l)
    (s.setLane l { s.lane l with recentre := true }).hurtAt l pos (if ovf then .lost else .extra)

/-! ## Adaptation -/

/-- A DFE tap register with each tap moved one step by the sign of its entry (R80, R81). -/
def dfeStep (w : Nat) (signs : List Int) : Nat :=
  (List.range 5).foldl (fun a k =>
    setBits a (6 * k) 6 (us 6 (clampI (-32) 31 (sx 6 (bits w (6 * k) 6) + (nth signs 0 k).sign)))) w

/-- A coefficient lies outside the guard around the snapshot (R84). -/
def State.guardTrips (s : State) (l : Nat) : Bool :=
  let d (a b : Nat) : Nat := if a > b then a - b else b - a
  d (s.get (F.LANE_RXEQ_CTLE_CUR l)) (s.get (F.LANE_RXEQ_CTLE_SNAP l)) >
      s.get (F.LANE_RXEQ_GUARD_CTLE l) ||
    (List.range 5).any (fun k =>
      (sx 6 (bits (s.word (R.LANE_DFE l)) (6 * k) 6) -
        sx 6 (bits (s.word (R.LANE_DFE_SNAP l)) (6 * k) 6)).natAbs >
          s.get (F.LANE_RXEQ_GUARD_DFE l))

/-- The drift guard trips: the snapshot is restored (R84). -/
def State.guardRevert (s : State) (l : Nat) : State :=
  let s := s.set (F.LANE_RXEQ_CTLE_CUR l) (s.get (F.LANE_RXEQ_CTLE_SNAP l))
  let s := (s.set (R.LANE_DFE l) (s.get (R.LANE_DFE_SNAP l))).ctleHold l
  let s := (s.flag (F.LANE_STAT_ADAPT_REVERT l)).inc (F.LANE_ADAPT_CNT_REVERTS l)
  if s.on (F.LANE_CTRL_GUARD_FREEZE l) then
    (s.setLane l { s.lane l with guard := true, frameCh := 0 }).flag (F.LANE_STAT_FROZEN l)
  else s

/-- The lane adapts: a synchronised lane outside DISABLED, enabled and not frozen (R81, R90). -/
def State.adapting (s : State) (l : Nat) : Bool :=
  s.on (F.LANE_CTRL_ADAPT_EN l) && !s.on (F.LANE_STAT_FROZEN l) && s.on (F.LANE_STAT_SYNC l) &&
    s.laneOn l && s.lst l ≠ .disabled

/-- One adaptation update by the signs that the received data give (R81, R84). -/
def State.adapt (s : State) (l : Nat) (ctle : Int) (taps : List Int) : State :=
  if s.adapting l then
    let cur : Int := s.get (F.LANE_RXEQ_CTLE_CUR l)
    let c := if s.on (F.LANE_RXEQ_CTLE_FIX l) then s.get (F.LANE_RXEQ_CTLE_SET l)
      else (clampI 0 15 (cur + ctle.sign)).toNat
    let s := (s.set (F.LANE_RXEQ_CTLE_CUR l) c).set (R.LANE_DFE l)
      (dfeStep (s.word (R.LANE_DFE l)) taps)
    s.when ((s.lane l).snap && s.guardTrips l) (·.guardRevert l)
  else s

/-- 64 IDLE sets in a row freeze adaptation (R82). -/
def State.adaptFreeze (s : State) (l : Nat) : State :=
  if s.laneOn l && s.on (F.LANE_STAT_SYNC l) && s.lst l ≠ .disabled then
    (s.setLane l { s.lane l with frameCh := 0, idles := 64 }).flag (F.LANE_STAT_FROZEN l)
  else s

/-- 256 frame characters since the freeze resume adaptation, unless the guard froze it (R82,
R84). -/
def State.adaptResume (s : State) (l : Nat) : State :=
  if s.on (F.LANE_STAT_FROZEN l) && !(s.lane l).guard then
    (s.setLane l { s.lane l with idles := 0, frameCh := 256 }).set (F.LANE_STAT_FROZEN l) 0
  else s

/-! ## Training -/

/-- DISABLED is left (R89, R90). -/
def State.laneTrain (s : State) (l : Nat) : State :=
  if (s.lrole l = .string || s.lrole l = .mirror) && s.lst l = .disabled then
    ((s.set (F.LANE_STAT_ATTEMPT l) 0).setLane l { s.lane l with skpAt := s.elapsed }).toTrain l
  else s

/-- The adaptation step of TRAIN ends: snapshot, HELLO (R83, R90). -/
def State.trainDone (s : State) (l : Nat) : State :=
  if s.lst l = .train && s.on (F.LANE_STAT_SYNC l) then
    let s := s.set (F.LANE_RXEQ_CTLE_SNAP l) (s.get (F.LANE_RXEQ_CTLE_CUR l))
    let s := s.set (R.LANE_DFE_SNAP l) (s.get (R.LANE_DFE l))
    let s := s.setLane l { s.lane l with snap := true }
    (s.setLst l .hello).sendHello l
  else s

/-- Another HELLO in HELLO (R90). -/
def State.helloResend (s : State) (l : Nat) : State :=
  if s.lst l = .hello then s.sendHello l else s

/-- The attempt timer reaches 2 ms (R90). -/
def State.attemptTimeout (s : State) (l : Nat) : State :=
  if s.lst l = .train || s.lst l = .hello then
    let a := s.get (F.LANE_STAT_ATTEMPT l)
    if a < 8 then
      let s := s.setLane l { s.lane l with backoff := 2 ^ a }
      (s.set (F.LANE_STAT_ATTEMPT l) (a + 1)).setLst l .backoff
    else (s.flag (F.LANE_STAT_ABSENT_SEEN l)).setLst l .absent
  else s

/-- The backoff timer elapses (R90). -/
def State.backoffExpiry (s : State) (l : Nat) : State :=
  if s.lst l = .backoff then s.toTrain l else s

/-- An ABSENT lane starts another attempt (R90, R92). -/
def State.absentRetry (s : State) (l : Nat) : State :=
  if s.lst l = .absent then s.toTrain l else s

/-- A valid REPLY of kind LINK to the lane's own HELLO (R90, R106). -/
def State.linkReplyOk (s : State) (l : Nat) (f : Bytes) : Bool :=
  s.lst l = .hello && s.lrole l = .string && strFrameOk 3 24 f && fieldLE f 1 1 = 4 &&
    fieldLE f 4 4 = (s.lane l).nonce

/-- HELLO ends in UP (R90). -/
def State.laneUp (s : State) (l : Nat) : State :=
  (s.set (F.LANE_STAT_ATTEMPT l) 0).setLst l .up

/-- A HELLO with ENUM 0 on a string lane is answered by a REPLY of kind LINK (R91, R106). -/
def State.helloReceive (s : State) (l : Nat) (f : Bytes) : State :=
  if s.lrole l = .string && s.on (F.LANE_STAT_SYNC l) && s.lst l ≠ .disabled &&
      strFrameOk 2 12 f && !bit (fieldLE f 1 1) 0 then
    s.sendLane l (devReply 4 (fieldLE f 4 4))
  else s

/-- A write of LANE_CFG (R89): in CONFIG, a change of ROLE or RATE returns the lane to
DISABLED and clears its coefficients; a TEST lane reads TEST. What the receiver has found on the
old setting goes with it (notes/assumptions/94.md). -/
def State.laneCfgWrite (s : State) (l mask data : Nat) : State :=
  if s.gst = .config then
    let old := s.word (R.LANE_CFG l)
    let m := mask &&& 0x3FF
    let v := (old &&& (m ^^^ 0x3FF)) ||| (data &&& m)
    let s := s.set (R.LANE_CFG l) v
    if bits v 0 4 ≠ bits old 0 4 then
      let s := s.setLane l {}
      let s := s.set (F.LANE_RXEQ_CTLE_CUR l) 0
      let s := (s.set (F.LANE_RXEQ_CTLE_SNAP l) 0).zero [R.LANE_DFE l, R.LANE_DFE_SNAP l]
      let s := s.set (F.LANE_STAT_FROZEN l) 0
      let s := (s.sigLost l).set (F.LANE_STAT_ATTEMPT l) 0
      s.setLst l (if bits v 0 2 = 3 then .test else .disabled)
    else s
  else s

/-- A write of LANE_TXEQ (R78, R79): RWL fields; a value beyond a limit of R78 leaves the
register unchanged and sets EQ_REJ. -/
def State.txeqWrite (s : State) (l mask data : Nat) : State :=
  if s.gst = .config then
    let m := mask &&& 0x3FFF
    let v := (s.word (R.LANE_TXEQ l) &&& (m ^^^ 0x3FFF)) ||| (data &&& m)
    if bits v 4 5 ≤ 16 && bits v 9 5 ≤ 24 && bits v 4 5 + bits v 9 5 ≤ 32 then
      s.set (R.LANE_TXEQ l) v
    else s.flag (F.LANE_STAT_EQ_REJ l)
  else s

/-- LANE_CNT_CLR (R97). -/
def State.laneCntClr (s : State) (l : Nat) : State :=
  s.zero [R.LANE_CODE_ERR l, R.LANE_EB_CNT l, R.LANE_ADAPT_CNT l]

/-- LOOP, GEN_EN or CHK_EN nonzero on a lane whose role is not TEST sets CFG_IGN (R88). -/
def State.testIgn (s : State) (l : Nat) : State :=
  s.when (s.lrole l ≠ .test && (s.get (F.LANE_CTRL_LOOP l) ≠ 0 ||
    s.on (F.LANE_PRBS_CTRL_GEN_EN l) || s.on (F.LANE_PRBS_CTRL_CHK_EN l)))
    (·.flag (F.LANE_STAT_CFG_IGN l))

/-! ## PRBS and loopbacks -/

/-- The generator of lane l runs (R88, R94). -/
def State.genOn (s : State) (l : Nat) : Bool :=
  s.lrole l = .test && s.on (F.LANE_PRBS_CTRL_GEN_EN l)

/-- GEN_EN or GEN_PAT has been written: a generator that begins starts from a register that the
manual does not give (R94). -/
def State.genStart (s : State) (l old : Nat) : State :=
  if s.genOn l && (!bit old 0 || bits old 1 2 ≠ s.get (F.LANE_PRBS_CTRL_GEN_PAT l)) then
    let (v, s) := s.fresh
    let n := (prbsTaps (s.get (F.LANE_PRBS_CTRL_GEN_PAT l))).1
    s.setLane l { s.lane l with seed := v % (2 ^ n - 1) + 1, genAt := s.elapsed }
  else s

/-- The next k bits of the generator of lane l: 10 bits a character time, without 8b/10b coding,
inverted with GEN_INV (R68, R94). -/
def State.genBits (s : State) (l k : Nat) : List Bool :=
  let pat := s.get (F.LANE_PRBS_CTRL_GEN_PAT l)
  let x := s.lane l
  let r := prbsSkip pat ((s.elapsed - x.genAt) * 10 / s.tChar l) x.seed
  (prbsBits pat k r).map (· != s.on (F.LANE_PRBS_CTRL_GEN_INV l))

/-- A near-end loopback: the receive pair is ignored (R98). -/
def State.nearEnd (s : State) (l : Nat) : Bool :=
  s.lrole l = .test && (s.get (F.LANE_CTRL_LOOP l) = 1 || s.get (F.LANE_CTRL_LOOP l) = 2)

/-- The bits that the receiver of lane l takes where the receive pair carries `rx`: in a near-end
loopback its own transmitter's (R98); a transmitter without a generator sends no pattern. -/
def State.rxBits (s : State) (l : Nat) (rx : List Bool) : List Bool :=
  if s.nearEnd l then (if s.genOn l then s.genBits l rx.length else rx.map (fun _ => false)) else rx

/-- Received bits of a TEST lane: far-end loopback sends them on again (R98). -/
def State.farEnd (s : State) (l : Nat) (rx : List Bool) : State :=
  s.when (s.lrole l = .test && s.get (F.LANE_CTRL_LOOP l) = 3) (·.emit (.looped l rx))

/-- The checker of lane l runs (R94, R95). LOCK keeps its value when it stops
(notes/assumptions/95.md). -/
def State.chkOn (s : State) (l : Nat) : Bool :=
  s.lrole l = .test && s.on (F.LANE_PRBS_CTRL_CHK_EN l)

/-- Received bits as the checker compares them: inverted with CHK_INV (R94). -/
def State.chkBits (s : State) (l : Nat) (rx : List Bool) : List Bool :=
  (s.rxBits l rx).map (· != s.on (F.LANE_PRBS_CTRL_CHK_INV l))

/-- The bits that seed the checker are followed by 256 bits without error (R95). A register of
zeros is no pattern. -/
def State.chkRun (s : State) (l : Nat) (rx : List Bool) : Bool :=
  let pat := s.get (F.LANE_PRBS_CTRL_CHK_PAT l)
  let n := (prbsTaps pat).1
  let b := s.chkBits l rx
  let r := prbsSeed pat (b.take n)
  decide (n + 256 ≤ b.length) && r ≠ 0 && prbsErrs pat r ((b.drop n).take 256) = 0

/-- Received bits from which the checker locks: 256 consecutive error-free ones (R95). -/
def State.prbsLock (s : State) (l : Nat) (rx : Bytes) : State :=
  let b := bitsOf rx
  let s := s.farEnd l b
  if s.chkOn l && s.chkRun l b then s.flag (F.LANE_PRBS_STAT_LOCK l) else s

/-- Bits compared and errors found while LOCK was set (R95, R96); a near-end parallel loopback
adds no error of a line (R98). -/
def State.prbsCount (s : State) (l n errs : Nat) : State :=
  if s.chkOn l && s.on (F.LANE_PRBS_STAT_LOCK l) then
    let near := s.nearEnd l && s.get (F.LANE_CTRL_LOOP l) = 2
    let s := s.addSat (R.LANE_PRBS_ERR l) (if near then 0 else errs)
    s.setLane l { s.lane l with bits := ((s.lane l).bits + n) % 2 ^ 64 }
  else s

/-- 64 errors or more in 1,024 bits: LOCK clears (R95). -/
def State.prbsLost (s : State) (l n errs : Nat) : State :=
  if s.chkOn l && s.on (F.LANE_PRBS_STAT_LOCK l) && 64 ≤ errs && errs ≤ n then
    ((s.prbsCount l n errs).set (F.LANE_PRBS_STAT_LOCK l) 0).flag (F.LANE_PRBS_STAT_LOCK_LOST l)
  else s

/-- A read of LANE_PRBS_ERR latches the bit count (R96). -/
def State.prbsLatch (s : State) (l : Nat) : State :=
  let n := (s.lane l).bits
  (s.set (R.LANE_PRBS_BITS_LO l) (n % 2 ^ 32)).set (R.LANE_PRBS_BITS_HI l) (n / 2 ^ 32)

/-- LANE_PRBS_CTRL.CLR (R96). -/
def State.prbsClr (s : State) (l : Nat) : State :=
  (s.set (R.LANE_PRBS_ERR l) 0).setLane l { s.lane l with bits := 0 }

/-! ## Configuration check -/

/-- The code of R87 that lane l fails, codes 0x1 to 0x4, and 0x5 at the lowest MIRROR lane. -/
def State.laneCheckOne (s : State) (l : Nat) : Nat :=
  let r := s.lrole l
  let i := s.lidx l
  let lower := List.range l
  if r = .string && i > 43 then 1
  else if r = .string && lower.any (fun k => s.lrole k = .string && s.lidx k = i) then 2
  else if r = .mirror && (i > 3 || lower.any (fun k => s.lrole k = .mirror && s.lidx k = i)) then 3
  else if r = .mirror && s.get (F.LANE_CFG_RATE l) ≠ 0 then 4
  else if r = .mirror && !(lower.any (fun k => s.lrole k = .mirror)) &&
      ((List.range Config.lanes).filter (fun k => s.lrole k = .mirror)).length ≠ 4 then 5
  else 0

/-- The first lane that fails R87 with its code. -/
def State.laneCheck (s : State) : Option (Nat × Nat) :=
  (List.range Config.lanes).findSome? (fun l =>
    let c := s.laneCheckOne l
    if c = 0 then none else some (l, c))

end Sys2Proof.Machine
end

