-- ==== Sys2Proof/Machine/Str.lean ====
section
/-! DEFINITION. Strings: the cell table's entries (R157 to R162), the map and its layout
(R108, R115, R116, R131, R158), enumeration (R114 to R122), the checks (R149, R150), BLK
(R140 to R144), and what a lane returns to its link peer (R107, R112). -/

namespace Sys2Proof.Machine

open Sys2Proof

/-! ## Roles and lock groups -/

/-- Roles of a device (R387); `claiming` is read while a claim of R384 runs (R389). -/
inductive Role
  | none | nightwatch | active | alone | leaving | claiming
  deriving DecidableEq, Repr

/-- The code of a role in PAIR_STAT.ROLE. -/
def Role.code : Role → Nat
  | .none => 0 | .nightwatch => 1 | .active => 2 | .alone => 3 | .leaving => 4 | .claiming => 5

/-- The role (R387). -/
def State.role (s : State) : Role :=
  match s.get F.PAIR_STAT_ROLE with
  | 1 => .nightwatch | 2 => .active | 3 => .alone | 4 => .leaving | 5 => .claiming
  | _ => .none

/-- The role is ACTIVE or ALONE: the device launches under its own SIDE (R136). -/
def State.holder (s : State) : Bool := s.role = .active || s.role = .alone

/-- The mirror link is UP (R390). -/
def State.linkUp (s : State) : Bool := s.get F.PAIR_STAT_LINK = 1

/-- Lock group g is enabled. -/
def State.lgEn (s : State) (g : Nat) : Bool := s.on (F.TIME_LG_CFG_EN g)

/-- String n is a member of group g (R49). -/
def State.lgHas (s : State) (g n : Nat) : Bool :=
  if n < 32 then bit (s.get (F.TIME_LG_STRA_STR g)) n
  else bit (s.get (F.TIME_LG_STRB_STR g)) (n - 32)

/-- The enabled group of string n, lowest first (R50). -/
def State.strGrp? (s : State) (n : Nat) : Option Nat :=
  (List.range Config.groups).find? (fun g => s.lgEn g && s.lgHas g n)

/-- The present period is one of group g's (R51). -/
def State.lgActs (s : State) (g : Nat) : Bool :=
  let d := s.get (F.TIME_LG_CFG_DIV g)
  s.lgEn g && s.peRun && d ≠ 0 && s.time.pidx % d = 0

/-- LAUNCH_OFS of string n's group (W of R150). -/
def State.launchOfs (s : State) (n : Nat) : Nat :=
  match s.strGrp? n with
  | some g => s.get (F.TIME_LG_OFS1_LAUNCH_OFS g)
  | none => 0

/-! ## Strings -/

/-- The hidden state of string n. -/
def State.str (s : State) (n : Nat) : StrS := sget s.strs {} n

/-- The hidden state of string n replaced. -/
def State.setStr (s : State) (n : Nat) (x : StrS) : State :=
  { s with strs := sput s.strs {} n x }

/-- String states (R154). -/
inductive SState
  | idle | enum | live | failed | watch
  deriving DecidableEq, Repr

/-- The code of a string state in STR_STAT. -/
def SState.code : SState → Nat
  | .idle => 0 | .enum => 1 | .live => 2 | .failed => 3 | .watch => 4

/-- The state of string n. -/
def State.sst (s : State) (n : Nat) : SState :=
  match s.get (F.STR_STAT_STATE n) with
  | 1 => .enum | 2 => .live | 3 => .failed | 4 => .watch
  | _ => .idle

/-- The arm of string n, 7 for none (R11). -/
def State.strArm (s : State) (n : Nat) : Nat := s.get (F.STR_CFG_ARM n)

/-- Number of frets of string n in service. -/
def StrS.inService (x : StrS) : Nat := (x.frets.filter (·.insvc)).length

/-- ARM_HOLD of string n (R120). -/
def State.armHold (s : State) (n : Nat) : Bool :=
  let e := s.get (F.STR_EXPECT_FRETS_COUNT n)
  let met := e = 0 || e = (s.str n).inService
  s.sst n = .failed || s.sst n = .idle ||
    (!met && !s.on (F.STR_ACCEPT_DEGRADED_ACCEPT n))

/-- The lowest of a list, or 0 of none. -/
def minOr0 : List Nat → Nat
  | [] => 0
  | x :: r => r.foldl min x

/-- STR_ENUM, STR_STAT's derived bits brought up to date (R118, R120, STR registers). -/
def State.strFlags (s : State) (n : Nat) : State :=
  let x := s.str n
  let e := s.get (F.STR_EXPECT_FRETS_COUNT n)
  let s := s.set (F.STR_ENUM_FRETS n) x.frets.length
  let s := s.set (F.STR_ENUM_HMIN n) (minOr0 ((x.frets.filter (fun f => f.ver ≠ 0)).map (·.hold)))
  let s := s.set (F.STR_ENUM_INCOMPAT n) (x.frets.filter (fun f => f.ver = 0)).length
  let s := s.set (F.STR_STAT_EXPECT_MET n) (b2n (e = 0 || e = x.inService))
  let s := s.set (F.STR_STAT_B_TIMED n)
    (b2n (x.inService ≠ 0 && (x.frets.filter (·.insvc)).all (·.timed)))
  s.set (F.STR_STAT_ARM_HOLD n) (b2n (s.armHold n))

/-- The LIVE strings of lock group g. -/
def State.grpLive (s : State) (g : Nat) : List Nat :=
  (List.range Config.strings).filter (fun n => s.lgHas g n && s.sst n = .live)

/-- The event TEL_SUBMIT of group g: every LIVE string has its stroke of the last launched period home
and parsed, or lost at the return bound (R135, R271; notes/assumptions/99.md). -/
def State.telSubmit (s : State) (g : Nat) : State :=
  let l := s.grpLive g
  if l.all (fun n => (s.str n).flights.isEmpty) then
    s.telItem g (l.foldl (fun m n => max m ((s.str n).launched.headD 0))
      (if l.isEmpty then s.time.pidx else 0))
  else s

/-- STR_FRET and STR_FLEAD of the frets of string n. -/
def State.strFrets (s : State) (n : Nat) : State :=
  (List.range (s.str n).frets.length).foldl (fun t k =>
    let f := nth (s.str n).frets {} k
    let t := t.set (R.STR_FRET n k)
      (f.d % 2 ^ 16 + f.fwd % 64 * 2 ^ 16 + f.ver * 2 ^ 22 + b2n f.insvc * 2 ^ 24)
    t.set (R.STR_FLEAD n k) (f.lead % 2 ^ 12 + f.hmax * 2 ^ 12 + b2n f.fb * 2 ^ 16)) s

/-- A string enters a state (R154). STR_CTRL.ENUM reads 1 in ENUM. -/
def State.setSst (s : State) (n : Nat) (x : SState) : State :=
  ((s.set (F.STR_STAT_STATE n) x.code).set (F.STR_CTRL_ENUM n) (b2n (x = .enum))).strFlags n

/-- Fret k of string n changed. -/
def State.updFret (s : State) (n k : Nat) (f : FretS → FretS) : State :=
  let x := s.str n
  s.setStr n { x with frets := setNth x.frets k (f (nth x.frets {} k)) }

/-- Station nanoseconds to the next bow of string n (R43). -/
def State.toBow (s : State) (n : Nat) : Nat :=
  let o := s.launchOfs n
  if s.time.pofs < o then o - s.time.pofs else s.P + o - s.time.pofs

/-- A frame of k characters on lane l would end within 200 ns of the next bow of the LIVE string
n, or run into its stroke (R122). -/
def State.nearBow (s : State) (n l k : Nat) : Bool :=
  s.sst n = .live && !(s.str n).mapWait && decide (s.toBow n < 200 + (k + 2) * s.tChar l)

/-- An enumeration frame onto the lane of string n, if it is UP; too near the next bow it waits
for the gap after the stroke (R122). -/
def State.strSend (s : State) (n : Nat) (f : Bytes) : State :=
  match s.strLane? n with
  | some l =>
    if s.nearBow n l f.length then s.setStr n { s.str n with held := (s.str n).held ++ [f] }
    else s.when (s.lst l = .up) (·.sendLane l f)
  | none => s

/-! ## The cell table and the dead-time table -/

/-- BAR0 offset of cell-table entry c (R157). -/
def State.ctAt (s : State) (c : Nat) : Nat :=
  sramBase + s.get F.MOD_CT_BASE_BASE * 0x80000 + 0x80 * c

/-- BAR0 offset of dead-time entry c (R198). -/
def State.dtAt (s : State) (c : Nat) : Nat :=
  sramBase + s.get F.MOD_DT_BASE_BASE * 0x8000 + 8 * c

/-- The offset lies in the cell table. -/
def State.inCt (s : State) (a : Nat) : Bool := s.ctAt 0 ≤ a && a < s.ctAt 4096

/-- The offset lies in the dead-time table. -/
def State.inDt (s : State) (a : Nat) : Bool := s.dtAt 0 ≤ a && a < s.dtAt 4096

/-- Word at an offset of entry c. -/
def State.ct (s : State) (c ofs : Nat) : Nat := s.rd32 (s.ctAt c + ofs)

/-- A word of entry c written by the hardware. -/
def State.ctPut (s : State) (c ofs v : Nat) : State := s.wr32 (s.ctAt c + ofs) v

/-- GAM_NOM of arm a for a capacitance (R172); 0 for a cell without an arm and for CNOM 0. -/
def State.gamNom (s : State) (arm cnom : Nat) : Nat :=
  if arm ≥ 6 || cnom = 0 then 0 else (rdiv (s.get (R.MOD_ARM_K arm)) cnom).toNat

/-- The health state that R174's first two rows give a newly assigned entry: OUT, HOSTOUT or
UNSEEDED. -/
def seedState (insvc : Bool) (ver w0C : Nat) : Nat :=
  if !insvc || ver = 0 || w0C % 2 ^ 16 = 0 then 0
  else if bit w0C 16 then 6 else 1

/-- A dead-time entry by the last case of R200. -/
def State.dtInit (s : State) (c : Nat) : State :=
  (s.wr32 (s.dtAt c) 0).wr32 (s.dtAt c + 4) (s.get F.MOD_DT_LIM_DTC_INIT)

/-- The entry of a fret whose final ASSIGN is acknowledged (R159, R162, R200): identity words,
observer words cleared, GAM and dead time kept for the same cell. -/
def State.ctAssign (s : State) (n k : Nat) (f : FretS) : State :=
  if f.cid > 4095 then s
  else
    let c := f.cid
    let arm := s.strArm n
    let same := s.ct c 0 = f.uid % 2 ^ 32 && s.ct c 4 = f.uid / 2 ^ 32
    let w0C := s.ct c 0x0C
    let gam := if same then s.ct c 0x2C else s.gamNom arm (w0C % 2 ^ 16)
    let s := (s.ctPut c 0 (f.uid % 2 ^ 32)).ctPut c 4 (f.uid / 2 ^ 32)
    let s := s.ctPut c 8 (n + k * 2 ^ 6 + arm * 2 ^ 14 + b2n f.fb * 2 ^ 17 + f.ver * 2 ^ 18 +
      f.hold * 2 ^ 20 + 2 ^ 24)
    let s := s.wrWords (s.ctAt c + 0x10) (List.replicate 28 0)
    let s := (s.ctPut c 0x2C gam).ctPut c 0x34 (seedState true f.ver w0C)
    let s := s.when (!same) (·.dtInit c)
    { s with modu := { s.modu with
      prev := sdel s.modu.prev (256 * n + k), tel := s.modu.tel.filter (fun t => t.cid ≠ c) } }

/-- INSVC of the entries of string n's frets cleared, as its RELEASE does (R159). -/
def State.ctRelease (s : State) (n : Nat) : State :=
  (s.str n).frets.foldl (fun t f =>
    if f.insvc && f.cid ≤ 4095 then
      let w := t.ct f.cid 8
      t.ctPut f.cid 8 (setBit w 24 false)
    else t) s

/-! ## Map and layout -/

/-- Bytes of a command record of a version (R123). -/
def cmdSize (ver : Nat) : Nat := if ver = 2 then 8 else if ver = 1 then 6 else 0

/-- Bytes of a telemetry slot of a version (R123). -/
def telSize (ver : Nat) : Nat := if ver = 2 then 12 else if ver = 1 then 8 else 0

/-- Offsets of areas of given sizes laid one after another. -/
def offsets (start : Nat) : List Nat → List Nat
  | [] => []
  | z :: r => start :: offsets (start + z) r

/-- The sum of a list. -/
def total (l : List Nat) : Nat := l.foldl (· + ·) 0

/-- Bytes of the command area of a map. -/
def cmdBytes (fr : List FretS) : Nat := total (fr.map (fun f => cmdSize f.ver))

/-- Bytes of the telemetry area of a map. -/
def telBytes (fr : List FretS) : Nat := total (fr.map (fun f => telSize f.ver))

/-- Command and telemetry offsets of frets in launching order (R116, R123). -/
def layOut (fr : List FretS) : List (Nat × Nat) :=
  (offsets 16 (fr.map (fun f => cmdSize f.ver))).zip
    (offsets (20 + cmdBytes fr) (fr.map (fun f => telSize f.ver)))

/-- The frets of a map with both sides' offsets; `side` is the side whose numbering the list
has (R116). -/
def withOffsets (side : Bool) (fr : List FretS) : List FretS :=
  let own := layOut fr
  let oth := (layOut fr.reverse).reverse
  (fr.zip (own.zip oth)).map (fun p =>
    let a := if side then p.2.2 else p.2.1
    let b := if side then p.2.1 else p.2.2
    { p.1 with cmdA := a.1, telA := a.2, cmdB := b.1, telB := b.2 })

/-- The version of a cell by R108, R109; and whether its declarations are bad. -/
def State.cellVer (s : State) (n vers fwd lead hmax : Nat) : Nat × Bool :=
  if fwd > 40 || lead > 4000 || hmax < 1 || hmax > 8 then (0, true)
  else if bit vers 1 && s.get (F.STR_CFG_VMAX n) ≥ 2 then (2, false)
  else if bit vers 0 then (1, false) else (0, false)

/-- H of a fret (R131). -/
def State.fretHold (s : State) (n hmax : Nat) : Nat :=
  let h := s.get (F.STR_CFG_HOLD n)
  if hmax = 0 then 1 else if hmax > 8 then h else clampN 1 8 (min h hmax)

/-- Fret k of n frets as side A numbers it. -/
def State.fretA (s : State) (n k : Nat) : Nat := if s.straps.side then n - 1 - k else k

/-- Identifier of fret k, or 0xFFFF with CID_CLASH where R158 gives none. -/
def State.fretCid (s : State) (n count k : Nat) : Nat :=
  let c := s.get (F.MOD_CID_BASE_BASE n) + s.fretA count k
  let taken := (List.range Config.strings).any (fun m =>
    m ≠ n && (s.str m).frets.any (fun f => f.cid = c))
  if c > 4095 || taken then 0xFFFF else c

/-- Half of a nonnegative difference, rounded up (R115). -/
def halfUp (a b : Nat) : Nat := (a - b + 1) / 2

/-! ## Enumeration frames -/

/-- The ECHO frame of this device. -/
def State.echoFrame (s : State) (fret nonce : Nat) : Bytes :=
  withCrc32 (toLE 1 6 ++ toLE 1 (2 * s.sideBit) ++ toLE 1 fret ++ [0] ++ toLE 4 nonce)

/-- The RELEASE frame of this device. -/
def State.releaseFrame (s : State) (n : Nat) : Bytes :=
  withCrc32 (toLE 1 7 ++ toLE 1 (2 * s.sideBit) ++ toLE 1 (s.get F.PAIR_EPOCH_EPOCH) ++ toLE 1 n)

/-- The provisional ASSIGN of fret k to a UID. -/
def State.provFrame (s : State) (n k uid : Nat) : Bytes :=
  withCrc32 (toLE 1 4 ++ [0, 0] ++ toLE 1 (2 * s.sideBit) ++ toLE 1 (s.get F.PAIR_EPOCH_EPOCH) ++
    toLE 1 k ++ List.replicate 21 0 ++ toLE 1 n ++ toLE 8 uid)

/-- A final ASSIGN of fret k: every field of the map (ASSIGN table). -/
def State.finalFrame (s : State) (n k : Nat) (addr : Bool) : Bytes :=
  let x := s.str n
  let f := nth x.frets {} k
  let fa := s.fretA x.frets.length k
  withCrc32 (toLE 1 4 ++ toLE 1 (s.get (F.STR_ENUM_MAP_ID n)) ++ toLE 1 f.ver ++
    toLE 1 (b2n addr + 2 * s.sideBit) ++ toLE 1 (s.get F.PAIR_EPOCH_EPOCH) ++ toLE 1 k ++
    toLE 1 fa ++ toLE 1 (x.frets.length - 1 - fa) ++ toLE 2 f.cid ++
    toLE 2 f.cmdA ++ toLE 2 f.telA ++ toLE 2 f.cmdB ++ toLE 2 f.telB ++
    toLE 2 f.leadA ++ toLE 2 f.leadB ++ toLE 2 s.P ++ toLE 2 (s.get F.PAIR_DLY_RLAG) ++
    toLE 1 f.hold ++ toLE 1 n ++ toLE 8 f.uid)

/-- A fresh nonce kept as the string's. -/
def State.strNonce (s : State) (n : Nat) : State :=
  let (v, s) := s.fresh
  s.setStr n { s.str n with nonce := v % 2 ^ 32 }

/-- An enumeration HELLO goes out (R114). -/
def State.sendEnumHello (s : State) (n : Nat) : State :=
  let s := s.strNonce n
  s.strSend n (helloFrame 1 s.sideBit n (s.str n).nonce)

/-- An ECHO to a fret, or to the end with 0xFF (R114). -/
def State.sendEcho (s : State) (n fret : Nat) : State :=
  let s := s.strNonce n
  s.strSend n (s.echoFrame fret (s.str n).nonce)

/-- FMAX (R114). -/
def State.fmax (s : State) : Nat := if s.P < 10000 then 96 else 192

/-- The string's phase of enumeration set. -/
def State.setPhase (s : State) (n : Nat) (p : EnumPhase) : State :=
  s.setStr n { s.str n with phase := p }

/-! ## Start and end of an enumeration -/

/-- Enumeration begins: a new MAP_ID, RELEASE, the first HELLO (R114, R154). -/
def State.enumBegin (s : State) (n : Nat) : State :=
  let s := s.ctRelease n
  let map := (s.str n).lastMap % 255 + 1
  let x := s.str n
  let y : StrS := { lastMap := map, flights := x.flights, blkTrip := x.blkTrip,
                    blkSvb := x.blkSvb, blkHold := x.blkHold, phase := .hello }
  let s := s.setStr n y
  let s := { s with modu := { s.modu with
    prev := s.modu.prev.filter (fun p => decide (p.1 / 256 ≠ n)) } }
  let s := (s.set (F.STR_ENUM_MAP_ID n) map).set (R.STR_CHK n) 0
  let s := s.zero [F.STR_STAT_FAR n, F.STR_STAT_SHORT n, F.STR_STAT_RELAY_OK n,
    F.STR_STAT_BROKEN n, F.STR_STAT_RELAY n, F.STR_CTRL_REENUM n]
  let s := s.setSst n .enum
  (s.strSend n (s.releaseFrame n)).sendEnumHello n

/-- The conditions of R114 that a start shares with a write of ENUM. -/
def State.enumReady (s : State) (n : Nat) : Bool :=
  s.gst = .ready && s.holder && s.strUp n

/-- The event ENUM_START: an IDLE string whose conditions hold (R114). -/
def State.enumStart (s : State) (n : Nat) : State :=
  s.when (s.sst n = .idle && (s.strGrp? n).isSome && s.enumReady n) (·.enumBegin n)

/-- A write of STR_CTRL.ENUM (R114, R154). -/
def State.enumWrite (s : State) (n : Nat) : State :=
  if s.sst n = .enum then s
  else if (s.sst n = .live || s.sst n = .failed) && s.enumReady n then s.enumBegin n
  else s.flag (F.STR_STAT_CMD_IGN n)

/-- A write of STR_CTRL.REENUM (R121). -/
def State.reenumWrite (s : State) (n : Nat) : State :=
  if s.sst n = .live && s.live && (s.str n).phase = .none then
    ((s.flag (F.STR_CTRL_REENUM n)).setPhase n .reHello).sendEnumHello n
  else s.flag (F.STR_STAT_CMD_IGN n)

/-- A re-admission ends (R121). -/
def State.reenumEnd (s : State) (n : Nat) (ok : Bool) : State :=
  let s := ((s.set (F.STR_CTRL_REENUM n) 0).setPhase n .none).strFlags n
  s.when (!ok) (·.flag (F.STR_STAT_REENUM_FAIL n))

/-- A failed check (R150): FAILED with its code and fret. -/
def State.strFail (s : State) (n code fret : Nat) : State :=
  let s := (s.set (F.STR_CHK_CODE n) code).set (F.STR_CHK_FRET n) fret
  (s.setPhase n .none).setSst n .failed

/-- The MAP frame body of string n (R392). -/
def State.mapBody (s : State) (n : Nat) : Bytes :=
  let x := s.str n
  toLE 1 n ++ toLE 1 (s.get (F.STR_ENUM_MAP_ID n)) ++ toLE 1 x.frets.length ++ [0] ++
    (x.frets.map (fun f => toLE 2 f.cid ++ toLE 1 f.ver ++ toLE 1 f.hold ++ toLE 2 f.cmdA ++
      toLE 2 f.telA ++ toLE 2 f.cmdB ++ toLE 2 f.telB)).flatten

/-- A mirror frame onto the lane with mirror index i, if it is UP. -/
def State.mirSend (s : State) (i type : Nat) (body : Bytes) : State :=
  match s.mirLane? i with
  | some l => s.when (s.lst l = .up) (·.sendMirror l (mirrorFrame type body))
  | none => s

/-- The string becomes LIVE; in a pair its MAP goes out and launches wait (R119, R154). -/
def State.strLive (s : State) (n : Nat) : State :=
  let s := (s.setPhase n .none).setSst n .live
  if s.role = .active && s.linkUp then
    (s.setStr n { s.str n with mapWait := true }).mirSend 0 0x25 (s.mapBody n)
  else s

/-- The final ASSIGN of fret k, or LIVE once every fret has its own (R114). -/
def State.finalNext (s : State) (n k : Nat) : State :=
  if k < (s.str n).frets.length then
    let s := s.setStr n { s.str n with k := k, phase := .final 1 }
    s.strSend n (s.finalFrame n k true)
  else s.strLive n

/-! ## Delays, layout and checks -/

/-- The delays, identifiers, versions, offsets and leads of the map (R115, R116, R131,
R158). -/
def State.mapCompute (s : State) (n : Nat) : State :=
  let x := s.str n
  let l := (s.strLane? n).getD 0
  let count := x.frets.length
  let clash := (List.range count).any (fun k => s.fretCid n count k = 0xFFFF)
  let fr := (List.range count).map (fun k =>
    let f := nth x.frets {} k
    let cid := s.fretCid n count k
    let d := halfUp f.rt (s.tTx l + s.tRx l + f.fwd)
    let lead := us 16 ((s.P : Int) - s.launchOfs n - s.tTx l - d)
    { f with d := d, cid := cid, ver := if cid = 0xFFFF then 0 else f.ver,
             hold := s.fretHold n f.hmax,
             leadA := if s.straps.side then 0xFFFF else lead,
             leadB := if s.straps.side then lead else 0xFFFF })
  let s := s.when clash (·.flag F.MOD_OBS_STAT_CID_CLASH)
  s.setStr n { x with frets := withOffsets s.straps.side fr }

/-- Σ t_hop of the map (R115). -/
def StrS.sumHop (x : StrS) : Nat :=
  match x.frets.reverse with
  | [] => 0
  | f :: _ => f.d + f.fwd

/-- Largest LEAD declared by a fret of version 1 or 2 (R150). -/
def StrS.tLead (x : StrS) : Nat :=
  (x.frets.filter (fun f => f.ver ≠ 0)).foldl (fun a f => max a f.lead) 0

/-- Stroke length of a map without delimiters (R123). -/
def strokeLen (fr : List FretS) : Nat := 20 + cmdBytes fr + telBytes fr

/-- W + t_tx + Σ t_hop + t_cmd of string n (R150). -/
def State.arrive (s : State) (n : Nat) : Nat :=
  let x := s.str n
  let l := (s.strLane? n).getD 0
  s.launchOfs n + s.tTx l + x.sumHop + (20 + cmdBytes x.frets) * s.tChar l

/-- The first failing code of R150 after the ECHOs; 0 when the string passes. -/
def State.strCode (s : State) (n : Nat) : Nat :=
  let x := s.str n
  let l := (s.strLane? n).getD 0
  let len := strokeLen x.frets + 2
  if x.frets.length = 0 then 6
  else if x.early = 1 then 1
  else if len > 4096 then 2
  else if s.arrive n + x.tLead > s.P then 3
  else match x.rtEnd with
    | none => 4
    | some rt =>
      if s.launchOfs n + rt + len * s.tChar l > 2 * s.P + s.get F.TIME_MOD_OFS_OBS then 4 else 0

/-- The relay check of R149. The hops from side B's end are the whole one-way path, by
RT_end, less the fibre into fret 0 (notes/assumptions/12.md). -/
def State.relayOk (s : State) (n : Nat) : Bool :=
  let x := s.str n
  let l := (s.strLane? n).getD 0
  let refl := s.tRx l + s.tTx l + 10
  let rl := s.get F.PAIR_DLY_RLAG
  match x.rtEnd with
  | none => false
  | some rt =>
    let path := (rt - (s.tTx l + s.tRx l + refl)) / 2
    let hopB := path - (nth x.frets {} 0).d
    rl ≠ 0 && s.get (F.STR_STAT_FAR n) = 1 &&
      s.launchOfs n + rl + s.tTx l + hopB + (20 + cmdBytes x.frets) * s.tChar l + x.tLead ≤ s.P

/-- Registers of the checks (STR_BUDGET, STR_HOME, STR_LEN, STR_RTEND). With RT_end unknown
the return budget has no value the manual states. -/
def State.strResult (s : State) (n : Nat) : State :=
  let x := s.str n
  let l := (s.strLane? n).getD 0
  let len := strokeLen x.frets + 2
  let s := (s.set (F.STR_BUDGET_ARRIVE n) (s.arrive n)).set (F.STR_BUDGET_LIMIT n) (s.P - x.tLead)
  let s := (s.set (F.STR_LEN_CMD n) (20 + cmdBytes x.frets)).set (F.STR_LEN_LEN n) len
  match x.rtEnd with
  | some rt => (s.set (F.STR_RTEND_RT_END n) rt).set (F.STR_HOME_HOME n)
      (s.launchOfs n + rt + len * s.tChar l)
  | none =>
    let (v, s) := s.fresh
    (s.set (F.STR_RTEND_RT_END n) 0xFFFFF).set (F.STR_HOME_HOME n) v

/-- The ECHOs are over: the map is computed and judged, and the final ASSIGNs begin (R114,
R149, R150). -/
def State.stringCheck (s : State) (n : Nat) : State :=
  let s := s.mapCompute n
  let s := (s.strResult n).strFrets n
  let s := s.set (F.STR_STAT_RELAY_OK n) (b2n (s.relayOk n))
  let c := s.strCode n
  if c ≠ 0 then s.strFail n c 0 else s.finalNext n 0

/-- The cell search is over: ECHOs to the frets and to the string end (R114). -/
def State.searchEnd (s : State) (n : Nat) : State :=
  if (s.str n).frets.length = 0 then (s.setPhase n (.echoEnd 1)).sendEcho n 0xFF
  else (s.setStr n { s.str n with k := 0, phase := .echo 1 }).sendEcho n 0

/-! ## Replies, ACKs and ECHOs -/

/-- A reply of a string's enumeration HELLO is valid (R114). -/
def State.enumReplyOk (s : State) (n : Nat) (f : Bytes) : Bool :=
  strFrameOk 3 24 f && fieldLE f 4 4 = (s.str n).nonce

/-- The fret that a REPLY of kind CELL declares. -/
def State.newFret (s : State) (n : Nat) (f : Bytes) : FretS × Bool :=
  let (v, bad) := s.cellVer n (fieldLE f 2 1 % 4) (fieldLE f 16 1) (fieldLE f 18 2)
    (fieldLE f 3 1 / 16)
  ({ uid := fieldLE f 8 8, fwd := fieldLE f 16 1, lead := fieldLE f 18 2,
     hmax := fieldLE f 3 1 / 16, fb := bit (fieldLE f 3 1) 0, ver := v }, bad)

/-- A reply to an enumeration HELLO (R114, R121). -/
def State.enumReply (s : State) (n : Nat) (f : Bytes) : State :=
  let x := s.str n
  let kind := fieldLE f 1 1
  if !s.enumReplyOk n f || kind = 0 || kind ≥ 4 then s
  else match x.phase with
    | .hello =>
      if kind = 2 then (s.set (F.STR_STAT_FAR n) 1).searchEnd n
      else if kind = 3 then (s.set (F.STR_STAT_FAR n) 2).searchEnd n
      else if x.frets.length = s.fmax then (s.setStr n { x with early := 1 }).searchEnd n
      else
        let (fr, bad) := s.newFret n f
        let s := s.when bad (·.flag (F.STR_STAT_DECL_BAD n))
        let s := s.setStr n { x with frets := x.frets ++ [fr], k := x.frets.length, phase := .prov }
        s.strSend n (s.provFrame n x.frets.length fr.uid)
    | .reHello =>
      match (List.range x.frets.length).find? (fun k =>
          (nth x.frets {} k).uid = fieldLE f 8 8 && !(nth x.frets {} k).insvc) with
      | some k =>
        if kind = 1 then
          let s := s.setPhase n (.reAssign k 1)
          s.strSend n (s.finalFrame n k false)
        else s.reenumEnd n false
      | none => s.reenumEnd n false
    | _ => s

/-- No reply within 50 µs (R114, R121). -/
def State.enumReplyTimeout (s : State) (n : Nat) : State :=
  match (s.str n).phase with
  | .hello => (s.flag (F.STR_STAT_SHORT n)).searchEnd n
  | .reHello => s.reenumEnd n false
  | _ => s

/-- An ACK names fret k of string n under a map. -/
def State.ackFor (s : State) (n k map : Nat) (f : Bytes) : Bool :=
  strFrameOk 5 16 f && fieldLE f 1 1 = map && fieldLE f 2 1 = k &&
    fieldLE f 4 8 = (nth (s.str n).frets {} k).uid

/-- A fret is in service: its entry is written (R117, R121, R159). A fret without an
identifier is never in service (R158). -/
def State.fretIn (s : State) (n k : Nat) : State :=
  let f := nth (s.str n).frets {} k
  if f.cid = 0xFFFF then s
  else
    let s := s.updFret n k (fun g => { g with insvc := true, timed := g.leadA ≠ 0xFFFF && g.leadB ≠ 0xFFFF })
    ((s.ctAssign n k f).strFrets n).strFlags n

/-- The next ASSIGN of the leads (R118): to fret k. -/
def State.leadNext (s : State) (n k : Nat) : State :=
  let x := s.str n
  if k < x.frets.length then
    let s := s.setStr n { x with leadOut := some (k, 1) }
    s.strSend n (s.finalFrame n k true)
  else s.setStr n { x with leadOut := none }

/-- An ACK (R117, R118, R121). -/
def State.ackReceive (s : State) (n : Nat) (f : Bytes) : State :=
  let x := s.str n
  let map := s.get (F.STR_ENUM_MAP_ID n)
  let ok := fieldLE f 3 1 = 0
  match x.phase with
  | .prov =>
    if !s.ackFor n x.k 0 f then s
    else if ok then (s.setPhase n .hello).sendEnumHello n
    else
      ((s.setStr n { x with frets := x.frets.take x.k }).flag (F.STR_STAT_SHORT n)).searchEnd n
  | .final _ =>
    if !s.ackFor n x.k map f then s
    else if ok then (s.fretIn n x.k).finalNext n (x.k + 1)
    else if (nth x.frets {} x.k).ver = 0 then s.finalNext n (x.k + 1)
    else s.strFail n 5 x.k
  | .reAssign k _ =>
    if !s.ackFor n k map f then s
    else if ok then (s.fretIn n k).reenumEnd n true
    else s.reenumEnd n false
  | _ =>
    match x.leadOut with
    | some (k, _) =>
      if !s.ackFor n k map f then s
      else
        let s := s.updFret n k (fun g => { g with
          timed := ok && g.leadA ≠ 0xFFFF && g.leadB ≠ 0xFFFF })
        (s.leadNext n (k + 1)).strFlags n
    | none => s

/-- No ACK within 50 µs (R114, R117, R121). -/
def State.ackTimeout (s : State) (n : Nat) : State :=
  let x := s.str n
  match x.phase with
  | .prov =>
    ((s.setStr n { x with frets := x.frets.take x.k }).flag (F.STR_STAT_SHORT n)).searchEnd n
  | .final t =>
    if t < 3 then (s.setPhase n (.final (t + 1))).strSend n (s.finalFrame n x.k true)
    else s.strFail n 5 x.k
  | .reAssign k t =>
    if t < 3 then (s.setPhase n (.reAssign k (t + 1))).strSend n (s.finalFrame n k false)
    else s.reenumEnd n false
  | _ =>
    match x.leadOut with
    | some (k, t) =>
      if t < 3 then
        (s.setStr n { x with leadOut := some (k, t + 1) }).strSend n (s.finalFrame n k true)
      else s.leadNext n (k + 1)
    | none => s

/-- The DLY frame of a finished measurement (R119, R392); B_TIMED on the NIGHTWATCH says that
it knows its own delay to every fret (notes/assumptions/13.md). -/
def State.sendDly (s : State) (n : Nat) : State :=
  let x := s.str n
  let s := s.setPhase n .none
  let s := s.setStr n { s.str n with frets := (s.str n).frets.map (fun f =>
    { f with timed := f.d ≠ 0xFFFF }) }
  let s := (s.strFrets n).strFlags n
  s.mirSend 0 0x26 (toLE 1 n ++ toLE 1 (s.get (F.STR_ENUM_MAP_ID n)) ++ toLE 1 x.frets.length ++
    [0] ++ toLE 4 (x.rtEnd.getD 0xFFFFFFFF) ++ (x.frets.map (fun f => toLE 2 f.d)).flatten)

/-- The next ECHO of the NIGHTWATCH's measurement (R119). -/
def State.measNext (s : State) (n k : Nat) : State :=
  if k < (s.str n).frets.length then (s.setPhase n (.meas k)).sendEcho n k
  else (s.setPhase n .measEnd).sendEcho n 0xFF

/-- An ECHO of this device has returned after 2·half ns (R114, R115, R119). -/
def State.echoReturn (s : State) (n : Nat) (f : Bytes) (half : Nat) : State :=
  let x := s.str n
  let rt := 2 * half
  let l := (s.strLane? n).getD 0
  let ok (fret : Nat) : Bool := strFrameOk 6 12 f && bit (fieldLE f 1 1) 1 = s.straps.side &&
    fieldLE f 2 1 = fret && fieldLE f 4 4 = x.nonce
  match x.phase with
  | .echo _ =>
    if !ok x.k then s
    else
      let s := s.updFret n x.k (fun g => { g with rt := rt })
      if x.k + 1 < x.frets.length then
        (s.setStr n { s.str n with k := x.k + 1, phase := .echo 1 }).sendEcho n (x.k + 1)
      else (s.setPhase n (.echoEnd 1)).sendEcho n 0xFF
  | .echoEnd _ =>
    if !ok 0xFF then s else (s.setStr n { x with rtEnd := some rt }).stringCheck n
  | .meas k =>
    if !ok k then s
    else
      let s := s.updFret n k (fun g => { g with
        rt := rt, d := halfUp rt (s.tTx l + s.tRx l + g.fwd) })
      s.measNext n (k + 1)
  | .measEnd => if !ok 0xFF then s else (s.setStr n { x with rtEnd := some rt }).sendDly n
  | _ => s

/-- An ECHO has not returned within 50 µs (R114, R119). -/
def State.echoTimeout (s : State) (n : Nat) : State :=
  let x := s.str n
  match x.phase with
  | .echo t =>
    if t < 3 then (s.setPhase n (.echo (t + 1))).sendEcho n x.k
    else
      let s := s.setStr n { x with frets := x.frets.take x.k, phase := .echoEnd 1 }
      (s.flag (F.STR_STAT_SHORT n)).sendEcho n 0xFF
  | .echoEnd t =>
    if t < 3 then (s.setPhase n (.echoEnd (t + 1))).sendEcho n 0xFF
    else (s.setStr n { x with rtEnd := none }).stringCheck n
  | .meas k => (s.updFret n k (fun g => { g with d := 0xFFFF })).measNext n (k + 1)
  | .measEnd => (s.setStr n { x with rtEnd := none }).sendDly n
  | _ => s

/-! ## What a lane returns -/

/-- A HELLO with ENUM 1 on a string lane: REPLY of kind END_PARTNER (R107). -/
def State.enumHelloReceive (s : State) (l : Nat) (f : Bytes) : State :=
  if s.lrole l = .string && s.on (F.LANE_STAT_SYNC l) && s.lst l ≠ .disabled &&
      strFrameOk 2 12 f && bit (fieldLE f 1 1) 0 then
    s.sendLane l (devReply 2 (fieldLE f 4 4))
  else s

/-- The partner's ECHO to the string end on a lane that is UP goes back (R112, R133). -/
def State.laneEcho (s : State) (l : Nat) (f : Bytes) : State :=
  if s.lrole l = .string && s.lst l = .up && strFrameOk 6 12 f && fieldLE f 2 1 = 0xFF &&
      bit (fieldLE f 1 1) 1 ≠ s.straps.side then
    s.sendLane l f
  else s

/-! ## BLK -/

/-- A BLK is valid (R140). -/
def blkOk (g fourth : Nat) : Bool := g ≠ 0 && g < 256 && fourth = 255 - g

/-- A BLK on a string lane (R140, R144). -/
def State.blkReceive (s : State) (l g fourth : Nat) : State :=
  if s.lrole l = .string && s.lidx l < Config.strings then
    let n := s.lidx l
    if blkOk g fourth then s.orF (F.STR_BLK_G_RX n) g else s.inc (R.STR_CNT_BLKERR n)
  else s

/-- The BLK request of string n (R141). -/
def State.blkReq (s : State) (n : Nat) : Nat :=
  let x := s.str n
  x.blkTrip ||| x.blkSvb ||| x.blkHold

/-- Withdrawn bits leave the mask now injected (R216, R430). -/
def State.blkTrim (s : State) (n : Nat) : State :=
  s.set (F.STR_BLK_G_TX n) (s.get (F.STR_BLK_G_TX n) &&& s.blkReq n)

/-- A BLK goes into the stream of lane l: one and three more (R141). -/
def State.blkOut (s : State) (l g : Nat) : State :=
  let b := Out.blk l g
  (((s.emit b).emit b).emit b).emit b

/-- New request bits go into the stream of string n's lane (R141). -/
def State.blkInject (s : State) (n : Nat) : State :=
  match s.strLane? n with
  | none => s
  | some l =>
    let req := s.blkReq n
    if s.lst l = .up && req ≠ s.get (F.STR_BLK_G_TX n) && req ≠ 0 then
      (s.set (F.STR_BLK_G_TX n) req).blkOut l req
    else s

/-- In SAFE_HOLD the BLK with G = 0xFF goes out on a string lane that is UP (R26, R93), every
lane of the role STRING. -/
def State.holdLane (s : State) (l : Nat) : State :=
  if s.lrole l = .string && s.lst l = .up then
    let s := s.when (s.strLane? (s.lidx l) = some l && s.lidx l < Config.strings) (fun s =>
      s.set (F.STR_BLK_G_TX (s.lidx l)) 0xFF)
    s.blkOut l 0xFF
  else s

/-- The trip requests of every string brought up to date (R210, R216). -/
def State.blkTrips (s : State) : State :=
  let latch := s.get F.TRIP_STAT_LATCH
  (List.range Config.strings).foldl (fun t n =>
    let a := s.strArm n
    let m := ofBits 8 (fun g => bit latch g && a < 6 && bit (s.get (F.TRIP_GRP_ARMS g)) a)
    if m = (t.str n).blkTrip then t
    else (t.setStr n { t.str n with blkTrip := m }).blkTrim n) s

/-- The requests of SAFE_HOLD, and their BLKs (R26, R93). -/
def State.blkHold (s : State) : State :=
  let s := (List.range Config.strings).foldl (fun t n =>
    if (t.strLane? n).isSome then t.setStr n { t.str n with blkHold := 0xFF } else t) s
  (List.range Config.lanes).foldl State.holdLane s

/-! ## Counters, transitions -/

/-- STR_CNT_CLR (R156). -/
def State.strCntClr (s : State) (n : Nat) : State :=
  s.zero [R.STR_CNT_LAUNCH n, R.STR_CNT_RETCRC n, R.STR_CNT_NOHOME n, R.STR_CNT_TELCRC n,
    R.STR_CNT_EMPTY n, R.STR_CNT_BLKERR n, R.STR_CNT_RELAY n]

/-- A string leaves its work for WATCH or IDLE; enumeration and measurement stop (R154). -/
def State.strStop (s : State) (n : Nat) (x : SState) : State :=
  let y := s.str n
  let s := s.setStr n { y with phase := .none, leadOut := none, mapWait := false,
                               built := if x = .idle then y.built else none }
  (s.set (F.STR_CTRL_REENUM n) 0).setSst n x

/-- The device leaves READY and RUN: every string becomes IDLE (R154). -/
def State.strsIdle (s : State) : State :=
  (List.range Config.strings).foldl (fun t n =>
    if t.sst n = .idle then t else t.strStop n .idle) s

/-- The role becomes NIGHTWATCH or LEAVING: strings in work go to WATCH, and an IDLE string
whose lane is UP as a NIGHTWATCH (R154). -/
def State.strsWatch (s : State) : State :=
  (List.range Config.strings).foldl (fun t n =>
    match t.sst n with
    | .watch => t
    | .idle => if t.strUp n && t.role ≠ .leaving then t.strStop n .watch else t
    | _ => t.strStop n .watch) s

/-- The role becomes ACTIVE or ALONE: a WATCH string with a map becomes LIVE, one without
becomes IDLE (R406). -/
def State.strsTake (s : State) : State :=
  (List.range Config.strings).foldl (fun t n =>
    if t.sst n = .watch then
      if (t.str n).frets.isEmpty then t.strStop n .idle else t.strStop n .live
    else t) s

end Sys2Proof.Machine
end

