-- ==== Sys2Proof/Machine/Obs.lean ====
section
/-! DEFINITION. Telemetry intake (R163 to R165), the voltage observer (R167 to R175), the
adaptive dead time (R201) and vector delivery (R176 to R178). -/

namespace Sys2Proof.Machine

open Sys2Proof

/-! ## Numbers that may leave their format -/

/-- A number for an unsigned field of w bits; where it does not fit, the manual states no
value and a free one is stored (notes/assumptions/2.md). -/
def State.fitU (s : State) (w : Nat) (v : Int) : Nat × State :=
  if 0 ≤ v && v < (2 ^ w : Nat) then (v.toNat, s)
  else
    let (f, s) := s.fresh
    (f % 2 ^ w, s)

/-- As fitU for a two's-complement field. -/
def State.fitS (s : State) (w : Nat) (v : Int) : Nat × State :=
  if -((2 ^ (w - 1) : Nat) : Int) ≤ v && v < ((2 ^ (w - 1) : Nat) : Int) then (us w v, s)
  else
    let (f, s) := s.fresh
    (f % 2 ^ w, s)

/-! ## Telemetry -/

/-- Flags of a telemetry record (byte 2). -/
def telFlag (d : Bytes) (i : Nat) : Bool := bit (fieldLE d 2 1) i

/-- HELD of a telemetry record. -/
def telHeld (d : Bytes) : Bool := bit (fieldLE d 3 2) 15

/-- Length of a telemetry record of a version, CRC aside. -/
def telLen (ver : Nat) : Nat := telSize ver - 2

/-- An empty slot (R124). -/
def slotEmpty (slot : Bytes) : Bool :=
  let r := slot.take (slot.length - 2)
  r.all (fun b => b = 0xFF) && fieldLE slot (slot.length - 2) 2 = 0xFFFF - crc16 r

/-- The empty slot of a version (R124). -/
def emptySlot (ver : Nat) : Bytes :=
  let r : Bytes := List.replicate (telLen ver) 0xFF
  if ver = 0 then [] else r ++ toLE 2 (0xFFFF - crc16 r)

/-- The TCHK code of a slot at parse (R164): 0, 1, 2 or 3. -/
def slotCheck (slot : Bytes) (pidx : Nat) : Nat :=
  let r := slot.take (slot.length - 2)
  if slotEmpty slot then 1
  else if fieldLE slot (slot.length - 2) 2 ≠ crc16 r then 2
  else if !telHeld r && bits (fieldLE r 3 2) 12 3 ≠ (pidx + 7) % 8 then 3
  else 0

/-- One slot's result into the cell table and toward the observer (R159, R164). `arr` is the
station time at which the start delimiter reached the fret (R163). -/
def State.telStore (s : State) (cid code pidx arr : Nat) (slot : Bytes) : State :=
  if cid > 4095 then s
  else
    let r := slot.take (slot.length - 2)
    let d := r ++ List.replicate (10 - r.length) 0
    let ts := arr - 10 * fieldLE d 5 1
    let s :=
      if code = 0 || code = 3 then
        let s := s.wrWords (s.ctAt cid + 0x10) (wordsOf (d.take 8))
        let s := s.ctPut cid 0x18 (fieldLE d 8 2 + code * 2 ^ 16)
        (s.ctPut cid 0x1C (pidx % 2 ^ 32)).ctPut cid 0x20 (ts % 2 ^ 32)
      else (s.wrPart (s.ctAt cid + 0x1A) 1 code 0x30).2
    let s := s.when (code = 3) (·.inc R.MOD_CNT_SEQERR)
    let t : TelIn := { cid := cid, tchk := code, data := d, pidx := pidx, ts := ts }
    { s with modu := { s.modu with tel := s.modu.tel ++ [t] } }

/-- The slot of a fret in a stroke of side `side`. -/
def slotOf (f : FretS) (side : Bool) (stroke : Bytes) : Bytes :=
  slice stroke (if side then f.telB else f.telA) (telSize f.ver)

/-- Every slot of a stroke of string n parsed (R164); `arr` gives the arrival of the start
delimiter at a fret (R163), `whole` is false for a stroke discarded as a whole. -/
def State.telParse (s : State) (n : Nat) (side whole : Bool) (pidx : Nat) (arr : FretS → Nat)
    (stroke : Bytes) : State :=
  (s.str n).frets.foldl (fun t f =>
    if f.ver = 0 then t
    else
      let slot := slotOf f side stroke
      let code := if whole then slotCheck slot pidx else 6
      let t := t.when (code = 1) (·.inc (R.STR_CNT_EMPTY n))
      let t := t.when (code = 2) (·.inc (R.STR_CNT_TELCRC n))
      t.telStore f.cid code pidx (arr f) slot) s

/-- The command-area CRC of a stroke fits, for a given map (R123, R135). -/
def strokeCrcOk (fr : List FretS) (stroke : Bytes) : Bool :=
  let c := 16 + cmdBytes fr
  fieldLE stroke c 4 = crc32 (stroke.take c)

/-- The full period index nearest below u whose low 32 bits are p. -/
def pidxNear (u p : Nat) : Nat := u - (u + 2 ^ 32 - p % 2 ^ 32) % 2 ^ 32

/-- Station time of apply instant m, by the present label (R38). -/
def State.instant (s : State) (m : Nat) : Int :=
  (s.tApply : Int) + ((m : Int) - (s.time.pidx : Int)) * (s.P : Int)

/-! ## Currents and charge -/

/-- The line of an arm's current at an update (R167): i(u), i(u) - i(u-1) and t_u. -/
structure CurLine where
  i : Int := 0
  d : Int := 0
  t : Int := 0
  deriving DecidableEq, Repr

/-- The current at the middle of [a, b): i(t) of R167 at (a + b) / 2, each division rounded
(R169). -/
def CurLine.mid (c : CurLine) (per : Nat) (a b : Int) : Int :=
  c.i + rdiv (c.d * (rdiv (a + b) 2 - c.t)) (per : Int)

/-- The sign of s(state, im) (R169): 0 BYPASS, 1 INSERT_POS, 2 INSERT_NEG, 3 BLOCK. -/
def chargeSign (st : Nat) (im : Int) (fb : Bool) : Int :=
  if st = 1 then 1
  else if st = 2 then -1
  else if st = 3 then (if im > 0 then 1 else if fb && im < 0 then -1 else 0)
  else 0

/-- The final state of a command (R193). -/
def CmdRec.final (c : CmdRec) : Nat :=
  if c.tog1 ≠ 0xFFFF && c.tog2 = 0xFFFF then c.on else c.init

/-- The states of a command by offset (R125, R169). -/
def CmdRec.states (c : CmdRec) : List (Nat × Nat) :=
  [(0, c.init)] ++ (if c.tog1 = 0xFFFF then [] else [(c.tog1, c.on)]) ++
    (if c.tog2 = 0xFFFF then [] else [(c.tog2, c.init)])

/-- The intervals of a command following another, dead times as BLOCK (R169): start, end,
state, inside one period. -/
def cmdSpans (per : Nat) (c : CmdRec) (lastState : Nat) : List (Nat × Nat × Nat) :=
  let st := c.states
  let ends := (st.drop 1).map (·.1) ++ [per]
  ((st.zip ends).map (fun p =>
    let a := min p.1.1 per
    let b := min p.2 per
    let dt := 100 + 20 * c.dtc
    if p.1.1 ≠ 0 || p.1.2 ≠ lastState then
      let m := min (a + dt) b
      [(a, m, 3), (m, b, p.1.2)]
    else [(a, b, p.1.2)])).flatten

/-- charge(c, prev, t0, t0 + P) of R169. -/
def charge (ln : CurLine) (per : Nat) (fb byp : Bool) (c prev : CmdRec) (t0 : Int) : Int :=
  if byp then 0
  else
    let q := (cmdSpans per c prev.final).foldl (fun (q : Int) p =>
      let a := t0 + (p.1 : Int)
      let b := t0 + (p.2.1 : Int)
      if b ≤ a then q
      else
        let im := ln.mid per a b
        q + chargeSign p.2.2 im fb * im * (b - a)) 0
    rs q 8

/-- An arm's hidden state. -/
def State.arm (s : State) (a : Nat) : ArmS := sget s.modu.arms {} a

/-- An arm's hidden state replaced. -/
def State.setArm (s : State) (a : Nat) (x : ArmS) : State :=
  { s with modu := { s.modu with arms := sput s.modu.arms {} a x } }

/-- START_OFS of the enabled group of converter c, 0 without one. -/
def State.startOfs (s : State) (c : Nat) : Nat :=
  match (List.range Config.groups).find? (fun g => s.lgEn g && bit (s.get (F.TIME_LG_CV_CV g)) c) with
  | some g => s.get (F.TIME_LG_OFS0_START_OFS g)
  | none => 0

/-- The observer reads an arm's converter at OBS (R167). -/
def State.obsCurrent (s : State) (a : Nat) : State :=
  let x := s.arm a
  let c := s.get (F.MOD_ARM_ISRC_CV a)
  if !s.on (F.MOD_ARM_ISRC_EN a) then
    s.setArm a { x with iu := 0, ip := 0, bad := false, seen := true, updated := true, delivered := false }
  else
    let (v, s) := if x.seen then (x.iu, s) else
      let (f, s) := s.fresh
      (sx 16 f, s)
    let raw := sx 16 (s.get (F.ADC_DATA_SAMPLE c))
    let good := s.on (F.ADC_DATA_VALID c) && !s.on (F.ADC_DATA_OVR c)
    let i := if good then (if s.on (F.MOD_ARM_ISRC_INV a) then -raw else raw) else v
    let s := s.when (!good) (·.orF F.MOD_OBS_STAT_ISRC_BAD (2 ^ a))
    s.setArm a { x with iu := i, ip := v, bad := !good, seen := true, updated := true, delivered := false }

/-- The current line of arm a at this update; 0 for a string without an arm (R168). -/
def State.curLine (s : State) (a : Nat) : CurLine :=
  if a < 6 then
    let x := s.arm a
    { i := x.iu, d := x.iu - x.ip,
      t := (s.tApply : Int) + (s.startOfs (s.get (F.MOD_ARM_ISRC_CV a)) : Int) }
  else {}

/-! ## History in the entry -/

/-- The command of entry c for T_m; BLOCK where the entry holds none (R159). -/
def State.hist (s : State) (c m : Nat) : Option CmdRec :=
  let o := 0x40 + 0x10 * (m % 4)
  if s.ct c (o + 12) = m % 2 ^ 32 then
    let w := s.ct c o
    let t := s.ct c (o + 4)
    some { init := bits w 0 2, on := bits w 2 2, dtc := bits w 4 5, tog1 := bits t 0 16,
           tog2 := bits t 16 16 }
  else none

/-- A command written into the history for T_m (R159). -/
def State.histPut (s : State) (c m : Nat) (r : CmdRec) (fix : Bool) : State :=
  let o := 0x40 + 0x10 * (m % 4)
  let s := s.ctPut c o (r.init + r.on * 4 + r.dtc * 16 + b2n fix * 2 ^ 9)
  let s := s.ctPut c (o + 4) (r.tog1 + r.tog2 * 2 ^ 16)
  s.ctPut c (o + 12) (m % 2 ^ 32)

/-- The charge of period m in the entry. -/
def State.qh (s : State) (c m : Nat) : Int := sx 32 (s.ct c (0x48 + 0x10 * (m % 4)))

/-- A charge of period m into the entry. -/
def State.qhPut (s : State) (c m : Nat) (q : Int) : State :=
  let (v, s) := s.fitS 32 q
  s.ctPut c (0x48 + 0x10 * (m % 4)) v

/-- What one update of one entry knows. -/
structure ObsIn where
  c : Nat
  arm : Nat
  u : Nat
  ver : Nat
  fb : Bool
  h : Nat
  byp : Bool
  ln : CurLine
  deriving DecidableEq, Repr

/-- charge of period m of an entry by its history (R169, R170). -/
def State.obsCharge (s : State) (o : ObsIn) (m : Nat) : Int :=
  charge o.ln s.P o.fb o.byp ((s.hist o.c m).getD {}) ((s.hist o.c (m - 1)).getD {}) (s.instant m)

/-- The command that a cell held at T_n (R171): BLOCK after more than H misses, else cmd[n-1],
where the history still has it. -/
def State.heldCmd (s : State) (o : ObsIn) (n miss : Nat) : Option CmdRec :=
  if miss ≥ o.h + 1 then some {} else if n = 0 then none else s.hist o.c (n - 1)

/-- fix_held (R171): the charge that it adds, and the state. Where the command before the held
one has left the history, the record is used without the fix (notes/assumptions/14.md). -/
def State.fixHeld (s : State) (o : ObsIn) (n miss : Nat) : Int × State :=
  if n ≥ o.u then (0, s)
  else
    match s.heldCmd o n miss with
    | some held =>
      let s := s.histPut o.c n held true
      let q0 := s.obsCharge o n
      let dq := q0 - s.qh o.c n
      let s := s.qhPut o.c n q0
      if n + 1 < o.u then
        let q1 := s.obsCharge o (n + 1)
        let dq := dq + (q1 - s.qh o.c (n + 1))
        (dq, s.qhPut o.c (n + 1) q1)
      else (dq, s)
    | none => (0, s)

/-- The numbers of an entry while its update runs. -/
structure ObsV where
  vest : Int
  qs : Int
  gam : Int
  vprev : Nat
  outrun : Nat
  flags : Nat
  deriving DecidableEq, Repr

/-- Capacitance adaptation (R172). -/
def State.obsAdapt (s : State) (gnom : Int) (v : ObsV) (vcap : Nat) (q : Int) : ObsV × State :=
  let dv : Int := s.get F.MOD_OBS_LIM_DVMIN
  if gnom = 0 || (rs (q * v.gam) 16).natAbs < dv.natAbs * 2 ^ 16 then (v, s)
  else
    let (g, s) : Int × State :=
      if q = 0 then
        let (f, s) := s.fresh
        (sx 32 f, s)
      else (rdiv (((vcap : Int) - v.vprev) * 2 ^ 32) q, s)
    let gam := v.gam + rs ((g - v.gam) * (s.get F.MOD_OBS_CFG_KC : Int)) 16
    let lo := rdiv gnom 2
    let hi := 2 * gnom
    if gam < lo || gam > hi then
      ({ v with gam := clampI lo hi gam, flags := v.flags ||| 0x100 }, s)
    else ({ v with gam := gam }, s)

/-- A used record corrects the estimate (R170). -/
def State.obsUse (s : State) (o : ObsIn) (gnom : Int) (st miss : Nat) (v : ObsV) (r : TelIn) :
    ObsV × State :=
  let (dq, s) := if telHeld r.data then s.fixHeld o (pidxNear o.u r.pidx) miss else (0, s)
  let v := { v with qs := v.qs + dq, vest := v.vest + rs (dq * v.gam) 16 }
  let m := ((List.range 3).map (fun k => o.u - 1 - k)).find? (fun m => s.instant m ≤ (r.ts : Int))
  let m := m.getD (o.u - 3)
  let sum := (List.range (o.u - m)).foldl (fun (a : Int) k => a + s.qh o.c (m + k)) 0
  let qback := sum - rdiv (s.qh o.c m * ((r.ts : Int) - s.instant m)) s.P
  let vcap := fieldLE r.data 0 2
  let e := (vcap : Int) * 2 ^ 16 - (v.vest - rs (qback * v.gam) 16)
  if st = 1 then ({ v with vest := v.vest + e, vprev := vcap, qs := qback }, s)
  else if e.natAbs > s.get F.MOD_OBS_LIM_OUTLIM * 2 ^ 16 then
    let s := s.inc R.MOD_CNT_OUTLIER
    let v := { v with outrun := v.outrun + 1, flags := v.flags ||| 0x008 }
    if v.outrun = s.get F.MOD_OBS_CFG_OUTN then
      let s := s.inc R.MOD_CNT_RESEED
      ({ v with vest := v.vest + e, flags := v.flags ||| 0x010, outrun := 0, vprev := vcap,
                qs := qback }, s)
    else (v, s)
  else
    let v := { v with outrun := 0, vest := v.vest + rs (e * (s.get F.MOD_OBS_CFG_KV : Int)) 8 }
    let (v, s) := s.obsAdapt gnom v vcap (v.qs - qback)
    ({ v with vprev := vcap, qs := qback }, s)

/-- C_LOW: GAM exceeds GAM_NOM × 256 / CLOW (R169, R172). With CLOW = 0 the manual states no
threshold: a free value (notes/assumptions/97.md). -/
def State.cLow (s : State) (gnom gam : Int) : Bool × State :=
  let cl := s.get F.MOD_OBS_LIM_CLOW
  if gnom = 0 then (false, s)
  else if cl = 0 then
    let (f, s) := s.fresh
    (decide (f % 2 = 1), s)
  else (decide (gam > rdiv (gnom * 256) cl), s)

/-! ## Adaptive dead time -/

/-- The dead-time entry of cell c is read; one that cannot be read is rewritten first (R200,
R376). -/
def State.dtRead (s : State) (c : Nat) : State :=
  let s := s.eccTouch [s.dtAt c, s.dtAt c + 4] 0x30
  s.when (!s.wordClean (s.dtAt c) || !s.wordClean (s.dtAt c + 4)) (·.dtInit c)

/-- The dead-time law for one used record (R201). -/
def State.deadTime (s : State) (c tsw : Nat) : State :=
  if !s.on F.MOD_DT_CFG_EN || tsw = 0xFFF then s
  else
    let a := s.dtAt c
    let s := s.dtRead c
    let w0 := s.rd32 a
    let w1 := s.rd32 (a + 4)
    let tswf : Int := bits w0 16 16
    let tswf := tswf + rs (((tsw : Int) * 16 - tswf) * (s.get F.MOD_DT_CFG_KT : Int)) 8
    let tswf := (clampI 0 0xFFFF tswf).toNat
    let dreq := (tswf + 15) / 16 + s.get F.MOD_DT_CFG_MARGIN
    let req := if dreq ≤ 100 then 0 else (dreq - 100 + 19) / 20
    let hi := s.get F.MOD_DT_LIM_DTC_MAX
    let lo := min (s.get F.MOD_DT_LIM_DTC_MIN) hi
    let sat := decide (req > hi)
    let s := s.when sat (·.inc R.MOD_CNT_DTSAT)
    let req := clampN lo hi req
    let dtc := bits w1 0 5
    let upc := bits w1 8 8
    let dnc := bits w1 16 8
    let (dtc, upc, dnc, s) :=
      if dtc < lo then (lo, 0, 0, s.inc R.MOD_CNT_DTUP)
      else if dtc > hi then (hi, 0, 0, s.inc R.MOD_CNT_DTDN)
      else if req > dtc then
        if upc + 1 ≥ max (s.get F.MOD_DT_CFG_NUP) 1 then (dtc + 1, 0, 0, s.inc R.MOD_CNT_DTUP)
        else (dtc, upc + 1, 0, s)
      else if req + 1 < dtc then
        if dnc + 1 ≥ max (s.get F.MOD_DT_CFG_NDN) 1 then (dtc - 1, 0, 0, s.inc R.MOD_CNT_DTDN)
        else (dtc, 0, dnc + 1, s)
      else (dtc, 0, 0, s)
    let s := s.wr32 a (setBits w0 16 16 tswf)
    s.wr32 (a + 4) (dtc + 32 * b2n sat + 2 ^ 8 * upc + 2 ^ 16 * dnc)

/-! ## Health -/

/-- The next health state, RECOV, and whether REQ_CLR is acted on and RECOVER is being counted
after it (R174). Codes: 0 OUT, 1 UNSEEDED, 2 OK, 3 HOLDBLK, 4 FAULTED, 5 BYPASSED, 6 HOSTOUT. -/
def State.health (s : State) (ver w0C st miss since h recov : Nat) (waiting : Bool)
    (used : Option TelIn) : Nat × Nat × Bool × Bool :=
  let bypsw := match used with | some r => telFlag r.data 1 | none => false
  let bad := match used with
    | some r => telFlag r.data 0 || telFlag r.data 2 || telFlag r.data 3
    | none => false
  let clean := match used with | some r => !bad && !telHeld r.data | none => false
  let recover := s.get F.MOD_OBS_HLTH_RECOVER
  let count := if used.isNone then recov else if clean then min (recov + 1) 255 else 0
  if ver = 0 || w0C % 2 ^ 16 = 0 then (0, recov, false, false)
  else if bit w0C 16 then (6, recov, false, false)
  else if bypsw then (5, recov, false, false)
  else if bad then (4, 0, false, waiting)
  else match st with
    | 2 =>
      if miss ≥ h then (3, 0, false, false)
      else if since ≥ s.get F.MOD_OBS_HLTH_STALE_N then (1, recov, false, false)
      else (2, recov, false, false)
    | 0 | 6 => (1, recov, false, false)
    | 1 => (if used.isSome then 2 else 1, recov, false, false)
    | 3 => (if clean && count ≥ recover then 2 else 3, count, false, false)
    | 4 =>
      if bit w0C 17 then (4, 0, true, true)
      else if waiting then
        if clean && count ≥ recover then (2, count, false, false) else (4, count, false, true)
      else (4, recov, false, false)
    | x => (x, recov, false, false)

/-! ## The update of one entry -/

/-- The records of cell c that are due: MISSRUN and flags after all of them, the record to be
used with MISSRUN as it left it, and the state (R164, R165). -/
def State.telDue (s : State) (c u miss : Nat) : Nat × Nat × Option (TelIn × Nat) × State :=
  let recs := s.modu.tel.filter (fun t => t.cid = c)
  let s := { s with modu := { s.modu with tel := s.modu.tel.filter (fun t => t.cid ≠ c) } }
  let last := ((recs.filter (fun t => t.tchk = 0)).foldl (fun (b : Option TelIn) t =>
    match b with
    | none => some t
    | some x => if pidxNear u x.pidx ≤ pidxNear u t.pidx then some t else some x) none)
  recs.foldl (fun (p : Nat × Nat × Option (TelIn × Nat) × State) t =>
    let (miss, fl, used, s) := p
    let one := min (miss + 1) 9
    if t.tchk = 3 then (one, fl ||| 0x020, used, s)
    else if t.tchk ≠ 0 then (one, fl, used, s)
    else
      let miss := if telHeld t.data then one else 0
      if some t = last then
        if (t.ts : Int) < s.instant (u - 3) then
          (miss, fl ||| 0x040, used,
            (s.ctPut c 0x18 (setBits (s.ct c 0x18) 16 8 4)).inc R.MOD_CNT_STALE)
        else (miss, fl, some (t, miss), s)
      else (miss, fl ||| 0x040, used, s.inc R.MOD_CNT_STALE)) (miss, 0, none, s)

/-- The observer words of entry c rewritten as UNSEEDED (R376). -/
def State.ctReset (s : State) (a c : Nat) : State :=
  let (cw, bad, s) := s.eccRd (s.ctAt c + 0x0C) 0x30
  let s := s.wrWords (s.ctAt c + 0x10) (List.replicate 28 0)
  (s.ctPut c 0x2C (s.gamNom a (if bad then 0 else cw % 2 ^ 16))).ctPut c 0x34 1

/-- Words of entry c of arm a at some offsets read by the MOD block (R363). Where an identity word
or word 0x0C is bad the cell is OUT; where only an observer word is, the observer words are
rewritten; the flag says that neither was (R376). -/
def State.ctRead (s : State) (a c : Nat) (offs : List Nat) : Bool × State :=
  let s := s.eccTouch (offs.map (s.ctAt c + ·)) 0x30
  let bad := offs.filter (fun o => !s.wordClean (s.ctAt c + o))
  if bad.isEmpty then (true, s)
  else if bad.any (· < 0x10) then (false, s.wrBits (s.ctAt c + 0x34) 0 3 0)
  else (false, s.ctReset a c)

/-- The update of entry c of arm a at update u (R170 to R175, R201). -/
def State.obsEntry (s : State) (a c u : Nat) : State :=
  let (good, s) := s.ctRead a c ((List.range 32).map (4 * ·))
  if !good then s
  else
    let w8 := s.ct c 8
    let w0C := s.ct c 0x0C
    let w34 := s.ct c 0x34
    let w38 := s.ct c 0x38
    let ver := bits w8 18 2
    let fb := bit w8 17
    let h := bits w8 20 4
    let gnom : Int := s.gamNom a (w0C % 2 ^ 16)
    let dirty := s.modu.cnom.contains c
    let s := { s with modu := { s.modu with cnom := s.modu.cnom.filter (· ≠ c) } }
    let gam : Int := if gnom = 0 then 0 else if dirty then gnom else s.ct c 0x2C
    let st := bits w34 0 3
    let nocur := a < 6 && (s.arm a).bad
    let (miss, fl, used, s) := s.telDue c u (bits w34 16 4)
    let byp := st = 5 || (match used with | some (r, _) => telFlag r.data 1 | none => false)
    let o : ObsIn := { c := c, arm := a, u := u, ver := ver, fb := fb, h := h, byp := byp,
                       ln := s.curLine a }
    let q1 := if u = 0 then 0 else s.obsCharge o (u - 1)
    let s := if u = 0 then s else s.qhPut c (u - 1) q1
    let v : ObsV := { vest := (s.ct c 0x24 : Int) + rs (q1 * gam) 16, qs := sx 32 (s.ct c 0x30) + q1,
                      gam := gam, vprev := bits w38 0 16, outrun := bits w34 20 4, flags := fl }
    let (v, s) := match used with
      | some (r, m) =>
        let (v, s) := s.obsUse o gnom st m v r
        (v, s.deadTime c (bits (fieldLE r.data 3 2) 0 12))
      | none => (v, s)
    let q0 := s.obsCharge o u
    let s := s.qhPut c u q0
    let (vest, s) := s.fitU 32 v.vest
    let (vpred, s) := s.fitU 32 (v.vest + rs (q0 * v.gam) 16)
    let (qs, s) := s.fitS 32 v.qs
    let (gamw, s) := s.fitU 32 v.gam
    let since := if used.isSome then 0 else min (bits w38 16 16 + 1) 0xFFFF
    let aux := match used with | some (r, _) => telFlag r.data 7 | none => false
    let (clow, s) := s.cLow gnom v.gam
    let flags := v.flags ||| (0x080 * b2n clow) |||
      (0x200 * b2n (vest > s.get F.MOD_OBS_HLTH_VMAX * 2 ^ 16)) ||| (0x400 * b2n aux) |||
      (0x800 * b2n nocur)
    let waiting := s.modu.clrWait.contains c
    let (st', recov, clr, wait') := s.health ver w0C st miss since h (bits w34 24 8) waiting
      (used.map (·.1))
    let s := { s with modu := { s.modu with
      clrWait := (if wait' then [c] else []) ++ s.modu.clrWait.filter (· ≠ c),
      diag := if clr && ver = 2 then c :: s.modu.diag.filter (· ≠ c) else s.modu.diag } }
    let s := s.when clr (fun t => t.ctPut c 0x0C (setBit (t.ct c 0x0C) 17 false))
    let s := ((s.ctPut c 0x24 vest).ctPut c 0x28 vpred).ctPut c 0x2C gamw
    let s := s.ctPut c 0x30 qs
    let s := s.ctPut c 0x34 (st' + flags % 2 ^ 12 + miss * 2 ^ 16 + min v.outrun 15 * 2 ^ 20 +
      recov * 2 ^ 24)
    let s := s.ctPut c 0x38 (v.vprev + since * 2 ^ 16)
    s.ctPut c 0x3C (u % 2 ^ 32)

/-! ## Arms -/

/-- A list without repeats, rising. -/
def sortNat (l : List Nat) : List Nat :=
  l.foldl (fun acc x => acc.filter (· < x) ++ [x] ++ acc.filter (· > x)) []

/-- The identifiers of the cells of an arm, rising; 7 for the strings without an arm (R11,
R176). -/
def State.armCells (s : State) (a : Nat) : List Nat :=
  sortNat (((List.range Config.strings).filter (fun n => s.strArm n = a)).flatMap (fun n =>
    ((s.str n).frets.filter (fun f => f.cid ≠ 0xFFFF)).map (·.cid)))

/-- An observer update is to come: the period engine runs in READY or RUN, and the period has had
none yet (R168). -/
def State.obsDue (s : State) : Bool :=
  s.live && s.peRun && decide (s.modu.obsAt ≠ some s.time.pidx)

/-- The entries out of service that show another state than OUT (R174). -/
def State.ctGone (s : State) : List Nat :=
  (s.mem.filter (fun p => s.inCt p.1 && (p.1 - s.ctAt 0) % 128 = 0x34)).filterMap (fun p =>
    let c := (p.1 - s.ctAt 0) / 128
    if !bit (s.ct c 8) 24 && bits p.2.toNat 0 3 ≠ 0 then some c else none)

/-- The observer update (R168): every entry in service, arm by arm, then the cells without an
arm; an entry out of service becomes OUT (R174). -/
def State.obsUpdate (s : State) : State :=
  let u := s.time.pidx
  let s := (List.range 6).foldl (fun t a => t.obsCurrent a) s
  let s := ([0, 1, 2, 3, 4, 5, 7] : List Nat).foldl (fun t a =>
    (t.armCells a).foldl (fun t c => if bit (t.ct c 8) 24 then t.obsEntry a c u else t) t) s
  let s := s.ctGone.foldl (fun t c => t.wrBits (t.ctAt c + 0x34) 0 3 0) s
  { s with modu := { s.modu with tel := [], obsAt := some u } }

/-- Bits of a list of cells as bytes, bit j for cell j. -/
def bitmap (n : Nat) (p : Nat → Bool) : Bytes :=
  toLE (n / 8) (ofBits n p)

/-- Cells of an arm rounded up to 16 (R176). -/
def npad (n : Nat) : Nat := (n + 15) / 16 * 16

/-- The vector block of arm a at update u (R176). -/
def State.vectorBlock (s : State) (a u : Nat) : Bytes :=
  let cells := s.armCells a
  let n := cells.length
  let np := npad n
  let b := np / 8
  let cell (j : Nat) : Nat := nth cells 0 j
  let st (j : Nat) : Nat := bits (s.ct (cell j) 0x34) 0 3
  let ini (j : Nat) : Nat := ((s.hist (cell j) u).getD {}).init
  let est := ((List.range np).map (fun j =>
    if j < n && st j ≠ 1 then toLE 2 (clampI 0 0xFFFF (rs (s.ct (cell j) 0x28) 16)).toNat
    else [0, 0])).flatten
  let ins := bitmap np (fun j => decide (j < n) && (ini j = 1 || ini j = 2))
  let neg := bitmap np (fun j => decide (j < n) && ini j = 2)
  let elig := bitmap np (fun j => decide (j < n) && st j = 2)
  let gap := (16 - (2 * np + 3 * b) % 16) % 16
  est ++ ins ++ neg ++ elig ++ List.replicate gap 0 ++ toLE 4 u ++ toLE 2 n ++ toLE 2 np ++
    toLE 2 ((List.range n).filter (fun j => st j = 2)).length ++
    toLE 2 (s.get F.MOD_OBS_STAT_ISRC_BAD) ++ [0, 0, 0, 0]

/-- The delivery of an arm before arm a has ended: nothing of it is still to come (R177). -/
def State.armDone (s : State) (a : Nat) : Bool :=
  (s.arm a).delivered || !s.on (F.MOD_ARM_DST_EN a) || (s.armCells a).isEmpty

/-- The vector block of arm a is delivered and its selection item submitted (R166, R176 to
R178). -/
def State.vectorDeliver (s : State) (a : Nat) : State :=
  let x := s.arm a
  if s.live && s.holder && s.on (F.MOD_ARM_DST_EN a) && !(s.armCells a).isEmpty && x.updated &&
      !x.delivered && (List.range a).all s.armDone then
    let at' := dataBase (s.get (F.MOD_ARM_DST_CORE a)) + s.get (F.MOD_ARM_DST_ADDR a) * 16
    let h := 0x40 + 0x10 * (s.time.pidx % 4)
    let s := (s.armCells a).foldl (fun t c => (t.ctRead a c [0x28, 0x34, h, h + 12]).2) s
    let s := s.wrB at' (s.vectorBlock a s.time.pidx)
    let s := s.setArm a { x with delivered := true }
    if s.on (F.SCHED_ARM_TPL_EN a) then
      s.submitTpl 0x11 (s.get (F.SCHED_ARM_TPL_TPL a) * 32) none
    else s
  else s

/-! ## Strokes that come home or pass -/

/-- A direct stroke of period p reaches the partner of a relayed string: the second in a row
ends the relay (R148). -/
def State.directSeen (s : State) (n p : Nat) : State :=
  let x := s.str n
  if x.directAt = some ((p + 2 ^ 32 - 1) % 2 ^ 32) then
    (s.setStr n { x with seen := some p, directAt := none, relayOn := none }).set (F.STR_STAT_RELAY n) 0
  else s.setStr n { x with seen := some p, directAt := some p }

/-- A stroke comes home (R135, R147). On the launching device its telemetry is parsed. On a
partner that relays the string it is absorbed and handed on as RTEL. -/
def State.strokeReturn (s : State) (n : Nat) (f : Bytes) : State :=
  let x := s.str n
  match s.sst n, x.relayOn with
  | .watch, some i =>
    let tel := (f.drop (20 + cmdBytes x.frets))
    let s := if bit (fieldLE f 14 1) 0 then s else s.directSeen n (fieldLE f 2 4)
    s.mirSend i 0x29 (toLE 1 n ++ [0, 0, 0] ++ toLE 4 (fieldLE f 2 4) ++ tel)
  | _, _ =>
    match x.flights with
    | [] => s
    | fl :: rest =>
      let s := s.setStr n { x with flights := rest }
      let l := (s.strLane? n).getD 0
      let bow := s.instant fl.pidx + (s.launchOfs n : Int)
      let arr (g : FretS) : Nat := (bow + (s.tTx l : Int) + (g.d : Int)).toNat
      let whole := strokeCrcOk x.frets f && f.length = fl.len
      let s := s.when (!whole) (·.inc (R.STR_CNT_RETCRC n))
      s.telParse n s.straps.side whole (fl.pidx % 2 ^ 32) arr f

/-- The oldest stroke of string n is not home by the return bound (R135). -/
def State.strokeNoHome (s : State) (n : Nat) : State :=
  match (s.str n).flights with
  | [] => s
  | _ :: rest => (s.setStr n { s.str n with flights := rest }).inc (R.STR_CNT_NOHOME n)

/-- A command record of a stroke (Command record tables). -/
def parseCmd (b : Bytes) : CmdRec :=
  { init := bits (fieldLE b 0 1) 0 2, on := bits (fieldLE b 0 1) 2 2, tog1 := fieldLE b 1 2,
    tog2 := fieldLE b 3 2, dtc := bits (fieldLE b 5 1) 0 5 }

/-- An authority (side, epoch) that is new relative to PAIR_EPOCH is taken (R137, R403). -/
def State.epochSee (s : State) (side : Bool) (epoch : Nat) : State :=
  let d := (epoch + 256 - s.get F.PAIR_EPOCH_EPOCH) % 256
  if 1 ≤ d && d ≤ 127 then
    (s.set F.PAIR_EPOCH_EPOCH epoch).set F.PAIR_EPOCH_SIDE (b2n side)
  else s

/-- The commands and the telemetry of a stroke that a WATCH string passes are recorded (R133, R135,
R166), and its authority is taken where it is new (R403). -/
def State.strokeRecord (s : State) (n l : Nat) (f : Bytes) : State :=
  let x := s.str n
  let s := s.setStr n { x with seen := some (fieldLE f 2 4) }
  let side := bit (fieldLE f 11 1) 0
  let len := strokeLen x.frets
  let crc := strokeCrcOk x.frets f
  if x.frets.isEmpty then s
  else
    let s := s.when crc (·.epochSee side (fieldLE f 10 1))
    let pidx := fieldLE f 2 4
    let whole := crc && f.length = len
    let s := s.when (!whole) (·.inc (R.STR_CNT_RETCRC n))
    let u := pidxNear (s.time.pidx + 1) pidx
    let s := if whole then x.frets.foldl (fun t g =>
        if g.ver = 0 || g.cid > 4095 then t
        else t.histPut g.cid (u + 1)
          (parseCmd (slice f (if side then g.cmdB else g.cmdA) (cmdSize g.ver))) false) s
      else s
    let arr (g : FretS) : Nat := s.now - s.tRx l - g.fwd - g.d
    let e0 := s.get (R.STR_CNT_TELCRC n)
    let s := s.telParse n side whole pidx arr f
    { s with pair := { s.pair with errs := s.pair.errs + (s.get (R.STR_CNT_TELCRC n) - e0) } }

/-- String n is one that the device launches on: LIVE, or FAILED with another code than 0x2 (R151,
R154), or until the next apply instant after GO_CONFIG (R20). -/
def State.strBows (s : State) (n : Nat) : Bool :=
  (s.live && s.holder && (s.sst n = .live || (s.sst n = .failed && s.get (F.STR_CHK_CODE n) ≠ 2))) ||
    s.dev.lastBow.contains n

/-- A stroke that arrives on a string lane that is UP, on a string that the device does not launch
on: returned unchanged (R133), with a BLK before it while a request is active (R141). While the
device relays the string it does not reflect (R147). -/
def State.strokeReflect (s : State) (l : Nat) (f : Bytes) : State :=
  let n := s.lidx l
  if s.lrole l = .string && s.lst l = .up && !s.strBows n && (s.str n).relayOn.isNone then
    let g := if n < Config.strings then s.get (F.STR_BLK_G_TX n)
      else if s.gst = .safeHold then 0xFF else 0
    let s := s.sendStroke l g f
    s.when (n < Config.strings && s.sst n = .watch) (·.strokeRecord n l f)
  else s

/-- MOD_CNT_CLR. -/
def State.modCntClr (s : State) : State :=
  s.zero [R.MOD_CNT_OUTLIER, R.MOD_CNT_RESEED, R.MOD_CNT_SEQERR, R.MOD_CNT_STALE,
    R.MOD_CNT_WDISC]

/-- A write to a word of the cell table (R160, R173): only word 0x0C is taken, and one that reaches
CNOM resets GAM at the next update, whatever value it carries (notes/assumptions/56.md); the others
are discarded and counted. -/
def State.ctWrite (s : State) (a mask data req : Nat) : State :=
  let o := a - s.ctAt 0
  let c := o / 128
  if o % 128 = 0x0C then
    let (ok, s) := s.mergeWr a mask data req
    if ok && mask &&& 0xFFFF ≠ 0 && !s.modu.cnom.contains c then
      { s with modu := { s.modu with cnom := c :: s.modu.cnom } }
    else s
  else (s.flag F.MOD_OBS_STAT_CT_WDISC).inc R.MOD_CNT_WDISC

/-- A write to a word of the dead-time table (R199): only byte 0 of an entry is taken; a write
that reaches another byte is discarded there and counted. -/
def State.dtWrite (s : State) (a mask data req : Nat) : State :=
  let own := if (a - s.dtAt 0) % 8 = 0 then mask &&& 0xFF else 0
  let s := if own ≠ 0 then
      (s.mergeWr a own data req).2
    else s
  if mask ≠ own then (s.flag F.MOD_MSTAT_DT_WDISC).inc R.MOD_CNT_DTWDISC else s

end Sys2Proof.Machine
end

