-- ==== Sys2Proof/Machine/Cells.lean ====
section
/-! DEFINITION. Cell controllers: ports (R99 to R102), enumeration frames (R106, R107, R110 to
R113), strokes (R128 to R130, R134), authority (R137 to R139, R405), the apply instant (R126,
R127, R132) and BLK (R140, R143). -/

namespace Sys2Proof.Machine

open Sys2Proof

/-- Cell c before anything has reached it: what its maker declares. -/
def cellInit (c : Nat) : CellS :=
  { uid := Config.cellUid c % 2 ^ 64, fwd := Config.cellFwd c % 256,
    lead := Config.cellLead c % 65536, hmax := Config.cellHmax c % 16,
    vers := Config.cellVers c % 4, fb := Config.cellFb c }

/-- Cell c. -/
def State.cell (s : State) (c : Nat) : CellS := sget s.cells (cellInit c) c

/-- Cell c replaced. -/
def State.setCell (s : State) (c : Nat) (x : CellS) : State :=
  { s with cells := sins s.cells c x }

/-- The other port. -/
def otherPort (port : Nat) : Nat := 1 - port % 2

/-- A port is UP. -/
def CellS.up (x : CellS) (port : Nat) : Bool := if port % 2 = 0 then x.up0 else x.up1

/-- A port's UP set (R99). -/
def CellS.setUp (x : CellS) (port : Nat) (b : Bool) : CellS :=
  if port % 2 = 0 then { x with up0 := b } else { x with up1 := b }

/-- A frame goes on through the other port where that is UP (R100). -/
def State.cellForward (s : State) (c port : Nat) (f : Bytes) : State :=
  s.when ((s.cell c).up (otherPort port)) (·.emit (.cell c (otherPort port) f))

/-- The side that a port faces: true for side B (R101). -/
def CellS.faces (x : CellS) (port : Nat) : Bool := decide (x.portA ≠ port % 2)

/-- A REPLY of a cell (REPLY table): VERS is 0 for END kinds. -/
def CellS.reply (x : CellS) (kind nonce : Nat) : Bytes :=
  let last := kind = 2 || kind = 3
  withCrc32 (toLE 1 3 ++ toLE 1 kind ++ toLE 1 (if last then 0 else x.vers) ++ toLE 1 (b2n x.fb + 16 * x.hmax) ++
    toLE 4 nonce ++ toLE 8 x.uid ++ toLE 1 x.fwd ++ [0] ++ toLE 2 x.lead)

/-- A HELLO at a port (R106, R107). -/
def State.cellHello (s : State) (c port : Nat) (f : Bytes) : State :=
  let x := s.cell c
  let nonce := fieldLE f 4 4
  if !strFrameOk 2 12 f then s.cellForward c port f
  else if !bit (fieldLE f 1 1) 0 then s.emit (.cell c port (x.reply 4 nonce))
  else if x.st = .unassigned then s.emit (.cell c port (x.reply 1 nonce))
  else if x.up (otherPort port) then s.cellForward c port f
  else s.emit (.cell c port (x.reply 3 nonce))

/-- Classes of R137. -/
inductive AuthClass
  | current | new | stale
  deriving DecidableEq, Repr

/-- The class of an authority; a cell without one takes any (R137, R405). -/
def CellS.authClass (x : CellS) (side : Bool) (epoch : Nat) : AuthClass :=
  match x.auth with
  | none => .new
  | some (sc, ec) =>
    let d := (epoch + 256 - ec) % 256
    if d = 0 && side = sc then .current
    else if 1 ≤ d && d ≤ 127 then .new else .stale

/-- An ACK (ACK table). -/
def cellAck (map fret status uid : Nat) : Bytes :=
  withCrc32 (toLE 1 5 ++ toLE 1 map ++ toLE 1 fret ++ toLE 1 status ++ toLE 8 uid)

/-- Why a cell refuses the fields of a final ASSIGN (ACK table), 0 when it does not. -/
def CellS.refuse (x : CellS) (f : Bytes) (full : Bool) : Nat :=
  let ver := fieldLE f 2 1
  if full && (ver > 2 || (ver ≠ 0 && !bit x.vers (ver - 1))) then 1
  else if full && ([10, 12, 14, 16] : List Nat).any (fun o => fieldLE f o 2 > 4096) then 2
  else if fieldLE f 26 1 > x.hmax then 3 else 0

/-- A cell takes every field of an ASSIGN and the sender's authority (R110, R111). -/
def CellS.assign (x : CellS) (f : Bytes) (side : Bool) : CellS :=
  { x with
    st := .assigned, mapId := fieldLE f 1 1, ver := fieldLE f 2 1, fret := fieldLE f 5 1,
    fretA := fieldLE f 6 1, fretB := fieldLE f 7 1, cid := fieldLE f 8 2,
    cmdA := fieldLE f 10 2, telA := fieldLE f 12 2, cmdB := fieldLE f 14 2,
    telB := fieldLE f 16 2, leadA := fieldLE f 18 2, leadB := fieldLE f 20 2,
    per := fieldLE f 22 2, rlag := fieldLE f 24 2, hold := fieldLE f 26 1,
    string := fieldLE f 27 1, auth := some (side, fieldLE f 4 1), dual := false,
    dualEpochs := [], misses := 0, applied := [], dueAt := none }

/-- The port that faces side A when a frame of a side arrived on a port (R101). -/
def portForA (side : Bool) (port : Nat) : Nat := if side then otherPort port else port % 2

/-- An ASSIGN at a port (R110, R111). -/
def State.cellAssign (s : State) (c port : Nat) (f : Bytes) : State :=
  let x := s.cell c
  let map := fieldLE f 1 1
  let addr := bit (fieldLE f 3 1) 0
  let side := bit (fieldLE f 3 1) 1
  let fret := fieldLE f 5 1
  if !strFrameOk 4 40 f || fieldLE f 28 8 ≠ x.uid then s.cellForward c port f
  else if x.st = .unassigned && !addr && map = 0 then
    let s := s.setCell c { x with st := .provisional, fret := fret, provSide := side,
                                  portA := portForA side port }
    s.emit (.cell c port (cellAck 0 fret 0 x.uid))
  else
    let full := map ≠ 0 && ((x.st = .unassigned && !addr) ||
      (x.st = .provisional && addr && fret = x.fret))
    let leads := x.st = .assigned && addr && map ≠ 0 && map = x.mapId &&
      fret = (if side then x.fretB else x.fretA)
    if !full && !leads then s.cellForward c port f
    else if x.authClass side (fieldLE f 4 1) = .stale then
      let (v, s) := s.fresh
      s.emit (.cell c port (cellAck map fret (1 + v % 255) x.uid))
    else
      let code := x.refuse f full
      let y := if full then
          let y := x.assign f side
          if x.st = .unassigned then { y with portA := portForA side port } else y
        else { x with leadA := fieldLE f 18 2, leadB := fieldLE f 20 2, rlag := fieldLE f 24 2,
                      hold := fieldLE f 26 1 }
      let s := s.when (code = 0) (·.setCell c y)
      s.emit (.cell c port (cellAck map fret code x.uid))

/-- The cell's fret for a side, where it has one. -/
def CellS.fretOf (x : CellS) (side : Bool) : Option Nat :=
  match x.st with
  | .assigned => some (if side then x.fretB else x.fretA)
  | .provisional => if side = x.provSide then some x.fret else none
  | .unassigned => none

/-- An ECHO at a port (R112). -/
def State.cellEcho (s : State) (c port : Nat) (f : Bytes) : State :=
  let x := s.cell c
  let t := fieldLE f 2 1
  if strFrameOk 6 12 f && ((t = 0xFF && !x.up (otherPort port)) ||
      (t ≠ 0xFF && x.fretOf (bit (fieldLE f 1 1) 1) = some t)) then s.emit (.cell c port f)
  else s.cellForward c port f

/-- BLOCK now: both switches off, no toggle to come (R113, R138, R143, R213). -/
def CellS.blockNow (x : CellS) : CellS := { x with init := 3, on := 3, tog1 := 0xFFFF, tog2 := 0xFFFF }

/-- A RELEASE at a port (R113). -/
def State.cellRelease (s : State) (c port : Nat) (f : Bytes) : State :=
  let x := s.cell c
  let s :=
    if strFrameOk 7 8 f && x.authClass (bit (fieldLE f 1 1) 1) (fieldLE f 2 1) ≠ .stale then
      s.setCell c { x.blockNow with
        st := .unassigned, mapId := 0, ver := 0, auth := none, cmd := none, last := none,
        applied := [], dueAt := none, misses := 0, leadA := 0xFFFF, leadB := 0xFFFF }
    else s
  s.cellForward c port f

/-! ## Strokes -/

/-- The end of the command area: the first offset after the cell's record whose CRC-32 checks
(R123, R128; notes/assumptions/17.md). -/
def cmdEnd (f : Bytes) (fro upto : Nat) : Option Nat :=
  (List.range (upto + 1 - fro)).findSome? (fun i =>
    let p := fro + i
    if p + 4 ≤ f.length && fieldLE f p 4 = crc32 (f.take p) then some p else none)

/-- A command record is valid (R125). -/
def recordOk (r : CmdRec) (per : Nat) : Bool :=
  if r.tog1 = 0xFFFF then r.tog2 = 0xFFFF
  else r.tog1 < per && (r.tog2 = 0xFFFF || (r.tog1 < r.tog2 && r.tog2 < per))

/-- DUAL after a processed stroke of a side and epoch when t nanoseconds have passed, with the authority a
clearing stroke brings (R138, R139). -/
def CellS.dualStep (x : CellS) (side : Bool) (epoch t : Nat) : CellS :=
  let close := match x.lastStart with
    | some p => decide (side ≠ x.runSide) && decide (t - p < x.per)
    | none => false
  let quiet := x.lastStart.isSome && decide (t - x.runFrom ≥ 2 * x.per)
  let ahead := x.dualEpochs.all (fun e =>
    let d := (epoch + 256 - e) % 256
    decide (1 ≤ d) && decide (d ≤ 127))
  let y := if close then { x.blockNow with dual := true, dualEpochs := epoch :: x.dualEpochs }
    else if x.dual && quiet && ahead then
      { x with dual := false, dualEpochs := [], auth := some (side, epoch) }
    else if x.dual then { x with dualEpochs := epoch :: x.dualEpochs } else x
  let new := x.lastStart.isNone || decide (side ≠ x.runSide)
  { y with lastStart := some t, runSide := side, runFrom := if new then t else x.runFrom }

/-- The telemetry record that a cell writes (Telemetry record tables). -/
def CellS.telemetry (x : CellS) (m : CellMeas) : Bytes :=
  let fl := ofBits 8 (fun i => match i with
    | 0 => m.fault || x.negF || x.dual
    | 1 => x.bypass
    | 2 => m.ov
    | 3 => m.gdf
    | 4 => x.crcErr
    | 5 => x.holdF
    | 6 => x.linkDeg
    | _ => m.aux)
  let r := toLE 2 m.vcap ++ toLE 1 fl ++
    toLE 2 (m.tsw % 4096 + 4096 * (x.seqEcho % 8) + 32768 * b2n x.holdF) ++ toLE 1 m.sofs
  let r := if x.ver = 2 then r ++ toLE 1 m.temp ++ toLE 1 m.gdiag ++ toLE 2 m.vmin else r
  r ++ toLE 2 (crc16 r)

/-- A stroke that a cell processes (R128 to R130, R137 to R139): the cell after it and the stroke
as it goes on. -/
def State.cellProcess (s : State) (x : CellS) (port : Nat) (f : Bytes) (m : CellMeas) :
    CellS × Bytes :=
  let side := bit (fieldLE f 11 1) 0
  let relay := bit (fieldLE f 14 2) 0
  let epoch := fieldLE f 10 1
  let co := if side then x.cmdB else x.cmdA
  let to' := if side then x.telB else x.telA
  let mine := fieldLE f 1 1 = x.mapId
  let fin := if mine then cmdEnd f (co + cmdSize x.ver) (to' - 4) else none
  let x := if mine && fin.isNone then { x with crcErr := true } else x
  let x := x.dualStep side epoch s.elapsed
  let cls := x.authClass side epoch
  let x := if cls = .new && (x.auth.isSome || mine) then { x with auth := some (side, epoch) } else x
  let good := fin.isSome && fieldLE f 0 1 = 1 && fieldLE f 12 1 = x.string
  let b := slice f co (cmdSize x.ver)
  let lead := if x.faces port then x.leadB else x.leadA
  let tc := s.tChar ((s.strLane? x.string).getD 0)
  let wait := lead - (if relay then x.rlag else 0)
  let valid := (fin.getD 0 + 5) * tc + x.lead ≤ wait
  let pidx := fieldLE f 2 4
  let x := if good && cls ≠ .stale && lead ≠ 0xFFFF && recordOk (parseCmd b) x.per && valid &&
      !x.applied.contains pidx then { x with cmd := some (b, pidx) } else x
  let x := if mine && lead ≠ 0xFFFF then { x with dueAt := some (s.elapsed + wait) } else x
  if mine && to' + telSize x.ver ≤ f.length then
    ({ x with crcErr := false, linkDeg := false }, putBytes f to' (x.telemetry m))
  else (x, f)

/-- A stroke at a port (R100, R102, R109, R134). -/
def State.cellStroke (s : State) (c port : Nat) (f : Bytes) (m : CellMeas) : State :=
  let x := s.cell c
  let side := bit (fieldLE f 11 1) 0
  let relay := bit (fieldLE f 14 2) 0
  let out := if x.up (otherPort port) then otherPort port else port % 2
  if x.st = .assigned && x.ver ≠ 0 && 20 ≤ f.length && (x.faces port = side) != relay then
    let (x, f) := s.cellProcess x port f m
    (s.setCell c x).emit (.cell c out f)
  else s.emit (.cell c out f)

/-! ## Apply instant, BLK, ports -/

/-- The command that a cell applies at an apply instant, or none for BLOCK, and the cell with
its counts (R132). -/
def CellS.take (x : CellS) : Option Bytes × CellS :=
  match x.cmd with
  | some (b, p) =>
    (some b, { x with cmd := none, last := some b, misses := 0, holdF := false,
                      applied := p :: x.applied.filter (fun q => (p + 2 ^ 32 - q) % 2 ^ 32 < 2 ^ 31),
                      seqEcho := fieldLE b 5 1 / 32 })
  | none =>
    let n := min (x.misses + 1) 9
    (if n ≥ x.hold + 1 then none else x.last, { x with misses := n, holdF := true })

/-- The version 2 fields of an applied record (R127, HOLD_OVR). -/
def CellS.extra (x : CellS) (b : Bytes) : CellS :=
  if x.ver ≠ 2 then x
  else
    let r := parseCmd b
    let both (n : Nat) : Bool := r.init = n && r.on = n
    let x := if bit (fieldLE b 6 1) 0 && (both 0 || both 3) then { x with bypass := true } else x
    let d := fieldLE b 6 1 / 16
    let x := if both 3 && (d = 1 || d = 2) then { x with diagReq := d } else x
    let h := fieldLE b 7 1 % 16
    if 1 ≤ h && h ≤ 8 then { x with hold := min h x.hmax } else x

/-- The apply instant of cell c (R126, R132, R138, R143); the next one is predicted a period
later (R132). -/
def State.cellApply (s : State) (c : Nat) : State :=
  let x := s.cell c
  if x.st ≠ .assigned then s
  else
    let (b, x) := x.take
    let x := { x with negF := false, dueAt := some (s.elapsed + x.per) }
    let forced := x.dual || (match x.blkUntil with
      | some t => decide (s.elapsed ≤ t)
      | none => false)
    let x := match b with
      | none => x.blockNow
      | some b =>
        let x := x.extra b
        let r := parseCmd b
        let neg := !x.fb && (r.init = 2 || r.on = 2)
        if forced then x.blockNow
        else if neg then { x.blockNow with negF := true, dtc := r.dtc }
        else { x with init := r.init, on := r.on, tog1 := r.tog1, tog2 := r.tog2, dtc := r.dtc }
    s.setCell c x

/-- A BLK at a port (R140, R143, R213). -/
def State.cellBlk (s : State) (c port g fourth : Nat) : State :=
  if blkOk g fourth then
    let x := s.cell c
    let s := s.setCell c { x.blockNow with blkUntil := some (s.elapsed + 2 * x.per) }
    s.when (x.up (otherPort port)) (·.emit (.cellBlk c (otherPort port) g))
  else s

/-- 100 ms without a stroke of the cell's authority (R405). -/
def State.cellAuthTimeout (s : State) (c : Nat) : State :=
  s.setCell c { s.cell c with auth := none }

/-- A port becomes UP (R99). -/
def State.cellPortUp (s : State) (c port : Nat) : State :=
  s.setCell c ((s.cell c).setUp port true)

/-- A port leaves UP (R99, R134). -/
def State.cellPortLoss (s : State) (c port : Nat) : State :=
  s.setCell c { (s.cell c).setUp port false with linkDeg := true }

end Sys2Proof.Machine
end

