-- ==== Sys2Proof/Machine/Can.lean ====
section
/-! DEFINITION. The CAN controllers (chapter 19): enabling (R530, R540), the transmit queue and
SYNC slot (R534 to R537), error states (R538, R539), reception (R541), and the counter and its
correlation with station time (R542, R543). -/

namespace Sys2Proof.Machine

open Sys2Proof

/-- Controller n beside its registers. -/
def State.can (s : State) (n : Nat) : CanS := sget s.cans {} n

/-- A controller replaced, with TXQ. -/
def State.setCan (s : State) (n : Nat) (x : CanS) : State :=
  ({ s with cans := sput s.cans {} n x }).set (F.CAN_STAT_TXQ n) x.queue.length

/-- The 32-bit counter at the CAN clock: 80 MHz of core-clock time, which the model runs with
station nanoseconds (R542). -/
def State.canCnt (s : State) : Nat := s.time.canNs * 2 / 25 % 2 ^ 32

/-- The controller takes part in the bus: error-active or error-passive. -/
def State.canOn (s : State) (n : Nat) : Bool :=
  s.get (F.CAN_STAT_STATE n) = 1 || s.get (F.CAN_STAT_STATE n) = 2

/-! ## Completions -/

/-- A queue entry completes (R534, R536, R459). -/
def State.canComplete (s : State) (e : CanTx) (status result : Nat) : State :=
  match e.ring with
  | some (r, idx) => s.complete r idx status result 0
  | none => if status = 0 then s.inc R.LOGIC_CNT_CANOK else s.inc R.LOGIC_CNT_CANERR

/-- Several entries complete as CANCELLED. -/
def State.canCancelAll (s : State) (l : List CanTx) : State :=
  l.foldl (fun t e => t.canComplete e 4 0) s

/-! ## Enabling -/

/-- CAN clocks of a nominal bit, and of a data bit (R530). -/
def State.canNom (s : State) (n : Nat) : Nat :=
  (s.get (F.CAN_NBT_BRP n) + 1) * (s.get (F.CAN_NBT_TSEG1 n) + s.get (F.CAN_NBT_TSEG2 n) + 3)
/-- CAN clocks of a data bit. -/
def State.canData (s : State) (n : Nat) : Nat :=
  (s.get (F.CAN_DBT_BRP n) + 1) * (s.get (F.CAN_DBT_TSEG1 n) + s.get (F.CAN_DBT_TSEG2 n) + 3)

/-- The refusal of EN = 1, 0 for none (R530). -/
def State.canEnCode (s : State) (n : Nat) : Nat :=
  if s.canNom n < 80 || s.canNom n > 8000 || s.get (F.CAN_NBT_SJW n) > s.get (F.CAN_NBT_TSEG2 n) then 1
  else if s.on (F.CAN_CTRL_FD_EN n) && (s.canData n < 16 || s.canData n > s.canNom n ||
      s.get (F.CAN_DBT_SJW n) > s.get (F.CAN_DBT_TSEG2 n)) then 2
  else if s.on (F.CAN_CTRL_TRIPLE n) && s.canNom n < 640 then 3
  else 0

/-- A write of EN = 1 (R530). A controller that was bus-off when EN fell is bus-off again: only
RECOVER leaves bus-off (R538). -/
def State.canEnable (s : State) (n : Nat) : State :=
  if s.dev.inReset || s.on (F.CAN_CTRL_EN n) then s
  else
    let c := s.canEnCode n
    if c = 0 then
      let s := (s.flag (F.CAN_CTRL_EN n)).set (F.CAN_STAT_TEC n) 0
      let s := (s.set (F.CAN_STAT_REC n) 0).set (F.CAN_STAT_STATE n) (if (s.can n).wasOff then 3 else 1)
      s.setCan n { s.can n with ending := false, acks := 0, wasOff := false }
    else (s.set (F.CAN_STAT_CODE n) c).flag (F.CAN_STAT_EN_REJ n)

/-- The controller leaves the bus; every queue entry completes as CANCELLED (R540). -/
def State.canOff (s : State) (n : Nat) : State :=
  let q := (s.can n).queue
  let s := s.setCan n { s.can n with queue := [], sync := none, ending := false, acks := 0,
                                     wasOff := (s.can n).wasOff || s.get (F.CAN_STAT_STATE n) = 3 }
  let s := s.zero [F.CAN_STAT_STATE n, F.CAN_STAT_NO_ACK_ALONE n, F.CAN_STAT_RECOVERING n]
  s.canCancelAll q

/-- A write of EN = 0 (R540). Whether a frame is in progress the bus alone knows: a free
value. -/
def State.canDisable (s : State) (n : Nat) : State :=
  if !s.on (F.CAN_CTRL_EN n) then s
  else
    let s := s.set (F.CAN_CTRL_EN n) 0
    if s.canOn n then
      let (v, s) := s.fresh
      if v % 2 = 1 then s.setCan n { s.can n with ending := true } else s.canOff n
    else s.canOff n

/-- The end of a frame in progress takes a controller with EN 0 off the bus (R540). -/
def State.canEnd (s : State) (n : Nat) : State := if (s.can n).ending then s.canOff n else s

/-! ## Error states (R538, R539) -/

/-- The error state that TEC and REC call for. -/
def State.canJudge (s : State) (n tec rec' : Nat) : State :=
  if tec > 255 then
    let (v, s) := s.fresh
    let s := (s.set (F.CAN_STAT_TEC n) (v % 256)).set (F.CAN_STAT_STATE n) 3
    (s.flag (F.CAN_STAT_BUSOFF_SEEN n)).inc (R.CAN_CNT_BUSOFF n)
  else
    let s := (s.set (F.CAN_STAT_TEC n) tec).set (F.CAN_STAT_REC n) (min rec' 255)
    s.set (F.CAN_STAT_STATE n) (if tec > 127 || rec' > 127 then 2 else 1)

/-- A transmission acknowledged: TEC falls by 1. -/
def State.canTxGood (s : State) (n : Nat) : State :=
  let s := s.setCan n { s.can n with acks := 0 }
  (s.set (F.CAN_STAT_NO_ACK_ALONE n) 0).canJudge n (s.get (F.CAN_STAT_TEC n) - 1) (s.get (F.CAN_STAT_REC n))

/-- The head entry leaves the queue with a status. -/
def State.canPop (s : State) (n status result : Nat) : State :=
  match (s.can n).queue with
  | [] => s
  | e :: rest =>
    let st := if status = 0 && e.cancelled then 5 else status
    (s.setCan n { s.can n with queue := rest }).canComplete e st result

/-- A frame is sent and acknowledged (R535, R536): the waiting SYNC or the head entry; `ago` is
CAN clocks since its start of frame. -/
def State.canSent (s : State) (n : Nat) (sync : Bool) (ago : Nat) : State :=
  let x := s.can n
  if s.canOn n && !s.on (F.CAN_CTRL_LISTEN n) then
    let stamp := (s.canCnt + 2 ^ 32 - ago % 2 ^ 32) % 2 ^ 32
    if sync then
      match x.sync with
      | some id =>
        let s := (s.setCan n { x with sync := none }).inc (R.CAN_CNT_TXOK n)
        (((s.emit (.can n id 0 [])).canTxGood n).canEnd n)
      | none => s
    else match x.queue with
      | [] => s
      | e :: _ =>
        let s := (s.inc (R.CAN_CNT_TXOK n)).emit (.can n e.id e.fmt e.data)
        ((s.canTxGood n).canPop n 0 stamp).canEnd n
  else s

/-- Lost arbitration or an error on a frame of controller n (R534, R537 to R539). -/
def State.canTxError (s : State) (n : Nat) (e : CanTxErr) : State :=
  let x := s.can n
  if s.canOn n && !s.on (F.CAN_CTRL_LISTEN n) && (x.sync.isSome || x.queue ≠ []) then
    let passive := s.get (F.CAN_STAT_STATE n) = 2
    let tec := s.get (F.CAN_STAT_TEC n)
    let rec' := s.get (F.CAN_STAT_REC n)
    let s := match e with
      | .lost => s
      | .error => (s.setCan n { x with acks := 0 }).canJudge n (tec + 8) rec'
      | .noAck =>
        let s := s.setCan n { x with acks := x.acks + 1 }
        if passive then s else s.canJudge n (tec + 8) rec'
    let s := match (s.can n).queue with
      | h :: _ => if h.cancelled then s.canPop n 4 0 else s
      | [] => s
    s.canEnd n
  else s

/-- 16 consecutive acknowledgement errors (R539). -/
def State.canAlone (s : State) (n : Nat) : State :=
  if (s.can n).acks ≥ 16 && !s.on (F.CAN_STAT_NO_ACK_ALONE n) then
    let s := s.flag (F.CAN_STAT_NO_ACK_ALONE n)
    if s.on (F.CAN_CTRL_ABORT_ON_ALONE n) then s.canPop n 8 0 else s
  else s

/-- A bus error detected while receiving: REC rises by 1, or by 8 after a dominant bit that
follows the error flag (R538). -/
def State.canRxError (s : State) (n : Nat) (dominant : Bool) : State :=
  if s.canOn n && !s.on (F.CAN_CTRL_LISTEN n) then
    (s.canJudge n (s.get (F.CAN_STAT_TEC n)) (s.get (F.CAN_STAT_REC n) + if dominant then 8 else 1)).canEnd n
  else s

/-- RECOVER (R538). -/
def State.canRecover (s : State) (n : Nat) : State :=
  if s.get (F.CAN_STAT_STATE n) = 3 then s.flag (F.CAN_STAT_RECOVERING n) else s

/-- 128 occurrences of 11 recessive bits have passed (R538). -/
def State.canRecovered (s : State) (n : Nat) : State :=
  if s.on (F.CAN_STAT_RECOVERING n) then
    let s := s.zero [F.CAN_STAT_RECOVERING n, F.CAN_STAT_TEC n, F.CAN_STAT_REC n]
    s.set (F.CAN_STAT_STATE n) 1
  else s

/-! ## Transmit queue -/

/-- Data bytes of a DLC (ISO 11898-1): up to 8 in a classical frame. -/
def dlcBytes (fdf : Bool) (dlc : Nat) : Nat :=
  if dlc ≤ 8 then dlc
  else if !fdf then 8
  else match dlc with
    | 9 => 12 | 10 => 16 | 11 => 20 | 12 => 24 | 13 => 32 | 14 => 48 | _ => 64

/-- The refusals of a SEND (R536). -/
def State.canSendBad (s : State) (n : Nat) (b : Bytes) : Bool :=
  let rtr := bit (fieldLE b 8 4) 30
  let dlc := bits (fieldLE b 12 1) 0 4
  let fdf := bit (fieldLE b 12 1) 4
  let brs := bit (fieldLE b 12 1) 5
  (rtr && fdf) || (brs && !fdf) || (fdf && !s.on (F.CAN_CTRL_FD_EN n)) || (decide (dlc > 8) && !fdf)

/-- The status of a host read that failed, for an engine that moves host data (R376). -/
def HFault.status : HFault → Nat
  | .xlate => 3
  | .abort .ep => 2
  | .abort _ => 1

/-- A SEND is fetched and enters the queue, or fails (R534, R536). -/
def State.canSend (s : State) (r : Nat) (hm : HostMem) : State :=
  let n := s.get (F.HOST_RING_CFG_SUB r)
  if (s.can n).queue.length ≥ 32 then s
  else match s.fetchEvent r hm (wantOp s r .canTx 1) with
    | (.nothing, s) => s
    | (.start d, s) =>
      if s.canSendBad n d.bytes then s.complete r d.idx 1 0 0
      else
        let id := fieldLE d.bytes 8 4 % 2 ^ 31
        let fmt := fieldLE d.bytes 12 1 % 64
        let k := if bit id 30 then 0 else dlcBytes (bit fmt 4) (fmt % 16)
        let a := fieldLE d.bytes 16 8
        let (data, f, s) := if k = 0 then ([], none, s) else s.hostRd hm (ringReq r) (pagesOf a k) a k
        match f with
        | some e => s.complete r d.idx e.status 0 0
        | none => s.setCan n { s.can n with queue := (s.can n).queue ++ [⟨some (r, d.idx), id, fmt, data, false⟩] }

/-- A frame of the logic engine's publish (R459, R534): `arg` as LOGIC_OMAP_ARG. -/
def State.canPublish (s : State) (arg : Nat) (data : Bytes) : State :=
  let n := bits arg 30 1
  if (s.can n).queue.length ≥ 32 then s.inc R.LOGIC_CNT_CANERR
  else s.setCan n { s.can n with queue := (s.can n).queue ++ [⟨none, arg % 2 ^ 30, 8, data, false⟩] }

/-- The SYNC request of a cycle start on one controller (R535). -/
def State.canSync (s : State) (n : Nat) : State :=
  if s.on (F.CAN_CTRL_SYNC_EN n) then
    (if (s.can n).sync.isSome then s.flag (F.CAN_STAT_SYNC_LATE n)
    else s.setCan n { s.can n with sync := some (s.word (R.CAN_SYNC n)) })
  else s

/-- A CANCEL meets a SEND of controller n (R537). The flag says that the SEND was in the
queue. Whether the head's start of frame is on the bus, the bus alone knows: a free value. -/
def State.canCancel (s : State) (n r idx : Nat) : Bool × State :=
  match (s.can n).queue.findIdx? (fun e => e.ring = some (r, idx)) with
  | none => (false, s)
  | some 0 =>
    let (v, s) := if s.canOn n && !s.on (F.CAN_CTRL_LISTEN n) then s.fresh else (0, s)
    if v % 2 = 1 then
      (true, s.setCan n { s.can n with queue := (s.can n).queue.mapIdx (fun i e =>
        if i = 0 then { e with cancelled := true } else e) })
    else (true, s.canPop n 4 0)
  | some _ =>
    (true, (s.setCan n { s.can n with queue := (s.can n).queue.filter (fun e => e.ring ≠ some (r, idx)) }).complete r idx 4 0 0)

/-! ## Reception -/

/-- The filter that takes a frame (R541). -/
def State.canFilter (s : State) (n id : Nat) : Option Nat :=
  (List.range 32).find? (fun f =>
    s.on (F.CAN_FILT_MASK_EN n f) && s.get (F.CAN_FILT_ID_IDE n f) = bits id 29 1 &&
      ((bits id 0 29 ^^^ s.get (F.CAN_FILT_ID_ID n f)) &&& s.get (F.CAN_FILT_MASK_MASK n f)) = 0)

/-- REC after a frame received well (R538): a value above 127 comes back to one from 119 to
127. -/
def State.canRxGood (s : State) (n : Nat) : State :=
  if s.on (F.CAN_CTRL_LISTEN n) then s
  else
    let r := s.get (F.CAN_STAT_REC n)
    let (r', s) := if r > 127 then (119 + s.fresh.1 % 9, s.fresh.2) else (r - 1, s)
    s.canJudge n (s.get (F.CAN_STAT_TEC n)) r'

/-- A frame is received (R541): identifier word, format (DLC, FDF, BRS, ESI), data, and CAN
clocks since its start of frame. -/
def State.canReceive (s : State) (n id fmt : Nat) (data : Bytes) (ago : Nat) : State :=
  if s.canOn n && !(bit fmt 4 && !s.on (F.CAN_CTRL_FD_EN n)) then
    let stamp := (s.canCnt + 2 ^ 32 - ago % 2 ^ 32) % 2 ^ 32
    let s := (s.inc (R.CAN_CNT_RXOK n)).set (F.CAN_STAT_NO_ACK_ALONE n) 0
    let s := s.canRxGood n
    let s := s.setCan n { s.can n with acks := 0 }
    let k := if bit id 30 then 0 else dlcBytes (bit fmt 4) (fmt % 16)
    let data := slice data 0 k
    let s := match s.canFilter n id with
      | none => s.inc (R.CAN_CNT_RXNOMATCH n)
      | some f =>
        let s := if s.on (F.CAN_FILT_ID_RING n f) then
            (if (s.can n).fifo.length ≥ 64 then s.inc (R.CAN_CNT_RXOVF n)
            else
              let h := toLE 4 (id % 2 ^ 31) ++ toLE 1 (fmt % 128) ++ toLE 1 f ++ toLE 2 k ++ toLE 4 stamp ++
                [0, 0, 0, 0]
              s.setCan n { s.can n with fifo := (s.can n).fifo ++ [h ++ data] })
          else s
        if s.on (F.CAN_FILT_ID_LOGIC n f) then
          s.setCan n { s.can n with mail := sput (s.can n).mail [] f (slice data 0 8) }
        else s
    s.canEnd n
  else s

/-- The oldest frame of the FIFO goes into the oldest BUF that waits (R541). -/
def State.canDrain (s : State) (r : Nat) (hm : HostMem) : State :=
  let n := s.get (F.HOST_RING_CFG_SUB r)
  match (s.ring r).outs.find? (fun d => d.started && d.op = 1), (s.can n).fifo with
  | some d, f :: rest =>
    let a := fieldLE d.bytes 8 8
    let s := s.setCan n { s.can n with fifo := rest }
    let (m, ok, s) := s.hostWr hm (ringReq r) (pagesOf a f.length) a f
    if ok then s.complete r d.idx 0 f.length 0 else s.complete r d.idx 3 m 0
  | _, _ => s

/-- A BUF descriptor takes one frame: the one that waits, or the next fetched (R541). -/
def State.canBuf (s : State) (r : Nat) (hm : HostMem) : State :=
  if s.rtype r ≠ .canRx then s
  else if (s.ring r).outs.any (fun d => d.started && d.op = 1) then s.canDrain r hm
  else match s.fetchEvent r hm (wantOp s r .canRx 1) with
    | (.nothing, s) => s
    | (.start d, s) =>
      if fieldLE d.bytes 16 2 < 80 then s.complete r d.idx 1 0 0 else s.canDrain r hm

/-- The logic mailbox of a filter (R458). -/
def State.canMail (s : State) (n f : Nat) : Bytes := slice (sget (s.can n).mail [] f) 0 8

/-! ## Correlation -/

/-- TAKE: counter and station time together (R543). -/
def State.canCorr (s : State) : State :=
  ((s.set R.CAN_CORR_CNT s.canCnt).set R.CAN_CORR_NS s.time.ns).set R.CAN_CORR_SEC (s.time.sec % 2 ^ 32)

/-- The latch at a whole station second: the latest one, with the counter as it was then
(R543). -/
def State.canLatch (s : State) : State :=
  let cnt := (s.time.canNs - s.time.ns) * 2 / 25 % 2 ^ 32
  ((s.set R.CAN_CORR_CNT cnt).set R.CAN_CORR_NS 0).set R.CAN_CORR_SEC (s.time.sec % 2 ^ 32)

/-- CAN_CNT_CLR. -/
def State.canCntClr (s : State) : State :=
  s.zero ([0, 1].flatMap (fun n => [R.CAN_CNT_TXOK n, R.CAN_CNT_RXOK n, R.CAN_CNT_RXOVF n,
    R.CAN_CNT_RXNOMATCH n, R.CAN_CNT_BUSOFF n]))

end Sys2Proof.Machine
end

