-- ==== Sys2Proof/Machine/Logic.lean ====
section
/-! DEFINITION. The station logic engine (chapter 15): its data areas and memory port (R444 to
R448), programs and their validation (R449, R450), the instructions that act on the engine
alone (R451, R453 to R455), starts and stops (R463 to R465), the end sequence and the retain
store (R461, R466, R467), exchange (R468) and forces (R469, R470). -/

namespace Sys2Proof.Machine

open Sys2Proof

/-! ## States and memory -/

/-- The engine states of LOGIC_STAT.LSTATE (R463). -/
inductive LogState
  | stop | armed | run | halt | hold
  deriving DecidableEq, Repr

/-- The code of an engine state. -/
def LogState.code : LogState → Nat
  | .stop => 0 | .armed => 1 | .run => 2 | .halt => 3 | .hold => 4

/-- The engine state. -/
def State.lgst (s : State) : LogState :=
  match s.get F.LOGIC_STAT_LSTATE with
  | 1 => .armed | 2 => .run | 3 => .halt | 4 => .hold
  | _ => .stop

/-- The internal state of the engine changed. -/
def State.lg (s : State) (f : LogicS → LogicS) : State := { s with logic := f s.logic }

/-- The engine changes state; the image's engine-state word follows (R446), but for HOLD, in
which it keeps what a capture brought (R463). Leaving RUN for
STOP or HALT calls for the %Q of all 0 (R464), and abandons the cycle in progress. -/
def State.setLgst (s : State) (x : LogState) : State :=
  let was := s.lgst
  let s := s.set F.LOGIC_STAT_LSTATE x.code
  let s := if x = .hold then s else s.wr32 (logicBase + 0xB444) x.code
  if was = .run && x ≠ .run then
    let s := s.set F.LOGIC_STAT_STOP_PEND 0
    s.lg (fun l => { l with inCycle := false, zeroPub := l.zeroPub || x ≠ .hold })
  else s

/-- The engine halts with a cause (R453, R462). -/
def State.lHalt (s : State) (cause : Nat) : State :=
  (s.set F.LOGIC_STAT_HCAUSE cause).setLgst .halt

/-- A halt with cause STACK and its fault record, whose KIND and address the spec does not
number (R453). -/
def State.lStack (s : State) : State :=
  let (k, s) := s.fresh
  (s.faultLog (k % 256) (some 4) (some 0x34) none none none).lHalt 1

/-- A halt with cause ECC on a word that read bad; a poisoned word is recorded here, an
uncorrectable one was when it was read (R453, R363). -/
def State.lEcc (s : State) (a : Nat) (poisoned : Bool) : State :=
  (s.when poisoned (·.poisonLog a 0x34)).lHalt 2

/-- A read by the engine of a word of its own memory or of an instruction; none when the word
is bad and the engine has halted (R453). -/
def State.lRead (s : State) (a : Nat) : Option Nat × State :=
  let pois := decide (sget s.synd 0 (a / 4) = 0x7F)
  let (d, bad, s) := s.eccRd a 0x34
  if bad then (none, s.lEcc a pois) else (some d, s)

/-- What the forces in effect do to the word at an image offset: the forced bits and their
value; the last applied wins (R469). -/
def forceAt (l : List (Nat × Nat × Nat)) (ofs : Nat) : Nat × Nat :=
  l.foldl (fun (mv : Nat × Nat) (f : Nat × Nat × Nat) =>
    if f.1 = ofs then (mv.1 ||| f.2.1, (mv.2 &&& (f.2.1 ^^^ 0xFFFFFFFF)) ||| (f.2.2 &&& f.2.1)) else mv)
    (0, 0)

/-- A word as the program, the shared image and the publish see it (R469). -/
def State.lView (s : State) (ofs d : Nat) : Nat :=
  let (m, v) := forceAt s.logic.forces ofs
  (d &&& (m ^^^ 0xFFFFFFFF)) ||| v

/-- A word of the image read by the program. -/
def State.lWord (s : State) (ofs : Nat) : Option Nat × State :=
  let (d, s) := s.lRead (logicBase + ofs)
  (d.map (s.lView ofs), s)

/-- A whole word of the image written by the program or the freeze: forced bits keep their
value (R469). -/
def State.lPut (s : State) (ofs v : Nat) : State :=
  s.wr32 (logicBase + ofs) (s.lView ofs (v % 2 ^ 32))

/-- Bits of a word of the image written by the program: the word is read first. -/
def State.lPutBits (s : State) (ofs lo w v : Nat) : State :=
  match s.lRead (logicBase + ofs) with
  | (some d, s) => s.lPut ofs (setBits d lo w v)
  | (none, s) => s

/-- Consecutive words of the image read by the program. -/
def State.lWords (s : State) (ofs : Nat) : Nat → Option (List Nat) × State
  | 0 => (some [], s)
  | n + 1 =>
    match s.lWord ofs with
    | (none, s) => (none, s)
    | (some d, s) =>
      match State.lWords s (ofs + 4) n with
      | (none, s) => (none, s)
      | (some r, s) => (some (d :: r), s)

/-- The memory with the bytes of [lo, hi) cleared. -/
def memClear (m : List Host.Cell) (lo hi : Nat) : List Host.Cell :=
  m.filter (fun c => decide (c.1 < lo ∨ hi ≤ c.1))

/-- The memory with [dst, dst + len) a copy of [src, src + len). -/
def memCopy (m : List Host.Cell) (src dst len : Nat) : List Host.Cell :=
  m.filter (fun c => decide (c.1 < dst)) ++
    (m.filter (fun c => decide (src ≤ c.1 ∧ c.1 < src + len))).map (fun c => (c.1 - src + dst, c.2)) ++
    m.filter (fun c => decide (dst + len ≤ c.1))

/-- A range of the image cleared, as fresh codewords. -/
def State.lClear (s : State) (lo hi : Nat) : State :=
  let s := (List.range ((hi - lo + 63) / 64)).foldl (fun t i => t.mark (logicBase + lo + 64 * i)) s
  ({ s with mem := memClear s.mem (logicBase + lo) (logicBase + hi) }).freshCode (logicBase + lo) (hi - lo)

/-- Every word of a range of the engine's memory whose code does not fit is read: corrected, or
the engine halts (R363, R453). -/
def State.lScan (s : State) (lo len : Nat) : Bool × State :=
  (s.synd.filter (fun p => decide (lo / 4 ≤ p.1 ∧ p.1 < (lo + len) / 4))).foldl
    (fun (x : Bool × State) p =>
      if x.1 then x
      else match x.2.lRead (4 * p.1) with
        | (some _, s) => (false, s)
        | (none, s) => (true, s))
    (false, s)

/-! ## Operands (R445) -/

/-- The image offset and bit of a bit operand; none where the area has no such bit. -/
def lBitAt (area idx : Nat) : Option (Nat × Nat) :=
  match area with
  | 0 => if idx < 4096 then some (4 * (idx / 32), idx % 32) else none
  | 1 => if idx < 4096 then some (0x200 + 4 * (idx / 32), idx % 32) else none
  | 2 => if idx < 32768 then some (0x400 + 4 * (idx / 32), idx % 32) else none
  | 3 => if idx < 512 then some (0x5400 + 32 * idx, 0) else none
  | 4 => if idx < 256 then some (0x9400 + 16 * idx, 0) else none
  | 5 => if idx < 32 then some (0xB440, idx) else none
  | 6 => if idx < 32768 then some (0xC000 + 4 * (idx / 32), idx % 32) else none
  | _ => none

/-- The image offset of a word operand. -/
def lWordAt (area idx : Nat) : Option Nat :=
  match area with
  | 0 => if idx < 128 then some (4 * idx) else none
  | 1 => if idx < 128 then some (0x200 + 4 * idx) else none
  | 2 => if idx < 4096 then some (0x1400 + 4 * idx) else none
  | 3 => if idx < 512 then some (0x5400 + 32 * idx + 8) else none
  | 4 => if idx < 512 then some (0x5400 + 32 * idx + 4) else none
  | 5 => if idx < 256 then some (0x9400 + 16 * idx + 8) else none
  | 6 => if idx < 256 then some (0x9400 + 16 * idx + 4) else none
  | 7 => if idx < 16 then some (0xB400 + 4 * idx) else none
  | 8 => if idx < 1024 then some (0xC000 + 4 * idx) else none
  | _ => none

/-- Bit areas a program may write: %Q, %M and %R. -/
def lBitWritable (area : Nat) : Bool := area = 1 || area = 2 || area = 6

/-- Word areas a program may write: %QW, %MW, %TP, %CV, %CP and %RW. -/
def lWordWritable (area : Nat) : Bool :=
  area = 1 || area = 2 || area = 4 || area = 5 || area = 6 || area = 8

/-! ## Instruction words (R451) -/

/-- The operand forms of R451. -/
inductive LForm
  | O | K | S | T | N
  deriving DecidableEq, Repr

/-- The form of an operation code; none for an undefined one. -/
def lForm (op : Nat) : Option LForm :=
  if 0x01 ≤ op && op ≤ 0x0B then some .O
  else if 0x0C ≤ op && op ≤ 0x0F then some .N
  else if 0x10 ≤ op && op ≤ 0x17 then some .S
  else if op = 0x20 then some .O
  else if op = 0x21 || op = 0x22 then some .K
  else if 0x23 ≤ op && op ≤ 0x2A then some .O
  else if 0x2B ≤ op && op ≤ 0x2E then some .K
  else if 0x30 ≤ op && op ≤ 0x32 then some .O
  else if op = 0x33 then some .K
  else if 0x38 ≤ op && op ≤ 0x3A then some .T
  else if op = 0x3B then some .N
  else if 0x3C ≤ op && op ≤ 0x3E then some .O
  else if op = 0x3F then some .N
  else none

/-- OP, AREA, INDEX (also IMM and TARGET) and SLOT of an instruction word. -/
def lOp (w : Nat) : Nat := bits w 26 6
/-- AREA. -/
def lArea (w : Nat) : Nat := bits w 16 4
/-- INDEX, IMM or TARGET. -/
def lIdx (w : Nat) : Nat := bits w 0 16
/-- SLOT. -/
def lSlot (w : Nat) : Nat := bits w 0 10

/-- The bits a form does not name are 0. -/
def lRest (f : LForm) (w : Nat) : Bool :=
  match f with
  | .O => bits w 20 6 = 0
  | .K => bits w 16 10 = 0
  | .T => bits w 16 10 = 0
  | .S => bits w 10 16 = 0
  | .N => bits w 0 26 = 0

/-- The operation takes a bit operand rather than a word operand. -/
def lBitOp (op : Nat) : Bool := 0x01 ≤ op && op ≤ 0x0B

/-- The operation writes its operand. -/
def lWrites (op : Nat) : Bool := (0x08 ≤ op && op ≤ 0x0B) || op = 0x23 || op = 0x24

/-- An instruction word from its parts (R451). -/
def lEncode (op area idx : Nat) : Nat := op * 2 ^ 26 + area * 2 ^ 16 + idx

/-! ## Programs (R449) -/

/-- An instance entry: ID, SLOT, TYPE and PRESET. -/
structure LInst where
  id : Nat
  slot : Nat
  typ : Nat
  preset : Nat
  deriving DecidableEq, Repr

/-- Shared-SRAM address of bank b. -/
def State.lBank (s : State) (b : Nat) : Nat := sramBase + s.get (F.LOGIC_PROG_BASE_BASE b) * 4096

/-- The active bank. -/
def State.lActive (s : State) : Nat := s.get F.LOGIC_STAT_BANK

/-- NINSTR, NINST, NMW and NMB of a bank. -/
def State.lNinstr (s : State) (b : Nat) : Nat := s.rdN (s.lBank b + 4) 4
/-- NINST. -/
def State.lNinst (s : State) (b : Nat) : Nat := s.rdN (s.lBank b + 8) 2
/-- NMW. -/
def State.lNmw (s : State) (b : Nat) : Nat := s.rdN (s.lBank b + 10) 2
/-- NMB, in units of 32 bits. -/
def State.lNmb (s : State) (b : Nat) : Nat := s.rdN (s.lBank b + 12) 2
/-- PROG_ID. -/
def State.lProgId (s : State) (b : Nat) : Nat := s.rdN (s.lBank b + 16) 4

/-- Address of instruction i of a bank. -/
def State.lCode (s : State) (b i : Nat) : Nat := s.lBank b + 32 + 16 * s.lNinst b + 4 * i

/-- Instance entry i of a bank. -/
def State.lInst (s : State) (b i : Nat) : LInst :=
  let e := s.rdB (s.lBank b + 32 + 16 * i) 16
  { id := fieldLE e 0 2, slot := fieldLE e 2 2 % 1024, typ := fieldLE e 4 1, preset := fieldLE e 8 4 }

/-- The instance entries of a bank. -/
def State.lInsts (s : State) (b : Nat) : List LInst := (List.range (s.lNinst b)).map (s.lInst b)

/-- The instruction words of a bank. -/
def State.lProg (s : State) (b : Nat) : List Nat :=
  (List.range (s.lNinstr b)).map (fun i => s.rd32 (s.lCode b i))

/-- The classes of instances: timers, counters and edges. -/
inductive LClass
  | timer | counter | edge
  deriving DecidableEq, Repr

/-- The class of an instance TYPE; none for an undefined one. -/
def lClass (typ : Nat) : Option LClass :=
  if 1 ≤ typ && typ ≤ 3 then some .timer
  else if typ = 4 || typ = 5 then some .counter
  else if typ = 6 || typ = 7 then some .edge
  else none

/-- Slots of a class. -/
def LClass.size : LClass → Nat
  | .timer => 512 | .counter => 256 | .edge => 1024

/-- Image offset of a slot's record. -/
def LClass.record (c : LClass) (slot : Nat) : Nat :=
  match c with
  | .timer => 0x5400 + 32 * slot
  | .counter => 0x9400 + 16 * slot
  | .edge => 0xA400 + 4 * slot

/-! ## Validation (R450) -/

/-- Check 0x1: the header. -/
def State.lHdrBad (s : State) (b : Nat) : Bool :=
  let h := s.rdB (s.lBank b) 32
  fieldLE h 0 2 ≠ 1 || fieldLE h 2 2 ≠ 0 || fieldLE h 4 4 = 0 || fieldLE h 4 4 > 65536 ||
    fieldLE h 8 2 > 1792 || fieldLE h 10 2 > 4096 || fieldLE h 12 2 > 1024 || fieldLE h 14 2 ≠ 0 ||
    fieldLE h 24 8 ≠ 0

/-- Check 0x2: the CRC over the instance table and the code. -/
def State.lCrcBad (s : State) (b : Nat) : Bool :=
  crc32 (s.rdB (s.lBank b + 32) (16 * s.lNinst b + 4 * s.lNinstr b)) ≠ s.rdN (s.lBank b + 20) 4

/-- Check 0x3 of entry i. -/
def State.lInstBad (s : State) (b i : Nat) : Bool :=
  let e := s.rdB (s.lBank b + 32 + 16 * i) 16
  let x := s.lInst b i
  let before := (List.range i).map (s.lInst b)
  x.id = 0 || before.any (fun y => y.id = x.id) || fieldLE e 2 2 / 1024 ≠ 0 ||
    fieldLE e 5 3 ≠ 0 || fieldLE e 12 4 ≠ 0 ||
    (match lClass x.typ with
     | none => true
     | some c => decide (c.size ≤ x.slot) ||
        before.any (fun y => decide (lClass y.typ = some c ∧ y.slot = x.slot)))

/-- Check 0x4 of an instruction word. -/
def lOpBad (w : Nat) : Bool :=
  match lForm (lOp w) with
  | none => true
  | some f => !lRest f w

/-- Check 0x5: the operand of an O instruction. -/
def lOperandBad (nmw nmb w : Nat) : Bool :=
  if lForm (lOp w) = some .O then
    let a := lArea w
    let i := lIdx w
    if lBitOp (lOp w) then
      (lBitAt a i).isNone || (a = 2 && decide (32 * nmb ≤ i)) || (lWrites (lOp w) && !lBitWritable a)
    else
      (lWordAt a i).isNone || (a = 2 && decide (nmw ≤ i)) || (lWrites (lOp w) && !lWordWritable a)
  else false

/-- The instance TYPEs an S instruction accepts. -/
def lTypes (op : Nat) : List Nat :=
  match op with
  | 0x10 => [6] | 0x11 => [7] | 0x12 => [1] | 0x13 => [2] | 0x14 => [3] | 0x15 => [4]
  | 0x16 => [5] | 0x17 => [4, 5]
  | _ => []

/-- Check 0x6: the slot of an S instruction is declared with a TYPE it accepts. -/
def lSlotBad (insts : List LInst) (w : Nat) : Bool :=
  if lForm (lOp w) = some .S then
    !insts.any (fun x => x.slot = lSlot w && (lTypes (lOp w)).contains x.typ)
  else false

/-- Check 0x7: a jump target. -/
def lJumpBad (n w : Nat) : Bool := lForm (lOp w) = some .T && decide (n ≤ lIdx w)

/-- The first failure of a list of checks over numbered things. -/
def lFirst (code : Nat) (l : List Nat) (bad : Nat → Bool) : Option (Nat × Nat) :=
  (l.find? bad).map (fun i => (code, i))

/-- The first failure in the order of R450: code, and the offending instruction or entry. -/
def State.lValidate (s : State) (b : Nat) : Option (Nat × Nat) :=
  if s.lHdrBad b then some (1, 0)
  else if s.lCrcBad b then some (2, 0)
  else
    let prog := s.lProg b
    let insts := s.lInsts b
    let n := prog.length
    let r := List.range n
    (lFirst 3 (List.range insts.length) (s.lInstBad b)).or
      ((lFirst 4 r (fun i => lOpBad (nth prog 0 i))).or
      ((lFirst 5 r (fun i => lOperandBad (s.lNmw b) (s.lNmb b) (nth prog 0 i))).or
      ((lFirst 6 r (fun i => lSlotBad insts (nth prog 0 i))).or
      ((lFirst 7 r (fun i => lJumpBad n (nth prog 0 i))).or
      (if lOp (nth prog 0 (n - 1)) = 0x3B || lOp (nth prog 0 (n - 1)) = 0x38 then none
       else some (8, n - 1))))))

/-- A refused command (R463, R468). -/
def State.lReject (s : State) : State := s.flag F.LOGIC_FLAG_CMD_REJ

/-- VALIDATE: the check starts (R450). -/
def State.validate (s : State) : State :=
  ((s.set R.LOGIC_XCHK 0).flag F.LOGIC_XCHK_BUSY).set F.LOGIC_STAT_VALID 0

/-- The words of a program bank read through the error code: its header, then what the header
gives it (R363, R449). -/
def State.lBankRead (s : State) (b : Nat) : State :=
  let s := s.eccTouchIn (s.lBank b) 32 0x34
  s.eccTouchIn (s.lBank b + 32) (16 * s.lNinst b + 4 * s.lNinstr b) 0x34

/-- The check ends (R450). -/
def State.validateDone (s : State) : State :=
  if s.on F.LOGIC_XCHK_BUSY then
    let s := (s.set F.LOGIC_XCHK_BUSY 0).lBankRead (1 - s.lActive)
    match s.lValidate (1 - s.lActive) with
    | none => s.flag F.LOGIC_STAT_VALID
    | some (c, i) => (s.set F.LOGIC_XCHK_CODE c).set F.LOGIC_XCHK_INDEX i
  else s

/-! ## Restart contents (R465) -/

/-- Word 0 of a fresh instance: INIT and USED set, TYPE and ID (R446). -/
def LInst.word0 (x : LInst) : Nat :=
  match lClass x.typ with
  | some .edge => 6 + 8 * (x.typ - 6) + x.id * 2 ^ 16
  | _ => 12 + 16 * x.typ + x.id * 2 ^ 16

/-- The record of a fresh instance, as a cold start leaves it. -/
def LInst.fresh (x : LInst) : List Nat :=
  match lClass x.typ with
  | some .timer => [x.word0, x.preset, 0, 0, 0]
  | some .counter => [x.word0, x.preset, 0]
  | _ => [x.word0]

/-- The image offset of an instance's record. -/
def LInst.ofs (x : LInst) : Nat := ((lClass x.typ).getD .edge).record x.slot

/-- A record placed in its slot. -/
def State.lSetRecord (s : State) (x : LInst) (ws : List Nat) : State :=
  s.wrWords (logicBase + x.ofs) ws

/-- A cold start's data, %R aside. -/
def State.lColdData (s : State) : State :=
  (s.lInsts s.lActive).foldl (fun t x => t.lSetRecord x x.fresh) (s.lClear 0 0xB400)

/-! ## The retain store (R466, R467) -/

/-- k bytes of the store. -/
def State.retRd (s : State) (a k : Nat) : Bytes := (List.range k).map (fun i => sget s.logic.store 0 (a + i))

/-- Bytes put into a store. -/
def storePut (m : Sparse Byte) (a : Nat) : Bytes → Sparse Byte
  | [] => m
  | b :: r => storePut (sput m 0 a b) (a + 1) r

/-- Buffer b of the store is valid: both CRCs check. -/
def State.retValid (s : State) (b : Nat) : Bool :=
  let h := s.retRd (0x2000 * b + 0x1000) 16
  fieldLE h 12 4 = crc32 (h.take 12) && fieldLE h 8 4 = crc32 (s.retRd (0x2000 * b) 4096)

/-- SEQ of a buffer. -/
def State.retSeq (s : State) (b : Nat) : Nat := fieldLE (s.retRd (0x2000 * b + 0x1000) 16) 0 4

/-- The newest valid buffer (R467). -/
def State.retNewest (s : State) : Option Nat :=
  match s.retValid 0, s.retValid 1 with
  | false, false => none
  | true, false => some 0
  | false, true => some 1
  | true, true =>
    let d := (s.retSeq 1 + 2 ^ 32 - s.retSeq 0) % 2 ^ 32
    some (if d % 2 ^ 31 = 0 then (if Config.retainTie then 1 else 0)
      else if d < 2 ^ 31 then 1 else 0)

/-- LOGIC_RET_STAT brought up to date. -/
def State.retStat (s : State) : State :=
  let n := s.retNewest
  let s := s.set F.LOGIC_RET_STAT_VALID (b2n (s.retValid 0) + 2 * b2n (s.retValid 1))
  (s.set F.LOGIC_RET_STAT_BUF (n.getD 0)).set F.LOGIC_RET_STAT_SEQ ((n.map s.retSeq).getD 0 % 65536)

/-- The memory offset of cycle-end copy i. -/
def copyBase (i : Nat) : Nat := logicBase + 0x10000 * (1 + i % 2)

/-- A retention point at a cycle end (R466). -/
def State.retPoint (s : State) : State :=
  if s.on F.LOGIC_CFG_RET_EN then
    let n := s.logic.retCnt + 1
    if n ≥ max 1 (s.get F.LOGIC_RET_EVERY) then
      let s := s.lg (fun l => { l with retCnt := 0 })
      if s.on F.LOGIC_STAT_RET_BUSY then s.flag F.LOGIC_FLAG_RET_SKIP
      else
        let d := s.rdB (copyBase s.logic.copy + 0xC000) 4096
        let (b, q) := match s.retNewest with
          | some v => (1 - v, (s.retSeq v + 1) % 2 ^ 32)
          | none => (0, 1)
        let h := toLE 4 q ++ toLE 4 s.pidx32 ++ toLE 4 (crc32 d)
        let s := s.lg (fun l => { l with retPend := some (b, d, h ++ toLE 4 (crc32 h)) })
        s.flag F.LOGIC_STAT_RET_BUSY
    else s.lg (fun l => { l with retCnt := n })
  else s

/-- The write ends; `back` is the header as it reads back (R466). -/
def State.retDone (s : State) (back : Bytes) : State :=
  match s.logic.retPend with
  | none => s
  | some (b, d, h) =>
    let got := slice back 0 16
    let st := storePut (storePut s.logic.store (0x2000 * b) d) (0x2000 * b + 0x1000) got
    let s := s.lg (fun l => { l with retPend := none, store := st })
    let s := s.set F.LOGIC_STAT_RET_BUSY 0
    let s := if got = h then s.inc R.LOGIC_CNT_RET
      else (s.flag F.LOGIC_FLAG_RET_ERR).inc R.LOGIC_CNT_RETERR
    s.retStat

/-- A reset during a write: what the buffer being written then holds is not stated; the other
buffer stays valid (R467). -/
def State.retCut (s : State) : State :=
  match s.logic.retPend with
  | none => s
  | some (b, d, _) =>
    let (v0, s) := s.fresh
    let (v1, s) := s.fresh
    let st := storePut (storePut s.logic.store (0x2000 * b) d) (0x2000 * b + 0x1000)
      (toLE 4 v0 ++ toLE 12 v1)
    s.lg (fun l => { l with retPend := none, store := st })

/-- Bytes put into the engine's memory from a byte string. -/
def State.lPutB (s : State) (ofs : Nat) (b : Bytes) : State := s.wrB (logicBase + ofs) b

/-- A warm restart's %R: the on-chip copy, the newest valid buffer, or 0 with RET_LOST
(R467). -/
def State.retRestore (s : State) : State :=
  let s := s.retStat
  let c := copyBase s.logic.copy + 0xC000
  let s := s.eccTouchIn c 4096 0x34
  let bad := s.synd.any (fun p => decide (c / 4 ≤ p.1 ∧ p.1 < c / 4 + 1024))
  if !bad && crc32 (s.rdB c 4096) = sget s.logic.copyCrc 0 s.logic.copy then
    s.lPutB 0xC000 (s.rdB c 4096)
  else match s.retNewest with
    | some b => s.lPutB 0xC000 (s.retRd (0x2000 * b) 4096)
    | none =>
      let s := (s.lClear 0xC000 0xD000).flag F.LOGIC_FLAG_RET_LOST
      s.lg (fun l => { l with events := l.events ||| 2 ^ 10 })

/-- The data set at ARMED to RUN, and by a warm restart at a claim (R465). -/
def State.lRestart (s : State) (cold : Bool) : State :=
  let s := s.lColdData
  let s := if cold then s.lClear 0xC000 0xD000 else s.retRestore
  s.lg (fun l => { l with events := l.events ||| (4 + (if cold then 8 else 16)), skips := 0, prev := 0 })

/-! ## Exchange (R468) -/

/-- What a new entry's record holds, given the old instance of the same ID. -/
def LInst.migrate (x : LInst) (old : List (LInst × List Nat)) : List Nat :=
  match old.find? (fun o => o.1.id = x.id && o.1.typ = x.typ) with
  | none => x.fresh
  | some (_, ws) =>
    match lClass x.typ with
    | some .edge => [nth ws 0 0]
    | _ => nth ws 0 0 :: x.preset :: ws.drop 2

/-- Words of a record of an instance, as stored. -/
def State.lRecord (s : State) (x : LInst) : List Nat :=
  (List.range x.fresh.length).map (fun i => s.rd32 (logicBase + x.ofs + 4 * i))

/-- The force entries of the table normalised (R469): entry, image offset, mask, value. -/
def State.lForce (s : State) (f : Nat) : Option (Nat × Nat × Nat) :=
  let i := s.get (F.LOGIC_FRC_ADDR_INDEX f)
  let a := s.get (F.LOGIC_FRC_ADDR_AREA f)
  let v := s.word (R.LOGIC_FRC_VAL f)
  if s.on (F.LOGIC_FRC_ADDR_WORD f) then
    (if a = 0 || a = 1 || a = 2 || a = 8 then (lWordAt a i).map (fun o => (o, 0xFFFFFFFF, v)) else none)
  else if a = 5 then none
  else (lBitAt a i).map (fun ob => (ob.1, 2 ^ ob.2, if v % 2 = 1 then 2 ^ ob.2 else 0))

/-- The address of a force no longer exists in the active program (R470). -/
def State.forceGone (s : State) (f : Nat) : Bool :=
  let i := s.get (F.LOGIC_FRC_ADDR_INDEX f)
  let a := s.get (F.LOGIC_FRC_ADDR_AREA f)
  let insts := s.lInsts s.lActive
  if s.on (F.LOGIC_FRC_ADDR_WORD f) then a = 2 && decide (s.lNmw s.lActive ≤ i)
  else (a = 2 && decide (32 * s.lNmb s.lActive ≤ i)) ||
    (a = 3 && !insts.any (fun x => decide (lClass x.typ = some .timer ∧ x.slot = i))) ||
    (a = 4 && !insts.any (fun x => decide (lClass x.typ = some .counter ∧ x.slot = i)))

/-- The image bits that an instruction's operand names: offset and mask; an instance
instruction names the Q of its timer or counter. -/
def lNames (w : Nat) : Option (Nat × Nat) :=
  match lForm (lOp w) with
  | some .O =>
    if lBitOp (lOp w) then (lBitAt (lArea w) (lIdx w)).map (fun ob => (ob.1, 2 ^ ob.2))
    else (lWordAt (lArea w) (lIdx w)).map (fun o => (o, 0xFFFFFFFF))
  | some .S =>
    if 0x12 ≤ lOp w && lOp w ≤ 0x14 then some (0x5400 + 32 * lSlot w, 1)
    else if 0x15 ≤ lOp w then some (0x9400 + 16 * lSlot w, 1)
    else none
  | _ => none

/-- No operand of the active program names the address of a force, or what overlays it
(R470). -/
def State.forceOrphan (s : State) (prog : List Nat) (f : Nat) : Bool :=
  match s.lForce f with
  | none => true
  | some (o, m, _) => !prog.any (fun w =>
      match lNames w with
      | some (o', m') => decide (o' = o) && decide (m' &&& m ≠ 0)
      | none => false)

/-- Each enabled force entry judged against the active program (R470). -/
def State.forceJudge (s : State) : State :=
  let prog := s.lProg s.lActive
  (List.range 256).foldl (fun t f =>
    if t.on (F.LOGIC_FRC_ADDR_EN f) then
      if t.forceGone f then
        ((t.set (F.LOGIC_FRC_ADDR_EN f) 0).flag (F.LOGIC_FRC_ADDR_DROPPED f)).flag F.LOGIC_FLAG_FORCE_DROPPED
      else if t.forceOrphan prog f then
        (t.flag (F.LOGIC_FRC_ADDR_ORPHAN f)).flag F.LOGIC_FLAG_FORCE_ORPHAN
      else t.set (F.LOGIC_FRC_ADDR_ORPHAN f) 0
    else t) s

/-- The table as it is taken into effect at a cycle start: words before bits, each in
ascending entry order (R469). -/
def State.forceTake (s : State) : State :=
  let en := (List.range 256).filter (fun f => s.on (F.LOGIC_FRC_ADDR_EN f))
  let ws := en.filter (fun f => s.on (F.LOGIC_FRC_ADDR_WORD f))
  let bs := en.filter (fun f => !s.on (F.LOGIC_FRC_ADDR_WORD f))
  s.lg (fun l => { l with forces := (ws ++ bs).filterMap s.lForce })

/-- The forces written over the stored words they name, each of which is read first (R469,
R453). -/
def State.forceApply (s : State) : State :=
  s.logic.forces.foldl (fun t f =>
    match t.lRead (logicBase + f.1) with
    | (some d, t) => t.wr32 (logicBase + f.1) (t.lView f.1 d)
    | (none, t) => t) s

/-- The exchange itself (R468). -/
def State.exchangeNow (s : State) : State :=
  let s := ((s.lBankRead 0).lBankRead 1).eccTouchIn logicBase 0xB400 0x34
  let old := (s.lInsts s.lActive).map (fun x => (x, s.lRecord x))
  let s := (s.set F.LOGIC_STAT_BANK (1 - s.lActive)).set F.LOGIC_STAT_VALID 0
  let s := s.set F.LOGIC_STAT_XPEND 0
  let s := old.foldl (fun t o => t.wr32 (logicBase + o.1.ofs)
    (setBit (t.rd32 (logicBase + o.1.ofs)) (if lClass o.1.typ = some .edge then 2 else 3) false)) s
  let s := (s.lInsts s.lActive).foldl (fun t x => t.lSetRecord x (x.migrate old)) s
  let s := s.lg (fun l => { l with events := l.events ||| (4 + 64) })
  (s.forceJudge).inc R.LOGIC_CNT_XCHG

/-- EXCHANGE (R468). -/
def State.exchange (s : State) : State :=
  if s.on F.LOGIC_STAT_VALID && !s.on F.LOGIC_STAT_XPEND then
    (if s.lgst = .run then s.flag F.LOGIC_STAT_XPEND else s.exchangeNow)
  else s.lReject

/-! ## Starts and stops (R463) -/

/-- STOP or HALT to ARMED with the restart kind recorded. -/
def State.lArm (s : State) (cold : Bool) : State :=
  ((s.set F.LOGIC_STAT_HCAUSE 0).setLgst .armed).lg (fun l => { l with cold := cold })

/-- START_COLD or START_WARM (R463). -/
def State.lStart (s : State) (cold : Bool) : State :=
  if s.live && (s.lgst = .stop || s.lgst = .halt) then s.lArm cold else s.lReject

/-- STOP: waits for the end sequence of the current cycle (R463). -/
def State.lStop (s : State) : State :=
  if s.lgst = .run then s.flag F.LOGIC_STAT_STOP_PEND else s

/-- LOGIC_CMD code 0x6 (LOGIC counters). -/
def State.logicCntClr (s : State) : State :=
  s.zero [R.LOGIC_TEXEC_MAX, R.LOGIC_CNT_CYC, R.LOGIC_CNT_OVR, R.LOGIC_CNT_XCHG, R.LOGIC_CNT_RET,
    R.LOGIC_CNT_RETERR, R.LOGIC_CNT_ACCREJ, R.LOGIC_CNT_CANOK, R.LOGIC_CNT_CANERR]

/-- A write of LOGIC_CMD by the host, a core or a timed write. -/
def State.logicCmd (s : State) (cmd : Nat) : State :=
  match cmd with
  | 1 => s.lStart true
  | 2 => s.lStart false
  | 3 => s.lStop
  | 4 => s.validate
  | 5 => s.exchange
  | 6 => s.logicCntClr
  | _ => s.lReject

/-- Entry to READY with AUTO set: warm after a noon start, cold after a dawn start (R463). -/
def State.logicReady (s : State) : State :=
  if s.on F.LOGIC_CFG_AUTO && (s.lgst = .stop || s.lgst = .halt) then
    s.lArm (s.get F.DEV_START_KIND = 0)
  else s

/-- Entry to CONFIG (R463). -/
def State.logicConfig (s : State) : State := s.setLgst .stop

/-- Entry to SAFE_HOLD (R463, R26). -/
def State.logicSafeHold (s : State) : State := s.lHalt 4

/-- The role becomes NIGHTWATCH or LEAVING (R463). -/
def State.logicAway (s : State) : State := if s.lgst = .run then s.setLgst .hold else s

/-- A capture applied in NIGHTWATCH takes STOP or ARMED to HOLD (R463). -/
def State.logicHold (s : State) : State :=
  if s.lgst = .stop || s.lgst = .armed then s.setLgst .hold else s

/-- The %Q that the live image holds, as one number. -/
def State.lQ (s : State) : Nat := leNat (s.rdB (logicBase + 0x200) 512)

/-- Bytes of an image that a capture brought: KIND 0x4 from offset 0, KIND 0x5 from offset
0xC000 (R465). The retained image also becomes the on-chip source of a warm restart. -/
def State.lCaptured (s : State) (kind ofs : Nat) (b : Bytes) : State :=
  if s.lgst = .hold || s.lgst = .halt then
    (if kind = 4 then
      let s := s.lPutB ofs b
      s.lg (fun l => { l with qPub := s.lQ })
    else
      let s := (s.lPutB (0xC000 + ofs) b).wrB (copyBase s.logic.copy + 0xC000 + ofs) b
      let c := crc32 (s.rdB (copyBase s.logic.copy + 0xC000) 4096)
      s.lg (fun l => { l with copyCrc := sput l.copyCrc 0 l.copy c }))
  else s

/-- Bytes of an image for a capture: from the cycle-end copy of the last ended cycle (R465). -/
def State.lForCapture (s : State) (kind ofs k : Nat) : Bytes :=
  s.rdB (copyBase s.logic.copy + (if kind = 4 then 0 else 0xC000) + ofs) k

/-! ## The memory port (R448) -/

/-- The offset advances after an access with INC set. -/
def State.lPortNext (s : State) (org : Nat) : State :=
  if s.on (F.LOGIC_MEM_ADDR_INC.of org) then
    s.set (F.LOGIC_MEM_ADDR_WORD.of org) ((s.get (F.LOGIC_MEM_ADDR_WORD.of org) + 1) % 2 ^ 14)
  else s

/-- A read of LOGIC_MEM_DATA by an origin: the word, and whether it is bad; a poisoned word writes a
fault record (R365). -/
def State.lPortRead (s : State) (org : Nat) : Nat × Bool × State :=
  let a := 4 * s.get (F.LOGIC_MEM_ADDR_WORD.of org)
  if a < 0xD000 then
    let (d, bad, s) := s.eccRdF (logicBase + a) 0x38
    (d, bad, s.lPortNext org)
  else
    let (v, s) := s.fresh
    (v % 2 ^ 32, false, s.lPortNext org)

/-- A write of LOGIC_MEM_DATA by an origin. -/
def State.lPortWrite (s : State) (org v : Nat) : State :=
  let a := 4 * s.get (F.LOGIC_MEM_ADDR_WORD.of org)
  let s := if 0xB400 ≤ a && a ≤ 0xB4FF then s.flag F.LOGIC_FLAG_MEM_WDISC
    else if a < 0xD000 then s.wr32 (logicBase + a) v
    else s
  s.lPortNext org

/-! ## Instructions (R451) -/

/-- An instruction with operation code `op` that takes `n` logic clocks: fetched from the
active program at pc, and run if the word there carries that code (R444, R453). -/
def State.lInstr (s : State) (op n : Nat) (f : Nat → State → State) : State :=
  if s.lgst = .run && s.logic.inCycle then
    match s.lRead (s.lCode s.lActive s.logic.pc) with
    | (none, s) => s
    | (some w, s') =>
      if lOp w = op then
        f w (s'.lg (fun l => { l with pc := l.pc + 1, clocks := l.clocks + n }))
      else s
  else s

/-- LA set. -/
def State.setLa (s : State) (b : Bool) : State := s.lg (fun l => { l with la := b })

/-- ACC set, modulo 2^32. -/
def State.setAcc (s : State) (v : Nat) : State := s.lg (fun l => { l with acc := v % 2 ^ 32 })

/-- A bit operand read, its value put into LA by a function of LA and the bit. -/
def State.lBitRd (s : State) (w : Nat) (f : Bool → Bool → Bool) : State :=
  match lBitAt (lArea w) (lIdx w) with
  | none => let (v, s) := s.fresh; s.setLa (f s.logic.la (v % 2 = 1))
  | some (o, b) =>
    match s.lWord o with
    | (none, s) => s
    | (some d, s) => s.setLa (f s.logic.la (d.testBit b))

/-- A bit operand written. -/
def State.lBitWr (s : State) (w : Nat) (v : Bool) : State :=
  match lBitAt (lArea w) (lIdx w) with
  | none => s
  | some (o, b) => if lBitWritable (lArea w) then s.lPutBits o b 1 (b2n v) else s

/-- A word operand read into an action. -/
def State.lWordRd (s : State) (w : Nat) (f : Nat → State → State) : State :=
  match lWordAt (lArea w) (lIdx w) with
  | none => let (v, s) := s.fresh; f (v % 2 ^ 32) s
  | some o =>
    match s.lWord o with
    | (none, s) => s
    | (some d, s) => f d s

/-- A word operand written. -/
def State.lWordWr (s : State) (w v : Nat) : State :=
  match lWordAt (lArea w) (lIdx w) with
  | none => s
  | some o => if lWordWritable (lArea w) then s.lPut o v else s

/-- ACC := ACC op w (R451). -/
def State.lAcc (s : State) (w : Nat) (f : Nat → Nat → Nat) : State :=
  s.lWordRd w (fun d t => t.setAcc (f t.logic.acc d))

/-- PUSHA and PUSHO: push (LA, op); LA := 1 for and, 0 for or; a 17th push halts (R453). -/
def State.lPush (s : State) (isAnd : Bool) : State :=
  if s.logic.stack.length ≥ 16 then s.lStack
  else s.lg (fun l => { l with stack := (l.la, isAnd) :: l.stack, la := isAnd })

/-- POP: LA := r op LA; an empty stack halts (R453). -/
def State.lPop (s : State) : State :=
  match s.logic.stack with
  | [] => s.lStack
  | (r, isAnd) :: t =>
    s.lg (fun l => { l with stack := t, la := if isAnd then r && l.la else r || l.la })

/-- Tc in station nanoseconds (R456). -/
def State.tcNs (s : State) : Nat := s.get F.LOGIC_CFG_MULT * s.P

/-- advance(ns) of the pseudocode: ET and REM. -/
def tAdvance (et pt ns : Nat) : Nat × Nat :=
  let e := min (et + ns / 1000) pt
  (e, if e = pt then 0 else ns % 1000)

/-- A timer's evaluation (R454): kind 1 TON, 2 TOF, 3 TP; Q, PIN, ET, PT and the time since
its last evaluation give Q, ET and REM. -/
def timerEval (kind : Nat) (x q pin : Bool) (pt et rem ns : Nat) : Bool × Nat × Nat :=
  match kind with
  | 1 =>
    let (e, r) := if x && pin then tAdvance et pt ns else if !x then (0, 0) else (et, rem)
    (x && decide (pt ≤ e), e, r)
  | 2 =>
    if x then (true, 0, 0)
    else if pin then (decide (0 < pt), 0, 0)
    else if q then
      let (e, r) := tAdvance et pt ns
      (decide (e < pt), e, r)
    else (q, et, rem)
  | _ =>
    if q then
      let (e, r) := tAdvance et pt ns
      (decide (e < pt), e, r)
    else if x && !pin then (decide (0 < pt), 0, 0)
    else if !x then (q, 0, 0)
    else (q, et, rem)

/-- TON, TOF and TP on a slot (R454, R455). -/
def State.lTimer (s : State) (w kind : Nat) : State :=
  let o := LClass.timer.record (lSlot w % 512)
  match s.lWords o 5 with
  | (some [w0, pt, et, last, rem], s) =>
    let x := s.logic.la
    let init := bit w0 2
    let pin := if init then x else bit w0 1
    let last := if init then s.logic.k else last
    let rem := if init then 0 else rem
    let ns := rem + s.tcNs * ((s.logic.k + 2 ^ 32 - last) % 2 ^ 32)
    let (q, et, rem) := timerEval kind x (bit w0 0) pin pt et rem ns
    let w0 := setBit (setBit (setBit w0 0 q) 1 x) 2 false
    let s := s.lPut o w0
    let s := (s.lPut (o + 8) et).lPut (o + 12) s.logic.k
    let s := s.lPut (o + 16) rem
    s.setLa (bit (s.lView o w0) 0)
  | (_, s) => s

/-- CTU (up) and CTD on a slot (R454, R455). -/
def State.lCounter (s : State) (w : Nat) (up : Bool) : State :=
  let o := LClass.counter.record (lSlot w % 256)
  match s.lWords o 3 with
  | (some [w0, pv, cv], s) =>
    let x := s.logic.la
    let cm := if bit w0 2 then x else bit w0 1
    let c := sx 32 cv
    let c := if x && !cm then (if up then min (c + 1) (2 ^ 31 - 1) else max (c - 1) (-(2 ^ 31))) else c
    let q := if up then decide (sx 32 pv ≤ c) else decide (c ≤ 0)
    let w0 := setBit (setBit (setBit w0 0 q) 1 x) 2 false
    let s := (s.lPut o w0).lPut (o + 8) (us 32 c)
    s.setLa (bit (s.lView o w0) 0)
  | (_, s) => s

/-- RE and FE on a slot (R454, R455). -/
def State.lEdge (s : State) (w : Nat) (falling : Bool) : State :=
  let o := LClass.edge.record (lSlot w)
  match s.lWord o with
  | (some w0, s) =>
    let x := s.logic.la
    let m := bit w0 0
    let la := if bit w0 1 then false else if falling then m && !x else x && !m
    (s.lPut o (setBit (setBit w0 0 x) 1 false)).setLa la
  | (none, s) => s

/-- CRST on a slot: the counter's own TYPE says which way (R451). -/
def State.lCrst (s : State) (w : Nat) : State :=
  let o := LClass.counter.record (lSlot w % 256)
  if s.logic.la then
    match s.lWords o 2 with
    | (some [w0, pv], s) => s.lPut (o + 8) (if bits w0 4 3 = 5 then pv else 0)
    | (_, s) => s
  else s

/-- A jump to TARGET; a taken one costs 12 clocks in all (R451). -/
def State.lJump (s : State) (w : Nat) (taken : Bool) : State :=
  if taken then s.lg (fun l => { l with pc := lIdx w, clocks := l.clocks + 11 }) else s

/-- The copy of the images at a cycle end, with the CRC of the retained one (R461). The
engine state in it is the one the end sequence leaves. -/
def State.lEndCopy (s : State) : State :=
  let c := 1 - s.logic.copy % 2
  let (bad, s) := s.lScan logicBase 0xD000
  if bad then s
  else
    let s := ({ s with mem := memCopy s.mem logicBase (copyBase c) 0xD000 }).freshCode (copyBase c) 0xD000
    let s := s.wr32 (copyBase c + 0xB444)
      (if s.on F.LOGIC_STAT_STOP_PEND then LogState.stop.code else LogState.run.code)
    let r := crc32 (s.rdB (logicBase + 0xC000) 4096)
    let mine := s.pair.dirty.filter (fun g => decide (logicBase / 64 ≤ g))
    let s := { s with pair := { s.pair with
      dirty := s.pair.dirty.filter (fun g => decide (g < logicBase / 64)),
      dirtyLg := (mine.filter (fun g => !s.pair.dirtyLg.contains g)) ++ s.pair.dirtyLg } }
    s.lg (fun l => { l with copy := c, copyCrc := sput l.copyCrc 0 c r })

/-- END and the end sequence (R453, R461). -/
def State.lEnd (s : State) : State :=
  if s.logic.stack ≠ [] then s.lStack
  else
    let n := s.logic.clocks
    let s := s.set R.LOGIC_TEXEC_LAST (min n (2 ^ 32 - 1))
    let s := s.set R.LOGIC_TEXEC_MAX (max (s.word R.LOGIC_TEXEC_MAX) (min n (2 ^ 32 - 1)))
    let s := s.lEndCopy
    if s.lgst ≠ .run then s
    else
      let s := s.lg (fun l => { l with prev := min n (2 ^ 32 - 1), inCycle := false })
      let s := s.retPoint
      let s := s.when (s.on F.LOGIC_STAT_XPEND) State.exchangeNow
      s.when (s.on F.LOGIC_STAT_STOP_PEND) (·.setLgst .stop)

/-! ## Checks at GO_READY (R456) -/

/-- Bytes of a program bank (R449). -/
def bankSize : Nat := 294912

/-- The logic engine's check at GO_READY against the areas of R368: the code for LOGIC_CHK. -/
def State.logicCheck (s : State) (areas : List (Nat × Nat × Nat)) : Option Nat :=
  let b0 := s.lBank 0
  let b1 := s.lBank 1
  let out := fun b => decide (sramBase + sramSize < b + bankSize)
  let hit := fun b => areas.any (fun a => overlap b bankSize (sramBase + a.2.1) a.2.2)
  if s.tcNs < 100000 || s.tcNs > 1000000000 then some 1
  else if s.get F.LOGIC_CFG_MULT ≤ s.get F.LOGIC_PHASE_PHASE then some 2
  else if out b0 || out b1 || overlap b0 bankSize b1 bankSize || hit b0 || hit b1 then some 3
  else none

end Sys2Proof.Machine
end

