-- ==== Sys2Proof/Machine/Float.lean ====
section
/-! DEFINITION. IEEE 754-2019 binary32 as R252, R253 and R299 ask for it, on bit patterns:
correctly rounded operations in the four modes of FPCSR.RM, and their flags. -/

namespace Sys2Proof.Machine

open Sys2Proof

/-- A binary32 value; a finite one is (-1)^s · m · 2^e. -/
inductive Fp
  | nan (signalling : Bool)
  | inf (s : Bool)
  | fin (s : Bool) (m : Nat) (e : Int)
  deriving DecidableEq, Repr

/-- Flags of an operation, as bits: NX 1, UF 2, OF 4, DZ 8, NV 16. -/
abbrev FFlags := Nat

/-- The quiet NaN that every NaN result is (R252). -/
def qNaN : Nat := 0x7FC00000

/-- The sign bit as a number. -/
def fSign (s : Bool) : Nat := if s then 0x80000000 else 0

/-- A bit pattern read; with `ftz` a subnormal counts as a zero of its sign (R252). -/
def fdec (ftz : Bool) (w : Nat) : Fp :=
  let s := bit w 31
  let e := bits w 23 8
  let f := bits w 0 23
  if e = 255 then (if f = 0 then .inf s else .nan (!bit f 22))
  else if e = 0 then (if ftz then .fin s 0 (-149) else .fin s f (-149))
  else .fin s (f + 2 ^ 23) ((e : Int) - 150)

/-- The number is a signalling NaN. -/
def Fp.snan : Fp → Bool
  | .nan b => b
  | _ => false

/-- The number is a NaN. -/
def Fp.isNan : Fp → Bool
  | .nan _ => true
  | _ => false

/-- Whether a magnitude with `kept` below the cut, remainder `r` of 2^sh, rounds up in mode rm
for sign s (FPCSR.RM). -/
def roundUp (rm : Nat) (s : Bool) (kept r sh : Nat) : Bool :=
  let half := 2 ^ (sh - 1)
  if r = 0 then false
  else match rm with
    | 0 => decide (r > half) || (decide (r = half) && decide (kept % 2 = 1))
    | 1 => false
    | 2 => !s
    | _ => s

/-- The magnitude m · 2^e, m > 0, cut at the unit 2^q and rounded: the count of units and
whether it is inexact. -/
def cutAt (rm : Nat) (s : Bool) (m : Nat) (e q : Int) : Nat × Bool :=
  if e ≥ q then (m * 2 ^ (e - q).toNat, false)
  else
    let sh := (q - e).toNat
    let kept := m / 2 ^ sh
    let r := m % 2 ^ sh
    (if roundUp rm s kept r sh then kept + 1 else kept, decide (r ≠ 0))

/-- (-1)^s · m · 2^e rounded to binary32 (R252): the pattern and its flags. -/
def fround (rm : Nat) (ftz s : Bool) (m : Nat) (e : Int) : Nat × FFlags :=
  if m = 0 then (fSign s, 0)
  else
    let top := e + (Nat.log2 m : Int)
    let q := if top - 23 < -149 then -149 else top - 23
    let (k, nx) := cutAt rm s m e q
    let w := ((q + 149) * 2 ^ 23 + (k : Int)).toNat
    if w ≥ 0x7F800000 then
      let toInf := rm = 0 || (rm = 2 && !s) || (rm = 3 && s)
      (fSign s + (if toInf then 0x7F800000 else 0x7F7FFFFF), 5)
    else
      let free := (cutAt rm s m e (top - 23)).1
      let tiny := if Config.tinyAfter then
          decide ((free : Int) * 2 ^ (top - 23 + 300).toNat < 2 ^ (-126 + 300 : Int).toNat)
        else decide (top < -126)
      if ftz && w < 2 ^ 23 && w ≠ 0 then (fSign s, 3)
      else (fSign s + w, (if nx then 1 else 0) + (if nx && tiny then 2 else 0))

/-- A NaN result with NV where it is invalid or an input signals. -/
def fnan (nv : Bool) : Nat × FFlags := (qNaN, if nv then 16 else 0)

/-- Signed integer of a finite value at a common exponent. -/
def fscaled (s : Bool) (m : Nat) (e q : Int) : Int :=
  let v : Int := (m : Int) * 2 ^ (e - q).toNat
  if s then -v else v

/-- The sum of two finite values, rounded once; an exact zero of opposite signs is +0, and −0
toward −∞. -/
def faddFin (rm : Nat) (ftz : Bool) (s1 : Bool) (m1 : Nat) (e1 : Int) (s2 : Bool) (m2 : Nat)
    (e2 : Int) : Nat × FFlags :=
  let q := if e1 < e2 then e1 else e2
  let v := fscaled s1 m1 e1 q + fscaled s2 m2 e2 q
  if v = 0 then
    (fSign (if s1 = s2 then s1 else decide (rm = 3)), 0)
  else fround rm ftz (decide (v < 0)) v.natAbs q

/-- FADD (R252). -/
def fadd (rm : Nat) (ftz : Bool) (a b : Nat) : Nat × FFlags :=
  let x := fdec ftz a
  let y := fdec ftz b
  match x, y with
  | .nan p, .nan q => fnan (p || q)
  | .nan p, _ => fnan p
  | _, .nan q => fnan q
  | .inf s, .inf t => if s = t then (fSign s + 0x7F800000, 0) else fnan true
  | .inf s, _ => (fSign s + 0x7F800000, 0)
  | _, .inf t => (fSign t + 0x7F800000, 0)
  | .fin s m e, .fin t n f => faddFin rm ftz s m e t n f

/-- FNEG: the sign bit inverted (R238). -/
def fneg (a : Nat) : Nat := a ^^^ 0x80000000

/-- FABS: the sign bit cleared (R238). -/
def fabs (a : Nat) : Nat := a % 2 ^ 31

/-- FSUB; a NaN keeps its kind under the change of sign. -/
def fsub (rm : Nat) (ftz : Bool) (a b : Nat) : Nat × FFlags := fadd rm ftz a (fneg b)

/-- FMUL (R252). -/
def fmul (rm : Nat) (ftz : Bool) (a b : Nat) : Nat × FFlags :=
  match fdec ftz a, fdec ftz b with
  | .nan p, .nan q => fnan (p || q)
  | .nan p, _ => fnan p
  | _, .nan q => fnan q
  | .inf s, .inf t => (fSign (s != t) + 0x7F800000, 0)
  | .inf s, .fin t n _ => if n = 0 then fnan true else (fSign (s != t) + 0x7F800000, 0)
  | .fin s m _, .inf t => if m = 0 then fnan true else (fSign (s != t) + 0x7F800000, 0)
  | .fin s m e, .fin t n f => fround rm ftz (s != t) (m * n) (e + f)

/-- FMA: one rounding of a × b + c (R252). -/
def ffma (rm : Nat) (ftz : Bool) (a b c : Nat) : Nat × FFlags :=
  let x := fdec ftz a
  let y := fdec ftz b
  let z := fdec ftz c
  let sig := x.snan || y.snan || z.snan
  let infZero := match x, y with
    | .inf _, .fin _ n _ => decide (n = 0)
    | .fin _ m _, .inf _ => decide (m = 0)
    | _, _ => false
  if infZero then fnan (if z.isNan then sig || Config.fmaQuietNv else true)
  else if x.isNan || y.isNan || z.isNan then fnan sig
  else match x, y, z with
    | .fin s m e, .fin t n f, .fin u k g =>
      if m * n = 0 && k = 0 then
        (fSign (if (s != t) = u then u else decide (rm = 3)), 0)
      else faddFin rm ftz (s != t) (m * n) (e + f) u k g
    | .fin _ _ _, .fin _ _ _, .inf u => (fSign u + 0x7F800000, 0)
    | p, r, w =>
      let s := match p with | .inf s => s | .fin s _ _ => s | .nan _ => false
      let t := match r with | .inf s => s | .fin s _ _ => s | .nan _ => false
      match w with
      | .inf u => if (s != t) = u then (fSign u + 0x7F800000, 0) else fnan true
      | _ => (fSign (s != t) + 0x7F800000, 0)

/-- FDIV (R252). The quotient carries 64 bits below its unit, and one more that says that a
remainder is left. -/
def fdiv (rm : Nat) (ftz : Bool) (a b : Nat) : Nat × FFlags :=
  match fdec ftz a, fdec ftz b with
  | .nan p, .nan q => fnan (p || q)
  | .nan p, _ => fnan p
  | _, .nan q => fnan q
  | .inf _, .inf _ => fnan true
  | .inf s, .fin t _ _ => (fSign (s != t) + 0x7F800000, 0)
  | .fin s _ _, .inf t => (fSign (s != t), 0)
  | .fin s m e, .fin t n f =>
    if n = 0 then (if m = 0 then fnan true else (fSign (s != t) + 0x7F800000, 8))
    else
      let x := m * 2 ^ 64
      fround rm ftz (s != t) (2 * (x / n) + (if x % n = 0 then 0 else 1)) (e - f - 65)

/-- The whole square root of a number below 2^128, by its bits from the highest. -/
def isqrt (n : Nat) : Nat :=
  (List.range 64).foldl (fun r k =>
    let t := r + 2 ^ (63 - k)
    if t * t ≤ n then t else r) 0

/-- FSQRT (R252). -/
def fsqrt (rm : Nat) (ftz : Bool) (a : Nat) : Nat × FFlags :=
  match fdec ftz a with
  | .nan p => fnan p
  | .inf s => if s then fnan true else (0x7F800000, 0)
  | .fin s m e =>
    if m = 0 then (fSign s, 0)
    else if s then fnan true
    else
      let odd := decide (e % 2 ≠ 0)
      let m' := (if odd then 2 * m else m) * 2 ^ 64
      let e' := (if odd then e - 1 else e) - 64
      let r := isqrt m'
      fround rm ftz false (2 * r + (if r * r = m' then 0 else 1)) (e' / 2 - 1)

/-- The value as a signed integer scaled by 2^149: exact for every finite value. -/
def Fp.big : Fp → Int
  | .fin s m e => fscaled s m e (-149)
  | _ => 0

/-- x < y for values that are not NaN; −0 and +0 are equal. -/
def Fp.lt (x y : Fp) : Bool :=
  match x, y with
  | .inf s, .inf t => s && !t
  | .inf s, _ => s
  | _, .inf t => !t
  | _, _ => decide (x.big < y.big)

/-- x = y for values that are not NaN. -/
def Fp.eqv (x y : Fp) : Bool := !x.lt y && !y.lt x

/-- The pattern an operand counts as under FTZ (R252). -/
def fflush (ftz : Bool) (a : Nat) : Nat :=
  if ftz && bits a 23 8 = 0 then a / 2 ^ 31 * 2 ^ 31 else a

/-- FMIN (`max` false) and FMAX: minimumNumber and maximumNumber (R253). -/
def fminmax (max ftz : Bool) (a b : Nat) : Nat × FFlags :=
  let x := fdec ftz a
  let y := fdec ftz b
  let fl := if x.snan || y.snan then 16 else 0
  let a := fflush ftz a
  let b := fflush ftz b
  if x.isNan then (if y.isNan then qNaN else b, fl)
  else if y.isNan then (a, fl)
  else
    let first := if x.eqv y then (if max then !bit a 31 else bit a 31)
      else if max then y.lt x else x.lt y
    (if first then a else b, fl)

/-- FCMP: less, equal, greater, unordered, and NV (R253). -/
def fcmp (ftz : Bool) (a b : Nat) : Bool × Bool × Bool × Bool × FFlags :=
  let x := fdec ftz a
  let y := fdec ftz b
  let fl := if x.snan || y.snan then 16 else 0
  if x.isNan || y.isNan then (false, false, false, true, fl)
  else (x.lt y, x.eqv y, y.lt x, false, fl)

/-- FCVTI: a signed integer to binary32 (R252). -/
def fcvti (rm : Nat) (i : Int) : Nat × FFlags := fround rm false (decide (i < 0)) i.natAbs 0

/-- A finite value rounded to an integer in mode rm, and whether that is inexact. -/
def fint (rm : Nat) (s : Bool) (m : Nat) (e : Int) : Int × Bool :=
  let (k, nx) := cutAt rm s m e 0
  (if s then -(k : Int) else k, nx)

/-- Binary32 to an integer of given bounds, saturating; the flags are those of FCVTF (R253). -/
def fcvtf (rm : Nat) (ftz : Bool) (lo hi : Int) (a : Nat) : Int × FFlags :=
  match fdec ftz a with
  | .nan _ => (0, 16)
  | .inf s => (if s then lo else hi, 16)
  | .fin s m e =>
    let (v, nx) := fint rm s m e
    if v < lo then (lo, 16) else if v > hi then (hi, 16) else (v, if nx then 1 else 0)

/-- The value is a NaN or an infinity (R306). -/
def fbad (a : Nat) : Bool := bits a 23 8 = 255

end Sys2Proof.Machine
end

