-- ==== Sys2Proof/Machine/Ceng.lean ====
section
/-! DEFINITION. The control engine: inputs (R300 to R302), gain table (R303), the law (R304 to
R306), latches (R307, R55), the relay auto-tune (R311 to R318) and the slot check (R309). -/

namespace Sys2Proof.Machine

open Sys2Proof

/-! ## Binary32 with rounding to nearest even (R299) -/

/-- a + b. -/
def eadd (a b : Nat) : Nat := (fadd 0 false a b).1
/-- a - b. -/
def esub (a b : Nat) : Nat := (fsub 0 false a b).1
/-- a × b. -/
def emul (a b : Nat) : Nat := (fmul 0 false a b).1
/-- a / b. -/
def ediv (a b : Nat) : Nat := (fdiv 0 false a b).1
/-- An integer as binary32. -/
def eint (i : Int) : Nat := (fcvti 0 i).1
/-- a < b. -/
def elt (a b : Nat) : Bool := (fcmp false a b).1
/-- a ≤ b. -/
def ele (a b : Nat) : Bool := elt a b || (fcmp false a b).2.1
/-- min(max(v, lo), hi) (R304). -/
def eclamp (lo hi v : Nat) : Nat := (fminmax false false (fminmax true false v lo).1 hi).1
/-- |a|. -/
def eabs (a : Nat) : Nat := fabs a
/-- 1.0. -/
def eOne : Nat := 0x3F800000
/-- -1.0. -/
def eMinusOne : Nat := 0xBF800000

/-! ## Slots -/

/-- The hidden state of slot k. -/
def State.slot (s : State) (k : Nat) : SlotS := sget s.ceng.slots {} k

/-- The hidden state of slot k replaced. -/
def State.setSlot (s : State) (k : Nat) (x : SlotS) : State :=
  { s with ceng := { s.ceng with slots := sput s.ceng.slots {} k x } }

/-- MODE of slot k: 0 OFF, 1 AUTO, 2 MANUAL, 3 TUNE. -/
def State.slotMode (s : State) (k : Nat) : Nat := s.get (F.CENG_MODE_MODE k)

/-- The destination type of slot k. -/
def State.slotDst (s : State) (k : Nat) : Nat := s.get (F.CENG_SLOT_CFG_DTYPE k)

/-- Slot k is enabled in group g and not OFF (R297, R305). -/
def State.slotIn (s : State) (g k : Nat) : Bool :=
  s.on (F.CENG_SLOT_CFG_EN k) && s.get (F.CENG_SLOT_CFG_GROUP k) = g && s.slotMode k ≠ 0

/-- The engine evaluates at all: READY or RUN, ACTIVE or ALONE (R297). -/
def State.cengOn (s : State) : Bool := s.live && s.holder

/-! ## Inputs -/

/-- One input of slot k from its type, format, index, word offset and scale (R300 to R302,
R376): the value, or none for a bad source. -/
def State.slotSrc (s : State) (type fmt index word scl : Nat) : Option Nat × State :=
  match type with
  | 0 => (some scl, s)
  | 1 =>
    if index < 8 && s.on (F.ADC_DATA_VALID index) && !s.on (F.ADC_DATA_OVR index) &&
        !s.on (F.ADC_DATA_REF_UNSETTLED index) then
      (some (emul (eint (sx 16 (s.get (F.ADC_DATA_SAMPLE index)))) scl), s)
    else (none, s)
  | 2 =>
    let (d, bad, s) := s.eccRd (sramBase + 4 * word) 0x32
    if bad then (none, s)
    else (some (emul (if fmt = 1 then d else eint (sx 32 d)) scl), s)
  | _ => (some (emul (s.get (R.CENG_OUT index)) scl), s)

/-- Input j of slot k (0 REF, 1 MEAS, 2 FF): its value, whether its source is bad, and the
state; a bad source gives the last good value (R301). -/
def State.slotInput (s : State) (k j : Nat) : Nat × Bool × State :=
  let (w, scl) := match j with
    | 0 => (s.word (R.CENG_SRC_REF k), s.get (R.CENG_SCL_REF k))
    | 1 => (s.word (R.CENG_SRC_MEAS k), s.get (R.CENG_SCL_MEAS k))
    | _ => (s.word (R.CENG_SRC_FF k), s.get (R.CENG_SCL_FF k))
  match s.slotSrc (bits w 0 2) (bits w 2 1) (bits w 3 5) (bits w 10 22) scl with
  | (some v, s) =>
    (v, false, s.setSlot k { s.slot k with good := setNth (s.slot k).good j v })
  | (none, s) => (nth (s.slot k).good 0 j, true, s.flag (F.CENG_SSTAT_SRC_BAD k))

/-- The gain multiplier of slot k at error e (R303), and GT_BAD. -/
def State.slotGain (s : State) (k e : Nat) : Nat × Bool :=
  if !s.on (F.CENG_MODE_GT_EN k) then (eOne, false)
  else
    let emin := s.get (R.CENG_GT_EMIN k)
    let step := s.get (R.CENG_GT_ESTEP k)
    if fbad emin || fbad step || !elt 0 step then (eOne, true)
    else
      let x := ediv (esub e emin) step
      if ele x 0 then (s.get (R.CENG_GTAB k 0), false)
      else if ele (eint 64) x then (s.get (R.CENG_GTAB k 64), false)
      else if fbad x then (x, false)
      else
        let i := (fcvtf 1 false 0 63 x).1.toNat
        let lo := s.get (R.CENG_GTAB k i)
        (eadd lo (emul (esub x (eint i)) (esub (s.get (R.CENG_GTAB k (i + 1))) lo)), false)

/-! ## Latches -/

/-- u in the format of slot k's destination, and DCONV (R307, R308): a clamp or a bit outside
DMASK; rounding a fraction away is no loss (notes/assumptions/15.md). -/
def State.slotConv (s : State) (k u : Nat) : Nat × Bool :=
  match s.slotDst k with
  | 1 =>
    let dq : Int := match fdec false u with
      | .fin sg m e => (fint 0 sg m (e + 4)).1
      | _ => 0
    let v := (clampI 0 0xFFFFF dq).toNat
    (v, decide ((v : Int) ≠ dq))
  | 2 =>
    if s.on (F.CENG_SLOT_CFG_DFMT k) then (u, false)
    else
      let (i, fl) := fcvtf 0 false (-2147483648) 2147483647 u
      (us 32 i, decide (fl ≥ 16))
  | 3 =>
    let (i, fl) := fcvtf 0 false (-2147483648) 2147483647 u
    let v := us 32 i
    (v, decide (fl ≥ 16) || decide (v &&& (s.get (R.CENG_DMASK k) ^^^ 0xFFFFFFFF) ≠ 0))
  | _ => (u, false)

/-- u placed in slot k's latch (R307). -/
def State.slotPlace (s : State) (k u : Nat) : State :=
  let (v, loss) := s.slotConv k u
  (s.when loss (·.flag (F.CENG_SSTAT_DCONV k))).setSlot k
    { s.slot k with latch := some v, held := u }

/-- The value that slot k's latch moves now, if one does; a slot whose evaluation is due and
not done is LATE and moves its previous value (R46, R55, R305). -/
def State.slotMove (s : State) (k : Nat) : Option Nat × State :=
  let x := s.slot k
  if !x.due then (none, s)
  else
    let g := s.get (F.CENG_SLOT_CFG_GROUP k)
    let s := s.when (!x.done) (fun t =>
      (t.late F.TIME_LATE_CENG_LATE (2 ^ g)).inc R.TIME_CENG_LATE_CNT)
    let s := s.setSlot k { x with due := false, done := false }
    if s.slotMode k = 0 then (none, s) else (x.latch, s)

/-- At an apply instant the evaluations of this period's groups fall due (R51, R55). -/
def State.slotsDue (s : State) : State :=
  if s.cengOn then
    (List.range 32).foldl (fun t k =>
      let g := t.get (F.CENG_SLOT_CFG_GROUP k)
      if t.slotIn g k && t.lgActs g then
        t.setSlot k { t.slot k with due := true, done := false }
      else t) s
  else s

/-- The engine stops: nothing is due any more (R297). -/
def State.slotsIdle (s : State) : State :=
  (List.range 32).foldl (fun t k =>
    if (t.slot k).due then t.setSlot k { t.slot k with due := false, done := false } else t) s

/-! ## Auto-tune -/

/-- The results cleared (R317). -/
def State.tuneClear (s : State) : State :=
  s.zero [R.CENG_TUNE_A, R.CENG_TUNE_TU, R.CENG_TUNE_KU, R.CENG_TUNE_KP_PROP,
    R.CENG_TUNE_KI_PROP]

/-- TUNE_END and the template of an ended auto-tune (R310, R318; notes/assumptions/16.md). -/
def State.tuneEnded (s : State) : State :=
  let s := s.flag F.CENG_FLAG_TUNE_END
  if s.on F.CENG_TUNE_TPL_EN then s.submitTpl 0x13 (s.get F.CENG_TUNE_TPL_TPL * 32) none else s

/-- A start refused with its code (R311): the entry mode stays. -/
def State.tuneRefuse (s : State) (k entry code : Nat) : State :=
  let s := (s.set F.CENG_TUNE_STAT_STATE code).set F.CENG_TUNE_STAT_SLOT k
  (s.set (F.CENG_MODE_MODE k) entry).flag F.CENG_FLAG_TUNE_END

/-- The run ends with a state code, back in its entry mode; the latch holds bias, and the next
evaluation resumes from it (R315, R317, R318). -/
def State.tuneStop (s : State) (t : TuneS) (code : Nat) : State :=
  let s := { s with ceng := { s.ceng with tune := none } }
  let s := (s.set F.CENG_TUNE_STAT_STATE code).set (F.CENG_MODE_MODE t.slot) t.entry
  let s := (s.slotPlace t.slot t.bias).set (R.CENG_OUT t.slot) t.bias
  (s.setSlot t.slot { s.slot t.slot with resume := some t.bias }).tuneEnded

/-- An abort (R317). -/
def State.tuneAbort (s : State) (t : TuneS) (code : Nat) : State := s.tuneClear.tuneStop t code

/-- A write of CENG_MODE has changed slot k from mode `old` (R305, R311, R317). -/
def State.modeChange (s : State) (k old : Nat) : State :=
  let new := s.slotMode k
  if new = old then s
  else
    let was : Bool := match s.ceng.tune with
      | some t => decide (t.slot = k)
      | none => false
    let s := if was then
        let s := { s with ceng := { s.ceng with tune := none } }
        (s.tuneClear.set F.CENG_TUNE_STAT_STATE 0xF).tuneEnded
      else s
    match new with
    | 3 =>
      if s.gst ≠ .run || old = 0 then s.tuneRefuse k old 7
      else if s.ceng.tune.isSome then s.tuneRefuse k old 9
      else
        let t : TuneS := { slot := k, entry := old, bias := (s.slot k).held }
        let s := { s with ceng := { s.ceng with tune := some t } }
        let s := s.set F.CENG_TUNE_STAT_STATE (if s.get F.CENG_TUNE_CFG_NSKIP = 0 then 2 else 1)
        (s.set F.CENG_TUNE_STAT_SLOT k).set F.CENG_TUNE_STAT_CYCLES 0
    | 0 => (s.setSlot k { s.slot k with integ := 0, resume := none, due := false, done := false }).set
        (R.CENG_INT k) 0
    | _ => s.setSlot k { s.slot k with resume := none }

/-- The device has left RUN, or the role ACTIVE and ALONE: a run aborts (R317). -/
def State.tuneCheck (s : State) : State :=
  match s.ceng.tune with
  | some t => if s.gst ≠ .run || !s.holder then s.tuneAbort t 0xF else s
  | none => s

/-- The permission bit (R312). -/
def State.tunePerm (s : State) : Bool := s.logic.qPub.testBit (s.get F.CENG_TUNE_CFG_PERMQ)

/-- The sum of binary32 values, first to last. -/
def esum : List Nat → Nat
  | [] => 0
  | x :: r => r.foldl eadd x

/-- Every value lies within TOL / 256 of the mean (R315). -/
def allNear (tol mean : Nat) (l : List Nat) : Bool :=
  l.all (fun x => ele (eabs (esub x mean)) (emul (ediv (eint tol) (eint 256)) mean))

/-- DONE with its results (R315); the run's proposals take the rule of CENG_TUNE_CFG. -/
def State.tuneDone (s : State) (t : TuneS) (tu a ts : Nat) : State :=
  let ku := ediv (emul (eint 4) (s.get R.CENG_TUNE_D)) (emul 0x40490FDB a)
  let (kp, ti) := match s.get F.CENG_TUNE_CFG_RULE with
    | 1 => (ediv ku 0x404CCCCD, emul 0x400CCCCD tu)
    | 2 => (emul 0x3E800000 ku, tu)
    | _ => (emul 0x3EE66666 ku, ediv tu 0x3F99999A)
  let s := ((s.set R.CENG_TUNE_A a).set R.CENG_TUNE_TU tu).set R.CENG_TUNE_KU ku
  let s := (s.set R.CENG_TUNE_KP_PROP kp).set R.CENG_TUNE_KI_PROP (ediv (emul kp ts) ti)
  s.tuneStop t 3

/-- A rising switch has ended a cycle with Tu and a (R314, R315): the run with the cycle, and
its means when the test passes. -/
def State.tuneCycle (s : State) (t : TuneS) : Option (Nat × Nat) :=
  let nm := max (s.get F.CENG_TUNE_CFG_NMEAS) 2
  if t.cycles.length < s.get F.CENG_TUNE_CFG_NSKIP + nm then none
  else
    let l := t.cycles.take nm
    let mean (f : Nat × Nat → Nat) : Nat := ediv (esum (l.reverse.map f)) (eint nm)
    let tu := mean (·.1)
    let a := mean (·.2)
    let tol := s.get F.CENG_TUNE_CFG_TOL
    if allNear tol tu (l.map (·.1)) && allNear tol a (l.map (·.2)) then some (tu, a) else none

/-- The relay at one evaluation with error e (R313, R314): the run after it, and whether a
cycle has ended. -/
def TuneS.relay (t : TuneS) (h e ts : Nat) : TuneS × Bool :=
  let t := if t.k = 0 then { t with up := ele 0 e, ePrev := e, eMax := e, eMin := e } else t
  let widen (t : TuneS) : TuneS := { t with
    eMax := if elt t.eMax e then e else t.eMax, eMin := if elt e t.eMin then e else t.eMin }
  if t.up && elt e (fneg h) then
    let t := widen t
    ({ t with up := false, quiet := 0, k := t.k + 1, ePrev := e }, false)
  else if !t.up && elt h e then
    let now := esub (eint t.k) (ediv (esub e h) (esub e t.ePrev))
    let cyc := match t.ts with
      | some p => [(emul (esub now p) ts, ediv (esub t.eMax t.eMin) (eint 2))]
      | none => []
    ({ t with up := true, quiet := 0, k := t.k + 1, ePrev := e, ts := some now, eMax := e,
              eMin := e, cycles := cyc ++ t.cycles }, t.ts.isSome)
  else
    let t := widen t
    ({ t with quiet := t.quiet + 1, k := t.k + 1, ePrev := e }, false)

/-- The evaluation of the tuning slot with error e (R313 to R317); `bad` says that a source is
bad or that R306 applies to an input, e, g or p; it applies to u as well. A bad evaluation does not
pass the test of R315. -/
def State.tuneEval (s : State) (t : TuneS) (e : Nat) (bad : Bool) : State :=
  let k := t.slot
  let d := s.get R.CENG_TUNE_D
  let lo := s.get (R.CENG_UMIN k)
  let hi := s.get (R.CENG_UMAX k)
  let out (u : Nat) : Bool := elt u lo || elt hi u
  let ts := eint (s.get (F.TIME_LG_CFG_DIV (s.get (F.CENG_SLOT_CFG_GROUP k))) * s.P)
  let lim := s.get F.CENG_TUNE_LIM_TMAX
  if !s.tunePerm then s.tuneAbort t 0xA
  else if elt (s.get R.CENG_TUNE_EMAX) (eabs e) then s.tuneAbort t 0xB
  else if out (eadd t.bias d) || out (esub t.bias d) then s.tuneAbort t 0xC
  else
    let (r, ended) := t.relay (s.get R.CENG_TUNE_H) e ts
    let n := r.cycles.length
    let s := s.set F.CENG_TUNE_STAT_CYCLES (min n 255)
    let u := eadd r.bias (emul (if r.up then eOne else eMinusOne) d)
    let s := s.when (fbad u) (·.flag (F.CENG_SSTAT_NANF k))
    match if ended then s.tuneCycle r else none with
    | some (tu, a) => if bad || fbad u then s.tuneAbort r 0xF else s.tuneDone r tu a ts
    | none =>
      if r.quiet ≥ (if lim = 0 then 65536 else lim) then s.tuneAbort r 0xD
      else if n ≥ s.get F.CENG_TUNE_LIM_CYC_MAX then s.tuneAbort r 0xE
      else
        if bad || fbad u then s.tuneAbort r 0xF
        else
          let s := { s with ceng := { s.ceng with tune := some r } }
          let s := s.set F.CENG_TUNE_STAT_STATE (if n < s.get F.CENG_TUNE_CFG_NSKIP then 1 else 2)
          (s.set F.CENG_TUNE_STAT_SLOT k).slotPlace k u |>.set (R.CENG_OUT k) u

/-! ## Evaluation -/

/-- What the law gives (R304): integrator, output, whether integration was held, and whether
the clamp altered u. -/
structure Law where
  i : Nat
  u : Nat
  istop : Bool := false
  sat : Bool := false
  deriving DecidableEq, Repr

/-- The clamp has altered a number. -/
def altered (u raw : Nat) : Bool := elt u raw || elt raw u

/-- The law of AUTO (R304, R318). -/
def lawAuto (kp ki lo hi i0 ff t : Nat) (resume : Option Nat) : Law :=
  let p := emul kp t
  let i0 := match resume with
    | some b => esub (esub b p) ff
    | none => i0
  let di := emul ki t
  let uc := eadd (eadd p (eadd i0 di)) ff
  let stop := (elt hi uc && elt 0 di) || (elt uc lo && elt di 0)
  let i := if stop then i0 else eclamp lo hi (eadd i0 di)
  let raw := eadd (eadd p i) ff
  let u := eclamp lo hi raw
  { i := i, u := u, istop := stop, sat := altered u raw }

/-- The law of MANUAL (R304). -/
def lawManual (kp lo hi man ff t : Nat) : Law :=
  let u := eclamp lo hi man
  { i := esub (esub u (emul kp t)) ff, u := u, sat := altered u man }

/-- The evaluation of slot k (R300 to R307, R311, R318). -/
def State.slotEval (s : State) (k : Nat) : State :=
  let s := s.setSlot k { s.slot k with done := true }
  let (ref, b0, s) := s.slotInput k 0
  let (meas, b1, s) := s.slotInput k 1
  let (ff, b2, s) := s.slotInput k 2
  let e := esub ref meas
  let (g, gbad) := s.slotGain k e
  let s := s.when gbad (·.flag (F.CENG_SSTAT_GT_BAD k))
  let t := emul g e
  let p := emul (s.get (R.CENG_KP k)) t
  let s := (s.set (R.CENG_ERR k) e).set (R.CENG_GAIN k) g
  let inBad := fbad ref || fbad meas || fbad ff || fbad e || fbad g || fbad p
  let s := match s.ceng.tune with
    | some t => if t.slot = k && t.k = 0 && !s.tunePerm then
        ({ s with ceng := { s.ceng with tune := none } }).tuneRefuse k t.entry 8
      else s
    | none => s
  match s.slotMode k, s.ceng.tune with
  | 3, some t =>
    let s := s.when inBad (·.flag (F.CENG_SSTAT_NANF k))
    s.tuneEval t e (inBad || b0 || b1 || b2)
  | md, _ =>
    let x := s.slot k
    let lo := s.get (R.CENG_UMIN k)
    let hi := s.get (R.CENG_UMAX k)
    let law := if md = 2 then lawManual (s.get (R.CENG_KP k)) lo hi (s.get (R.CENG_MAN k)) ff t
      else lawAuto (s.get (R.CENG_KP k)) (s.get (R.CENG_KI k)) lo hi x.integ ff t x.resume
    let nan := inBad || fbad law.i || fbad law.u
    let s := s.when law.istop (·.flag (F.CENG_SSTAT_ISTOP k))
    let s := s.when law.sat (·.flag (F.CENG_SSTAT_USAT k))
    let s := s.set (R.CENG_OUT k) law.u
    if nan then
      (s.flag (F.CENG_SSTAT_NANF k)).set (R.CENG_INT k) x.integ
    else
      let s := (s.setSlot k { x with integ := law.i, resume := none }).set (R.CENG_INT k) law.i
      s.slotPlace k law.u

/-- The evaluation of group g (R297, R298, R310). -/
def State.cengEvaluate (s : State) (g : Nat) : State :=
  if s.cengOn && s.lgActs g then
    let s := (List.range 32).foldl (fun t k => if t.slotIn g k then t.slotEval k else t) s
    if s.on (F.CENG_GRP_TPL_EN g) then s.submitTpl 0x13 (s.get (F.CENG_GRP_TPL_TPL g) * 32) none
    else s
  else s

/-! ## Slot check -/

/-- A register destination that R309 bars. -/
def cengBarred (a : Nat) : Bool :=
  a < 0x10000 || (0x10080 ≤ a && a < 0x100A0) || (0x40000 ≤ a && a < 0x50000) ||
    (0x70000 ≤ a && a < 0x80000)

/-- Slots j and k share a destination (code 0x4 of R309). -/
def State.slotClash (s : State) (j k : Nat) : Bool :=
  s.on (F.CENG_SLOT_CFG_EN j) && s.slotDst j = s.slotDst k &&
    (match s.slotDst k with
      | 1 => s.get (F.CENG_DST_TRIM j) = s.get (F.CENG_DST_TRIM k)
      | 2 => s.get (F.CENG_DST_WORD j) = s.get (F.CENG_DST_WORD k)
      | 3 => s.get (F.CENG_DST_WORD j) = s.get (F.CENG_DST_WORD k) &&
          s.get (R.CENG_DMASK j) &&& s.get (R.CENG_DMASK k) ≠ 0
      | _ => false)

/-- The code of R309 that slot k fails, 0 for none. -/
def State.slotCheck (s : State) (k : Nat) : Nat :=
  let g := s.get (F.CENG_SLOT_CFG_GROUP k)
  let t := s.get (F.CENG_DST_TRIM k)
  if !s.on (F.CENG_SLOT_CFG_EN k) then 0
  else if !s.lgEn g then 1
  else if s.slotDst k = 1 && (t > 47 || (List.range Config.strings).any (fun n =>
      s.strArm n = t / 8 && !s.lgHas g n)) then 2
  else if s.slotDst k = 3 && cengBarred (4 * s.get (F.CENG_DST_WORD k)) then 3
  else if (List.range k).any (fun j => s.slotClash j k) then 4 else 0

/-- The first slot that fails R309 with its code. -/
def State.cengCheck (s : State) : Option (Nat × Nat) :=
  (List.range 32).findSome? (fun k =>
    let c := s.slotCheck k
    if c = 0 then none else some (k, c))

end Sys2Proof.Machine
end

