-- ==== Sys2Proof/Machine/Trip.lean ====
section
/-! DEFINITION. Trip inputs, groups and latches (R204 to R209), blocked arms (R211, R212),
clearing (R214 to R217) and the DEBLOCK check (R218, R222). -/

namespace Sys2Proof.Machine

open Sys2Proof

/-- Inputs TRIP0 to TRIP23 (R204). -/
def tripInputs : Nat := 24

/-- Input i counts for group g (R206). -/
def State.tripCounts (s : State) (i g : Nat) : Bool :=
  s.on (F.TRIP_IN_CFG_EN i) && !bit (s.get F.TRIP_IN_MASK_MASK) i &&
    bit (s.get (F.TRIP_IN_CFG_MAP i)) g

/-- Inputs that count for group g with their filtered level active, rising (R206). -/
def State.tripHits (s : State) (g : Nat) : List Nat :=
  (List.range tripInputs).filter (fun i => s.tripCounts i g && bit (s.get F.TRIP_IN_LVL_LVL) i)

/-- Group g is latched. -/
def State.latched (s : State) (g : Nat) : Bool := bit (s.get F.TRIP_STAT_LATCH) g

/-- A latched group covers arm a (R209, R211). -/
def State.armTripped (s : State) (a : Nat) : Bool :=
  (List.range Config.groups).any (fun g => s.latched g && bit (s.get (F.TRIP_GRP_ARMS g)) a)

/-- Arm a is blocked (R211). -/
def State.armBlocked (s : State) (a : Nat) : Bool :=
  !bit (s.get F.TRIP_ARM_ARM_RUN) a || s.armTripped a || bit (s.get F.TRIP_STAT_SVB_DEM) a

/-- TRIP_STAT.ARM_BLK brought up to date (R211). -/
def State.armBlkUpd (s : State) : State :=
  s.set F.TRIP_STAT_ARM_BLK (ofBits Config.arms s.armBlocked)

/-- ARM_RUN bits cleared (R212). -/
def State.armRunClr (s : State) (m : Nat) : State := (s.clrF F.TRIP_ARM_ARM_RUN m).armBlkUpd

/-- The inputs that counted for group g in the cycle of its latch: the lowest, and whether there was
more than one (R208). A latch by TRIP_SOFT alone names no input, and INPUT keeps its value. -/
def State.tripFirst (s : State) (g : Nat) : State :=
  let hits := s.tripHits g
  let s := match hits with
    | i :: _ => s.set (F.TRIP_FIRST_SRC_INPUT g) i
    | [] => s
  s.set (F.TRIP_FIRST_SRC_MULTI g) (b2n (decide (hits.length > 1)))

/-- DEBLOCK cause 0x1 for a group that latches in the time-base cycle of the apply instant (R218):
the transaction is rejected whole. -/
def State.dbTrip (s : State) (g : Nat) : State :=
  match s.trip.db with
  | some d =>
    let m := s.get (F.TRIP_GRP_ARMS g) &&& d.rise
    match (List.range Config.arms).find? (fun a => bit m a) with
    | some a =>
      if d.cyc = s.elapsed then
        let s := { s with regs := d.regs.foldl regBack s.regs, trip := { s.trip with db := none } }
        let s := (s.set F.TRIP_DBCHK_ARM a).set F.TRIP_DBCHK_CAUSE 1
        s.txnEnd ((s.txn? d.txn.ring d.txn.idx).getD d.txn) 1
          (9 + 256 * nth d.entry 0 a + 65536 * (16 + a))
      else s
    | none => s
  | none => s

/-- A clear of group g is refused (R214, R215). -/
def State.clrRefuse (s : State) (m : Nat) : State :=
  s.when (m ≠ 0) (fun t => (t.flag F.TRIP_FLAG_TRIP_CLR_REJ).orF F.TRIP_FLAG_CLR_REJ_G m)

/-- The latch of group g sets (R207, R208, R212): its cause, its time, its count. -/
def State.tripLatch (s : State) (g : Nat) (soft : Bool) : State :=
  let s := (s.dbTrip g).tripFirst g
  let s := s.set (F.TRIP_FIRST_SRC_SOFT g) (b2n soft)
  let s := { s with trip := { s.trip with latchAt := sput s.trip.latchAt 0 g (s.elapsed + 1) } }
  let s := (s.set (R.TRIP_FIRST_NS g) s.time.ns).set (R.TRIP_FIRST_SEC g) (s.time.sec % 2 ^ 32)
  let s := (s.inc (R.TRIP_CNT g)).orF F.TRIP_STAT_LATCH (2 ^ g)
  (s.armRunClr (s.get (F.TRIP_GRP_ARMS g))).evt .trip

/-- A latch of group g sets: where a clear of it was accepted in this cycle, that clear counts as
refused, and a latch that it had cleared has been set throughout (R215). -/
def State.tripSet (s : State) (g : Nat) (soft : Bool) : State :=
  let (c, was) := sget s.trip.clrAt (0, false) g
  if c = s.elapsed + 1 then
    let s := s.clrRefuse (2 ^ g)
    if was then s.orF F.TRIP_STAT_LATCH (2 ^ g) else s.tripLatch g soft
  else s.tripLatch g soft

/-- A further cause in the cycle in which group g latched (R208). -/
def State.tripJoin (s : State) (g : Nat) (soft : Bool) : State :=
  (s.tripFirst g).when soft (·.flag (F.TRIP_FIRST_SRC_SOFT g))

/-- ACTIVE, HIT and the latches brought up to date; `soft` holds the bits of a TRIP_SOFT write
(R206 to R208). -/
def State.tripUpd (s : State) (soft : Nat) : State :=
  let act := ofBits Config.groups (fun g => !(s.tripHits g).isEmpty)
  let s := s.set F.TRIP_STAT_ACTIVE act
  let hit := ofBits tripInputs (fun i => (List.range Config.groups).any (fun g =>
    (s.tripHits g).contains i))
  let s := s.orF F.TRIP_IN_HIT_HIT hit
  let s := (List.range Config.groups).foldl (fun t g =>
    if !(bit act g || bit soft g) then t
    else if !t.latched g then t.tripSet g (bit soft g)
    else if sget t.trip.latchAt 0 g = t.elapsed + 1 then t.tripJoin g (bit soft g)
    else t) s
  s.armBlkUpd.blkTrips

/-- The filtered level of input i changes (R204). -/
def State.tripLevel (s : State) (i : Nat) (active : Bool) : State :=
  if s.dev.inReset then s
  else
    (s.set F.TRIP_IN_LVL_LVL (setBit (s.get F.TRIP_IN_LVL_LVL) i active)).tripUpd 0

/-- The synchronised level of the pin of input i has held for some time-base cycles (R204): after
polarity and filter the filtered level takes it; a shorter excursion changes nothing. -/
def State.tripPin (s : State) (i : Nat) (level : Bool) (held : Nat) : State :=
  if held < s.get (F.TRIP_IN_CFG_FILT i) then s
  else s.tripLevel i (level != s.on (F.TRIP_IN_CFG_POL i))

/-- TRIP_SOFT (R207). -/
def State.tripSoft (s : State) (g : Nat) : State := s.tripUpd (g % 256)

/-- The groups whose latch has set in this time-base cycle. -/
def State.latchedNow (s : State) : Nat :=
  ofBits Config.groups (fun g => sget s.trip.latchAt 0 g = s.elapsed + 1)

/-- TRIP_CLR (R214 to R217). -/
def State.tripClr (s : State) (w : Nat) : State :=
  let no := s.get F.TRIP_STAT_ACTIVE ||| s.latchedNow
  let s := s.clrRefuse (w % 256 &&& no)
  let ok := w % 256 &&& (no ^^^ 0xFF)
  let at' := (bitList 8 ok).foldl (fun m g => sput m (0, false) g (s.elapsed + 1, s.latched g))
    s.trip.clrAt
  let s := { s with trip := { s.trip with clrAt := at' } }
  ((s.clrF F.TRIP_STAT_LATCH ok).armBlkUpd).blkTrips

/-- TRIP_CNT_CLR. -/
def State.tripCntClr (s : State) : State :=
  s.zero ((List.range Config.groups).map (fun g => R.TRIP_CNT g))

/-- A string of arm a holds ARM_HOLD (R120). -/
def State.armHeld (s : State) (a : Nat) : Bool :=
  (List.range Config.strings).any (fun n => s.strArm n = a && s.armHold n)

/-- Causes 0x1 to 0x3 of R218 for arm a; 0 for none. -/
def State.deblockCause (s : State) (a : Nat) : Nat :=
  if s.armTripped a then 1
  else if bit (s.get F.TRIP_STAT_SVB_DEM) a then 2
  else if s.armHeld a then 3 else 0

/-- The first arm of a DEBLOCK that fails R218, with its cause; `run` is the mask of arms
whose bit would rise. -/
def State.deblockFail (s : State) (rise : Nat) : Option (Nat × Nat) :=
  (List.range Config.arms).findSome? (fun a =>
    if !bit rise a then none
    else
      let c := s.deblockCause a
      if c ≠ 0 then some (a, c)
      else if s.gst ≠ .run || !s.holder then some (a, 4) else none)

/-- ARM_RUN as an applied capture or an accepted DEBLOCK sets it (R212). -/
def State.armRunSet (s : State) (m : Nat) : State := (s.set F.TRIP_ARM_ARM_RUN m).armBlkUpd

/-- ARM_RUN at a claim of ACT: that of the last applied capture without the arms that fail the
check (R212, R222). -/
def State.armRunClaim (s : State) : State :=
  s.armRunSet (ofBits Config.arms (fun a => bit s.pair.capRun a && s.deblockCause a = 0))

end Sys2Proof.Machine
end

