-- ==== Sys2Proof/Machine/Modul.lean ====
section
/-! DEFINITION. Arm modulation: commits (R182 to R184), trim channels (R186 to R192), the
encoding of a command (R179, R193 to R197), the launch cut (R53, R189 to R191) and the bow
(R123, R124, R136). -/

namespace Sys2Proof.Machine

open Sys2Proof

/-! ## Commit -/

/-- Bit j of a bitmap. -/
def vbit (b : Bytes) (j : Nat) : Bool := bit (fieldLE b (j / 8) 1) (j % 8)

/-- A write to MOD_ARM_COMMIT (R183): both bitmaps of the output area are copied. -/
def State.armCommit (s : State) (a tag : Nat) : State :=
  let b := npad (s.armCells a).length / 8
  let at' := dataBase (s.get (F.MOD_ARM_DST_CORE a)) + 16 * s.get (F.MOD_ARM_OUT_ADDR a)
  let (d, bad, s) := s.eccRdB at' (2 * b) 0x30
  let d := if bad.isSome then s.rdB at' (2 * b) else d
  let x := s.arm a
  let s := s.when x.commit.isSome (·.flag (F.MOD_ARM_FLAG_COMMIT_OVR a))
  let s := s.setArm a { x with commit := some (d.take b, d.drop b, tag % 2 ^ 16)
                               commitAt := s.time.cyc }
  s.set (F.MOD_ARM_VSTAT_PEND a) 1

/-- The state that a vector gives arm index j, and whether a half-bridge cell had both bits
set (R182). -/
def vecState (ins neg : Bytes) (j : Nat) (fb : Bool) : Nat × Bool :=
  if !vbit ins j then (0, false)
  else if !vbit neg j then (1, false)
  else if fb then (2, false) else (3, true)

/-- Cell c is a full bridge. -/
def State.ctFb (s : State) (c : Nat) : Bool := bit (s.ct c 8) 17

/-- The health state of cell c is OK (R175). -/
def State.ctOk (s : State) (c : Nat) : Bool := bits (s.ct c 0x34) 0 3 = 2

/-- The commit that a cut of this core cycle may use: one that arrived before (R53). -/
def State.cutCommit (s : State) (a : Nat) : Option (Bytes × Bytes × Nat) :=
  if (s.arm a).commitAt = s.time.cyc then none else (s.arm a).commit

/-- The vector of arm a for this cut (R53, R184): the commit, or the previous vector of a LATE
or limited arm. The flag says LATE; a commit of the cut's own cycle waits on (R54). -/
def State.cutVector (s : State) (a : Nat) : Bool × State :=
  let x := s.arm a
  let c := s.cutCommit a
  let s := s.set (F.MOD_ARM_VSTAT_PEND a) (b2n (x.commit.isSome && c.isNone))
  match c with
  | none =>
    let s := (s.late F.TIME_LATE_ARM_LATE (2 ^ a)).inc (R.TIME_LATE_CNT a)
    (true, s.set (F.MOD_ARM_VSTAT_HELD a) 1)
  | some (ins, neg, tag) =>
    let cells := s.armCells a
    let diff := ((List.range cells.length).filter (fun j =>
      let fb := s.ctFb (nth cells 0 j)
      decide ((vecState ins neg j fb).1 ≠ (vecState x.ins x.neg j fb).1))).length
    let lim := s.get (F.MOD_ARM_SWLIM_MAXCH a)
    if lim ≠ 0 && diff > lim then
      let s := s.setArm a { x with commit := none }
      ((s.flag (F.MOD_ARM_FLAG_SWLIM_HIT a)).inc R.MOD_CNT_SWLIM).set (F.MOD_ARM_VSTAT_HELD a) 1
        |> fun s => (false, s)
    else
      let s := s.setArm a { x with commit := none, ins := ins, neg := neg, tag := tag }
      (false, (s.set (F.MOD_ARM_VSTAT_TAG a) tag).set (F.MOD_ARM_VSTAT_HELD a) 0)

/-! ## Trim channels -/

/-- Trim channel t. -/
def State.trim (s : State) (t : Nat) : TrimS := sget s.modu.trims {} t

/-- Trim channel t replaced. -/
def State.setTrim (s : State) (t : Nat) (x : TrimS) : State :=
  { s with modu := { s.modu with trims := sput s.modu.trims {} t x } }

/-- EN has been written: a rise arms the channel, a fall stops it (R186). -/
def State.trimEn (s : State) (t : Nat) (old : Bool) : State :=
  let new := s.on (F.MOD_TRIM_CTRL_EN t)
  if new = old then s
  else s.setTrim t { s.trim t with armed := new, running := false, count := 0, cyc := 0 }

/-- A value for PER (R188): below P it is refused. A counter that already stands at or above it
wraps at the next tick (State.trimsRun). -/
def State.trimPer (s : State) (t v : Nat) : State :=
  if v < s.P then s.flag (F.MOD_TRIM_STAT_PER_REJ t) else s.set (F.MOD_TRIM_PER_PER t) v

/-- What channel t holds before the first write of a core cycle is kept for a cut of that cycle
(R189). -/
def State.trimKeep (s : State) (t : Nat) : State :=
  let x := s.trim t
  if x.keptAt = some s.time.cyc then s
  else s.setTrim t { x with
    keptAt := some s.time.cyc, keptBy := x.byOther, keptDuty := false,
    kept := (s.word (R.MOD_TRIM_CTRL t), s.get (F.MOD_TRIM_PER_PER t), s.word (R.MOD_TRIM_DUTY t),
      s.word (R.MOD_TRIM_MIN t)) }

/-- MINPULSE stores at least 140 (R195). -/
def State.trimMin (s : State) (t : Nat) : State :=
  if s.get (F.MOD_TRIM_MIN_MINPULSE t) < 140 then s.set (F.MOD_TRIM_MIN_MINPULSE t) 140 else s

/-- DUTY has been written by the control engine or by another writer (R190). -/
def State.trimWritten (s : State) (t : Nat) (byCeng : Bool) : State :=
  let x := s.trim t
  s.setTrim t (if byCeng then { x with byCeng := true }
    else { x with byOther := true, keptDuty := true })

/-- n station nanoseconds pass for the running counters (R186); a counter at or above PER wraps at
the first of them, with PER_FOLD (R188). -/
def State.trimsRun (s : State) (n : Nat) : State :=
  s.modu.trims.foldl (fun st p =>
    let x := p.2
    if x.running && n ≠ 0 then
      let per := st.get (F.MOD_TRIM_PER_PER p.1)
      if per = 0 then st
      else if per ≤ x.count then
        (st.setTrim p.1 { x with count := (n - 1) % per, cyc := (x.cyc + 1 + (n - 1) / per) % 16 }).flag
          (F.MOD_TRIM_STAT_PER_FOLD p.1)
      else st.setTrim p.1 { x with count := (x.count + n) % per,
                                   cyc := (x.cyc + (x.count + n) / per) % 16 }
    else st) s

/-- At an apply instant armed channels start from 0 (R186). -/
def State.trimsStart (s : State) : State :=
  s.modu.trims.foldl (fun st p =>
    if p.2.armed then
      st.setTrim p.1 { p.2 with armed := false, running := true, count := 0, cyc := 0 }
    else st) s

/-- At a takeover every enabled channel starts again from 0 (R406). -/
def State.trimsRestart (s : State) : State :=
  (List.range Config.trims).foldl (fun st t =>
    if st.on (F.MOD_TRIM_CTRL_EN t) then
      st.setTrim t { st.trim t with armed := false, running := true, count := 0, cyc := 0 }
    else st) s

/-- The on-time of carrier cycle c (R187, R196). -/
def onTime (per dint frac m : Nat) (stretch : Bool) (c : Nat) : Nat :=
  let d := dint + (if bitrev 4 (c % 16) < frac then 1 else 0)
  if d ≥ per then per
  else if d = 0 then 0
  else
    let g := per - d
    if d < m && g < m then (if 2 * d ≥ per then per else 0)
    else if d < m then (if stretch then m else 0)
    else if g < m then (if stretch then per - m else per)
    else d

/-- The minimum a channel's live output counts with: MIN_EFF of the last cut (R187, R195). -/
def State.liveMin (s : State) (t : Nat) : Nat :=
  max (s.get (F.MOD_TRIM_MIN_MIN_EFF t)) (s.get (F.MOD_TRIM_MIN_MINPULSE t))

/-- The live output of channel t is HI (R186, R187). -/
def State.trimOut (s : State) (t : Nat) : Bool :=
  let x := s.trim t
  x.running && x.count < onTime (s.get (F.MOD_TRIM_PER_PER t)) (s.get (F.MOD_TRIM_DUTY_INT t))
    (s.get (F.MOD_TRIM_DUTY_FRAC t)) (s.liveMin t) (s.on (F.MOD_TRIM_MIN_POLICY t)) x.cyc

/-- A channel as a cut froze it, with the window phase of the present period (R189, R191). -/
structure TrimV where
  t : Nat
  en : Bool
  cell : Nat
  hi : Nat
  lo : Nat
  per : Nat
  dint : Nat
  frac : Nat
  minp : Nat
  stretch : Bool
  x0 : Nat
  c0 : Nat
  /-- valid among the channels of its arm (R181) -/
  valid : Bool := false
  deriving DecidableEq, Repr

/-- The view of channel t with frozen state x (R185, R189, R191). The phase is counted back
from the present counter over the nanoseconds since the apply instant, with the frozen PER. -/
def State.trimView (s : State) (t : Nat) (x : TrimS) : TrimV :=
  let per := x.fPer
  let back := decide (x.count < s.time.pofs)
  { t := t, en := bit x.fCtrl 0, cell := bits x.fCtrl 1 12, hi := bits x.fCtrl 13 2,
    lo := bits x.fCtrl 15 2, per := per, dint := bits x.fDuty 4 16, frac := bits x.fDuty 0 4,
    minp := bits x.fMin 0 10, stretch := bit x.fMin 10,
    x0 := if back then x.count + per - s.time.pofs else x.count - s.time.pofs,
    c0 := if back then (x.cyc + 15) % 16 else x.cyc }

/-- The freeze of channel t, with DUTY_CLASH (R189, R190): writes of the cut's own core cycle are
not in it. -/
def State.trimFreeze (s : State) (t : Nat) : State :=
  let s := s.trimKeep t
  let x := s.trim t
  let s := s.when (x.byCeng && x.keptBy) (·.flag (F.MOD_TRIM_STAT_DUTY_CLASH t))
  s.setTrim t { x with byCeng := false, byOther := x.keptDuty, keptBy := false,
                       fCtrl := x.kept.1, fPer := x.kept.2.1, fDuty := x.kept.2.2.1,
                       fMin := x.kept.2.2.2 }

/-- A lower-numbered enabled channel of the list names the same cell (R181). -/
def trimTaken (l : List TrimV) (v : TrimV) : Bool :=
  l.any (fun w => decide (w.t < v.t) && w.en && decide (w.cell = v.cell))

/-- Channel v is valid among the channels of its arm (R181). -/
def State.trimValid (s : State) (a : Nat) (l : List TrimV) (v : TrimV) : Bool :=
  let fb := s.ctFb v.cell
  (s.armCells a).contains v.cell && v.hi ≠ v.lo && v.hi ≠ 3 && v.lo ≠ 3 &&
    (fb || (v.hi ≠ 2 && v.lo ≠ 2)) && v.per ≥ s.P && !trimTaken l v

/-- The enabled channels of arm a at the cut; the invalid ones set CELL_BAD or TRIM_CLASH (R181). -/
def State.trimJudge (s : State) (a : Nat) (l : List TrimV) : List TrimV × State :=
  l.foldl (fun (p : List TrimV × State) v =>
    let s := p.2.set (F.MOD_TRIM_STAT_ACTIVE v.t) 0
    if !v.en then (p.1, s)
    else if s.trimValid a l v then (p.1 ++ [{ v with valid := true }], s)
    else
      let s := s.flag (F.MOD_TRIM_STAT_CELL_BAD v.t)
      (p.1 ++ [v], s.when (trimTaken l v) (·.flag (F.MOD_ARM_FLAG_TRIM_CLASH a)))) ([], s)

/-! ## Encoding -/

/-- The ideal transitions of a channel's window: the state at its start and (offset, state)
(R192). -/
def TrimV.ideal (v : TrimV) (m p : Nat) : Nat × List (Nat × Nat) :=
  let ton := onTime v.per v.dint v.frac m v.stretch
  let t0 := ton v.c0
  let init := if v.x0 < t0 then v.hi else v.lo
  let fall := decide (v.x0 < t0) && decide (t0 < v.per) && decide (t0 - v.x0 < p)
  let lv := if fall then v.lo else init
  let w := v.per - v.x0
  let nl := if ton (v.c0 + 1) > 0 then v.hi else v.lo
  (init, (if fall then [(t0 - v.x0, v.lo)] else []) ++
    (if w < p && nl ≠ lv then [(w, nl)] else []))

/-- Carrier cycles that start in the window and whose on-time R187 alters (R197). -/
def TrimV.altered (v : TrimV) (m p : Nat) : Nat :=
  let alt (c : Nat) : Bool :=
    let d := v.dint + (if bitrev 4 (c % 16) < v.frac then 1 else 0)
    decide (onTime v.per v.dint v.frac m v.stretch c ≠ min d v.per)
  ((List.range ((p + v.x0) / max v.per 1 + 1)).filter (fun k =>
    decide (v.x0 ≤ k * v.per) && decide (k * v.per < p + v.x0) && alt (v.c0 + k))).length

/-- A command under encoding (R193). -/
structure Enc where
  cur : Nat
  init : Nat
  on : Option Nat := none
  togs : List Nat := []
  last : Int
  short : Nat := 0
  ovf : Bool := false
  deriving DecidableEq, Repr

/-- One candidate (R193). -/
def Enc.step (m p : Nat) (stretch : Bool) (e : Enc) (t st : Nat) : Enc :=
  if st = e.cur then e
  else
    let near := decide (e.cur ≠ 3) && decide ((t : Int) - e.last < m)
    let e := if near then { e with short := e.short + 1 } else e
    if near && !stretch then e
    else
      let tk : Int := if near then e.last + m else t
      if tk ≥ p then e
      else if tk = 0 then { e with init := st, cur := st, last := tk }
      else match e.togs with
        | [] => { e with on := some st, togs := [tk.toNat], cur := st, last := tk }
        | [x] =>
          if st = e.init then { e with togs := [x, tk.toNat], cur := st, last := tk }
          else { e with ovf := true }
        | _ => { e with ovf := true }

/-- The encoding of a candidate list against the previous command (R193). -/
def encode193 (prev : CmdRec) (m p : Nat) (stretch : Bool) (cands : List (Nat × Nat)) : Enc :=
  let last : Int :=
    if prev.tog1 = 0xFFFF then -(p : Int)
    else (if prev.tog2 = 0xFFFF then (prev.tog1 : Int) else prev.tog2) - p
  cands.foldl (fun e c => e.step m p stretch c.1 c.2)
    { cur := prev.final, init := prev.final, last := last }

/-- The command of an encoding. -/
def Enc.cmd (e : Enc) (dtc : Nat) : CmdRec :=
  { init := e.init, on := e.on.getD e.init, tog1 := nth e.togs 0xFFFF 0,
    tog2 := nth e.togs 0xFFFF 1, dtc := dtc }

/-- The dead-time code of cell c at the cut (R202); an entry that cannot be read is rewritten
first (R376). -/
def State.cutDtc (s : State) (c : Nat) : Nat × State :=
  let a := s.dtAt c
  let (w0, b0, s) := s.eccRd a 0x30
  let (w1, b1, s) := s.eccRd (a + 4) 0x30
  if b0 || b1 then (s.get F.MOD_DT_LIM_DTC_INIT, s.dtInit c)
  else (if bit w0 5 then bits w0 0 5 else bits w1 0 5, s)

/-- The bytes of a command record (Command record tables). -/
def cmdRecord (ver : Nat) (r : CmdRec) (seq : Nat) (byp diag : Bool) : Bytes :=
  if ver = 0 then []
  else
    toLE 1 (r.init + 4 * r.on) ++ toLE 2 r.tog1 ++ toLE 2 r.tog2 ++
      toLE 1 (r.dtc % 32 + 32 * (seq % 8)) ++
      (if ver = 2 then toLE 1 (b2n byp + 16 * b2n diag) ++ [0] else [])

/-- The command of one cell at the cut of period u (R179, R193, R195, R197): `vs` are the enabled
trim channels that name it, `j` its arm index, `blocked` row 1. -/
def State.cutCmd (s : State) (a c j : Nat) (blocked : Bool) (vs : List TrimV) (prev : CmdRec) :
    CmdRec × State :=
  let v := vs.find? (·.valid)
  let (dtc, s) := s.cutDtc c
  let dt := 100 + 20 * dtc
  let ok := s.ctOk c
  let fb := s.ctFb c
  let x := s.arm a
  let s := s.when (a < 6 && !ok && vbit x.ins j) (·.flag (F.MOD_ARM_FLAG_INELIG_INS a))
  let s := vs.foldl (fun t v => t.set (F.MOD_TRIM_MIN_MIN_EFF v.t) (max v.minp (dt + 40))) s
  let s := match v with
    | some v =>
      s.when (!ok && !blocked) (·.flag (F.MOD_TRIM_STAT_CELL_INELIG v.t))
    | none => s
  if blocked || !ok then ({ dtc := dtc }, s)
  else
    match v with
    | some v =>
      let m := max v.minp (dt + 40)
      let (init, tr) := v.ideal m s.P
      let e := encode193 prev m s.P v.stretch ((0, init) :: tr)
      let s := s.addSat (R.MOD_TRIM_SHORT v.t) e.short
      let s := s.when e.ovf (·.flag (F.MOD_TRIM_STAT_TOG_OVF v.t))
      (e.cmd dtc, s.set (F.MOD_TRIM_STAT_ACTIVE v.t) 1)
    | none =>
      let (st, hb) := vecState x.ins x.neg j fb
      let s := s.when hb (fun t => (t.flag (F.MOD_ARM_FLAG_NEG_HB a)).inc R.MOD_CNT_NEGHB)
      let s := s.when (st = 1 || st = 2) (fun t =>
        t.set (F.MOD_ARM_VSTAT_NINS a) (t.get (F.MOD_ARM_VSTAT_NINS a) + 1))
      ((encode193 prev (dt + 40) s.P true [(0, st)]).cmd dtc, s)

/-- One fret of string n at the cut of period u: its record and the state (R175, R179). -/
def State.cutFret (s : State) (n k u a : Nat) (trims : List TrimV) (cells : List Nat) :
    Bytes × State :=
  let f := nth (s.str n).frets {} k
  let key := 256 * n + k
  if f.ver = 0 then ([], s)
  else if !f.insvc || f.cid > 4095 then
    let byp := f.ver = 2 && f.cid ≤ 4095 && bit (s.ct f.cid 0x0C) 18
    (cmdRecord f.ver {} u byp false, { s with modu := { s.modu with prev := sdel s.modu.prev key } })
  else
    let c := f.cid
    let blocked := s.gst ≠ .run || a ≥ 6 || s.armBlocked a || s.sst n ≠ .live
    let (r, s) := s.cutCmd a c (cells.findIdx (· = c)) blocked
      (trims.filter (fun v => v.cell = c)) (sget s.modu.prev {} key)
    let byp := f.ver = 2 && bit (s.ct c 0x0C) 18 && !s.ctOk c
    let diag := f.ver = 2 && s.modu.diag.contains c
    let s := { s with modu := { s.modu with
      prev := sput s.modu.prev {} key r, diag := s.modu.diag.filter (· ≠ c) } }
    (cmdRecord f.ver r u byp diag, s.histPut c (u + 1) r false)

/-- The commands of string n at the cut: the command area of its next stroke. -/
def State.cutString (s : State) (n u a : Nat) (trims : List TrimV) : State :=
  let cells := if a < 6 then s.armCells a else []
  let (b, s) := (List.range (s.str n).frets.length).foldl (fun (p : Bytes × State) k =>
    let (r, t) := p.2.cutFret n k u a trims cells
    (p.1 ++ r, t)) ([], s)
  s.setStr n { s.str n with built := some b }

/-- A string of group g whose cells take commands at the cut (R179). -/
def State.strCuts (s : State) (g n : Nat) : Bool := s.lgHas g n && s.strBows n

/-- A string of group g whose stroke leaves at the bow: its lane is UP (R155). -/
def State.strGoes (s : State) (g n : Nat) : Bool := s.strCuts g n && s.strUp n

/-- The device launches strokes in this period (R136, R20). -/
def State.strokes (s : State) : Bool := (s.live && s.holder) || !s.dev.lastBow.isEmpty

/-- Arms with a string in group g (R179). -/
def State.grpArms (s : State) (g : Nat) : List Nat :=
  (List.range Config.arms).filter (fun a =>
    (List.range Config.strings).any (fun n => s.strArm n = a && s.lgHas g n))

/-- The eight channels of arm a. -/
def armTrims (a : Nat) : List Nat := (List.range 8).map (fun i => 8 * a + i)

/-- The words of the cells of arm a (7: without an arm) that a cut reads (R363, R376). -/
def State.cutRead (s : State) (a : Nat) : State :=
  (s.armCells a).foldl (fun t c => (t.ctRead a c [0x08, 0x0C, 0x34]).2) s

/-- The carrier cycles of a running channel that start in the window of this cut and that R187
alters are counted, whatever row its cell takes (R197). -/
def State.trimAltered (s : State) (v : TrimV) : State :=
  if (s.trim v.t).running then
    s.addSat (R.MOD_TRIM_SHORT v.t) (v.altered (max v.minp (s.get (F.MOD_TRIM_MIN_MIN_EFF v.t))) s.P)
  else s

/-- One arm at the cut of group g (R53, R185, R189 to R191). -/
def State.cutArm (s : State) (g u a : Nat) : State :=
  let s := s.cutRead a
  let (late, s) := s.cutVector a
  let s := s.set (F.MOD_ARM_VSTAT_NINS a) 0
  let old := (armTrims a).map (fun t => s.trimView t (s.trim t))
  let s := (armTrims a).foldl (fun t k => t.trimFreeze k) s
  let new := (armTrims a).map (fun t => s.trimView t (s.trim t))
  let (trims, s) := s.trimJudge a (if late then old else new)
  let s := (List.range Config.strings).foldl (fun t n =>
    if t.strArm n = a && t.strCuts g n then t.cutString n u a trims else t) s
  trims.foldl (fun t v => t.trimAltered v) s

/-- A control-engine latch puts a duty into channel t, ahead of other writes of the cut's core cycle
(R189). -/
def State.trimLatch (s : State) (t d : Nat) : State :=
  let s := s.trimKeep t
  let x := s.trim t
  let s := s.setTrim t { x with kept := (x.kept.1, x.kept.2.1, d % 2 ^ 20, x.kept.2.2.2) }
  s.when (!x.keptDuty) (·.set (R.MOD_TRIM_DUTY t) (d % 2 ^ 20))

/-- Trim-duty latches of group g move to their channels (R46, R189). -/
def State.cutLatches (s : State) (g : Nat) : State :=
  (List.range 32).foldl (fun t k =>
    if t.slotIn g k && t.slotDst k = 1 then
      let (v, t) := t.slotMove k
      let ch := t.get (F.CENG_DST_TRIM k)
      match v with
      | some d => if ch < Config.trims then (t.trimLatch ch d).trimWritten ch true else t
      | none => t
    else t) s

/-- The launch cut of group g (R179, R189). -/
def State.launchCut (s : State) (g : Nat) : State :=
  if s.lgActs g then
    let s := s.when s.live (·.cutLatches g)
    if s.strokes then
      let s := (s.grpArms g).foldl (fun t a => t.cutArm g s.time.pidx a) s
      let s := s.cutRead 7
      (List.range Config.strings).foldl (fun t n =>
        if t.strArm n ≥ 6 && t.strCuts g n then t.cutString n s.time.pidx 7 [] else t) s
    else s.when s.live (fun s =>
      (s.grpArms g).foldl (fun t a => (armTrims a).foldl (fun r k => r.trimFreeze k) t) s)
  else s

/-! ## Bow -/

/-- The header of a stroke of string n (Stroke header table). -/
def State.strokeHeader (s : State) (n : Nat) (relay : Bool) : Bytes :=
  toLE 1 1 ++ toLE 1 (s.get (F.STR_ENUM_MAP_ID n)) ++ toLE 4 s.time.pidx ++
    toLE 4 (s.tApply + s.P) ++ toLE 1 (s.get F.PAIR_EPOCH_EPOCH) ++ toLE 1 s.sideBit ++
    toLE 1 n ++ toLE 1 (s.str n).frets.length ++
    toLE 2 (b2n relay + 2 * b2n (s.gst ≠ .run))

/-- Header, command area and CRC of string n's stroke (R123): BLOCK in every record where no
cut has built one. -/
def State.strokeHead (s : State) (n : Nat) (relay : Bool) : Bytes :=
  let x := s.str n
  let area := x.built.getD ((x.frets.map (fun f => cmdRecord f.ver {} s.time.pidx false false)).flatten)
  withCrc32 (s.strokeHeader n relay ++ area)

/-- The telemetry area of empty slots of a map (R124). -/
def emptyArea (fr : List FretS) : Bytes := (fr.map (fun f => emptySlot f.ver)).flatten

/-- The stroke of string n leaves (R52, R123, R136, R141, R146); the frames that waited for the gap
follow it (R122). -/
def State.strokeLaunch (s : State) (n l : Nat) : State :=
  let x := s.str n
  let g := s.get (F.STR_BLK_G_TX n)
  let f := s.strokeHead n false ++ emptyArea x.frets
  let s := (s.sendStroke l g f).inc (R.STR_CNT_LAUNCH n)
  let s := match x.relayOn with
    | some i => (s.mirSend i 0x27 (toLE 1 n ++ [0, 0, 0] ++ s.strokeHead n true)).inc
        (R.STR_CNT_RELAY n)
    | none => s
  let s := x.held.foldl (fun t e => t.sendLane l e) s
  s.setStr n { s.str n with built := none, held := [], launched := s.time.pidx :: x.launched.take 3,
                            flights := x.flights ++ [⟨s.time.pidx, f.length⟩] }

/-- The bow of group g (R43, R52, R136). -/
def State.bow (s : State) (g : Nat) : State :=
  if s.strokes && s.lgActs g then
    (List.range Config.strings).foldl (fun t n =>
      match t.strLane? n with
      | some l => if t.strGoes g n && !(t.str n).mapWait then t.strokeLaunch n l else t
      | none => t) s
  else s

/-! ## Counters and checks -/

/-- MOD_MCNT_CLR. -/
def State.modMcntClr (s : State) : State :=
  let s := s.zero [R.MOD_CNT_DTUP, R.MOD_CNT_DTDN, R.MOD_CNT_DTSAT, R.MOD_CNT_SWLIM,
    R.MOD_CNT_NEGHB, R.MOD_CNT_DTWDISC]
  s.zero ((List.range Config.trims).map (fun t => R.MOD_TRIM_SHORT t))

/-- Length of arm a's vector block for n cells (R176). -/
def vecLen (n : Nat) : Nat :=
  let np := npad n
  (2 * np + 3 * (np / 8) + 15) / 16 * 16 + 16

/-- MOD_MCHK's code and arm (MOD_MCHK): cells are counted by the maps held. -/
def State.modCheck (s : State) : Option (Nat × Nat) :=
  if overlap (s.ctAt 0) 0x80000 (s.dtAt 0) 0x8000 then some (1, 0)
  else
    let area (a : Nat) : Bool :=
      let n := (s.armCells a).length
      let o := 16 * s.get (F.MOD_ARM_OUT_ADDR a)
      let v := 16 * s.get (F.MOD_ARM_DST_ADDR a)
      let l := 2 * (npad n / 8)
      s.on (F.MOD_ARM_DST_EN a) && (overlap o l v (vecLen n) || o + l > 0x40000)
    let split (a : Nat) : Bool :=
      ((List.range Config.groups).filter (fun g => s.lgEn g &&
        (List.range Config.strings).any (fun n => s.strArm n = a && s.lgHas g n))).length > 1
    match (List.range Config.arms).find? area with
    | some a => some (2, a)
    | none => ((List.range Config.arms).find? split).map (fun a => (3, a))

end Sys2Proof.Machine
end

