-- ==== Sys2Proof/Machine/RegTable.lean ====
section
/-! DEFINITION. The register tables of the manual as data: every register's offset, its
index strides and counts, its reset value and its fields with their access codes (R6) and,
where a table says that other values leave the field unchanged, the range of legal values. -/

namespace Sys2Proof.Machine
/-- Registers of spec/00_scope.md. -/
def regTable_00_0 : List RegRow :=
  [
   -- DEV_BLK_ID
   ⟨0x0, 0x20564544, [],
     [⟨0, 32, .RO, 0, 0xffffffff⟩]⟩,
   -- DEV_BLK_VER
   ⟨0x4, 0x10000, [],
     [⟨16, 16, .RO, 0, 0xffff⟩, ⟨8, 8, .RO, 0, 0xff⟩, ⟨0, 8, .RO, 0, 0xff⟩]⟩,
   -- TIME_BLK_ID
   ⟨0x10000, 0x454d4954, [],
     [⟨0, 32, .RO, 0, 0xffffffff⟩]⟩,
   -- TIME_BLK_VER
   ⟨0x10004, 0x10000, [],
     [⟨16, 16, .RO, 0, 0xffff⟩, ⟨8, 8, .RO, 0, 0xff⟩, ⟨0, 8, .RO, 0, 0xff⟩]⟩,
   -- HOST_BLK_ID
   ⟨0x20000, 0x54534f48, [],
     [⟨0, 32, .RO, 0, 0xffffffff⟩]⟩,
   -- HOST_BLK_VER
   ⟨0x20004, 0x10000, [],
     [⟨16, 16, .RO, 0, 0xffff⟩, ⟨8, 8, .RO, 0, 0xff⟩, ⟨0, 8, .RO, 0, 0xff⟩]⟩,
   -- SCHED_BLK_ID
   ⟨0x30000, 0x44484353, [],
     [⟨0, 32, .RO, 0, 0xffffffff⟩]⟩,
   -- SCHED_BLK_VER
   ⟨0x30004, 0x10000, [],
     [⟨16, 16, .RO, 0, 0xffff⟩, ⟨8, 8, .RO, 0, 0xff⟩, ⟨0, 8, .RO, 0, 0xff⟩]⟩,
   -- CENG_BLK_ID
   ⟨0x40000, 0x474e4543, [],
     [⟨0, 32, .RO, 0, 0xffffffff⟩]⟩,
   -- CENG_BLK_VER
   ⟨0x40004, 0x10000, [],
     [⟨16, 16, .RO, 0, 0xffff⟩, ⟨8, 8, .RO, 0, 0xff⟩, ⟨0, 8, .RO, 0, 0xff⟩]⟩,
   -- MOD_BLK_ID
   ⟨0x50000, 0x20444f4d, [],
     [⟨0, 32, .RO, 0, 0xffffffff⟩]⟩,
   -- MOD_BLK_VER
   ⟨0x50004, 0x10000, [],
     [⟨16, 16, .RO, 0, 0xffff⟩, ⟨8, 8, .RO, 0, 0xff⟩, ⟨0, 8, .RO, 0, 0xff⟩]⟩]

/-- Registers of spec/00_scope.md. -/
def regTable_00_1 : List RegRow :=
  [
   -- TRIP_BLK_ID
   ⟨0x60000, 0x50495254, [],
     [⟨0, 32, .RO, 0, 0xffffffff⟩]⟩,
   -- TRIP_BLK_VER
   ⟨0x60004, 0x10000, [],
     [⟨16, 16, .RO, 0, 0xffff⟩, ⟨8, 8, .RO, 0, 0xff⟩, ⟨0, 8, .RO, 0, 0xff⟩]⟩,
   -- SAFE_BLK_ID
   ⟨0x70000, 0x45464153, [],
     [⟨0, 32, .RO, 0, 0xffffffff⟩]⟩,
   -- SAFE_BLK_VER
   ⟨0x70004, 0x10000, [],
     [⟨16, 16, .RO, 0, 0xffff⟩, ⟨8, 8, .RO, 0, 0xff⟩, ⟨0, 8, .RO, 0, 0xff⟩]⟩,
   -- LOGIC_BLK_ID
   ⟨0x80000, 0x43474f4c, [],
     [⟨0, 32, .RO, 0, 0xffffffff⟩]⟩,
   -- LOGIC_BLK_VER
   ⟨0x80004, 0x10000, [],
     [⟨16, 16, .RO, 0, 0xffff⟩, ⟨8, 8, .RO, 0, 0xff⟩, ⟨0, 8, .RO, 0, 0xff⟩]⟩,
   -- VSP_BLK_ID
   ⟨0x90000, 0x20505356, [],
     [⟨0, 32, .RO, 0, 0xffffffff⟩]⟩,
   -- VSP_BLK_VER
   ⟨0x90004, 0x10000, [],
     [⟨16, 16, .RO, 0, 0xffff⟩, ⟨8, 8, .RO, 0, 0xff⟩, ⟨0, 8, .RO, 0, 0xff⟩]⟩,
   -- ADC_BLK_ID
   ⟨0xa0000, 0x20434441, [],
     [⟨0, 32, .RO, 0, 0xffffffff⟩]⟩,
   -- ADC_BLK_VER
   ⟨0xa0004, 0x10000, [],
     [⟨16, 16, .RO, 0, 0xffff⟩, ⟨8, 8, .RO, 0, 0xff⟩, ⟨0, 8, .RO, 0, 0xff⟩]⟩,
   -- ETH_BLK_ID
   ⟨0xb0000, 0x20485445, [],
     [⟨0, 32, .RO, 0, 0xffffffff⟩]⟩,
   -- ETH_BLK_VER
   ⟨0xb0004, 0x10000, [],
     [⟨16, 16, .RO, 0, 0xffff⟩, ⟨8, 8, .RO, 0, 0xff⟩, ⟨0, 8, .RO, 0, 0xff⟩]⟩]

/-- Registers of spec/00_scope.md. -/
def regTable_00_2 : List RegRow :=
  [
   -- CAN_BLK_ID
   ⟨0xc0000, 0x204e4143, [],
     [⟨0, 32, .RO, 0, 0xffffffff⟩]⟩,
   -- CAN_BLK_VER
   ⟨0xc0004, 0x10000, [],
     [⟨16, 16, .RO, 0, 0xffff⟩, ⟨8, 8, .RO, 0, 0xff⟩, ⟨0, 8, .RO, 0, 0xff⟩]⟩,
   -- PAIR_BLK_ID
   ⟨0xd0000, 0x52494150, [],
     [⟨0, 32, .RO, 0, 0xffffffff⟩]⟩,
   -- PAIR_BLK_VER
   ⟨0xd0004, 0x10000, [],
     [⟨16, 16, .RO, 0, 0xffff⟩, ⟨8, 8, .RO, 0, 0xff⟩, ⟨0, 8, .RO, 0, 0xff⟩]⟩,
   -- MEM_BLK_ID
   ⟨0xe0000, 0x204d454d, [],
     [⟨0, 32, .RO, 0, 0xffffffff⟩]⟩,
   -- MEM_BLK_VER
   ⟨0xe0004, 0x10000, [],
     [⟨16, 16, .RO, 0, 0xffff⟩, ⟨8, 8, .RO, 0, 0xff⟩, ⟨0, 8, .RO, 0, 0xff⟩]⟩,
   -- LANE_BLK_ID
   ⟨0x100000, 0x454e414c, [(0x1000, 48)],
     [⟨0, 32, .RO, 0, 0xffffffff⟩]⟩,
   -- LANE_BLK_VER
   ⟨0x100004, 0x10000, [(0x1000, 48)],
     [⟨16, 16, .RO, 0, 0xffff⟩, ⟨8, 8, .RO, 0, 0xff⟩, ⟨0, 8, .RO, 0, 0xff⟩]⟩,
   -- STR_BLK_ID
   ⟨0x200000, 0x20525453, [(0x2000, 44)],
     [⟨0, 32, .RO, 0, 0xffffffff⟩]⟩,
   -- STR_BLK_VER
   ⟨0x200004, 0x10000, [(0x2000, 44)],
     [⟨16, 16, .RO, 0, 0xffff⟩, ⟨8, 8, .RO, 0, 0xff⟩, ⟨0, 8, .RO, 0, 0xff⟩]⟩]

/-- Registers of spec/01_station_view.md. -/
def regTable_01_0 : List RegRow :=
  [
   -- DEV_STATE
   ⟨0x8, 0x1, [],
     [⟨0, 3, .RO, 0, 7⟩, ⟨3, 3, .RO, 0, 7⟩, ⟨8, 8, .RO, 0, 0xff⟩, ⟨16, 1, .RO, 0, 1⟩,
      ⟨17, 1, .W1C, 0, 1⟩, ⟨18, 3, .RO, 0, 7⟩]⟩,
   -- DEV_CMD
   ⟨0xc, 0x0, [],
     [⟨0, 4, .WO, 0, 0xf⟩]⟩,
   -- DEV_RUN_AT
   ⟨0x10, 0x0, [],
     [⟨0, 32, .RW, 0, 0xffffffff⟩]⟩]

/-- Registers of spec/02_period_and_station_time.md. -/
def regTable_02_0 : List RegRow :=
  [
   -- TIME_CTRL
   ⟨0x10008, 0x4, [],
     [⟨0, 1, .W1S, 0, 1⟩, ⟨1, 1, .RWL, 0, 1⟩, ⟨2, 1, .RWL, 0, 1⟩]⟩,
   -- TIME_STATUS
   ⟨0x1000c, 0x0, [],
     [⟨0, 1, .RO, 0, 1⟩, ⟨1, 1, .RO, 0, 1⟩, ⟨2, 1, .RO, 0, 1⟩, ⟨3, 1, .RO, 0, 1⟩,
      ⟨4, 1, .RO, 0, 1⟩, ⟨5, 1, .RO, 0, 1⟩, ⟨6, 1, .RO, 0, 1⟩, ⟨7, 1, .W1C, 0, 1⟩]⟩,
   -- TIME_PERIOD
   ⟨0x10010, 0x1f4, [],
     [⟨0, 13, .RWL, 200, 0x1900⟩]⟩,
   -- TIME_MOD_OFS
   ⟨0x10014, 0x12c00c8, [],
     [⟨0, 16, .RWL, 0, 0xffff⟩, ⟨16, 16, .RWL, 0, 0xffff⟩]⟩,
   -- TIME_SNAP
   ⟨0x10020, 0x0, [],
     [⟨0, 1, .WO, 0, 1⟩]⟩,
   -- TIME_SNAP_FRAC
   ⟨0x10024, 0x0, [],
     [⟨0, 16, .RO, 0, 0xffff⟩]⟩,
   -- TIME_SNAP_NS
   ⟨0x10028, 0x0, [],
     [⟨0, 30, .RO, 0, 0x3fffffff⟩]⟩,
   -- TIME_SNAP_SEC_LO
   ⟨0x1002c, 0x0, [],
     [⟨0, 32, .RO, 0, 0xffffffff⟩]⟩,
   -- TIME_SNAP_SEC_HI
   ⟨0x10030, 0x0, [],
     [⟨0, 32, .RO, 0, 0xffffffff⟩]⟩,
   -- TIME_SNAP_PIDX_LO
   ⟨0x10034, 0x0, [],
     [⟨0, 32, .RO, 0, 0xffffffff⟩]⟩,
   -- TIME_SNAP_PIDX_HI
   ⟨0x10038, 0x0, [],
     [⟨0, 32, .RO, 0, 0xffffffff⟩]⟩,
   -- TIME_SNAP_POFS
   ⟨0x1003c, 0x0, [],
     [⟨0, 16, .RO, 0, 0xffff⟩, ⟨16, 1, .RO, 0, 1⟩]⟩]

/-- Registers of spec/02_period_and_station_time.md. -/
def regTable_02_1 : List RegRow :=
  [
   -- TIME_LATE
   ⟨0x10040, 0x0, [],
     [⟨0, 6, .W1C, 0, 0x3f⟩, ⟨6, 8, .W1C, 0, 0xff⟩, ⟨14, 1, .W1C, 0, 1⟩]⟩,
   -- TIME_CNT_CLR
   ⟨0x10044, 0x0, [],
     [⟨0, 1, .WO, 0, 1⟩]⟩,
   -- TIME_LATE_CNT
   ⟨0x10048, 0x0, [(0x4, 6)],
     [⟨0, 32, .RO, 0, 0xffffffff⟩]⟩,
   -- TIME_CENG_LATE_CNT
   ⟨0x10060, 0x0, [],
     [⟨0, 32, .RO, 0, 0xffffffff⟩]⟩,
   -- TIME_CHK
   ⟨0x10064, 0x0, [],
     [⟨0, 4, .RO, 0, 0xf⟩, ⟨4, 3, .RO, 0, 7⟩]⟩,
   -- TIME_TW_ADDR
   ⟨0x10080, 0x0, [],
     [⟨2, 22, .RW, 0, 0x3fffff⟩]⟩,
   -- TIME_TW_DATA
   ⟨0x10084, 0x0, [],
     [⟨0, 32, .RW, 0, 0xffffffff⟩]⟩,
   -- TIME_TW_MASK
   ⟨0x10088, 0xffffffff, [],
     [⟨0, 32, .RW, 0, 0xffffffff⟩]⟩,
   -- TIME_TW_NS
   ⟨0x1008c, 0x0, [],
     [⟨0, 30, .RW, 0, 0x3fffffff⟩]⟩,
   -- TIME_TW_SEC
   ⟨0x10090, 0x0, [],
     [⟨0, 32, .RW, 0, 0xffffffff⟩]⟩,
   -- TIME_TW_PUSH
   ⟨0x10094, 0x0, [],
     [⟨0, 16, .WO, 0, 0xffff⟩]⟩,
   -- TIME_TW_STAT
   ⟨0x10098, 0x0, [],
     [⟨0, 9, .RO, 0, 0x1ff⟩, ⟨9, 2, .RO, 0, 3⟩, ⟨11, 1, .W1C, 0, 1⟩, ⟨12, 1, .W1C, 0, 1⟩,
      ⟨13, 1, .W1C, 0, 1⟩, ⟨14, 1, .W1C, 0, 1⟩]⟩]

/-- Registers of spec/02_period_and_station_time.md. -/
def regTable_02_2 : List RegRow :=
  [
   -- TIME_TW_CANCEL
   ⟨0x1009c, 0x0, [],
     [⟨0, 16, .WO, 0, 0xffff⟩]⟩,
   -- TIME_LG_CFG
   ⟨0x10100, 0x2, [(0x20, 8)],
     [⟨0, 1, .RWL, 0, 1⟩, ⟨1, 7, .RWL, 0, 0x7f⟩]⟩,
   -- TIME_LG_OFS0
   ⟨0x10104, 0x780000, [(0x20, 8)],
     [⟨0, 16, .RWL, 0, 0xffff⟩, ⟨16, 16, .RWL, 0, 0xffff⟩]⟩,
   -- TIME_LG_OFS1
   ⟨0x10108, 0x3e80384, [(0x20, 8)],
     [⟨0, 16, .RWL, 0, 0xffff⟩, ⟨16, 16, .RWL, 0, 0xffff⟩]⟩,
   -- TIME_LG_STRA
   ⟨0x1010c, 0x0, [(0x20, 8)],
     [⟨0, 32, .RWL, 0, 0xffffffff⟩]⟩,
   -- TIME_LG_STRB
   ⟨0x10110, 0x0, [(0x20, 8)],
     [⟨0, 12, .RWL, 0, 0xfff⟩]⟩,
   -- TIME_LG_CV
   ⟨0x10114, 0x0, [(0x20, 8)],
     [⟨0, 8, .RWL, 0, 0xff⟩]⟩]

/-- Registers of spec/03_lanes.md. -/
def regTable_03_0 : List RegRow :=
  [
   -- LANE_CFG
   ⟨0x100008, 0x0, [(0x1000, 48)],
     [⟨0, 2, .RWL, 0, 3⟩, ⟨2, 2, .RWL, 0, 3⟩, ⟨4, 6, .RWL, 0, 0x3f⟩]⟩,
   -- LANE_CTRL
   ⟨0x10000c, 0x2, [(0x1000, 48)],
     [⟨0, 1, .W1S, 0, 1⟩, ⟨1, 1, .RW, 0, 1⟩, ⟨2, 1, .RW, 0, 1⟩, ⟨3, 2, .RW, 0, 3⟩]⟩,
   -- LANE_TXEQ
   ⟨0x100010, 0x1008, [(0x1000, 48)],
     [⟨0, 4, .RWL, 0, 0xf⟩, ⟨4, 5, .RWL, 0, 0x1f⟩, ⟨9, 5, .RWL, 0, 0x1f⟩]⟩,
   -- LANE_RXEQ
   ⟨0x100014, 0x84010, [(0x1000, 48)],
     [⟨0, 1, .RW, 0, 1⟩, ⟨1, 4, .RW, 0, 0xf⟩, ⟨5, 4, .RO, 0, 0xf⟩, ⟨9, 4, .RO, 0, 0xf⟩,
      ⟨13, 3, .RW, 0, 7⟩, ⟨16, 5, .RW, 0, 0x1f⟩]⟩,
   -- LANE_DFE
   ⟨0x100018, 0x0, [(0x1000, 48)],
     [⟨0, 6, .RO, 0, 0x3f⟩, ⟨6, 6, .RO, 0, 0x3f⟩, ⟨12, 6, .RO, 0, 0x3f⟩, ⟨18, 6, .RO, 0, 0x3f⟩,
      ⟨24, 6, .RO, 0, 0x3f⟩]⟩,
   -- LANE_DFE_SNAP
   ⟨0x10001c, 0x0, [(0x1000, 48)],
     [⟨0, 6, .RO, 0, 0x3f⟩, ⟨6, 6, .RO, 0, 0x3f⟩, ⟨12, 6, .RO, 0, 0x3f⟩, ⟨18, 6, .RO, 0, 0x3f⟩,
      ⟨24, 6, .RO, 0, 0x3f⟩]⟩,
   -- LANE_STAT
   ⟨0x100020, 0x0, [(0x1000, 48)],
     [⟨0, 3, .RO, 0, 7⟩, ⟨3, 1, .RO, 0, 1⟩, ⟨4, 1, .RO, 0, 1⟩, ⟨5, 1, .RO, 0, 1⟩,
      ⟨6, 1, .RO, 0, 1⟩, ⟨7, 4, .RO, 0, 0xf⟩, ⟨11, 1, .W1C, 0, 1⟩, ⟨12, 1, .W1C, 0, 1⟩,
      ⟨13, 1, .W1C, 0, 1⟩, ⟨14, 1, .W1C, 0, 1⟩, ⟨15, 1, .W1C, 0, 1⟩, ⟨16, 1, .W1C, 0, 1⟩]⟩,
   -- LANE_CODE_ERR
   ⟨0x100024, 0x0, [(0x1000, 48)],
     [⟨0, 32, .RO, 0, 0xffffffff⟩]⟩,
   -- LANE_EB_CNT
   ⟨0x100028, 0x0, [(0x1000, 48)],
     [⟨0, 16, .RO, 0, 0xffff⟩, ⟨16, 16, .RO, 0, 0xffff⟩]⟩,
   -- LANE_ADAPT_CNT
   ⟨0x10002c, 0x0, [(0x1000, 48)],
     [⟨0, 16, .RO, 0, 0xffff⟩, ⟨16, 16, .RO, 0, 0xffff⟩]⟩,
   -- LANE_CNT_CLR
   ⟨0x100030, 0x0, [(0x1000, 48)],
     [⟨0, 1, .WO, 0, 1⟩]⟩,
   -- LANE_CHK
   ⟨0x100034, 0x0, [(0x1000, 48)],
     [⟨0, 4, .RO, 0, 0xf⟩]⟩]

/-- Registers of spec/03_lanes.md. -/
def regTable_03_1 : List RegRow :=
  [
   -- LANE_PRBS_CTRL
   ⟨0x100040, 0x0, [(0x1000, 48)],
     [⟨0, 1, .RW, 0, 1⟩, ⟨1, 2, .RW, 0, 3⟩, ⟨3, 1, .RW, 0, 1⟩, ⟨4, 1, .RW, 0, 1⟩,
      ⟨5, 2, .RW, 0, 3⟩, ⟨7, 1, .RW, 0, 1⟩, ⟨8, 1, .WO, 0, 1⟩]⟩,
   -- LANE_PRBS_STAT
   ⟨0x100044, 0x0, [(0x1000, 48)],
     [⟨0, 1, .RO, 0, 1⟩, ⟨1, 1, .W1C, 0, 1⟩]⟩,
   -- LANE_PRBS_ERR
   ⟨0x100048, 0x0, [(0x1000, 48)],
     [⟨0, 32, .RO, 0, 0xffffffff⟩]⟩,
   -- LANE_PRBS_BITS_LO
   ⟨0x10004c, 0x0, [(0x1000, 48)],
     [⟨0, 32, .RO, 0, 0xffffffff⟩]⟩,
   -- LANE_PRBS_BITS_HI
   ⟨0x100050, 0x0, [(0x1000, 48)],
     [⟨0, 32, .RO, 0, 0xffffffff⟩]⟩]

/-- Registers of spec/04_strings.md. -/
def regTable_04_0 : List RegRow :=
  [
   -- STR_CFG
   ⟨0x200008, 0x117, [(0x2000, 44)],
     [⟨0, 3, .RWL, 0, 7⟩, ⟨3, 2, .RWL, 1, 2⟩, ⟨5, 4, .RWL, 1, 8⟩]⟩,
   -- STR_CTRL
   ⟨0x20000c, 0x0, [(0x2000, 44)],
     [⟨0, 1, .W1S, 0, 1⟩, ⟨1, 1, .W1S, 0, 1⟩]⟩,
   -- STR_STAT
   ⟨0x200010, 0x0, [(0x2000, 44)],
     [⟨0, 3, .RO, 0, 7⟩, ⟨3, 2, .RO, 0, 3⟩, ⟨5, 1, .RO, 0, 1⟩, ⟨6, 1, .RO, 0, 1⟩,
      ⟨7, 1, .RO, 0, 1⟩, ⟨8, 1, .RO, 0, 1⟩, ⟨9, 1, .RO, 0, 1⟩, ⟨10, 1, .RO, 0, 1⟩,
      ⟨11, 1, .RO, 0, 1⟩, ⟨12, 1, .W1C, 0, 1⟩, ⟨13, 1, .W1C, 0, 1⟩, ⟨14, 1, .W1C, 0, 1⟩,
      ⟨15, 1, .W1C, 0, 1⟩]⟩,
   -- STR_ENUM
   ⟨0x200014, 0x0, [(0x2000, 44)],
     [⟨0, 8, .RO, 0, 0xff⟩, ⟨8, 8, .RO, 0, 0xff⟩, ⟨16, 4, .RO, 0, 0xf⟩, ⟨20, 8, .RO, 0, 0xff⟩]⟩,
   -- STR_EXPECT_FRETS
   ⟨0x200018, 0x0, [(0x2000, 44)],
     [⟨0, 8, .RWL, 0, 0xff⟩]⟩,
   -- STR_ACCEPT
   ⟨0x20001c, 0x0, [(0x2000, 44)],
     [⟨0, 1, .RWT, 0, 1⟩]⟩,
   -- STR_CHK
   ⟨0x200020, 0x0, [(0x2000, 44)],
     [⟨0, 4, .RO, 0, 0xf⟩, ⟨4, 8, .RO, 0, 0xff⟩]⟩,
   -- STR_BUDGET
   ⟨0x200024, 0x0, [(0x2000, 44)],
     [⟨0, 16, .RO, 0, 0xffff⟩, ⟨16, 16, .RO, 0, 0xffff⟩]⟩,
   -- STR_HOME
   ⟨0x200028, 0x0, [(0x2000, 44)],
     [⟨0, 20, .RO, 0, 0xfffff⟩]⟩,
   -- STR_LEN
   ⟨0x20002c, 0x0, [(0x2000, 44)],
     [⟨0, 12, .RO, 0, 0xfff⟩, ⟨16, 13, .RO, 0, 0x1fff⟩]⟩,
   -- STR_RTEND
   ⟨0x200030, 0x0, [(0x2000, 44)],
     [⟨0, 20, .RO, 0, 0xfffff⟩]⟩,
   -- STR_BLK
   ⟨0x200034, 0x0, [(0x2000, 44)],
     [⟨0, 8, .RO, 0, 0xff⟩, ⟨8, 8, .W1C, 0, 0xff⟩]⟩]

/-- Registers of spec/04_strings.md. -/
def regTable_04_1 : List RegRow :=
  [
   -- STR_CNT_CLR
   ⟨0x20005c, 0x0, [(0x2000, 44)],
     [⟨0, 1, .WO, 0, 1⟩]⟩,
   -- STR_FRET
   ⟨0x200400, 0x0, [(0x2000, 44), (0x4, 192)],
     [⟨0, 16, .RO, 0, 0xffff⟩, ⟨16, 6, .RO, 0, 0x3f⟩, ⟨22, 2, .RO, 0, 3⟩, ⟨24, 1, .RO, 0, 1⟩]⟩,
   -- STR_FLEAD
   ⟨0x200800, 0x0, [(0x2000, 44), (0x4, 192)],
     [⟨0, 12, .RO, 0, 0xfff⟩, ⟨12, 4, .RO, 0, 0xf⟩, ⟨16, 1, .RO, 0, 1⟩]⟩,
   -- STR_CNT_LAUNCH
   ⟨0x200040, 0x0, [(0x2000, 44)],
     [⟨0, 32, .RO, 0, 0xffffffff⟩]⟩,
   -- STR_CNT_RETCRC
   ⟨0x200044, 0x0, [(0x2000, 44)],
     [⟨0, 32, .RO, 0, 0xffffffff⟩]⟩,
   -- STR_CNT_NOHOME
   ⟨0x200048, 0x0, [(0x2000, 44)],
     [⟨0, 32, .RO, 0, 0xffffffff⟩]⟩,
   -- STR_CNT_TELCRC
   ⟨0x20004c, 0x0, [(0x2000, 44)],
     [⟨0, 32, .RO, 0, 0xffffffff⟩]⟩,
   -- STR_CNT_EMPTY
   ⟨0x200050, 0x0, [(0x2000, 44)],
     [⟨0, 32, .RO, 0, 0xffffffff⟩]⟩,
   -- STR_CNT_BLKERR
   ⟨0x200054, 0x0, [(0x2000, 44)],
     [⟨0, 32, .RO, 0, 0xffffffff⟩]⟩,
   -- STR_CNT_RELAY
   ⟨0x200058, 0x0, [(0x2000, 44)],
     [⟨0, 32, .RO, 0, 0xffffffff⟩]⟩]

/-- Registers of spec/05_cell_table_and_observer.md. -/
def regTable_05_0 : List RegRow :=
  [
   -- MOD_CT_BASE
   ⟨0x50100, 0x1f, [],
     [⟨0, 5, .RWL, 0, 0x1f⟩]⟩,
   -- MOD_OBS_CFG
   ⟨0x50104, 0x400340, [],
     [⟨0, 8, .RWT, 0, 0xff⟩, ⟨8, 8, .RWT, 0, 0xff⟩, ⟨16, 16, .RWT, 0, 0xffff⟩]⟩,
   -- MOD_OBS_LIM
   ⟨0x50108, 0xe61400c8, [],
     [⟨0, 16, .RWT, 0, 0xffff⟩, ⟨16, 8, .RWT, 0, 0xff⟩, ⟨24, 8, .RWT, 0, 0xff⟩]⟩,
   -- MOD_OBS_HLTH
   ⟨0x5010c, 0x75302004, [],
     [⟨0, 8, .RWT, 0, 0xff⟩, ⟨8, 8, .RWT, 0, 0xff⟩, ⟨16, 16, .RWT, 0, 0xffff⟩]⟩,
   -- MOD_OBS_STAT
   ⟨0x50110, 0x0, [],
     [⟨0, 6, .W1C, 0, 0x3f⟩, ⟨6, 1, .W1C, 0, 1⟩, ⟨7, 1, .W1C, 0, 1⟩]⟩,
   -- MOD_ARM_ISRC
   ⟨0x50140, 0x0, [(0x4, 6)],
     [⟨0, 3, .RWL, 0, 7⟩, ⟨3, 1, .RWL, 0, 1⟩, ⟨4, 1, .RWL, 0, 1⟩]⟩,
   -- MOD_ARM_K
   ⟨0x50160, 0x0, [(0x4, 6)],
     [⟨0, 32, .RWL, 0, 0xffffffff⟩]⟩,
   -- MOD_ARM_DST
   ⟨0x50180, 0x0, [(0x4, 6)],
     [⟨0, 4, .RWL, 0, 0xf⟩, ⟨4, 1, .RWL, 0, 1⟩, ⟨8, 14, .RWL, 0, 0x3fff⟩]⟩,
   -- MOD_CID_BASE
   ⟨0x50200, 0x0, [(0x4, 44)],
     [⟨0, 12, .RWL, 0, 0xfff⟩]⟩,
   -- MOD_CNT_CLR
   ⟨0x501b4, 0x0, [],
     [⟨0, 1, .WO, 0, 1⟩]⟩,
   -- MOD_CNT_OUTLIER
   ⟨0x501a0, 0x0, [],
     [⟨0, 32, .RO, 0, 0xffffffff⟩]⟩,
   -- MOD_CNT_RESEED
   ⟨0x501a4, 0x0, [],
     [⟨0, 32, .RO, 0, 0xffffffff⟩]⟩]

/-- Registers of spec/05_cell_table_and_observer.md. -/
def regTable_05_1 : List RegRow :=
  [
   -- MOD_CNT_SEQERR
   ⟨0x501a8, 0x0, [],
     [⟨0, 32, .RO, 0, 0xffffffff⟩]⟩,
   -- MOD_CNT_STALE
   ⟨0x501ac, 0x0, [],
     [⟨0, 32, .RO, 0, 0xffffffff⟩]⟩,
   -- MOD_CNT_WDISC
   ⟨0x501b0, 0x0, [],
     [⟨0, 32, .RO, 0, 0xffffffff⟩]⟩]

/-- Registers of spec/06_arm_modulation.md. -/
def regTable_06_0 : List RegRow :=
  [
   -- MOD_ARM_OUT
   ⟨0x50300, 0x0, [(0x20, 6)],
     [⟨8, 14, .RWL, 0, 0x3fff⟩]⟩,
   -- MOD_ARM_COMMIT
   ⟨0x50304, 0x0, [(0x20, 6)],
     [⟨0, 16, .WO, 0, 0xffff⟩]⟩,
   -- MOD_ARM_VSTAT
   ⟨0x50308, 0x0, [(0x20, 6)],
     [⟨0, 16, .RO, 0, 0xffff⟩, ⟨16, 1, .RO, 0, 1⟩, ⟨17, 1, .RO, 0, 1⟩, ⟨18, 13, .RO, 0, 0x1fff⟩]⟩,
   -- MOD_ARM_SWLIM
   ⟨0x5030c, 0x0, [(0x20, 6)],
     [⟨0, 12, .RWT, 0, 0xfff⟩]⟩,
   -- MOD_ARM_FLAG
   ⟨0x50310, 0x0, [(0x20, 6)],
     [⟨0, 1, .W1C, 0, 1⟩, ⟨1, 1, .W1C, 0, 1⟩, ⟨2, 1, .W1C, 0, 1⟩, ⟨3, 1, .W1C, 0, 1⟩,
      ⟨4, 1, .W1C, 0, 1⟩]⟩,
   -- MOD_TRIM_CTRL
   ⟨0x50400, 0x2000, [(0x10, 48)],
     [⟨0, 1, .RW, 0, 1⟩, ⟨1, 12, .RW, 0, 0xfff⟩, ⟨13, 2, .RW, 0, 3⟩, ⟨15, 2, .RW, 0, 3⟩]⟩,
   -- MOD_TRIM_PER
   ⟨0x50404, 0x1388, [(0x10, 48)],
     [⟨0, 16, .RW, 0, 0xffff⟩]⟩,
   -- MOD_TRIM_DUTY
   ⟨0x50408, 0x0, [(0x10, 48)],
     [⟨0, 4, .RW, 0, 0xf⟩, ⟨4, 16, .RW, 0, 0xffff⟩]⟩,
   -- MOD_TRIM_MIN
   ⟨0x5040c, 0x8c, [(0x10, 48)],
     [⟨0, 10, .RWT, 0, 0x3ff⟩, ⟨10, 1, .RWT, 0, 1⟩, ⟨16, 10, .RO, 0, 0x3ff⟩]⟩,
   -- MOD_TRIM_STAT
   ⟨0x50700, 0x0, [(0x4, 48)],
     [⟨0, 16, .RO, 0, 0xffff⟩, ⟨16, 4, .RO, 0, 0xf⟩, ⟨20, 1, .RO, 0, 1⟩, ⟨21, 1, .RO, 0, 1⟩,
      ⟨24, 1, .W1C, 0, 1⟩, ⟨25, 1, .W1C, 0, 1⟩, ⟨26, 1, .W1C, 0, 1⟩, ⟨27, 1, .W1C, 0, 1⟩,
      ⟨28, 1, .W1C, 0, 1⟩, ⟨29, 1, .W1C, 0, 1⟩]⟩,
   -- MOD_TRIM_SHORT
   ⟨0x50800, 0x0, [(0x4, 48)],
     [⟨0, 32, .RO, 0, 0xffffffff⟩]⟩,
   -- MOD_DT_BASE
   ⟨0x50900, 0x1ef, [],
     [⟨0, 9, .RWL, 0, 0x1ff⟩]⟩]

/-- Registers of spec/06_arm_modulation.md. -/
def regTable_06_1 : List RegRow :=
  [
   -- MOD_DT_CFG
   ⟨0x50904, 0x1024079, [],
     [⟨0, 1, .RWT, 0, 1⟩, ⟨1, 8, .RWT, 0, 0xff⟩, ⟨9, 8, .RWT, 0, 0xff⟩, ⟨17, 4, .RWT, 0, 0xf⟩,
      ⟨21, 8, .RWT, 0, 0xff⟩]⟩,
   -- MOD_DT_LIM
   ⟨0x50908, 0xa1f05, [],
     [⟨0, 5, .RWT, 0, 0x1f⟩, ⟨8, 5, .RWT, 0, 0x1f⟩, ⟨16, 5, .RWT, 0, 0x1f⟩]⟩,
   -- MOD_MCHK
   ⟨0x5090c, 0x0, [],
     [⟨0, 4, .RO, 0, 0xf⟩, ⟨4, 3, .RO, 0, 7⟩]⟩,
   -- MOD_MSTAT
   ⟨0x50910, 0x0, [],
     [⟨0, 1, .W1C, 0, 1⟩]⟩,
   -- MOD_MCNT_CLR
   ⟨0x5092c, 0x0, [],
     [⟨0, 1, .WO, 0, 1⟩]⟩,
   -- MOD_CNT_DTUP
   ⟨0x50914, 0x0, [],
     [⟨0, 32, .RO, 0, 0xffffffff⟩]⟩,
   -- MOD_CNT_DTDN
   ⟨0x50918, 0x0, [],
     [⟨0, 32, .RO, 0, 0xffffffff⟩]⟩,
   -- MOD_CNT_DTSAT
   ⟨0x5091c, 0x0, [],
     [⟨0, 32, .RO, 0, 0xffffffff⟩]⟩,
   -- MOD_CNT_SWLIM
   ⟨0x50920, 0x0, [],
     [⟨0, 32, .RO, 0, 0xffffffff⟩]⟩,
   -- MOD_CNT_NEGHB
   ⟨0x50924, 0x0, [],
     [⟨0, 32, .RO, 0, 0xffffffff⟩]⟩,
   -- MOD_CNT_DTWDISC
   ⟨0x50928, 0x0, [],
     [⟨0, 32, .RO, 0, 0xffffffff⟩]⟩]

/-- Registers of spec/07_trips_and_blocking.md. -/
def regTable_07_0 : List RegRow :=
  [
   -- TRIP_STAT
   ⟨0x60008, 0x3f0000, [],
     [⟨0, 8, .RO, 0, 0xff⟩, ⟨8, 8, .RO, 0, 0xff⟩, ⟨16, 6, .RO, 0, 0x3f⟩, ⟨22, 6, .RO, 0, 0x3f⟩]⟩,
   -- TRIP_CLR
   ⟨0x6000c, 0x0, [],
     [⟨0, 8, .WO, 0, 0xff⟩]⟩,
   -- TRIP_SOFT
   ⟨0x60010, 0x0, [],
     [⟨0, 8, .WO, 0, 0xff⟩]⟩,
   -- TRIP_FLAG
   ⟨0x60014, 0x0, [],
     [⟨0, 8, .W1C, 0, 0xff⟩, ⟨8, 1, .W1C, 0, 1⟩]⟩,
   -- TRIP_ARM
   ⟨0x60018, 0x0, [],
     [⟨0, 6, .RWT, 0, 0x3f⟩]⟩,
   -- TRIP_DBCHK
   ⟨0x6001c, 0x0, [],
     [⟨0, 3, .RO, 0, 7⟩, ⟨4, 4, .RO, 0, 0xf⟩]⟩,
   -- TRIP_IN_MASK
   ⟨0x60020, 0x0, [],
     [⟨0, 24, .RWT, 0, 0xffffff⟩]⟩,
   -- TRIP_IN_LVL
   ⟨0x60024, 0x0, [],
     [⟨0, 24, .RO, 0, 0xffffff⟩]⟩,
   -- TRIP_IN_HIT
   ⟨0x60028, 0x0, [],
     [⟨0, 24, .W1C, 0, 0xffffff⟩]⟩,
   -- TRIP_CNT_CLR
   ⟨0x6002c, 0x0, [],
     [⟨0, 1, .WO, 0, 1⟩]⟩,
   -- TRIP_IN_CFG
   ⟨0x60100, 0x190, [(0x4, 24)],
     [⟨0, 1, .RWL, 0, 1⟩, ⟨1, 1, .RWL, 0, 1⟩, ⟨2, 9, .RWL, 20, 0x1f4⟩, ⟨16, 8, .RWL, 0, 0xff⟩]⟩,
   -- TRIP_GRP
   ⟨0x60180, 0x0, [(0x4, 8)],
     [⟨0, 6, .RWL, 0, 0x3f⟩]⟩]

/-- Registers of spec/07_trips_and_blocking.md. -/
def regTable_07_1 : List RegRow :=
  [
   -- TRIP_FIRST_SRC
   ⟨0x60200, 0x0, [(0x10, 8)],
     [⟨0, 5, .RO, 0, 0x1f⟩, ⟨5, 1, .RO, 0, 1⟩, ⟨6, 1, .RO, 0, 1⟩]⟩,
   -- TRIP_FIRST_NS
   ⟨0x60204, 0x0, [(0x10, 8)],
     [⟨0, 30, .RO, 0, 0x3fffffff⟩]⟩,
   -- TRIP_FIRST_SEC
   ⟨0x60208, 0x0, [(0x10, 8)],
     [⟨0, 32, .RO, 0, 0xffffffff⟩]⟩,
   -- TRIP_CNT
   ⟨0x60300, 0x0, [(0x4, 8)],
     [⟨0, 32, .RO, 0, 0xffffffff⟩]⟩]

/-- Registers of spec/09_work_scheduler.md. -/
def regTable_09_0 : List RegRow :=
  [
   -- SCHED_CFG
   ⟨0x30008, 0x6446, [],
     [⟨0, 3, .RWL, 0, 7⟩, ⟨3, 4, .RWL, 0, 0xf⟩, ⟨7, 10, .RWL, 0, 0x3ff⟩]⟩,
   -- SCHED_CORE_EN
   ⟨0x3000c, 0xffff, [],
     [⟨0, 16, .RWL, 0, 0xffff⟩]⟩,
   -- SCHED_CANCEL
   ⟨0x30010, 0x0, [],
     [⟨0, 6, .WO, 0, 0x3f⟩, ⟨16, 16, .WO, 0, 0xffff⟩]⟩,
   -- SCHED_FLAG
   ⟨0x30014, 0x0, [],
     [⟨0, 1, .W1C, 0, 1⟩, ⟨1, 1, .W1C, 0, 1⟩, ⟨2, 1, .W1C, 0, 1⟩, ⟨3, 1, .W1C, 0, 1⟩,
      ⟨4, 1, .W1C, 0, 1⟩]⟩,
   -- SCHED_OVERQ
   ⟨0x30018, 0x0, [],
     [⟨0, 32, .RO, 0, 0xffffffff⟩]⟩,
   -- SCHED_CHK
   ⟨0x3001c, 0x0, [],
     [⟨0, 4, .RO, 0, 0xf⟩, ⟨4, 6, .RO, 0, 0x3f⟩]⟩,
   -- SCHED_RUN_BASE
   ⟨0x30020, 0xfc0000, [],
     [⟨6, 18, .RWL, 0, 0x3ffff⟩]⟩,
   -- SCHED_CQ_BASE
   ⟨0x30024, 0xf7, [],
     [⟨0, 8, .RWL, 0, 0xff⟩]⟩,
   -- SCHED_CQ_PI
   ⟨0x30028, 0x0, [],
     [⟨0, 12, .RO, 0, 0xfff⟩]⟩,
   -- SCHED_CQ_CI
   ⟨0x3002c, 0x0, [],
     [⟨0, 12, .RW, 0, 0xfff⟩]⟩,
   -- SCHED_WIN
   ⟨0x3003c, 0x0, [],
     [⟨0, 32, .RO, 0, 0xffffffff⟩]⟩,
   -- SCHED_ARM_TPL
   ⟨0x30040, 0x0, [(0x4, 6)],
     [⟨0, 1, .RWL, 0, 1⟩, ⟨5, 19, .RWL, 0, 0x7ffff⟩]⟩]

/-- Registers of spec/09_work_scheduler.md. -/
def regTable_09_1 : List RegRow :=
  [
   -- SCHED_TEL
   ⟨0x30060, 0x0, [(0x4, 8)],
     [⟨0, 1, .RWL, 0, 1⟩, ⟨5, 19, .RWL, 0, 0x7ffff⟩]⟩,
   -- SCHED_LVL_DEPTH
   ⟨0x30100, 0x0, [(0x20, 8)],
     [⟨0, 9, .RO, 0, 0x1ff⟩, ⟨16, 9, .RO, 0, 0x1ff⟩]⟩,
   -- SCHED_SPILL_CFG
   ⟨0x30104, 0x0, [(0x20, 8)],
     [⟨0, 5, .RWL, 0, 0x10⟩, ⟨8, 12, .RWL, 0, 0xfff⟩]⟩,
   -- SCHED_SPILL_STAT
   ⟨0x30108, 0x0, [(0x20, 8)],
     [⟨0, 17, .RO, 0, 0x1ffff⟩]⟩,
   -- SCHED_SPILL_MAX
   ⟨0x3010c, 0x0, [(0x20, 8)],
     [⟨0, 17, .RO, 0, 0x1ffff⟩]⟩,
   -- SCHED_HIST
   ⟨0x30200, 0x0, [(0x20, 8), (0x4, 8)],
     [⟨0, 32, .RO, 0, 0xffffffff⟩]⟩,
   -- SCHED_QUOTA
   ⟨0x30400, 0x0, [(0x10, 32)],
     [⟨0, 16, .RWT, 0, 0xffff⟩, ⟨16, 16, .RWT, 0, 0xffff⟩]⟩,
   -- SCHED_QUSE
   ⟨0x30404, 0x0, [(0x10, 32)],
     [⟨0, 20, .RO, 0, 0xfffff⟩]⟩,
   -- SCHED_AFF_LAST
   ⟨0x30600, 0x0, [(0x4, 64)],
     [⟨0, 4, .RO, 0, 0xf⟩, ⟨4, 1, .RO, 0, 1⟩]⟩,
   -- SCHED_CORE_STAT
   ⟨0x30700, 0x0, [(0x10, 16)],
     [⟨0, 3, .RO, 0, 7⟩, ⟨3, 1, .RO, 0, 1⟩, ⟨4, 4, .RO, 0, 0xf⟩, ⟨8, 6, .RO, 0, 0x3f⟩]⟩,
   -- SCHED_PT_CFG
   ⟨0x30800, 0x4, [(0x8, 64)],
     [⟨0, 1, .RWL, 0, 1⟩, ⟨1, 1, .RWL, 0, 1⟩, ⟨2, 7, .RWL, 0, 0x7f⟩, ⟨9, 7, .RWL, 0, 0x7f⟩,
      ⟨16, 16, .RWL, 0, 0xffff⟩]⟩,
   -- SCHED_PT_TPL
   ⟨0x30804, 0x0, [(0x8, 64)],
     [⟨5, 19, .RWL, 0, 0x7ffff⟩]⟩]

/-- Registers of spec/09_work_scheduler.md. -/
def regTable_09_2 : List RegRow :=
  [
   -- SCHED_CNT_CQLOST
   ⟨0x30030, 0x0, [],
     [⟨0, 32, .RO, 0, 0xffffffff⟩]⟩,
   -- SCHED_CNT_TPLERR
   ⟨0x30034, 0x0, [],
     [⟨0, 32, .RO, 0, 0xffffffff⟩]⟩,
   -- SCHED_QTUSE
   ⟨0x30408, 0x0, [(0x10, 32)],
     [⟨0, 32, .RO, 0, 0xffffffff⟩]⟩,
   -- SCHED_QREJ
   ⟨0x3040c, 0x0, [(0x10, 32)],
     [⟨0, 32, .RO, 0, 0xffffffff⟩]⟩,
   -- SCHED_CORE_BUSY
   ⟨0x30704, 0x0, [(0x10, 16)],
     [⟨0, 32, .RO, 0, 0xffffffff⟩]⟩,
   -- SCHED_CORE_ITEMS
   ⟨0x30708, 0x0, [(0x10, 16)],
     [⟨0, 32, .RO, 0, 0xffffffff⟩]⟩,
   -- SCHED_CORE_PREEMPT
   ⟨0x3070c, 0x0, [(0x10, 16)],
     [⟨0, 32, .RO, 0, 0xffffffff⟩]⟩,
   -- SCHED_CNT_CLR
   ⟨0x30038, 0x0, [],
     [⟨0, 1, .WO, 0, 1⟩]⟩]

/-- Registers of spec/10_control_engine.md. -/
def regTable_10_0 : List RegRow :=
  [
   -- CENG_CHK
   ⟨0x40008, 0x0, [],
     [⟨0, 4, .RO, 0, 0xf⟩, ⟨4, 5, .RO, 0, 0x1f⟩]⟩,
   -- CENG_FLAG
   ⟨0x4000c, 0x0, [],
     [⟨0, 1, .W1C, 0, 1⟩]⟩,
   -- CENG_TUNE_CFG
   ⟨0x40010, 0x14c8000, [],
     [⟨0, 12, .RWT, 0, 0xfff⟩, ⟨12, 2, .RWT, 0, 3⟩, ⟨14, 4, .RWT, 0, 0xf⟩, ⟨18, 4, .RWT, 0, 0xf⟩,
      ⟨22, 8, .RWT, 0, 0xff⟩]⟩,
   -- CENG_TUNE_LIM
   ⟨0x40014, 0x201388, [],
     [⟨0, 16, .RWT, 0, 0xffff⟩, ⟨16, 8, .RWT, 0, 0xff⟩]⟩,
   -- CENG_TUNE_STAT
   ⟨0x40024, 0x0, [],
     [⟨0, 4, .RO, 0, 0xf⟩, ⟨4, 5, .RO, 0, 0x1f⟩, ⟨16, 8, .RO, 0, 0xff⟩]⟩,
   -- CENG_TUNE_TPL
   ⟨0x40040, 0x0, [],
     [⟨0, 1, .RWL, 0, 1⟩, ⟨5, 19, .RWL, 0, 0x7ffff⟩]⟩,
   -- CENG_GRP_TPL
   ⟨0x40060, 0x0, [(0x4, 8)],
     [⟨0, 1, .RWL, 0, 1⟩, ⟨5, 19, .RWL, 0, 0x7ffff⟩]⟩,
   -- CENG_SLOT_CFG
   ⟨0x40100, 0x0, [(0x40, 32)],
     [⟨0, 1, .RWL, 0, 1⟩, ⟨1, 3, .RWL, 0, 7⟩, ⟨4, 2, .RWL, 0, 3⟩, ⟨6, 1, .RWL, 0, 1⟩]⟩,
   -- CENG_MODE
   ⟨0x4012c, 0x0, [(0x40, 32)],
     [⟨0, 2, .RWT, 0, 3⟩, ⟨2, 1, .RWT, 0, 1⟩]⟩,
   -- CENG_DST
   ⟨0x40134, 0x0, [(0x40, 32)],
     [⟨2, 22, .RWL, 0, 0x3fffff⟩, ⟨24, 6, .RWL, 0, 0x3f⟩]⟩,
   -- CENG_DMASK
   ⟨0x40138, 0xffffffff, [(0x40, 32)],
     [⟨0, 32, .RWL, 0, 0xffffffff⟩]⟩,
   -- CENG_SSTAT
   ⟨0x4013c, 0x0, [(0x40, 32)],
     [⟨0, 1, .W1C, 0, 1⟩, ⟨1, 1, .W1C, 0, 1⟩, ⟨2, 1, .W1C, 0, 1⟩, ⟨3, 1, .W1C, 0, 1⟩,
      ⟨4, 1, .W1C, 0, 1⟩, ⟨5, 1, .W1C, 0, 1⟩]⟩]

/-- Registers of spec/10_control_engine.md. -/
def regTable_10_1 : List RegRow :=
  [
   -- CENG_TUNE_D
   ⟨0x40018, 0x0, [],
     [⟨0, 32, .RWT, 0, 0xffffffff⟩]⟩,
   -- CENG_TUNE_H
   ⟨0x4001c, 0x0, [],
     [⟨0, 32, .RWT, 0, 0xffffffff⟩]⟩,
   -- CENG_TUNE_EMAX
   ⟨0x40020, 0x0, [],
     [⟨0, 32, .RWT, 0, 0xffffffff⟩]⟩,
   -- CENG_TUNE_A
   ⟨0x40028, 0x0, [],
     [⟨0, 32, .RO, 0, 0xffffffff⟩]⟩,
   -- CENG_TUNE_TU
   ⟨0x4002c, 0x0, [],
     [⟨0, 32, .RO, 0, 0xffffffff⟩]⟩,
   -- CENG_TUNE_KU
   ⟨0x40030, 0x0, [],
     [⟨0, 32, .RO, 0, 0xffffffff⟩]⟩,
   -- CENG_TUNE_KP_PROP
   ⟨0x40034, 0x0, [],
     [⟨0, 32, .RO, 0, 0xffffffff⟩]⟩,
   -- CENG_TUNE_KI_PROP
   ⟨0x40038, 0x0, [],
     [⟨0, 32, .RO, 0, 0xffffffff⟩]⟩,
   -- CENG_SCL_REF
   ⟨0x40110, 0x0, [(0x40, 32)],
     [⟨0, 32, .RWT, 0, 0xffffffff⟩]⟩,
   -- CENG_SCL_MEAS
   ⟨0x40114, 0x0, [(0x40, 32)],
     [⟨0, 32, .RWT, 0, 0xffffffff⟩]⟩,
   -- CENG_SCL_FF
   ⟨0x40118, 0x0, [(0x40, 32)],
     [⟨0, 32, .RWT, 0, 0xffffffff⟩]⟩,
   -- CENG_KP
   ⟨0x4011c, 0x0, [(0x40, 32)],
     [⟨0, 32, .RWT, 0, 0xffffffff⟩]⟩]

/-- Registers of spec/10_control_engine.md. -/
def regTable_10_2 : List RegRow :=
  [
   -- CENG_KI
   ⟨0x40120, 0x0, [(0x40, 32)],
     [⟨0, 32, .RWT, 0, 0xffffffff⟩]⟩,
   -- CENG_UMIN
   ⟨0x40124, 0x0, [(0x40, 32)],
     [⟨0, 32, .RWT, 0, 0xffffffff⟩]⟩,
   -- CENG_UMAX
   ⟨0x40128, 0x0, [(0x40, 32)],
     [⟨0, 32, .RWT, 0, 0xffffffff⟩]⟩,
   -- CENG_MAN
   ⟨0x40130, 0x0, [(0x40, 32)],
     [⟨0, 32, .RWT, 0, 0xffffffff⟩]⟩,
   -- CENG_OUT
   ⟨0x41000, 0x0, [(0x10, 32)],
     [⟨0, 32, .RO, 0, 0xffffffff⟩]⟩,
   -- CENG_INT
   ⟨0x41004, 0x0, [(0x10, 32)],
     [⟨0, 32, .RO, 0, 0xffffffff⟩]⟩,
   -- CENG_ERR
   ⟨0x41008, 0x0, [(0x10, 32)],
     [⟨0, 32, .RO, 0, 0xffffffff⟩]⟩,
   -- CENG_GAIN
   ⟨0x4100c, 0x0, [(0x10, 32)],
     [⟨0, 32, .RO, 0, 0xffffffff⟩]⟩,
   -- CENG_GTAB
   ⟨0x44000, 0x0, [(0x200, 32), (0x4, 65)],
     [⟨0, 32, .RWT, 0, 0xffffffff⟩]⟩,
   -- CENG_GT_EMIN
   ⟨0x44104, 0x0, [(0x200, 32)],
     [⟨0, 32, .RWT, 0, 0xffffffff⟩]⟩,
   -- CENG_GT_ESTEP
   ⟨0x44108, 0x0, [(0x200, 32)],
     [⟨0, 32, .RWT, 0, 0xffffffff⟩]⟩,
   -- CENG_SRC_REF
   ⟨0x40104, 0x0, [(0x40, 32)],
     [⟨0, 2, .RWL, 0, 3⟩, ⟨2, 1, .RWL, 0, 1⟩, ⟨3, 5, .RWL, 0, 0x1f⟩, ⟨10, 22, .RWL, 0, 0x3fffff⟩]⟩]

/-- Registers of spec/10_control_engine.md. -/
def regTable_10_3 : List RegRow :=
  [
   -- CENG_SRC_MEAS
   ⟨0x40108, 0x0, [(0x40, 32)],
     [⟨0, 2, .RWL, 0, 3⟩, ⟨2, 1, .RWL, 0, 1⟩, ⟨3, 5, .RWL, 0, 0x1f⟩, ⟨10, 22, .RWL, 0, 0x3fffff⟩]⟩,
   -- CENG_SRC_FF
   ⟨0x4010c, 0x0, [(0x40, 32)],
     [⟨0, 2, .RWL, 0, 3⟩, ⟨2, 1, .RWL, 0, 1⟩, ⟨3, 5, .RWL, 0, 0x1f⟩, ⟨10, 22, .RWL, 0, 0x3fffff⟩]⟩]

/-- Registers of spec/11_host_rings.md. -/
def regTable_11_0 : List RegRow :=
  [
   -- HOST_EPOCH
   ⟨0x20008, 0x0, [],
     [⟨0, 32, .RO, 0, 0xffffffff⟩]⟩,
   -- HOST_ABI_CAP
   ⟨0x2000c, 0x1000102, [],
     [⟨0, 8, .RO, 0, 0xff⟩, ⟨8, 8, .RO, 0, 0xff⟩, ⟨16, 8, .RO, 0, 0xff⟩, ⟨24, 8, .RO, 0, 0xff⟩]⟩,
   -- HOST_ABI_SEL
   ⟨0x20010, 0x0, [],
     [⟨0, 8, .RW, 0, 0xff⟩, ⟨8, 8, .RW, 0, 0xff⟩, ⟨16, 1, .RO, 0, 1⟩]⟩,
   -- HOST_STAT
   ⟨0x20014, 0x0, [],
     [⟨0, 1, .W1C, 0, 1⟩, ⟨1, 1, .W1C, 0, 1⟩]⟩,
   -- HOST_EVT_EN
   ⟨0x20018, 0x0, [],
     [⟨0, 1, .RW, 0, 1⟩, ⟨1, 1, .RW, 0, 1⟩, ⟨2, 1, .RW, 0, 1⟩, ⟨3, 1, .RW, 0, 1⟩,
      ⟨4, 1, .RW, 0, 1⟩, ⟨5, 1, .RW, 0, 1⟩]⟩,
   -- HOST_EVT_CAUSE
   ⟨0x2001c, 0x0, [],
     [⟨0, 1, .W1C, 0, 1⟩, ⟨1, 1, .W1C, 0, 1⟩, ⟨2, 1, .W1C, 0, 1⟩, ⟨3, 1, .W1C, 0, 1⟩,
      ⟨4, 1, .W1C, 0, 1⟩, ⟨5, 1, .W1C, 0, 1⟩]⟩,
   -- HOST_EVT_VEC
   ⟨0x20020, 0x0, [],
     [⟨0, 6, .RW, 0, 0x3f⟩]⟩,
   -- HOST_LINK
   ⟨0x20024, 0x0, [],
     [⟨0, 2, .RO, 0, 3⟩, ⟨2, 3, .RO, 0, 7⟩, ⟨5, 1, .RO, 0, 1⟩, ⟨16, 16, .RO, 0, 0xffff⟩]⟩,
   -- HOST_CTX_STAT
   ⟨0x20028, 0x0, [],
     [⟨0, 5, .RO, 0, 0x1f⟩]⟩,
   -- HOST_CNT_CLR
   ⟨0x2002c, 0x0, [],
     [⟨0, 1, .WO, 0, 1⟩]⟩,
   -- HOST_RING_CFG
   ⟨0x21000, 0x100, [(0x40, 32)],
     [⟨0, 1, .RW, 0, 1⟩, ⟨1, 1, .W1S, 0, 1⟩, ⟨2, 4, .RW, 0, 0xf⟩, ⟨6, 5, .RW, 0, 0x1f⟩,
      ⟨11, 3, .RW, 0, 7⟩, ⟨14, 1, .RW, 0, 1⟩, ⟨15, 6, .RW, 0, 0x3f⟩]⟩,
   -- HOST_RING_BASE_LO
   ⟨0x21004, 0x0, [(0x40, 32)],
     [⟨0, 32, .RW, 0, 0xffffffff⟩]⟩]

/-- Registers of spec/11_host_rings.md. -/
def regTable_11_1 : List RegRow :=
  [
   -- HOST_RING_BASE_HI
   ⟨0x21008, 0x0, [(0x40, 32)],
     [⟨0, 32, .RW, 0, 0xffffffff⟩]⟩,
   -- HOST_RING_CREDIT
   ⟨0x2100c, 0x0, [(0x40, 32)],
     [⟨0, 17, .RWT, 0, 0x1ffff⟩]⟩,
   -- HOST_RING_PI
   ⟨0x21010, 0x0, [(0x40, 32)],
     [⟨0, 32, .RO, 0, 0xffffffff⟩]⟩,
   -- HOST_RING_CI
   ⟨0x21014, 0x0, [(0x40, 32)],
     [⟨0, 32, .RO, 0, 0xffffffff⟩]⟩,
   -- HOST_RING_STAT
   ⟨0x21018, 0x0, [(0x40, 32)],
     [⟨0, 2, .RO, 0, 3⟩, ⟨2, 1, .RO, 0, 1⟩, ⟨3, 1, .W1C, 0, 1⟩, ⟨4, 1, .W1C, 0, 1⟩,
      ⟨5, 1, .W1C, 0, 1⟩, ⟨6, 1, .W1C, 0, 1⟩, ⟨7, 1, .W1C, 0, 1⟩, ⟨8, 1, .W1C, 0, 1⟩,
      ⟨9, 1, .W1C, 0, 1⟩, ⟨10, 1, .W1C, 0, 1⟩]⟩,
   -- HOST_RING_OUT
   ⟨0x2101c, 0x0, [(0x40, 32)],
     [⟨0, 17, .RO, 0, 0x1ffff⟩]⟩,
   -- HOST_RING_IRQ
   ⟨0x21020, 0x0, [(0x40, 32)],
     [⟨0, 8, .RW, 0, 0xff⟩, ⟨8, 16, .RW, 0, 0xffff⟩]⟩,
   -- HOST_RING_QREJ
   ⟨0x21024, 0x0, [(0x40, 32)],
     [⟨0, 32, .RO, 0, 0xffffffff⟩]⟩,
   -- HOST_RING_ABORT
   ⟨0x21028, 0x0, [(0x40, 32)],
     [⟨0, 32, .RO, 0, 0xffffffff⟩]⟩,
   -- HOST_DB
   ⟨0x22000, 0x0, [(0x8, 32)],
     [⟨0, 32, .WO, 0, 0xffffffff⟩]⟩]

/-- Registers of spec/12_memory_and_faults.md. -/
def regTable_12_0 : List RegRow :=
  [
   -- MEM_ECC_CTRL
   ⟨0xe0008, 0x1, [],
     [⟨0, 1, .RWL, 0, 1⟩]⟩,
   -- MEM_FLAG
   ⟨0xe000c, 0x0, [],
     [⟨0, 1, .W1C, 0, 1⟩, ⟨1, 1, .W1C, 0, 1⟩, ⟨2, 1, .W1C, 0, 1⟩]⟩,
   -- MEM_CHK
   ⟨0xe0010, 0x0, [],
     [⟨0, 4, .RO, 0, 0xf⟩, ⟨8, 8, .RO, 0, 0xff⟩, ⟨16, 8, .RO, 0, 0xff⟩]⟩,
   -- MEM_CE_LIM
   ⟨0xe0014, 0x40, [],
     [⟨0, 16, .RW, 0, 0xffff⟩]⟩,
   -- MEM_INJ
   ⟨0xe0018, 0x0, [],
     [⟨0, 2, .RWL, 0, 3⟩, ⟨2, 3, .RWL, 0, 7⟩, ⟨5, 5, .RWL, 0, 0x1f⟩, ⟨10, 5, .RWL, 0, 0x1f⟩]⟩,
   -- MEM_CNT_CLR
   ⟨0xe001c, 0x0, [],
     [⟨0, 1, .WO, 0, 1⟩]⟩,
   -- MEM_FLOG_IDX
   ⟨0xe0020, 0x0, [],
     [⟨0, 4, .RO, 0, 0xf⟩, ⟨4, 28, .RO, 0, 0xfffffff⟩]⟩,
   -- MEM_SCRUB (R361)
   ⟨0xe0100, 0x100, [(0x20, 3)],
     [⟨0, 16, .RWL, 16, 0xffff⟩]⟩,
   -- MEM_SCRUB (R361)
   ⟨0xe0160, 0x80, [],
     [⟨0, 16, .RWL, 16, 0xffff⟩]⟩,
   -- MEM_SCRUB (R361)
   ⟨0xe0180, 0x40, [],
     [⟨0, 16, .RWL, 16, 0xffff⟩]⟩,
   -- MEM_FLOG
   ⟨0xe0400, 0x0, [(0x10, 16), (0x4, 4)],
     [⟨0, 32, .RO, 0, 0xffffffff⟩]⟩,
   -- MEM_PR_BASE
   ⟨0xe1000, 0x0, [(0x100, 16), (0x10, 16)],
     [⟨6, 26, .RWT, 0, 0x3ffffff⟩]⟩,
   -- MEM_PR_LIMIT
   ⟨0xe1004, 0x0, [(0x100, 16), (0x10, 16)],
     [⟨6, 26, .RWT, 0, 0x3ffffff⟩]⟩,
   -- MEM_PR_ATTR
   ⟨0xe1008, 0x0, [(0x100, 16), (0x10, 16)],
     [⟨0, 1, .RWT, 0, 1⟩, ⟨1, 1, .RWT, 0, 1⟩, ⟨2, 1, .RWT, 0, 1⟩]⟩]

/-- Registers of spec/12_memory_and_faults.md. -/
def regTable_12_1 : List RegRow :=
  [
   -- IOMMU_CTRL
   ⟨0x20800, 0x0, [],
     [⟨0, 1, .RW, 0, 1⟩, ⟨1, 5, .RW, 0, 0x12⟩]⟩,
   -- IOMMU_DIR_LO
   ⟨0x20804, 0x0, [],
     [⟨12, 20, .RW, 0, 0xfffff⟩]⟩,
   -- IOMMU_DIR_HI
   ⟨0x20808, 0x0, [],
     [⟨0, 32, .RW, 0, 0xffffffff⟩]⟩,
   -- IOMMU_INV
   ⟨0x2080c, 0x0, [],
     [⟨0, 2, .WO, 0, 3⟩]⟩,
   -- IOMMU_INV_ADDR
   ⟨0x20810, 0x0, [],
     [⟨0, 27, .RW, 0, 0x7ffffff⟩]⟩,
   -- IOMMU_STAT
   ⟨0x20814, 0x0, [],
     [⟨0, 1, .RO, 0, 1⟩, ⟨1, 1, .W1C, 0, 1⟩, ⟨2, 1, .W1C, 0, 1⟩]⟩,
   -- IOMMU_FLT_ADDR_LO
   ⟨0x20818, 0x0, [],
     [⟨0, 32, .RO, 0, 0xffffffff⟩]⟩,
   -- IOMMU_FLT_ADDR_HI
   ⟨0x2081c, 0x0, [],
     [⟨0, 32, .RO, 0, 0xffffffff⟩]⟩,
   -- IOMMU_FLT_INFO
   ⟨0x20820, 0x0, [],
     [⟨0, 4, .RO, 0, 0xf⟩, ⟨4, 1, .RO, 0, 1⟩, ⟨5, 8, .RO, 0, 0xff⟩]⟩,
   -- IOMMU_CNT_MISS
   ⟨0x20824, 0x0, [],
     [⟨0, 32, .RO, 0, 0xffffffff⟩]⟩,
   -- IOMMU_CNT_FLT
   ⟨0x20828, 0x0, [],
     [⟨0, 32, .RO, 0, 0xffffffff⟩]⟩,
   -- IOMMU_CNT_CLR
   ⟨0x2082c, 0x0, [],
     [⟨0, 1, .WO, 0, 1⟩]⟩]

/-- Registers of spec/12_memory_and_faults.md. -/
def regTable_12_2 : List RegRow :=
  [
   -- MEM_PASS
   ⟨0xe0104, 0x0, [(0x20, 5)],
     [⟨0, 32, .RO, 0, 0xffffffff⟩]⟩,
   -- MEM_CE
   ⟨0xe0108, 0x0, [(0x20, 6)],
     [⟨0, 32, .RO, 0, 0xffffffff⟩]⟩,
   -- MEM_UE
   ⟨0xe010c, 0x0, [(0x20, 5)],
     [⟨0, 32, .RO, 0, 0xffffffff⟩]⟩,
   -- MEM_POISON_RD
   ⟨0xe0110, 0x0, [(0x20, 5)],
     [⟨0, 32, .RO, 0, 0xffffffff⟩]⟩]

/-- Registers of spec/13_pair.md. -/
def regTable_13_0 : List RegRow :=
  [
   -- PAIR_CFG
   ⟨0xd0008, 0x20000, [],
     [⟨0, 16, .RWL, 0, 0xffff⟩, ⟨16, 2, .RWL, 1, 2⟩, ⟨18, 1, .RW, 0, 1⟩]⟩,
   -- PAIR_STAT
   ⟨0xd000c, 0x170000, [],
     [⟨0, 3, .RO, 0, 7⟩, ⟨3, 1, .RO, 0, 1⟩, ⟨4, 1, .RO, 0, 1⟩, ⟨5, 2, .RO, 0, 3⟩,
      ⟨7, 1, .RO, 0, 1⟩, ⟨8, 1, .RO, 0, 1⟩, ⟨9, 1, .RO, 0, 1⟩, ⟨10, 1, .RO, 0, 1⟩,
      ⟨11, 1, .RO, 0, 1⟩, ⟨12, 1, .RO, 0, 1⟩, ⟨13, 2, .RO, 0, 3⟩, ⟨15, 1, .RO, 0, 1⟩,
      ⟨16, 8, .RO, 0, 0xff⟩]⟩,
   -- PAIR_FLAG
   ⟨0xd0010, 0x0, [],
     [⟨0, 1, .W1C, 0, 1⟩, ⟨1, 1, .W1C, 0, 1⟩, ⟨2, 1, .W1C, 0, 1⟩, ⟨3, 1, .W1C, 0, 1⟩,
      ⟨4, 1, .W1C, 0, 1⟩, ⟨5, 1, .W1C, 0, 1⟩, ⟨6, 1, .W1C, 0, 1⟩, ⟨7, 1, .W1C, 0, 1⟩,
      ⟨8, 1, .W1C, 0, 1⟩, ⟨9, 1, .W1C, 0, 1⟩, ⟨10, 1, .W1C, 0, 1⟩, ⟨11, 1, .W1C, 0, 1⟩]⟩,
   -- PAIR_CMD
   ⟨0xd0014, 0x0, [],
     [⟨0, 4, .WO, 0, 0xf⟩]⟩,
   -- PAIR_EPOCH
   ⟨0xd0018, 0x0, [],
     [⟨0, 8, .RO, 0, 0xff⟩, ⟨8, 1, .RO, 0, 1⟩]⟩,
   -- PAIR_CKPT
   ⟨0xd001c, 0xa, [],
     [⟨0, 7, .RWT, 1, 0x40⟩]⟩,
   -- PAIR_CKPT_STAT
   ⟨0xd0020, 0xffff0000, [],
     [⟨0, 16, .RO, 0, 0xffff⟩, ⟨16, 16, .RO, 0, 0xffff⟩]⟩,
   -- PAIR_RET
   ⟨0xd0024, 0x3c, [],
     [⟨0, 12, .RWT, 0, 0xfff⟩, ⟨12, 1, .RWT, 0, 1⟩, ⟨13, 1, .RWT, 0, 1⟩, ⟨14, 12, .RWT, 0, 0xfff⟩]⟩,
   -- PAIR_HO_STAT
   ⟨0xd0028, 0x0, [],
     [⟨0, 4, .RO, 0, 0xf⟩, ⟨16, 16, .RO, 0, 0xffff⟩]⟩,
   -- PAIR_HO_H
   ⟨0xd002c, 0x0, [],
     [⟨0, 32, .RO, 0, 0xffffffff⟩]⟩,
   -- PAIR_DLY
   ⟨0xd0030, 0x0, [],
     [⟨0, 16, .RO, 0, 0xffff⟩, ⟨16, 16, .RO, 0, 0xffff⟩]⟩,
   -- PAIR_OFS
   ⟨0xd0034, 0x0, [],
     [⟨0, 32, .RO, 0, 0xffffffff⟩]⟩]

/-- Registers of spec/13_pair.md. -/
def regTable_13_1 : List RegRow :=
  [
   -- PAIR_ASYM
   ⟨0xd0038, 0x0, [],
     [⟨0, 16, .RWL, 0, 0xffff⟩]⟩,
   -- PAIR_CHK
   ⟨0xd003c, 0x0, [],
     [⟨0, 4, .RO, 0, 0xf⟩, ⟨4, 4, .RO, 0, 0xf⟩]⟩,
   -- PAIR_REG_BASE
   ⟨0xd0100, 0x0, [(0x8, 16)],
     [⟨6, 18, .RWL, 0, 0x3ffff⟩]⟩,
   -- PAIR_REG_SIZE
   ⟨0xd0104, 0x0, [(0x8, 16)],
     [⟨6, 18, .RWL, 0, 0x3ffff⟩]⟩,
   -- PAIR_HLTH_PEER
   ⟨0xd0200, 0x0, [(0x4, 7)],
     [⟨0, 32, .RO, 0, 0xffffffff⟩]⟩,
   -- PAIR_HLTH_OWN
   ⟨0xd0220, 0x0, [(0x4, 7)],
     [⟨0, 32, .RO, 0, 0xffffffff⟩]⟩,
   -- PAIR_CNT_CLAIM
   ⟨0xd0040, 0x0, [],
     [⟨0, 32, .RO, 0, 0xffffffff⟩]⟩,
   -- PAIR_CNT_CKPT
   ⟨0xd0044, 0x0, [],
     [⟨0, 32, .RO, 0, 0xffffffff⟩]⟩,
   -- PAIR_CNT_CKBAD
   ⟨0xd0048, 0x0, [],
     [⟨0, 32, .RO, 0, 0xffffffff⟩]⟩,
   -- PAIR_CNT_MERR
   ⟨0xd004c, 0x0, [],
     [⟨0, 32, .RO, 0, 0xffffffff⟩]⟩,
   -- PAIR_CNT_HO
   ⟨0xd0050, 0x0, [],
     [⟨0, 32, .RO, 0, 0xffffffff⟩]⟩,
   -- PAIR_CNT_CLR
   ⟨0xd0054, 0x0, [],
     [⟨0, 1, .WO, 0, 1⟩]⟩]

/-- Registers of spec/14_safety_island.md. -/
def regTable_14_0 : List RegRow :=
  [
   -- SAFE_STAT
   ⟨0x70008, 0x0, [],
     [⟨0, 3, .RO, 0, 7⟩, ⟨3, 1, .RO, 0, 1⟩, ⟨4, 1, .RO, 0, 1⟩, ⟨5, 1, .RO, 0, 1⟩,
      ⟨6, 1, .RO, 0, 1⟩, ⟨7, 1, .RO, 0, 1⟩, ⟨8, 1, .RO, 0, 1⟩]⟩,
   -- SAFE_FLAG
   ⟨0x7000c, 0x0, [],
     [⟨0, 1, .W1C, 0, 1⟩, ⟨1, 1, .W1C, 0, 1⟩, ⟨2, 1, .W1C, 0, 1⟩, ⟨3, 1, .W1C, 0, 1⟩,
      ⟨4, 1, .W1C, 0, 1⟩, ⟨5, 1, .W1C, 0, 1⟩, ⟨6, 1, .W1C, 0, 1⟩]⟩,
   -- SAFE_CMD
   ⟨0x70010, 0x0, [],
     [⟨0, 4, .WO, 0, 0xf⟩]⟩,
   -- SAFE_CRC
   ⟨0x70014, 0x0, [],
     [⟨0, 32, .RWL, 0, 0xffffffff⟩]⟩,
   -- SAFE_CRC_CUR
   ⟨0x70018, 0x0, [],
     [⟨0, 32, .RO, 0, 0xffffffff⟩]⟩,
   -- SAFE_CHK
   ⟨0x7001c, 0x0, [],
     [⟨0, 4, .RO, 0, 0xf⟩, ⟨8, 4, .RO, 0, 0xf⟩]⟩,
   -- SAFE_WD
   ⟨0x70020, 0x0, [],
     [⟨0, 16, .RWL, 0, 0xffff⟩, ⟨16, 16, .RWL, 0, 0xffff⟩]⟩,
   -- SAFE_SVB_SRC
   ⟨0x70024, 0x0, [],
     [⟨0, 16, .RWL, 0, 0xffff⟩, ⟨16, 1, .RWL, 0, 1⟩]⟩,
   -- SAFE_SBT_SRC
   ⟨0x7002c, 0x0, [],
     [⟨0, 16, .RWL, 0, 0xffff⟩, ⟨16, 1, .RWL, 0, 1⟩]⟩,
   -- SAFE_SVB_CFG
   ⟨0x70028, 0x8040, [],
     [⟨0, 6, .RWL, 0, 0x3f⟩, ⟨6, 1, .RWL, 0, 1⟩, ⟨7, 1, .RWL, 0, 1⟩, ⟨8, 8, .RWL, 0, 0xff⟩]⟩,
   -- SAFE_SBT_CFG
   ⟨0x70030, 0x0, [],
     [⟨0, 8, .RWL, 0, 0xff⟩, ⟨8, 1, .RWL, 0, 1⟩]⟩,
   -- SAFE_SAP_IN
   ⟨0x70034, 0x0, [],
     [⟨0, 16, .RWL, 0, 0xffff⟩]⟩]

/-- Registers of spec/14_safety_island.md. -/
def regTable_14_1 : List RegRow :=
  [
   -- SAFE_SAP_CFG
   ⟨0x70038, 0x3c4000, [],
     [⟨0, 8, .RWL, 0, 0xff⟩, ⟨8, 6, .RWL, 0, 0x3f⟩, ⟨14, 1, .RWL, 0, 1⟩, ⟨16, 12, .RWL, 0, 0xfff⟩]⟩,
   -- SAFE_IN
   ⟨0x7003c, 0x0, [],
     [⟨0, 32, .RO, 0, 0xffffffff⟩]⟩,
   -- SAFE_OUT
   ⟨0x70040, 0x0, [],
     [⟨0, 32, .RO, 0, 0xffffffff⟩]⟩,
   -- SAFE_SIN_CFG
   ⟨0x70100, 0x6450, [(0x4, 16)],
     [⟨0, 2, .RWL, 0, 3⟩, ⟨2, 8, .RWL, 0, 0xff⟩, ⟨10, 8, .RWL, 0, 0xff⟩]⟩,
   -- SAFE_SOUT_CFG
   ⟨0x70140, 0x64147a, [(0x4, 8)],
     [⟨0, 1, .RWL, 0, 1⟩, ⟨1, 1, .RWL, 0, 1⟩, ⟨2, 7, .RWL, 5, 0x50⟩, ⟨9, 7, .RWL, 1, 0x32⟩,
      ⟨16, 12, .RWL, 0, 0xfff⟩]⟩,
   -- SAFE_CNT_DEM
   ⟨0x70044, 0x0, [],
     [⟨0, 32, .RO, 0, 0xffffffff⟩]⟩,
   -- SAFE_CNT_OP
   ⟨0x70048, 0x0, [],
     [⟨0, 32, .RO, 0, 0xffffffff⟩]⟩,
   -- SAFE_CNT_RST
   ⟨0x7004c, 0x0, [],
     [⟨0, 32, .RO, 0, 0xffffffff⟩]⟩]

/-- Registers of spec/15_station_logic.md. -/
def regTable_15_0 : List RegRow :=
  [
   -- LOGIC_CFG
   ⟨0x80008, 0xc8, [],
     [⟨0, 20, .RWL, 0, 0xfffff⟩, ⟨20, 1, .RWL, 0, 1⟩, ⟨21, 1, .RWL, 0, 1⟩]⟩,
   -- LOGIC_PHASE
   ⟨0x8000c, 0x0, [],
     [⟨0, 20, .RWL, 0, 0xfffff⟩]⟩,
   -- LOGIC_CMD
   ⟨0x80010, 0x0, [],
     [⟨0, 4, .WO, 0, 0xf⟩]⟩,
   -- LOGIC_STAT
   ⟨0x80014, 0x0, [],
     [⟨0, 3, .RO, 0, 7⟩, ⟨3, 1, .RO, 0, 1⟩, ⟨4, 1, .RO, 0, 1⟩, ⟨5, 1, .RO, 0, 1⟩,
      ⟨6, 1, .RO, 0, 1⟩, ⟨7, 1, .RO, 0, 1⟩, ⟨8, 4, .RO, 0, 0xf⟩]⟩,
   -- LOGIC_FLAG
   ⟨0x80018, 0x0, [],
     [⟨0, 1, .W1C, 0, 1⟩, ⟨1, 1, .W1C, 0, 1⟩, ⟨2, 1, .W1C, 0, 1⟩, ⟨3, 1, .W1C, 0, 1⟩,
      ⟨4, 1, .W1C, 0, 1⟩, ⟨5, 1, .W1C, 0, 1⟩, ⟨6, 1, .W1C, 0, 1⟩, ⟨7, 1, .W1C, 0, 1⟩,
      ⟨8, 1, .W1C, 0, 1⟩, ⟨9, 1, .W1C, 0, 1⟩, ⟨10, 1, .W1C, 0, 1⟩]⟩,
   -- LOGIC_CHK
   ⟨0x8001c, 0x0, [],
     [⟨0, 4, .RO, 0, 0xf⟩]⟩,
   -- LOGIC_XCHK
   ⟨0x80020, 0x0, [],
     [⟨0, 4, .RO, 0, 0xf⟩, ⟨4, 1, .RO, 0, 1⟩, ⟨16, 16, .RO, 0, 0xffff⟩]⟩,
   -- LOGIC_PROG_BASE
   ⟨0x80024, 0x0, [(0x4, 2)],
     [⟨12, 12, .RWL, 0, 0xfff⟩]⟩,
   -- LOGIC_SHR_BASE
   ⟨0x8002c, 0x0, [],
     [⟨0, 1, .RWL, 0, 1⟩, ⟨6, 18, .RWL, 0, 0x3ffff⟩]⟩,
   -- LOGIC_RET
   ⟨0x80030, 0x1, [],
     [⟨0, 8, .RWL, 0, 0xff⟩]⟩,
   -- LOGIC_RET_STAT
   ⟨0x80034, 0x0, [],
     [⟨0, 1, .RO, 0, 1⟩, ⟨1, 2, .RO, 0, 3⟩, ⟨16, 16, .RO, 0, 0xffff⟩]⟩,
   -- LOGIC_MEM_ADDR
   ⟨0x80038, 0x0, [],
     [⟨2, 14, .RW, 0, 0x3fff⟩, ⟨16, 1, .RW, 0, 1⟩]⟩]

/-- Registers of spec/15_station_logic.md. -/
def regTable_15_1 : List RegRow :=
  [
   -- LOGIC_MEM_DATA
   ⟨0x8003c, 0x0, [],
     [⟨0, 32, .RW, 0, 0xffffffff⟩]⟩,
   -- LOGIC_FRC_ADDR
   ⟨0x80800, 0x0, [(0x8, 256)],
     [⟨0, 16, .RW, 0, 0xffff⟩, ⟨16, 4, .RW, 0, 0xf⟩, ⟨20, 1, .RW, 0, 1⟩, ⟨21, 1, .RO, 0, 1⟩,
      ⟨22, 1, .RO, 0, 1⟩, ⟨31, 1, .RW, 0, 1⟩]⟩,
   -- LOGIC_FRC_VAL
   ⟨0x80804, 0x0, [(0x8, 256)],
     [⟨0, 32, .RW, 0, 0xffffffff⟩]⟩,
   -- LOGIC_IMAP_CFG
   ⟨0x81000, 0x0, [(0x8, 128)],
     [⟨0, 3, .RWT, 0, 7⟩]⟩,
   -- LOGIC_IMAP_ARG
   ⟨0x81004, 0x0, [(0x8, 128)],
     [⟨0, 32, .RWT, 0, 0xffffffff⟩]⟩,
   -- LOGIC_OMAP_CFG
   ⟨0x81800, 0x0, [(0x10, 128)],
     [⟨0, 3, .RWT, 0, 7⟩]⟩,
   -- LOGIC_OMAP_ARG
   ⟨0x81804, 0x0, [(0x10, 128)],
     [⟨0, 32, .RWT, 0, 0xffffffff⟩]⟩,
   -- LOGIC_OMAP_MASK
   ⟨0x81808, 0xffffffff, [(0x10, 128)],
     [⟨0, 32, .RWT, 0, 0xffffffff⟩]⟩,
   -- LOGIC_TEXEC_LAST
   ⟨0x80040, 0x0, [],
     [⟨0, 32, .RO, 0, 0xffffffff⟩]⟩,
   -- LOGIC_TEXEC_MAX
   ⟨0x80044, 0x0, [],
     [⟨0, 32, .RO, 0, 0xffffffff⟩]⟩,
   -- LOGIC_CNT_CYC
   ⟨0x80050, 0x0, [],
     [⟨0, 32, .RO, 0, 0xffffffff⟩]⟩,
   -- LOGIC_CNT_OVR
   ⟨0x80054, 0x0, [],
     [⟨0, 32, .RO, 0, 0xffffffff⟩]⟩]

/-- Registers of spec/15_station_logic.md. -/
def regTable_15_2 : List RegRow :=
  [
   -- LOGIC_CNT_XCHG
   ⟨0x80058, 0x0, [],
     [⟨0, 32, .RO, 0, 0xffffffff⟩]⟩,
   -- LOGIC_CNT_RET
   ⟨0x8005c, 0x0, [],
     [⟨0, 32, .RO, 0, 0xffffffff⟩]⟩,
   -- LOGIC_CNT_RETERR
   ⟨0x80060, 0x0, [],
     [⟨0, 32, .RO, 0, 0xffffffff⟩]⟩,
   -- LOGIC_CNT_ACCREJ
   ⟨0x80064, 0x0, [],
     [⟨0, 32, .RO, 0, 0xffffffff⟩]⟩,
   -- LOGIC_CNT_CANOK
   ⟨0x80068, 0x0, [],
     [⟨0, 32, .RO, 0, 0xffffffff⟩]⟩,
   -- LOGIC_CNT_CANERR
   ⟨0x8006c, 0x0, [],
     [⟨0, 32, .RO, 0, 0xffffffff⟩]⟩]

/-- Registers of spec/16_vesper_recorder.md. -/
def regTable_16_0 : List RegRow :=
  [
   -- VSP_CFG
   ⟨0x90008, 0x0, [],
     [⟨0, 16, .RW, 0, 0xffff⟩]⟩,
   -- VSP_STAT
   ⟨0x9000c, 0x0, [],
     [⟨0, 16, .RO, 0, 0xffff⟩, ⟨16, 16, .RO, 0, 0xffff⟩]⟩,
   -- VSP_CMD
   ⟨0x90010, 0x0, [],
     [⟨0, 16, .WO, 0, 0xffff⟩]⟩,
   -- VSP_DONE_TPL
   ⟨0x90014, 0x0, [],
     [⟨0, 1, .RWL, 0, 1⟩, ⟨5, 19, .RWL, 0, 0x7ffff⟩]⟩,
   -- VSP_FLAG
   ⟨0x90018, 0x0, [],
     [⟨0, 1, .W1C, 0, 1⟩]⟩,
   -- VSP_CNT_CLR
   ⟨0x9001c, 0x0, [],
     [⟨0, 1, .WO, 0, 1⟩]⟩,
   -- VSP_CH_CFG
   ⟨0x90100, 0x0, [(0x4, 64)],
     [⟨0, 3, .RW, 0, 7⟩, ⟨3, 5, .RW, 0, 0x1f⟩, ⟨8, 4, .RW, 0, 0xf⟩, ⟨12, 6, .RW, 0, 0x3f⟩]⟩,
   -- VSP_SEG_CFG
   ⟨0x90200, 0x0, [(0x40, 16)],
     [⟨0, 1, .RW, 0, 1⟩, ⟨1, 1, .RW, 0, 1⟩, ⟨16, 16, .RW, 0, 0xffff⟩]⟩,
   -- VSP_SEG_MEM
   ⟨0x90204, 0x0, [(0x40, 16)],
     [⟨0, 11, .RW, 0, 0x7ff⟩, ⟨16, 12, .RW, 0, 0xfff⟩]⟩,
   -- VSP_SEG_CHLO
   ⟨0x90208, 0x0, [(0x40, 16)],
     [⟨0, 32, .RW, 0, 0xffffffff⟩]⟩,
   -- VSP_SEG_CHHI
   ⟨0x9020c, 0x0, [(0x40, 16)],
     [⟨0, 32, .RW, 0, 0xffffffff⟩]⟩,
   -- VSP_SEG_POST
   ⟨0x90210, 0x0, [(0x40, 16)],
     [⟨0, 23, .RW, 0, 0x7fffff⟩]⟩]

/-- Registers of spec/16_vesper_recorder.md. -/
def regTable_16_1 : List RegRow :=
  [
   -- VSP_SEG_TRIG
   ⟨0x90214, 0x0, [(0x40, 16)],
     [⟨0, 8, .RW, 0, 0xff⟩, ⟨8, 1, .RW, 0, 1⟩]⟩,
   -- VSP_SEG_CMD
   ⟨0x90218, 0x0, [(0x40, 16)],
     [⟨0, 3, .WO, 0, 7⟩]⟩,
   -- VSP_SEG_STAT
   ⟨0x9021c, 0x0, [(0x40, 16)],
     [⟨0, 3, .RO, 0, 7⟩, ⟨4, 4, .RO, 0, 0xf⟩, ⟨8, 1, .W1C, 0, 1⟩, ⟨9, 1, .W1C, 0, 1⟩]⟩,
   -- VSP_SEG_MISS_NS
   ⟨0x90228, 0x0, [(0x40, 16)],
     [⟨0, 30, .RO, 0, 0x3fffffff⟩]⟩,
   -- VSP_SEG_MISS_SEC
   ⟨0x9022c, 0x0, [(0x40, 16)],
     [⟨0, 32, .RO, 0, 0xffffffff⟩]⟩,
   -- VSP_SEG_WR
   ⟨0x90230, 0x0, [(0x40, 16)],
     [⟨0, 32, .RO, 0, 0xffffffff⟩]⟩,
   -- VSP_TU_CFG
   ⟨0x90600, 0x0, [(0x10, 8)],
     [⟨0, 1, .RW, 0, 1⟩, ⟨1, 2, .RW, 0, 3⟩, ⟨3, 1, .RW, 0, 1⟩, ⟨4, 2, .RW, 0, 3⟩,
      ⟨6, 1, .RW, 0, 1⟩, ⟨7, 6, .RW, 0, 0x3f⟩]⟩,
   -- VSP_TU_TH
   ⟨0x90604, 0x0, [(0x10, 8)],
     [⟨0, 16, .RW, 0, 0xffff⟩, ⟨16, 16, .RW, 0, 0xffff⟩]⟩,
   -- VSP_TU_T1
   ⟨0x90608, 0x0, [(0x10, 8)],
     [⟨0, 32, .RW, 0, 0xffffffff⟩]⟩,
   -- VSP_TU_T2
   ⟨0x9060c, 0x0, [(0x10, 8)],
     [⟨0, 32, .RW, 0, 0xffffffff⟩]⟩,
   -- VSP_SEG_MISSED
   ⟨0x90220, 0x0, [(0x40, 16)],
     [⟨0, 32, .RO, 0, 0xffffffff⟩]⟩,
   -- VSP_SEG_MASKED
   ⟨0x90224, 0x0, [(0x40, 16)],
     [⟨0, 32, .RO, 0, 0xffffffff⟩]⟩]

/-- Registers of spec/17_analogue_inputs.md. -/
def regTable_17_0 : List RegRow :=
  [
   -- ADC_REF
   ⟨0xa0008, 0x0, [],
     [⟨0, 2, .RWL, 0, 2⟩, ⟨2, 1, .RO, 0, 1⟩]⟩,
   -- ADC_CMD
   ⟨0xa000c, 0x0, [],
     [⟨0, 4, .WO, 0, 0xf⟩, ⟨8, 8, .WO, 0, 0xff⟩]⟩,
   -- ADC_FLAG
   ⟨0xa0010, 0x0, [],
     [⟨0, 1, .W1C, 0, 1⟩]⟩,
   -- ADC_CHK
   ⟨0xa0014, 0x0, [],
     [⟨0, 4, .RO, 0, 0xf⟩, ⟨4, 3, .RO, 0, 7⟩]⟩,
   -- ADC_TEMP_CAL
   ⟨0xa0018, 0x0, [(0x4, 3)],
     [⟨0, 16, .RO, 0, 0xffff⟩]⟩,
   -- ADC_CFG
   ⟨0xa0100, 0x0, [(0x40, 8)],
     [⟨0, 6, .RWT, 0, 0x27⟩, ⟨6, 1, .RWL, 0, 1⟩, ⟨7, 1, .RWL, 0, 1⟩]⟩,
   -- ADC_CTRL
   ⟨0xa0104, 0x0, [(0x40, 8)],
     [⟨0, 1, .WO, 0, 1⟩, ⟨1, 1, .RW, 0, 1⟩]⟩,
   -- ADC_DATA
   ⟨0xa0108, 0x0, [(0x40, 8)],
     [⟨0, 16, .RO, 0, 0xffff⟩, ⟨16, 1, .RO, 0, 1⟩, ⟨17, 1, .RO, 0, 1⟩, ⟨18, 1, .RO, 0, 1⟩,
      ⟨19, 1, .RO, 0, 1⟩, ⟨20, 6, .RO, 0, 0x3f⟩, ⟨26, 6, .RO, 0, 0x3f⟩]⟩,
   -- ADC_PDATA
   ⟨0xa0400, 0x0, [(0x4, 4)],
     [⟨0, 16, .RO, 0, 0xffff⟩, ⟨16, 1, .RO, 0, 1⟩, ⟨17, 1, .RO, 0, 1⟩, ⟨18, 1, .RO, 0, 1⟩,
      ⟨19, 1, .RO, 0, 1⟩, ⟨20, 6, .RO, 0, 0x3f⟩, ⟨26, 6, .RO, 0, 0x3f⟩]⟩,
   -- ADC_STAT
   ⟨0xa010c, 0x12, [(0x40, 8)],
     [⟨0, 1, .RO, 0, 1⟩, ⟨1, 1, .RO, 0, 1⟩, ⟨2, 3, .RO, 0, 7⟩, ⟨8, 1, .W1C, 0, 1⟩,
      ⟨9, 1, .W1C, 0, 1⟩, ⟨10, 1, .W1C, 0, 1⟩, ⟨11, 1, .W1C, 0, 1⟩]⟩,
   -- ADC_FACT
   ⟨0xa0110, 0x8000, [(0x40, 8), (0x4, 5)],
     [⟨0, 16, .RW, 0, 0xffff⟩, ⟨16, 16, .RW, 0, 0xffff⟩]⟩,
   -- ADC_CNT_OVR
   ⟨0xa0124, 0x0, [(0x40, 8)],
     [⟨0, 32, .RO, 0, 0xffffffff⟩]⟩]

/-- Registers of spec/18_ethernet_and_time.md. -/
def regTable_18_0 : List RegRow :=
  [
   -- ETH_TIME_STAT
   ⟨0xb0008, 0x0, [],
     [⟨0, 1, .RO, 0, 1⟩, ⟨1, 1, .RO, 0, 1⟩, ⟨2, 1, .W1C, 0, 1⟩, ⟨3, 1, .W1C, 0, 1⟩,
      ⟨4, 1, .W1C, 0, 1⟩, ⟨5, 1, .W1C, 0, 1⟩, ⟨16, 16, .RO, 0, 0xffff⟩]⟩,
   -- ETH_FREQ
   ⟨0xb000c, 0x0, [],
     [⟨0, 32, .RW, 0, 0xffffffff⟩]⟩,
   -- ETH_SLEW
   ⟨0xb0010, 0x0, [],
     [⟨0, 32, .RW, 0, 0xffffffff⟩]⟩,
   -- ETH_SLEW_LEFT
   ⟨0xb0014, 0x0, [],
     [⟨0, 32, .RO, 0, 0xffffffff⟩]⟩,
   -- ETH_SLEW_RATE
   ⟨0xb0018, 0xa, [],
     [⟨0, 7, .RW, 1, 0x64⟩]⟩,
   -- ETH_STEP_SEC
   ⟨0xb001c, 0x0, [],
     [⟨0, 32, .RW, 0, 0xffffffff⟩]⟩,
   -- ETH_STEP_NS
   ⟨0xb0020, 0x0, [],
     [⟨0, 30, .RW, 0, 0x3fffffff⟩]⟩,
   -- ETH_STEP_CMD
   ⟨0xb0024, 0x0, [],
     [⟨0, 1, .WO, 0, 1⟩]⟩,
   -- ETH_PPS_CFG
   ⟨0xb0028, 0x190, [],
     [⟨0, 1, .RW, 0, 1⟩, ⟨1, 1, .RW, 0, 1⟩, ⟨2, 10, .RW, 1, 0x3e7⟩, ⟨12, 20, .RW, 0, 0xfffff⟩]⟩,
   -- ETH_PPSIN_NS
   ⟨0xb002c, 0x0, [],
     [⟨0, 30, .RO, 0, 0x3fffffff⟩]⟩,
   -- ETH_PPSIN_SEC
   ⟨0xb0030, 0x0, [],
     [⟨0, 32, .RO, 0, 0xffffffff⟩]⟩,
   -- ETH_EVT_TPL
   ⟨0xb0034, 0x0, [],
     [⟨0, 1, .RWL, 0, 1⟩, ⟨5, 19, .RWL, 0, 0x7ffff⟩]⟩]

/-- Registers of spec/18_ethernet_and_time.md. -/
def regTable_18_1 : List RegRow :=
  [
   -- ETH_GSE_BASE
   ⟨0xb0038, 0x0, [],
     [⟨8, 16, .RWL, 0, 0xffff⟩]⟩,
   -- ETH_SV_BASE
   ⟨0xb003c, 0x0, [],
     [⟨8, 16, .RWL, 0, 0xffff⟩]⟩,
   -- ETH_GSE_CHG
   ⟨0xb0040, 0x0, [],
     [⟨0, 32, .W1C, 0, 0xffffffff⟩]⟩,
   -- ETH_SV_CHG
   ⟨0xb0044, 0x0, [],
     [⟨0, 16, .W1C, 0, 0xffff⟩]⟩,
   -- ETH_PORT_CFG
   ⟨0xb0100, 0x4, [(0x80, 4)],
     [⟨0, 2, .RWL, 0, 2⟩, ⟨2, 1, .RWL, 0, 1⟩, ⟨3, 1, .RWL, 0, 1⟩]⟩,
   -- ETH_PORT_STAT
   ⟨0xb0104, 0x0, [(0x80, 4)],
     [⟨0, 1, .RO, 0, 1⟩, ⟨1, 1, .RO, 0, 1⟩, ⟨2, 1, .W1C, 0, 1⟩]⟩,
   -- ETH_LAT
   ⟨0xb0108, 0x1a00260, [(0x80, 4)],
     [⟨0, 16, .RW, 0, 0xffff⟩, ⟨16, 16, .RW, 0, 0xffff⟩]⟩,
   -- ETH_ASYM
   ⟨0xb010c, 0x0, [(0x80, 4)],
     [⟨0, 16, .RW, 0, 0xffff⟩]⟩,
   -- ETH_TSQ_HEAD
   ⟨0xb0110, 0x0, [(0x80, 4)],
     [⟨0, 16, .RO, 0, 0xffff⟩, ⟨16, 1, .RO, 0, 1⟩, ⟨17, 5, .RO, 0, 0x1f⟩]⟩,
   -- ETH_TSQ_NS
   ⟨0xb0114, 0x0, [(0x80, 4)],
     [⟨0, 30, .RO, 0, 0x3fffffff⟩]⟩,
   -- ETH_TSQ_SEC
   ⟨0xb0118, 0x0, [(0x80, 4)],
     [⟨0, 32, .RO, 0, 0xffffffff⟩]⟩,
   -- ETH_TSQ_FRAC
   ⟨0xb011c, 0x0, [(0x80, 4)],
     [⟨0, 16, .RO, 0, 0xffff⟩]⟩]

/-- Registers of spec/18_ethernet_and_time.md. -/
def regTable_18_2 : List RegRow :=
  [
   -- ETH_GSE_MAC
   ⟨0xb0400, 0x0, [(0x10, 32)],
     [⟨0, 32, .RWT, 0, 0xffffffff⟩]⟩,
   -- ETH_SV_MAC
   ⟨0xb0600, 0x0, [(0x10, 16)],
     [⟨0, 32, .RWT, 0, 0xffffffff⟩]⟩,
   -- ETH_GSE_ID
   ⟨0xb0404, 0x0, [(0x10, 32)],
     [⟨0, 16, .RWT, 0, 0xffff⟩, ⟨16, 16, .RWT, 0, 0xffff⟩]⟩,
   -- ETH_SV_ID
   ⟨0xb0604, 0x0, [(0x10, 16)],
     [⟨0, 16, .RWT, 0, 0xffff⟩, ⟨16, 16, .RWT, 0, 0xffff⟩]⟩,
   -- ETH_GSE_CFG
   ⟨0xb0408, 0x0, [(0x10, 32)],
     [⟨0, 1, .RWT, 0, 1⟩, ⟨1, 4, .RWT, 0, 0xf⟩, ⟨5, 1, .RWT, 0, 1⟩, ⟨6, 1, .RWT, 0, 1⟩]⟩,
   -- ETH_SV_CFG
   ⟨0xb0608, 0x3e80000, [(0x10, 16)],
     [⟨0, 1, .RWT, 0, 1⟩, ⟨1, 4, .RWT, 0, 0xf⟩, ⟨5, 1, .RWT, 0, 1⟩, ⟨6, 1, .RWT, 0, 1⟩,
      ⟨7, 3, .RWT, 0, 7⟩, ⟨16, 16, .RWT, 0, 0xffff⟩]⟩,
   -- ETH_CNT_DUP
   ⟨0xb004c, 0x0, [],
     [⟨0, 32, .RO, 0, 0xffffffff⟩]⟩,
   -- ETH_CNT_PARSE
   ⟨0xb0050, 0x0, [],
     [⟨0, 32, .RO, 0, 0xffffffff⟩]⟩,
   -- ETH_CNT_RXERR
   ⟨0xb0120, 0x0, [(0x80, 4)],
     [⟨0, 32, .RO, 0, 0xffffffff⟩]⟩,
   -- ETH_CNT_RXNOBUF
   ⟨0xb0124, 0x0, [(0x80, 4)],
     [⟨0, 32, .RO, 0, 0xffffffff⟩]⟩,
   -- ETH_CNT_RXOK
   ⟨0xb0128, 0x0, [(0x80, 4)],
     [⟨0, 32, .RO, 0, 0xffffffff⟩]⟩,
   -- ETH_CNT_TXOK
   ⟨0xb012c, 0x0, [(0x80, 4)],
     [⟨0, 32, .RO, 0, 0xffffffff⟩]⟩]

/-- Registers of spec/18_ethernet_and_time.md. -/
def regTable_18_3 : List RegRow :=
  [
   -- ETH_CNT_TSQOVF
   ⟨0xb0130, 0x0, [(0x80, 4)],
     [⟨0, 32, .RO, 0, 0xffffffff⟩]⟩,
   -- ETH_CNT_CLR
   ⟨0xb0048, 0x0, [],
     [⟨0, 1, .WO, 0, 1⟩]⟩,
   -- ETH_GSE_CONF
   ⟨0xb040c, 0x0, [(0x10, 32)],
     [⟨0, 32, .RWT, 0, 0xffffffff⟩]⟩,
   -- ETH_SV_CONF
   ⟨0xb060c, 0x0, [(0x10, 16)],
     [⟨0, 32, .RWT, 0, 0xffffffff⟩]⟩]

/-- Registers of spec/19_can.md. -/
def regTable_19_0 : List RegRow :=
  [
   -- CAN_CORR_CMD
   ⟨0xc0008, 0x0, [],
     [⟨0, 1, .WO, 0, 1⟩]⟩,
   -- CAN_CORR_CNT
   ⟨0xc000c, 0x0, [],
     [⟨0, 32, .RO, 0, 0xffffffff⟩]⟩,
   -- CAN_CORR_NS
   ⟨0xc0010, 0x0, [],
     [⟨0, 30, .RO, 0, 0x3fffffff⟩]⟩,
   -- CAN_CORR_SEC
   ⟨0xc0014, 0x0, [],
     [⟨0, 32, .RO, 0, 0xffffffff⟩]⟩,
   -- CAN_CNT_CLR
   ⟨0xc0018, 0x0, [],
     [⟨0, 1, .WO, 0, 1⟩]⟩,
   -- CAN_CTRL
   ⟨0xc0100, 0x0, [(0x400, 2)],
     [⟨0, 1, .RW, 0, 1⟩, ⟨1, 1, .RW, 0, 1⟩, ⟨2, 1, .RWL, 0, 1⟩, ⟨3, 1, .RWL, 0, 1⟩,
      ⟨4, 1, .RW, 0, 1⟩, ⟨5, 1, .RW, 0, 1⟩, ⟨6, 1, .W1S, 0, 1⟩]⟩,
   -- CAN_NBT
   ⟨0xc0104, 0x830e07, [(0x400, 2)],
     [⟨0, 8, .RWL, 0, 0xff⟩, ⟨8, 8, .RWL, 0, 0xff⟩, ⟨16, 7, .RWL, 0, 0x7f⟩, ⟨23, 7, .RWL, 0, 0x7f⟩]⟩,
   -- CAN_DBT
   ⟨0xc0108, 0x5ccd40, [(0x400, 2)],
     [⟨0, 5, .RWL, 0, 0x1f⟩, ⟨5, 5, .RWL, 0, 0x1f⟩, ⟨10, 4, .RWL, 0, 0xf⟩, ⟨14, 4, .RWL, 0, 0xf⟩,
      ⟨18, 1, .RWL, 0, 1⟩, ⟨19, 7, .RWL, 0, 0x7f⟩]⟩,
   -- CAN_SYNC
   ⟨0xc010c, 0x80, [(0x400, 2)],
     [⟨0, 29, .RW, 0, 0x1fffffff⟩, ⟨29, 1, .RW, 0, 1⟩]⟩,
   -- CAN_STAT
   ⟨0xc0110, 0x0, [(0x400, 2)],
     [⟨0, 2, .RO, 0, 3⟩, ⟨2, 1, .RO, 0, 1⟩, ⟨3, 1, .RO, 0, 1⟩, ⟨4, 8, .RO, 0, 0xff⟩,
      ⟨12, 8, .RO, 0, 0xff⟩, ⟨20, 6, .RO, 0, 0x3f⟩, ⟨26, 1, .W1C, 0, 1⟩, ⟨27, 1, .W1C, 0, 1⟩,
      ⟨28, 1, .W1C, 0, 1⟩, ⟨29, 3, .RO, 0, 7⟩]⟩,
   -- CAN_FILT_ID
   ⟨0xc0200, 0x0, [(0x400, 2), (0x8, 32)],
     [⟨0, 29, .RWT, 0, 0x1fffffff⟩, ⟨29, 1, .RWT, 0, 1⟩, ⟨30, 1, .RWT, 0, 1⟩, ⟨31, 1, .RWT, 0, 1⟩]⟩,
   -- CAN_FILT_MASK
   ⟨0xc0204, 0x0, [(0x400, 2), (0x8, 32)],
     [⟨0, 29, .RWT, 0, 0x1fffffff⟩, ⟨29, 1, .RWT, 0, 1⟩]⟩]

/-- Registers of spec/19_can.md. -/
def regTable_19_1 : List RegRow :=
  [
   -- CAN_CNT_TXOK
   ⟨0xc0120, 0x0, [(0x400, 2)],
     [⟨0, 32, .RO, 0, 0xffffffff⟩]⟩,
   -- CAN_CNT_RXOK
   ⟨0xc0124, 0x0, [(0x400, 2)],
     [⟨0, 32, .RO, 0, 0xffffffff⟩]⟩,
   -- CAN_CNT_RXOVF
   ⟨0xc0128, 0x0, [(0x400, 2)],
     [⟨0, 32, .RO, 0, 0xffffffff⟩]⟩,
   -- CAN_CNT_RXNOMATCH
   ⟨0xc012c, 0x0, [(0x400, 2)],
     [⟨0, 32, .RO, 0, 0xffffffff⟩]⟩,
   -- CAN_CNT_BUSOFF
   ⟨0xc0130, 0x0, [(0x400, 2)],
     [⟨0, 32, .RO, 0, 0xffffffff⟩]⟩]

/-- Registers of spec/20_starts_and_images.md. -/
def regTable_20_0 : List RegRow :=
  [
   -- DEV_RST_CAUSE
   ⟨0x14, 0x1, [],
     [⟨0, 3, .RO, 0, 7⟩, ⟨3, 1, .RO, 0, 1⟩]⟩,
   -- DEV_RESET
   ⟨0x18, 0x0, [],
     [⟨0, 16, .WO, 0, 0xffff⟩, ⟨16, 1, .WO, 0, 1⟩]⟩,
   -- DEV_START
   ⟨0x1c, 0x0, [],
     [⟨0, 1, .RO, 0, 1⟩, ⟨1, 2, .RO, 0, 3⟩, ⟨3, 5, .RO, 0, 0x1f⟩, ⟨8, 12, .RO, 0, 0xfff⟩]⟩,
   -- DEV_IMG
   ⟨0x20, 0x0, [],
     [⟨0, 1, .RO, 0, 1⟩, ⟨1, 2, .RO, 0, 3⟩, ⟨3, 2, .RO, 0, 3⟩, ⟨5, 3, .RO, 0, 7⟩,
      ⟨8, 1, .W1C, 0, 1⟩, ⟨9, 1, .W1C, 0, 1⟩]⟩,
   -- DEV_IMG_VER
   ⟨0x24, 0x0, [],
     [⟨0, 32, .RO, 0, 0xffffffff⟩]⟩,
   -- DEV_OTP_STAT
   ⟨0x28, 0x0, [],
     [⟨0, 8, .RO, 0, 0xff⟩, ⟨8, 8, .RO, 0, 0xff⟩, ⟨16, 1, .RO, 0, 1⟩, ⟨17, 1, .W1C, 0, 1⟩,
      ⟨18, 1, .W1C, 0, 1⟩]⟩,
   -- DEV_OTP_CMD
   ⟨0x2c, 0x0, [],
     [⟨0, 2, .WO, 0, 3⟩, ⟨2, 3, .WO, 0, 7⟩]⟩,
   -- DEV_OTP_DATA
   ⟨0x40, 0x0, [(0x4, 8)],
     [⟨0, 32, .RW, 0, 0xffffffff⟩]⟩]

/-- Registers of spec/21_electrical_and_package.md. -/
def regTable_21_0 : List RegRow :=
  [
   -- DEV_SSC
   ⟨0x30, 0x10, [],
     [⟨0, 1, .RWL, 0, 1⟩, ⟨1, 4, .RWL, 1, 8⟩]⟩,
   -- DEV_IO
   ⟨0x34, 0x11, [],
     [⟨0, 2, .RW, 0, 3⟩, ⟨4, 2, .RW, 0, 3⟩, ⟨8, 1, .RO, 0, 1⟩, ⟨9, 1, .RO, 0, 1⟩,
      ⟨10, 1, .RO, 0, 1⟩]⟩]

/-- Every register of the manual (R5, R6, R9). -/
def regTable : List RegRow :=
  regTable_00_0 ++ regTable_00_1 ++ regTable_00_2 ++ regTable_01_0 ++
  regTable_02_0 ++ regTable_02_1 ++ regTable_02_2 ++ regTable_03_0 ++
  regTable_03_1 ++ regTable_04_0 ++ regTable_04_1 ++ regTable_05_0 ++
  regTable_05_1 ++ regTable_06_0 ++ regTable_06_1 ++ regTable_07_0 ++
  regTable_07_1 ++ regTable_09_0 ++ regTable_09_1 ++ regTable_09_2 ++
  regTable_10_0 ++ regTable_10_1 ++ regTable_10_2 ++ regTable_10_3 ++
  regTable_11_0 ++ regTable_11_1 ++ regTable_12_0 ++ regTable_12_1 ++
  regTable_12_2 ++ regTable_13_0 ++ regTable_13_1 ++ regTable_14_0 ++
  regTable_14_1 ++ regTable_15_0 ++ regTable_15_1 ++ regTable_15_2 ++
  regTable_16_0 ++ regTable_16_1 ++ regTable_17_0 ++ regTable_18_0 ++
  regTable_18_1 ++ regTable_18_2 ++ regTable_18_3 ++ regTable_19_0 ++
  regTable_19_1 ++ regTable_20_0 ++ regTable_21_0

end Sys2Proof.Machine
end

