-- ==== Sys2Proof/Machine/Reg.lean ====
section
/-! DEFINITION. A register by its BAR0 offset: its row of the register tables, its word, and
what a write does to it by the access codes of its fields (R6). -/

namespace Sys2Proof.Machine

open Sys2Proof

/-- An offset from a register's first instance hits an instance: strides and counts, outer
index first. -/
def dimHit : List (Nat × Nat) → Nat → Bool
  | [], d => d = 0
  | (st, n) :: r, d => decide (d / st < n) && dimHit r (d % st)

/-- The row of the register at an offset, if a register lies there. -/
def regRow? (a : Nat) : Option RegRow :=
  regTable.find? (fun r => decide (r.addr ≤ a) && dimHit r.dims (a - r.addr))

/-- The whole register at an offset, for an origin of access (R58). -/
def rawFld (a org : Nat) (r : RegRow) : Fld :=
  { addr := a + Config.originStride * org, rst := r.rst, lo := 0, w := 32 }

/-- Registers of which every origin has its own: the staging and snapshot registers of TIME and
the port registers of the logic engine memory (R58, R448). -/
def perOrigin (a : Nat) : Bool :=
  (0x10020 ≤ a && a < 0x10040) || (0x10080 ≤ a && a < 0x1009C) || a = R.LOGIC_MEM_ADDR.addr

/-- The origin under which the register at an offset is held. -/
def orgOf (a org : Nat) : Nat := if perOrigin a then org else 0

/-- The stored word of the register at an offset; 0 where none lies (R321). -/
def State.raw (s : State) (a : Nat) : Nat :=
  match regRow? a with
  | some r => s.word (rawFld a 0 r)
  | none => 0

/-- The stored word of a register written by the hardware. -/
def State.rawSet (s : State) (a v : Nat) : State :=
  match regRow? a with
  | some r => s.set (rawFld a 0 r) v
  | none => s

/-- The mask of a register's bits with an access code. -/
def RegRow.maskOf (r : RegRow) (c : Acc) : Nat :=
  r.fields.foldl (fun m f => if f.acc = c then m ||| (2 ^ f.w - 1) * 2 ^ f.lo else m) 0

/-- The mask of a register's defined bits. -/
def RegRow.maskAll (r : RegRow) : Nat :=
  r.fields.foldl (fun m f => m ||| (2 ^ f.w - 1) * 2 ^ f.lo) 0

/-- How a write reaches a register: directly, or as an entry of a configuration transaction
(R6, R352). -/
inductive Via
  | direct
  | txn
  deriving DecidableEq, Repr

/-- A field takes a written value: RW always, RWL in CONFIG, RWT by a transaction (R6, R352). -/
def FAcc.takes (f : FAcc) (config : Bool) (v : Via) : Bool :=
  match f.acc with
  | .RW => true
  | .RWL => config
  | .RWT => v = .txn
  | _ => false

/-- One field of a word under a write: `old` the word, then mask and data (R6). A value outside
the range that the tables give leaves the field unchanged. -/
def FAcc.write (f : FAcc) (config : Bool) (v : Via) (mask data old : Nat) : Nat :=
  let m := bits mask f.lo f.w
  let cur := bits old f.lo f.w
  let d := bits data f.lo f.w
  if f.takes config v then
    let n := (cur &&& (m ^^^ (2 ^ f.w - 1))) ||| (d &&& m)
    if f.min ≤ n && n ≤ f.max then setBits old f.lo f.w n else old
  else match f.acc with
    | .W1C => setBits old f.lo f.w (cur &&& ((d &&& m) ^^^ (2 ^ f.w - 1)))
    | .W1S => setBits old f.lo f.w (cur ||| (d &&& m))
    | _ => old

/-- A register's word after a write (R6). -/
def RegRow.write (r : RegRow) (config : Bool) (v : Via) (mask data old : Nat) : Nat :=
  r.fields.foldl (fun w f => f.write config v mask data w) old

end Sys2Proof.Machine
end

