-- ==== Sys2Proof/Machine/Pair.lean ====
section
/-! DEFINITION. The pair: the interlock and claims of ACT (R381 to R388, R404), roles (R387,
R389), the mirror link (R380, R390 to R392), time alignment (R394 to R396), readiness (R386,
R402) and the HEALTH record. -/

namespace Sys2Proof.Machine

open Sys2Proof

/-- PAIR's hidden state changed. -/
def State.pr (s : State) (f : PairS → PairS) : State := { s with pair := f s.pair }

/-! ## Roles and ACT -/

/-- The role changes, with the ROLE event (R346, R387). -/
def State.setRole (s : State) (r : Role) : State :=
  if s.role = r then s else (s.set F.PAIR_STAT_ROLE r.code).evt .role

/-- ACT_IN is seen high. -/
def State.actIn (s : State) : Bool := s.on F.PAIR_STAT_ACT_IN

/-- PAIR_ACT_OUT is driven high (R382). -/
def State.actOut (s : State) : Bool := s.on F.PAIR_STAT_ACT_OUT

/-- PAIR_ACT_OUT falls (R382). -/
def State.dropAct (s : State) : State :=
  if s.actOut then (s.set F.PAIR_STAT_ACT_OUT 0).emit (.pin "PAIR_ACT_OUT" false) else s

/-- This device stops relaying strings (R145). -/
def State.relaysEnd (s : State) : State :=
  (List.range Config.strings).foldl (fun t n =>
    if (t.str n).relayOn.isSome then
      (t.setStr n { t.str n with relayOn := none, directAt := none, missAt := none }).set
        (F.STR_STAT_RELAY n) 0
    else t) s

/-- The role becomes NIGHTWATCH or LEAVING: launches stop and strings reflect, the engines of
R389 stop (R154, R297, R317, R463). The FINAL capture of a LEAVING device is its own last one
(notes/assumptions/104.md). -/
def State.toWatch (s : State) (r : Role) : State :=
  let s := s.when (r = .leaving) (·.pr (fun p => { p with capRun := s.get F.TRIP_ARM_ARM_RUN }))
  let s := (s.setRole r).relaysEnd
  (((s.strsWatch).slotsIdle).tuneCheck).logicAway

/-- A claim of ACT is lost by the side rule (R384, R385). -/
def State.claimLost (s : State) : State :=
  let s := (s.dropAct).flag F.PAIR_FLAG_CLAIM_LOST
  (s.pr (fun p => { p with claim := .none, won := false, finalClaim := false })).toWatch .nightwatch

/-- The assertion of a claim (R384, R404). -/
def State.claimAssert (s : State) : State :=
  let s := (s.set F.PAIR_STAT_ACT_OUT 1).emit (.pin "PAIR_ACT_OUT" true)
  let s := (s.set F.PAIR_EPOCH_SIDE s.sideBit).set F.PAIR_EPOCH_EPOCH
    ((s.get F.PAIR_EPOCH_EPOCH + 1) % 256)
  (s.pr (fun p => { p with claim := .confirm, heldAct := true, rxSegs := [] })).setRole .claiming

/-- A guard starts (R384). -/
def State.guardStart (s : State) : State := s.pr (fun p => { p with claim := .guard })

/-- ACT_IN is seen high (R381, R384, R385, R387). -/
def State.actHigh (s : State) : State :=
  let s := (s.set F.PAIR_STAT_ACT_IN 1).pr (fun p => { p with seenHigh := true })
  match s.pair.claim with
  | .guard | .veto =>
    let s := s.pr (fun p => { p with claim := .none, finalClaim := false })
    if s.role = .leaving then (s.toWatch .nightwatch).inc R.PAIR_CNT_HO else s
  | .confirm => if s.straps.side then s.claimLost else s
  | .none =>
    if s.actOut then (if s.straps.side then s.claimLost else s)
    else if s.role = .leaving then (s.toWatch .nightwatch).inc R.PAIR_CNT_HO
    else s

/-- ACT_IN has been low for 100 ns (R381): a NIGHTWATCH that is armed, or that has applied a
FINAL capture, starts a claim (R387, R413). -/
def State.actLow (s : State) : State :=
  let was := s.actIn
  let s := s.set F.PAIR_STAT_ACT_IN 0
  if was && s.role = .nightwatch && s.pair.claim = .none &&
      (s.on F.PAIR_STAT_TAKE_ARMED || s.pair.finalClaim) then s.guardStart
  else s

/-- The guard of an initial claim starts (R388). -/
def State.initialClaim (s : State) : State :=
  if s.live && s.role = .nightwatch && !s.pair.seenHigh && !s.pair.heldAct &&
      s.pair.claim = .none && !s.actIn then s.guardStart
  else s

/-- A HEALTH reporting ACT has arrived within the last 1.2 P, with the link UP (R384). -/
def State.vetoed (s : State) : Bool :=
  s.linkUp && (match s.pair.actAt with
    | some t => decide ((s.time.cyc - t) * 10 < 12 * s.P)
    | none => false)

/-- 2 µs of low ACT_IN: the veto, then the assertion (R384). -/
def State.guardEnd (s : State) : State :=
  if s.pair.claim = .guard && !s.actIn then
    (if s.vetoed then s.pr (fun p => { p with claim := .veto }) else s.claimAssert)
  else s

/-- The veto wait ends (R384). -/
def State.vetoEnd (s : State) : State :=
  if s.pair.claim = .veto && !s.actIn && !s.vetoed then s.claimAssert else s

/-- Nanoseconds until no HEALTH reporting ACT is younger than 1.2 P. -/
def State.vetoLeft (s : State) : Nat :=
  match s.pair.actAt with
  | some t => (12 * s.P + 9) / 10 - (s.time.cyc - t)
  | none => 0

/-- ACT_IN has stayed low for 200 ns after the assertion (R384). -/
def State.claimConfirm (s : State) : State :=
  if s.pair.claim = .confirm && !s.actIn then
    (s.pr (fun p => { p with claim := .none, won := true })).inc R.PAIR_CNT_CLAIM
  else s

/-- ACT_IN is still low 4P after PAIR_ACT_OUT fell: LEAVING claims again (R387). -/
def State.leavingReclaim (s : State) : State :=
  if s.role = .leaving && !s.actOut && !s.actIn && s.pair.claim = .none then s.guardStart else s

/-- The device enters READY: NIGHTWATCH (R387). -/
def State.pairReady (s : State) : State :=
  let s := s.pr (fun p => { p with claim := .none, won := false, finalClaim := false,
                                   seenHigh := s.actIn, heldAct := false, okRun := 0, badRun := 0 })
  (s.setRole .nightwatch).strsWatch

/-- The device leaves READY and RUN: no role, PAIR_ACT_OUT low (R24, R382, R387). -/
def State.pairLeave (s : State) : State :=
  let s := (s.dropAct).pr (fun p => { p with claim := .none, won := false, finalClaim := false,
                                             hoAt := none, asked := none, holdAt := none, sendLeft := 0,
                                             capRun := 0 })
  let s := (s.relaysEnd).set F.PAIR_STAT_HO_PEND 0
  s.setRole .none

/-! ## The mirror link -/

/-- VERS that this device offers under MLVMAX (R391). -/
def State.myVers (s : State) : Nat := if s.get F.PAIR_CFG_MLVMAX = 1 then 1 else 3

/-- The partner of a mirror lane has a finding that keeps the link from coming UP (R380). -/
def State.peerClash (s : State) (p : Nat × Nat × Nat) : Bool :=
  p.2.2 ≠ s.get F.PAIR_CFG_PAIR_ID || bit p.2.1 0 = s.straps.side

/-- The mirror lane of an index is UP with its exchange complete. -/
def State.mirUp (s : State) (i : Nat) : Bool :=
  match s.mirLane? i with
  | some l => s.lst l = .up && s.pair.peers.any (fun e => e.1 = i)
  | none => false

/-- The version the link would use: 0 for none (R391). -/
def State.mirVers (s : State) : Nat :=
  let v := s.pair.peers.foldl (fun a e => a &&& e.2.1) s.myVers
  if bit v 1 then 2 else if bit v 0 then 1 else 0

/-- LINK as R380 and R390 give it: 0 DOWN, 1 UP, 2 refused. -/
def State.linkWant (s : State) : Nat :=
  if s.pair.peers.any (fun e => s.peerClash e.2) then 2
  else if (List.range 4).all (fun i => s.mirUp i) && s.mirVers ≠ 0 then 1
  else 0

/-- The link comes UP (R394, R396, R399, R401). -/
def State.linkCome (s : State) : State :=
  let s := (s.set F.PAIR_STAT_LINK 1).set F.PAIR_STAT_MLVER s.mirVers
  let s := (s.set F.PAIR_STAT_ALIGNED 0).set F.PAIR_DLY_RLAG 0
  s.pr (fun p => { p with stepped := false, inBand := 0, outBand := 0, sentTs := [], rxTs := none,
                          peerSteps := none, peer := none, actAt := none, allDirty := true, rxSegs := [], ready := [],
                          badSeq := none, full := false, disagree := 0 })

/-- The link leaves UP (R387, R390, R394, R145): ACTIVE becomes ALONE, a veto ends. -/
def State.linkGo (s : State) (code : Nat) : State :=
  let s := (s.set F.PAIR_STAT_LINK code).set F.PAIR_STAT_MLVER 0
  let s := (s.set F.PAIR_DLY_RLAG 0).set F.PAIR_STAT_HO_PEND 0
  let s := (s.relaysEnd).pr (fun p => { p with sendLeft := 0, rxSegs := [], hoAt := none })
  let s := s.when (s.role = .active) (·.setRole .alone)
  s.vetoEnd

/-- The link brought up to date after a lane or an exchange has changed (R390). -/
def State.linkUpd (s : State) : State :=
  let s := s.pr (fun p => { p with peers := p.peers.filter (fun e =>
                                   match s.mirLane? e.1 with
                                   | some l => s.lst l = .up
                                   | none => false) })
  let w := s.linkWant
  if s.linkUp then (if w = 1 then s else s.linkGo w)
  else if w = 1 then s.linkCome
  else s.set F.PAIR_STAT_LINK w

/-- The findings of R380 in the body of an MHELLO or MREPLY on lane l. -/
def State.pairJudge (s : State) (l : Nat) (f : Bytes) : State :=
  let strap := fieldLE f 5 1
  let s := s.when (fieldLE f 8 2 ≠ s.get F.PAIR_CFG_PAIR_ID) (·.flag F.PAIR_FLAG_ID_CLASH)
  let s := s.when (bit strap 0 = s.straps.side) (·.flag F.PAIR_FLAG_SIDE_CLASH)
  let s := s.when (bit strap 1 && s.straps.home) (·.flag F.PAIR_FLAG_HOME_CLASH)
  s.when (fieldLE f 6 1 ≠ s.lidx l) (·.flag F.PAIR_FLAG_MIS_CABLE)

/-- A mirror lane takes frames: its role, synchronised, not DISABLED. -/
def State.mirIn (s : State) (l : Nat) : Bool :=
  s.lrole l = .mirror && s.on (F.LANE_STAT_SYNC l) && s.lst l ≠ .disabled

/-- An MHELLO (R90, R380). -/
def State.mhello (s : State) (l : Nat) (f : Bytes) : State :=
  if s.mirIn l && mirFrameOk 0x20 f && f.length = 28 then
    (s.pairJudge l f).sendMirror l (mirrorFrame 0x21 (s.mhelloBody l (fieldLE f 12 4)))
  else s

/-- An MREPLY to the lane's own MHELLO (R90, R380, R390): the lane comes UP unless its index
differs at the two ends. -/
def State.mreply (s : State) (l : Nat) (f : Bytes) : State :=
  if s.mirIn l && s.lst l = .hello && mirFrameOk 0x21 f && f.length = 28 &&
      fieldLE f 12 4 = (s.lane l).nonce then
    let s := s.pairJudge l f
    if fieldLE f 6 1 ≠ s.lidx l then s
    else
      let e := (fieldLE f 4 1 % 4, fieldLE f 5 1, fieldLE f 8 2)
      let i := s.lidx l
      let s := s.pr (fun p => { p with peers := sins p.peers i e })
      (s.laneUp l).linkUpd
  else s

/-- Body lengths of the mirror frames (R392): the length fits the type. -/
def State.mirLenOk (s : State) (f : Bytes) : Bool :=
  let n := fieldLE f 2 2
  n + 8 = f.length &&
  match fieldLE f 0 1 with
  | 0x20 | 0x21 => n = 20
  | 0x22 => n = 36
  | 0x23 => n = 28
  | 0x24 => decide (20 ≤ n) && n = 20 + fieldLE f 20 2 && n % 4 = 0 &&
      decide (n ≤ 20 + (if s.get F.PAIR_STAT_MLVER = 2 then 2048 else 1024))
  | 0x25 => n = 4 + 12 * fieldLE f 6 1
  | 0x26 => n = 8 + 2 * fieldLE f 6 1
  | 0x27 => decide (24 ≤ n)
  | 0x28 => n = (if s.get F.PAIR_STAT_MLVER = 2 then 16 else 12)
  | 0x29 => decide (8 ≤ n)
  | 0x2A => n = 12
  | _ => false

/-- A frame that R392 discards. -/
def State.mirBad (s : State) (f : Bytes) : Bool :=
  f.length < 8 || !s.mirLenOk f || !crc32Ok f

/-- A frame of a type arrives well on an UP mirror lane with the link UP. -/
def State.mirTakes (s : State) (l type : Nat) (f : Bytes) : Bool :=
  s.lrole l = .mirror && s.lst l = .up && s.linkUp && fieldLE f 0 1 = type && !s.mirBad f

/-- The body of a mirror frame. -/
def mirBody (f : Bytes) : Bytes := (f.drop 4).take (f.length - 8)

/-! ## Time alignment -/

/-- Mirror lane 0, or lane 0 where none has that index. -/
def State.mir0 (s : State) : Nat := (s.mirLane? 0).getD 0

/-- A time of a TSYNC: fraction, ns, low 32 bits of the seconds, in 2^-16 ns. -/
def tsTime (b : Bytes) (fr ns sec : Nat) : Nat :=
  (fieldLE b sec 4 * Config.nsPerSec + fieldLE b ns 4) * 2 ^ 16 + fieldLE b fr 2

/-- A difference of two such times, whose seconds count modulo 2^32. -/
def tsDiff (a b : Nat) : Int :=
  let m : Nat := 2 ^ 32 * Config.nsPerSec * 2 ^ 16
  let d := (a % m + m - b % m) % m
  if d < m / 2 then d else (d : Int) - m

/-- Fraction, ns and low seconds of a time in 2^-16 ns. -/
def tsFields (t : Nat) : Bytes × Bytes × Bytes :=
  let ns := t / 2 ^ 16
  (toLE 2 t, toLE 4 (ns % Config.nsPerSec), toLE 4 (ns / Config.nsPerSec))

/-- The TSYNC of an apply instant (R395). -/
def State.tsyncSend (s : State) : State :=
  let tx := s.now16 + s.tTx s.mir0 * 2 ^ 16
  let (f1, n1, s1) := tsFields tx
  let (ep, rx) := s.pair.rxTs.getD (0, 0)
  let (f2, n2, s2) := tsFields rx
  let b := toLE 8 s.time.pidx ++ toLE 2 (s.get F.TIME_PERIOD_STEPS) ++ f1 ++ n1 ++ s1 ++ f2 ++
    [0, 0] ++ n2 ++ s2 ++ toLE 4 ep
  (s.pr (fun p => { p with sentTs := ((s.time.pidx, tx) :: p.sentTs).take 8 })).mirSend 0 0x22 b

/-- ALIGNED by the run of TSYNCs inside ±5 ns, and RLAG when it first sets (R394, R396). -/
def State.alignUpd (s : State) (dm theta : Int) : State :=
  let inside := decide (theta.natAbs ≤ 5 * 2 ^ 16)
  let s := s.pr (fun p => if inside then { p with inBand := p.inBand + 1, outBand := 0 }
    else { p with inBand := 0, outBand := p.outBand + 1 })
  if s.pair.outBand ≥ 4 then s.set F.PAIR_STAT_ALIGNED 0
  else if s.pair.inBand ≥ 64 then
    let s := s.flag F.PAIR_STAT_ALIGNED
    if s.get F.PAIR_DLY_RLAG = 0 then
      let l := s.mir0
      let x := (s.tTx l + s.tRx l + 20) * 2 ^ 16 + dm.toNat
      s.set F.PAIR_DLY_RLAG (10 * ((x + 655359) / 655360))
    else s
  else s

/-- A TSYNC measured (R395): theta in 2^-16 ns where this device's own TSYNC is still at hand;
`ago` is 2^-16 ns since its start delimiter. -/
def State.tsyncMeasure (s : State) (f : Bytes) (ago : Nat) : Option Int × State :=
  let b := mirBody f
  let t1 := tsTime b 10 12 16
  let t2 := s.now16 - ago
  let s := s.pr (fun p => { p with rxTs := some (fieldLE b 0 4, t2),
                                   peerSteps := some (fieldLE b 8 2) })
  match s.pair.sentTs.find? (fun e => e.1 % 2 ^ 32 = fieldLE b 32 4) with
  | none => (none, s)
  | some (_, t3) =>
    let t4 := tsTime b 20 24 28
    let d21 := tsDiff t2 t1
    let d43 := tsDiff t4 t3
    let asym := sx 16 (s.get F.PAIR_ASYM_ASYM) * 2 ^ 16
    let dm := Int.fdiv (d21 + d43) 2
    let theta := Int.fdiv (d21 - d43 - asym) 2
    let s := s.set F.PAIR_DLY_DM (us 16 (rs dm 16))
    let s := s.set R.PAIR_OFS (us 32 (rs theta 12))
    (some theta, s.alignUpd dm theta)

/-- Whether this TSYNC makes the device step (R396). -/
def State.mustStep (s : State) (theta : Int) : Bool :=
  (s.role = .nightwatch || s.role = .leaving) && s.time.step.isNone &&
    (!s.pair.stepped || decide (theta.natAbs > 1000 * 2 ^ 16))

/-! ## HEALTH -/

/-- Number of strings in relay. -/
def State.relays (s : State) : Nat :=
  ((List.range Config.strings).filter (fun n => (s.str n).relayOn.isSome)).length

/-- The %Q bit INHQ inhibits, as published at the last cycle start, or INHIBIT does (R409). -/
def State.inhibited (s : State) : Bool :=
  s.on F.PAIR_RET_INHIBIT ||
    (s.on F.PAIR_RET_INHQ_EN && s.logic.qPub.testBit (s.get F.PAIR_RET_INHQ))

/-- The HEALTH body of this device (Health record). -/
def State.healthBody (s : State) : Bytes :=
  let act := b2n s.actOut
  toLE 4 s.time.pidx ++
  toLE 1 (s.get F.PAIR_STAT_ROLE + s.get F.DEV_STATE_STATE * 8 + act * 64 +
    b2n s.straps.home * 128) ++
  toLE 1 (s.get F.PAIR_EPOCH_EPOCH) ++
  toLE 1 (s.get F.PAIR_STAT_TAKE_OK + 2 * s.get F.PAIR_STAT_TAKE_ARMED + 4 * b2n s.inhibited +
    8 * s.get F.PAIR_EPOCH_SIDE) ++
  toLE 1 (s.get F.PAIR_STAT_NR) ++
  toLE 6 (ofBits 44 (fun n => s.strUp n)) ++
  toLE 2 (s.get F.PAIR_CKPT_STAT_SEQ) ++
  toLE 4 (if s.actOut then 0 else s.word R.PAIR_OFS) ++
  toLE 2 (s.get F.PAIR_CKPT_STAT_AGE) ++
  toLE 1 s.relays ++ [0] ++ toLE 4 (min s.memc.winUe (2 ^ 32 - 1))

/-- The HEALTH of an apply instant, shown in PAIR_HLTH_OWN. -/
def State.healthSend (s : State) : State :=
  let b := s.healthBody
  let s := (List.range 7).foldl (fun t w => t.set (R.PAIR_HLTH_OWN w) (fieldLE b (4 * w) 4)) s
  s.mirSend 0 0x23 b

/-- Bytes of the partner's latest HEALTH; all 0 before the first. -/
def State.peerB (s : State) (o k : Nat) : Nat := fieldLE (s.pair.peer.getD []) o k

/-- A HEALTH arrives (R384, R386, R387). -/
def State.health' (s : State) (l : Nat) (f : Bytes) : State :=
  if s.mirTakes l 0x23 f then
    let b := mirBody f
    let s := s.pr (fun p => { p with peer := some b,
                                     actAt := if bit (fieldLE b 4 1) 6 then some s.time.cyc else p.actAt })
    let s := (List.range 7).foldl (fun t w => t.set (R.PAIR_HLTH_PEER w) (fieldLE b (4 * w) 4)) s
    let s := s.set F.PAIR_STAT_PEER_TAKE_OK (fieldLE b 6 1 % 2)
    if s.role = .alone && bits (fieldLE b 4 1) 0 3 = 1 then
      (s.pr (fun p => { p with allDirty := true })).setRole .active
    else s
  else s

/-! ## Readiness -/

/-- ACT_IN and the partner's ACT bit at an apply instant (R386). -/
def State.wireCheck (s : State) : State :=
  if s.linkUp && s.pair.peer.isSome then
    let d := s.actIn ≠ bit (s.peerB 4 1) 6
    let s := s.pr (fun p => { p with disagree := if d then p.disagree + 1 else 0 })
    s.when (decide (s.pair.disagree ≥ 4)) (·.flag F.PAIR_FLAG_WIRE_FAULT)
  else s

/-- CKPT_OK (R401). -/
def State.ckptOk (s : State) : Bool :=
  s.pair.full && decide (s.pair.age ≤ 2 * s.get F.PAIR_CKPT_K)

/-- The not-ready bits (R402). -/
def State.nrBits (s : State) : Nat :=
  let state := s.role ≠ .nightwatch || s.pair.peer.isNone ||
    bits (s.peerB 4 1) 3 3 ≠ s.get F.DEV_STATE_STATE ||
    s.pair.peerSteps ≠ some (s.get F.TIME_PERIOD_STEPS)
  let timed := (List.range Config.strings).any (fun n =>
    s.sst n = .watch && !(s.str n).frets.isEmpty && !s.on (F.STR_STAT_B_TIMED n))
  let clash := s.on F.PAIR_FLAG_ID_CLASH || s.on F.PAIR_FLAG_SIDE_CLASH ||
    decide (s.pair.disagree ≥ 4)
  b2n (!s.linkUp) + 2 * b2n (!s.on F.PAIR_STAT_ALIGNED) + 4 * b2n (!s.ckptOk) + 8 * b2n timed +
    16 * b2n state + 32 * b2n clash + 64 * b2n (s.memc.winUe + s.memc.prevUe ≠ 0) +
    128 * s.get F.PAIR_CFG_NOTAKE

/-- NR, TAKE_OK and TAKE_ARMED at an apply instant, and the hold-off of a home NIGHTWATCH
(R402, R409). -/
def State.readiness (s : State) : State :=
  let nr := s.nrBits
  let ok : Bool := nr = 0
  let s := (s.set F.PAIR_STAT_NR nr).set F.PAIR_STAT_TAKE_OK (b2n ok)
  let s := s.pr (fun p => if ok then { p with okRun := p.okRun + 1, badRun := 0 }
    else { p with okRun := 0, badRun := p.badRun + 1 })
  let s := if s.pair.okRun ≥ 16 then s.flag F.PAIR_STAT_TAKE_ARMED
    else if s.pair.badRun ≥ 4 then s.set F.PAIR_STAT_TAKE_ARMED 0 else s
  s.pr (fun p => { p with holdAt :=
                          if ok && s.straps.home && s.role = .nightwatch then some (p.holdAt.getD s.time.cyc) else none })

/-- The hold-off starts again (R409). -/
def State.holdAgain (s : State) : State :=
  s.pr (fun p => { p with holdAt := p.holdAt.map (fun _ => s.time.cyc) })

/-- HOLD_LEFT: seconds of hold-off remaining (PAIR_HO_STAT). -/
def State.holdLeft (s : State) : Nat :=
  match s.pair.holdAt with
  | some t =>
    let h := max 1 (s.get F.PAIR_RET_HOLDOFF) * Config.nsPerSec
    (h - (s.time.cyc - t) + Config.nsPerSec - 1) / Config.nsPerSec
  | none => 0

/-! ## Checks -/

/-- The regions in use: index, offset in shared SRAM, size (PAIR_REG_BASE, PAIR_REG_SIZE). -/
def State.pairRegions (s : State) : List (Nat × Nat × Nat) :=
  ((List.range 16).filter (fun j => s.get (F.PAIR_REG_SIZE_VALUE j) ≠ 0)).map (fun j =>
    (j, s.get (F.PAIR_REG_BASE_VALUE j) * 64, s.get (F.PAIR_REG_SIZE_VALUE j) * 64))

/-- PAIR_CHK's code and REGION at GO_READY; the areas of R368 are given. -/
def State.pairCheck (s : State) (areas : List (Nat × Nat × Nat)) : Option (Nat × Nat) :=
  let rs := s.pairRegions
  let sum (n : Nat) : Nat := total ((rs.take n).map (·.2.2))
  match (List.range rs.length).find? (fun i => decide (sum (i + 1) > 0x100000)) with
  | some i => some (1, (nth rs (0, 0, 0) i).1)
  | none =>
    match rs.find? (fun r => decide (r.2.1 + r.2.2 > sramSize)) with
    | some r => some (2, r.1)
    | none =>
      match (List.range rs.length).find? (fun i => (rs.take i).any (fun r =>
        overlap r.2.1 r.2.2 (nth rs (0, 0, 0) i).2.1 (nth rs (0, 0, 0) i).2.2)) with
      | some i => some (3, (nth rs (0, 0, 0) i).1)
      | none =>
        (rs.find? (fun r => areas.any (fun a => overlap a.2.1 a.2.2 r.2.1 r.2.2))).map
          (fun r => (4, r.1))

/-- PAIR_CNT_CLR. -/
def State.pairCntClr (s : State) : State :=
  s.zero [R.PAIR_CNT_CLAIM, R.PAIR_CNT_CKPT, R.PAIR_CNT_CKBAD, R.PAIR_CNT_MERR, R.PAIR_CNT_HO]

end Sys2Proof.Machine
end

