-- ==== Sys2Proof/Machine/Ckpt.lean ====
section
/-! DEFINITION. Checkpoints (R398 to R401, R465), return and handover (R409 to R413), takeover
(R406), relay (R145 to R149, R408) and the exchange of a string's map and delays (R118, R119)
between the devices of a pair. -/

namespace Sys2Proof.Machine

open Sys2Proof

/-! ## The images of a capture -/

/-- MODE of slot k in a capture: a tuning slot's entry mode (R319, R398). -/
def State.capMode (s : State) (k : Nat) : Nat :=
  match s.ceng.tune with
  | some t => if t.slot = k then t.entry else s.slotMode k
  | none => s.slotMode k

/-- A word of the KIND 0x1 image (Checkpoints). -/
def State.img1 (s : State) (o : Nat) : Nat :=
  if o < 0xC00 then
    let k := o / 96
    let r := o % 96
    if r < 64 then
      (if r = 0x2C then setBits (s.raw (0x40100 + 0x40 * k + r)) 0 2 (s.capMode k)
       else s.raw (0x40100 + 0x40 * k + r))
    else
      let x := s.slot k
      match (r - 64) / 4 with
      | 0 => s.capMode k
      | 1 => x.integ
      | 2 => x.latch.getD 0
      | 3 => s.word (R.CENG_OUT k)
      | 4 => nth x.good 0 0
      | 5 => nth x.good 0 1
      | 6 => nth x.good 0 2
      | _ => 0
  else if o < 0xC20 then
    match (o - 0xC00) / 4 with
    | 0 => s.word R.CENG_TUNE_CFG
    | 1 => s.word R.CENG_TUNE_LIM
    | 2 => s.word R.CENG_TUNE_D
    | 3 => s.word R.CENG_TUNE_H
    | 4 => s.word R.CENG_TUNE_EMAX
    | _ => 0
  else if 0x1000 ≤ o && o < 0x5000 then s.raw (0x44000 + (o - 0x1000))
  else 0

/-- A word of the KIND 0x1 image taken over. -/
def State.img1Put (s : State) (o v : Nat) : State :=
  if o < 0xC00 then
    let k := o / 96
    let r := o % 96
    if r < 64 then s.rawSet (0x40100 + 0x40 * k + r) v
    else
      let x := s.slot k
      match (r - 64) / 4 with
      | 0 => s.set (F.CENG_MODE_MODE k) v
      | 1 => (s.setSlot k { x with integ := v, resume := none }).set (R.CENG_INT k) v
      | 2 => s.setSlot k { x with latch := some v }
      | 3 => (s.setSlot k { x with held := v }).set (R.CENG_OUT k) v
      | 4 => s.setSlot k { x with good := setNth x.good 0 v }
      | 5 => s.setSlot k { x with good := setNth x.good 1 v }
      | 6 => s.setSlot k { x with good := setNth x.good 2 v }
      | _ => s
  else if o < 0xC20 then
    match (o - 0xC00) / 4 with
    | 0 => s.set R.CENG_TUNE_CFG v
    | 1 => s.set R.CENG_TUNE_LIM v
    | 2 => s.set R.CENG_TUNE_D v
    | 3 => s.set R.CENG_TUNE_H v
    | 4 => s.set R.CENG_TUNE_EMAX v
    | _ => s
  else if 0x1000 ≤ o && o < 0x5000 then s.rawSet (0x44000 + (o - 0x1000)) v
  else s

/-- A part of a capture: KIND, OFS, payload. -/
structure Chunk where
  kind : Nat
  ofs : Nat
  data : Bytes
  deriving DecidableEq, Repr

/-- Adjacent parts of one kind joined, as far as a payload may hold them. -/
def joinChunks (most : Nat) : List Chunk → List Chunk
  | [] => []
  | c :: r =>
    match joinChunks most r with
    | d :: r' =>
      if c.kind = d.kind && c.ofs + c.data.length = d.ofs && c.data.length + d.data.length ≤ most
      then ⟨c.kind, c.ofs, c.data ++ d.data⟩ :: r' else c :: d :: r'
    | [] => [c]

/-- A byte string cut into payloads. -/
def cutChunks (kind most : Nat) : Nat → Nat → Bytes → List Chunk
  | 0, _, _ => []
  | fuel + 1, ofs, b =>
    if b.length = 0 then []
    else ⟨kind, ofs, b.take most⟩ :: cutChunks kind most fuel (ofs + most) (b.drop most)

/-- A granule that a capture may carry: its kind, its offset in the kind's image, and where it
is tracked: 0 gain tables, 1 shared SRAM, 2 logic image; with its number there. -/
structure Gran where
  kind : Nat
  ofs : Nat
  track : Nat
  key : Nat
  deriving DecidableEq, Repr

/-- Every granule in the fill order of R399 and R465: gain tables, mirrored regions, logic
image, retained image. -/
def State.grans (s : State) : List Gran :=
  (List.range 256).map (fun g => ⟨1, 0x1000 + 64 * g, 0, g⟩) ++
  s.pairRegions.flatMap (fun r => (List.range (r.2.2 / 64)).map (fun i =>
    ⟨3, r.2.1 + 64 * i, 1, (sramBase + r.2.1) / 64 + i⟩)) ++
  (List.range 768).map (fun g => ⟨4, 64 * g, 2, logicBase / 64 + g⟩) ++
  (List.range 64).map (fun g => ⟨5, 64 * g, 2, (logicBase + 0xC000) / 64 + g⟩)

/-- A granule has been written since the previous capture. -/
def State.granDirty (s : State) (g : Gran) : Bool :=
  s.pair.allDirty ||
  (match g.track with
    | 0 => s.pair.dirtyGt.contains g.key
    | 1 => s.pair.dirty.contains g.key
    | _ => s.pair.dirtyLg.contains g.key)

/-- The bytes of a granule. -/
def State.granData (s : State) (g : Gran) : Bytes :=
  match g.kind with
  | 1 => (List.range 16).flatMap (fun j => toLE 4 (s.img1 (g.ofs + 4 * j)))
  | 3 => s.rdB (sramBase + g.ofs) 64
  | k => s.lForCapture k g.ofs 64

/-- The parts that every capture carries whole. -/
def State.capFixed (s : State) (most : Nat) : List Chunk :=
  cutChunks 1 most 16 0 ((List.range 776).flatMap (fun i => toLE 4 (s.img1 (4 * i)))) ++
  [⟨2, 0, toLE 4 (s.get F.TRIP_ARM_ARM_RUN) ++ toLE 4 (s.word R.PAIR_EPOCH)⟩]

/-- Size of the capture buffer (R399). -/
def capSize : Nat := 131072

/-- What a capture would hold now: the dirty granules that fit, and those that do not. -/
def State.capPick (s : State) : List Gran × List Gran :=
  let d := s.grans.filter s.granDirty
  let n := (capSize - 3112) / 64
  (d.take n, d.drop n)

/-- Bytes a capture would hold now. -/
def State.capBytes (s : State) : Nat := 3112 + 64 * s.capPick.1.length

/-- A capture taken and its segments sent round-robin over the mirror lanes (R399). -/
def State.capture (s : State) (final : Bool) : State :=
  let most := if s.get F.PAIR_STAT_MLVER = 2 then 2048 else 1024
  let (now', rest) := s.capPick
  let part := !rest.isEmpty
  let cs := s.capFixed most ++
    joinChunks most (now'.map (fun g => (⟨g.kind, g.ofs, s.granData g⟩ : Chunk)))
  let n := cs.length
  let seq := s.pair.seq
  let segs := (List.range n).map (fun i =>
    let c := nth cs ⟨0, 0, []⟩ i
    let flags := b2n (i + 1 = n) + 2 * b2n part + 4 * b2n final
    toLE 1 c.kind ++ toLE 1 flags ++ toLE 2 seq ++ toLE 4 s.time.pidx ++ toLE 4 c.ofs ++
      toLE 2 i ++ toLE 2 n ++ toLE 2 c.data.length ++ [0, 0] ++ c.data)
  let left (t : Nat) : List Nat := (rest.filter (fun g => g.track = t)).map (·.key)
  let s := s.pr (fun p => { p with seq := (p.seq + 1) % 2 ^ 16, allDirty := false,
                                   dirtyGt := left 0, dirty := (p.dirty.filter (fun k => decide (logicBase / 64 ≤ k))) ++ left 1,
                                   dirtyLg := left 2, sendLeft := total (segs.map (fun b => b.length + 10)) })
  let s := s.when part (·.flag F.PAIR_FLAG_CK_PARTIAL)
  let s := ((s.set F.PAIR_CKPT_STAT_SEQ seq).set F.PAIR_CKPT_STAT_AGE 0).inc R.PAIR_CNT_CKPT
  (List.range n).foldl (fun t i => t.mirSend (i % 4) 0x24 (nth segs [] i)) s

/-- What has left of the latest capture after one more period, at one byte per character time on
each of four lanes (R399). -/
def State.sendRun (s : State) : State :=
  s.pr (fun p => { p with sendLeft := p.sendLeft - 4 * (s.P / s.tChar s.mir0) })

/-- The capture of an apply instant (R399, R412). -/
def State.captureDue (s : State) : State :=
  let k := s.get F.PAIR_CKPT_K
  if s.role = .active && s.linkUp && (s.pair.hoAt.isSome || (k ≠ 0 && s.time.pidx % k = 0)) then
    (if s.pair.sendLeft = 0 then s.capture false else s.flag F.PAIR_FLAG_CK_LAG)
  else s

/-! ## Receiving -/

/-- A CTRL frame to the partner (R392). -/
def State.ctrlSend (s : State) (op cause h : Nat) : State :=
  s.mirSend 0 0x2A (toLE 1 op ++ toLE 1 cause ++ [0, 0] ++ toLE 4 h ++ [0, 0, 0, 0])

/-- A capture discarded, with what is still to come of it (R401). -/
def State.captureBad (s : State) (seq : Option Nat) : State :=
  let s := ((s.flag F.PAIR_FLAG_CK_BAD).inc R.PAIR_CNT_CKBAD).pr (fun p =>
    { p with rxSegs := [], full := false, badSeq := seq })
  s.ctrlSend 5 0 0

/-- The device takes checkpoints: a NIGHTWATCH, and a LEAVING device whose partner already holds ACT
(R212, R400, R403; notes/assumptions/104.md). -/
def State.takesCkpt (s : State) : Bool := s.role = .nightwatch || s.role = .leaving

/-- SEQ, SEG and NSEG of a segment body. -/
def segSeq (b : Bytes) : Nat := fieldLE b 2 2
/-- SEG. -/
def segNo (b : Bytes) : Nat := fieldLE b 12 2
/-- NSEG. -/
def segCount (b : Bytes) : Nat := fieldLE b 14 2
/-- FINAL. -/
def segFinal (b : Bytes) : Bool := bit (fieldLE b 1 1) 2
/-- PARTIAL. -/
def segPartial (b : Bytes) : Bool := bit (fieldLE b 1 1) 1

/-- A KIND 0x3 segment lies inside the device's own mirrored regions (R401). -/
def State.segInside (s : State) (b : Bytes) : Bool :=
  fieldLE b 0 1 ≠ 3 ||
    s.pairRegions.any (fun r => decide (r.2.1 ≤ fieldLE b 8 4) &&
      decide (fieldLE b 8 4 + fieldLE b 16 2 ≤ r.2.1 + r.2.2))

/-- A segment of another capture than the one that is being received. -/
def State.segStale (s : State) (b : Bytes) : Bool :=
  match s.pair.rxSegs with
  | c :: _ => decide (segSeq c ≠ segSeq b)
  | [] => false

/-- SEQ of the capture that is being received. -/
def State.rxSeq (s : State) : Option Nat := s.pair.rxSegs.head?.map segSeq

/-- A checkpoint segment arrives (R400, R401). -/
def State.ckpt (s : State) (l : Nat) (f : Bytes) : State :=
  if s.lrole l = .mirror && s.lst l = .up && s.linkUp && s.takesCkpt && fieldLE f 0 1 = 0x24 then
    if s.mirBad f then
      let s := s.inc R.PAIR_CNT_MERR
      if crc32Ok f then s else s.captureBad s.rxSeq
    else
      let b := mirBody f
      let s := match s.pair.rxSegs with
        | c :: _ =>
          let d := (segSeq b + 2 ^ 16 - segSeq c) % 2 ^ 16
          if 1 ≤ d && d < 2 ^ 15 then s.captureBad none else s
        | [] => s
      if s.segStale b || s.pair.badSeq = some (segSeq b) then s
      else if !s.segInside b then s.captureBad (some (segSeq b))
      else
        let s := s.pr (fun p => { p with badSeq := none })
        let segs := b :: s.pair.rxSegs.filter (fun c => segNo c ≠ segNo b)
        if (List.range (segCount b)).all (fun i => segs.any (fun c => segNo c = i)) then
          let ord := (List.range (segCount b)).filterMap (fun i => segs.find? (fun c => segNo c = i))
          s.pr (fun p => { p with rxSegs := [], ready := ord })
        else s.pr (fun p => { p with rxSegs := segs })
  else s

/-- One segment applied (R400). -/
def State.segApply (s : State) (b : Bytes) : State :=
  let ofs := fieldLE b 8 4
  let d := b.drop 20
  match fieldLE b 0 1 with
  | 1 => (List.range (d.length / 4)).foldl (fun t i =>
      t.img1Put (ofs + 4 * i) (fieldLE d (4 * i) 4)) s
  | 2 =>
    let w := fieldLE d 4 4
    let run := fieldLE d 0 4 % 64
    ((s.pr (fun p => { p with capRun := run })).armRunSet run).epochSee (bit w 8) (w % 256)
  | 3 => s.wrB (sramBase + ofs) d
  | 4 => if ofs + d.length ≤ 0xC000 then s.lCaptured 4 ofs d else s
  | 5 => if ofs + d.length ≤ 0x1000 then s.lCaptured 5 ofs d else s
  | _ => s

/-- The complete capture at hand applied as one change (R400, R403, R463). -/
def State.captureApply (s : State) : State :=
  let segs := s.pair.ready
  let s := (s.pr (fun p => { p with ready := [] })).logicHold
  let s := segs.foldl State.segApply s
  let b := nth segs [] 0
  let part := segs.any segPartial
  let s := s.when part (·.flag F.PAIR_FLAG_CK_PARTIAL)
  let s := s.pr (fun p => { p with full := p.full || !part, age := 0 })
  ((s.set F.PAIR_CKPT_STAT_SEQ (segSeq b)).set F.PAIR_CKPT_STAT_AGE 0).inc R.PAIR_CNT_CKPT

/-- A complete capture waits, FINAL or not. -/
def State.captureIs (s : State) (final : Bool) : Bool :=
  match s.pair.ready with
  | [] => false
  | b :: _ => segFinal b = final

/-- At an apply instant the capture at hand is applied, by a claimant too (R400). -/
def State.captureInstant (s : State) : State :=
  if (s.takesCkpt || s.role = .claiming) && s.captureIs false then s.captureApply else s

/-- RESYNC: every granule is dirty (R399). -/
def State.resync (s : State) (l : Nat) (f : Bytes) : State :=
  if s.mirTakes l 0x2A f && fieldLE f 4 1 = 5 then s.pr (fun p => { p with allDirty := true })
  else s

/-! ## Return and handover -/

/-- A refusal recorded (R411). -/
def State.hoRej (s : State) (cause : Nat) : State :=
  let s := (s.set F.PAIR_HO_STAT_CAUSE cause).flag F.PAIR_FLAG_HO_REJ
  (s.holdAgain.pr (fun p => { p with asked := none, hoAt := none })).set F.PAIR_STAT_HO_PEND 0

/-- A handover is acknowledged for period h (R412). -/
def State.hoAck (s : State) (h : Nat) : State :=
  let s := (s.set F.PAIR_STAT_HO_PEND 1).set R.PAIR_HO_H h
  s.pr (fun p => { p with asked := none, hoAt := some h })

/-- A string is BROKEN. -/
def State.anyBroken (s : State) : Bool :=
  (List.range Config.strings).any (fun n => s.on (F.STR_STAT_BROKEN n))

/-- The global states of the pair differ, by the latest HEALTH. -/
def State.statesDiffer (s : State) : Bool :=
  bits (s.peerB 4 1) 3 3 ≠ s.get F.DEV_STATE_STATE

/-- TAKE_OK of the partner's latest HEALTH. -/
def State.peerTakeOk (s : State) : Bool := bit (s.peerB 6 1) 0

/-- The hold-off has run out (R409): RETURN_REQ. -/
def State.returnReq (s : State) : State :=
  if s.role = .nightwatch && s.straps.home && s.on F.PAIR_STAT_TAKE_OK && s.pair.holdAt.isSome &&
      !s.inhibited && !s.on F.PAIR_FLAG_HOME_CLASH && s.pair.asked.isNone && s.pair.hoAt.isNone then
    (s.pr (fun p => { p with asked := some 0 })).ctrlSend 1 0 0
  else s

/-- The cause for which an ACT holder refuses a RETURN_REQ, 0 for none (R411). -/
def State.returnCause (s : State) : Nat :=
  if s.inhibited then 1
  else if !s.peerTakeOk then 2
  else if s.anyBroken then 3
  else if s.statesDiffer then 4
  else if s.pair.hoAt.isSome then 7
  else if s.on F.PAIR_FLAG_HOME_CLASH then 8
  else 0

/-- A RETURN_REQ arrives (R411). -/
def State.returnReqIn (s : State) (l : Nat) (f : Bytes) : State :=
  if s.mirTakes l 0x2A f && fieldLE f 4 1 = 1 && s.role = .active then
    let c := s.returnCause
    if c = 7 then
      ((s.set F.PAIR_HO_STAT_CAUSE 7).flag F.PAIR_FLAG_HO_REJ).ctrlSend 4 7 0
    else if c ≠ 0 then (s.hoRej c).ctrlSend 4 c 0
    else
      let h := (s.time.pidx + 32) % 2 ^ 32
      (s.hoAck h).ctrlSend 3 0 h
  else s

/-- PAIR_CMD HANDOVER (R410). -/
def State.handover (s : State) : State :=
  if s.role = .active then
    let h := (s.time.pidx + 32) % 2 ^ 32
    (s.pr (fun p => { p with asked := some h })).ctrlSend 2 0 h
  else s.flag F.PAIR_FLAG_CMD_REJ

/-- The cause for which a NIGHTWATCH refuses an OFFER, 0 for none (R411). -/
def State.offerCause (s : State) : Nat :=
  if !s.on F.PAIR_STAT_TAKE_OK then 2
  else if s.anyBroken then 3
  else if s.statesDiffer then 4
  else if s.pair.hoAt.isSome then 7
  else if s.on F.PAIR_FLAG_HOME_CLASH then 8
  else 0

/-- An OFFER arrives (R410, R411). -/
def State.offerIn (s : State) (l : Nat) (f : Bytes) : State :=
  if s.mirTakes l 0x2A f && fieldLE f 4 1 = 2 && s.role = .nightwatch then
    let c := s.offerCause
    let h := fieldLE f 8 4
    if c = 7 then
      ((s.set F.PAIR_HO_STAT_CAUSE 7).flag F.PAIR_FLAG_HO_REJ).ctrlSend 4 7 0
    else if c ≠ 0 then (s.hoRej c).ctrlSend 4 c 0
    else (s.hoAck h).ctrlSend 3 0 h
  else s

/-- An ACK arrives (R411, R412). -/
def State.ctrlAck (s : State) (l : Nat) (f : Bytes) : State :=
  if s.mirTakes l 0x2A f && fieldLE f 4 1 = 3 && s.pair.asked.isSome then s.hoAck (fieldLE f 8 4)
  else s

/-- A REJ arrives, for a request or at T_h (R411, R412). -/
def State.ctrlRej (s : State) (l : Nat) (f : Bytes) : State :=
  if s.mirTakes l 0x2A f && fieldLE f 4 1 = 4 && (s.pair.asked.isSome || s.pair.hoAt.isSome) then
    s.hoRej (fieldLE f 5 1)
  else s

/-- No answer within 8 periods (R411). -/
def State.returnTimeout (s : State) : State := if s.pair.asked.isSome then s.hoRej 6 else s

/-- T_h at the ACT holder: the final capture, or a refusal (R412). -/
def State.handoverInstant (s : State) : State :=
  if s.role = .active && s.pair.hoAt = some (s.time.pidx % 2 ^ 32) then
    if s.capBytes > 16384 then (s.hoRej 5).ctrlSend 4 5 0
    else if !s.peerTakeOk then (s.hoRej 2).ctrlSend 4 2 0
    else
      let s := (s.capture true).toWatch .leaving
      (s.pr (fun p => { p with hoAt := none })).set F.PAIR_STAT_HO_PEND 0
  else s

/-- The last FINAL segment has left: PAIR_ACT_OUT falls (R412). -/
def State.finalSent (s : State) : State :=
  if s.role = .leaving && s.actOut then (s.pr (fun p => { p with sendLeft := 0 })).dropAct else s

/-- A NIGHTWATCH applies a complete FINAL capture and claims (R413). -/
def State.finalApply (s : State) : State :=
  if s.role = .nightwatch && s.pair.hoAt.isSome && s.captureIs true then
    let s := (s.captureApply).set F.PAIR_STAT_HO_PEND 0
    let s := s.pr (fun p => { p with hoAt := none, finalClaim := true })
    s.when (!s.actIn && s.pair.claim = .none) (·.guardStart)
  else s

/-- No complete FINAL capture 8 µs after T_h (R413). -/
def State.finalTimeout (s : State) : State :=
  if s.role = .nightwatch && s.pair.hoAt.isSome then
    ((s.pr (fun p => { p with hoAt := none, ready := [] })).set F.PAIR_STAT_HO_PEND 0).holdAgain
  else s

/-! ## Takeover -/

/-- T_k: the claimant takes ACT (R387, R406). -/
def State.takeover (s : State) : State :=
  if s.role = .claiming && s.pair.won then
    let fin := s.pair.finalClaim
    let s := s.setRole (if s.linkUp then .active else .alone)
    let s := s.pr (fun p => { p with won := false, finalClaim := false, rxSegs := [], ready := [] })
    let s := s.when fin (·.inc R.PAIR_CNT_HO)
    ((s.strsTake).armRunClaim).trimsRestart
  else s

/-! ## Relay -/

/-- The mirror lane index for the next relayed string: the highest that is free (R408). -/
def State.relayLane (s : State) : Option Nat :=
  [3, 2, 1, 0].find? (fun i =>
    !(List.range Config.strings).any (fun n => (s.str n).relayOn = some i))

/-- At an apply instant the ACT holder starts relay of the BROKEN strings it can (R145,
R146). -/
def State.relayStart (s : State) : State :=
  if s.role = .active && s.linkUp then
    (List.range Config.strings).foldl (fun t n =>
      if t.on (F.STR_STAT_BROKEN n) && (t.str n).relayOn.isNone && t.on (F.STR_STAT_RELAY_OK n) &&
          (t.sst n = .live || t.sst n = .failed) then
        match t.relayLane with
        | some i => (t.setStr n { t.str n with relayOn := some i, directAt := none }).flag
            (F.STR_STAT_RELAY n)
        | none => t.flag (F.STR_STAT_RELAY_NOCAP n)
      else t) s
  else s

/-- The SREP of an apply instant, for the period that has ended (R392). -/
def State.srepSend (s : State) : State :=
  let p := (s.time.pidx + 2 ^ 32 - 1) % 2 ^ 32
  let rx := ofBits 44 (fun n => (s.str n).seen = some p)
  s.mirSend 0 0x28 (toLE 4 p ++ toLE 6 rx ++ [0, 0] ++
    (if s.get F.PAIR_STAT_MLVER = 2 then toLE 4 s.pair.errs else []))

/-- The report on one string for a period: two consecutive periods without a stroke received make
it BROKEN (R145), two consecutive direct strokes end it (R148). -/
def State.srepStr (s : State) (n p : Nat) (rx : Bool) : State :=
  let x := s.str n
  let before := some ((p + 2 ^ 32 - 1) % 2 ^ 32)
  if !x.launched.any (fun q => q % 2 ^ 32 = p) then s
  else if !rx then
    (s.setStr n { x with missAt := some p, directAt := none }).when (x.missAt = before)
      (·.flag (F.STR_STAT_BROKEN n))
  else if s.on (F.STR_STAT_BROKEN n) && x.directAt = before then
    let s := s.setStr n { x with missAt := none, directAt := none, relayOn := none }
    (s.set (F.STR_STAT_BROKEN n) 0).set (F.STR_STAT_RELAY n) 0
  else s.setStr n { x with missAt := none, directAt := some p }

/-- An SREP arrives at the ACT holder (R145). -/
def State.srep (s : State) (l : Nat) (f : Bytes) : State :=
  if s.mirTakes l 0x28 f && s.role = .active then
    let b := mirBody f
    (List.range Config.strings).foldl (fun t n =>
      t.srepStr n (fieldLE b 0 4) ((fieldLE b 4 6).testBit n)) s
  else s

/-- A RELAY frame is launched cut-through, its CRC unseen (R147, R408). -/
def State.relay (s : State) (l : Nat) (f : Bytes) : State :=
  let n := fieldLE f 4 1
  if s.lrole l = .mirror && s.lst l = .up && s.linkUp && fieldLE f 0 1 = 0x27 &&
      decide (32 ≤ f.length) && n < Config.strings && s.sst n = .watch then
    let s := s.when (s.mirBad f) (·.inc R.PAIR_CNT_MERR)
    let head := (f.drop 8).take (f.length - 12)
    let x := s.str n
    let s := (s.setStr n { x with relayOn := some (s.lidx l) }).flag (F.STR_STAT_RELAY n)
    match s.strLane? n with
    | some k => s.when (s.lst k = .up) (fun s =>
        s.sendStroke k (s.get (F.STR_BLK_G_TX n)) (head ++ emptyArea x.frets))
    | none => s
  else s

/-- The telemetry of a relayed string comes back (R147): parsed as a stroke of this side that
left the partner's lane at bow plus RLAG. -/
def State.rtel (s : State) (l : Nat) (f : Bytes) : State :=
  let n := fieldLE f 4 1
  if s.mirTakes l 0x29 f && s.holder && n < Config.strings then
    let x := s.str n
    let b := mirBody f
    let p := fieldLE b 4 4
    let bow := s.instant (pidxNear (s.time.pidx + 1) p) + (s.launchOfs n : Int)
    let arr (g : FretS) : Nat :=
      (bow + (s.get F.PAIR_DLY_RLAG : Int) + (s.tTx ((s.strLane? n).getD 0) : Int) + (g.dOther : Int)).toNat
    s.telParse n s.straps.side true p arr (List.replicate (20 + cmdBytes x.frets) 0 ++ b.drop 8)
  else s

/-! ## Maps and delays -/

/-- Fret j of a MAP body, as the sender numbers it. What the map does not carry (UID, FWD,
bridge) this device does not know. -/
def State.mapFret (s : State) (b : Bytes) (j : Nat) : FretS × State :=
  let o := 4 + 12 * j
  let (u, s) := s.fresh
  let (w, s) := s.fresh
  let (fb, s) := s.fresh
  let cid := fieldLE b o 2
  ({ uid := u % 2 ^ 64, fwd := w % 64, fb := fb % 2 = 1, cid := cid, ver := fieldLE b (o + 2) 1,
     hold := fieldLE b (o + 3) 1, cmdA := fieldLE b (o + 4) 2, telA := fieldLE b (o + 6) 2,
     cmdB := fieldLE b (o + 8) 2, telB := fieldLE b (o + 10) 2, insvc := cid ≤ 4095,
     d := 0xFFFF }, s)

/-- The frets of a MAP body, in this device's order: the reverse of the sender's (R119). -/
def State.mapFrets (s : State) (b : Bytes) : Nat → List FretS × State
  | 0 => ([], s)
  | j + 1 =>
    let (f, s) := s.mapFret b j
    let (r, s) := State.mapFrets s b j
    (f :: r, s)

/-- A MAP arrives at the NIGHTWATCH (R119, R166): the map and its cell-table entries, then the
measurement. -/
def State.mapIn (s : State) (l : Nat) (f : Bytes) : State :=
  let b := mirBody f
  let n := fieldLE b 0 1
  if s.mirTakes l 0x25 f && s.role = .nightwatch && n < Config.strings && s.sst n = .watch then
    let (fr, s) := s.mapFrets b (fieldLE b 2 1)
    let s := s.set (F.STR_ENUM_MAP_ID n) (fieldLE b 1 1)
    let s := s.setStr n { s.str n with frets := fr, rtEnd := none }
    let s := (List.range fr.length).foldl (fun t k => t.ctAssign n k (nth fr {} k)) s
    ((s.strFrets n).strFlags n).measNext n 0
  else s

/-- A DLY arrives at the ACT holder (R118, R119): both leads are known where both delays are,
and go out to the frets; launches resume. -/
def State.dlyIn (s : State) (l : Nat) (f : Bytes) : State :=
  let b := mirBody f
  let n := fieldLE b 0 1
  if s.mirTakes l 0x26 f && s.holder && n < Config.strings && (s.str n).mapWait &&
      fieldLE b 1 1 = s.get (F.STR_ENUM_MAP_ID n) then
    let x := s.str n
    let m := fieldLE b 2 1
    let tx := s.tTx ((s.strLane? n).getD 0)
    let fr := (List.range x.frets.length).map (fun k =>
      let g := nth x.frets {} k
      let d := if m = x.frets.length then fieldLE b (8 + 2 * (m - 1 - k)) 2 else 0xFFFF
      let lead := if d = 0xFFFF then 0xFFFF
        else us 16 ((s.P : Int) - s.launchOfs n - tx - d)
      if s.straps.side then { g with dOther := d, leadA := lead }
      else { g with dOther := d, leadB := lead })
    (s.setStr n { x with frets := fr, mapWait := false }).leadNext n 0
  else s

/-- 20 ms have passed since the MAP (R119). -/
def State.dlyTimeout (s : State) (n : Nat) : State :=
  s.setStr n { s.str n with mapWait := false }

/-- A mirror frame that R392 discards. -/
def State.mirDiscard (s : State) (l : Nat) (f : Bytes) : State :=
  if s.mirIn l && s.mirBad f then
    let s := s.inc R.PAIR_CNT_MERR
    s.when (fieldLE f 0 1 = 0x24 && !crc32Ok f && s.takesCkpt && s.linkUp) (·.captureBad s.rxSeq)
  else s

end Sys2Proof.Machine
end

