-- ==== Sys2Proof/Machine/Adc.lean ====
section
/-! DEFINITION. The converters (chapter 17): starting a conversion (R491 to R493), results and
their flags (R494, R495, R501), calibration (R496 to R499), the reference (R500) and the check
at GO_READY (R502). Sampling instants are station time in units of 2^-16 ns. -/

namespace Sys2Proof.Machine

open Sys2Proof

/-- Converter c beside its registers. -/
def State.cv (s : State) (c : Nat) : AdcS := sget s.adc {} c

/-- A converter replaced. -/
def State.setCv (s : State) (c : Nat) (x : AdcS) : State := { s with adc := sput s.adc {} c x }

/-- One edge of the 320 MHz sample clock in 2^-16 ns: 3.125 ns. The edges lie on the station
grid, as the fixed ratio of the clocks gives (R18, R491). -/
def sampleEdge : Nat := 204800

/-- The first sample-clock edge after an instant. -/
def edgeAfter (t : Nat) : Nat := (t / sampleEdge + 1) * sampleEdge

/-- The first sample-clock edge at or after an instant. -/
def edgeFrom (t : Nat) : Nat := (t + sampleEdge - 1) / sampleEdge * sampleEdge

/-- 50 ns in 2^-16 ns. -/
def ns50 : Nat := 50 * 2 ^ 16

/-- Converter c belongs to an interleaved pair (R495). -/
def State.ilv (s : State) (c : Nat) : Bool := s.on (F.ADC_CFG_ILV (c / 2 * 2))

/-- The converter whose RUN governs c (R495). -/
def State.runOf (s : State) (c : Nat) : Nat := if s.ilv c then c / 2 * 2 else c

/-- The input that converter c converts (R488, R495). -/
def State.muxOf (s : State) (c : Nat) : Nat := s.get (F.ADC_CFG_MUX (s.runOf c))

/-- Converter c belongs to an enabled lock group (R49). -/
def State.inGroup (s : State) (c : Nat) : Bool :=
  (List.range Config.groups).any (fun g => s.on (F.TIME_LG_CFG_EN g) && bit (s.get (F.TIME_LG_CV_CV g)) c)

/-- The converters sample: neither RESET nor SAFE_HOLD (R26, R502). -/
def State.adcLive (s : State) : Bool := !s.dev.inReset && s.gst ≠ .safeHold

/-- What a conversion of converter c with a sampling instant takes with it (R490, R499, R501). -/
def State.sampleOf (s : State) (c t : Nat) : Sample :=
  { at' := t, src := s.muxOf c,
    far := ((s.cv (s.runOf c)).muxAt.map (fun u => decide (u + 100 * 2 ^ 16 < t ∨ t < u))).getD true,
    unset := !s.on F.ADC_REF_REF_OK, stale := s.on (F.ADC_STAT_CAL_STALE c),
    facts := (List.range 5).map (fun k => s.word (R.ADC_FACT c k)) }

/-- A sample of converter c at an instant. -/
def State.adcSample (s : State) (c t : Nat) : State :=
  let x := s.cv c
  s.setCv c { x with last := some t, flight := x.flight ++ [s.sampleOf c t] }

/-- A register of the converters has changed: the samples still to be taken take it in, those
in conversion do not (R490, R499, R501). -/
def State.adcAhead (s : State) : State :=
  (List.range 8).foldl (fun t c =>
    let x := t.cv c
    if x.flight.any (fun f => s.now16 < f.at') then
      t.setCv c { x with flight := x.flight.map (fun f =>
        if s.now16 < f.at' then s.sampleOf c f.at' else f) }
    else t) s

/-- Instants of the converters relabelled by a step of station time, in 2^-16 ns (R63). -/
def State.adcShift (s : State) (d : Int) : State :=
  let sh (t : Nat) : Nat := (t + d).toNat
  { s with adc := s.adc.map (fun p => (p.1, { p.2 with
    last := p.2.last.map sh, muxAt := p.2.muxAt.map sh,
    flight := p.2.flight.map (fun f => { f with at' := sh f.at' }),
    hist := p.2.hist.map (fun h => (sh h.1, h.2)) })) }

/-- START of converter c (R491 to R493). -/
def State.adcStart (s : State) (c : Nat) : State :=
  if s.dev.inReset then s
  else if s.on (F.ADC_CTRL_RUN c) || s.ilv c || s.on (F.ADC_STAT_CAL_BUSY c) then
    s.flag (F.ADC_STAT_START_IGN c)
  else if s.gst = .safeHold then s
  else
    let t := edgeAfter s.now16
    let s := s.setCv c { s.cv c with startAt := some s.elapsed }
    match (s.cv c).last with
    | some p =>
      if t < p + ns50 then (s.flag (F.ADC_STAT_START_DLY c)).adcSample c (edgeFrom (p + ns50))
      else s.adcSample c t
    | none => s.adcSample c t

/-- A write of RUN (R492): refused for a converter of an enabled lock group. -/
def State.adcRun (s : State) (c : Nat) (v : Bool) : State :=
  if v && s.inGroup c then s.flag (F.ADC_STAT_START_IGN c) else s.set (F.ADC_CTRL_RUN c) (b2n v)

/-- The group START of group g (R51, R491). -/
def State.lgStart (s : State) (g : Nat) : State :=
  let d := s.get (F.TIME_LG_CFG_DIV g)
  if s.on (F.TIME_LG_CFG_EN g) && s.peRun && d ≠ 0 && s.time.pidx % d = 0 then
    (List.range 8).foldl (fun t c =>
      if bit (t.get (F.TIME_LG_CV_CV g)) c then t.adcStart c else t) s
  else s

/-- The converter samples freely (R491, R495). -/
def State.adcFree (s : State) (c : Nat) : Bool :=
  s.adcLive && s.on (F.ADC_CTRL_RUN (s.runOf c)) && !s.on (F.ADC_STAT_CAL_BUSY c)

/-- The station time in ns of the next free-running sample of converter c: a multiple of 50,
or 25 later for the odd member of a pair (R491, R495). -/
def State.freeDue (s : State) (c : Nat) : Nat :=
  let ph := if s.ilv c && c % 2 = 1 then 25 else 0
  let low := match (s.cv c).last with
    | some p => max s.now ((p + ns50 + 65535) / 65536)
    | none => s.now
  (low + 49 - ph) / 50 * 50 + ph

/-- The free-running sample of converter c that falls now (R491, R495). -/
def State.freeSample (s : State) (c : Nat) : State :=
  if s.adcFree c && s.freeDue c = s.now then s.adcSample c (s.now * 2 ^ 16) else s

/-- The correction of a raw code by the factor word of its slice on a MEAS converter (R499): the
value, and whether it was clamped. -/
def State.adcCorrect (s : State) (c fact : Nat) (r : Int) : Int × Bool :=
  if s.on (F.ADC_CFG_CLASS c) then
    let y := rs ((r * 16 - sx 16 (bits fact 16 16)) * (bits fact 0 16 : Int)) 19
    (clampI (-32768) 32767 y, decide (y < -32768 ∨ 32767 < y))
  else (clampI (-32768) 32767 r, decide (r < -32768 ∨ 32767 < r))

/-- A result word put into a DATA register: CNT advances (R501). -/
def State.adcPut (s : State) (f cnt : Fld) (w : Nat) : State :=
  let n := (s.get cnt + 1) % 64
  s.set f (setBits w 20 6 n)

/-- The oldest sample of converter c completes (R494, R499, R501). `k` is the slice, `r` its
raw code, `beyond` that the input lay beyond full scale. While a self-calibration runs, DATA
keeps its last value (R497). -/
def State.adcResult (s : State) (c k : Nat) (r : Int) (beyond : Bool) : State :=
  match (s.cv c).flight with
  | [] => s
  | f :: rest =>
    if s.now16 < f.at' then s
    else
    let x := s.cv c
    let s := s.setCv c { x with flight := rest }
    if !s.adcLive || s.on (F.ADC_STAT_CAL_BUSY c) then s
    else
      let (y, cl) := s.adcCorrect c (nth f.facts 0x8000 k) r
      let ovr := beyond || cl
      let y := if ovr then (if r < 0 then -32768 else 32767) else y
      let w := us 16 y + 2 ^ 16 * b2n f.far + 2 ^ 17 * b2n ovr + 2 ^ 18 * b2n f.unset +
        2 ^ 19 * b2n f.stale + 2 ^ 26 * (f.src % 64)
      let s := s.when ovr (·.inc (R.ADC_CNT_OVR c))
      let s := s.adcPut (R.ADC_DATA c) (F.ADC_DATA_CNT c) w
      let s := if s.ilv c then s.adcPut (R.ADC_PDATA (c / 2)) (F.ADC_PDATA_CNT (c / 2)) w else s
      let x := s.cv c
      s.setCv c { x with hist := ((f.at', s.word (R.ADC_DATA c)) :: x.hist).take 4 }

/-- MUX of converter c has changed (R490). A START whose sampling instant is still to come
converts the new input. -/
def State.adcMux (s : State) (c : Nat) : State :=
  (s.setCv c { s.cv c with muxAt := some s.now16 }).adcAhead

/-- ADC_CMD CAL for the converters of a mask (R497). A START of the same cycle is ignored
(R493). -/
def State.adcCal (s : State) (m : Nat) : State :=
  (bitList 8 m).foldl (fun t c =>
    if !t.on (F.ADC_CFG_CLASS c) || !t.on F.ADC_REF_REF_OK || !t.adcLive then t.flag F.ADC_FLAG_CMD_REJ
    else
      let t := t.when ((t.cv c).startAt = some t.elapsed) (·.flag (F.ADC_STAT_START_IGN c))
      (t.flag (F.ADC_STAT_CAL_BUSY c)).set (F.ADC_DATA_VALID c) 0) s

/-- ADC_CMD ACCEPT (R499). -/
def State.adcAccept (s : State) (m : Nat) : State :=
  ((bitList 8 m).foldl (fun t c => t.set (F.ADC_STAT_CAL_STALE c) 0) s).adcAhead

/-- ADC_CMD code 0x3. -/
def State.adcCntClr (s : State) : State := s.zero ((List.range 8).map R.ADC_CNT_OVR)

/-- A write of ADC_CMD. -/
def State.adcCmd (s : State) (cmd m : Nat) : State :=
  match cmd with
  | 1 => s.adcCal m
  | 2 => s.adcAccept m
  | 3 => s.adcCntClr
  | _ => s.flag F.ADC_FLAG_CMD_REJ

/-- A self-calibration of converter c ends with the factors of its five slices (R497). -/
def State.calComplete (s : State) (c : Nat) (facts : List Nat) : State :=
  if s.on (F.ADC_STAT_CAL_BUSY c) && s.adcLive && s.on F.ADC_REF_REF_OK then
    let s := (List.range 5).foldl (fun t k => t.set (R.ADC_FACT c k) (nth facts 0x8000 k)) s
    ((s.set (F.ADC_STAT_CAL_BUSY c) 0).set (F.ADC_STAT_CAL_STALE c) 0).flag (F.ADC_STAT_CAL_DONE c)
  else s

/-- A self-calibration of converter c that is cut short: no factor changes (R498). -/
def State.calAbort (s : State) (c : Nat) : State :=
  ((s.set (F.ADC_STAT_CAL_BUSY c) 0).flag (F.ADC_STAT_CAL_STALE c)).flag (F.ADC_STAT_CAL_ABORT c)

/-- SAFE_HOLD or a fall of REF_OK interrupts the self-calibration of converter c (R498). -/
def State.calInterrupt (s : State) (c : Nat) : State :=
  if s.on (F.ADC_STAT_CAL_BUSY c) && (!s.adcLive || !s.on F.ADC_REF_REF_OK) then s.calAbort c else s

/-- The spare slice of a PROT converter takes over the next slice; `f` is the factor word of
the slice whose calibration has ended (R496). -/
def State.calRotate (s : State) (c f : Nat) : State :=
  if s.on (F.ADC_CFG_CLASS c) then s
  else
    let k := s.get (F.ADC_STAT_SPARE c)
    let s := s.set (R.ADC_FACT c k) f
    let s := s.set (F.ADC_STAT_SPARE c) ((k + 1) % 5)
    let n := (s.cv c).rot + 1
    let s := s.setCv c { s.cv c with rot := min n 5 }
    if n ≥ 5 then (s.set (F.ADC_STAT_CAL_STALE c) 0).adcAhead else s

/-- A change of ADC_REF.SEL (R500). -/
def State.adcRefSel (s : State) (sel : Nat) : State :=
  if sel = 3 || sel = s.get F.ADC_REF_SEL then s
  else
    let s := (s.set F.ADC_REF_SEL sel).set F.ADC_REF_REF_OK 0
    let s := (List.range 8).foldl State.calInterrupt s
    ((List.range 8).foldl (fun t c => (t.flag (F.ADC_STAT_CAL_STALE c)).setCv c { t.cv c with rot := 0 }) s).adcAhead

/-- The reference has settled, or is back within ±1 % (R500). -/
def State.refSettled (s : State) : State := if s.dev.inReset then s else (s.flag F.ADC_REF_REF_OK).adcAhead

/-- The reference leaves ±1 % of its settled value (R500); running self-calibrations are cut
short (R498). -/
def State.refOut (s : State) : State :=
  ((List.range 8).foldl State.calInterrupt (s.set F.ADC_REF_REF_OK 0)).adcAhead

/-- A host write of a factor word (R496, R499, ADC_FACT): nothing on a PROT converter or while
a calibration runs. -/
def State.adcFact (s : State) (c k mask data : Nat) : State :=
  if !s.on (F.ADC_CFG_CLASS c) || s.on (F.ADC_STAT_CAL_BUSY c) then s
  else
    let old := s.word (R.ADC_FACT c k)
    (s.set (R.ADC_FACT c k) ((old &&& (mask ^^^ 0xFFFFFFFF)) ||| (data &&& mask))).adcAhead

/-- The first converter that fails R502 with its code. -/
def State.adcCheck (s : State) : Option (Nat × Nat) :=
  (List.range 8).findSome? (fun c =>
    if c % 2 = 0 && s.ilv c && s.get (F.ADC_CFG_CLASS c) ≠ s.get (F.ADC_CFG_CLASS (c + 1)) then some (1, c)
    else if s.ilv c && s.inGroup c then some (2, c) else none)

end Sys2Proof.Machine
end

