-- ==== Sys2Proof/Machine/Vsp.lean ====
section
/-! DEFINITION. The Vesper recorder (chapter 16): channel values (R472), ticks (R473, R474),
trigger units (R477, R478), segments (R479 to R484), records and their readout (R485 to R487). -/

namespace Sys2Proof.Machine

open Sys2Proof

/-- Segment g beside its registers. -/
def State.seg (s : State) (g : Nat) : SegS := sget s.vsp.segs {} g

/-- A segment replaced. -/
def State.setSeg (s : State) (g : Nat) (x : SegS) : State :=
  { s with vsp := { s.vsp with segs := sput s.vsp.segs {} g x } }

/-- Trigger unit u beside its registers. -/
def State.tu (s : State) (u : Nat) : TuS := sget s.vsp.tus {} u

/-- A trigger unit replaced. -/
def State.setTu (s : State) (u : Nat) (x : TuS) : State :=
  { s with vsp := { s.vsp with tus := sput s.vsp.tus {} u x } }

/-- STATE of a segment: 0 IDLE, 1 ARMED, 2 POST, 3 DONE, 4 REARM. -/
def State.segState (s : State) (g : Nat) : Nat := s.get (F.VSP_SEG_STAT_STATE g)

/-- A segment changes state, VSP_STAT with it. -/
def State.segGoto (s : State) (g st : Nat) : State :=
  let s := s.set (F.VSP_SEG_STAT_STATE g) st
  let s := s.set F.VSP_STAT_DONE (setBit (s.get F.VSP_STAT_DONE) g (decide (st = 3)))
  s.set F.VSP_STAT_ARMED (setBit (s.get F.VSP_STAT_ARMED) g (decide (st = 1)))

/-- The channels of a segment, rising. -/
def State.segCh (s : State) (g : Nat) : List Nat :=
  bitList 64 (s.word (R.VSP_SEG_CHLO g) + s.word (R.VSP_SEG_CHHI g) * 2 ^ 32)

/-- LEN in bytes. -/
def State.segBytes (s : State) (g : Nat) : Nat := s.get (F.VSP_SEG_MEM_LEN g) * 4096

/-- S of R474. -/
def State.segSize (s : State) (g : Nat) : Nat := s.segBytes g / (2 * (s.segCh g).length)

/-- DIV of R473. -/
def State.segDiv (s : State) (g : Nat) : Nat := s.get (F.VSP_SEG_CFG_DIV g) + 1

/-- The spacing of ticks in ns (R473). -/
def State.segTick (s : State) (g : Nat) : Nat :=
  if s.on (F.VSP_SEG_CFG_TBASE g) then s.P * s.segDiv g else 25 * s.segDiv g

/-! ## Channel values (R472) -/

/-- A sample as it is recorded: −32,768 becomes −32,767. -/
def recSample (w : Nat) : Option Int :=
  if bit w 16 && !bit w 17 then some (max (-32767) (sx 16 w)) else none

/-- Whether a channel keeps 0x8000, and a number otherwise, as 16 bits. -/
def recWord (v : Option Int) : Nat :=
  match v with
  | some y => us 16 (clampI (-32767) 32767 y)
  | none => 0x8000

/-- round_half_even(n / d × 2^SHIFT). -/
def shiftRound (n : Int) (d : Nat) (sh : Int) : Int :=
  if sh < 0 then rdiv n ((d * 2 ^ sh.natAbs : Nat) : Int) else rdiv (n * (2 ^ sh.natAbs : Nat)) d

/-- round_half_even(x × 2^SHIFT) of a binary32 value; none for a NaN or an infinity. -/
def floatRound (x : Nat) (sh : Int) : Option Int :=
  match fdec false x with
  | .fin neg m e =>
    let i : Int := if neg then -(m : Int) else m
    some (if e + sh < 0 then (if (e + sh).natAbs > 300 then 0 else rdiv i ((2 ^ (e + sh).natAbs : Nat) : Int))
      else i * (2 ^ (e + sh).natAbs : Nat))
  | _ => none

/-- The latest result of a converter with a sampling instant at or before an instant. -/
def State.cvAt (s : State) (c t16 : Nat) : Option (Nat × Nat) :=
  (s.cv c).hist.find? (fun h => h.1 ≤ t16)

/-- A converter that channel c takes its value from has a result still to come for a sampling
instant before or at an instant (R473). -/
def State.chWait (s : State) (c t16 : Nat) : Bool :=
  let i := s.get (F.VSP_CH_CFG_INDEX c)
  let due (k : Nat) : Bool := (s.cv k).flight.any (fun f => f.at' ≤ t16)
  match s.get (F.VSP_CH_CFG_TYPE c) with
  | 1 => due i
  | 2 => due (2 * i) || due (2 * i + 1)
  | _ => false

/-- The value of channel c at a tick, as recorded (R472, R473). -/
def State.chValue (s : State) (c tick : Nat) : Nat × State :=
  let i := s.get (F.VSP_CH_CFG_INDEX c)
  let sel := s.get (F.VSP_CH_CFG_SEL c)
  let sh := sx 6 (s.get (F.VSP_CH_CFG_SHIFT c))
  let t16 := tick * 2 ^ 16
  match s.get (F.VSP_CH_CFG_TYPE c) with
  | 1 => (recWord ((s.cvAt i t16).bind (fun h => recSample h.2)), s)
  | 2 =>
    let a := s.cvAt (2 * i) t16
    let b := s.cvAt (2 * i + 1) t16
    let h := match a, b with
      | some x, some y => some (if x.1 < y.1 then y else x)
      | some x, none => some x
      | none, y => y
    (recWord (h.bind (fun h => recSample h.2)), s)
  | 3 =>
    let w := match sel with
      | 0 => s.word (R.CENG_OUT i)
      | 1 => s.word (R.CENG_INT i)
      | 2 => s.word (R.CENG_ERR i)
      | _ => s.word (R.CENG_GAIN i)
    (recWord (floatRound w sh), s)
  | 4 =>
    let (n, d) := sget s.vsp.arms (0, if sel = 1 || sel = 2 || sel = 3 then 0 else 1) (6 * i + sel)
    (recWord (if d = 0 then none else some (shiftRound n d sh)), s)
  | 5 =>
    match s.vsp.sv.find? (fun p => p.1 = 16 * i + sel) with
    | some (_, v, ok) => (recWord (if ok then some (shiftRound v 1 sh) else none), s)
    | none => let (v, s) := s.fresh; (v % 2 ^ 16, s)
  | _ => let (v, s) := s.fresh; (v % 2 ^ 16, s)

/-- The aggregates of arm a taken from the update of T_u (R472). -/
def State.vspArm (s : State) (a u : Nat) : State :=
  let cells := s.armCells a
  let s := cells.foldl (fun t c => (t.ctRead a c [0x24, 0x34]).2) s
  let v (c : Nat) : Int := rs (s.ct c 0x24) 16
  let ini (c : Nat) : Nat := ((s.hist c u).getD {}).init
  let ins := cells.filter (fun c => ini c = 1 || ini c = 2)
  let ok := cells.filter (fun c => bits (s.ct c 0x34) 0 3 = 2)
  let sum := ins.foldl (fun (t : Int) c => if ini c = 2 then t - v c else t + v c) 0
  let osum := ok.foldl (fun (t : Int) c => t + v c) 0
  let big := ok.foldl (fun (t : Int) c => max t (v c)) 0
  let small := ok.foldl (fun (t : Int) c => min t (v c)) (2 ^ 32)
  let e : Nat := if ok.isEmpty then 0 else 1
  let vals : List (Int × Nat) :=
    [(sum, 1), (osum, ok.length), (big, e), (small, e), ((ins.length : Int), 1), ((ok.length : Int), 1)]
  { s with vsp := { s.vsp with arms := (List.range 6).foldl (fun m k =>
      sins m (6 * a + k) (nth vals (0, 0) k)) s.vsp.arms } }

/-! ## Segment triggers and records -/

/-- The tick of sample j as station time in ns. -/
def State.segAt (s : State) (g j : Nat) : Nat :=
  let x := s.seg g
  let first := match x.first with
    | some f => f
    | none => s.tApply + x.nextP * s.P - s.time.pidx * s.P
  first + j * s.segTick g

/-- The index of the first tick at or after an instant in 2^-16 ns (R482). -/
def State.segIndex (s : State) (g inst : Nat) : Nat :=
  let ns := (inst + 65535) / 65536
  let f := s.segAt g 0
  if ns ≤ f then 0 else (ns - f + s.segTick g - 1) / s.segTick g

/-- Address of sample i of a segment (R474). -/
def State.segAddr (s : State) (g i : Nat) : Nat :=
  vspBase + s.get (F.VSP_SEG_MEM_BASE g) * 4096 + 2 * (s.segCh g).length * (i % s.segSize g)

/-- The stored bytes of n samples from sample i. -/
def State.segData (s : State) (g i n : Nat) : Bytes :=
  ((List.range n).map (fun k => s.rdB (s.segAddr g (i + k)) (2 * (s.segCh g).length))).flatten

/-- The record of segment g closes with `post` samples from the trigger sample (R480, R484,
R485). -/
def State.segClose (s : State) (g post : Nat) (trunc : Bool) : State :=
  let x := s.seg g
  match x.trig with
  | none => s
  | some (inst, j) =>
    let n := (s.segCh g).length
    let data := s.segData g (j - x.pre) (x.pre + post)
    let inv := (List.range (data.length / 2)).any (fun i => fieldLE data (2 * i) 2 = 0x8000)
    let short := decide (j < s.segSize g - s.get (F.VSP_SEG_POST_POST g))
    let t0 := s.segAt g j
    let sec := inst / 2 ^ 16 / Config.nsPerSec
    let h := toLE 2 1 ++ toLE 1 g ++
      toLE 1 (b2n short + 2 * b2n x.interp + 4 * b2n inv + 8 * b2n trunc) ++ toLE 2 n ++
      toLE 1 x.tsrc ++ [0] ++ toLE 4 (s.word (R.VSP_SEG_CHLO g)) ++ toLE 4 (s.word (R.VSP_SEG_CHHI g)) ++
      toLE 2 (s.get F.VSP_CFG_UNIT) ++ toLE 2 x.seq ++ toLE 4 x.pre ++ toLE 4 post ++
      toLE 4 (s.segTick g) ++ toLE 8 sec ++ toLE 4 (inst / 2 ^ 16 % Config.nsPerSec) ++
      toLE 2 (inst % 2 ^ 16) ++ [0, 0] ++ toLE 4 (t0 % Config.nsPerSec) ++
      toLE 4 (t0 / Config.nsPerSec) ++ toLE 4 x.pidx
    let s := s.setSeg g { x with post := post, trunc := trunc, seq := (x.seq + 1) % 65536,
                                 hdr := withCrc32 h }
    let s := s.segGoto g 3
    if s.on F.VSP_DONE_TPL_EN then s.submitTpl 0x14 (s.get F.VSP_DONE_TPL_TPL * 32) none else s

/-- The record closes once POST samples from the trigger sample are written (R480). -/
def State.segCheckDone (s : State) (g : Nat) : State :=
  match (s.seg g).trig with
  | some (_, j) =>
    if s.segState g = 2 && j + s.get (F.VSP_SEG_POST_POST g) ≤ (s.seg g).cnt then
      s.segClose g (s.get (F.VSP_SEG_POST_POST g)) false
    else s
  | none => s

/-- The trigger of segment g latched (R480, R482), with the period index at its instant
(R485). -/
def State.segLatch (s : State) (g inst tsrc : Nat) (interp : Bool) : State :=
  let x := s.seg g
  let j := s.segIndex g inst
  let pre := min j (s.segSize g - s.get (F.VSP_SEG_POST_POST g))
  let back := (s.tApply * 2 ^ 16 - inst + s.P * 2 ^ 16 - 1) / (s.P * 2 ^ 16)
  let pidx := if s.peRun then (s.time.pidx - back) % 2 ^ 32 else 0
  (s.setSeg g { x with trig := some (inst, j), tsrc := tsrc, interp := interp, pidx := pidx,
                       pre := pre, latchAt := some s.elapsed }).segGoto g 2

/-- A trigger of segment g is missed; the first instant since MISS was clear is kept (R480). -/
def State.segMiss (s : State) (g inst : Nat) : State :=
  let s := s.inc (R.VSP_SEG_MISSED g)
  if s.on (F.VSP_SEG_STAT_MISS g) then s
  else
    let ns := inst / 2 ^ 16
    ((s.set (R.VSP_SEG_MISS_NS g) (ns % Config.nsPerSec)).set (R.VSP_SEG_MISS_SEC g)
      (ns / Config.nsPerSec % 2 ^ 32)).flag (F.VSP_SEG_STAT_MISS g)

/-- The rank of a trigger source on a tie: the units, then TRIP, then SOFT (R483). -/
def tsrcRank (tsrc : Nat) : Nat := if tsrc = 9 then 8 else if tsrc = 8 then 9 else tsrc

/-- A trigger reaches segment g (R480). One of the cycle in which the segment became ARMED is
ignored; of those of one cycle the earliest is taken (R483). -/
def State.segTrig (s : State) (g inst tsrc : Nat) (interp : Bool) : State :=
  let x := s.seg g
  match s.segState g with
  | 1 =>
    let room := s.segSize g - s.get (F.VSP_SEG_POST_POST g)
    if x.armAt = some s.elapsed then s
    else if s.on (F.VSP_SEG_CFG_FULLPRE g) && x.cnt < room then s.inc (R.VSP_SEG_MASKED g)
    else (s.segLatch g inst tsrc interp).segCheckDone g
  | 2 =>
    match x.trig with
    | some (old, _) =>
      if x.latchAt = some s.elapsed &&
          (inst < old || (inst = old && tsrcRank tsrc < tsrcRank x.tsrc)) then
        ((s.segMiss g old).segLatch g inst tsrc interp).segCheckDone g
      else s.segMiss g inst
    | none => s
  | 0 => s
  | _ => s.segMiss g inst

/-- Trigger unit u fires at an instant: every segment that names it (R479). -/
def State.tuTrig (s : State) (u inst : Nat) (interp : Bool) : State :=
  (List.range 16).foldl (fun t g =>
    if bit (t.get (F.VSP_SEG_TRIG_UNITS g)) u then t.segTrig g inst u interp else t) s

/-- Trip groups that latched since another state trigger the segments with TRIP set, at the
time the trip block recorded (R479, R208). -/
def State.vspTrips (s : State) (before : Nat) : State :=
  let new := s.get F.TRIP_STAT_LATCH &&& (before ^^^ 0xFF)
  (bitList 8 new).foldl (fun t g =>
    let inst := (t.word (R.TRIP_FIRST_SEC g) + t.time.sec / 2 ^ 32 * 2 ^ 32) * Config.nsPerSec +
      t.word (R.TRIP_FIRST_NS g)
    (List.range 16).foldl (fun t g =>
      if t.on (F.VSP_SEG_TRIG_TRIP g) then t.segTrig g (inst * 2 ^ 16) 9 false else t) t) s

/-- An operation that may latch trip groups, with the triggers that follow (R479). -/
def State.withTrips (s : State) (f : State → State) : State :=
  (f s).vspTrips (s.get F.TRIP_STAT_LATCH)

/-- A soft trigger of segment g (R479). -/
def State.segSoft (s : State) (g : Nat) : State := s.segTrig g s.now16 8 false

/-- VSP_CMD: soft triggers of several segments (R479). -/
def State.vspSoft (s : State) (m : Nat) : State := (bitList 16 m).foldl State.segSoft s

/-! ## Ticks -/

/-- The station time of the next tick of segment g; none where it takes none now (R473). -/
def State.segDue (s : State) (g : Nat) : Option Nat :=
  if s.segState g = 1 || s.segState g = 2 then
    (if s.on (F.VSP_SEG_CFG_TBASE g) then
      let x := s.seg g
      if s.peRun && x.nextP ≤ s.time.pidx then some (s.tApply - (s.time.pidx - x.nextP) * s.P) else none
    else some (s.segAt g (s.seg g).cnt))
  else none

/-- One sample of segment g at its next tick (R473, R474). -/
def State.segSample (s : State) (g tick : Nat) : State :=
  let x := s.seg g
  let base := s.segAddr g x.cnt
  let chs := s.segCh g
  let s := (List.range chs.length).foldl (fun t k =>
    let (v, t) := t.chValue (nth chs 0 k) tick
    (t.wrPart (base + 2 * k) 2 v 0x33).2) s
  let s := s.setSeg g { x with cnt := x.cnt + 1, first := some (x.first.getD tick),
                               nextP := x.nextP + s.segDiv g }
  (s.set (R.VSP_SEG_WR g) (min (x.cnt + 1) (2 ^ 32 - 1))).segCheckDone g

/-- The tick of segment g that is due (R473): it waits for converter results with a sampling
instant up to the tick. -/
def State.vspTick (s : State) (g : Nat) : State :=
  match s.segDue g with
  | some t =>
    if t ≤ s.now && !(s.segCh g).any (fun c => s.chWait c (t * 2 ^ 16)) then s.segSample g t else s
  | none => s

/-! ## Commands -/

/-- A segment becomes ARMED: from the next core cycle, sample count 0 (R480, R473). -/
def State.segArm (s : State) (g : Nat) : State :=
  let from' := s.now + 1
  let first := if s.on (F.VSP_SEG_CFG_TBASE g) then none else some ((from' + 24) / 25 * 25)
  let next := if s.peRun then s.time.pidx + 1 else s.time.pidx
  let x := s.seg g
  let s := s.setSeg g { seq := x.seq, first := first, nextP := next, armAt := some s.elapsed }
  (s.set (R.VSP_SEG_WR g) 0).segGoto g 1

/-- A segment that is not IDLE, but for g. -/
def State.segBusy (s : State) (g : Nat) : List Nat :=
  (List.range 16).filter (fun i => i ≠ g && s.segState i ≠ 0)

/-- Check 0x3 of one channel (R481). -/
def State.chBad (s : State) (c : Nat) : Bool :=
  let i := s.get (F.VSP_CH_CFG_INDEX c)
  let sel := s.get (F.VSP_CH_CFG_SEL c)
  match s.get (F.VSP_CH_CFG_TYPE c) with
  | 1 => decide (i > 7) || s.ilv i
  | 2 => decide (i > 3) || !s.ilv (2 * i)
  | 3 => decide (sel > 3)
  | 4 => decide (i > 5) || decide (sel > 5)
  | 5 => decide (i > 15)
  | _ => true

/-- Check 0x4 of one trigger unit (R481). -/
def State.tuBad (s : State) (u : Nat) : Bool :=
  !s.on (F.VSP_TU_CFG_EN u) ||
    decide (sx 16 (s.get (F.VSP_TU_TH_TH_HI u)) ≤ sx 16 (s.get (F.VSP_TU_TH_TH_LO u))) ||
    (decide (s.get (F.VSP_TU_CFG_COND u) ≥ 2) && decide (s.word (R.VSP_TU_T2 u) < s.word (R.VSP_TU_T1 u))) ||
    (s.get (F.VSP_TU_CFG_SRC u) = 0 && s.get (F.VSP_CH_CFG_TYPE (s.get (F.VSP_TU_CFG_INDEX u))) = 0)

/-- Values recorded per second by some segments, as a fraction (R481, check 0x6). -/
def State.segRate (s : State) (l : List Nat) : Nat × Nat :=
  l.foldl (fun (q : Nat × Nat) g =>
    let n := (s.segCh g).length * Config.nsPerSec
    let d := s.segTick g
    (q.1 * d + n * q.2, q.2 * d)) (0, 1)

/-- The first refusal of ARM, 0 for none (R481). -/
def State.armCode (s : State) (g : Nat) : Nat :=
  let len := s.get (F.VSP_SEG_MEM_LEN g)
  let base (i : Nat) : Nat := s.get (F.VSP_SEG_MEM_BASE i) * 4096
  let chs := s.segCh g
  let post := s.get (F.VSP_SEG_POST_POST g)
  if s.segState g ≠ 0 then 1
  else if len < 1 || len > 2048 || base g + s.segBytes g > 0x800000 ||
      (s.segBusy g).any (fun i => overlap (base g) (s.segBytes g) (base i) (s.segBytes i)) then 2
  else if chs.isEmpty || chs.any s.chBad then 3
  else if (bitList 8 (s.get (F.VSP_SEG_TRIG_UNITS g))).any s.tuBad then 4
  else if post = 0 || s.segSize g < post + 16 then 5
  else
    let (n, d) := s.segRate (g :: s.segBusy g)
    if n > 2560000000 * d then 6 else 0

/-- VSP_SEG_CMD ARM (R481). -/
def State.arm' (s : State) (g : Nat) : State :=
  let c := s.armCode g
  if c = 0 then s.segArm g else (s.set (F.VSP_SEG_STAT_CODE g) c).flag (F.VSP_SEG_STAT_ARM_REJ g)

/-- A record is discarded: what the segment keeps is its count of records. -/
def State.segDrop (s : State) (g : Nat) : State := s.setSeg g { seq := (s.seg g).seq }

/-- VSP_SEG_CMD DISARM (R480). -/
def State.disarm (s : State) (g : Nat) : State :=
  if s.segState g = 0 then s else (s.segDrop g).segGoto g 0

/-- VSP_SEG_CMD RELEASE, and the release after a READ (R480). -/
def State.segRelease (s : State) (g : Nat) : State :=
  if s.segState g = 3 then (s.segDrop g).segGoto g 4 else s

/-- The re-arm of a released segment (R480). -/
def State.rearmDone (s : State) (g : Nat) : State := if s.segState g = 4 then s.segArm g else s

/-- A write of VSP_SEG_CMD. -/
def State.segCmd (s : State) (g cmd : Nat) : State :=
  match cmd with
  | 1 => s.arm' g
  | 2 => s.disarm g
  | 3 => s.segRelease g
  | 4 => s.segSoft g
  | _ => s

/-- The device enters SAFE_HOLD (R480). -/
def State.vspSafeHold (s : State) : State :=
  (List.range 16).foldl (fun t g =>
    match t.segState g with
    | 1 =>
      let t := t.segLatch g t.now16 0x0A false
      let j := match (t.seg g).trig with | some (_, j) => j | none => 0
      let j := min j (t.seg g).cnt
      let t := t.setSeg g { t.seg g with pre := min j (t.seg g).pre, trig := some (t.now16, j) }
      t.segClose g ((t.seg g).cnt - j) true
    | 2 =>
      let j := match (t.seg g).trig with | some (_, j) => j | none => 0
      t.segClose g ((t.seg g).cnt - j) true
    | _ => t) s

/-- VSP_CNT_CLR. -/
def State.vspCntClr (s : State) : State :=
  s.zero ((List.range 16).flatMap (fun g => [R.VSP_SEG_MISSED g, R.VSP_SEG_MASKED g]))

/-- The registers whose writes R475 refuses now: the register lies in the configuration of a
segment that is not IDLE, of a channel or of a trigger unit that such a segment names. -/
def State.vspGate (s : State) (a : Nat) : Bool :=
  let busy := (List.range 16).filter (fun g => s.segState g ≠ 0)
  if 0x90100 ≤ a && a < 0x90200 then busy.any (fun g => (s.segCh g).contains ((a - 0x90100) / 4))
  else if 0x90200 ≤ a && a < 0x90600 then
    s.segState ((a - 0x90200) / 0x40) ≠ 0 && (a - 0x90200) % 0x40 ≤ 0x14
  else if 0x90600 ≤ a && a < 0x90680 then
    busy.any (fun g => bit (s.get (F.VSP_SEG_TRIG_UNITS g)) ((a - 0x90600) / 0x10))
  else false

/-! ## Trigger units -/

/-- COND on a measured time, in 2^-16 ns (R478). -/
def State.tuCond (s : State) (u w : Nat) : Bool :=
  let t1 := s.word (R.VSP_TU_T1 u) * 2 ^ 16
  let t2 := s.word (R.VSP_TU_T2 u) * 2 ^ 16
  match s.get (F.VSP_TU_CFG_COND u) with
  | 0 => decide (w < t1)
  | 1 => decide (w > t1)
  | 2 => decide (t1 ≤ w) && decide (w ≤ t2)
  | _ => decide (w < t1) || decide (w > t2)

/-- The events of a unit's signal (R478). -/
inductive TuEvent
  | enterHigh | leaveHigh | enterLow | leaveLow
  deriving DecidableEq, Repr

/-- The events of a change of level. -/
def levelEvents (a b : Nat) : List TuEvent :=
  if a = b then []
  else (if a = 0 then [.leaveLow] else if a = 2 then [.leaveHigh] else []) ++
    (if b = 0 then [.enterLow] else if b = 2 then [.enterHigh] else [])

/-- With POL = 1, HIGH and LOW change places (R478). -/
def TuEvent.swap : TuEvent → TuEvent
  | .enterHigh => .enterLow | .leaveHigh => .leaveLow | .enterLow => .enterHigh
  | .leaveLow => .leaveHigh

/-- One event of unit u at an instant (R478); a trigger that it completes waits to fire. -/
def State.tuEvent (s : State) (u t : Nat) (interp : Bool) (e : TuEvent) : State :=
  let e := if s.on (F.VSP_TU_CFG_POL u) then e.swap else e
  let typ := s.get (F.VSP_TU_CFG_TYPE u)
  let x := s.tu u
  let fire (b : Bool) : List (Nat × Bool) := if b then x.fires ++ [(t, interp)] else x.fires
  match e with
  | .leaveLow => s.setTu u { x with left := some t }
  | .leaveHigh => s
  | .enterHigh =>
    let hit := match x.left with
      | some p => typ = 3 && s.tuCond u (t - p)
      | none => false
    s.setTu u { x with fires := fire hit, left := none, high := some (x.high.getD t),
                       timed := x.timed && x.high.isSome }
  | .enterLow =>
    let pulse := match x.high with
      | some p => typ = 0 && s.tuCond u (t - p)
      | none => false
    let runt := match x.left with
      | some p => typ = 1 && decide (s.word (R.VSP_TU_T1 u) * 2 ^ 16 ≤ t - p)
      | none => false
    s.setTu u { x with fires := fire (pulse || runt), left := none, high := none, timed := false }

/-- The classification of a value (R477). -/
def State.tuClass (s : State) (u : Nat) (v : Int) : Nat :=
  if v ≥ sx 16 (s.get (F.VSP_TU_TH_TH_HI u)) then 2
  else if v ≤ sx 16 (s.get (F.VSP_TU_TH_TH_LO u)) then 0 else 1

/-- A new value of unit u's channel, delivered for an instant (R477). -/
def State.tuValue (s : State) (u w t : Nat) : State :=
  if w = 0x8000 then s
  else
    let b := s.tuClass u (sx 16 w)
    match (s.tu u).level with
    | none => s.setTu u { s.tu u with level := some b }
    | some a =>
      let s := s.setTu u { s.tu u with level := some b }
      (levelEvents a b).foldl (fun t' e => t'.tuEvent u t false e) s

/-- Every unit that watches a channel of the kind and index delivered evaluates its value
(R477). -/
def State.tuDeliver (s : State) (typ idx t : Nat) : State :=
  (List.range 8).foldl (fun x u =>
    let c := x.get (F.VSP_TU_CFG_INDEX u)
    if x.on (F.VSP_TU_CFG_EN u) && x.get (F.VSP_TU_CFG_SRC u) = 0 && x.get (F.VSP_CH_CFG_TYPE c) = typ &&
        x.get (F.VSP_CH_CFG_INDEX c) = idx then
      let (w, x) := x.chValue c (t / 2 ^ 16 + 1)
      x.tuValue u w t
    else x) s

/-- The delivery of a converter's newest result to Vesper (R477). -/
def State.vspAdc (s : State) (c : Nat) : State :=
  match (s.cv c).hist with
  | (t, _) :: _ => (s.tuDeliver 1 c t).tuDeliver 2 (c / 2) t
  | [] => s

/-- The delivery of a control-engine evaluation of group g to Vesper (R477). -/
def State.vspCeng (s : State) (g : Nat) : State :=
  (List.range 32).foldl (fun t k => if t.slotIn g k then t.tuDeliver 3 k t.now16 else t) s

/-- The delivery of an observer update to Vesper (R472, R477). -/
def State.vspObs (s : State) : State :=
  if s.live && s.peRun then
    (List.range 6).foldl (fun t a => (t.vspArm a t.time.pidx).tuDeliver 4 a t.now16) s
  else s

/-- An edge of a comparator of an AIN pin, stamped by the TDC in 1/64 ns, on a unit with SRC 1:
`hi` names the comparator at TH_HI, `up` that the input rose past it (R477). -/
def State.comparator (s : State) (u : Nat) (hi up : Bool) (t64 : Nat) : State :=
  if s.on (F.VSP_TU_CFG_EN u) && s.get (F.VSP_TU_CFG_SRC u) = 1 then
    let t := t64 * 1024
    let lvl := if hi then (if up then 2 else 1) else (if up then 1 else 0)
    let s := s.setTu u { s.tu u with level := some lvl }
    s.tuEvent u t true (if hi then (if up then .enterHigh else .leaveHigh)
      else (if up then .leaveLow else .enterLow))
  else s

/-- The oldest trigger that unit u has detected fires (R478, R479). -/
def State.tuFire (s : State) (u : Nat) : State :=
  match (s.tu u).fires with
  | [] => s
  | (t, ip) :: rest => (s.setTu u { s.tu u with fires := rest }).tuTrig u t ip

/-- The instant of unit u's timeout, if one runs (R478). -/
def State.tuDue (s : State) (u : Nat) : Option Nat :=
  let x := s.tu u
  if s.on (F.VSP_TU_CFG_EN u) && s.get (F.VSP_TU_CFG_TYPE u) = 2 && !x.timed then
    x.high.map (· + s.word (R.VSP_TU_T1 u) * 2 ^ 16)
  else none

/-- The timeout of unit u (R478): it waits for converter results with a sampling instant up
to it, which may end the time. -/
def State.tuTimeout (s : State) (u : Nat) : State :=
  match s.tuDue u with
  | some t =>
    if t ≤ s.now16 && !(!s.on (F.VSP_TU_CFG_SRC u) && s.chWait (s.get (F.VSP_TU_CFG_INDEX u)) t) then
      (s.setTu u { s.tu u with timed := true }).tuTrig u t (s.get (F.VSP_TU_CFG_SRC u) = 1)
    else s
  | none => s

/-- Instants of the recorder relabelled by a step of station time, in 2^-16 ns (R63). -/
def State.vspShift (s : State) (d : Int) : State :=
  let sh (t : Nat) : Nat := (t + d).toNat
  { s with vsp := { s.vsp with
    segs := s.vsp.segs.map (fun p => (p.1, { p.2 with
      first := p.2.first.map (fun t => (t + d / 65536).toNat) })),
    tus := s.vsp.tus.map (fun p => (p.1, { p.2 with
      high := p.2.high.map sh, left := p.2.left.map sh,
      fires := p.2.fires.map (fun f => (sh f.1, f.2)) })) } }

/-! ## Readout (R486, R487) -/

/-- The record image of a DONE segment (R485). -/
def State.segImage (s : State) (g : Nat) : Nat := 64 + 2 * (s.segCh g).length * ((s.seg g).pre + (s.seg g).post)

/-- Bytes [i, i + 4) of the record image: header, then samples, read through the error code. -/
def State.imageWord (s : State) (g i : Nat) : Option Bytes × State :=
  let x := s.seg g
  if i < 64 then (some (slice x.hdr i 4), s)
  else
    let n := 2 * (s.segCh g).length
    let j := match x.trig with | some (_, j) => j - x.pre | none => 0
    let one (k : Nat) (s : State) : Option Bytes × State :=
      let o := i - 64 + 2 * k
      let (b, bad, s) := s.eccRdB (s.segAddr g (j + o / n) + o % n) 2 0x33
      (if bad.isSome then none else some b, s)
    match one 0 s with
    | (none, s) => (none, s)
    | (some a, s) =>
      match one 1 s with
      | (none, s) => (none, s)
      | (some b, s) => (some (a ++ b), s)

/-- The bytes of the image from an offset, up to the first bad word; whether one was bad. -/
def State.imageRead (s : State) (g : Nat) : Nat → Nat → Bytes × Bool × State
  | _, 0 => ([], false, s)
  | i, n + 1 =>
    match s.imageWord g i with
    | (none, s) => ([], true, s)
    | (some w, s) =>
      let (r, bad, s) := State.imageRead s g (i + 4) n
      (w ++ r, bad, s)

/-- The descriptor's READ lies in the image of a DONE segment (R487). -/
def State.readOk (s : State) (b : Bytes) : Bool :=
  let g := fieldLE b 8 1 % 16
  s.segState g = 3 && decide (fieldLE b 12 4 + fieldLE b 16 4 ≤ s.segImage g)

end Sys2Proof.Machine
end

