-- ==== Sys2Proof/Machine/Eth.lean ====
section
/-! DEFINITION. The Ethernet ports (chapter 18): reception and classification (R505, R506,
R508), sending and stamps (R507, R509 to R515), the adjustment registers (R516, R517, R519,
R520), 1PPS (R521, R522), and the GOOSE and Sampled Values parser (R523 to R528). -/

namespace Sys2Proof.Machine

open Sys2Proof

/-! ## Ports and stamps -/

/-- The port's link is up. -/
def State.ethUp (s : State) (p : Nat) : Bool := s.on (F.ETH_PORT_STAT_LINK p)

/-- A link comes up, with auto-negotiation done where the port runs it (R504, R507). -/
def State.ethLinkUp (s : State) (p : Nat) : State :=
  let md := s.get (F.ETH_PORT_CFG_MODE p)
  if s.dev.inReset || md = 0 then s
  else (s.flag (F.ETH_PORT_STAT_LINK p)).set (F.ETH_PORT_STAT_AN_DONE p)
    (b2n (md = 1 && s.on (F.ETH_PORT_CFG_AN_EN p)))

/-- The frames that wait on a port. -/
def State.ethTxQ (s : State) (p : Nat) : List EthTx := sget s.eth.tx [] p

/-- They are replaced. -/
def State.setEthTx (s : State) (p : Nat) (q : List EthTx) : State :=
  { s with eth := { s.eth with tx := sput s.eth.tx [] p q } }

/-- A link goes down: what waits completes at once as FAILED_ACCESS (R507). -/
def State.ethLinkDown (s : State) (p : Nat) : State :=
  let q := s.ethTxQ p
  let s := (s.set (F.ETH_PORT_STAT_LINK p) 0).set (F.ETH_PORT_STAT_AN_DONE p) 0
  q.foldl (fun t e => t.complete e.ring e.idx 1 0 0) (s.setEthTx p [])

/-- A latency register in 2^-16 ns. -/
def lat16 (v : Int) : Int := v * 4096

/-- A stamp taken at the stamp point (R510 to R512), in 2^-16 ns: t at the PCS, or at the MAC
with a resolution of 8 ns. -/
def State.ethStamp (s : State) (p : Nat) (ingress : Bool) (t : Int) : Nat :=
  let mac := s.on (F.ETH_PORT_CFG_STAMP p)
  let t := if mac then t / (8 * 65536) * (8 * 65536) else t
  let asym := lat16 (sx 16 (s.get (F.ETH_ASYM_ASYM p)))
  let v := if ingress then
      t - lat16 (s.get (F.ETH_LAT_RXLAT p)) - asym - (if mac then 64 * 65536 else 0)
    else t + lat16 (s.get (F.ETH_LAT_TXLAT p)) - asym + (if mac then 56 * 65536 else 0)
  let v := if mac then v / 65536 * 65536 else v
  v.toNat

/-- A stamp as SEC, NS and FRAC. -/
def stampSec (v : Nat) : Nat := v / 2 ^ 16 / Config.nsPerSec
/-- NS of a stamp. -/
def stampNs (v : Nat) : Nat := v / 2 ^ 16 % Config.nsPerSec

/-! ## Frames -/

/-- A big-endian number of a byte string. -/
def beNat (b : Bytes) : Nat := b.foldl (fun a x => a * 256 + x.toNat) 0

/-- A big-endian field. -/
def fieldBE (b : Bytes) (ofs k : Nat) : Nat := beNat (slice b ofs k)

/-- The frame carries a VLAN tag with TPID 0x8100 (R505). -/
def ethTagged (f : Bytes) : Bool := fieldBE f 12 2 = 0x8100

/-- Offset of the EtherType. -/
def ethTypeAt (f : Bytes) : Nat := if ethTagged f then 16 else 12

/-- EtherType. -/
def ethType (f : Bytes) : Nat := fieldBE f (ethTypeAt f) 2

/-- What follows the EtherType. -/
def ethPayload (f : Bytes) : Bytes := f.drop (ethTypeAt f + 2)

/-- The UDP destination port and payload of a frame over IPv4 or IPv6, if it is one. -/
def udpOf (f : Bytes) : Option (Nat × Bytes) :=
  let b := ethPayload f
  if ethType f = 0x0800 then
    let h := 4 * (fieldBE b 0 1 % 16)
    if fieldBE b 0 1 / 16 = 4 && fieldBE b 9 1 = 17 && fieldBE b 6 2 % 0x2000 = 0 then
      some (fieldBE b (h + 2) 2, b.drop (h + 8))
    else none
  else if ethType f = 0x86DD then
    (if fieldBE b 6 1 = 17 then some (fieldBE b 42 2, b.drop 48) else none)
  else none

/-- CLASS of a PTP message by its messageType: 1 event, 2 general, 0 neither (R506). -/
def ptpClass (b : Bytes) : Nat :=
  let m := fieldBE b 0 1 % 16
  if m ≤ 3 then 1 else if 8 ≤ m && m ≤ 13 then 2 else 0

/-- CLASS 0, 1 or 2 of a frame (R506). -/
def frameClass (f : Bytes) : Nat :=
  if ethType f = 0x88F7 then ptpClass (ethPayload f)
  else match udpOf f with
    | some (319, b) => ptpClass b
    | some (320, _) => 2
    | _ => 0

/-- GOOSE subscription i or SV subscription i matches a frame of a port (R523). -/
def State.gseHit (s : State) (p : Nat) (f : Bytes) (i : Nat) : Bool :=
  s.on (F.ETH_GSE_CFG_EN i) && bit (s.get (F.ETH_GSE_CFG_PORTS i)) p &&
    fieldBE f 0 6 = s.word (R.ETH_GSE_MAC i) + s.get (F.ETH_GSE_ID_MAC_HI i) * 2 ^ 32 &&
    fieldBE (ethPayload f) 0 2 = s.get (F.ETH_GSE_ID_APPID i)
/-- SV. -/
def State.svHit (s : State) (p : Nat) (f : Bytes) (i : Nat) : Bool :=
  s.on (F.ETH_SV_CFG_EN i) && bit (s.get (F.ETH_SV_CFG_PORTS i)) p &&
    fieldBE f 0 6 = s.word (R.ETH_SV_MAC i) + s.get (F.ETH_SV_ID_MAC_HI i) * 2 ^ 32 &&
    fieldBE (ethPayload f) 0 2 = s.get (F.ETH_SV_ID_APPID i)

/-! ## BER (IEC 61850-8-1 and 9-2; PRESUMED, notes/assumptions/24.md) -/

/-- The elements of a BER byte string: tag and content; none where it does not decode. -/
def ber : Nat → Bytes → Option (List (Nat × Bytes))
  | _, [] => some []
  | 0, _ => none
  | fuel + 1, t :: r =>
    match r with
    | [] => none
    | l :: r =>
      let n := l.toNat
      let (len, r) := if n < 128 then (n, r)
        else if n = 0x81 then (fieldBE r 0 1, r.drop 1)
        else if n = 0x82 then (fieldBE r 0 2, r.drop 2)
        else (r.length + 1, r)
      if r.length < len then none
      else (ber fuel (r.drop len)).map (fun x => (t.toNat, r.take len) :: x)

/-- The content of the first element with a tag. -/
def berGet (l : List (Nat × Bytes)) (tag : Nat) : Option Bytes := (l.find? (fun e => e.1 = tag)).map (·.2)

/-- An unsigned content of at most four bytes, or of five with a leading zero. -/
def berU32 (b : Bytes) : Option Nat := if b.length = 0 || beNat b ≥ 2 ^ 32 then none else some (beNat b)

/-- The word of a GOOSE member and whether it could not be represented (R525). -/
def gseMember (tag : Nat) (b : Bytes) : Nat × Bool :=
  match tag with
  | 0x83 => (b2n (beNat b ≠ 0), decide (b.length ≠ 1))
  | 0x84 =>
    let n := 8 * (b.length - 1) - fieldBE b 0 1
    if b.length = 0 || n > 32 then (0, true)
    else (ofBits n (fun i => bit (fieldBE b (1 + i / 8) 1) (7 - i % 8)), false)
  | 0x85 => if b.length = 0 || b.length > 4 then (0, true) else (us 32 (sx (8 * b.length) (beNat b)), false)
  | 0x86 => if b.length = 0 || b.length > 4 then (0, true) else (beNat b, false)
  | 0x87 => if b.length = 5 && fieldBE b 0 1 = 8 then (fieldBE b 1 4, false) else (0, true)
  | _ => (0, true)

/-- A decoded message: the numbers that identify it, its flags, and its members or elements. -/
structure SubMsg where
  a : Nat
  b : Nat
  ttl : Nat
  confRev : Nat
  sim : Bool
  nds : Bool
  mems : List (Nat × Bool)
  deriving DecidableEq, Repr

/-- A GOOSE frame decoded (R523): stNum, sqNum, timeAllowedToLive, confRev, simulation or test,
ndsCom, allData. -/
def gseDecode (f : Bytes) : Option SubMsg := do
  let b := ethPayload f
  let apdu := (b.drop 8).take (fieldBE b 2 2 - 8)
  let top ← ber apdu.length apdu
  let pdu ← berGet top 0x61
  let l ← ber pdu.length pdu
  let st ← (berGet l 0x85).bind berU32
  let sq ← (berGet l 0x86).bind berU32
  let ttl ← (berGet l 0x81).bind berU32
  let rev ← (berGet l 0x88).bind berU32
  let data ← berGet l 0xAB
  let mems ← ber data.length data
  let sim := match berGet l 0x87 with | some x => decide (beNat x ≠ 0) | none => false
  let nds := match berGet l 0x89 with | some x => decide (beNat x ≠ 0) | none => false
  pure { a := st, b := sq, ttl := ttl, confRev := rev, sim := sim || bit (fieldBE b 4 2) 15, nds := nds,
         mems := mems.map (fun e => gseMember e.1 e.2) }

/-- ASDU k of an SV frame decoded (R523, R525): smpCnt with smpSynch, confRev, and the
elements as value and quality words in turn. -/
def svDecode (f : Bytes) (k : Nat) : Option SubMsg := do
  let b := ethPayload f
  let apdu := (b.drop 8).take (fieldBE b 2 2 - 8)
  let top ← ber apdu.length apdu
  let pdu ← berGet top 0x60
  let l ← ber pdu.length pdu
  let seq ← berGet l 0xA2
  let as ← ber seq.length seq
  let e ← as[k]?
  let x ← ber e.2.length e.2
  let cnt ← (berGet x 0x82).bind berU32
  let rev ← (berGet x 0x83).bind berU32
  let syn ← (berGet x 0x85).bind berU32
  let data ← berGet x 0x87
  pure { a := cnt % 65536 + (syn % 256) * 65536, b := rev, ttl := 0, confRev := rev,
         sim := bit (fieldBE b 4 2) 15, nds := false,
         mems := (List.range ((data.length + 3) / 4)).map (fun i => (fieldBE data (4 * i) 4, false)) }

/-! ## Subscription records (R523 to R528) -/

/-- Address of the record of GOOSE (false) or SV (true) subscription i. -/
def State.subAt (s : State) (sv : Bool) (i : Nat) : Nat :=
  sramBase + (if sv then s.get F.ETH_SV_BASE_BASE else s.get F.ETH_GSE_BASE_BASE) * 256 + 256 * i

/-- A change of a subscription: its bit, and the work item when the two registers were zero
(R528). -/
def State.subChg (s : State) (sv : Bool) (i : Nat) : State :=
  let was := s.get F.ETH_GSE_CHG_CHG = 0 && s.get F.ETH_SV_CHG_CHG = 0
  let s := if sv then s.orF F.ETH_SV_CHG_CHG (2 ^ i) else s.orF F.ETH_GSE_CHG_CHG (2 ^ i)
  if was && s.on F.ETH_EVT_TPL_EN then s.submitTpl 0x15 (s.get F.ETH_EVT_TPL_TPL * 32) none else s

/-- Offset of STAT in a record. -/
def statAt (sv : Bool) : Nat := if sv then 0x0C else 0x18

/-- GEN advances: the last word of every update (R527). -/
def State.subGen (s : State) (sv : Bool) (i : Nat) : State :=
  let a := s.subAt sv i
  s.wr32 a ((s.rd32 a + 1) % 2 ^ 32)

/-- What the elements of SV subscription i are for Vesper (R526). -/
def State.svVesper (s : State) (i : Nat) (stale : Bool) : State :=
  let a := s.subAt true i
  let n := s.rd32 (a + 0x18)
  { s with vsp := { s.vsp with sv := (List.range 16).foldl (fun m e =>
      let q := s.rd32 (a + 0x24 + 8 * e)
      sins m (16 * i + e) (sx 32 (s.rd32 (a + 0x20 + 8 * e)), decide (e < n) && q % 4 = 0 && !stale)) s.vsp.sv } }

/-- An accepted message updates a record (R524, R525, R527, R528); `ts` is its receive stamp. -/
def State.subUpdate (s : State) (sv : Bool) (i ts : Nat) (m : SubMsg) : State :=
  let a := s.subAt sv i
  let stale := bit (s.rd32 (a + statAt sv)) 0
  let changed := if sv then stale else stale || s.rd32 (a + 4) ≠ m.a
  let s := { s with eth := { s.eth with
    accAt := sput s.eth.accAt none (i + 32 * b2n sv) (some (s.elapsed, m.ttl)) } }
  let room := 32
  let terr := (m.mems.take room).any (·.2)
  let st := 2 * b2n m.sim + 4 * b2n m.nds + 8 * b2n terr + 16 * b2n (decide (m.mems.length > room))
  let words := m.mems.take room
  let s := s.wrWords (a + 0x04) [m.a, m.b]
  let s := if sv then
      s.wrWords (a + 0x0C) [st, stampNs ts, stampSec ts % 2 ^ 32, min (m.mems.length / 2) 16]
    else s.wrWords (a + 0x0C) [m.ttl, stampNs ts, stampSec ts % 2 ^ 32, st, m.confRev]
  let s := s.wrWords (a + 0x20) (words.map (·.1))
  let s := s.subGen sv i
  let s := if sv then
      let s := s.svVesper i false
      s.tuDeliver 5 i s.now16
    else s
  if changed then s.subChg sv i else s

/-- A frame that matches subscription i goes through the parser (R524). -/
def State.subFrame (s : State) (sv : Bool) (i ts : Nat) (f : Bytes) : State :=
  let chk := if sv then s.on (F.ETH_SV_CFG_CONF_CHK i) else s.on (F.ETH_GSE_CFG_CONF_CHK i)
  let rev := if sv then s.word (R.ETH_SV_CONF i) else s.word (R.ETH_GSE_CONF i)
  let simOk := if sv then s.on (F.ETH_SV_CFG_SIM_OK i) else s.on (F.ETH_GSE_CFG_SIM_OK i)
  match if sv then svDecode f (s.get (F.ETH_SV_CFG_ASDU i)) else gseDecode f with
  | none => s.inc R.ETH_CNT_PARSE
  | some m =>
    let a := s.subAt sv i
    let s := s.eccTouchIn a 256 0x35
    if (chk && m.confRev ≠ rev) || (m.sim && !simOk) then s.inc R.ETH_CNT_PARSE
    else if (if sv then m.a % 65536 = s.rd32 (a + 4) % 65536
        else m.a = s.rd32 (a + 4) && m.b = s.rd32 (a + 8)) then s.inc R.ETH_CNT_DUP
    else s.subUpdate sv i ts m

/-- Nanoseconds passed at which a subscription's time limit ends (R527); none before its first
message. -/
def State.subLimit (s : State) (sv : Bool) (i : Nat) : Option Nat :=
  (sget s.eth.accAt none (i + 32 * b2n sv)).map (fun x =>
    x.1 + (if sv then 1000 * s.get (F.ETH_SV_CFG_STALE_US i) else 1000000 * x.2))

/-- The time limit of a subscription passes: STALE with a GEN increment (R527, R528). -/
def State.subStale (s : State) (sv : Bool) (i : Nat) : State :=
  let en := if sv then s.on (F.ETH_SV_CFG_EN i) else s.on (F.ETH_GSE_CFG_EN i)
  let a := s.subAt sv i + statAt sv
  let s := if s.dev.inReset || !en then s else s.eccTouchIn (s.subAt sv i) 256 0x35
  if s.dev.inReset || !en || bit (s.rd32 a) 0 then s
  else
    let s := (s.wr32 a (setBit (s.rd32 a) 0 true)).subGen sv i
    let s := if sv then s.svVesper i true else s
    s.subChg sv i

/-! ## Reception -/

/-- The receive header (Receive header). -/
def rxHeader (len cls : Nat) (tagged mac : Bool) (ts : Nat) : Bytes :=
  toLE 2 len ++ toLE 1 cls ++ toLE 1 (b2n tagged + 2 * b2n mac) ++ toLE 2 (ts % 2 ^ 16) ++ [0, 0] ++
    toLE 4 (stampNs ts) ++ toLE 4 (stampSec ts)

/-- A frame of class 0 to 2 goes into the oldest BUF of the port's ring (R508). -/
def State.ethToHost (s : State) (p cls ts : Nat) (f : Bytes) (hm : HostMem) : State :=
  let ring := (List.range Config.rings).find? (fun r => s.rst r ≠ .disabled && s.rtype r = .ethRx &&
    s.get (F.HOST_RING_CFG_SUB r) = p)
  match ring with
  | none => s.inc (R.ETH_CNT_RXNOBUF p)
  | some r =>
    match (s.ring r).outs.find? (fun d => d.started && d.op = 1) with
    | none => s.inc (R.ETH_CNT_RXNOBUF p)
    | some d =>
      let data := rxHeader f.length cls (ethTagged f) (s.on (F.ETH_PORT_CFG_STAMP p)) ts ++ f
      let a := fieldLE d.bytes 8 8
      let (m, ok, s) := s.hostWr hm (ringReq r) (pagesOf a data.length) a data
      if ok then s.complete r d.idx 0 (16 + f.length) 0 else s.complete r d.idx 3 m 0

/-- A frame arrives on a port, FCS included; `ago` is 2^-16 ns since its delimiter passed the
stamp point (R505, R506, R508, R523). -/
def State.ethReceive (s : State) (p : Nat) (frame : Bytes) (ago : Nat) (hm : HostMem) : State :=
  if s.dev.inReset || !s.ethUp p then s
  else if frame.length < 64 || frame.length > 1522 || !crc32Ok frame then s.inc (R.ETH_CNT_RXERR p)
  else
    let f := frame.take (frame.length - 4)
    let s := s.inc (R.ETH_CNT_RXOK p)
    let ts := s.ethStamp p true ((s.now16 : Int) - ago)
    let gse := if ethType f = 0x88B8 then (List.range 32).find? (s.gseHit p f) else none
    let sv := if ethType f = 0x88BA then (List.range 16).find? (s.svHit p f) else none
    match gse, sv with
    | some i, _ => s.subFrame false i ts f
    | none, some i => s.subFrame true i ts f
    | none, none => s.ethToHost p (frameClass f) ts f hm

/-- A BUF descriptor is fetched (R507, R508). -/
def State.ethBuf (s : State) (r : Nat) (hm : HostMem) : State :=
  match s.fetchEvent r hm (wantOp s r .ethRx 1) with
  | (.nothing, s) => s
  | (.start d, s) => if fieldLE d.bytes 16 2 < 1540 then s.complete r d.idx 1 0 0 else s

/-! ## Sending -/

/-- A SEND is fetched: it waits on its port, or fails while the link is down (R507). -/
def State.ethSend (s : State) (r : Nat) (hm : HostMem) : State :=
  let p := s.get (F.HOST_RING_CFG_SUB r)
  match s.fetchEvent r hm (wantOp s r .ethTx 1) with
  | (.nothing, s) => s
  | (.start d, s) =>
    let len := fieldLE d.bytes 16 2
    if !s.ethUp p || len < 14 || len > 1518 then s.complete r d.idx 1 0 0
    else
      let a := fieldLE d.bytes 8 8
      let (data, f, s) := s.hostRd hm (ringReq r) (pagesOf a len) a len
      match f with
      | some e => s.complete r d.idx e.status 0 0
      | none =>
        let ts := if bit (fieldLE d.bytes 18 1) 0 then some (fieldLE d.bytes 20 2) else none
        s.setEthTx p (s.ethTxQ p ++ [⟨r, d.idx, data, ts⟩])

/-- A stamp at the tail of a port's transmit-timestamp queue, or lost (R514, R515). -/
def State.tsqPush (s : State) (p tsid ts : Nat) : State :=
  let q := sget s.eth.tsq [] p
  if q.length ≥ 16 then
    let l : TsqLost := { cyc := s.elapsed, tsid := tsid, stamp := ts,
                         ovf := s.get (F.ETH_PORT_STAT_TSQ_OVF p), cnt := s.get (R.ETH_CNT_TSQOVF p) }
    let s := (s.flag (F.ETH_PORT_STAT_TSQ_OVF p)).inc (R.ETH_CNT_TSQOVF p)
    { s with eth := { s.eth with lost := sput s.eth.lost none p (some l) } }
  else { s with eth := { s.eth with tsq := sput s.eth.tsq [] p (q ++ [(tsid, ts)]) } }

/-- The last byte of the oldest frame leaves a port; `ago` is 2^-16 ns since its delimiter
passed the stamp point (R507, R512, R514). -/
def State.ethSent (s : State) (p ago : Nat) : State :=
  match s.ethTxQ p with
  | [] => s
  | e :: rest =>
    if !s.ethUp p then s
    else
      let s := (s.setEthTx p rest).inc (R.ETH_CNT_TXOK p)
      let body := e.frame ++ List.replicate (60 - e.frame.length) 0
      let s := s.emit (.eth p (withCrc32 body))
      let s := match e.tsid with
        | some t => s.tsqPush p t (s.ethStamp p false ((s.now16 : Int) - ago))
        | none => s
      s.complete e.ring e.idx 0 e.frame.length 0

/-- A CANCEL meets a SEND of port p (R509). The flag says that it was waiting. Whether the
first byte of the oldest frame has left, the port alone knows: a free value. -/
def State.ethCancel (s : State) (p r idx : Nat) : Bool × State :=
  match (s.ethTxQ p).findIdx? (fun e => e.ring = r && e.idx = idx) with
  | none => (false, s)
  | some i =>
    let (v, s) := if i = 0 then s.fresh else (0, s)
    if v % 2 = 1 then (true, s.updDesc r idx (fun d => { d with cancelLate := true }))
    else (true, (s.setEthTx p ((s.ethTxQ p).filter (fun e => !(e.ring = r && e.idx = idx)))).complete r idx 4 0 0)

/-- A stamp that found the queue full in the cycle of a read goes in after it (R515). -/
def State.tsqKeep (s : State) (p : Nat) : State :=
  match sget s.eth.lost none p with
  | some l =>
    if l.cyc = s.elapsed then
      let s := { s with eth := { s.eth with
        lost := sput s.eth.lost none p none,
        tsq := sput s.eth.tsq [] p (sget s.eth.tsq [] p ++ [(l.tsid, l.stamp)]) } }
      (s.set (F.ETH_PORT_STAT_TSQ_OVF p) l.ovf).set (R.ETH_CNT_TSQOVF p) l.cnt
    else s
  | none => s

/-- A read of ETH_TSQ_HEAD (R514): the word it returns. -/
def State.tsqRead (s : State) (p : Nat) : Nat × State :=
  match sget s.eth.tsq [] p with
  | [] => (0, s)
  | (id, ts) :: rest =>
    let n := rest.length + 1
    let s := { s with eth := { s.eth with tsq := sput s.eth.tsq [] p rest } }
    let s := ((s.set (R.ETH_TSQ_NS p) (stampNs ts)).set (R.ETH_TSQ_SEC p) (stampSec ts % 2 ^ 32)).set
      (R.ETH_TSQ_FRAC p) (ts % 2 ^ 16)
    (id + 2 ^ 16 + n * 2 ^ 17, s.tsqKeep p)

/-! ## Adjustment registers -/

/-- Writes of the adjustment registers are ignored in this role (R389, R519). -/
def State.adjIgn (s : State) : Bool :=
  s.role = .nightwatch || s.role = .leaving || s.role = .claiming

/-- A write of an adjustment register: ignored with ADJ_IGN, or taken, which ends HOLDOVER
(R519, R520). -/
def State.adjust (s : State) (f : State → State) : State :=
  if s.adjIgn then s.flag F.PAIR_FLAG_ADJ_IGN else
    f ({ s with eth := { s.eth with adjAt := some s.elapsed } }.set F.ETH_TIME_STAT_HOLDOVER 0)

/-- ±500 ppm in units of 1/256 ppb (R516). -/
def freqMax : Int := 128000000

/-- A write of ETH_FREQ (R516). -/
def State.ethFreq (s : State) (v : Nat) : State :=
  s.adjust (fun s =>
    let x := sx 32 v
    let y := clampI (-freqMax) freqMax x
    (s.when (x ≠ y) (·.flag F.ETH_TIME_STAT_ADJ_CLAMP)).set R.ETH_FREQ (us 32 y))

/-- A write of ETH_SLEW starts or replaces a slew (R517). -/
def State.ethSlew (s : State) (v : Nat) : State :=
  s.adjust (fun s =>
    let s := ((s.set R.ETH_SLEW v).set R.ETH_SLEW_LEFT v).flag F.ETH_TIME_STAT_SLEW_BUSY
    { s with time := { s.time with slew := sx 32 v * 65536, acc := 0 } })

/-- A write of ETH_SLEW_RATE: 1 to 100 ppm (R517). -/
def State.ethSlewRate (s : State) (v : Nat) : State :=
  if 1 ≤ v % 128 && v % 128 ≤ 100 then s.set F.ETH_SLEW_RATE_RATE (v % 128) else s

/-- A slew has moved station time by SLEW (R517). -/
def State.slewDone (s : State) : State :=
  if s.on F.ETH_TIME_STAT_SLEW_BUSY then
    let s := (s.set F.ETH_TIME_STAT_SLEW_BUSY 0).set R.ETH_SLEW_LEFT 0
    { s with time := { s.time with slew := 0, acc := 0 } }
  else s

/-- A step ends a slew with its remainder discarded (R518). -/
def State.slewCancel (s : State) : State :=
  if s.on F.ETH_TIME_STAT_SLEW_BUSY then s.slewDone.flag F.ETH_TIME_STAT_SLEW_CANCEL else s

/-- 10 s without a write of an adjustment register (R520). -/
def State.holdover (s : State) : State := if s.dev.inReset then s else s.flag F.ETH_TIME_STAT_HOLDOVER

/-! ## 1PPS -/

/-- Nanoseconds to the next whole second plus OUT_OFS, from one that has had its pulse on
(R521). -/
def State.ppsDue (s : State) : Nat :=
  let late := ((s.now : Int) - sx 20 (s.get F.ETH_PPS_CFG_OUT_OFS)) % (Config.nsPerSec : Int)
  if late = 0 && s.eth.ppsAt ≠ some s.elapsed then 0 else Config.nsPerSec - late.toNat

/-- PPS_OUT rises and is high for WIDTH ms (R521). -/
def State.ppsOut (s : State) : State :=
  if !s.dev.inReset && s.on F.ETH_PPS_CFG_PPS_OUT_EN && s.ppsDue = 0 then
    { s with eth := { s.eth with ppsAt := some s.elapsed } }.emit
      (.pulse "PPS_OUT" (1000000 * s.get F.ETH_PPS_CFG_WIDTH))
  else s

/-- The latest stamped edge of PPS_IN rose less than 100 ns ago: a new edge shows that its pulse
was shorter than 100 ns (R522). -/
def State.ppsShort (s : State) : Bool :=
  match s.eth.ppsInAt with
  | some a => decide (s.elapsed < a + 100)
  | none => false

/-- A rising edge on PPS_IN is stamped and counted, and sets PPSIN_OVR over an unread stamp (R522).
Where the edge before it began a pulse under 100 ns, which is ignored, this edge stands in its
place. -/
def State.ppsIn (s : State) : State :=
  if !s.dev.inReset && s.on F.ETH_PPS_CFG_PPS_IN_EN then
    let s := if s.ppsShort then s else
      (s.when s.eth.ppsUnread (·.flag F.ETH_TIME_STAT_PPSIN_OVR)).set F.ETH_TIME_STAT_PPSIN_CNT
        ((s.get F.ETH_TIME_STAT_PPSIN_CNT + 1) % 65536)
    let s := (s.set R.ETH_PPSIN_NS s.time.ns).set R.ETH_PPSIN_SEC (s.time.sec % 2 ^ 32)
    { s with eth := { s.eth with ppsUnread := true, ppsInAt := some s.elapsed } }
  else s

/-- A read of ETH_PPSIN_SEC marks the stamp as read (R522). -/
def State.ppsRead (s : State) : State := { s with eth := { s.eth with ppsUnread := false } }

/-- ETH_CNT_CLR. -/
def State.ethCntClr (s : State) : State :=
  s.zero ([R.ETH_CNT_DUP, R.ETH_CNT_PARSE] ++ (List.range 4).flatMap (fun p =>
    [R.ETH_CNT_RXERR p, R.ETH_CNT_RXNOBUF p, R.ETH_CNT_RXOK p, R.ETH_CNT_TXOK p, R.ETH_CNT_TSQOVF p]))

end Sys2Proof.Machine
end

