-- ==== Sys2Proof/Machine/Crypto.lean ====
section
/-! DEFINITION. The two functions of FIPS 180-4 and FIPS 186-5 that R553 names: SHA-256, and the
verification of an ECDSA P-256 signature (PRESUMED from those standards,
notes/assumptions/25.md). -/

namespace Sys2Proof.Machine

open Sys2Proof

/-! ## SHA-256 -/

/-- A big-endian number. -/
def beNum (b : Bytes) : Nat := b.foldl (fun a x => a * 256 + x.toNat) 0

/-- n as k big-endian bytes. -/
def toBE (k n : Nat) : Bytes := (toLE k n).reverse

/-- A 32-bit word rotated right. -/
def rotr (n x : Nat) : Nat := x >>> n ||| (x * 2 ^ (32 - n)) % 2 ^ 32

/-- The largest r below 2^n above the bits already settled in `acc` with r^e at most x. -/
def rootBits (e x : Nat) : Nat → Nat → Nat
  | 0, acc => acc
  | n + 1, acc => rootBits e x n (if (acc + 2 ^ n) ^ e ≤ x then acc + 2 ^ n else acc)

/-- The first 32 bits of the fractional part of the root of degree e of a prime. -/
def rootFrac (e p : Nat) : Nat := rootBits e (p * 2 ^ (32 * e)) 38 0 % 2 ^ 32

/-- The primes below 312, the first 64 of all. -/
def smallPrimes : List Nat :=
  (List.range 312).filter (fun n =>
    decide (2 ≤ n) && ([2, 3, 5, 7, 11, 13, 17] : List Nat).all (fun d => n = d || n % d ≠ 0))

/-- The constants of the 64 rounds: from the cube roots of the first 64 primes. -/
def shaK : List Nat := smallPrimes.map (rootFrac 3)

/-- The initial hash value: from the square roots of the first 8 primes. -/
def shaInit : List Nat := (smallPrimes.take 8).map (rootFrac 2)

/-- The next word of the message schedule from the last sixteen, newest first. -/
def shaNext (w : List Nat) : Nat :=
  let a := nth w 0 1
  let b := nth w 0 14
  let s1 := rotr 17 a ^^^ rotr 19 a ^^^ a >>> 10
  let s0 := rotr 7 b ^^^ rotr 18 b ^^^ b >>> 3
  (s1 + nth w 0 6 + s0 + nth w 0 15) % 2 ^ 32

/-- One round with a constant and a schedule word. -/
def shaRound (v : List Nat) (k w : Nat) : List Nat :=
  match v with
  | [a, b, c, d, e, f, g, h] =>
    let s1 := rotr 6 e ^^^ rotr 11 e ^^^ rotr 25 e
    let ch := (e &&& f) ^^^ ((e ^^^ 0xFFFFFFFF) &&& g)
    let t1 := h + s1 + ch + k + w
    let s0 := rotr 2 a ^^^ rotr 13 a ^^^ rotr 22 a
    let maj := (a &&& b) ^^^ (a &&& c) ^^^ (b &&& c)
    [(t1 + s0 + maj) % 2 ^ 32, a, b, c, (d + t1) % 2 ^ 32, e, f, g]
  | _ => v

/-- The rounds over the constants: the schedule so far, newest first, and words still to come
from the block. -/
def shaRounds : List Nat → List Nat → List Nat → List Nat → List Nat
  | [], _, _, v => v
  | k :: ks, x :: blk, w, v => shaRounds ks blk (x :: w) (shaRound v k x)
  | k :: ks, [], w, v =>
    let x := shaNext w
    shaRounds ks [] (x :: w.take 15) (shaRound v k x)

/-- One block of 64 bytes. -/
def shaBlock (h : List Nat) (b : Bytes) : List Nat :=
  let ws := (List.range 16).map (fun i => beNum (slice b (4 * i) 4))
  (h.zip (shaRounds shaK ws [] h)).map (fun p => (p.1 + p.2) % 2 ^ 32)

/-- Blocks of 64 bytes in turn. -/
def shaBlocks : Nat → List Nat → Bytes → List Nat
  | 0, h, _ => h
  | n + 1, h, b => shaBlocks n (shaBlock h (b.take 64)) (b.drop 64)

/-- SHA-256 of a byte string. -/
def sha256 (b : Bytes) : Bytes :=
  let n := b.length
  let pad := b ++ [0x80] ++ List.replicate ((119 - n % 64) % 64) 0 ++ toBE 8 (8 * n)
  ((shaBlocks (pad.length / 64) shaInit pad).map (toBE 4)).flatten

/-! ## ECDSA over P-256 -/

/-- The field prime. -/
def p256 : Nat := 2 ^ 256 - 2 ^ 224 + 2 ^ 192 + 2 ^ 96 - 1
/-- The order of the base point. -/
def n256 : Nat := 0xffffffff00000000ffffffffffffffffbce6faada7179e84f3b9cac2fc632551
/-- The coefficient b. -/
def b256 : Nat := 0x5ac635d8aa3a93e7b3ebbd55769886bc651d06b0cc53b0f63bce3c3e27d2604b
/-- The base point. -/
def gx256 : Nat := 0x6b17d1f2e12c4247f8bce6e563a440f277037d812deb33a0f4a13945d898c296
/-- Its y coordinate. -/
def gy256 : Nat := 0x4fe342e2fe1a7f9b8ee7eb4a7c0f9e162bce33576b315ececbb6406837bf51f5

/-- Difference modulo m. -/
def subM (m a b : Nat) : Nat := (a + m - b % m) % m

/-- a^e modulo m over the bits of e, least significant first; the first argument bounds their
number. -/
def powM (m : Nat) : Nat → Nat → Nat → Nat
  | 0, _, _ => 1
  | k + 1, a, e => (if e % 2 = 1 then a else 1) * powM m k (a * a % m) (e / 2) % m

/-- Inverse modulo a prime. -/
def invM (m a : Nat) : Nat := powM m 256 (a % m) (m - 2)

/-- A point in Jacobian coordinates; z = 0 is the point at infinity. -/
structure Jac where
  x : Nat
  y : Nat
  z : Nat
  deriving DecidableEq, Repr

/-- Twice a point. -/
def Jac.dbl (p : Jac) : Jac :=
  let yy := p.y * p.y % p256
  let s := 4 * p.x * yy % p256
  let zz := p.z * p.z % p256
  let m := 3 * (subM p256 p.x zz) * (p.x + zz) % p256
  let x := subM p256 (m * m % p256) (2 * s)
  ⟨x, subM p256 (m * subM p256 s x % p256) (8 * yy * yy), 2 * p.y * p.z % p256⟩

/-- The sum of two points. -/
def Jac.add (p q : Jac) : Jac :=
  if p.z = 0 then q
  else if q.z = 0 then p
  else
    let z1 := p.z * p.z % p256
    let z2 := q.z * q.z % p256
    let u1 := p.x * z2 % p256
    let u2 := q.x * z1 % p256
    let s1 := p.y * z2 * q.z % p256
    let s2 := q.y * z1 * p.z % p256
    if u1 = u2 then (if s1 = s2 then p.dbl else ⟨1, 1, 0⟩)
    else
      let h := subM p256 u2 u1
      let r := subM p256 s2 s1
      let hh := h * h % p256
      let h3 := hh * h % p256
      let v := u1 * hh % p256
      let x := subM p256 (r * r % p256) (h3 + 2 * v)
      ⟨x, subM p256 (r * subM p256 v x % p256) (s1 * h3), h * p.z * q.z % p256⟩

/-- k times a point, over the bits of k. -/
def Jac.mul : Nat → Nat → Jac → Jac
  | 0, _, _ => ⟨1, 1, 0⟩
  | n + 1, k, p =>
    let r := Jac.mul n (k / 2) p.dbl
    if k % 2 = 1 then r.add p else r

/-- The signature (r, s) verifies under the key (x, y) over a digest. -/
def ecdsaOk (key sig digest : Bytes) : Bool :=
  let x := beNum (slice key 0 32)
  let y := beNum (slice key 32 32)
  let r := beNum (slice sig 0 32)
  let s := beNum (slice sig 32 32)
  if x ≥ p256 || y ≥ p256 || (y * y) % p256 ≠ subM p256 ((x * x * x + b256) % p256) (3 * x) then false
  else if r = 0 || s = 0 || r ≥ n256 || s ≥ n256 then false
  else
    let w := invM n256 s
    let u1 := beNum digest * w % n256
    let u2 := r * w % n256
    let p := (Jac.mul 256 u1 ⟨gx256, gy256, 1⟩).add (Jac.mul 256 u2 ⟨x, y, 1⟩)
    if p.z = 0 then false
    else
      let zi := invM p256 p.z
      decide (p.x * (zi * zi) % p256 % n256 = r)

end Sys2Proof.Machine
end

