-- ==== Sys2Proof/Machine/Img.lean ====
section
/-! DEFINITION. The boot flash with its commit records (R550, R551, R555, R559), the check of
an image (R552, R553) and its parts, the OTP key slots (R556, R557) and the operations of an
IMG ring (R558). -/

namespace Sys2Proof.Machine

open Sys2Proof

/-! ## Flash -/

/-- A flash byte. -/
def State.flByte (s : State) (a : Nat) : Byte := sget s.img.flash 0xFF a

/-- k flash bytes from an offset. -/
def State.flRd (s : State) (a k : Nat) : Bytes := (List.range k).map (fun i => s.flByte (a + i))

/-- Bytes put at an offset of the flash. -/
def flPut (m : Sparse Byte) (a : Nat) : Bytes → Sparse Byte
  | [] => m
  | b :: r => flPut (sput m 0xFF a b) (a + 1) r

/-- Flash bytes replaced (erase and program together). -/
def State.flWr (s : State) (a : Nat) (d : Bytes) : State :=
  { s with img := { s.img with flash := flPut s.img.flash a d } }

/-- A program operation: a flash bit only goes from 1 to 0. -/
def State.flProg (s : State) (a : Nat) (d : Bytes) : State :=
  s.flWr a ((s.flRd a d.length).zipWith (· &&& ·) d)

/-- A slot: 24 MiB at 0x010_0000 (A) or 0x190_0000 (B) (R550). -/
def slotBase (k : Nat) : Nat := 0x0100000 + 0x1800000 * k
/-- Size of a slot. -/
def slotSize : Nat := 0x1800000

/-- A slot erased. -/
def State.flErase (s : State) (k : Nat) : State :=
  { s with img := { s.img with
    flash := s.img.flash.filter (fun p =>
      decide (p.1 < slotBase k) || decide (slotBase k + slotSize ≤ p.1)) } }

/-! ## Commit records -/

/-- A commit record: SEQ, and STATE apart (R551). Slot states: 0 EMPTY, 1 VALID, 2 UPDATING,
3 INVALID. -/
structure CRec where
  seq : Nat
  active : Nat
  sa : Nat
  sb : Nat
  deriving DecidableEq, Repr

/-- The record of a copy, when valid (R551). -/
def State.recOf (s : State) (copy : Nat) : Option CRec :=
  let b := s.flRd (0x1000 * copy) 16
  if fieldLE b 0 4 = 0x52435850 && fieldLE b 12 4 = crc32 (b.take 12) then
    let st := fieldLE b 8 4
    some ⟨fieldLE b 4 4, bits st 0 1, bits st 1 2, bits st 3 2⟩
  else none

/-- The newest valid record and its copy (R551). -/
def State.newest (s : State) : Option (CRec × Nat) :=
  match s.recOf 0, s.recOf 1 with
  | none, none => none
  | some a, none => some (a, 0)
  | none, some b => some (b, 1)
  | some a, some b =>
    let d := (b.seq + 2 ^ 32 - a.seq) % 2 ^ 32
    if 1 ≤ d && d < 2 ^ 31 then some (b, 1)
    else if d > 2 ^ 31 then some (a, 0)
    else if Config.recordTie then some (b, 1) else some (a, 0)

/-- State of a slot in a record. -/
def CRec.slot (r : CRec) (k : Nat) : Nat := if k = 0 then r.sa else r.sb

/-- A record with a slot's state changed. -/
def CRec.put (r : CRec) (k v : Nat) : CRec :=
  if k = 0 then { r with sa := v } else { r with sb := v }

/-- DEV_IMG shows the slot states of a record. -/
def State.showRec (s : State) (r : CRec) : State :=
  (s.set F.DEV_IMG_STATE_A r.sa).set F.DEV_IMG_STATE_B r.sb

/-- The record in force: the newest, or where no copy is valid the running slot active and
both slots EMPTY, with a free SEQ (notes/assumptions/26.md). -/
def State.record (s : State) : CRec :=
  match s.newest with
  | some (r, _) => r
  | none => ⟨Config.freeValue s.free % 2 ^ 32, s.get F.DEV_IMG_RUN_SLOT, 0, 0⟩

/-- A new record into the other copy, with SEQ + 1 (R551). -/
def State.writeRec (s : State) (r : CRec) : State :=
  let (seq, copy) := match s.newest with
    | some (o, c) => (o.seq + 1, 1 - c)
    | none => (Config.freeValue s.free, 0)
  let b := toLE 4 0x52435850 ++ toLE 4 seq ++ toLE 4 (r.active + r.sa * 2 + r.sb * 8)
  let s := (s.flWr (0x1000 * copy) (b ++ toLE 4 (crc32 b))).showRec r
  { s with free := s.free + 1 }

/-! ## Images -/

/-- A section entry (R552). -/
structure Sect where
  type : Nat
  core : Nat
  target : Nat
  size : Nat
  src : Nat
  deriving DecidableEq, Repr

/-- NSEC of an image in flash. -/
def State.nsec (s : State) (base : Nat) : Nat := leNat (s.flRd (base + 16) 2)

/-- The section table of an image in flash (R552). -/
def State.sects (s : State) (base : Nat) : List Sect :=
  (List.range (s.nsec base)).map (fun i =>
    let b := s.flRd (base + 256 + 16 * i) 16
    ⟨fieldLE b 0 1, fieldLE b 1 1, fieldLE b 4 4, fieldLE b 8 4, fieldLE b 12 4⟩)

/-- Bytes of a section's target memory that it may fill (R553); none where no such target
exists. -/
def Sect.room (x : Sect) : Option Nat :=
  match x.type with
  | 1 => if x.core < 16 then some 0x10000 else none
  | 2 => if x.core < 16 then some 0x3DC00 else none
  | 3 => some sramSize
  | 4 => some x.size
  | _ => none

/-- BAR0 offset at which a section's data goes. -/
def Sect.addr (x : Sect) : Nat :=
  (match x.type with
    | 1 => instrBase x.core
    | 2 => dataBase x.core
    | _ => sramBase) + x.target

/-- Check 6 of R553. -/
def sectsOk (len nsec : Nat) (l : List Sect) : Bool :=
  16 * nsec ≤ len &&
  l.all (fun x => decide (x.src + x.size ≤ 256 + len) && x.target % 16 = 0 && x.size % 16 = 0 &&
    (match x.room with
      | some n => decide (x.target + x.size ≤ n) || x.type = 4
      | none => false)) &&
  (List.range l.length).all (fun i => (List.range i).all (fun j =>
    match l[i]?, l[j]? with
    | some a, some b => a.type = 4 || b.type = 4 || !overlap a.addr a.size b.addr b.size
    | _, _ => true))

/-- Check 1 of R553: MAGIC, HVER, the reserved bytes of the header, and the ranges of LEN and
NSEC. -/
def headOk (h : Bytes) : Bool :=
  fieldLE h 0 4 = 0x4D495850 && fieldLE h 4 2 = 1 && fieldLE h 7 1 = 0 &&
    fieldLE h 18 6 = 0 && fieldLE h 56 8 = 0 && fieldLE h 192 64 = 0 &&
    decide (16 ≤ fieldLE h 12 4) && decide (fieldLE h 12 4 ≤ 25165568) &&
    decide (1 ≤ fieldLE h 16 2) && decide (fieldLE h 16 2 ≤ 512)

/-- The checks of R553 on the image in a slot, in order: the number of the first that fails,
or none. A header check makes checks 1 to 4 alone (R547, noon). -/
def State.imgBad (s : State) (k : Nat) (headOnly : Bool) : Option Nat :=
  let base := slotBase k
  let h := s.flRd base 256
  let ks := fieldLE h 6 1
  let len := fieldLE h 12 4
  if !headOk h then some 1
  else if !(decide (ks < 8) && bit s.img.prog ks && !bit s.img.revoked ks) then some 2
  else if sha256 (slice h 128 64) ≠ sget s.img.hash [] ks then some 3
  else if !ecdsaOk (slice h 128 64) (slice h 64 64) (sha256 (h.take 64)) then some 4
  else if headOnly then none
  else if sha256 (s.flRd (base + 256) len) ≠ slice h 24 32 then some 5
  else if !sectsOk len (s.nsec base) (s.sects base) then some 6
  else none

/-- The register list of an image: the entries of its register-list sections in order, with
bytes 12 to 15 (R554). -/
def State.imgRegs (s : State) (k : Nat) : List (Nat × Nat × Nat) :=
  let base := slotBase k
  ((s.sects base).filter (·.type = 4)).flatMap (fun x =>
    (List.range (x.size / 16)).map (fun i =>
      let b := s.flRd (base + x.src + 16 * i) 16
      (fieldLE b 0 4, fieldLE b 4 4, fieldLE b 8 4)))

/-- The payload of an image put into the memories (R553, R547). -/
def State.imgLoad (s : State) (k : Nat) : State :=
  let base := slotBase k
  ((s.sects base).filter (·.type ≠ 4)).foldl
    (fun s x => s.wrB x.addr (s.flRd (base + x.src) x.size)) s

/-- DEV_IMG and DEV_IMG_VER show the image that runs. -/
def State.imgShow (s : State) (k : Nat) : State :=
  let h := s.flRd (slotBase k) 256
  ((s.set F.DEV_IMG_RUN_SLOT k).set F.DEV_IMG_KEYSLOT (fieldLE h 6 1)).set
    F.DEV_IMG_VER_IMAGE_VER (fieldLE h 8 4)

/-- What step 3 of a start finds (R547, R551, R555, R559). -/
inductive Found
  /-- no slot passes -/
  | noImage
  /-- slot k runs; `load` says its payload is loaded -/
  | run (k : Nat) (load : Bool)
  deriving DecidableEq, Repr

/-- Step 3 of a start: the commit record read, slots found UPDATING marked INVALID, the
active slot checked, the other tried. -/
def State.pickImage (s : State) (noon : Bool) : Found × State :=
  match s.newest with
  | none =>
    if s.imgBad 0 noon = none then (.run 0 (!noon), s.showRec ⟨0, 0, 0, 0⟩)
    else if s.imgBad 1 false = none then (.run 1 true, s.showRec ⟨0, 1, 0, 0⟩)
    else (.noImage, s)
  | some (r, _) =>
    let s := s.showRec r
    let upd := (List.range 2).filter (fun k => r.slot k = 2)
    let r' := upd.foldl (fun r k => r.put k 3) r
    let s := if upd.isEmpty then s else (s.writeRec r').flag F.DEV_IMG_INCOMPLETE
    let a := r'.active
    if r'.slot a = 1 && s.imgBad a noon = none then (.run a (!noon), s)
    else
      let o := 1 - a
      if r'.slot o = 1 && s.imgBad o false = none then
        (.run o true,
          (s.writeRec { (r'.put a 3) with active := o }).flag F.DEV_IMG_FALLBACK)
      else (.noImage, s)

/-! ## OTP -/

/-- DEV_OTP_STAT shows the key slots. -/
def State.otpShow (s : State) : State :=
  (s.set F.DEV_OTP_STAT_PROG s.img.prog).set F.DEV_OTP_STAT_REVOKED s.img.revoked

/-- DEV_OTP_CMD PROGRAM (R556, R557). -/
def State.otpProgram (s : State) (k : Nat) : State :=
  if s.gst ≠ .config || s.on F.DEV_OTP_STAT_OTP_BUSY || bit s.img.prog k then
    s.flag F.DEV_OTP_STAT_OTP_REJ
  else
    let h := (List.range 8).flatMap (fun w => toLE 4 (s.get (R.DEV_OTP_DATA w)))
    ({ s with img := { s.img with otp := some (k, h) } }).flag F.DEV_OTP_STAT_OTP_BUSY

/-- DEV_OTP_CMD REVOKE (R557). -/
def State.otpRevoke (s : State) (k : Nat) : State :=
  let rest := (List.range 8).filter (fun j =>
    j ≠ k && bit s.img.prog j && !bit s.img.revoked j)
  if s.gst ≠ .config || s.on F.DEV_OTP_STAT_OTP_BUSY || s.get F.DEV_IMG_KEYSLOT = k ||
      rest.isEmpty then
    s.flag F.DEV_OTP_STAT_OTP_REJ
  else ({ s with img := { s.img with revoked := setBit s.img.revoked k true } }).otpShow

/-- OTP programming ends; the slot reads back as given (R556). -/
def State.otpDone (s : State) (back : Bytes) : State :=
  match s.img.otp with
  | none => s
  | some (k, h) =>
    let got := slice back 0 32
    let s := { s with img := { s.img with otp := none, prog := setBit s.img.prog k true,
                                          hash := sput s.img.hash [] k got } }
    (s.otpShow.set F.DEV_OTP_STAT_OTP_BUSY 0).when (got ≠ h) (·.flag F.DEV_OTP_STAT_OTP_ERR)

/-- A reset cuts OTP programming off: what the slot then holds is not stated. -/
def State.otpCut (s : State) : State :=
  match s.img.otp with
  | none => s
  | some (k, _) =>
    let (p, s) := s.fresh
    let (h, s) := s.fresh
    { s with img := { s.img with otp := none, prog := setBit s.img.prog k (p % 2 = 1),
                                 hash := sput s.img.hash [] k (toLE 32 h) } }

/-! ## The operations of an IMG ring -/

/-- Cause of failure at the start of a step (R558), if any. -/
def State.imgCause (s : State) (d : Desc) : Option Nat :=
  let k := fieldLE d.bytes 8 1 % 2
  let r := s.record
  let ofs := fieldLE d.bytes 12 4
  let len := fieldLE d.bytes 16 4
  if k = r.active then some 1
  else match d.op with
    | 2 =>
      if r.slot k ≠ 2 then some 2
      else if len < 256 || len > 1048576 || len % 256 ≠ 0 || ofs + len > slotSize then some 3
      else none
    | 3 => if r.slot k ≠ 2 then some 2 else none
    | 4 => if !bit s.img.verified k then some 6 else none
    | _ => none

/-- The step in turn begins: a failure known at once completes it and the next begins
(R558). -/
def State.imgBegin (s : State) (r : Nat) : Nat → State
  | 0 => s
  | fuel + 1 =>
    if s.ringNos.any (fun q => s.rtype q = .img && (s.ring q).outs.any (·.busy)) then s
    else match (s.ring r).outs.find? (·.started) with
    | none => s
    | some d =>
      match s.imgCause d with
      | some c => State.imgBegin (s.complete r d.idx 1 c 0) r fuel
      | none =>
        let s := s.updDesc r d.idx (fun e => { e with busy := true })
        let k := fieldLE d.bytes 8 1 % 2
        let s := s.when (d.op = 1 || d.op = 2) (fun s =>
          { s with img := { s.img with verified := setBit s.img.verified k false } })
        s.when (d.op = 1) (fun s => s.writeRec (s.record.put k 2))

/-- A step of an IMG ring is fetched, or started after ORDER held it back. -/
def State.imgStart (s : State) (r op : Nat) (hm : HostMem) : State :=
  match s.fetchEvent r hm (wantOp s r .img op) with
  | (.start _, s) => s.imgBegin r (s.ring r).outs.length
  | (.nothing, s) => s

/-- A PROGRAM ends: host bytes, programmed up to a fault, and read back (R558). -/
def State.imgProgram (s : State) (r : Nat) (d : Desc) (hm : HostMem) : State :=
  let k := fieldLE d.bytes 8 1 % 2
  let at' := slotBase k + fieldLE d.bytes 12 4
  let len := fieldLE d.bytes 16 4
  let ha := fieldLE d.bytes 24 8
  let (b, f, s) := s.hostRd hm (ringReq r) (pagesOf ha len) ha len
  let s := s.flProg at' b
  match f with
  | some e => s.complete r d.idx e.status b.length 0
  | none =>
    if s.flRd at' len = b then s.complete r d.idx 0 0 0 else s.complete r d.idx 1 4 0

/-- A COMMIT of slot k: it becomes active, and the old active slot VALID (R558). -/
def State.commitRec (s : State) (k : Nat) : State :=
  let o := s.record
  s.writeRec { ((o.put o.active 1).put k 1) with active := k }

/-- What an ERASE, VERIFY or COMMIT leaves when it ends: status, RESULT and the state (R551,
R553, R558). -/
def State.imgEffect (s : State) (d : Desc) : Nat × Nat × State :=
  let k := fieldLE d.bytes 8 1 % 2
  match d.op with
  | 1 => (0, 0, s.flErase k)
  | 3 =>
    match s.imgBad k false with
    | some c => (1, 5 + c * 0x100, s)
    | none => (0, 0, { s with img := { s.img with verified := setBit s.img.verified k true } })
  | _ =>
    let t := s.commitRec k
    (0, 0, { t with dev := { t.dev with committed := true } })

/-- A reset cuts a COMMIT off (R559): whether its record had reached a valid copy is free. -/
def State.imgCut (s : State) : State :=
  s.ringNos.foldl (fun t r =>
    match (s.ring r).outs.find? (fun d => d.busy && d.op = 4 && s.rtype r = .img) with
    | some d =>
      let (v, t) := t.fresh
      t.when (v % 2 = 1) (·.commitRec (fieldLE d.bytes 8 1 % 2))
    | none => t) s

/-- The step that runs ends, and the next begins (R558). -/
def State.imgDone (s : State) (r : Nat) (hm : HostMem) : State :=
  let r := s.workRing r
  match (s.ring r).outs.find? (·.busy) with
  | none => s
  | some d =>
    if s.rtype r ≠ .img then s
    else
      let s :=
        if d.op = 2 then s.imgProgram r d hm
        else
          let (st, res, t) := s.imgEffect d
          t.complete r d.idx st res 0
      (s.ringNos.filter (fun q => s.rtype q = .img)).foldr
        (fun q t => t.imgBegin q (t.ring q).outs.length) s

/-- A CANCEL meets an IMG step: one that has not begun completes as CANCELLED, one that has
goes on (R558). -/
def State.imgCancel (s : State) (r idx : Nat) : State :=
  match s.desc? r idx with
  | none => s
  | some d =>
    if d.busy then s.updDesc r idx (fun e => { e with cancelLate := true })
    else s.complete r idx 4 0 0

end Sys2Proof.Machine
end

