-- ==== Sys2Proof/Machine/Time.lean ====
section
/-! DEFINITION. TIME: the passage of station time (R31, R37), the reference (R34, R35), the
timeline check (R45), snapshots (R579), the timed-write queue (R57 to R65) and steps of station
time (R63, R518). -/

namespace Sys2Proof.Machine

open Sys2Proof

/-! ## The passage of time -/

/-- What n station nanoseconds take off a slew (R517), in 2^-16 ns, with the part not yet
carried, in millionths. -/
def slewRun (slew acc : Int) (rate n : Nat) : Int × Int :=
  let m := acc + ((n * 65536 * rate : Nat) : Int)
  let d := min (m / 1000000) (slew.natAbs : Int)
  (if slew < 0 then slew + d else slew - d, m % 1000000)

/-- The slew that is running, over n station nanoseconds. -/
def State.slewPass (s : State) (n : Nat) : State :=
  if s.on F.ETH_TIME_STAT_SLEW_BUSY then
    let (w, a) := slewRun s.time.slew s.time.acc (s.get F.ETH_SLEW_RATE_RATE) n
    let s := { s with time := { s.time with slew := w, acc := a } }
    s.set R.ETH_SLEW_LEFT (us 32 (Int.tdiv w 65536))
  else s

/-- n station nanoseconds pass: the label, the offset in the period, the clocks that run with
them, the trim counters and the time of the cores' items (R31, R33, R186, R292); a DEBLOCK of the
cycle that ends completes (R218). -/
def State.pass (s : State) (n : Nat) : State :=
  if n = 0 then s
  else
    let s := s.dbDone
    let t := s.time
    let p := if s.peRun then t.pofs + n else t.pofs
    let t := { t.setNow (s.now + n) with cyc := t.cyc + n, canNs := t.canNs + n, pofs := p,
                                         align := t.align.map (fun a => (a.1 - n, a.2)) }
    ((({ s with time := t, elapsed := s.elapsed + n }).slewPass n).trimsRun n).coreTime n

/-- Station nanoseconds to the next apply instant (R37): of this device, or of the partner where
this device moves its instants onto the partner's and that one comes first (R396,
notes/assumptions/83.md); none without a period engine. -/
def State.toApply (s : State) : Option Nat :=
  if s.peRun then
    let own := s.time.per - s.time.pofs
    match s.time.align with
    | some (k, _) => some (min own k)
    | none => some own
  else if s.on F.TIME_CTRL_PEN then some (Config.nsPerSec - s.time.ns)
  else none

/-- How far time may move without reaching an apply instant that has not been taken. -/
def State.room (s : State) (n : Nat) : Nat :=
  match s.toApply with
  | some k => min n (k - 1)
  | none => n

/-- Time moves on to station time t, if that lies ahead, and short of the next apply instant. -/
def State.advTo (s : State) (t : Nat) : State := s.pass (s.room (t - s.now))

/-- One nanosecond passes: what the block does while no command waits
(notes/assumptions/27.md). -/
def State.tick (s : State) : State :=
  if s.dev.inReset then { s with elapsed := s.elapsed + 1 } else s.advTo (s.now + 1)

/-- Time moves on to an offset of the period in progress, where that lies ahead (R43). -/
def State.toOfs (s : State) (o : Nat) : State :=
  if s.peRun then s.pass (s.room (o - s.time.pofs)) else s

/-- The instants of the period timeline (R43). -/
inductive Line
  | start | eval | obs | cut | bow
  deriving DecidableEq, Repr

/-- The number of an instant in the record of those that have fallen. -/
def Line.code : Line → Nat
  | .start => 0 | .eval => 1 | .obs => 2 | .cut => 3 | .bow => 4

/-- An instant of the timeline for a lock group: it falls once in a period, at its offset
(R43). Time moves on to the offset; where it has passed already the event acts at once, and an
offset beyond the period never comes (notes/assumptions/84.md). -/
def State.onLine (s : State) (x : Line) (g ofs : Nat) (f : State → State) : State :=
  if !s.peRun || s.time.acted.contains (x.code, g) || s.P ≤ ofs then s
  else
    let s := s.toOfs ofs
    f { s with time := { s.time with acted := (x.code, g) :: s.time.acted } }

/-! ## The period engine and the reference -/

/-- TIME_CTRL.PEN written 1 (R37). -/
def State.peStart (s : State) : State := s.flag F.TIME_CTRL_PEN

/-- Validity of a reference: 0 A, 1 B. -/
def State.refOk (s : State) (r : Nat) : Bool :=
  s.on (if r = 0 then F.TIME_STATUS_REF_A_OK else F.TIME_STATUS_REF_B_OK)

/-- The validity of a reference set. -/
def State.setRef (s : State) (r : Nat) (ok : Bool) : State :=
  s.set (if r = 0 then F.TIME_STATUS_REF_A_OK else F.TIME_STATUS_REF_B_OK) (b2n ok)

/-- A usable reference: a valid one with AUTOSW set, and only the selected one with AUTOSW clear
(R35). -/
def State.refUsable (s : State) (r : Nat) : Bool :=
  s.refOk r && (s.on F.TIME_CTRL_AUTOSW || r = s.get F.TIME_CTRL_REFSEL)

/-- The reference in use with AUTOSW set: the one in use while it is valid; else the other, an
automatic switch that REF_SW shows unless the device was without a reference
(notes/assumptions/85.md); else none (R34, R35). -/
def State.refAuto (s : State) : State :=
  let a := s.get F.TIME_STATUS_REF_ACT
  if s.refOk a then s.set F.TIME_STATUS_REF_NONE 0
  else if s.refOk (1 - a) then
    let s := s.when (s.on F.TIME_STATUS_REF_NONE = false) (·.flag F.TIME_STATUS_REF_SW)
    (s.set F.TIME_STATUS_REF_ACT (1 - a)).set F.TIME_STATUS_REF_NONE 0
  else s.flag F.TIME_STATUS_REF_NONE

/-- The reference in use with AUTOSW clear: nothing switches (R34). The device is without a
reference while the selected one is lost; a device that an earlier switch left on the other one
stays there while that is valid (notes/assumptions/85.md). -/
def State.refFixed (s : State) : State :=
  let r := s.get F.TIME_CTRL_REFSEL
  if s.refOk r then
    let s := s.when (!s.refOk (s.get F.TIME_STATUS_REF_ACT)) (·.set F.TIME_STATUS_REF_ACT r)
    s.set F.TIME_STATUS_REF_NONE 0
  else s.flag F.TIME_STATUS_REF_NONE

/-- The reference in use after a change (R34, R35). -/
def State.refUpd (s : State) : State :=
  if s.on F.TIME_CTRL_AUTOSW then s.refAuto else s.refFixed

/-- A reference is lost (R34). Once the PLL lock has been declared failed, only its valid bit
shows it (notes/assumptions/85.md). -/
def State.refLoss (s : State) (r : Nat) : State :=
  if s.dev.inReset then s
  else
    let s := s.setRef r false
    s.when (s.on F.TIME_STATUS_PLL_LOCK) (·.refUpd)

/-- A reference returns (R35). Once the PLL lock has been declared failed, only its valid bit
shows it (notes/assumptions/85.md). -/
def State.refReturn (s : State) (r : Nat) : State :=
  if s.dev.inReset then s
  else
    let s := s.setRef r true
    s.when (s.on F.TIME_STATUS_PLL_LOCK) (·.refUpd)

/-- REFSEL or AUTOSW has been written (R34): a newly selected valid reference comes into use. -/
def State.refSelect (s : State) (old : Nat) : State :=
  let r := s.get F.TIME_CTRL_REFSEL
  let s := s.when (r ≠ old && s.refOk r) (·.set F.TIME_STATUS_REF_ACT r)
  s.when (s.on F.TIME_STATUS_PLL_LOCK) (·.refUpd)

/-- TIME_PERIOD has been written: P at once while no period engine runs, else at the next
apply instant (R36). -/
def State.periodUpd (s : State) : State :=
  if s.peRun then s
  else { s with time := { s.time with per := s.get F.TIME_PERIOD_STEPS * 10 } }

/-! ## Snapshots -/

/-- TIME_SNAP.TAKE by an origin (R58, R579). The index is the one that the period in progress
has; in steps 2 to 4 of R42 it is that of the instant (notes/assumptions/86.md). -/
def State.snap (s : State) (org : Nat) : State :=
  let t := s.time
  let s := s.set ((R.TIME_SNAP_FRAC).of org) (t.frac % 65536)
  let s := s.set ((R.TIME_SNAP_NS).of org) t.ns
  let s := s.set ((R.TIME_SNAP_SEC_LO).of org) (t.sec % 2 ^ 32)
  let s := s.set ((R.TIME_SNAP_SEC_HI).of org) (t.sec / 2 ^ 32)
  let run := s.peRun
  let n := if run then t.pidx else 0
  let s := s.set ((R.TIME_SNAP_PIDX_LO).of org) (n % 2 ^ 32)
  let s := s.set ((R.TIME_SNAP_PIDX_HI).of org) (n / 2 ^ 32)
  let o := if run then t.pofs else 0
  s.set ((R.TIME_SNAP_POFS).of org) (o % 65536 + 65536 * b2n (!run))

/-- TIME_CNT_CLR (R56). -/
def State.timeCntClr (s : State) : State :=
  s.zero (R.TIME_CENG_LATE_CNT :: (List.range Config.arms).map R.TIME_LATE_CNT)

/-! ## The timeline check -/

/-- Group g holds a string (R45). -/
def State.lgHolds (s : State) (g : Nat) : Bool :=
  s.get (F.TIME_LG_STRA_STR g) ≠ 0 || s.get (F.TIME_LG_STRB_STR g) ≠ 0

/-- Groups g and h share a string or a converter. -/
def State.lgShare (s : State) (g h : Nat) : Bool :=
  (s.get (F.TIME_LG_STRA_STR g) &&& s.get (F.TIME_LG_STRA_STR h)) ≠ 0 ||
    (s.get (F.TIME_LG_STRB_STR g) &&& s.get (F.TIME_LG_STRB_STR h)) ≠ 0 ||
    (s.get (F.TIME_LG_CV_CV g) &&& s.get (F.TIME_LG_CV_CV h)) ≠ 0

/-- One row of the timeline constraints for group g: true where it fails (R45). Code 0x8 names
the later of two groups that share a member. -/
def State.lgFails (s : State) (code g : Nat) : Bool :=
  let st := s.get (F.TIME_LG_OFS0_START_OFS g)
  let ev := s.get (F.TIME_LG_OFS0_EVAL_OFS g)
  let cut := s.get (F.TIME_LG_OFS1_CUT_OFS g)
  let la := s.get (F.TIME_LG_OFS1_LAUNCH_OFS g)
  let div := s.get (F.TIME_LG_CFG_DIV g)
  let p := s.get F.TIME_PERIOD_STEPS * 10
  match code with
  | 2 => decide (ev < st + 120)
  | 4 => s.lgHolds g && decide (cut < s.get F.TIME_MOD_OFS_VEC + 200)
  | 5 => s.lgHolds g && (decide (la < cut + 100) || decide (cut + 1000 < la))
  | 6 => decide (p ≤ st) || decide (p ≤ ev) || decide (p ≤ cut) || decide (p ≤ la)
  | 7 => decide (div < 1) || decide (64 < div) || (s.lgHolds g && div ≠ 1)
  | 8 => (List.range g).any (fun h => s.lgEn h && s.lgShare g h)
  | _ => false

/-- The first enabled group that fails a row. -/
def State.lgFirst (s : State) (code : Nat) : Option (Nat × Nat) :=
  ((List.range Config.groups).find? (fun g => s.lgEn g && s.lgFails code g)).map (fun g => (code, g))

/-- TIME_CHK's code and group at GO_READY (R45). With no enabled group code 0x3 takes the largest
START_OFS as 0 (notes/assumptions/87.md). -/
def State.timeCheck (s : State) : Option (Nat × Nat) :=
  let steps := s.get F.TIME_PERIOD_STEPS
  let obs := s.get F.TIME_MOD_OFS_OBS
  let most := ((List.range Config.groups).filter s.lgEn).foldl
    (fun m g => max m (s.get (F.TIME_LG_OFS0_START_OFS g))) 0
  if steps < 200 || 6400 < steps then some (1, 0)
  else (s.lgFirst 2).orElse fun _ =>
    if obs < 120 + most || s.get F.TIME_MOD_OFS_VEC < obs + 100 then some (3, 0)
    else ([4, 5, 6, 7, 8] : List Nat).findSome? s.lgFirst |>.orElse fun _ =>
      if s.on F.TIME_CTRL_PEN && s.peRun then none else some (9, 0)

/-! ## Timed writes -/

/-- The target of an entry as station nanoseconds: its seconds are those nearest to the present
(R57, R59). -/
def State.twAt (s : State) (e : TwEntry) : Int :=
  ((s.time.sec : Int) + sx 32 (e.sec + 2 ^ 32 - s.time.sec % 2 ^ 32)) * (Config.nsPerSec : Int) + e.ns

/-- An entry at its place: by target, ties in push order (R57). -/
def State.twPlace (s : State) (e : TwEntry) : List TwEntry → List TwEntry
  | [] => [e]
  | x :: r => if s.twAt e < s.twAt x then e :: x :: r else x :: State.twPlace s e r

/-- An address that no timed write may name (R59); a transaction entry too, HOST aside
(R349). -/
def twBadAddr (a : Nat) : Bool :=
  a > 0xFFFFFF || a / 0x10000 = 0 || a / 0x10000 = 7 || (0x10080 ≤ a && a < 0x100A0)

/-- The seconds of a target, less those of the present, modulo 2^32 (R59). -/
def State.twSecs (s : State) (e : TwEntry) : Nat :=
  (e.sec + 2 ^ 32 - s.time.sec % 2 ^ 32) % 2 ^ 32

/-- A push judged (R59): 0 accepted, 1 FULL, 2 PAST, 3 BADADDR. Where several hold, the first of
this order is recorded (notes/assumptions/88.md). -/
def State.twJudge (s : State) (e : TwEntry) : Nat :=
  if s.time.tw.length ≥ 256 then 1
  else if s.twSecs e ≥ 2 ^ 31 || decide (s.twAt e < (s.now : Int) + 200) then 2
  else if twBadAddr e.addr then 3
  else 0

/-- An accepted entry queued. -/
def State.twQueue (s : State) (e : TwEntry) : State :=
  { s with time := { s.time with tw := s.twPlace e s.time.tw } }

/-- TIME_TW_PUSH by an origin (R58, R59): in SAFE_HOLD too, where the frozen queue still takes
entries and gives them up (R65, notes/assumptions/89.md). -/
def State.twPush (s : State) (org tag : Nat) : State :=
  let g (f : Fld) : Nat := s.get (f.of org)
  let e : TwEntry := { addr := 4 * g F.TIME_TW_ADDR_WORD, data := g R.TIME_TW_DATA,
                       mask := g R.TIME_TW_MASK, ns := g F.TIME_TW_NS_NS,
                       sec := g R.TIME_TW_SEC, tag := tag % 65536, org := org }
  let c := s.twJudge e
  let s := s.set ((F.TIME_TW_STAT_LAST).of org) c
  if c = 0 then s.twQueue e else s.flag ((F.TIME_TW_STAT_REJ).of org)

/-- The descriptor of a queued entry completes (R340). -/
def State.twComplete (s : State) (e : TwEntry) (status : Nat) : State :=
  match e.ring with
  | some (r, idx) => s.complete r idx status 0 0
  | none => s

/-- The queue lets entries fire: not in RESET, and not in SAFE_HOLD (R65). -/
def State.twOpen (s : State) : Bool := !s.dev.inReset && s.gst ≠ .safeHold

/-- The entry fires in the present tick (R60, R62). -/
def State.twDue (s : State) (e : TwEntry) : Bool := s.twOpen && decide (s.twAt e ≤ s.now)

/-- An entry with a tag has fired in the present tick (R62). -/
def State.twFiredNow (s : State) (tag : Nat) : Bool :=
  match s.time.fired with
  | some f => f.cyc = s.time.cyc && f.tags.contains tag
  | none => false

/-- A cancel acts on the entries that `hit` names: those that fire in the present tick stay and
are marked, the others leave the queue as CANCELLED (R62, R340). -/
def State.twRemove (s : State) (hit : TwEntry → Bool) : State :=
  let gone := s.time.tw.filter (fun e => hit e && !s.twDue e)
  let stay := s.time.tw.filter (fun e => !hit e || s.twDue e)
  let s' := { s with time := { s.time with
    tw := stay.map (fun e => if hit e then { e with late := true } else e) } }
  gone.foldl (fun t e => t.twComplete e 4) s'

/-- TIME_TW_CANCEL by an origin (R62, R340): in SAFE_HOLD too (R65, notes/assumptions/89.md). -/
def State.twCancel (s : State) (org tag : Nat) : State :=
  let hit (e : TwEntry) : Bool := e.tag = tag % 65536
  let late := s.twFiredNow (tag % 65536) || s.time.tw.any (fun e => hit e && s.twDue e)
  if late then (s.twRemove hit).flag ((F.TIME_TW_STAT_CANCEL_LATE).of org)
  else if s.time.tw.any hit then s.twRemove hit
  else s.flag ((F.TIME_TW_STAT_CANCEL_MISS).of org)

/-- A CANCEL descriptor meets a queued entry of its ring (R341). -/
def State.twDrop (s : State) (r idx : Nat) : State :=
  s.twRemove (fun e => e.ring = some (r, idx))

/-- The firing of an entry with a target in this tick has been recorded (R61, R62). -/
def TimeS.fire (t : TimeS) (e : TwEntry) (target : Int) : TimeS :=
  let tags := match t.fired with
    | some f => if f.cyc = t.cyc then f.tags else []
    | none => []
  { t with fired := some { cyc := t.cyc, target := target, tags := e.tag :: tags } }

/-- An entry of the same target has fired in this tick: the next one waits for its own (R61). -/
def State.twWaits (s : State) (e : TwEntry) : Bool :=
  match s.time.fired with
  | some f => f.cyc = s.time.cyc && f.target = s.twAt e
  | none => false

/-- An entry that has left the queue fires with a write `w` (R60, R62, R64, R340). -/
def State.twWrite (s : State) (e : TwEntry) (w : State → State) : State :=
  let s := { s with time := s.time.fire e (s.twAt e) }
  let s := (w s).twComplete e (if e.late then 5 else 0)
  s.when e.passed (·.flag ((F.TIME_TW_STAT_STEP_FIRED).of e.org))

/-! ## Steps of station time -/

/-- A step, in 2^-16 ns, relabels the present (R63): a slew ends (R518). -/
def State.stepNow (s : State) (d : Int) : State :=
  let m := ((s.now * 65536 + s.time.frac % 65536 : Nat) : Int) + d
  let t := (m % ((2 ^ 64 * Config.nsPerSec * 65536 : Nat) : Int)).toNat
  let s := { s with time := { s.time.setNow (t / 65536) with frac := t % 65536, step := none } }
  (((s.set F.TIME_STATUS_STEP_PEND 0).slewCancel).adcShift d).vspShift d

/-- A step of station time: it waits for the next apply instant, or acts at once while no period
engine runs (R63). -/
def State.stepTake (s : State) (d : Int) : State :=
  if s.peRun then
    ({ s with time := { s.time with step := some d } }).flag F.TIME_STATUS_STEP_PEND
  else s.stepNow d

/-- A NIGHTWATCH or LEAVING device takes over the partner's time (R396): a step of -theta, which
R63 applies, and the apply instants and the period index of the partner from the partner's next
apply instant on. -/
def State.tsyncFollow (s : State) (f : Bytes) (theta : Int) : State :=
  let b := mirBody f
  let t0 := tsTime b 10 12 16 - s.tTx s.mir0 * 2 ^ 16
  let peer := ((s.now16 : Int) - theta).toNat
  let ofs := (tsDiff peer t0).toNat / 2 ^ 16
  let s := s.when s.peRun (fun s => { s with time := { s.time with
    align := some (s.P - ofs % s.P, fieldLE b 0 8 + ofs / s.P + 1) } })
  s.stepTake (-theta)

/-- ETH_STEP_CMD.GO (R518, R519, R63): refused while a step waits or with a number of
nanoseconds out of range; applied at once while no period engine runs. -/
def State.stepGo (s : State) : State :=
  s.adjust (fun s =>
    let ns := s.get F.ETH_STEP_NS_NS
    if s.time.step.isSome || ns ≥ Config.nsPerSec then s.flag F.ETH_TIME_STAT_STEP_REJ
    else
      s.stepTake ((sx 32 (s.get R.ETH_STEP_SEC) * (Config.nsPerSec : Int) + ns) * 65536))

end Sys2Proof.Machine
end

