-- ==== Sys2Proof/Machine/Ctx.lean ====
section
/-! DEFINITION. What the rings' descriptors do: WORK SUBMIT (R337), DMA COPY (R338, R339), TW
QUEUE (R340), VSP READ (R486, R487), CANCEL (R341), the staging of transactions (R348 to R351,
R353); the reset walk (R357 to R359) and the link reset (R360). -/

namespace Sys2Proof.Machine

open Sys2Proof

/-! ## Memory writes from outside their owners -/

/-- A word of shared SRAM or of a core's memory written under a mask by the host, a ring or an engine:
the cell table and the dead-time table take it by their own rules (R160, R199). -/
def State.memWr (s : State) (a mask v req : Nat) : State :=
  if s.inCt a then s.ctWrite a mask v req
  else if s.inDt a then s.dtWrite a mask v req
  else (s.mergeWr a mask v req).2

/-- Whole words written from a 4-byte aligned offset. -/
def State.memWrs (s : State) (a req : Nat) : List Nat → State
  | [] => s
  | v :: r => State.memWrs (s.memWr a 0xFFFFFFFF v req) (a + 4) req r

/-! ## WORK and TW -/

/-- WORK SUBMIT (R337). -/
def State.workSubmit (s : State) (r : Nat) (hm : HostMem) : State :=
  match s.fetchEvent r hm (wantOp s r .work 1) with
  | (.start d, s) => s.submit (0x18 + s.get (F.HOST_RING_CFG_SUB r)) (slice d.bytes 8 32)
      (some (r, d.idx)) none
  | (.nothing, s) => s

/-- TW QUEUE (R340). -/
def State.twRing (s : State) (r : Nat) (hm : HostMem) : State :=
  match s.fetchEvent r hm (wantOp s r .tw 1) with
  | (.start d, s) =>
    let g (o : Nat) : Nat := fieldLE d.bytes o 4
    let e : TwEntry := { addr := g 8 / 4 * 4, data := g 12, mask := g 16, ns := g 20 % 2 ^ 30,
                         sec := g 24, tag := d.tag, org := 0, ring := some (r, d.idx) }
    let c := s.twJudge e
    if c = 0 then s.twQueue e else s.complete r d.idx 1 c 0
  | (.nothing, s) => s

/-! ## DMA COPY -/

/-- A device range lies inside one memory of the given classes; a core's data and instruction
memories are one memory per core (R338). -/
def rangeIn (a n : Nat) (cls : List Nat) : Bool :=
  match memClass a with
  | some k => cls.contains k && memClass (a + n - 1) = some k &&
      (if k = 1 || k = 2 then a / 0x40000 = (a + n - 1) / 0x40000 else true)
  | none => false

/-- HADDR, DADDR, LEN and DIR of a COPY. -/
def copyArgs (b : Bytes) : Nat × Nat × Nat × Bool :=
  (fieldLE b 8 8, fieldLE b 16 4 % 2 ^ 32, fieldLE b 20 4 % 2 ^ 25, bit (fieldLE b 24 1) 0)

/-- A COPY keeps the rules of R338: alignment, length, and the memories it may reach. -/
def State.copyOk (s : State) (b : Bytes) : Bool :=
  let (h, a, n, out) := copyArgs b
  h % 4 = 0 && a % 4 = 0 && n % 4 = 0 && 4 ≤ n && n ≤ 16777212 &&
    (if out then rangeIn a n [0, 1, 2, 3]
     else rangeIn a n [0] ||
       (rangeIn a n [1] && decide (a % 0x40000 + n ≤ 0x3DC00)) ||
       (rangeIn a n [2] && s.gst = .config))

/-- The oldest COPY of ring r that is still to end. -/
def State.copyHead (s : State) (r : Nat) : Option Desc :=
  if s.rtype r = .dma then
    (s.ring r).outs.find? (fun d => d.op = 1 && d.started)
  else none

/-- Where no COPY runs, the next DMA ring in turn begins its oldest one (R338); `last` is the
ring that had the last turn. -/
def State.copyTurn (s : State) (last : Nat) : State :=
  if s.ringNos.any (fun r => match s.copyHead r with
      | some d => d.busy
      | none => false) then s
  else
    let order := (s.ringNos.filter (last < ·)) ++ s.ringNos.filter (· ≤ last)
    match order.findSome? (fun r => (s.copyHead r).map (fun d => (r, d.idx))) with
    | some (r, idx) => s.updDesc r idx (fun d => { d with busy := true })
    | none => s

/-- DMA COPY is fetched (R338). -/
def State.copy (s : State) (r : Nat) (hm : HostMem) : State :=
  match s.fetchEvent r hm (wantOp s r .dma 1) with
  | (.start d, s) =>
    if s.copyOk d.bytes then s.copyTurn r
    else s.complete r d.idx 1 0 0
  | (.nothing, s) => s

/-- The transfer of a COPY from host to device (R339, R376): status and bytes moved. -/
def State.copyIn (s : State) (r h a n : Nat) (hm : HostMem) : Nat × Nat × State :=
  let (b, f, s) := s.hostRd hm (ringReq r) (pagesOf h n) h n
  let k := b.length / 4
  let s := s.memWrs a (ringReq r) (wordsOf (b.take (4 * k)))
  match f with
  | none => (0, n, s)
  | some e => (e.status, 4 * k, s)

/-- The transfer of a COPY from device to host. -/
def State.copyOut (s : State) (r h a n : Nat) (hm : HostMem) : Nat × Nat × State :=
  let (b, bad, s) := s.eccRds a (ringReq r) (n / 4)
  let (k, ok, s) := s.hostWr hm (ringReq r) (pagesOf h n) h b
  if !ok then (3, k, s)
  else if bad.isSome then (2, k, s)
  else (0, n, s)

/-- The COPY that runs on ring r ends with its bytes moved (R339), and the next in turn
begins. -/
def State.copyDone (s : State) (r : Nat) (hm : HostMem) : State :=
  let r := s.workRing r
  match s.copyHead r with
  | none => s
  | some d =>
    if !d.busy then s
    else
      let (h, a, n, out) := copyArgs d.bytes
      let (st, k, s) := if out then s.copyOut r h a n hm else s.copyIn r h a n hm
      (s.complete r d.idx st k 0).copyTurn r

/-! ## VSP READ -/

/-- VSP READ is fetched: the oldest one runs (R486, R487). -/
def State.vspRead (s : State) (r : Nat) (hm : HostMem) : State :=
  match s.fetchEvent r hm (wantOp s r .vsp 1) with
  | (.start d, s) =>
    if (s.ring r).outs.any (·.busy) then s else s.updDesc r d.idx (fun e => { e with busy := true })
  | (.nothing, s) => s

/-- The READ that runs ends: bytes moved, its completion, and with RELEASE and DONE the
segment's release (R486, R487). The next READ of the ring begins. -/
def State.vspReadDone (s : State) (r : Nat) (hm : HostMem) : State :=
  let r := s.workRing r
  if s.rtype r ≠ .vsp then s
  else match (s.ring r).outs.find? (·.busy) with
  | none => s
  | some d =>
    let g := fieldLE d.bytes 8 1 % 16
    let n := fieldLE d.bytes 16 4
    let s :=
      if !s.readOk d.bytes then s.complete r d.idx 1 0 0
      else
        let (b, bad, s) := s.imageRead g (fieldLE d.bytes 12 4) (n / 4)
        let h := fieldLE d.bytes 24 8
        let (k, ok, s) := s.hostWr hm (ringReq r) (pagesOf h n) h b
        if !ok then s.complete r d.idx 3 k 0
        else if bad then s.complete r d.idx 2 k 0
        else
          let s := s.complete r d.idx 0 n 0
          s.when (bit (fieldLE d.bytes 9 1) 0 && !d.cancelLate) (·.segRelease g)
    match (s.ring r).outs.find? (fun e => e.op = 1 && e.started) with
    | some e => s.updDesc r e.idx (fun x => { x with busy := true })
    | none => s

/-! ## Transactions before their instant -/

/-- An entry of a list (Transaction entry). -/
def txnEntry (b : Bytes) (i : Nat) : Nat × Nat × Nat × Nat :=
  (fieldLE b (16 * i) 4, fieldLE b (16 * i + 4) 4, fieldLE b (16 * i + 8) 4, fieldLE b (16 * i + 12) 4)

/-- TRANSACT is fetched: checks 0x01 and 0x02, made earlier on one that ORDER held back, then its
list is read into staging (R348). -/
def State.transact (s : State) (r : Nat) (hm : HostMem) : State :=
  match s.fetchEvent r hm (wantOp s r .ctx 1) with
  | (.start d, s) =>
    let (stands, s) := if (s.txn? r d.idx).isSome then (true, s) else s.txnPend r d
    if !stands then s
    else
      let n := fieldLE d.bytes 16 2
      let a := fieldLE d.bytes 8 8
      let (b, f, s) := s.hostRd hm (ringReq r) (pagesOf a (16 * n)) a (16 * n)
      match f, s.txn? r d.idx with
      | some _, some t => s.txnEnd t 3 (b.length / 16 % 256 * 0x100)
      | none, some _ => s.updTxn r d.idx (fun t =>
          { t with staged := true, entries := (List.range n).map (txnEntry b) })
      | _, none => s
  | (.nothing, s) => s

/-- APPLY lies in the window of R30: 2 to 2^31 - 1 periods ahead. -/
def State.inWindow (s : State) (p : Nat) : Bool :=
  let d := (p + 2 ^ 32 - s.time.pidx % 2 ^ 32) % 2 ^ 32
  2 ≤ d && d < 2 ^ 31

/-- Another pending transaction names an instant. -/
def State.txnTaken (s : State) (t : Txn) (p : Nat) : Bool :=
  s.host.txns.any (fun x => !(x.ring = t.ring && x.idx = t.idx) && x.apply = some p)

/-- The first instant at least one full period away that no pending transaction names
(R350). -/
def State.txnFree (s : State) (t : Txn) : Nat → Nat → Nat
  | 0, p => p
  | fuel + 1, p => if s.txnTaken t p then State.txnFree s t fuel ((p + 1) % 2 ^ 32) else p

/-- Checks 0x03 and 0x04 (R349 to R351): the reason, 0 for none. -/
def State.txnWhen (s : State) (t : Txn) : Nat :=
  if !s.peRun && s.gst ≠ .config then 3
  else if t.imm then (if s.gst = .run then 3 else 0)
  else match t.apply with
    | none => 3
    | some p => if !s.peRun || !s.inWindow p then 3 else if s.txnTaken t p then 4 else 0

/-- The station time of the instant of a valid transaction, where it is the next one. -/
def State.txnNext (s : State) (t : Txn) : Option Nat :=
  match s.toApply with
  | some k =>
    if s.peRun && t.valid && t.apply = some ((s.time.pidx + 1) % 2 ^ 32) then some (s.now + k) else none
  | none => none

/-- A transaction is committed: so marked, or within 1 µs of its instant (R353). -/
def State.txnCommitted (s : State) (t : Txn) : Bool :=
  t.committed || (match s.txnNext t with
    | some a => decide (a ≤ s.now + 1000)
    | none => false)

/-- The event 1 µs before the instant of a transaction (R353). -/
def State.txnCommit (s : State) (r idx : Nat) : State :=
  match s.txn? r idx with
  | none => s
  | some t =>
    match s.txnNext t with
    | some a => (s.advTo (a - 1000)).updTxn t.ring idx (fun x => { x with committed := true })
    | none => s

/-- Every pending transaction completes as FAILED_ACCESS with reason 0x0A (R354). -/
def State.txnsHold (s : State) : State :=
  let s := s.dbDone
  s.host.txns.foldl (fun st t => st.txnEnd { t with cancelLate := false } 1 0x0A) s

/-- An uncorrectable error in the staging memory meets a transaction (R348); RESULT is not
stated. -/
def State.txnEcc (s : State) (r idx : Nat) : State :=
  match s.txnOf r idx (fun t => t.staged) with
  | none => s
  | some t => let (v, s) := s.fresh; s.txnEnd t 2 (v % 2 ^ 32)

/-! ## CANCEL -/

/-- A matched descriptor that has been fetched and not started, or has. WORK items: a cancel
removes the item, or makes it end as CANCEL_LATE (R287, R341). -/
def State.workCancel (s : State) (r idx : Nat) : State :=
  let mine (i : Item) : Bool := i.ring = some (r, idx)
  let s := (List.range 8).foldl (fun t l =>
    let q := (t.queue l).filter mine
    let w := (t.spill l).filter mine
    let t := if q.isEmpty then t else t.setQueue l ((t.queue l).filter (!mine ·))
    let t := if w.isEmpty then t else t.setSpill l ((t.spill l).filter (!mine ·))
    (t.itemsDone 4 q).itemsDone 4 w) s
  let s := s.saveDrop mine 4
  let late (i : Item) : Item := if mine i then { i with cancelLate := true } else i
  (List.range Config.cores).foldl (fun t c =>
    let x := t.core c
    if x.stack.any (fun k => mine k.item) then
      t.setCore c { x with stack := x.stack.map (fun k => { k with item := late k.item }) }
    else t) s

/-- One matched descriptor of a ring (R341, R487, R509, R537, R558). -/
def State.cancelOne (s : State) (r : Nat) (d : Desc) : State :=
  let sub := s.get (F.HOST_RING_CFG_SUB r)
  let late (s : State) : State := s.updDesc r d.idx (fun e => { e with cancelLate := true })
  let gone (s : State) : State := s.complete r d.idx 4 0 0
  if !d.started then
    match s.txn? r d.idx with
    | some t => s.txnEnd t 4 0
    | none => gone s
  else match s.rtype r with
    | .work => s.workCancel r d.idx
    | .ctx => match s.txn? r d.idx with
      | some t =>
        if s.txnCommitted t then s.updTxn r d.idx (fun x => { x with cancelLate := true })
        else s.txnEnd t 4 0
      | none => s
    | .tw => s.twDrop r d.idx
    | .dma | .vsp => if d.busy then late s else gone s
    | .ethTx => (s.ethCancel sub r d.idx).2
    | .canTx => (s.canCancel sub r d.idx).2
    | .ethRx | .canRx => gone s
    | .img => s.imgCancel r d.idx
    | _ => s

/-- A CANCEL is fetched (R341). -/
def State.ringCancel (s : State) (r : Nat) (hm : HostMem) : State :=
  match s.fetchEvent r hm (fun b => fieldLE b 0 1 = 0x7F) with
  | (.start d, s) =>
    let tag := fieldLE d.bytes 8 2
    let hits := (s.ring r).outs.filter (fun e => e.idx ≠ d.idx && e.tag = tag &&
      !(s.ring r).held.any (fun c => c.idx = e.idx))
    let s := hits.foldl (fun t e => t.cancelOne r e) s
    s.complete r d.idx 0 hits.length 0
  | (.nothing, s) => s

/-! ## The reset walk and the link reset -/

/-- The walk of one ring from index i to the PI that stood when it began; `n` slots are left
(R357, R359). -/
def State.walkRing (s : State) (r : Nat) (hm : HostMem) (piW : Nat) : Nat → Nat → State
  | 0, _ =>
    let s := (s.set (R.HOST_RING_CI r) piW).setRing r { fetch := piW }
    ((s.ringCounts r).setRst r .halted).flag (F.HOST_RING_STAT_RESET_HALT r)
  | n + 1, i =>
    let at' := s.slotAt r i
    let fault (s : State) : State :=
      let s := (s.set (R.HOST_RING_CI r) i).setRing r { fetch := piW, walkPi := some piW }
      let s := s.flag (F.HOST_RING_STAT_WALK_FAULT r)
      ((s.setRst r .halted).flag (F.HOST_RING_STAT_RESET_HALT r)).flag F.HOST_STAT_WALK_FAULT
    let (b, f, s) := s.hostRd hm (ringReq r) 2 at' 64
    if f.isSome then fault s
    else if bit (fieldLE b 61 1) 0 then State.walkRing s r hm piW n ((i + 1) % 2 ^ 32)
    else
      let (_, ok, s) := s.hostWr hm (ringReq r) 2 (at' + 48) (s.cplArea r (fieldLE b 2 2) 9 0 0 0)
      if !ok then fault s
      else State.walkRing (s.inc (R.HOST_RING_ABORT r)) r hm piW n ((i + 1) % 2 ^ 32)

/-- The reset walk (R357). -/
def State.resetWalk (s : State) (hm : HostMem) : State :=
  let s := (List.range Config.rings).foldl (fun t r =>
    if t.rst r = .disabled then t
    else
      let pi := t.get (R.HOST_RING_PI r)
      let ci := t.get (R.HOST_RING_CI r)
      t.walkRing r hm pi (min ((pi + 2 ^ 32 - ci) % 2 ^ 32) 65536) ci) s
  ({ s with host := { s.host with walked := true } }).evt .walkDone

/-- The registers of the retained set that a link reset returns to their reset values: HOST
but for RESET_EPOCH and HOST_LINK (R356, R360). -/
def linkRegs (a : Nat) : Bool :=
  a = R.HOST_ABI_SEL.addr || (0x20800 ≤ a && a < 0x20830) || (0x21000 ≤ a && a < 0x22000)

/-- No completion of the work in hand reaches the host any more (R360): what is queued or
running keeps going under a ring number that does not exist. -/
def State.orphan (s : State) : State :=
  let off (o : Option (Nat × Nat)) : Option (Nat × Nat) := o.map (fun p => (p.1 + Config.rings, p.2))
  let it (i : Item) : Item := { i with ring := off i.ring }
  let items (l : Sparse (List Item)) : Sparse (List Item) := l.map (fun p => (p.1, p.2.map it))
  let core (x : CoreS) : CoreS :=
    let st := x.stack.map (fun k => { k with item := it k.item })
    let ph := match x.phase with
      | .saving i q => .saving (i.map it) q
      | y => y
    { x with stack := st, phase := ph }
  let can (x : CanS) : CanS := { x with queue := x.queue.map (fun e => { e with ring := off e.ring }) }
  let eth (l : List EthTx) : List EthTx := l.map (fun e => { e with ring := e.ring + Config.rings })
  let s := s.setTxns ((s.host.txns.filter (·.staged)).map (fun t =>
    { t with ring := t.ring + Config.rings }))
  let tw := s.time.tw.map (fun e => { e with ring := off e.ring })
  let sc := { s.sched with queues := items s.sched.queues, spills := items s.sched.spills }
  let cores : Sparse CoreS := s.cores.map (fun p => (p.1, core p.2))
  let cans : Sparse CanS := s.cans.map (fun p => (p.1, can p.2))
  let tx : Sparse (List EthTx) := s.eth.tx.map (fun p => (p.1, eth p.2))
  { s with time := { s.time with tw := tw }, sched := sc, cores := cores, cans := cans,
           eth := { s.eth with tx := tx } }

/-- What goes on of a ring after a link reset: the copies, readouts and flash steps that it has
fetched and started (R360). The engines of the other types hold what they have taken. -/
def State.lostRing (s : State) (r : Nat) : RingS :=
  let t := s.rtype r
  let l := (s.ring r).outs.filter (·.started)
  if l.isEmpty || !(t = .dma || t = .vsp || t = .img) then {}
  else { outs := l, lostType := s.rtypeCode r }

/-- The rings after a link reset: none but what goes on of the old ones, each 32 places on. -/
def State.lostRings (s : State) : Sparse RingS :=
  (s.host.rings.map (fun p => (p.1 + Config.rings, s.lostRing p.1))).filter (fun p => p.2 ≠ {})

/-- A link reset (R360), which counts once the link has trained since power-on. -/
def State.linkReset (s : State) : State :=
  let s := s.set R.HOST_LINK (setBits (s.word R.HOST_LINK) 0 6 0)
  if !s.host.trained then s
  else
    let lost := s.lostRings
    let s := s.orphan
    let s := { s with regs := s.regs.filter (fun p => !linkRegs p.1) }
    let h := s.host
    let s := { s with
      host := { h with rings := lost, unmasked := [], pendingV := [], pcie := {} },
      iommu := { view := s.iommu.view } }
    s.inc F.HOST_LINK_LRESETS

/-- The link has trained (R360): speed and width codes. -/
def State.linkTrained (s : State) (speed width : Nat) : State :=
  let s := s.set R.HOST_LINK (setBits (s.word R.HOST_LINK) 0 6 (speed % 4 + width % 8 * 4 + 32))
  { s with host := { s.host with trained := true } }

/-- HOST_CNT_CLR. -/
def State.hostCntClr (s : State) : State :=
  (List.range Config.rings).foldl (fun t r => t.zero [R.HOST_RING_QREJ r, R.HOST_RING_ABORT r]) s

/-- IOMMU_CNT_CLR. -/
def State.iommuCntClr (s : State) : State := s.zero [R.IOMMU_CNT_MISS, R.IOMMU_CNT_FLT]

end Sys2Proof.Machine
end

