-- ==== Sys2Proof/Machine/Safe.lean ====
section
/-! DEFINITION. The safety island: states and commit (R418 to R421), inputs (R422 to R425),
functions (R426 to R433), outputs (R434 to R436), the watchdog (R437) and the diagnostics
(R438, R439). Times inside the island count the nanoseconds that have passed, which no device reset restarts (R418). -/

namespace Sys2Proof.Machine

open Sys2Proof

/-- Island states (R418). -/
inductive IState
  | powerup | unconf | operate | fault | disabled
  deriving DecidableEq, Repr

/-- The code of an island state in SAFE_STAT.ISTATE. -/
def IState.code : IState → Nat
  | .powerup => 0 | .unconf => 1 | .operate => 2 | .fault => 3 | .disabled => 4

/-- The island's state. -/
def State.ist (s : State) : IState :=
  if !s.straps.es then .disabled
  else match s.get F.SAFE_STAT_ISTATE with
    | 1 => .unconf
    | 2 => .operate
    | 3 => .fault
    | _ => .powerup

/-- A field of the active image (R419). -/
def State.act (s : State) (f : Fld) : Nat :=
  bits (sget s.safe.active (BitVec.ofNat 32 f.rst) f.addr).toNat f.lo f.w

/-- A one-bit field of the active image. -/
def State.actOn (s : State) (f : Fld) : Bool := decide (s.act f = 1)

/-- The 31 registers of the configuration image in ascending order (R419). -/
def safeImage : List Fld :=
  [R.SAFE_WD, R.SAFE_SVB_SRC, R.SAFE_SVB_CFG, R.SAFE_SBT_SRC, R.SAFE_SBT_CFG, R.SAFE_SAP_IN,
   R.SAFE_SAP_CFG] ++ (List.range 16).map R.SAFE_SIN_CFG ++ (List.range 8).map R.SAFE_SOUT_CFG

/-- The CRC of the staged image (R419). -/
def State.stagedCrc (s : State) : Nat :=
  crc32 ((safeImage.map (fun f => toLE 4 (s.word f))).flatten)

/-- The CRC of the active image. -/
def State.activeCrc (s : State) : Nat :=
  crc32 ((safeImage.map (fun f => toLE 4 (s.act { f with lo := 0, w := 32 }))).flatten)

/-- STAGED brought up to date after a write of the staged image. -/
def State.safeStaged (s : State) : State :=
  s.set F.SAFE_STAT_STAGED (b2n (safeImage.any (fun f =>
    decide (s.word f ≠ s.act { f with lo := 0, w := 32 }))))

/-! ## Permit lines -/

/-- ALL is held low (R416, R429). -/
def State.allLow (s : State) : Bool :=
  s.ist ≠ .operate || (s.on F.SAFE_STAT_SVB && s.actOn F.SAFE_SVB_CFG_ALL)

/-- The permit line of arm a is held low (R416, R429). -/
def State.armLow (s : State) (a : Nat) : Bool :=
  s.ist ≠ .operate || (s.on F.SAFE_STAT_SVB && bit (s.act F.SAFE_SVB_CFG_ARMS) a)

/-- The levels of the seven permit lines: bits 0 to 5 the arms, bit 6 ALL. -/
def State.permits (s : State) : Nat :=
  ofBits 7 (fun i => if i < 6 then !s.armLow i else !s.allLow)

/-- What the permit lines do outside the island (R416, R417, R429, R430): SVB_DEM, the
ARM_RUN bits of a demand that begins, and the SVB requests of the lanes. -/
def State.svbLines (s : State) : State :=
  let on := s.straps.es
  let dem := if on then ofBits Config.arms (fun a => s.armLow a || s.allLow) else 0
  let new := dem &&& (s.get F.TRIP_STAT_SVB_DEM ^^^ 0x3F)
  let s := (s.set F.TRIP_STAT_SVB_DEM dem).armRunClr new
  let g := s.act F.SAFE_SVB_CFG_G
  (List.range Config.strings).foldl (fun t n =>
    let a := t.strArm n
    let m := if on && (t.allLow || (a < 6 && t.armLow a)) then g else 0
    if (t.str n).blkSvb = m then t
    else (t.setStr n { t.str n with blkSvb := m }).blkTrim n) s

/-! ## Outputs -/

/-- The drives of the outputs as functions and faults now ask for them (R432, R433, R436), and
SAFE_OUT. -/
def State.safeDrive (s : State) : State :=
  let op := decide (s.ist = .operate)
  let sbt := s.act F.SAFE_SBT_CFG_OUTS
  let sap := s.act F.SAFE_SAP_CFG_OUTS
  let x := s.safe
  let want := ofBits 8 (fun o => op && !bit x.flt o &&
    ((bit sbt o && !s.on F.SAFE_STAT_SBT && x.flt &&& sbt = 0) ||
      (bit sap o && s.on F.SAFE_STAT_SAP_ON && x.flt &&& sap = 0)))
  let at' := (List.range 8).foldl (fun m o =>
    if bit want o = bit x.drive o then m else sins m o s.elapsed) x.driveAt
  let s := { s with safe := { x with drive := want, driveAt := at' } }
  s.set F.SAFE_OUT_STATE (ofBits 32 (fun i =>
    let o := i / 4
    match i % 4 with
    | 0 => bit want o
    | 1 => bit x.rba o
    | 2 => bit x.rbb o
    | _ => bit x.flt o))

/-- An output's FLT sets (R436). -/
def State.outFault (s : State) (o : Nat) : State :=
  ({ s with safe := { s.safe with flt := setBit s.safe.flt o true } }).flag F.SAFE_FLAG_OUT_FLT

/-- The readbacks of this evaluation are judged (R434, R436). -/
def State.readbacks (s : State) (rba rbb : Nat) : State :=
  let s := { s with safe := { s.safe with rba := rba % 256, rbb := rbb % 256 } }
  (List.range 8).foldl (fun t o =>
    if !t.actOn (F.SAFE_SOUT_CFG_EN o) then t
    else
      let d := bit t.safe.drive o
      let settled := t.elapsed - sget t.safe.driveAt 0 o ≥ 10000 * t.act (F.SAFE_SOUT_CFG_RBT o)
      let bad := settled && (bit rba o ≠ d || bit rbb o ≠ d)
      let n := if bad then sget t.safe.badRun 0 o + 1 else 0
      let t := { t with safe := { t.safe with badRun := sput t.safe.badRun 0 o (min n 2) } }
      if n ≥ 2 then t.outFault o else t) s

/-- An off-pulse test of output o; `bad` is the longest run of evaluations in which a readback
broke it (R435, R436). -/
def State.offPulse (s : State) (o bad : Nat) : State :=
  if s.ist = .operate && bit s.safe.drive o && s.actOn (F.SAFE_SOUT_CFG_OPT_EN o) then
    let s := s.inc R.SAFE_CNT_OP
    if bad ≥ 2 then (s.outFault o).safeDrive else s
  else s

/-! ## States -/

/-- The island enters a state; outside OPERATE it holds the safe state (R418). -/
def State.setIst (s : State) (x : IState) : State :=
  let s := s.set F.SAFE_STAT_ISTATE x.code
  let s := if x = .operate then s else
    ({ s with safe := { s.safe with sapFrom := none } }).set F.SAFE_STAT_SAP_ON 0
  s.safeDrive.svbLines

/-- A diagnostic fails (R418, R438). -/
def State.islandFault (s : State) (cause : Nat) : State :=
  if s.ist = .unconf || s.ist = .operate then
    (s.set F.SAFE_CHK_FCAUSE cause).setIst .fault
  else s

/-- A function latches (R426, SAFE_CNT_DEM). -/
def State.fnLatch (s : State) (f : Fld) : State :=
  if s.on f then s else (s.flag f).inc R.SAFE_CNT_DEM

/-- Every function demanded and latched (R418, R428). -/
def State.fnLatchAll (s : State) : State :=
  let s := (s.fnLatch F.SAFE_STAT_SVB).fnLatch F.SAFE_STAT_SBT
  { s with safe := { s.safe with fresh := true, sapFrom := none } }

/-- The watchdog is disarmed (R437). -/
def State.wdOff (s : State) : State :=
  let s := { s with safe := { s.safe with wdLast := none, wdGood := 0 } }
  s.zero [F.SAFE_STAT_WD_ARMED, F.SAFE_STAT_WD_EXP]

/-- VDDSAFE comes into range (R418, R438): from POWERUP the self-test starts. -/
def State.vddUp (s : State) : State :=
  if !s.straps.es then s
  else
    let s := { s with safe := { s.safe with vdd := true } }
    if s.ist = .powerup then { s with safe := { s.safe with testing := true } } else s

/-- VDDSAFE is lost (R418): POWERUP, with the island's memory and counters cleared. -/
def State.vddLoss (s : State) : State :=
  if !s.straps.es then s
  else
    let s := { s with safe := {}, regs := s.regs.filter (fun p =>
      decide (p.1 < 0x70000 ∨ 0x80000 ≤ p.1)) }
    s.setIst .powerup

/-- The self-test ends (R418, R439); a failure records its cause. -/
def State.selftestDone (s : State) (pass : Bool) (cause : Nat) : State :=
  if !s.safe.testing then s
  else
    let s := { s with safe := { s.safe with testing := false } }
    match s.ist with
    | .powerup =>
      if pass then
        let regs := s.regs.filter (fun p => !(safeImage.any (fun f => decide (f.addr = p.1))))
        ({ s with safe := { s.safe with active := [], committed := false }, regs := regs }).setIst .unconf
      else (s.set F.SAFE_CHK_FCAUSE cause).setIst .fault
    | .fault =>
      if !pass then s.set F.SAFE_CHK_FCAUSE cause
      else if s.safe.committed && s.activeCrc = s.safe.crc then s.fnLatchAll.setIst .operate
      else s.fnLatchAll.setIst .unconf
    | _ => s

/-! ## Commands -/

/-- The first check of R420 that the staged image fails, 0 for none. -/
def State.commitCode (s : State) : Nat :=
  let sbt := s.get F.SAFE_SBT_CFG_OUTS
  let sap := s.get F.SAFE_SAP_CFG_OUTS
  let en := ofBits 8 (fun o => s.on (F.SAFE_SOUT_CFG_EN o))
  let src := s.get F.SAFE_SVB_SRC_SIN ||| s.get F.SAFE_SBT_SRC_SIN ||| s.get F.SAFE_SAP_IN_SIN
  let badIn := (bitList 16 src).any (fun i =>
    s.get (F.SAFE_SIN_CFG_TYPE i) = 0 || s.get (F.SAFE_SIN_CFG_TYPE i) = 3)
  let wmax := s.get F.SAFE_WD_WD_MAX
  if s.gst ≠ .config then 1
  else if s.get R.SAFE_CRC ≠ s.stagedCrc then 2
  else if sbt &&& sap ≠ 0 || (sbt ||| sap) &&& (en ^^^ 0xFF) ≠ 0 then 3
  else if badIn then 4
  else if (List.range 8).any (fun o => s.on (F.SAFE_SOUT_CFG_OPT_EN o) &&
      s.get (F.SAFE_SOUT_CFG_RBT o) ≥ s.get (F.SAFE_SOUT_CFG_OPW o)) then 5
  else if wmax ≠ 0 && s.get F.SAFE_WD_WD_MIN ≥ wmax then 6
  else if s.get F.SAFE_SVB_CFG_G = 0 then 7 else 0

/-- COMMIT (R420). -/
def State.safeCommit (s : State) : State :=
  if s.ist = .unconf || s.ist = .operate then
    let c := s.commitCode
    let s := s.set F.SAFE_CHK_CODE c
    if c ≠ 0 then s.flag F.SAFE_FLAG_CRC_REJ
    else
      let img := safeImage.map (fun f => (f.addr, BitVec.ofNat 32 (s.word f)))
      let s := { s with safe := { s.safe with active := img, crc := s.get R.SAFE_CRC,
                                              committed := true } }
      let s := (s.set R.SAFE_CRC_CUR (s.get R.SAFE_CRC)).set F.SAFE_STAT_STAGED 0
      (s.wdOff.fnLatchAll.set F.SAFE_STAT_SAP_ON 0).setIst .operate
  else s

/-- RESET: a reset request of the host for the next evaluation (R427). FAULT ignores it. -/
def State.safeReset (s : State) : State :=
  if s.ist = .unconf || s.ist = .operate then
    { s with safe := { s.safe with reqHost := true } }
  else s

/-- FRESET (R439). -/
def State.safeFreset (s : State) : State :=
  if !s.straps.es then s
  else if s.ist = .fault && s.safe.vdd then { s with safe := { s.safe with testing := true } }
  else s.flag F.SAFE_FLAG_CMD_REJ

/-- SAFE_CMD 0x4. -/
def State.safeCntClr (s : State) : State := s.zero [R.SAFE_CNT_DEM, R.SAFE_CNT_OP, R.SAFE_CNT_RST]

/-- A write of SAFE_CMD. -/
def State.safeCmd (s : State) (cmd : Nat) : State :=
  match cmd with
  | 1 => s.safeCommit
  | 2 => s.safeReset
  | 3 => s.safeFreset
  | 4 => s.safeCntClr
  | _ => s.flag F.SAFE_FLAG_CMD_REJ

/-! ## Inputs -/

/-- Contact A (`b` false) or B of input i reads its normal level (R422). -/
def State.sinNormal (s : State) (i : Nat) (b : Bool) : Bool :=
  let lvl := if b then bit s.safe.cb i else bit s.safe.ca i
  if s.act (F.SAFE_SIN_CFG_TYPE i) = 2 && b then !lvl else lvl

/-- The state of input i: 0 QUIET, 1 ACTIVE, 2 FAULT (R424). -/
def State.sinState (s : State) (i : Nat) : Nat :=
  let t := s.act (F.SAFE_SIN_CFG_TYPE i)
  if t ≠ 1 && t ≠ 2 then 0
  else if bit s.safe.faults i then 2
  else if s.sinNormal i false && s.sinNormal i true then 0 else 1

/-- The island cycles for which a contact of input i must hold a level (R423). -/
def State.debounce (s : State) (i : Nat) : Nat :=
  let d := s.act (F.SAFE_SIN_CFG_DEB i)
  if d = 0 then 2 else 4000 * d

/-- Contact A (`b` false) or B of input i has been sampled at a level for `held` island cycles
in a row; its debounced level changes (R423, R425). A press of a reset input is timed here. -/
def State.contact (s : State) (i : Nat) (b level : Bool) (held : Nat) : State :=
  if !s.straps.es || !s.safe.vdd || held < s.debounce i ||
      bit (if b then s.safe.cb else s.safe.ca) i = level then s
  else
    let x := s.safe
    let x := if b then { x with cb := setBit x.cb i level } else { x with ca := setBit x.ca i level }
    let s := { s with safe := x }
    if s.act (F.SAFE_SIN_CFG_TYPE i) ≠ 3 then s
    else
      let na := s.sinNormal i false
      let nb := s.sinNormal i true
      let began := sget x.pressAt 0 i
      if !na && !nb then
        { s with safe := { x with pressAt := sins x.pressAt i (s.elapsed + 1) } }
      else
        let len := if began = 0 then sget x.pressLen 0 i else s.elapsed + 1 - began
        let x := { x with pressAt := sdel x.pressAt i, pressLen := sput x.pressLen 0 i len }
        if na && nb then
          { s with safe := { x with
            pressLen := sdel x.pressLen i,
            reqIn := x.reqIn || (100000000 ≤ len && len ≤ 5000000000) } }
        else { s with safe := x }

/-- The contacts of input i have disagreed for `held` island cycles in a row; FAULT when that
is DISC (R424). -/
def State.inputDisc (s : State) (i held : Nat) : State :=
  let t := s.act (F.SAFE_SIN_CFG_TYPE i)
  let disc := 160000 * max 1 (s.act (F.SAFE_SIN_CFG_DISC i))
  if (t = 1 || t = 2) && disc ≤ held && s.sinNormal i false ≠ s.sinNormal i true && s.ist ≠ .disabled then
    ({ s with safe := { s.safe with faults := setBit s.safe.faults i true } }).flag F.SAFE_FLAG_DISC
  else s

/-! ## Evaluation -/

/-- SVB is demanded in this evaluation (R426). -/
def State.svbWanted (s : State) : Bool :=
  (bitList 16 (s.act F.SAFE_SVB_SRC_SIN)).any (fun i => decide (s.sinState i ≠ 0)) ||
    (s.actOn F.SAFE_SVB_SRC_WD && s.on F.SAFE_STAT_WD_EXP)

/-- SBT is demanded in this evaluation (R426). -/
def State.sbtWanted (s : State) : Bool :=
  (bitList 16 (s.act F.SAFE_SBT_SRC_SIN)).any (fun i => decide (s.sinState i ≠ 0)) ||
    (s.actOn F.SAFE_SBT_SRC_WD && s.on F.SAFE_STAT_WD_EXP)

/-- Demands latch (R426). -/
def State.fnDemand (s : State) : State :=
  if s.ist = .operate then
    let s := s.when s.svbWanted (·.fnLatch F.SAFE_STAT_SVB)
    s.when s.sbtWanted (·.fnLatch F.SAFE_STAT_SBT)
  else s

/-- A latched function may reset on the request that waits (R427, R428). -/
def State.fnResets (s : State) (f : Fld) (wanted host : Bool) (outs : Nat) : Bool :=
  let x := s.safe
  s.ist = .operate && s.on f && !wanted && !x.fresh && (x.reqIn || (x.reqHost && host)) &&
    (x.rba ||| x.rbb) &&& outs = 0

/-- The reset request of this evaluation (R427, R424, R436). -/
def State.fnRequest (s : State) : State :=
  if !s.safe.reqIn && !s.safe.reqHost then s
  else
    let a := s.fnResets F.SAFE_STAT_SVB s.svbWanted (s.actOn F.SAFE_SVB_CFG_RST_HOST) 0
    let outs := s.act F.SAFE_SBT_CFG_OUTS
    let b := s.fnResets F.SAFE_STAT_SBT s.sbtWanted (s.actOn F.SAFE_SBT_CFG_RST_HOST) outs
    let s := s.when a (fun t => (t.set F.SAFE_STAT_SVB 0).inc R.SAFE_CNT_RST)
    let s := s.when b (fun t => (t.set F.SAFE_STAT_SBT 0).inc R.SAFE_CNT_RST)
    let x := s.safe
    let s :=
      if a || b then
        let still := ofBits 16 (fun i => bit x.faults i && !(s.sinNormal i false && s.sinNormal i true))
        let flt := x.flt &&& ((s.act F.SAFE_SAP_CFG_OUTS ||| if b then outs else 0) ^^^ 0xFF)
        { s with safe := { x with faults := still, flt := flt } }
      else s.flag F.SAFE_FLAG_RST_REJ
    { s with safe := { s.safe with reqIn := false, reqHost := false } }

/-- The conditions of SAP (R433). -/
def State.sapHolds (s : State) : Bool :=
  let arms := s.act F.SAFE_SAP_CFG_ARMS
  s.ist = .operate && s.on F.SAFE_STAT_SVB &&
    (s.actOn F.SAFE_SVB_CFG_ALL || arms &&& (s.act F.SAFE_SVB_CFG_ARMS ^^^ 0x3F) = 0) &&
    (!s.actOn F.SAFE_SAP_CFG_NEED_SBT || s.on F.SAFE_STAT_SBT) &&
    (bitList 16 (s.act F.SAFE_SAP_IN_SIN)).all (fun i => decide (s.sinState i = 1))

/-- SAP follows its conditions: DLY counts from when they began to hold (R433). -/
def State.sapTrack (s : State) : State :=
  if s.sapHolds then
    if s.safe.sapFrom.isSome then s
    else { s with safe := { s.safe with sapFrom := some s.elapsed } }
  else ({ s with safe := { s.safe with sapFrom := none } }).set F.SAFE_STAT_SAP_ON 0

/-- DLY of SAP has passed (R433). -/
def State.sapExpiry (s : State) : State :=
  match s.safe.sapFrom with
  | none => s
  | some t =>
    if s.sapHolds && t + 1000000000 * max 1 (s.act F.SAFE_SAP_CFG_DLY) ≤ s.elapsed then
      (s.flag F.SAFE_STAT_SAP_ON).safeDrive
    else s

/-- SAFE_IN as the inputs stand (R424). -/
def State.safeIn (s : State) : State :=
  s.set F.SAFE_IN_STATE (ofBits 32 (fun j => bit (s.sinState (j / 2)) (j % 2)))

/-- One evaluation with the readbacks of the outputs and the permit lines as the lanes see
them (R423 to R438). In FAULT it only shows inputs and readbacks (R439; notes/assumptions/75.md). -/
def State.islandEval (s : State) (rba rbb permits : Nat) : State :=
  match s.ist with
  | .disabled | .powerup => s
  | .fault =>
    let s := s.safeIn
    ({ s with safe := { s.safe with rba := rba % 256, rbb := rbb % 256 } }).safeDrive
  | _ =>
    if permits % 128 ≠ s.permits then s.islandFault 6
    else
      let s := s.safeIn.readbacks rba rbb
      let s := (s.fnDemand.fnRequest).sapTrack
      let s := { s with safe := { s.safe with fresh := false } }
      s.safeDrive.svbLines

/-! ## Watchdog -/

/-- The watchdog expires (R437). -/
def State.wdExpire (s : State) (flag : Fld) : State :=
  let s := { s with safe := { s.safe with wdGood := 0 } }
  let s := ((s.flag flag).flag F.SAFE_STAT_WD_EXP).set F.SAFE_STAT_WD_ARMED 0
  (s.fnDemand.safeDrive).svbLines

/-- A token reaches the island (R437). -/
def State.wdToken (s : State) : State :=
  let wmax := s.act F.SAFE_WD_WD_MAX
  if s.ist ≠ .operate || wmax = 0 then s
  else
    let now := s.elapsed
    let old := s.safe.wdLast
    let s := { s with safe := { s.safe with wdLast := some now } }
    match old with
    | none => s.flag F.SAFE_STAT_WD_ARMED
    | some t =>
      let dt := now - t
      if dt < 100 * s.act F.SAFE_WD_WD_MIN then s.wdExpire F.SAFE_FLAG_WD_EARLY
      else if dt > 100 * wmax then s.wdExpire F.SAFE_FLAG_WD_LATE
      else if s.on F.SAFE_STAT_WD_EXP then
        let n := s.safe.wdGood + 1
        let s := { s with safe := { s.safe with wdGood := n } }
        if n ≥ 16 then (s.set F.SAFE_STAT_WD_EXP 0).flag F.SAFE_STAT_WD_ARMED else s
      else s

/-- No token has followed within WD_MAX (R437). -/
def State.wdTimeout (s : State) : State :=
  match s.safe.wdLast with
  | none => s
  | some t =>
    if s.on F.SAFE_STAT_WD_ARMED && s.ist = .operate &&
        t + 100 * s.act F.SAFE_WD_WD_MAX < s.elapsed then s.wdExpire F.SAFE_FLAG_WD_LATE
    else s

/-! ## Diagnostics -/

/-- The CRC check of the active image, one of whose words may have changed under an upset:
the bits of `flip` in word `w` (R421). -/
def State.crcCheck (s : State) (w flip : Nat) : State :=
  let f := nth safeImage R.SAFE_WD w
  let v := s.act { f with lo := 0, w := 32 } ^^^ (flip % 2 ^ 32)
  let s := if flip % 2 ^ 32 = 0 then s else
    { s with safe := { s.safe with active := sins s.safe.active f.addr (BitVec.ofNat 32 v) } }
  if (s.ist = .unconf || s.ist = .operate) && s.safe.committed && s.activeCrc ≠ s.safe.crc then
    s.islandFault 4
  else s

/-- The RC monitor finds a frequency error in thousandths (R438). -/
def State.rcCheck (s : State) (err : Nat) : State := s.when (err > 60) (·.islandFault 2)

/-- The march test (R438). -/
def State.marchTest (s : State) (pass : Bool) : State := s.when (!pass) (·.islandFault 3)

/-- The pattern test (R438). -/
def State.patternTest (s : State) (pass : Bool) : State := s.when (!pass) (·.islandFault 5)

/-- VDDSAFE has left its window (R438). -/
def State.vddRange (s : State) : State :=
  if !s.straps.es then s
  else ({ s with safe := { s.safe with vdd := false } }).islandFault 1

end Sys2Proof.Machine
end

