-- ==== Sys2Proof/Machine/Dev.lean ====
section
/-! DEFINITION. DEV: the fatal faults and SAFE_HOLD (R25, R26), the commands of the global state
(R20, R27 to R30) with the checks of GO_READY (R29, R368), the resets (R544, R356, R358), the
choice of a start (R546) and its failure (R548, R549); the scrubbers (R366). -/

namespace Sys2Proof.Machine

open Sys2Proof

/-! ## SAFE_HOLD -/

/-- What a DEV_CMD of this core cycle has changed, for a fatal fault that wins over it (R27). -/
def State.cmdMark (s t : State) : State :=
  { t with dev := { t.dev with undo := some { cyc := s.time.cyc, regs := regDiff s.regs t.regs } } }

/-- A fatal fault wins over a DEV_CMD of its core cycle: the registers are as before the command,
which is reported with CMD_REJ and REJ 0b100 (R27). -/
def State.cmdLost (s : State) : State :=
  match s.dev.undo with
  | some u =>
    if u.cyc = s.time.cyc then
      State.devRej { s with regs := u.regs.foldl regBack s.regs,
                            dev := { s.dev with undo := none } } 4
    else s
  | none => s

/-- Entry to SAFE_HOLD with a REASON (R26, R30, R212, R354, R463, R480, R498). -/
def State.safeHold (s : State) (reason : Nat) : State :=
  let s := if s.on F.DEV_STATE_RUN_PEND then (s.set F.DEV_STATE_RUN_PEND 0).devRej 4 else s
  let s := ((s.goto .safeHold reason).armRunClr 0x3F).pairLeave
  let s := (((s.strsIdle).blkHold).slotsIdle).tuneCheck
  let s := (s.logicSafeHold).vspSafeHold
  let s := (List.range 8).foldl State.calInterrupt s
  s.txnsHold

/-- A fatal fault (R20, R25): it acts in CONFIG, READY and RUN, and wins over a command of its
core cycle (R27). -/
def State.fatal (s : State) (reason : Nat) : State :=
  if s.gst = .config || s.live then
    let s := (s.cmdLost).safeHold reason
    { s with dev := { s.dev with faultAt := some s.time.cyc, undo := none, lastBow := [] } }
  else s

/-- The independent checker finds an apply instant late (R41). -/
def State.stall (s : State) : State := if s.peRun && !s.dev.inReset then s.fatal 3 else s

/-- No usable reference has returned within 10 ms (R35): the lock has failed. -/
def State.refExpiry (s : State) : State :=
  if s.on F.TIME_STATUS_REF_NONE then (s.set F.TIME_STATUS_PLL_LOCK 0).fatal 5 else s

/-- The heartbeat expires (R382, R383): PAIR_ACT_OUT falls, and the period engine counts as
stopped. -/
def State.heartbeat (s : State) : State :=
  if s.peRun && !s.dev.inReset then (s.dropAct).fatal 3 else s

/-! ## GO_READY -/

/-- The areas of shared SRAM that hardware writes, by ascending area ID (R368). -/
def State.areas (s : State) : List (Nat × Nat × Nat) :=
  [(0x01, s.ctAt 0 - sramBase, 524288), (0x02, s.dtAt 0 - sramBase, 32768)] ++ s.schedAreas ++
    [(0x10, s.get F.ETH_GSE_BASE_BASE * 256, 8192), (0x11, s.get F.ETH_SV_BASE_BASE * 256, 4096)] ++
    (if s.on F.LOGIC_SHR_BASE_EN then [(0x1F, s.get F.LOGIC_SHR_BASE_BASE * 64, 1040)] else [])

/-- Every CODE of R29 at 0. -/
def State.chkClr (s : State) : State :=
  s.zero ([F.TIME_CHK_CODE, F.MOD_MCHK_CODE, F.SCHED_CHK_CODE, F.CENG_CHK_CODE, F.ADC_CHK_CODE,
    F.LOGIC_CHK_CODE, F.PAIR_CHK_CODE, F.MEM_CHK_CODE] ++
    (List.range Config.lanes).map F.LANE_CHK_CODE)

/-- A block's check: nothing where it passes, else the state with its result recorded. -/
def State.chk2 (s : State) (r : Option (Nat × Nat)) (code which : Fld) : Option State :=
  r.map (fun p => (s.set code p.1).set which p.2)

/-- The checks of GO_READY in the order of R29: the state with the first failure recorded, or
none. -/
def State.readyFails (s : State) : Option State :=
  (s.chk2 s.timeCheck F.TIME_CHK_CODE F.TIME_CHK_GROUP).orElse fun _ =>
  (s.laneCheck.map (fun p => s.set (F.LANE_CHK_CODE p.1) p.2)).orElse fun _ =>
  (s.chk2 s.modCheck F.MOD_MCHK_CODE F.MOD_MCHK_ARM).orElse fun _ =>
  (s.chk2 s.schedCheck F.SCHED_CHK_CODE F.SCHED_CHK_INDEX).orElse fun _ =>
  (s.cengCheck.map (fun p => (s.set F.CENG_CHK_CODE p.2).set F.CENG_CHK_SLOT p.1)).orElse fun _ =>
  (s.chk2 s.adcCheck F.ADC_CHK_CODE F.ADC_CHK_CV).orElse fun _ =>
  ((s.logicCheck s.areas).map (fun c => s.set F.LOGIC_CHK_CODE c)).orElse fun _ =>
  (s.chk2 (s.pairCheck s.areas) F.PAIR_CHK_CODE F.PAIR_CHK_REGION).orElse fun _ =>
  (areaCheck [] s.areas).map (fun r =>
    ((s.set F.MEM_CHK_CODE r.1).set F.MEM_CHK_AREA_A r.2.1).set F.MEM_CHK_AREA_B r.2.2)

/-- GO_READY accepted (R20, R89, R387, R463). -/
def State.readyEnter (s : State) : State :=
  let s := s.goto .ready 1
  let s := (List.range Config.lanes).foldl (fun t l =>
    if (t.lrole l = .string || t.lrole l = .mirror) && t.lst l = .disabled then t.laneTrain l else t) s
  (s.pairReady).logicReady

/-- A command of DEV_CMD may be judged: not in the core cycle of a fatal fault (R27), not while
RUN_PEND holds it off (R28), and in the state it needs. `ok` is that condition. -/
def State.devGate (s : State) (ok : Bool) (f : State → State) : State :=
  if s.dev.inReset then s
  else if s.dev.faultAt = some s.time.cyc then s.devRej 4
  else if s.on F.DEV_STATE_RUN_PEND then s.devRej 5
  else if !ok then s.devRej 1
  else f s

/-- GO_READY (R20, R29). -/
def State.goReady (s : State) : State :=
  s.devGate (s.gst = .config) (fun s =>
    let s := s.chkClr
    match s.readyFails with
    | some t => t.devRej 2
    | none => s.readyEnter)

/-- GO_RUN (R20, R30). The instant is that of DEV_RUN_AT as the command finds it; a later write
of the register does not move it (notes/assumptions/90.md). -/
def State.goRun (s : State) : State :=
  s.devGate (s.gst = .ready) (fun s =>
    let at' := s.get R.DEV_RUN_AT
    if s.inWindow at' then
      { s.flag F.DEV_STATE_RUN_PEND with dev := { s.dev with runAt := at' } }
    else s.devRej 3)

/-- STOP (R20, R28, R212, R317). -/
def State.stop (s : State) : State :=
  if s.dev.inReset then s
  else if s.dev.faultAt = some s.time.cyc then s.devRej 4
  else if s.on F.DEV_STATE_RUN_PEND then s.set F.DEV_STATE_RUN_PEND 0
  else if s.gst = .run then ((s.goto .ready 1).armRunClr 0x3F).tuneCheck
  else s.devRej 1

/-- The strings on which the device launches now (R136, R151, R154). -/
def State.goers (s : State) : List Nat :=
  if s.live && s.holder then
    (List.range Config.strings).filter (fun n => s.strBows n && !(s.str n).mapWait)
  else []

/-- GO_CONFIG (R20, R154, R437, R463): READY is left, with a STOP token to the island; the strokes
stop at the next apply instant (notes/assumptions/51.md). -/
def State.goConfig (s : State) : State :=
  s.devGate (s.gst = .ready) (fun s =>
    let go := s.goers
    let s := ((s.goto .config 1).pairLeave).strsIdle
    let s := { s with dev := { s.dev with lastBow := go } }
    let s := ((s.slotsIdle).tuneCheck).logicConfig
    s.when (s.ist = .operate) (·.wdOff))

/-- DEV_CMD 0xF (R25, R28): a fatal fault of its own. -/
def State.forceHold (s : State) : State :=
  if s.dev.inReset then s
  else if s.dev.faultAt = some s.time.cyc then s.devRej 4
  else if s.gst = .config || s.live then s.fatal 6
  else s.devRej 1

/-- An undefined command (DEV_CMD): refused with REJ 0b001, or lost to a fatal fault of its core
cycle (R27). -/
def State.devUndef (s : State) : State :=
  if s.dev.inReset then s
  else if s.dev.faultAt = some s.time.cyc then s.devRej 4 else s.devRej 1

/-- A write of DEV_CMD. -/
def State.devCmd (s : State) (cmd : Nat) : State :=
  match cmd with
  | 1 => s.cmdMark s.goReady
  | 2 => s.cmdMark s.goRun
  | 3 => s.cmdMark s.stop
  | 4 => s.cmdMark s.goConfig
  | 15 => s.forceHold
  | _ => s.devUndef

/-! ## Resets -/

/-- Registers that a device reset other than power-on leaves (R356, R358, R418, R499, R548),
with PAIR_EPOCH, on which the start decides (R403, R547). -/
def keepReg (a : Nat) : Bool :=
  linkRegs a || a = R.HOST_EPOCH.addr || a = R.HOST_LINK.addr || a = R.DEV_START.addr ||
    a = R.DEV_RST_CAUSE.addr || a = R.PAIR_EPOCH.addr || (0x70000 ≤ a && a < 0x80000) ||
    (List.range 8).any (fun c => (List.range 5).any (fun k => a = (R.ADC_FACT c k).addr))

/-- The device enters RESET (R20, R24, R544): what a reset stops is cut off, and everything but
what survives returns to its reset value. Each ring that is not DISABLED halts, and keeps of its
descriptors only its registers until the walk (R329, R356). -/
def State.enterReset (s : State) (cause : Nat) (dawn : Bool) : State :=
  let s := (((s.dropAct).otpCut).retCut).imgCut
  let cal := (List.range 8).filter (fun c => s.on (F.ADC_STAT_CAL_BUSY c))
  let meas := if s.gst = .boot then s.dev.meas else ofBits 8 (fun c => s.on (F.ADC_CFG_CLASS c))
  let h := s.host
  let l := s.logic
  let t : State :=
    { regs := s.regs.filter (fun p => keepReg p.1), mem := s.mem, synd := s.synd,
      straps := s.straps, dev := { s.dev with inReset := true, runAt := 0, step := 0, regList := [],
                                                       meas := meas },
      cells := s.cells, safe := s.safe, iommu := s.iommu, img := s.img, elapsed := s.elapsed,
      host := { pcie := h.pcie, unmasked := h.unmasked, pendingV := h.pendingV, trained := h.trained },
      logic := { store := l.store, copy := l.copy, copyCrc := l.copyCrc },
      out := s.out, free := s.free, pending := s.pending }
  let t := (t.set F.DEV_RST_CAUSE_CAUSE cause).set F.DEV_RST_CAUSE_DAWN_REQ (b2n dawn)
  let t := (List.range Config.rings).foldl (fun t r => if t.rst r = .disabled then t else
    (t.setRst r .halted).flag (F.HOST_RING_STAT_RESET_HALT r)) t
  cal.foldl (fun u c => u.flag (F.ADC_STAT_CAL_ABORT c)) t

/-- A power-on reset (R356, R417, R544): every register and memory starts again; flash, OTP and the
external retain store keep their content, or are as a board is fitted; the island's supply is
its own (R418). -/
def State.powerOn (s : State) (fit : Option Fitted) : State :=
  let s := (((s.dropAct).otpCut).retCut).imgCut
  let es := match fit with
    | some f => f.es
    | none => s.straps.es
  let img := match fit with
    | some f => { flash := f.flash.foldl (fun m p => sput m 0xFF p.1 p.2) [],
                  hash := f.hash.foldl (fun m p => sput m [] p.1 p.2) [],
                  prog := f.prog % 256, revoked := f.revoked % 256 }
    | none => s.img
  let t : State :=
    { regs := s.regs.filter (fun p => 0x70000 ≤ p.1 && p.1 < 0x80000),
      straps := { s.straps with es := es }, cells := s.cells, safe := s.safe, img := img,
      logic := { store := s.logic.store }, elapsed := s.elapsed, out := s.out, free := s.free,
      pending := s.pending }
  if !es then t.set F.SAFE_STAT_ISTATE IState.disabled.code
  else t.when (t.get F.SAFE_STAT_ISTATE = IState.disabled.code) (·.set F.SAFE_STAT_ISTATE 0)

/-- RESET_N has been low for 1 µs (R544): where another source holds RESET, the lower code
stays. -/
def State.resetN (s : State) : State :=
  if s.dev.inReset then
    s.set F.DEV_RST_CAUSE_CAUSE (min 2 (s.get F.DEV_RST_CAUSE_CAUSE))
  else s.enterReset 2 false

/-- A write of DEV_RESET (R544, DEV_RESET). -/
def State.devReset (s : State) (key : Nat) (dawn : Bool) : State :=
  if s.dev.inReset then s
  else if key % 65536 = 0x5EB7 then s.enterReset 4 dawn
  else s.devRej 1

/-- RESET ends (R32, R355, R416, R545, R546, R562): the supplies are good, a reference is valid and
locked, the straps are sampled, and the kind of start is chosen. -/
def State.release (s : State) (refA refB side home : Bool) : State :=
  if !s.dev.inReset || !(refA || refB) then s
  else
    let noon := s.get F.DEV_RST_CAUSE_CAUSE = 4 && s.get F.DEV_RST_CAUSE_DAWN_REQ = 0 &&
      s.dev.prevDone && !s.dev.committed && !s.dev.ue25
    let s := { s with dev := { inReset := false, step := 1, meas := s.dev.meas }, time := {},
                      straps := { s.straps with side := side, home := home } }
    let s := (s.inc R.HOST_EPOCH).set F.DEV_START_KIND (b2n noon)
    let s := ((s.setRef 0 refA).setRef 1 refB).set F.TIME_STATUS_REF_ACT (b2n (!refA))
    let s := s.flag F.TIME_STATUS_PLL_LOCK
    let s := (s.set F.PAIR_STAT_SIDE (b2n side)).set F.PAIR_STAT_HOME (b2n home)
    (s.otpShow).svbLines.evt .state

/-! ## The start -/

/-- A start fails (R548, R549). -/
def State.startFail (s : State) (code : Nat) : State :=
  let n := s.get F.DEV_START_FAILS
  let s := s.set F.DEV_START_FCODE code
  let s := s.set F.DEV_START_FAILS (min 3 (n + 1))
  if n ≥ 2 then ({ s with dev := { s.dev with step := 0 } }).safeHold 2
  else s.enterReset 3 false

/-- The start has lasted more than 2 s (R548). -/
def State.startLimit (s : State) : State :=
  if !s.dev.inReset && s.gst = .boot then s.startFail 5 else s

/-- Step 2 (R547): the memories written with clean zero codewords, and with a dawn start the
authority of the pair at (A, 0). -/
def State.startClear (s : State) (noon : Bool) : State :=
  if noon then
    let keep (a : Nat) : Bool := memClass a ≠ some 1 && memClass a ≠ some 3
    { s with mem := s.mem.filter (fun c => keep c.1), synd := s.synd.filter (fun p => keep (4 * p.1)) }
  else
    let s := { s with mem := [], synd := [], logic := { s.logic with copy := 1, copyCrc := [] } }
    s.set R.PAIR_EPOCH 0

/-- Step 3 (R547, R551, R553 to R555): the image. -/
def State.startImage (s : State) (noon : Bool) : State :=
  match s.pickImage noon with
  | (.noImage, s) => s.startFail 3
  | (.run k load, s) =>
    let s := s.imgShow k
    let s := if load then s.imgLoad k else s
    { s with dev := { s.dev with regList := s.imgRegs k, step := 4 } }

/-- Step 5 (R496, R547): with a dawn start the reference has settled and every PROT converter has
been round its slices, whose factors are not stated; the converters that were MEAS before the
reset are stale and keep their factors. -/
def State.startAdc (s : State) (noon : Bool) : State :=
  let s := s.flag F.ADC_REF_REF_OK
  if noon then s
  else
    (List.range 8).foldl (fun t c =>
      if bit t.dev.meas c then t.flag (F.ADC_STAT_CAL_STALE c)
      else (List.range 5).foldl (fun u _ =>
        let (v, u) := u.fresh
        u.calRotate c (v % 2 ^ 32)) t) s

/-- What a noon start leaves of the cell table (R162): the identity words without INSVC, the host
word and GAM; every state OUT. The register list has placed the table by then
(notes/assumptions/98.md). -/
def State.ctNoon (s : State) : State :=
  let o (a : Nat) : Nat := (a - s.ctAt 0) % 128
  let keep (a : Nat) : Bool := !s.inCt a || o a < 0x10 || (0x2C ≤ o a && o a < 0x30)
  let insvc (c : Host.Cell) : Option Host.Cell :=
    if s.inCt c.1 && o c.1 = 0x0B then
      (if c.2 &&& 0xFE = 0 then none else some (c.1, c.2 &&& 0xFE))
    else some c
  { s with mem := (s.mem.filter (fun c => keep c.1)).filterMap insvc,
           synd := s.synd.filter (fun p => keep (4 * p.1)) }

/-- Step 8 (R547): the start completes. The strings' flags show what they hold (R120). -/
def State.startEnd (s : State) : State :=
  let s := s.set F.DEV_START_FAILS 0
  let s := s.set F.DEV_START_TIME (s.time.cyc / 1000000)
  let s := { s with dev := { s.dev with prevDone := true, step := 0, regList := [] } }
  let s := s.when (s.on F.DEV_START_KIND) (·.ctNoon)
  let s := (List.range Config.strings).foldl (fun t n => t.strFlags n) s
  s.goto .config 7

/-! ## Scrubbing -/

/-- Bytes of one bank of a class, and its number of rows (R361). -/
def bankBytes (m : Nat) : Nat :=
  match m with
  | 0 => 0x80000
  | 1 => 0x40000
  | 2 => 0x10000
  | 3 => 0x100000
  | _ => 0x40000

/-- The base of a class's memory. -/
def classBase (m : Nat) : Nat :=
  match m with
  | 0 => sramBase
  | 1 => dataBase 0
  | 2 => instrBase 0
  | 3 => vspBase
  | _ => logicBase

/-- The row of a bank in which an offset of class m lies: banks lie one after another
(notes/assumptions/28.md). -/
def rowOf (m a : Nat) : Nat :=
  let o := a - classBase m
  (if m = 2 then o % 0x40000 else o % bankBytes m) / 16

/-- The scrubber reads one word (R363, R366). -/
def State.scrubWord (s : State) (a : Nat) : State :=
  let cls := memCls a
  let x := sget s.synd 0 (a / 4)
  match synOf x with
  | .uncorrectable =>
    let s := { s with synd := sput s.synd 0 (a / 4) 0x7F }
    let s := s.when (cls = 2) (fun t => { t with dev := { t.dev with ue25 := true } })
    let (at', s) := s.faultAddr a
    let s := { s with memc := { s.memc with winUe := s.memc.winUe + 1 } }
    (s.inc (F.MEM_UE_COUNT cls)).faultLog 0x02 cls (some 0x37) x at' none
  | _ => (s.eccRd a 0x37).2.2

/-- One step of the scrubber of class m, 0 to 4 (R366). -/
def State.scrub (s : State) (m : Nat) : State :=
  if !s.on F.MEM_ECC_CTRL_SCRUB_EN then s
  else
    let row := sget s.memc.row 0 m
    let hits := (s.synd.map (fun p => 4 * p.1)).filter (fun a => memClass a = some m && rowOf m a = row)
    let s := hits.foldl State.scrubWord s
    let last := row + 1 ≥ bankBytes m / 16
    let s := { s with memc := { s.memc with row := sput s.memc.row 0 m (if last then 0 else row + 1) } }
    s.when last (·.inc (F.MEM_PASS_COUNT m))

/-- One step of the scrubber of class 5 (R25, R348, R366, R376). -/
def State.scrub5 (s : State) (hit : ScrubHit) : State :=
  let ue (s : State) : State :=
    let s := { s with dev := { s.dev with ue25 := true },
                      memc := { s.memc with winUe := s.memc.winUe + 1 } }
    (s.inc (F.MEM_UE_COUNT 5)).faultLog 0x02 (some 5) (some 0x37) none none none
  match hit with
  | .clean => s
  | .corrected => s.ceCount 5
  | .config => (ue s).fatal 4
  | .staging r idx => if (s.txn? r idx).isSome then (ue s).txnEcc r idx else s

/-- The event SCRUB_STEP. -/
def State.scrubStep (s : State) (m : Nat) (hit : ScrubHit) : State :=
  if s.dev.inReset then s else if m = 5 then s.scrub5 hit else s.scrub m

/-- MEM_CNT_CLR. -/
def State.memCntClr (s : State) : State :=
  s.zero ((List.range 6).flatMap (fun m =>
    [F.MEM_CE_COUNT m, F.MEM_UE_COUNT m] ++
      (if m < 5 then [F.MEM_PASS_COUNT m, F.MEM_POISON_RD_COUNT m] else [])))

end Sys2Proof.Machine
end

