-- ==== Sys2Proof/Machine/Bus.lean ====
section
/-! DEFINITION. Accesses to the BAR0 map (R6, R226, R321): a masked write of one aligned word by
any origin, with what each register does on a write beside its access codes; a read of one word;
and the values that a field's own rule refuses (R349, R554). -/

namespace Sys2Proof.Machine

open Sys2Proof

/-- A masked write of one word: BAR0 offset, bits written, data, the origin of access (R58), and
how it came (R352). -/
structure BusWr where
  a : Nat
  mask : Nat
  data : Nat
  org : Nat
  via : Via
  deriving DecidableEq, Repr

/-- What a write puts into a command field: its data in the bits written. -/
def BusWr.cmd (w : BusWr) : Nat := w.data &&& w.mask

/-- A word under the write, access codes aside. -/
def BusWr.merge (w : BusWr) (old : Nat) : Nat :=
  (old &&& ((w.mask % 2 ^ 32) ^^^ 0xFFFFFFFF)) ||| (w.data &&& w.mask % 2 ^ 32)

/-- The write with some bits taken out of its mask. -/
def BusWr.without (w : BusWr) (m : Nat) : BusWr :=
  { w with mask := w.mask &&& (m ^^^ 0xFFFFFFFF) }

/-- An index of a register array: first offset, stride, count. -/
def ix (a base stride n : Nat) : Option Nat :=
  if base ≤ a && (a - base) % stride = 0 && (a - base) / stride < n then some ((a - base) / stride)
  else none

/-- A write by the access codes alone (R6). -/
def State.plain (s : State) (w : BusWr) : State :=
  match regRow? w.a with
  | some r =>
    let f := rawFld w.a (orgOf w.a w.org) r
    s.set f (r.write (s.gst = .config) w.via w.mask w.data (s.word f))
  | none => s

/-- The requester in a fault record for an origin of access (R378): BAR0 access for the host, the
core, the logic engine, the control engine. -/
def reqOf (org : Nat) : Nat :=
  if org = 0 then 0x38 else if org ≤ 16 then org - 1 else if org = 17 then 0x34 else 0x32

/-! ## What writes do, block by block -/

/-- DEV. -/
def State.wrDev (s : State) (w : BusWr) : State :=
  if w.a = R.DEV_CMD.addr then s.devCmd (w.cmd % 16)
  else if w.a = R.DEV_RESET.addr then s.devReset (w.cmd % 65536) (bit w.cmd 16)
  else if w.a = R.DEV_OTP_CMD.addr then
    match w.cmd % 4 with
    | 1 => s.otpProgram (bits w.cmd 2 3)
    | 2 => s.otpRevoke (bits w.cmd 2 3)
    | _ => s.flag F.DEV_OTP_STAT_OTP_REJ
  else s.plain w

/-- TIME. -/
def State.wrTime (s : State) (w : BusWr) : State :=
  if w.a = R.TIME_CTRL.addr then
    let old := s.get F.TIME_CTRL_REFSEL
    let t := (s.plain w).when (bit w.cmd 0) (·.peStart)
    t.when (w.mask &&& 6 ≠ 0) (·.refSelect old)
  else if w.a = R.TIME_PERIOD.addr then (s.plain w).periodUpd
  else if w.a = R.TIME_SNAP.addr then s.when (bit w.cmd 0) (·.snap w.org)
  else if w.a = R.TIME_CNT_CLR.addr then s.when (bit w.cmd 0) (·.timeCntClr)
  else if w.a = R.TIME_TW_PUSH.addr then s.twPush w.org (w.cmd % 65536)
  else if w.a = R.TIME_TW_CANCEL.addr then s.twCancel w.org (w.cmd % 65536)
  else s.plain w

/-- A ring's registers. -/
def State.wrRing (s : State) (r : Nat) (w : BusWr) : State :=
  match (w.a - 0x21000) % 0x40 with
  | 0x00 => s.ringCfgWrite r w.mask w.data
  | 0x04 => s.when (s.rst r = .disabled) (·.plain w)
  | 0x08 => s.when (s.rst r = .disabled) (·.plain w)
  | 0x0C => (s.plain w).ringCounts r
  | _ => s.plain w

/-- HOST, with the IOMMU. -/
def State.wrHost (s : State) (w : BusWr) : State :=
  if w.a = R.HOST_ABI_SEL.addr then s.abiSel w.mask w.data
  else if w.a = R.HOST_CNT_CLR.addr then s.when (bit w.cmd 0) (·.hostCntClr)
  else if w.a = R.IOMMU_CTRL.addr then s.iommuCtrl w.mask w.data
  else if w.a = R.IOMMU_INV.addr then s.iommuInv (w.cmd % 4)
  else if w.a = R.IOMMU_CNT_CLR.addr then s.when (bit w.cmd 0) (·.iommuCntClr)
  else match ix w.a 0x22000 8 32 with
    | some r => s.doorbell r w.cmd
    | none => if 0x21000 ≤ w.a && w.a < 0x21800 then s.wrRing ((w.a - 0x21000) / 0x40) w else s.plain w

/-- SCHED. -/
def State.wrSched (s : State) (w : BusWr) : State :=
  if w.a = R.SCHED_CANCEL.addr then s.schedCancel (bits w.cmd 0 6) (bits w.cmd 16 16)
  else if w.a = R.SCHED_CNT_CLR.addr then s.when (bit w.cmd 0) (·.schedCntClr)
  else if w.a = R.SCHED_CQ_CI.addr then
    let t := s.plain w
    { t with sched := { t.sched with cqFull :=
                                     s.sched.cqFull && decide (t.get F.SCHED_CQ_CI_INDEX = s.get F.SCHED_CQ_CI_INDEX) } }
  else match ix w.a 0x30400 0x10 32 with
    | some q => (s.plain w).quotaUpd q
    | none => s.plain w

/-- CENG: a change of mode, and the marks of the gain tables for the next capture (R399). -/
def State.wrCeng (s : State) (w : BusWr) : State :=
  match ix w.a 0x4012C 0x40 32 with
  | some k => (s.plain w).modeChange k (s.slotMode k)
  | none =>
    let t := s.plain w
    if 0x44000 ≤ w.a && w.a < 0x48000 then
      let g := (w.a - 0x44000) / 64
      t.pr (fun p => { p with dirtyGt := if p.dirtyGt.contains g then p.dirtyGt else g :: p.dirtyGt })
    else t

/-- MOD. -/
def State.wrMod (s : State) (w : BusWr) : State :=
  if w.a = R.MOD_CNT_CLR.addr then s.when (bit w.cmd 0) (·.modCntClr)
  else if w.a = R.MOD_MCNT_CLR.addr then s.when (bit w.cmd 0) (·.modMcntClr)
  else match ix w.a 0x50304 0x20 6 with
    | some a => s.armCommit a (w.cmd % 65536)
    | none =>
      if 0x50400 ≤ w.a && w.a < 0x50700 then
        let t := (w.a - 0x50400) / 0x10
        let s := s.trimKeep t
        match (w.a - 0x50400) % 0x10 with
        | 0x0 => (s.plain w).trimEn t (s.on (F.MOD_TRIM_CTRL_EN t))
        | 0x4 => if w.mask % 65536 = 0 then s else s.trimPer t (w.merge (s.word (R.MOD_TRIM_PER t)) % 65536)
        | 0x8 => (s.plain w).when (w.mask % 2 ^ 20 ≠ 0) (·.trimWritten t (w.org = 18))
        | _ => (s.plain w).trimMin t
      else s.plain w

/-- TRIP: triggers of Vesper follow a latch (R479). -/
def State.wrTrip (s : State) (w : BusWr) : State :=
  if w.a = R.TRIP_CLR.addr then s.tripClr (w.cmd % 256)
  else if w.a = R.TRIP_SOFT.addr then s.withTrips (·.tripSoft (w.cmd % 256))
  else if w.a = R.TRIP_CNT_CLR.addr then s.when (bit w.cmd 0) (·.tripCntClr)
  else if w.a = R.TRIP_ARM.addr then
    let t := s.plain w
    t.armRunSet (t.get F.TRIP_ARM_ARM_RUN)
  else if w.a = R.TRIP_IN_MASK.addr || 0x60100 ≤ w.a then (s.plain w).withTrips (·.tripUpd 0)
  else s.plain w

/-- SAFE: the staged image shows whether it differs from the active one (R419). -/
def State.wrSafe (s : State) (w : BusWr) : State :=
  if w.a = R.SAFE_CMD.addr then s.safeCmd (w.cmd % 16)
  else if R.SAFE_CRC.addr ≤ w.a then (s.plain w).safeStaged
  else s.plain w

/-- LOGIC. A write of part of a word through the port reads it first (R364). -/
def State.wrLogic (s : State) (w : BusWr) : State :=
  if w.a = R.LOGIC_CMD.addr then s.logicCmd (w.cmd % 16)
  else if w.a = R.LOGIC_MEM_DATA.addr then
    if w.mask % 2 ^ 32 = 0xFFFFFFFF then s.lPortWrite w.org w.data
    else
      let (x, bad, s) := s.eccRd (logicBase + 4 * s.get (F.LOGIC_MEM_ADDR_WORD.of w.org)) (reqOf w.org)
      if bad then s else s.lPortWrite w.org (w.merge x)
  else match ix w.a 0x80800 8 256 with
    | some f => (s.plain w).when (bit w.cmd 31) (·.set (F.LOGIC_FRC_ADDR_DROPPED f) 0)
    | none => s.plain w

/-- VSP: a configuration write that R475 refuses sets CFG_WREJ. -/
def State.wrVsp (s : State) (w : BusWr) : State :=
  if w.a = R.VSP_CMD.addr then s.vspSoft (w.cmd % 65536)
  else if w.a = R.VSP_CNT_CLR.addr then s.when (bit w.cmd 0) (·.vspCntClr)
  else if s.vspGate w.a then s.flag F.VSP_FLAG_CFG_WREJ
  else match ix w.a 0x90218 0x40 16 with
    | some g => s.segCmd g (w.cmd % 8)
    | none => s.plain w

/-- One converter's registers: ILV is reserved on an odd one, and a change of MUX is timed
(R490). -/
def State.wrConv (s : State) (c : Nat) (w : BusWr) : State :=
  match (w.a - 0xA0100) % 0x40 with
  | 0x00 =>
    let t := s.plain (if c % 2 = 1 then w.without 0x80 else w)
    t.when (t.get (F.ADC_CFG_MUX c) ≠ s.get (F.ADC_CFG_MUX c)) (·.adcMux c)
  | 0x04 =>
    let t := s.when (bit w.mask 1) (·.adcRun c (bit w.data 1))
    t.when (bit w.cmd 0) (·.adcStart c)
  | o => if 0x10 ≤ o && o < 0x24 then s.adcFact c ((o - 0x10) / 4) w.mask w.data else s.plain w

/-- ADC. -/
def State.wrAdc (s : State) (w : BusWr) : State :=
  if w.a = R.ADC_CMD.addr then s.adcCmd (w.cmd % 16) (bits w.cmd 8 8)
  else if w.a = R.ADC_REF.addr then
    if s.gst = .config && w.mask % 4 ≠ 0 then s.adcRefSel (w.merge (s.word R.ADC_REF) % 4) else s
  else if 0xA0100 ≤ w.a && w.a < 0xA0300 then s.wrConv ((w.a - 0xA0100) / 0x40) w
  else s.plain w

/-- ETH: STAMP 1 leaves the field unchanged in 1000BASE-X; a change of MODE takes the link down
(notes/assumptions/71.md). -/
def State.wrEth (s : State) (w : BusWr) : State :=
  if w.a = R.ETH_FREQ.addr then s.ethFreq (w.merge (s.word R.ETH_FREQ))
  else if w.a = R.ETH_SLEW.addr then s.ethSlew (w.merge (s.word R.ETH_SLEW))
  else if w.a = R.ETH_SLEW_RATE.addr then s.ethSlewRate (w.merge (s.word R.ETH_SLEW_RATE))
  else if w.a = R.ETH_STEP_CMD.addr then s.when (bit w.cmd 0) (·.stepGo)
  else if w.a = R.ETH_CNT_CLR.addr then s.when (bit w.cmd 0) (·.ethCntClr)
  else match ix w.a 0xB0100 0x80 4 with
    | some p =>
      let t := s.plain w
      let t := t.when (t.get (F.ETH_PORT_CFG_MODE p) ≠ s.get (F.ETH_PORT_CFG_MODE p)) (·.ethLinkDown p)
      if t.get (F.ETH_PORT_CFG_MODE p) = 1 && t.on (F.ETH_PORT_CFG_STAMP p) then
        t.set (F.ETH_PORT_CFG_STAMP p) (s.get (F.ETH_PORT_CFG_STAMP p))
      else t
    | none => s.plain w

/-- CAN: EN and RECOVER act, the rest is stored. -/
def State.wrCan (s : State) (w : BusWr) : State :=
  if w.a = R.CAN_CORR_CMD.addr then s.when (bit w.cmd 0) (·.canCorr)
  else if w.a = R.CAN_CNT_CLR.addr then s.when (bit w.cmd 0) (·.canCntClr)
  else match ix w.a 0xC0100 0x400 2 with
    | some n =>
      let t := s.plain (w.without 0x41)
      let en := t.on (F.CAN_CTRL_EN n)
      let t := if bit w.mask 0 && bit w.data 0 && !en then t.canEnable n
        else if bit w.mask 0 && !bit w.data 0 && en then t.canDisable n else t
      t.when (bit w.cmd 6) (·.canRecover n)
    | none => s.plain w

/-- PAIR. -/
def State.wrPair (s : State) (w : BusWr) : State :=
  if w.a = R.PAIR_CMD.addr then
    (if w.cmd % 16 = 1 then s.handover else s.flag F.PAIR_FLAG_CMD_REJ)
  else if w.a = R.PAIR_CNT_CLR.addr then s.when (bit w.cmd 0) (·.pairCntClr)
  else s.plain w

/-- MEM. -/
def State.wrMem (s : State) (w : BusWr) : State :=
  if w.a = R.MEM_CNT_CLR.addr then s.when (bit w.cmd 0) (·.memCntClr) else s.plain w

/-- A lane. -/
def State.wrLane (s : State) (l : Nat) (w : BusWr) : State :=
  match (w.a - 0x100000) % 0x1000 with
  | 0x08 => ((s.laneCfgWrite l w.mask w.data).testIgn l).linkUpd
  | 0x0C => ((s.plain (w.without 1)).testIgn l).when (bit w.cmd 0) (·.laneTrain l)
  | 0x10 => s.txeqWrite l w.mask w.data
  | 0x14 => (s.plain w).ctleHold l
  | 0x30 => s.when (bit w.cmd 0) (·.laneCntClr l)
  | 0x40 =>
    let old := s.word (R.LANE_PRBS_CTRL l)
    (((s.plain w).testIgn l).genStart l old).when (bit w.cmd 8) (·.prbsClr l)
  | _ => s.plain w

/-- A string: STR_CFG.ARM 6 leaves the field unchanged; the requests of the arm's trips and of SVB are
those of the arm that it names (R210, R416). -/
def State.wrStr (s : State) (n : Nat) (w : BusWr) : State :=
  match (w.a - 0x200000) % 0x2000 with
  | 0x08 =>
    let t := s.plain w
    let t := if s.strArm n ≠ 6 && t.strArm n = 6 then t.set (F.STR_CFG_ARM n) (s.strArm n) else t
    ((t.strFlags n).blkTrips).svbLines
  | 0x0C => ((s.plain (w.without 3)).when (bit w.cmd 0) (·.enumWrite n)).when (bit w.cmd 1)
      (·.reenumWrite n)
  | 0x5C => s.when (bit w.cmd 0) (·.strCntClr n)
  | _ => (s.plain w).strFlags n

/-- A write of a word of memory in BAR0: shared SRAM and data memories take it; instruction
memories in CONFIG and from the host (R227, R260); Vesper memory takes none (R476); holes and
empty offsets discard it (R321). -/
def State.wrMemory (s : State) (w : BusWr) : State :=
  let put : State := s.memWr w.a (w.mask % 2 ^ 32) (w.data % 2 ^ 32) (reqOf w.org)
  match memClass w.a with
  | some 0 | some 1 => put
  | some 2 => if s.gst = .config && w.org = 0 then put else s
  | _ => s

/-- One write, by the block that holds the offset. -/
def State.busW1 (s : State) (w : BusWr) : State :=
  if w.a ≥ 0x1000000 then s.wrMemory w
  else if w.a ≥ 0x200000 then
    (if (w.a - 0x200000) / 0x2000 < Config.strings then s.wrStr ((w.a - 0x200000) / 0x2000) w else s)
  else if w.a ≥ 0x100000 then
    (if (w.a - 0x100000) / 0x1000 < Config.lanes then s.wrLane ((w.a - 0x100000) / 0x1000) w else s)
  else match w.a / 0x10000 with
    | 0 => s.wrDev w
    | 1 => s.wrTime w
    | 2 => s.wrHost w
    | 3 => s.wrSched w
    | 4 => s.wrCeng w
    | 5 => s.wrMod w
    | 6 => s.wrTrip w
    | 7 => s.wrSafe w
    | 8 => s.wrLogic w
    | 9 => s.wrVsp w
    | 10 => s.wrAdc w
    | 11 => s.wrEth w
    | 12 => s.wrCan w
    | 13 => s.wrPair w
    | 14 => s.wrMem w
    | _ => s

/-! ## Timed writes that fire -/

/-- An entry's write (R60). -/
def TwEntry.wr (e : TwEntry) : BusWr :=
  { a := e.addr, mask := e.mask, data := e.data, org := e.org, via := .direct }

/-- The entries at the head of the queue whose targets lie in the past fire in target order; of
one target one per time-base cycle (R61, R64). -/
def State.twPast : Nat → State → State
  | 0, s => s
  | n + 1, s =>
    match s.time.tw with
    | e :: r =>
      if s.twOpen && decide (s.twAt e < s.now) && !s.twWaits e then
        State.twPast n ({ s with time := { s.time with tw := r } }.twWrite e (·.busW1 e.wr))
      else s
    | [] => s

/-- A step has moved the label of the present from `old`: the entries that a forward step has
carried station time past fire (R64). -/
def State.stepFire (s : State) (old : Int) : State :=
  let hit (e : TwEntry) : Bool := s.twOpen && decide (old ≤ s.twAt e) && decide (s.twAt e < s.now)
  if s.time.tw.any hit then
    State.twPast 257 { s with time := { s.time with
      tw := s.time.tw.map (fun e => if hit e then { e with passed := true } else e) } }
  else s

/-- One write as any origin makes it. A step of station time that it applies at once lets the
entries fire that the step has passed (R63, R64); an entry of the present tick has not been
passed. -/
def State.busW (s : State) (w : BusWr) : State :=
  let t := s.busW1 w
  if w.a = R.ETH_STEP_CMD.addr && t.now > s.now then t.stepFire ((s.now : Int) + 1) else t

/-- A host write of a whole word at an offset (REGISTER_WRITE and the rows that name one
register). A part in RESET answers none. -/
def State.hostW (s : State) (a data : Nat) : State :=
  if s.dev.inReset || a % 4 ≠ 0 then s
  else s.busW { a := a, mask := 0xFFFFFFFF, data := data % 2 ^ 32, org := 0, via := .direct }

/-! ## Values that a field refuses -/

/-- Offsets that WRR may write (R452): below 0x0200_0000, outside DEV, HOST, SAFE, PAIR, MEM and
LOGIC. -/
def wrrOk (a : Nat) : Bool :=
  a % 4 = 0 && a < 0x2000000 &&
    (a ≥ 0x100000 || !(([0, 2, 7, 8, 13, 14] : List Nat).contains (a / 0x10000)))

/-- Offsets that RDR may read (R452). -/
def rdrOk (a : Nat) : Bool :=
  a % 4 = 0 && a < 0x3000000 && !(0x2400000 ≤ a && a < 0x2800000)

/-- A command register takes an undefined code. -/
def cmdBad (w : BusWr) : Bool :=
  (w.a = R.LOGIC_CMD.addr && (w.cmd % 16 = 0 || w.cmd % 16 > 6)) ||
    (w.a = R.ADC_CMD.addr && (w.cmd % 16 = 0 || w.cmd % 16 > 3)) ||
    (w.a = R.PAIR_CMD.addr && w.cmd % 16 ≠ 1) ||
    ((ix w.a 0x90218 0x40 16).isSome && (w.cmd % 8 = 0 || w.cmd % 8 > 4))

/-- The rules of single fields beside the ranges of the tables (STR_CFG.ARM, R188, R79, R499,
ADC_CFG, ETH_PORT_CFG, R475, R459, R530). -/
def State.ruleBad (s : State) (w : BusWr) : Bool :=
  let new := w.merge (s.raw w.a)
  if w.a ≥ 0x200000 then w.a % 0x2000 = 8 && bit w.mask 0 && bits new 0 3 = 6
  else if w.a ≥ 0x100000 then
    w.a % 0x1000 = 0x10 && (bits new 4 5 > 16 || bits new 9 5 > 24 || bits new 4 5 + bits new 9 5 > 32)
  else match w.a / 0x10000 with
    | 5 => 0x50400 ≤ w.a && w.a < 0x50700 && w.a % 16 = 4 && new % 65536 < s.P
    | 8 => match ix w.a 0x81804 0x10 128 with
      | some i =>
        (match s.get (F.LOGIC_OMAP_CFG_TYPE i) with
          | 1 => new ≥ 2 ^ 26 || !wrrOk new
          | 4 => bit new 31
          | _ => false)
      | none => false
    | 9 => s.vspGate w.a
    | 10 =>
      if 0xA0100 ≤ w.a && w.a < 0xA0300 then
        let c := (w.a - 0xA0100) / 0x40
        let o := (w.a - 0xA0100) % 0x40
        (o = 0 && c % 2 = 1 && bit w.cmd 7) || (o = 4 && bit w.cmd 1 && s.inGroup c) ||
          (0x10 ≤ o && o < 0x24 && (!s.on (F.ADC_CFG_CLASS c) || s.on (F.ADC_STAT_CAL_BUSY c)))
      else false
    | 11 => (ix w.a 0xB0100 0x80 4).isSome && new % 4 = 1 && bit new 3
    | 12 => match ix w.a 0xC0100 0x400 2 with
      | some n => bit w.cmd 0 && !s.on (F.CAN_CTRL_EN n) && s.canEnCode n ≠ 0
      | none => false
    | _ => false

/-- The flags that show that a register's own rule refuses or ignores a write, by offset (R121, R215,
R410, R448, R463, R468, R481, R491, R497, R518, R519). -/
def rejFlags (a : Nat) : List Fld :=
  if a = R.LOGIC_CMD.addr then [F.LOGIC_FLAG_CMD_REJ]
  else if a = R.LOGIC_MEM_DATA.addr then [F.LOGIC_FLAG_MEM_WDISC]
  else if a = R.TRIP_CLR.addr then [F.TRIP_FLAG_TRIP_CLR_REJ]
  else if a = R.ETH_FREQ.addr || a = R.ETH_SLEW.addr then [F.PAIR_FLAG_ADJ_IGN]
  else if a = R.ETH_STEP_CMD.addr then [F.PAIR_FLAG_ADJ_IGN, F.ETH_TIME_STAT_STEP_REJ]
  else if a = R.PAIR_CMD.addr then [F.PAIR_FLAG_CMD_REJ]
  else if a = R.ADC_CMD.addr then [F.ADC_FLAG_CMD_REJ]
  else match ix a 0x90218 0x40 16, ix a 0xA0104 0x40 8, ix a 0x20000C 0x2000 Config.strings with
    | some g, _, _ => [F.VSP_SEG_STAT_ARM_REJ g]
    | _, some c, _ => [F.ADC_STAT_START_IGN c]
    | _, _, some n => [F.STR_STAT_CMD_IGN n]
    | _, _, _ => []

/-- The write, made now, would be refused or ignored by the register's own rule. -/
def State.refuses (s : State) (w : BusWr) : Bool :=
  let fs := rejFlags w.a
  !fs.isEmpty && fs.any (((fs.foldl (fun t f => t.set f 0) s).busW1 w).on ·)

/-- A written field's own rule would refuse the value or leave the field unchanged (reason 0x07
of R349; R554). -/
def State.valueBad (s : State) (w : BusWr) : Bool :=
  (match regRow? w.a with
    | some r =>
      let old := s.raw w.a
      let new := w.merge old
      r.fields.any (fun f => f.acc ≠ .RO && decide (bits w.mask f.lo f.w ≠ 0) &&
        (decide (bits new f.lo f.w < f.min) || decide (f.max < bits new f.lo f.w)))
    | none => false) || cmdBad w || s.ruleBad w || s.refuses w

/-- Bits of a register that an entry may cover: neither RO nor reserved (reason 0x06). -/
def writableMask (a : Nat) : Nat :=
  match regRow? a with
  | some r => r.maskAll &&& (r.maskOf .RO ^^^ 0xFFFFFFFF)
  | none => 0

/-- The mask covers an RWL bit (reason 0x08), or an RWT bit (R554). -/
def BusWr.covers (w : BusWr) (c : Acc) : Bool :=
  match regRow? w.a with
  | some r => decide (r.maskOf c &&& w.mask ≠ 0)
  | none => false

/-- An address that reason 0x05 refuses (R349). -/
def txnBadAddr (a : Nat) : Bool :=
  a % 4 ≠ 0 || twBadAddr a || (a / 0x10000 = 2 && (ix a 0x2100C 0x40 32).isNone)

/-! ## Reads -/

/-- A register as it reads: what it stores, with the fields that are counted live, and what the
read itself does. -/
def State.regRead (s : State) (a org : Nat) : Nat × Bool × State :=
  let v : Nat := match regRow? a with
    | some r => s.word (rawFld a (orgOf a org) r)
    | none => 0
  if a = R.TIME_TW_STAT.addr then (setBits v 0 9 s.time.tw.length, false, s)
  else if a = R.PAIR_HO_STAT.addr then (setBits v 16 16 s.holdLeft, false, s)
  else if a = R.ETH_PPSIN_SEC.addr then (v, false, s.ppsRead)
  else if a = R.LOGIC_MEM_DATA.addr then s.lPortRead org
  else match ix a 0x50700 4 48 with
    | some t =>
      let x := s.trim t
      (setBits (setBits (setBits v 0 16 x.count) 16 4 x.cyc) 20 1 (b2n (s.trimOut t)), false, s)
    | none => match ix a 0xB0110 0x80 4 with
      | some p =>
        let (h, s) := s.tsqRead p
        (h, false, s)
      | none => match ix a 0x100048 0x1000 48 with
        | some l => (v, false, s.prbsLatch l)
        | none => match ix a 0xE0400 4 64 with
          | some e => (v, false, { s with memc := { s.memc with
                                                    unread := s.memc.unread.filter (fun x => x ≠ e / 4) } })
          | none => (v, false, s)

/-- A read of one aligned word of the BAR0 map: the word, whether it is bad (R363), and the
state. Empty offsets read 0 (R321). -/
def State.busR (s : State) (a org req : Nat) : Nat × Bool × State :=
  if a < 0x1000000 then s.regRead a org
  else match memClass a with
    | some 4 => (0, false, s)
    | some _ => s.eccRdF a req
    | none => (0, false, s)

end Sys2Proof.Machine
end

