-- ==== Sys2Proof/Machine/Apply.lean ====
section
/-! DEFINITION. What happens at an apply instant, in the order of R42: GO_RUN, configuration
transactions (R349 to R353), control-engine latches (R46, R308), timed writes (R60, R64), the
publication of the period index and the pair's acts at the instant; a timed write inside a
period; the validation of a transaction; TSYNC (R396); the steps of a start (R547). -/

namespace Sys2Proof.Machine

open Sys2Proof

/-! ## Configuration transactions -/

/-- Entry i of a staged list as a write. -/
def txnWr (e : Nat × Nat × Nat × Nat) : BusWr :=
  { a := e.1, mask := e.2.1, data := e.2.2.1, org := 0, via := .txn }

/-- RESULT of a refused transaction: reason, entry, detail (R349). -/
def txnResult (reason entry detail : Nat) : Nat := reason + 256 * entry + 65536 * detail

/-- Checks 0x0B and 0x05 to 0x07 of one entry, after the entries before it: the reason, 0 for
none. -/
def State.entryBad (s : State) (e : Nat × Nat × Nat × Nat) : Nat :=
  let w := txnWr e
  if e.2.2.2 ≠ 0 then 0x0B
  else if txnBadAddr w.a then 5
  else if w.mask = 0 || w.mask &&& (writableMask w.a ^^^ 0xFFFFFFFF) ≠ 0 then 6
  else if s.valueBad w then 7
  else 0

/-- The first entry that fails, with its reason. Each entry is judged against the words that the
entries before it leave. -/
def State.entriesBad (s : State) : Nat → List (Nat × Nat × Nat × Nat) → Option (Nat × Nat)
  | _, [] => none
  | i, e :: r =>
    let c := s.entryBad e
    if c ≠ 0 then some (c, i) else State.entriesBad (s.plain (txnWr e)) (i + 1) r

/-- Check 0x08: the first entry that covers an RWL bit outside CONFIG. -/
def State.txnLocked (s : State) (t : Txn) : Option Nat :=
  if s.gst = .config then none
  else t.entries.findIdx? (fun e => (txnWr e).covers .RWL)

/-- The entries of a transaction that write TRIP_ARM, with their indices. -/
def Txn.armEntries (t : Txn) : List (Nat × BusWr) :=
  ((List.range t.entries.length).zip (t.entries.map txnWr)).filter
    (fun p => decide (p.2.a = R.TRIP_ARM.addr))

/-- The last entry of a transaction that covers the bit of arm a. -/
def Txn.armEntry (t : Txn) (a : Nat) : Nat :=
  t.armEntries.foldl (fun i p => if bit p.2.mask a then p.1 else i) 0

/-- Check 0x09: the arm that fails R218 with its cause, and the last entry that covers its
bit. -/
def State.txnDeblock (s : State) (t : Txn) : Option (Nat × Nat × Nat) :=
  let old := s.word R.TRIP_ARM % 64
  let new := (t.armEntries.foldl (fun v p => p.2.merge v) old) % 64
  (s.deblockFail (new &&& (old ^^^ 63))).map (fun q => (q.1, q.2, t.armEntry q.1))

/-- A transaction applied whole, or refused by checks 0x08 and 0x09 (R218, R349, R352); the flag says
that it has written. A DEBLOCK completes once its time-base cycle has passed without a latch. -/
def State.txnApply (s : State) (t : Txn) : Bool × State :=
  match s.txnLocked t with
  | some i => (false, s.txnEnd t 1 (txnResult 8 i 0))
  | none =>
    match s.txnDeblock t with
    | some (arm, cause, i) =>
      let s := (s.set F.TRIP_DBCHK_ARM arm).set F.TRIP_DBCHK_CAUSE cause
      (false, s.txnEnd t 1 (txnResult 9 i (16 * cause + arm)))
    | none =>
      let u := t.entries.foldl (fun st e => st.busW (txnWr e)) s
      let rise := u.get F.TRIP_ARM_ARM_RUN &&& (s.get F.TRIP_ARM_ARM_RUN ^^^ 0x3F)
      if rise = 0 || t.armEntries.isEmpty then (true, u.txnEnd t 0 0)
      else
        let d : DbWait := { cyc := s.elapsed, txn := t, rise := rise,
                            entry := (List.range Config.arms).map t.armEntry,
                            regs := regDiff s.regs u.regs }
        (true, { u with trip := { u.trip with db := some d } })

/-- The event TRANSACT_VALIDATED: the checks after 0x02 (R349), and what follows a pass: at once
in CONFIG with the period engine stopped, else at its instant (R350, R353). -/
def State.txnValidated (s : State) (r idx : Nat) : State :=
  match s.txnOf r idx (fun t => t.staged && !t.valid) with
  | none => s
  | some t =>
    let c := s.txnWhen t
    if c ≠ 0 then s.txnEnd t 1 (txnResult c 0 0)
    else match s.entriesBad 0 t.entries with
      | some (c, i) => s.txnEnd t 1 (txnResult c i 0)
      | none =>
        if !t.imm then s.updTxn t.ring idx (fun x => { x with valid := true })
        else if s.gst = .config && !s.peRun then (s.txnApply t).2
        else
          let first := s.time.pidx + (if s.time.pofs = 0 then 1 else 2)
          let p := s.txnFree t 17 (first % 2 ^ 32)
          s.updTxn t.ring idx (fun x => { x with valid := true, apply := some p })

/-- Step 2 of R42: the transactions named for this instant; the words written with their
masks. -/
def State.txnsApply (s : State) : List (Nat × Nat) × State :=
  let due := s.host.txns.filter (fun t => t.valid && t.apply = some (s.time.pidx % 2 ^ 32))
  due.foldl (fun p t =>
    let (ok, s) := p.2.txnApply t
    (if ok then p.1 ++ t.entries.map (fun e => (e.1, e.2.1)) else p.1, s)) ([], s)

/-! ## Control-engine latches -/

/-- Step 3 of R42: the latches of the groups that act now move, trim duties aside (R46, R308).
The engine is an origin of its own. -/
def State.latchesMove (s : State) : List (Nat × Nat) × State :=
  if !s.cengOn then ([], s)
  else (List.range 32).foldl (fun p k =>
    let s := p.2
    let g := s.get (F.CENG_SLOT_CFG_GROUP k)
    let dst := s.slotDst k
    if s.slotIn g k && s.lgActs g && dst ≠ 1 then
      let (v, s) := s.slotMove k
      let a := s.get (F.CENG_DST_WORD k) * 4
      match v with
      | none => (p.1, s)
      | some v =>
        if dst = 2 then (p.1, s.memWr (sramBase + a) 0xFFFFFFFF v 0x32)
        else if dst = 3 then
          let m := s.get (R.CENG_DMASK k)
          (p.1 ++ [(a, m)], s.busW1 { a := a, mask := m, data := v, org := 18, via := .direct })
        else (p.1, s)
    else (p.1, s)) ([], s)

/-! ## Timed writes at the instant -/

/-- Two writes cover a bit of one register field (R42). -/
def fieldMeet (x y : Nat × Nat) : Bool :=
  x.1 = y.1 &&
  (match regRow? x.1 with
    | some r => r.fields.any (fun f =>
        decide (bits x.2 f.lo f.w ≠ 0) && decide (bits y.2 f.lo f.w ≠ 0))
    | none => false)

/-- OVERLAP where a later step writes a field that an earlier one wrote (R42). -/
def State.overlapMark (s : State) (before after : List (Nat × Nat)) : State :=
  if before.any (fun x => after.any (fieldMeet x)) then s.late F.TIME_LATE_OVERLAP 1 else s

/-- OVERLAP where an entry writes a field that step 2 or 3 of its instant wrote (R42). -/
def State.twOverlap (s : State) (e : TwEntry) : State :=
  s.when (decide (s.twAt e = s.time.instW.1)) (·.overlapMark s.time.instW.2 [(e.addr, e.mask)])

/-- An entry that has left the queue fires in step 4 of R42. -/
def State.twStep4 (s : State) (e : TwEntry) : State :=
  (s.twOverlap e).twWrite e (·.busW1 e.wr)

/-- Step 4 of R42: the first entry whose target is this instant; the others of that target follow
one per time-base cycle (R61). An entry left over from before the label moved from `old` fires
here too (notes/assumptions/49.md). -/
def State.twAtInstant (s : State) (old : Int) : State :=
  let now := (s.now : Int)
  let past := s.time.tw.filter (fun e => s.twOpen && decide (s.twAt e < min old now))
  let rest := s.time.tw.filter (fun e => !(s.twOpen && decide (s.twAt e < min old now)))
  let s := { s with time := { s.time with tw := rest } }
  let s := past.foldl (fun t e => t.twWrite e (·.busW1 e.wr)) s
  match s.time.tw.find? (fun e => s.twOpen && decide (s.twAt e = now)) with
  | some e => { s with time := { s.time with tw := s.time.tw.erase e } }.twStep4 e
  | none => s

/-- The event TIMED_WRITE_FIRE: the first entry of the queue reaches its target inside the present
period (R60), or the time-base cycle after an entry of the same target (R61). -/
def State.twFire (s : State) : State :=
  match s.time.tw with
  | [] => s
  | e :: r =>
    let t := s.twAt e
    let before : Bool := match s.toApply with
      | some k => decide (t < (s.now + k : Nat))
      | none => true
    if s.twOpen && before then
      let s := s.advTo t.toNat
      let s := s.when (s.twWaits e) (fun u => u.pass (u.room 1))
      if s.twWaits e then s
      else ({ s with time := { s.time with tw := r } }.twOverlap e).twWrite e (·.busW e.wr)
    else s

/-! ## The instant -/

/-- The new period: its index, at the partner's instant the partner's (R396), its length, and the
label of its instant, which a step that waits moves (R36, R37, R39, R63). -/
def State.periodOpen (s : State) : State :=
  let own := if s.peRun then s.time.pidx + 1 else 0
  let (n, align) := match s.time.align with
    | some (0, n) => (n, none)
    | a => (own, a)
  let s := s.flag F.TIME_STATUS_PE_RUN
  let s := { s with time := { s.time with pidx := n, pofs := 0, align := align, acted := [],
                                          per := s.get F.TIME_PERIOD_STEPS * 10 } }
  match s.time.step with
  | some d => s.stepNow d
  | none => s

/-- Step 1 of R42: a pending GO_RUN for this instant (R30, R212). -/
def State.runDue (s : State) : State :=
  if s.on F.DEV_STATE_RUN_PEND && s.dev.runAt = s.time.pidx % 2 ^ 32 then
    ((s.set F.DEV_STATE_RUN_PEND 0).goto .run 1).armRunClr 0x3F
  else s

/-- What the pair does at the instant before latches move: a capture is applied, and a claimant
takes ACT (R387, R400, R406). -/
def State.pairBefore (s : State) : State := (s.captureInstant).takeover

/-- The frames of an apply instant on mirror lane 0, in the order of R393: TSYNC in READY and RUN
(R395), HEALTH, and SREP from a device that reflects (R392). -/
def State.pairFrames (s : State) : State :=
  let s := s.when s.live (·.tsyncSend)
  let s := s.healthSend
  s.when (s.role = .nightwatch || s.role = .claiming || s.role = .leaving) (·.srepSend)

/-- What the pair does at the instant once latches have moved: readiness (R386, R402), the frames
of the link, handovers and captures, which take the state as it stands after step 3 of R42
(R399, R412), relay (R145). -/
def State.pairInstant (s : State) : State :=
  let s := (s.inc F.PAIR_CKPT_STAT_AGE).pr (fun p => { p with age := min (p.age + 1) 65535 })
  let s := (s.wireCheck).readiness
  let s := s.when s.linkUp (·.pairFrames)
  (((s.sendRun).handoverInstant).captureDue).relayStart

/-- The apply instant (R42). Time moves on to it; the cells' own instants are events of the
cells (CELL_APPLY_INSTANT), and group instants at offset 0 follow as events of their own. -/
def State.applyInstant (s : State) : State :=
  match s.toApply with
  | none => s
  | some k =>
    if s.dev.inReset then s
    else
      let s := s.pass k
      let old := (s.now : Int)
      let s := (s.periodOpen).runDue
      let s := s.when (!s.dev.lastBow.isEmpty) (fun t => { t with dev := { t.dev with lastBow := [] } })
      let (w2, s) := s.txnsApply
      let s := s.pairBefore
      let (w3, s) := s.latchesMove
      let s := (s.overlapMark w2 w3).pairInstant
      let s := { s with time := { s.time with instW := ((s.now : Int), w2 ++ w3) } }
      let s := (s.twAtInstant old).stepFire old
      (s.trimsStart).slotsDue

/-! ## TSYNC -/

/-- A TSYNC arrives (R395, R396): measured, and followed by a device without ACT, in a step where
it must. -/
def State.tsync (s : State) (l : Nat) (f : Bytes) (ago : Nat) : State :=
  if s.mirTakes l 0x22 f then
    let (th, s) := s.tsyncMeasure f ago
    match th with
    | some th =>
      if s.mustStep th then (s.tsyncFollow f th).pr (fun p => { p with stepped := true }) else s
    | none => s
  else s

/-! ## The steps of a start -/

/-- Step 6: the register list is applied in order by direct writes in CONFIG; an entry fails the
start as R554 gives. -/
def State.regListApply (s : State) : List (Nat × Nat × Nat) → Option State
  | [] => some s
  | (a, m, d) :: r =>
    let w : BusWr := { a := a, mask := m, data := d, org := 0, via := .direct }
    let g := s.get F.DEV_STATE_STATE
    let u := s.set F.DEV_STATE_STATE GState.config.code
    if txnBadAddr a || w.covers .RWT || u.valueBad w then none
    else State.regListApply ((u.busW w).set F.DEV_STATE_STATE g) r

/-- A step of the start completes and the next begins (R547, R548, R559). `ok` says in step 1
that the self-test passes and in step 3 that the boot flash answers. -/
def State.startStep (s : State) (ok : Bool) (hm : HostMem) : State :=
  if s.dev.inReset || s.gst ≠ .boot then s
  else
    let noon := s.on F.DEV_START_KIND
    let go (t : State) (k : Nat) : State := { t with dev := { t.dev with step := k } }
    match s.dev.step with
    | 1 => if !noon && !ok then s.startFail 1 else go s 2
    | 2 => go (s.startClear noon) 3
    | 3 => if !ok then s.startFail 2 else s.startImage noon
    | 4 => go s 5
    | 5 => go (s.startAdc noon) 6
    | 6 => match s.regListApply s.dev.regList with
      | some t => go t 7
      | none => s.startFail 4
    | 7 => go (s.resetWalk hm) 8
    | 8 => s.startEnd
    | _ => s

end Sys2Proof.Machine
end

