-- ==== Sys2Proof/Machine/LogicIo.lean ====
section
/-! DEFINITION. The station logic engine toward the rest of the part: the cycle start with its
system area, freeze, publish and shared image (R447, R456 to R460, R462 to R464), and the
instructions RDR, WRR and SUBM (R452). -/

namespace Sys2Proof.Machine

open Sys2Proof

/-- The engine's origin of access (R58, R452). -/
def logicOrg : Nat := 17

/-- A refused access (R452). -/
def State.lAccRej (s : State) : State := (s.flag F.LOGIC_FLAG_ACC_REJ).inc R.LOGIC_CNT_ACCREJ

/-- A BAR0 word by the RDR rule (R452): 0 when refused or bad. -/
def State.lBar0 (s : State) (a : Nat) : Nat × State :=
  if !rdrOk a then (0, s.lAccRej)
  else
    let (d, bad, s) := s.busR a logicOrg 0x34
    if bad then (0, s.flag F.LOGIC_FLAG_RD_ERR)
    else (d, s)

/-- A write by the WRR rule (R452, R468). -/
def State.lWrr (s : State) (a mask v : Nat) : State :=
  if wrrOk a then s.busW { a := a, mask := mask, data := v, org := logicOrg, via := .direct }
  else s.lAccRej.when (a = R.LOGIC_CMD.addr) (·.flag F.LOGIC_FLAG_CMD_REJ)

/-! ## Cycle start -/

/-- The present period opens a cycle that has not been taken yet (R456). -/
def State.lBoundary (s : State) : Bool :=
  let m := s.get F.LOGIC_CFG_MULT
  let ph := s.get F.LOGIC_PHASE_PHASE
  s.peRun && s.live && s.holder && m ≠ 0 && ph ≤ s.time.pidx && (s.time.pidx - ph) % m = 0 &&
    s.logic.taken ≠ s.time.pidx + 1

/-- The cycle index of the present boundary (R456). -/
def State.lIndex (s : State) : Nat :=
  (s.time.pidx - s.get F.LOGIC_PHASE_PHASE) / s.get F.LOGIC_CFG_MULT % 2 ^ 32

/-- The system area of a cycle start (R447). -/
def State.lSystem (s : State) (k : Nat) : State :=
  let l := s.logic
  let sys := 1 + l.events + 128 * b2n (l.skips ≠ 0) + 256 * b2n (s.gst = .run) +
    512 * b2n (s.role = .alone)
  let ws := [k, s.time.pidx % 2 ^ 32, s.tcNs / 10, s.lProgId s.lActive, l.prev] ++
    List.replicate 11 0 ++ [sys]
  (s.wrWords (logicBase + 0xB400) ws).lg (fun l => { l with events := 0, skips := 0 })

/-- Bits of 32 cells from cell c whose health state is one of some codes (R458). -/
def State.lCells (s : State) (c : Nat) (codes : List Nat) : Nat × State :=
  let cs := ((List.range 32).map (c + ·)).filter (· < 4096)
  let s := s.eccTouch (cs.map (fun x => s.ctAt x + 0x34)) 0x34
  (ofBits 32 (fun j => decide (c + j < 4096) && codes.contains (bits (s.ct (c + j) 0x34) 0 3)), s)

/-- What one input word takes at the freeze (R458). -/
def State.lInput (s : State) (w : Nat) : Nat × State :=
  let arg := s.word (R.LOGIC_IMAP_ARG w)
  match s.get (F.LOGIC_IMAP_CFG_TYPE w) with
  | 1 => s.lBar0 (bits arg 2 24 * 4)
  | 2 => s.lCells (bits arg 0 12) [2]
  | 3 => s.lCells (bits arg 0 12) [4, 3, 5]
  | 4 => (fieldLE (s.canMail (bits arg 0 1) (bits arg 1 5)) (4 * bits arg 6 1) 4, s)
  | _ => (0, s)

/-- The freeze: every input word in ascending order, then the forces (R457, R458, R469). -/
def State.lFreeze (s : State) : State :=
  ((List.range 128).foldl (fun t w =>
    let (v, t) := t.lInput w
    t.lPut (4 * w) v) s).forceApply

/-- One output word goes out as its map entry says (R459); `next` is the word after it. -/
def State.lOutput (s : State) (w v next : Nat) : State :=
  let arg := s.word (R.LOGIC_OMAP_ARG w)
  match s.get (F.LOGIC_OMAP_CFG_TYPE w) with
  | 1 => s.lWrr (bits arg 2 24 * 4) (s.word (R.LOGIC_OMAP_MASK w)) v
  | 4 => s.canPublish arg (toLE 4 v ++ toLE 4 next)
  | _ => s

/-- The publish of an image of %Q (R457, R459, R464). -/
def State.lPublish (s : State) (q : Nat) : State :=
  let s := s.lg (fun l => { l with qPub := q })
  let word (w : Nat) : Nat := if w < 128 then bits q (32 * w) 32 else 0
  (List.range 128).foldl (fun t w => t.lOutput w (word w) (word (w + 1))) s

/-- The shared image (R460). -/
def State.lShare (s : State) (k : Nat) : State :=
  if s.on F.LOGIC_SHR_BASE_EN then
    let b := sramBase + s.get F.LOGIC_SHR_BASE_BASE * 64
    let s := s.wrB b (s.rdB logicBase 512 ++ toLE 512 s.logic.qPub)
    (s.wrWords (b + 1028) [0, 0, 0]).wr32 (b + 1024) k
  else s

/-- A cycle starts (R457): SYNC, system area, freeze, publish, shared image, first
instruction. A bad word of the engine's memory halts it (R453). -/
def State.lBegin (s : State) : State :=
  let k := s.lIndex
  let s := (s.canSync 0).canSync 1
  let s := ((s.forceJudge).forceTake).lSystem k
  let s := s.lFreeze
  let (bad, s) := s.lScan (logicBase + 0x200) 512
  if bad || s.lgst ≠ .run then s
  else
    let s := (s.lPublish s.lQ).lShare k
    (s.inc R.LOGIC_CNT_CYC).lg (fun l => { l with
                                           la := false, acc := 0, stack := [], pc := 0, inCycle := true, k := k, clocks := 0, zeroPub := false })

/-- A scheduled start that finds the cycle before it running (R462). -/
def State.lSkip (s : State) : State :=
  let s := (s.flag F.LOGIC_FLAG_OVR).inc R.LOGIC_CNT_OVR
  let s := s.lg (fun l => { l with skips := l.skips + 1 })
  s.when (decide (s.logic.skips ≥ 3)) (·.lHalt 3)

/-- HOLD is left after a claim (R463, R464): RUN with the capture's data, or a warm restart where
the capture's program differs; STOP where the capture's engine did not run. -/
def State.lResume (s : State) : State :=
  let (bad, s) := s.lScan (logicBase + 0xB400) 72
  if bad then s
  else if s.rd32 (logicBase + 0xB444) = LogState.run.code then
    let same := decide (s.rd32 (logicBase + 0xB40C) = s.lProgId s.lActive)
    let s := if same then s.lg (fun l => { l with events := l.events ||| (4 + 32), skips := 0, prev := 0 })
      else (s.lRestart false).flag F.LOGIC_FLAG_TAKE_PMIS
    (s.setLgst .run).lBegin
  else s.setLgst .stop

/-- The event LOGIC_CYCLE_START (R456, R457, R462 to R464), 8 ns after the boundary at the
soonest. -/
def State.cycleStart (s : State) : State :=
  if s.lBoundary then
    let s := (s.toOfs 8).lg (fun l => { l with taken := s.time.pidx + 1 })
    match s.lgst with
    | .run => if s.logic.inCycle then s.lSkip else s.lBegin
    | .armed => ((s.lRestart s.logic.cold).setLgst .run).lBegin
    | .hold => s.lResume
    | _ => if s.logic.zeroPub then (s.lg (fun l => { l with zeroPub := false })).lPublish 0 else s
  else s

/-! ## Register access by the program -/

/-- Clocks that an access takes beside the first: how many, within a bound, is not stated
(R451). -/
def State.lWait (s : State) (n : Nat) : State :=
  let (v, s) := s.fresh
  s.lg (fun l => { l with clocks := l.clocks + v % n })

/-- RDR (R451, R452). -/
def State.lRdr (s : State) (w : Nat) : State :=
  s.lWordRd w (fun a t =>
    let (v, t) := (t.lWait 25).lBar0 a
    t.setAcc v)

/-- WRR (R451, R452). -/
def State.lWrrOp (s : State) (w : Nat) : State :=
  if s.logic.la then s.lWordRd w (fun a t => t.lWrr a 0xFFFFFFFF t.logic.acc) else s

/-- SUBM (R451, R452): source 0x17. -/
def State.lSubm (s : State) (w : Nat) : State :=
  if s.logic.la then
    s.lWordRd w (fun a t =>
      let t := t.lWait 4
      if a % 32 = 0 && memClass a = some 0 then t.submitTpl 0x17 (a - sramBase) none else t.lAccRej)
  else s

end Sys2Proof.Machine
end

