-- ==== Sys2Proof/Machine/Operands.lean ====
section
/-! DEFINITION. One core as its instructions see it: the fields of an instruction word (R236,
R237), the registers of an item's context (R225), pointers (R242 to R246), the address map and
the protection of data accesses (R226, R241, R258 to R260), and the frame in which every
instruction runs, with the order of its checks (R262, R263) and the end of a loop body
(R255). -/

namespace Sys2Proof.Machine

open Sys2Proof

/-! ## Instruction words -/

/-- OP of an instruction word (R236). -/
def cwOp (w : Nat) : Nat := bits w 56 8
/-- D. -/
def cwD (w : Nat) : Nat := bits w 51 5
/-- A. -/
def cwA (w : Nat) : Nat := bits w 46 5
/-- B. -/
def cwB (w : Nat) : Nat := bits w 41 5
/-- C. -/
def cwC (w : Nat) : Nat := bits w 36 5
/-- OPT. -/
def cwOpt (w : Nat) : Nat := bits w 32 4
/-- IMM. -/
def cwImm (w : Nat) : Nat := bits w 0 32

/-- An instruction word from its fields (R236). -/
def cwEncode (op d a b c opt imm : Nat) : Nat :=
  op * 2 ^ 56 + d * 2 ^ 51 + a * 2 ^ 46 + b * 2 ^ 41 + c * 2 ^ 36 + opt * 2 ^ 32 + imm

/-- The OPs of the instruction table (R238). -/
def coreOps : List Nat :=
  [0x01, 0x02, 0x03, 0x04, 0x05, 0x06, 0x07, 0x08, 0x09, 0x0A, 0x0B, 0x0C, 0x0D, 0x0E,
   0x10, 0x11, 0x12, 0x13, 0x14, 0x15, 0x16, 0x17, 0x18,
   0x20, 0x21, 0x22, 0x23, 0x24, 0x25, 0x26, 0x27, 0x28, 0x29, 0x2A] ++
  [0x30, 0x31, 0x32, 0x38, 0x39, 0x3A, 0x3B, 0x3C,
   0x40, 0x41, 0x42, 0x43, 0x44, 0x45, 0x46, 0x47, 0x48, 0x49, 0x4A, 0x4B, 0x4C,
   0x50, 0x51, 0x52, 0x58, 0x59, 0x60, 0x61, 0x62, 0x63, 0x68, 0x69, 0x6A, 0x6B, 0x6E, 0x7F]

/-! ## Registers of a context -/

/-- Register gN. -/
def Ctx.rg (x : Ctx) (n : Nat) : Nat := (sget x.g 0 n).toNat

/-- Register gN written, modulo 2^32. -/
def Ctx.wg (x : Ctx) (n v : Nat) : Ctx := { x with g := sput x.g 0 n (BitVec.ofNat 32 v) }

/-- Register vN. -/
def Ctx.rv (x : Ctx) (n : Nat) : Nat := (sget x.v 0 n).toNat

/-- Register vN written. -/
def Ctx.wv (x : Ctx) (n v : Nat) : Ctx := { x with v := sput x.v 0 n (BitVec.ofNat 128 v) }

/-- Lane l of accumulator vaN, signed; the file keeps it under 8 n + l. -/
def Ctx.rva (x : Ctx) (n l : Nat) : Int := (sget x.va 0 (8 * n + l)).toInt

/-- Lane l of accumulator vaN written modulo 2^40. -/
def Ctx.wva (x : Ctx) (n l : Nat) (v : Int) : Ctx :=
  { x with va := sput x.va 0 (8 * n + l) (BitVec.ofInt 40 v) }

/-- Accumulator saN, signed. -/
def Ctx.rsa (x : Ctx) (n : Nat) : Int := (sget x.sa 0 n).toInt

/-- Accumulator saN written modulo 2^72. -/
def Ctx.wsa (x : Ctx) (n : Nat) (v : Int) : Ctx :=
  { x with sa := sput x.sa 0 n (BitVec.ofInt 72 v) }

/-- Pointer pN. -/
def Ctx.rp (x : Ctx) (n : Nat) : Ptr := sget x.p {} n

/-- Pointer pN written. -/
def Ctx.wp (x : Ctx) (n : Nat) (p : Ptr) : Ctx := { x with p := sput x.p {} n p }

/-- Bit i of STATUS. -/
def Ctx.st (x : Ctx) (i : Nat) : Bool := bit x.status.toNat i

/-- Bit i of STATUS set or cleared. -/
def Ctx.setSt (x : Ctx) (i : Nat) (b : Bool) : Ctx :=
  { x with status := BitVec.ofNat 32 (setBit x.status.toNat i b) }

/-- A sticky bit of STATUS: set where b holds, else as it was. -/
def Ctx.stick (x : Ctx) (i : Nat) (b : Bool) : Ctx := if b then x.setSt i true else x

/-- STATUS.NONE (R235). -/
def stNone : Nat := 4
/-- STATUS.SAT. -/
def stSat : Nat := 8
/-- STATUS.AOV. -/
def stAov : Nat := 9
/-- STATUS.CIRC_FOLD. -/
def stFold : Nat := 10
/-- STATUS.BREV_NP. -/
def stBrev : Nat := 11

/-! ## Pointers -/

/-- Number of a pointer operand field (R236). -/
def ptrNo (f : Nat) : Nat := bits f 0 3

/-- U of a pointer operand field. -/
def ptrU (f : Nat) : Bool := bit f 3

/-- A pointer operand field is legal: bit 4 is 0 and the pointer's MODE is not 0b11 (R237,
R242). -/
def ptrOk (x : Ctx) (f : Nat) : Bool := !bit f 4 && decide ((x.rp (ptrNo f)).mode ≠ 3)

/-- Address of an access of a size through a pointer (R242). -/
def Ptr.at' (p : Ptr) (size : Nat) : Nat :=
  (p.base + (if p.mode = 2 then p.ofs * size else p.ofs)) % 2 ^ 32

/-- Runs of an access of k bytes that goes round a buffer of LEN bytes, from offset o. -/
def wrapRuns (base len : Nat) : Nat → Nat → Nat → List (Nat × Nat)
  | 0, _, _ => []
  | fuel + 1, o, k =>
    if k = 0 then []
    else
      let n := min k (len - o)
      ((base + o) % 2 ^ 32, n) :: wrapRuns base len fuel 0 (k - n)

/-- The bytes of a vector access of k bytes as runs of addresses (R244); a pointer whose OFS is
not below LEN is used as it stands (R245). -/
def Ptr.runs (p : Ptr) (k : Nat) : List (Nat × Nat) :=
  if p.mode = 1 && p.ofs < p.len then wrapRuns p.base p.len (k + 1) p.ofs k
  else [(p.at' 16, k)]

/-- 2^n for some n of at least 1: the n, for the 24 bits of LEN. -/
def log2? (n : Nat) : Option Nat := (List.range 24).find? (fun i => i ≥ 1 && n = 2 ^ i)

/-- A pointer's update (R242, R243, R245): the pointer, and whether CIRC_FOLD and BREV_NP
set. -/
def Ptr.upd (p : Ptr) : Ptr × Bool × Bool :=
  let st := sx 16 p.step
  let fold := decide (p.mode ≠ 0) && decide (p.len ≠ 0) && decide (p.ofs ≥ p.len)
  let o := if fold then p.ofs % p.len else p.ofs
  let lin := us 24 ((o : Int) + st)
  let modu := if p.len = 0 then lin else (((o : Int) + st) % (p.len : Int)).toNat
  match p.mode with
  | 0 => ({ p with ofs := lin }, false, false)
  | 2 =>
    match log2? p.len with
    | some n =>
      let o' := bitrev n ((bitrev n o + bitrev n (us n st)) % 2 ^ n)
      ({ p with ofs := o' }, fold, false)
    | none => ({ p with ofs := modu }, fold, true)
  | _ => ({ p with ofs := modu }, fold, false)

/-- Pointer pN updated, with its flags. -/
def Ctx.ptrUpd (x : Ctx) (n : Nat) : Ctx :=
  let (p, f, b) := (x.rp n).upd
  ((x.wp n p).stick stFold f).stick stBrev b

/-- The update of a pointer operand, made only where its U is 1. -/
def Ctx.ptrAfter (x : Ctx) (f : Nat) : Ctx := if ptrU f then x.ptrUpd (ptrNo f) else x

/-! ## The data address map and its protection -/

/-- The address lies in R226's map, and the BAR0 map does not leave it empty. -/
def coreMapped (a : Nat) : Bool :=
  inOwn a || (0x01000000 ≤ a && a < 0x03000000) || a / 0x10000 < 15 ||
    (0x100000 ≤ a && a < 0x100000 + 0x1000 * Config.lanes) ||
    (0x200000 ≤ a && a < 0x200000 + 0x2000 * Config.strings)

/-- No region opens this address for a read, or with `wr` for a write (R260). -/
def coreBarred (wr : Bool) (a : Nat) : Bool :=
  (wr && a < 0x100000 && ([0, 2, 7, 13, 14] : List Nat).contains (a / 0x10000)) ||
    (0x02400000 ≤ a && a < 0x02800000) ||
    ((inOwn a || (0x02000000 ≤ a && a < 0x02400000)) && a % 0x40000 ≥ 0x3DC00)

/-- One enabled region covers every byte of the runs of an access and grants the kind (R259,
R369). -/
def State.regionOk (s : State) (c : Nat) (wr : Bool) (rs : List (Nat × Nat)) : Bool :=
  (List.range 16).any (fun i =>
    s.on (F.MEM_PR_ATTR_EN c i) &&
      (if wr then s.on (F.MEM_PR_ATTR_WR c i) else s.on (F.MEM_PR_ATTR_RD c i)) &&
      rs.all (fun r => decide (s.get (F.MEM_PR_BASE_GRAN c i) * 64 ≤ r.1) &&
        decide (r.1 + r.2 ≤ s.get (F.MEM_PR_LIMIT_GRAN c i) * 64 + 64)))

/-- First addresses of the 1 KiB granules that [a, a + k) touches, the map's finest grain. -/
def granules (a k : Nat) : List Nat :=
  (List.range ((a + k - 1) / 0x400 - a / 0x400 + 1)).map (fun i => (a / 0x400 + i) * 0x400)

/-- The first of UNMAPPED and PROT that an access meets, all of its runs taken together (R263).
With `own`, it must lie in the own data memory (R241). -/
def State.coreAccess (s : State) (c : Nat) (wr own : Bool) (rs : List (Nat × Nat)) :
    Option Exc :=
  let all (p : Nat → Bool) : Bool := rs.all (fun r => (granules r.1 r.2).all p)
  if !all coreMapped then some .unmapped
  else if (own && !all inOwn) || !all (fun a => !coreBarred wr a) then some .prot
  else if all inOwn then none
  else if s.regionOk c wr rs then none
  else some .prot

/-! ## Bytes of data -/

/-- n words read from a 4-byte aligned place of the BAR0 map by core c: the bytes before the
first bad word, and whether one was bad. -/
def State.coreWords (s : State) (c a : Nat) : Nat → Bytes × Bool × State
  | 0 => ([], false, s)
  | n + 1 =>
    let (d, bad, s) := s.busR a (1 + c) c
    if bad then ([], true, s)
    else
      let (r, b, s) := State.coreWords s c (a + 4) n
      (toLE 4 d ++ r, b, s)

/-- k bytes read from a core data address. -/
def State.coreRd (s : State) (c a k : Nat) : Bytes × Bool × State :=
  let o := coreOfs c a
  let (b, bad, s) := s.coreWords c (o / 4 * 4) ((o + k + 3) / 4 - o / 4)
  ((b.drop (o % 4)).take k, bad, s)

/-- The bytes of an access by runs. -/
def State.coreRdRuns (s : State) (c : Nat) : List (Nat × Nat) → Bytes × Bool × State
  | [] => ([], false, s)
  | (a, k) :: r =>
    let (b, bad, s) := s.coreRd c a k
    if bad then (b, true, s)
    else
      let (t, bad, s) := State.coreRdRuns s c r
      (b ++ t, bad, s)

/-- The mask of the bytes [lo, lo + k) of a word. -/
def byteMask (lo k : Nat) : Nat := (2 ^ (8 * k) - 1) <<< (8 * lo)

/-- The bytes of a word at a 4-byte aligned place of the BAR0 map written by core c. -/
def State.coreWrWord (s : State) (c a mask v : Nat) : State :=
  if a < 0x01000000 then s.busW { a := a, mask := mask, data := v, org := 1 + c, via := .direct }
  else if s.inCt a then s.ctWrite a mask v c
  else if s.inDt a then s.dtWrite a mask v c
  else match memClass a with
    | some 0 | some 1 => (s.mergeWr a mask v c).2
    | _ => s

/-- A store writes part of a word of memory: part of it is stored, and the word takes it (R160,
R199, R364). -/
def State.wordPart (s : State) (a mask : Nat) : Bool :=
  if s.inCt a then (a - s.ctAt 0) % 128 = 0x0C && mask ≠ 0xFFFFFFFF
  else if s.inDt a then (a - s.dtAt 0) % 8 = 0 && mask &&& 0xFF ≠ 0
  else mask ≠ 0xFFFFFFFF && (memClass a = some 0 || memClass a = some 1)

/-- A store of part of a word of memory reads the word first (R364). -/
def State.partRead (s : State) (c a mask : Nat) : Bool × State :=
  if s.wordPart a mask then
    let (_, bad, s) := s.eccRdF a c
    (bad, s)
  else (false, s)

/-- A store of bytes cut into the words it reaches: place, mask and data of each. -/
def storeWords : Nat → Nat → Bytes → List (Nat × Nat × Nat)
  | 0, _, _ => []
  | fuel + 1, o, b =>
    if b.isEmpty then []
    else
      let n := min b.length (4 - o % 4)
      (o / 4 * 4, byteMask (o % 4) n, leNat (b.take n) <<< (8 * (o % 4))) ::
        storeWords fuel (o + n) (b.drop n)

/-- The words of a store by runs. -/
def storeRuns (c : Nat) : List (Nat × Nat) → Bytes → List (Nat × Nat × Nat)
  | [], _ => []
  | (a, k) :: r, b => storeWords (k + 1) (coreOfs c a) (b.take k) ++ storeRuns c r (b.drop k)

/-- A store is performed whole, or not at all where a word it must read first is bad (R262,
R364). -/
def State.coreStore (s : State) (c : Nat) (ws : List (Nat × Nat × Nat)) : Bool × State :=
  let (bad, s) := ws.foldl (fun (t : Bool × State) w =>
    let (b, u) := t.2.partRead c w.1 w.2.1
    (t.1 || b, u)) (false, s)
  if bad then (true, s)
  else (false, ws.foldl (fun t w => t.coreWrWord c w.1 w.2.1 w.2.2) s)

/-! ## Running one instruction -/

/-- How an instruction ends: it completes and the program counter advances, it completes with
a program counter of its own, it waits and is issued again, the item ends with a result word, or
it raises an exception with its operand and address (R262). -/
inductive CoreEnd
  | done (s : State) (x : Ctx)
  | jump (s : State) (x : Ctx)
  | stall
  | fin (s : State) (result : Nat)
  | exc (s : State) (e : Exc) (opnd addr : Nat)

/-- The program counter after an instruction that completes without a taken branch: the end of
a loop body starts the next pass or leaves the loop (R254, R255). -/
def loopNext (pc : Nat) : List LoopF → Nat × List LoopF
  | [] => (pc + 8, [])
  | l :: r =>
    if l.last = pc then
      if l.left > 1 then (l.first, { l with left := l.left - 1 } :: r) else loopNext pc r
    else (pc + 8, l :: r)

/-- The context of core c's running item replaced. -/
def State.setCtx (s : State) (c : Nat) (x : Ctx) : State :=
  let y := s.core c
  match y.stack with
  | [] => s
  | r :: rest => s.setCore c { y with stack := { r with ctx := x } :: rest }

/-- An instruction's end carried out; `s0` is the state before its issue. -/
def State.coreEnd (s0 : State) (c : Nat) : CoreEnd → State
  | .done s x =>
    let (pc, ls) := loopNext x.pc x.loops
    s.setCtx c { x with pc := pc, loops := ls }
  | .jump s x => s.setCtx c x
  | .stall => s0
  | .fin s v => s.itemEnd c 0 v
  | .exc s e opnd addr => s.coreExc c e opnd addr

/-- A core can issue: it has an item, neither saves nor restores, and the device runs cores
(R274, R277). -/
def State.coreIssues (s : State) (c : Nat) : Option Ctx :=
  match (s.core c).stack with
  | r :: _ => if (s.core c).phase = .run && s.accepting then some r.ctx else none
  | [] => none

/-- The instruction word at a program counter: fetch faults first (R263), then the word. -/
def State.coreFetch (s : State) (c pc : Nat) : Except Exc Nat × State :=
  if pc % 8 ≠ 0 || pc > 0xFFF8 then (.error .badpc, s)
  else
    let (b, bad, s) := s.eccRds (instrBase c + pc) c 2
    match bad with
    | some _ => (.error .iecc, s)
    | none => (.ok (leNat b), s)

/-- The event "core c issues an instruction whose OP meets `isOp`". The checks go in the order of
R263; the event does nothing where the core cannot issue or its next instruction is another. -/
def State.coreRun (s : State) (c : Nat) (isOp : Nat → Bool) (legal : Nat → Ctx → Bool)
    (f : State → Nat → Ctx → CoreEnd) : State :=
  match s.coreIssues c with
  | none => s
  | some x =>
    match s.coreFetch c x.pc with
    | (.error e, t) => t.coreExc c e 0 0
    | (.ok w, t) =>
      if !isOp (cwOp w) then s
      else if !legal w x then t.coreExc c .illegal 0 0
      else s.coreEnd c (f t w x)

/-- One OP of the table. -/
def State.coreOp (s : State) (c op : Nat) (legal : Nat → Ctx → Bool)
    (f : State → Nat → Ctx → CoreEnd) : State := s.coreRun c (fun o => decide (o = op)) legal f

/-! ## Field rules (R236, R237) -/

/-- Format R: IMM is 0; OPT is 0. -/
def fmtR (w : Nat) : Bool := cwImm w = 0 && cwOpt w = 0
/-- Format I with OPT 0: B and C are 0. -/
def fmtI (w : Nat) : Bool := cwB w = 0 && cwC w = 0 && cwOpt w = 0
/-- Formats R and I of ADD to MOV: OPT bit 0 says which. -/
def fmtRI (w : Nat) : Bool :=
  if cwOpt w = 0 then cwImm w = 0
  else if cwOpt w = 1 then cwB w = 0 && cwC w = 0
  else false
/-- Format M with no IMM: C and IMM are 0. -/
def fmtM (w : Nat) : Bool := cwC w = 0 && cwImm w = 0
/-- Format J: B, C and OPT are 0. -/
def fmtJ (w : Nat) : Bool := cwB w = 0 && cwC w = 0 && cwOpt w = 0
/-- OPT of a scalar load or store: a size that the table defines and S
(notes/assumptions/61.md). -/
def optSize (w : Nat) : Bool := cwOpt w < 8 && cwOpt w % 4 ≠ 3
/-- Bytes of a scalar access. -/
def accSize (w : Nat) : Nat := if cwOpt w % 4 = 0 then 4 else if cwOpt w % 4 = 1 then 2 else 1

end Sys2Proof.Machine
end

