-- ==== Sys2Proof/Machine/Flags.lean ====
section
/-! DEFINITION. The flags of the core's instructions: STATUS and FPCSR (R235, R238), branch
conditions (R237). -/

namespace Sys2Proof.Machine

open Sys2Proof

/-- Z and N of a 32-bit result. -/
def Ctx.setZN (x : Ctx) (r : Nat) : Ctx := (x.setSt 0 (decide (r % 2 ^ 32 = 0))).setSt 1 (bit r 31)

/-- C and V. -/
def Ctx.setCV (x : Ctx) (c v : Bool) : Ctx := (x.setSt 2 c).setSt 3 v

/-- The four flags ZNCV at once. -/
def Ctx.setZNCV (x : Ctx) (z n c v : Bool) : Ctx := ((x.setSt 0 z).setSt 1 n).setCV c v

/-- A signed 32-bit result outside its range: overflow. -/
def ovf32 (i : Int) : Bool := decide (i < -2147483648) || decide (i > 2147483647)

/-- ADD's result with its flags: C is the carry out, V the signed overflow. -/
def Ctx.addFlags (x : Ctx) (a b : Nat) : Ctx :=
  (x.setZN ((a + b) % 2 ^ 32)).setCV (decide (a + b ≥ 2 ^ 32)) (ovf32 (sx 32 a + sx 32 b))

/-- SUB's and CMP's flags: C says no borrow, V the signed overflow. -/
def Ctx.subFlags (x : Ctx) (a b : Nat) : Ctx :=
  (x.setZN (us 32 ((a : Int) - b))).setCV (decide (b ≤ a)) (ovf32 (sx 32 a - sx 32 b))

/-- FPCSR.RM. -/
def Ctx.rm (x : Ctx) : Nat := bits x.fpcsr.toNat 0 2

/-- FPCSR.FTZ. -/
def Ctx.ftz (x : Ctx) : Bool := bit x.fpcsr.toNat 2

/-- The sticky flags of a binary32 operation set in FPCSR bits 8 to 12 (R253). -/
def Ctx.fpFlags (x : Ctx) (f : FFlags) : Ctx :=
  { x with fpcsr := BitVec.ofNat 32 (x.fpcsr.toNat ||| (f % 32) <<< 8) }

/-- A branch condition (R237); none for a COND outside the table. -/
def Ctx.cond (x : Ctx) (c : Nat) : Option Bool :=
  let z := x.st 0
  let n := x.st 1
  let cc := x.st 2
  let v := x.st 3
  match c with
  | 0 => some true
  | 1 => some z
  | 2 => some (!z)
  | 3 => some (n != v)
  | 4 => some (n == v)
  | 5 => some (!cc)
  | 6 => some cc
  | 7 => some n
  | 8 => some (cc && !z)
  | 9 => some v
  | 10 => some (!x.st stNone)
  | 11 => some (x.st stNone)
  | _ => none

end Sys2Proof.Machine
end

