-- ==== Sys2Proof/Machine/CoreAlu.lean ====
section
/-! DEFINITION. The core's instructions on g registers, on binary32 values and on pointers and
special registers (R235, R238, R252, R253). -/

namespace Sys2Proof.Machine

open Sys2Proof

/-! ## Integer arithmetic and logic -/

/-- Operand B of ADD to MOV: gB, or IMM where OPT.I is 1 (R237). -/
def Ctx.opB (x : Ctx) (w : Nat) : Nat := if bit (cwOpt w) 0 then cwImm w else x.rg (cwB w)

/-- An instruction of ADD to MUL: gD := f gA B, with its flags. -/
def State.coAlu (s : State) (c op : Nat) (f : Nat → Nat → Nat) (fl : Ctx → Nat → Nat → Ctx) :
    State :=
  s.coreOp c op (fun w _ => fmtRI w) (fun t w x =>
    let a := x.rg (cwA w)
    let b := x.opB w
    .done t ((fl x a b).wg (cwD w) (f a b)))

/-- Z and N of the result of f. -/
def znOf (f : Nat → Nat → Nat) (x : Ctx) (a b : Nat) : Ctx := x.setZN (f a b)

/-- ADD. -/
def State.coAdd (s : State) (c : Nat) : State := s.coAlu c 0x01 (· + ·) Ctx.addFlags
/-- SUB. -/
def State.coSub (s : State) (c : Nat) : State :=
  s.coAlu c 0x02 (fun a b => us 32 ((a : Int) - b)) Ctx.subFlags
/-- AND. -/
def State.coAnd (s : State) (c : Nat) : State := s.coAlu c 0x03 (· &&& ·) (znOf (· &&& ·))
/-- OR. -/
def State.coOr (s : State) (c : Nat) : State := s.coAlu c 0x04 (· ||| ·) (znOf (· ||| ·))
/-- XOR. -/
def State.coXor (s : State) (c : Nat) : State := s.coAlu c 0x05 (· ^^^ ·) (znOf (· ^^^ ·))
/-- gA and not gB. -/
def andn (a b : Nat) : Nat := a &&& (b ^^^ 0xFFFFFFFF)
/-- ANDN. -/
def State.coAndn (s : State) (c : Nat) : State := s.coAlu c 0x06 andn (znOf andn)
/-- gA shifted left by the low 5 bits of gB. -/
def shl32 (a b : Nat) : Nat := (a <<< (b % 32)) % 2 ^ 32
/-- SHL. -/
def State.coShl (s : State) (c : Nat) : State := s.coAlu c 0x07 shl32 (znOf shl32)
/-- gA shifted right. -/
def shr32 (a b : Nat) : Nat := a >>> (b % 32)
/-- SHR. -/
def State.coShr (s : State) (c : Nat) : State := s.coAlu c 0x08 shr32 (znOf shr32)
/-- gA shifted right with its sign. -/
def sar32 (a b : Nat) : Nat := us 32 (sx 32 a / ((2 ^ (b % 32) : Nat) : Int))
/-- SAR. -/
def State.coSar (s : State) (c : Nat) : State := s.coAlu c 0x09 sar32 (znOf sar32)
/-- Low 32 bits of a product. -/
def mul32 (a b : Nat) : Nat := a * b % 2 ^ 32
/-- MUL. -/
def State.coMul (s : State) (c : Nat) : State := s.coAlu c 0x0A mul32 (znOf mul32)

/-- CMP: D must be 0. -/
def State.coCmp (s : State) (c : Nat) : State :=
  s.coreOp c 0x0B (fun w _ => fmtRI w && cwD w = 0) (fun t w x =>
    .done t (x.subFlags (x.rg (cwA w)) (x.opB w)))

/-- MOV. -/
def State.coMov (s : State) (c : Nat) : State :=
  s.coreOp c 0x0C (fun w _ => fmtRI w) (fun t w x => .done t (x.wg (cwD w) (x.opB w)))

/-- POPC and CLZ: gD := f gA, with Z of the result. -/
def State.coCount (s : State) (c op : Nat) (f : Nat → Nat) : State :=
  s.coreOp c op (fun w _ => fmtR w) (fun t w x =>
    let r := f (x.rg (cwA w))
    .done t ((x.setSt 0 (decide (r = 0))).wg (cwD w) r))

/-- POPC. -/
def State.coPopc (s : State) (c : Nat) : State := s.coCount c 0x0D (popc 32)
/-- Leading zero bits of a word. -/
def clz32 (a : Nat) : Nat :=
  match (List.range 32).find? (fun i => bit a (31 - i)) with
  | some i => i
  | none => 32
/-- CLZ. -/
def State.coClz (s : State) (c : Nat) : State := s.coCount c 0x0E clz32

/-! ## binary32 -/

/-- An instruction gD := f of binary32 operands with its sticky flags. -/
def State.coFp (s : State) (c op : Nat) (f : Ctx → Nat → Nat × FFlags) : State :=
  s.coreOp c op (fun w _ => fmtR w) (fun t w x =>
    let (v, fl) := f x w
    .done t ((x.fpFlags fl).wg (cwD w) v))

/-- Two operands, rounded by RM. -/
def fp2 (f : Nat → Bool → Nat → Nat → Nat × FFlags) (x : Ctx) (w : Nat) : Nat × FFlags :=
  f x.rm x.ftz (x.rg (cwA w)) (x.rg (cwB w))

/-- FADD. -/
def State.coFadd (s : State) (c : Nat) : State := s.coFp c 0x40 (fp2 fadd)
/-- FSUB. -/
def State.coFsub (s : State) (c : Nat) : State := s.coFp c 0x41 (fp2 fsub)
/-- FMUL. -/
def State.coFmul (s : State) (c : Nat) : State := s.coFp c 0x42 (fp2 fmul)
/-- FMA. -/
def State.coFma (s : State) (c : Nat) : State :=
  s.coFp c 0x43 (fun x w => ffma x.rm x.ftz (x.rg (cwA w)) (x.rg (cwB w)) (x.rg (cwC w)))
/-- FDIV. -/
def State.coFdiv (s : State) (c : Nat) : State := s.coFp c 0x44 (fp2 fdiv)
/-- FSQRT. -/
def State.coFsqrt (s : State) (c : Nat) : State :=
  s.coFp c 0x45 (fun x w => fsqrt x.rm x.ftz (x.rg (cwA w)))
/-- FMIN. -/
def State.coFmin (s : State) (c : Nat) : State := s.coFp c 0x46 (fp2 (fun _ => fminmax false))
/-- FMAX. -/
def State.coFmax (s : State) (c : Nat) : State := s.coFp c 0x47 (fp2 (fun _ => fminmax true))
/-- FCMP: Z equal, N less, C greater, V unordered (R253). -/
def State.coFcmp (s : State) (c : Nat) : State :=
  s.coreOp c 0x48 (fun w _ => fmtR w) (fun t w x =>
    let (lt, eq, gt, un, fl) := fcmp x.ftz (x.rg (cwA w)) (x.rg (cwB w))
    .done t ((x.setZNCV eq lt gt un).fpFlags fl))
/-- FCVTI. -/
def State.coFcvti (s : State) (c : Nat) : State :=
  s.coFp c 0x49 (fun x w => fcvti x.rm (sx 32 (x.rg (cwA w))))
/-- FCVTF (R253). -/
def State.coFcvtf (s : State) (c : Nat) : State :=
  s.coFp c 0x4A (fun x w =>
    let (v, fl) := fcvtf x.rm x.ftz (-2147483648) 2147483647 (x.rg (cwA w))
    (us 32 v, fl))
/-- FABS. -/
def State.coFabs (s : State) (c : Nat) : State := s.coFp c 0x4B (fun x w => (fabs (x.rg (cwA w)), 0))
/-- FNEG. -/
def State.coFneg (s : State) (c : Nat) : State := s.coFp c 0x4C (fun x w => (fneg (x.rg (cwA w)), 0))

/-! ## Pointers -/

/-- PSET: field IMM of pD := gA; a MODE of 0b11 is illegal. -/
def State.coPset (s : State) (c : Nat) : State :=
  s.coreOp c 0x50 (fun w x => fmtI w && cwD w < 8 && cwImm w < 4 &&
      !(decide (cwImm w = 2) && decide (bits (x.rg (cwA w)) 16 2 = 3))) (fun t w x =>
    let v := x.rg (cwA w)
    let p := x.rp (cwD w)
    let p := match cwImm w with
      | 0 => { p with base := v }
      | 1 => { p with len := bits v 0 24 }
      | 2 => { p with step := bits v 0 16, mode := bits v 16 2 }
      | _ => { p with ofs := bits v 0 24 }
    .done t (x.wp (cwD w) p))

/-- PGET: gD := field IMM of pA. -/
def State.coPget (s : State) (c : Nat) : State :=
  s.coreOp c 0x51 (fun w _ => fmtI w && cwA w < 8 && cwImm w < 4) (fun t w x =>
    let p := x.rp (cwA w)
    let v := match cwImm w with
      | 0 => p.base
      | 1 => p.len
      | 2 => p.step + p.mode * 0x10000
      | _ => p.ofs
    .done t (x.wg (cwD w) v))

/-- PUPD: the update of an access with U = 1, without the access. -/
def State.coPupd (s : State) (c : Nat) : State :=
  s.coreOp c 0x52 (fun w x => fmtM w && cwOpt w = 0 && ptrOk x (cwA w)) (fun t w x =>
    .done t (x.ptrUpd (ptrNo (cwA w))))

/-! ## Special registers (R235) -/

/-- Transfer tags of the running item that are outstanding (DMAOUT). -/
def State.dmaOut (s : State) (c : Nat) : Nat :=
  match (s.core c).stack with
  | [] => 0
  | r :: _ => ofBits 8 (fun t => match sget (s.core c).dma none (8 * r.item.uid + t) with
      | some d => d.owner = r.item.uid && d.done.isNone
      | none => false)

/-- Special register n as MFS reads it. -/
def State.special (s : State) (c : Nat) (x : Ctx) (n : Nat) : Nat :=
  let y := s.core c
  match n with
  | 0 => x.status.toNat
  | 1 => x.fpcsr.toNat
  | 2 => c
  | 3 => s.time.cyc % 2 ^ 32
  | 4 => y.cycHi
  | 5 => s.itemAddr c
  | 6 => ((y.stack.head?.map (·.item.prio)).getD 0) + 16 * (y.stack.length - 1)
  | _ => s.dmaOut c

/-- MFS; a read of CYC_LO latches CYC_HI. -/
def State.coMfs (s : State) (c : Nat) : State :=
  s.coreOp c 0x58 (fun w _ => fmtI w && cwImm w < 8) (fun t w x =>
    let v := t.special c x (cwImm w)
    let t := t.when (decide (cwImm w = 3)) (fun u =>
      u.setCore c { u.core c with cycHi := bits u.time.cyc 32 32 })
    .done t (x.wg (cwD w) v))

/-- A special register under a write: its RW bits take the value, its W1C bits clear where it
has ones (R6). -/
def mtsWord (old rw w1c v : Nat) : Nat :=
  ((old &&& (rw ^^^ 0xFFFFFFFF)) ||| (v &&& rw)) &&& ((v &&& w1c) ^^^ 0xFFFFFFFF)

/-- MTS by the access codes; a write of a read-only register has no effect. -/
def State.coMts (s : State) (c : Nat) : State :=
  s.coreOp c 0x59 (fun w _ => fmtI w && cwImm w < 8) (fun t w x =>
    let v := x.rg (cwA w)
    .done t (match cwImm w with
      | 0 => { x with status := BitVec.ofNat 32 (mtsWord x.status.toNat 0x0F 0xF00 v) }
      | 1 => { x with fpcsr := BitVec.ofNat 32 (mtsWord x.fpcsr.toNat 0x07 0x1F00 v) }
      | _ => x))

end Sys2Proof.Machine
end

