-- ==== Sys2Proof/Machine/CoreVec.lean ====
section
/-! DEFINITION. The core's vector, accumulator and search instructions (R238, R247 to
R251). -/

namespace Sys2Proof.Machine

open Sys2Proof

/-- Lane l of a 128-bit value, unsigned. -/
def lane (v l : Nat) : Nat := bits v (16 * l) 16

/-- Lane l of a 128-bit value, signed. -/
def laneS (v l : Nat) : Int := sx 16 (lane v l)

/-- A 128-bit value from its eight lanes. -/
def lanesOf (f : Nat → Nat) : Nat :=
  (List.range 8).foldl (fun a l => a + f l % 2 ^ 16 * 2 ^ (16 * l)) 0

/-- The three fields of an instruction on v registers lie in their file. -/
def vOk (w : Nat) : Bool := cwD w < 16 && cwA w < 16 && cwB w < 16

/-! ## Moves and logic -/

/-- VGET: gD := word IMM of vA. -/
def State.coVget (s : State) (c : Nat) : State :=
  s.coreOp c 0x16 (fun w _ => fmtI w && cwA w < 16 && cwImm w < 4) (fun t w x =>
    .done t (x.wg (cwD w) (bits (x.rv (cwA w)) (32 * cwImm w) 32)))

/-- VPUT: word IMM of vD := gA. -/
def State.coVput (s : State) (c : Nat) : State :=
  s.coreOp c 0x17 (fun w _ => fmtI w && cwD w < 16 && cwImm w < 4) (fun t w x =>
    .done t (x.wv (cwD w) (setBits (x.rv (cwD w)) (32 * cwImm w) 32 (x.rg (cwA w)))))

/-- VBC: every lane of vD := gA[15:0]. -/
def State.coVbc (s : State) (c : Nat) : State :=
  s.coreOp c 0x18 (fun w _ => fmtR w && cwD w < 16) (fun t w x =>
    .done t (x.wv (cwD w) (lanesOf (fun _ => x.rg (cwA w)))))

/-- vD := f vA vB on 128 bits. -/
def State.coVlog (s : State) (c op : Nat) (f : Nat → Nat → Nat) : State :=
  s.coreOp c op (fun w _ => fmtR w && vOk w) (fun t w x =>
    .done t (x.wv (cwD w) (f (x.rv (cwA w)) (x.rv (cwB w)))))

/-- VAND. -/
def State.coVand (s : State) (c : Nat) : State := s.coVlog c 0x22 (· &&& ·)
/-- VOR. -/
def State.coVor (s : State) (c : Nat) : State := s.coVlog c 0x23 (· ||| ·)
/-- VXOR. -/
def State.coVxor (s : State) (c : Nat) : State := s.coVlog c 0x24 (· ^^^ ·)
/-- VANDN. -/
def State.coVandn (s : State) (c : Nat) : State :=
  s.coVlog c 0x25 (fun a b => a &&& (b ^^^ (2 ^ 128 - 1)))

/-! ## Lane sums -/

/-- VADD and VSUB: lane results that wrap, or with SAT clamp and set SAT (R249). -/
def State.coVsum (s : State) (c op : Nat) (f : Int → Int → Int) : State :=
  s.coreOp c op (fun w _ => cwImm w = 0 && cwOpt w < 2 && vOk w) (fun t w x =>
    let sat := bit (cwOpt w) 0
    let r (l : Nat) : Int := f (laneS (x.rv (cwA w)) l) (laneS (x.rv (cwB w)) l)
    let out (l : Nat) : Bool := decide (r l < -32768) || decide (r l > 32767)
    let v (l : Nat) : Nat := us 16 (if sat then clampI (-32768) 32767 (r l) else r l)
    .done t ((x.stick stSat (sat && (List.range 8).any out)).wv (cwD w) (lanesOf v)))

/-- VADD. -/
def State.coVadd (s : State) (c : Nat) : State := s.coVsum c 0x20 (· + ·)
/-- VSUB. -/
def State.coVsub (s : State) (c : Nat) : State := s.coVsum c 0x21 (· - ·)

/-! ## Accumulators (R247, R248) -/

/-- An exact sum leaves the signed range of w bits. -/
def outOf (w : Nat) (i : Int) : Bool :=
  decide (i < -((2 ^ (w - 1) : Nat) : Int)) || decide (i ≥ ((2 ^ (w - 1) : Nat) : Int))

/-- The products of eight lanes, times a sign, added into vaN; AOV where a sum leaves its
range. -/
def Ctx.vmac (x : Ctx) (n : Nat) (sgn : Int) (a b : Nat) : Ctx :=
  (List.range 8).foldl (fun y l =>
    let r := y.rva n l + sgn * (laneS a l * laneS b l)
    (y.stick stAov (outOf 40 r)).wva n l r) x

/-- VMAC and VMSU. -/
def State.coVmul (s : State) (c op : Nat) (sgn : Int) : State :=
  s.coreOp c op (fun w _ => fmtR w && cwD w < 4 && cwA w < 16 && cwB w < 16) (fun t w x =>
    .done t (x.vmac (cwD w) sgn (x.rv (cwA w)) (x.rv (cwB w))))

/-- VMAC. -/
def State.coVmac (s : State) (c : Nat) : State := s.coVmul c 0x26 1
/-- VMSU. -/
def State.coVmsu (s : State) (c : Nat) : State := s.coVmul c 0x27 (-1)

/-- VACLR. -/
def State.coVaclr (s : State) (c : Nat) : State :=
  s.coreOp c 0x29 (fun w _ => fmtR w && cwD w < 4) (fun t w x =>
    .done t ((List.range 8).foldl (fun y l => y.wva (cwD w) l 0) x))

/-- An extraction of an accumulator into w bits: the bits, and whether it was clamped (R248). -/
def extract (w : Nat) (sat : Bool) (v : Int) (k : Nat) : Nat × Bool :=
  let r := rs v k
  if sat && outOf w r then
    (us w (clampI (-((2 ^ (w - 1) : Nat) : Int)) (((2 ^ (w - 1) : Nat) : Int) - 1) r), true)
  else (us w r, false)

/-- VEXT. -/
def State.coVext (s : State) (c : Nat) : State :=
  s.coreOp c 0x2A (fun w _ => cwB w = 0 && cwC w = 0 && cwOpt w < 2 && cwD w < 16 && cwA w < 4 &&
      cwImm w < 40) (fun t w x =>
    let e (l : Nat) := extract 16 (bit (cwOpt w) 0) (x.rva (cwA w) l) (cwImm w)
    .done t ((x.stick stSat ((List.range 8).any (fun l => (e l).2))).wv (cwD w)
      (lanesOf (fun l => (e l).1))))

/-- A signed 32-bit product, times a sign, added into saN. -/
def Ctx.smac (x : Ctx) (n : Nat) (sgn : Int) (a b : Nat) : Ctx :=
  let r := x.rsa n + sgn * (sx 32 a * sx 32 b)
  (x.stick stAov (outOf 72 r)).wsa n r

/-- SMAC and SMSU. -/
def State.coSmul (s : State) (c op : Nat) (sgn : Int) : State :=
  s.coreOp c op (fun w _ => fmtR w && cwD w < 2) (fun t w x =>
    .done t (x.smac (cwD w) sgn (x.rg (cwA w)) (x.rg (cwB w))))

/-- SMAC. -/
def State.coSmac (s : State) (c : Nat) : State := s.coSmul c 0x38 1
/-- SMSU. -/
def State.coSmsu (s : State) (c : Nat) : State := s.coSmul c 0x39 (-1)

/-- SMAC2: gA, gB into sa0; gC and the register D into sa1. -/
def State.coSmac2 (s : State) (c : Nat) : State :=
  s.coreOp c 0x3A (fun w _ => fmtR w) (fun t w x =>
    .done t ((x.smac 0 1 (x.rg (cwA w)) (x.rg (cwB w))).smac 1 1 (x.rg (cwC w)) (x.rg (cwD w))))

/-- SACLR. -/
def State.coSaclr (s : State) (c : Nat) : State :=
  s.coreOp c 0x3B (fun w _ => fmtR w && cwD w < 2) (fun t w x => .done t (x.wsa (cwD w) 0))

/-- SEXT. -/
def State.coSext (s : State) (c : Nat) : State :=
  s.coreOp c 0x3C (fun w _ => cwB w = 0 && cwC w = 0 && cwOpt w < 2 && cwA w < 2 && cwImm w < 64)
    (fun t w x =>
      let (v, sat) := extract 32 (bit (cwOpt w) 0) (x.rsa (cwA w)) (cwImm w)
      .done t ((x.stick stSat sat).wg (cwD w) v))

/-! ## Search (R250, R251) -/

/-- SCLR. -/
def State.coSclr (s : State) (c : Nat) : State :=
  s.coreOp c 0x30 (fun w _ => fmtR w) (fun t _ x =>
    .done t ({ x with mn := 0, mx := 0, mni := 0xFFFF, mxi := 0xFFFF }.setSt stNone true))

/-- SGET: mn, mx, mni or mxi. -/
def State.coSget (s : State) (c : Nat) : State :=
  s.coreOp c 0x32 (fun w _ => fmtI w && cwImm w < 4) (fun t w x =>
    .done t (x.wg (cwD w) (match cwImm w with
      | 0 => x.mn
      | 1 => x.mx
      | 2 => x.mni
      | _ => x.mxi)))

/-- Two 16-bit elements in order, unsigned or signed. -/
def elemLt (sg : Bool) (a b : Nat) : Bool := if sg then decide (sx 16 a < sx 16 b) else decide (a < b)

/-- One element with its index meets the search. -/
def Ctx.srchElem (x : Ctx) (sg : Bool) (e i : Nat) : Ctx :=
  let none' := x.st stNone
  let y := if none' || elemLt sg e x.mn then { x with mn := e, mni := i } else x
  let y := if none' || elemLt sg x.mx e then { y with mx := e, mxi := i } else y
  y.setSt stNone false

/-- Index of lane i of a step from a pointer: round a modulo buffer it is taken modulo LEN. -/
def srchIdx (p : Ptr) (i : Nat) : Nat :=
  (if p.mode = 1 && p.ofs < p.len && p.ofs + 32 > p.len then (p.ofs + 2 * i) % p.len / 2
   else p.ofs / 2 + i) % 65536

/-- SRCH step over 32 bytes of elements. -/
def Ctx.srch (x : Ctx) (p : Ptr) (sg : Bool) (mask : Nat) (b : Bytes) : Ctx :=
  (List.range 16).foldl (fun y i =>
    if bit mask i then y.srchElem sg (fieldLE b (2 * i) 2) (srchIdx p i) else y) x

end Sys2Proof.Machine
end

