-- ==== Sys2Proof/Machine/CoreMem.lean ====
section
/-! DEFINITION. The core's loads and stores, the instructions with memory operands (R238, R241,
R242, R250), branches and loops (R254, R255), DMA (R256, R257), SUBMIT and END (R239). -/

namespace Sys2Proof.Machine

open Sys2Proof

/-- A read of an operand: ALIGN, UNMAPPED, PROT and DECC in that order (R263), then its bytes
go on to k. `a` is the address of the access and `opnd` the operand's number. -/
def State.operandRd (s : State) (c opnd align : Nat) (own : Bool) (a : Nat) (rs : List (Nat × Nat))
    (k : State → Bytes → CoreEnd) : CoreEnd :=
  if a % align ≠ 0 then .exc s .align opnd a
  else match s.coreAccess c false own rs with
    | some e => .exc s e opnd a
    | none =>
      let (b, bad, t) := s.coreRdRuns c rs
      if bad then .exc t .decc opnd a else k t b

/-- A store: the checks in the same order, then the bytes. -/
def State.operandWr (s : State) (c align a : Nat) (rs : List (Nat × Nat)) (b : Bytes)
    (k : State → CoreEnd) : CoreEnd :=
  if a % align ≠ 0 then .exc s .align 1 a
  else match s.coreAccess c true false rs with
    | some e => .exc s e 1 a
    | none =>
      let (bad, t) := s.coreStore c (storeRuns c rs b)
      if bad then .exc t .decc 1 a else k t

/-! ## Scalar loads and stores -/

/-- The value a load of some bytes gives, sign-extended with S. -/
def loadVal (w : Nat) (b : Bytes) : Nat :=
  let n := 8 * accSize w
  if bit (cwOpt w) 2 then us 32 (sx n (leNat b)) else leNat b

/-- LD and LDX from an address. -/
def loadAt (s : State) (c w a : Nat) (x : Ctx) : CoreEnd :=
  let n := accSize w
  s.operandRd c 1 n false a [(a, n)] (fun t b => .done t (x.wg (cwD w) (loadVal w b)))

/-- ST and STX to an address. -/
def storeAt (s : State) (c w a v : Nat) (x : Ctx) : CoreEnd :=
  let n := accSize w
  s.operandWr c n a [(a, n)] (toLE n v) (fun t => .done t x)

/-- LD. -/
def State.coLd (s : State) (c : Nat) : State :=
  s.coreOp c 0x10 (fun w x => fmtM w && optSize w && ptrOk x (cwA w)) (fun t w x =>
    loadAt t c w ((x.rp (ptrNo (cwA w))).at' (accSize w)) (x.ptrAfter (cwA w)))

/-- ST. -/
def State.coSt (s : State) (c : Nat) : State :=
  s.coreOp c 0x11 (fun w x => fmtM w && optSize w && ptrOk x (cwA w)) (fun t w x =>
    storeAt t c w ((x.rp (ptrNo (cwA w))).at' (accSize w)) (x.rg (cwD w)) (x.ptrAfter (cwA w)))

/-- Format I with OPT's size and S. -/
def fmtX (w : Nat) : Bool := cwB w = 0 && cwC w = 0 && optSize w

/-- LDX. -/
def State.coLdx (s : State) (c : Nat) : State :=
  s.coreOp c 0x12 (fun w _ => fmtX w) (fun t w x =>
    loadAt t c w ((x.rg (cwA w) + cwImm w) % 2 ^ 32) x)

/-- STX. -/
def State.coStx (s : State) (c : Nat) : State :=
  s.coreOp c 0x13 (fun w _ => fmtX w) (fun t w x =>
    storeAt t c w ((x.rg (cwA w) + cwImm w) % 2 ^ 32) (x.rg (cwD w)) x)

/-! ## Vector loads and stores -/

/-- VLD. -/
def State.coVld (s : State) (c : Nat) : State :=
  s.coreOp c 0x14 (fun w x => fmtM w && cwOpt w = 0 && cwD w < 16 && ptrOk x (cwA w)) (fun t w x =>
    let p := x.rp (ptrNo (cwA w))
    t.operandRd c 1 2 false (p.at' 16) (p.runs 16) (fun t b =>
      .done t ((x.ptrAfter (cwA w)).wv (cwD w) (leNat b))))

/-- VST. -/
def State.coVst (s : State) (c : Nat) : State :=
  s.coreOp c 0x15 (fun w x => fmtM w && cwOpt w = 0 && cwD w < 16 && ptrOk x (cwA w)) (fun t w x =>
    let p := x.rp (ptrNo (cwA w))
    t.operandWr c 2 (p.at' 16) (p.runs 16) (toLE 16 (x.rv (cwD w))) (fun t =>
      .done t (x.ptrAfter (cwA w))))

/-- VMACM: operand A uses its pointer and updates it before operand B does (R246). -/
def State.coVmacm (s : State) (c : Nat) : State :=
  s.coreOp c 0x28 (fun w x => fmtM w && cwOpt w = 0 && cwD w < 4 && ptrOk x (cwA w) &&
      ptrOk x (cwB w)) (fun t w x =>
    let p := x.rp (ptrNo (cwA w))
    t.operandRd c 1 2 true (p.at' 16) (p.runs 16) (fun t b1 =>
      let y := x.ptrAfter (cwA w)
      let q := y.rp (ptrNo (cwB w))
      t.operandRd c 2 2 true (q.at' 16) (q.runs 16) (fun t b2 =>
        .done t ((y.ptrAfter (cwB w)).vmac (cwD w) 1 (leNat b1) (leNat b2)))))

/-- SRCH: 16 elements of 16 bits under the mask bits IMM of vB. -/
def State.coSrch (s : State) (c : Nat) : State :=
  s.coreOp c 0x31 (fun w x => cwC w = 0 && cwOpt w < 2 && cwB w < 16 && cwImm w < 8 &&
      ptrOk x (cwA w)) (fun t w x =>
    let p := x.rp (ptrNo (cwA w))
    t.operandRd c 1 16 true (p.at' 16) (p.runs 32) (fun t b =>
      .done t ((x.srch p (bit (cwOpt w) 0) (bits (x.rv (cwB w)) (16 * cwImm w) 16) b).ptrAfter
        (cwA w))))

/-! ## Branches and loops -/

/-- B: a taken branch out of the innermost body ends that loop (R255). Whether a COND that the
table does not give holds is a free value (notes/assumptions/62.md). -/
def State.coB (s : State) (c : Nat) : State :=
  s.coreOp c 0x60 (fun w _ => fmtJ w) (fun t w x =>
    let (taken, t) := match x.cond (cwD w) with
      | some b => (b, t)
      | none => let (v, t) := t.fresh; (decide (v % 2 = 1), t)
    if taken then
      let a := cwImm w
      let ls := match x.loops with
        | l :: r => if l.first ≤ a && a ≤ l.last then l :: r else r
        | [] => []
      .jump t { x with pc := a, loops := ls }
    else .done t x)

/-- BR. -/
def State.coBr (s : State) (c : Nat) : State :=
  s.coreOp c 0x61 (fun w _ => fmtJ w) (fun t w x => .jump t { x with pc := x.rg (cwA w) })

/-- CALL: g31 takes the return address. -/
def State.coCall (s : State) (c : Nat) : State :=
  s.coreOp c 0x62 (fun w _ => fmtJ w) (fun t w x =>
    .jump t { x.wg 31 (x.pc + 8) with pc := cwImm w })

/-- LOOP (R254). -/
def State.coLoop (s : State) (c : Nat) : State :=
  s.coreOp c 0x63 (fun w x => fmtJ w && decide (cwImm w > x.pc)) (fun t w x =>
    if x.loops.length ≥ 2 then .exc t .loopstk 0 0
    else
      let n := x.rg (cwA w)
      if n = 0 then .jump t { x with pc := cwImm w + 8 }
      else
        let l : LoopF := { first := x.pc + 8, last := cwImm w, left := n }
        .jump t { x with pc := x.pc + 8, loops := l :: x.loops })

/-! ## DMA -/

/-- A transfer of some item is outstanding under tag t. -/
def CoreS.tagBusy (x : CoreS) (t : Nat) : Bool :=
  x.dma.any (fun p => p.1 % 8 = t && (match p.2 with
    | some d => d.done.isNone
    | none => false))

/-- The tag that DMA takes for the item uid, of those not outstanding: the lowest under which the item
holds no result, else the lowest; none while all eight are outstanding. The results of a
pre-empted item stay its own (R256, R261; notes/assumptions/63.md). -/
def CoreS.freeTag (x : CoreS) (uid : Nat) : Option Nat :=
  let free := (List.range 8).filter (fun t => !x.tagBusy t)
  match free.find? (fun t => (sget x.dma none (8 * uid + t)).isNone) with
  | some t => some t
  | none => free.head?

/-- A transfer as its 16-byte descriptor gives it (R256). -/
def dmaTagOf (uid : Nat) (b : Bytes) : DmaTag :=
  let l := fieldLE b 8 4
  { owner := uid, src := fieldLE b 0 4, dst := fieldLE b 4 4, len := bits l 0 24,
    srcHost := bit l 24, dstHost := bit l 25, hostHi := fieldLE b 12 4 }

/-- R257 refuses the descriptor. -/
def dmaBad (b : Bytes) : Bool :=
  let l := fieldLE b 8 4
  let n := bits l 0 24
  (bit l 24 && bit l 25) || n % 4 ≠ 0 || n < 4 || n > 1048576 || bits l 26 6 ≠ 0

/-- The check of one device side of a transfer at issue (R257). -/
def State.dmaSide (s : State) (c : Nat) (wr host : Bool) (a n : Nat) : Option (Exc × Nat) :=
  if host then none else (s.coreAccess c wr false [(a, n)]).map (fun e => (e, a))

/-- DMA: the descriptor is read from the own data memory, judged, and its transfer starts. -/
def State.coDma (s : State) (c : Nat) : State :=
  s.coreOp c 0x68 (fun w _ => fmtR w) (fun t w x =>
    let uid := ((t.core c).stack.head?.map (·.item.uid)).getD 0
    match (t.core c).freeTag uid with
    | none => .stall
    | some tag =>
      let a := x.rg (cwA w)
      t.operandRd c 1 16 true a [(a, 16)] (fun t b =>
        let d := dmaTagOf uid b
        if dmaBad b then .exc t .illegal 0 0
        else match t.dmaSide c false d.srcHost d.src d.len with
          | some (e, f) => .exc t e 1 f
          | none =>
            match t.dmaSide c true d.dstHost d.dst d.len with
            | some (e, f) => .exc t e 1 f
            | none =>
              let y := t.core c
              let t := t.setCore c { y with dma := sput y.dma none (8 * uid + tag) (some d) }
              .done t (x.wg (cwD w) tag)))

/-- DMAW: waits for the tag, then gives the bytes moved and Z; at once 0 and Z = 0 on a tag that
the item does not own (R256). -/
def State.coDmaw (s : State) (c : Nat) : State :=
  s.coreOp c 0x69 (fun w _ => fmtR w) (fun t w x =>
    let tag := x.rg (cwA w)
    let y := t.core c
    let uid := (y.stack.head?.map (·.item.uid)).getD 0
    match (sget y.dma none (8 * uid + tag)).filter (fun _ => decide (tag < 8)) with
    | none => .done t ((x.setSt 0 false).wg (cwD w) 0)
    | some d =>
      match d.done with
      | none => .stall
      | some (n, ok) =>
        .done (t.setCore c { y with dma := sdel y.dma (8 * uid + tag) }) ((x.setSt 0 ok).wg (cwD w) n))

/-- Address of the host side of a transfer. -/
def DmaTag.hostA (d : DmaTag) (lo : Nat) : Nat := lo + d.hostHi * 2 ^ 32

/-- Words stored one after another until one that must be read first is bad; the bytes that
went. -/
def State.dmaStore (s : State) (c : Nat) : List (Nat × Nat × Nat) → Nat × Bool × State
  | [] => (0, true, s)
  | w :: r =>
    let (bad, s) := s.partRead c w.1 w.2.1
    if bad then (0, false, s)
    else
      let (n, ok, s) := State.dmaStore (s.coreWrWord c w.1 w.2.1 w.2.2) c r
      (n + popc 32 w.2.1 / 8, ok, s)

/-- The bytes of a transfer moved (R256, R376): the count that reached the destination, and
whether it completed. -/
def State.dmaMove (s : State) (c : Nat) (d : DmaTag) (hm : HostMem) : Nat × Bool × State :=
  let (b, ok1, s) :=
    if d.srcHost then
      let (b, f, s) := s.hostRd hm c (pagesOf (d.hostA d.src) d.len) (d.hostA d.src) d.len
      (b, f.isNone, s)
    else
      let (b, bad, s) := s.coreRd c d.src d.len
      (b, !bad, s)
  let (n, ok2, s) :=
    if d.dstHost then s.hostWr hm c (pagesOf (d.hostA d.dst) b.length) (d.hostA d.dst) b
    else s.dmaStore c (storeWords (b.length + 1) (coreOfs c d.dst) b)
  (n, ok1 && ok2, s)

/-- The transfer outstanding under tag t, with its key. -/
def CoreS.dmaTag? (x : CoreS) (t : Nat) : Option (Nat × DmaTag) :=
  x.dma.findSome? (fun p => match p.2 with
    | some d => if p.1 % 8 = t && d.done.isNone then some (p.1, d) else none
    | none => none)

/-- The event CORE_DMA_DONE: a transfer completes or stops on a fault; its result waits for
DMAW (R256, R376). In SAFE_HOLD the cores stand, and their transfers with them (R26). -/
def State.coreDmaDone (s : State) (c tag : Nat) (hm : HostMem) : State :=
  match (s.core c).dmaTag? tag with
  | some (k, d) =>
    if !s.accepting then s
    else
      let (n, ok, s) := s.dmaMove c d hm
      let y := s.core c
      match sget y.dma none k with
      | some d => s.setCore c { y with dma := sput y.dma none k (some { d with done := some (n, ok) }) }
      | none => s
  | none => s

/-! ## The rest -/

/-- SUBMIT: 32 bytes at gA go to the scheduler as source c (R239). The submission buffer empties
at once (notes/assumptions/64.md). -/
def State.coSubmit (s : State) (c : Nat) : State :=
  s.coreOp c 0x6A (fun w _ => fmtR w) (fun t w x =>
    let a := x.rg (cwA w)
    t.operandRd c 1 16 false a [(a, 32)] (fun t b => .done (t.submit c b none none) x))

/-- FENCE: posted stores have reached their targets (notes/assumptions/64.md). -/
def State.coFence (s : State) (c : Nat) : State :=
  s.coreOp c 0x6B (fun w _ => fmtR w) (fun t _ x => .done t x)

/-- END: waits for the item's transfers, then the item completes as DONE with gA (R239). -/
def State.coEnd (s : State) (c : Nat) : State :=
  s.coreOp c 0x6E (fun w _ => fmtR w) (fun t w x =>
    if t.dmaOut c ≠ 0 then .stall else .fin t (x.rg (cwA w)))

/-- NOP. -/
def State.coNop (s : State) (c : Nat) : State :=
  s.coreOp c 0x7F (fun w _ => fmtR w) (fun t _ x => .done t x)

/-- A word whose OP is not in the instruction table (R237). -/
def State.coUndef (s : State) (c : Nat) : State :=
  s.coreRun c (fun o => !coreOps.contains o) (fun _ _ => false) (fun _ _ _ => .stall)

end Sys2Proof.Machine
end

