-- ==== Sys2Proof/WellFormed.lean ====
section
/-! DEFINITION. Which commands can reach the part: each check says that an operand names a unit
that exists, or fits the field that carries it. An ill-formed command is refused by every meaning
and stands for nothing that the part could meet. -/

namespace Sys2Proof

/-- A 2-bit field. -/
def okU2 (x : Nat) : Bool := x < 4
/-- An 8-bit field. -/
def okU8 (x : Nat) : Bool := x < 256
/-- A 16-bit field. -/
def okU16 (x : Nat) : Bool := x < 65536
/-- A 32-bit word. -/
def okU32 (x : Nat) : Bool := x < 4294967296
/-- A word, where there is one. -/
def okOptU32 (x : Option Nat) : Bool := x.all okU32
/-- A reference: 0 REF A, 1 REF B (R34). -/
def okRef (r : Nat) : Bool := r < 2
/-- A lock group (R49). -/
def okGroup (g : Nat) : Bool := g < Config.groups
/-- An origin of access: 0 the host, 1 + c core c, 17 the logic engine (R58). -/
def okOrigin (o : Nat) : Bool := o < 18
/-- A lane (R86). -/
def okLane (l : Nat) : Bool := l < Config.lanes
/-- A string (R86). -/
def okStr (n : Nat) : Bool := n < Config.strings
/-- A cell controller (R86, R114). -/
def okCell (c : Nat) : Bool := c < Config.cells
/-- One of two: a port of a cell (R98), a word of a dead-time entry (R198). -/
def okSide (p : Nat) : Bool := p < 2
/-- An arm (R10). -/
def okArm (a : Nat) : Bool := a < Config.arms
/-- An entry of the cell table (R157). -/
def okEntry (c : Nat) : Bool := c < 4096
/-- A word of a 128-byte entry (R157). -/
def okWord32 (w : Nat) : Bool := w < 32
/-- A trim channel (R186). -/
def okTrim (t : Nat) : Bool := t < Config.trims
/-- A trip input (R203). -/
def okTripIn (i : Nat) : Bool := i < 24
/-- A core (R225). -/
def okCore (c : Nat) : Bool := c < Config.cores
/-- A transfer tag (R256). -/
def okTag8 (t : Nat) : Bool := t < 8
/-- An entry of the period table (R270). -/
def okPt (e : Nat) : Bool := e < 64
/-- A source of work items (R267). -/
def okSrc (q : Nat) : Bool := q < 64
/-- A ring (R324). -/
def okRing (r : Nat) : Bool := r < Config.rings
/-- An MSI-X vector (R345). -/
def okVec (v : Nat) : Bool := v < 64
/-- A link speed and width that HOST_LINK can show. -/
def okLink (speed width : Nat) : Bool := 0 < speed && speed < 4 && (width = 1 || width = 2 || width = 4)
/-- An aligned offset in BAR0 (R321). -/
def okBar0 (a : Nat) : Bool := a < 0x4000000 && a % 4 = 0
/-- A memory class (R361). -/
def okClass (m : Nat) : Bool := m < 6
/-- A scope of IOMMU_INV (R374). -/
def okScope (x : Nat) : Bool := x < 4
/-- A safety input (R422). -/
def okSin (i : Nat) : Bool := i < 16
/-- A safety output (R432). -/
def okSout (o : Nat) : Bool := o < 8
/-- A word of the island's image (R419). -/
def okImgWord (w : Nat) : Bool := w < 31
/-- A segment of Vesper (R471). -/
def okSeg (g : Nat) : Bool := g < 16
/-- A configuration register of a segment, by its place among CFG, MEM, CHLO, CHHI, POST and
TRIG. -/
def okSegReg (k : Nat) : Bool := k < 6
/-- A trigger unit (R477). -/
def okTu (u : Nat) : Bool := u < 8
/-- A converter (R489). -/
def okConv (c : Nat) : Bool := c < 8
/-- A slice of a converter (R494). -/
def okSlice (k : Nat) : Bool := k < 5
/-- An Ethernet port (R503). -/
def okPort (p : Nat) : Bool := p < 4
/-- A subscription: 16 of sampled values, 32 of GOOSE (R523). -/
def okSub (sv : Bool) (i : Nat) : Bool := if sv then i < 16 else i < 32
/-- A CAN controller (R529). -/
def okCan (n : Nat) : Bool := n < 2
/-- An OTP key slot (R556). -/
def okSlot (k : Nat) : Bool := k < 8

/-- A command names only units that the part has, and its operands fit their fields. -/
def Instr.wf (i : Instr) : Bool :=
  match i with
  | .powerOnReset _ => true
  | .devReset key _ => okU16 key
  | .resetRelease _ _ _ _ => true
  | .startStepDone _ _ => true
  | .refLoss r => okRef r
  | .refReturn r => okRef r
  | .lgStart g => okGroup g
  | .timeSnap org => okOrigin org
  | .timeTwPush org tag => okOrigin org && okU16 tag
  | .timeTwCancel org tag => okOrigin org && okU16 tag
  | .laneTrain l => okLane l
  | .laneCfgWrite l data => okLane l && okU32 data
  | .laneTxeqWrite l data => okLane l && okU32 data
  | .laneSyncAcquire l => okLane l.lane
  | .laneCodeError l _ => okLane l
  | .skpReceive l _ _ => okLane l
  | .elasticBufferError l _ => okLane l
  | .adaptUpdate l _ _ => okLane l
  | .adaptFreeze l => okLane l
  | .adaptResume l => okLane l
  | .trainAdaptDone l => okLane l
  | .helloResend l => okLane l
  | .trainAttemptTimeout l => okLane l
  | .backoffExpiry l => okLane l
  | .absentRetry l => okLane l
  | .laneHelloReply l _ => okLane l
  | .laneHelloReceive l _ => okLane l
  | .laneLos l _ => okLane l
  | .laneCntClr l => okLane l
  | .prbsLock l => okLane l.lane
  | .prbsLockLost l _ _ => okLane l
  | .prbsErrRead l _ _ => okLane l
  | .prbsClr l => okLane l
  | .enum n => okStr n
  | .enumReplyReceive n _ => okStr n
  | .enumReplyTimeout n => okStr n
  | .ackReceive n _ => okStr n
  | .ackTimeout n => okStr n
  | .enumEchoReturn n _ _ => okStr n
  | .enumEchoTimeout n => okStr n
  | .reenum n => okStr n
  | .strCntClr n => okStr n
  | .bow g => okGroup g
  | .strokeReturn n _ => okStr n
  | .strokeNohome n => okStr n
  | .strokeReflect l _ => okLane l
  | .laneEchoReceive l _ => okLane l
  | .laneEnumHelloReceive l _ => okLane l
  | .blkReceive l g fourth => okLane l && okU8 g && okU8 fourth
  | .cellHello c port _ => okCell c && okSide port
  | .cellAssign c port _ => okCell c && okSide port
  | .cellEcho c port _ => okCell c && okSide port
  | .cellRelease c port _ => okCell c && okSide port
  | .cellStroke c port _ _ => okCell c && okSide port
  | .cellApplyInstant c => okCell c
  | .cellBlk c port g fourth => okCell c && okSide port && okU8 g && okU8 fourth
  | .cellAuthTimeout c => okCell c
  | .cellTableWrite c w data => okEntry c && okWord32 w && okU32 data
  | .modArmCommit a tag => okArm a && okU16 tag
  | .launchCut g => okGroup g
  | .trimCtrlWrite t data => okTrim t && okU32 data
  | .trimPerWrite t per => okTrim t && okU16 per
  | .dtTableWrite c w data => okEntry c && okSide w && okU32 data
  | .tripFilterPass n _ => okTripIn n
  | .tripSoft m => okU8 m
  | .tripClr m => okU8 m
  | .tripInCfgWrite n data => okTripIn n && okU32 data
  | .cengEvaluate g => okGroup g
  | .coreAdd c => okCore c
  | .coreSub c => okCore c
  | .coreAnd c => okCore c
  | .coreOr c => okCore c
  | .coreXor c => okCore c
  | .coreAndn c => okCore c
  | .coreShl c => okCore c
  | .coreShr c => okCore c
  | .coreSar c => okCore c
  | .coreMul c => okCore c
  | .coreCmp c => okCore c
  | .coreMov c => okCore c
  | .corePopc c => okCore c
  | .coreClz c => okCore c
  | .coreLd c => okCore c
  | .coreSt c => okCore c
  | .coreLdx c => okCore c
  | .coreStx c => okCore c
  | .coreVld c => okCore c
  | .coreVst c => okCore c
  | .coreVget c => okCore c
  | .coreVput c => okCore c
  | .coreVbc c => okCore c
  | .coreVadd c => okCore c
  | .coreVsub c => okCore c
  | .coreVand c => okCore c
  | .coreVor c => okCore c
  | .coreVxor c => okCore c
  | .coreVandn c => okCore c
  | .coreVmac c => okCore c
  | .coreVmsu c => okCore c
  | .coreVmacm c => okCore c
  | .coreVaclr c => okCore c
  | .coreVext c => okCore c
  | .coreSclr c => okCore c
  | .coreSrch c => okCore c
  | .coreSget c => okCore c
  | .coreSmac c => okCore c
  | .coreSmsu c => okCore c
  | .coreSmac2 c => okCore c
  | .coreSaclr c => okCore c
  | .coreSext c => okCore c
  | .coreFadd c => okCore c
  | .coreFsub c => okCore c
  | .coreFmul c => okCore c
  | .coreFma c => okCore c
  | .coreFdiv c => okCore c
  | .coreFsqrt c => okCore c
  | .coreFmin c => okCore c
  | .coreFmax c => okCore c
  | .coreFcmp c => okCore c
  | .coreFcvti c => okCore c
  | .coreFcvtf c => okCore c
  | .coreFabs c => okCore c
  | .coreFneg c => okCore c
  | .corePset c => okCore c
  | .corePget c => okCore c
  | .corePupd c => okCore c
  | .coreMfs c => okCore c
  | .coreMts c => okCore c
  | .coreB c => okCore c
  | .coreBr c => okCore c
  | .coreCall c => okCore c
  | .coreLoop c => okCore c
  | .coreDma c => okCore c
  | .coreDmaw c => okCore c
  | .coreSubmit c => okCore c
  | .coreFence c => okCore c
  | .coreEnd c => okCore c
  | .coreNop c => okCore c
  | .coreDmaDone c tag _ => okCore c && okTag8 tag
  | .contextSaveDone c => okCore c
  | .contextRestoreDone c => okCore c
  | .periodTableFire e => okPt e
  | .telSubmit g => okGroup g
  | .schedCancel src tag => okSrc src && okU16 tag
  | .ringEnable r => okRing r
  | .ringDisable r => okRing r
  | .ringResume r => okRing r
  | .hostDb r pi => okRing r && okU32 pi
  | .fetchFault r _ => okRing r
  | .ringNop r _ => okRing r
  | .workSubmit r _ => okRing r
  | .copy r _ => okRing r
  | .copyDone r _ => okRing r
  | .queue r _ => okRing r
  | .ringCancel r _ => okRing r
  | .transact r _ => okRing r
  | .transactValidated r _ => okRing r
  | .hostAbiSelWrite data => okU32 data
  | .msixUnmask v => okVec v
  | .bar0BadAccess _ _ => true
  | .registerWrite a data => okBar0 a && okU32 data
  | .scrubStep m _ => okClass m
  | .iommuCtrlWrite data => okU32 data
  | .iommuInv scope => okScope scope
  | .mhello l _ => okLane l
  | .mreply l _ => okLane l
  | .tsync l _ _ => okLane l
  | .health l _ => okLane l
  | .ckpt l _ => okLane l
  | .map l _ => okLane l
  | .dly l _ => okLane l
  | .dlyTimeout n => okStr n
  | .srep l _ => okLane l
  | .relay l _ => okLane l
  | .rtel l _ => okLane l
  | .returnReq l _ => okLane l
  | .offer l _ => okLane l
  | .ctrlAck l _ => okLane l
  | .ctrlRej l _ => okLane l
  | .resync l _ => okLane l
  | .islandSelftestDone _ cause => okU8 cause
  | .contactDebounce n _ _ => okSin n
  | .inputDiscrepancy d => okSin d.sin
  | .islandEvaluation rba rbb _ => okU8 rba && okU8 rbb
  | .offPulseTest o _ => okSout o
  | .configCrcCheck w flip => okImgWord w && okU32 flip
  | .rcMonitorCheck _ => true
  | .marchTest _ => true
  | .patternTest _ => true
  | .logicMemAccess wr => okOptU32 wr
  | .retainWriteDone _ => true
  | .vspCmd m => okU16 m
  | .arm g => okSeg g
  | .disarm g => okSeg g
  | .release g => okSeg g
  | .soft g => okSeg g
  | .rearmDone g => okSeg g
  | .vspConfigWrite g k data => okSeg g && okSegReg k && okU32 data
  | .vspRead r _ => okRing r
  | .vspReadDone r _ => okRing r
  | .adcStart c => okConv c
  | .adcResult c k _ _ => okConv c && okSlice k
  | .cal cv => okU8 cv
  | .calComplete c _ => okConv c
  | .accept cv => okU8 cv
  | .protCalRotate c fact => okConv c && okU16 fact
  | .adcRefSelect sel => okU2 sel
  | .ethFrameReceive p _ _ _ => okPort p
  | .subscriptionStale sv n => okSub sv n
  | .ethSend r _ => okRing r
  | .ethSendDone p _ => okPort p
  | .ethBuf r _ => okRing r
  | .ethTsqHeadRead p => okPort p
  | .ethFreqWrite v => okU32 v
  | .ethSlewWrite v => okU32 v
  | .ethSlewRateWrite v => okU32 v
  | .ppsInEdge => true
  | .canEnable n => okCan n
  | .canDisable n => okCan n
  | .recover n => okCan n
  | .canRecoveryDone n => okCan n
  | .canSend r _ => okRing r
  | .canFrameSent n _ _ => okCan n
  | .canTxError n _ => okCan n
  | .canFrameReceive n _ _ _ _ => okCan n
  | .canBuf r _ => okRing r
  | .imgErase r _ => okRing r
  | .imgProgram r _ => okRing r
  | .imgVerify r _ => okRing r
  | .imgCommit r _ => okRing r
  | .imgStepDone r _ => okRing r
  | .otpProgram slot => okSlot slot
  | .otpRevoke slot => okSlot slot
  | .otpProgramDone _ => true
  | .undefinedInstruction c => okCore c
  | .undefinedOpDescriptor r _ => okRing r
  | .mirrorFrameDiscarded l _ => okLane l
  | .cmdUndefined _ data => okU32 data
  | .ainComparatorEdge u _ _ _ => okTu u
  | .ethLinkUp p => okPort p
  | .ethLinkDown p => okPort p
  | .canRxError n _ => okCan n
  | .linkTrained speed width => okLink speed width
  | .cellPortUp c port => okCell c && okSide port
  | .cellPortLoss c port => okCell c && okSide port
  | .resetNLow => true
  | .startTimeLimit => true
  | .goReady => true
  | .goRun => true
  | .stop => true
  | .goConfig => true
  | .forceSafeHold => true
  | .periodEngineStart => true
  | .applyInstant => true
  | .periodEngineStall => true
  | .refHoldoverExpiry => true
  | .timedWriteFire => true
  | .timeCntClr => true
  | .enumStart => true
  | .blkInject => true
  | .obsUpdate => true
  | .vectorDelivery => true
  | .modCntClr => true
  | .trimWrap => true
  | .modMcntClr => true
  | .tripCntClr => true
  | .schedDispatch => true
  | .schedPreempt => true
  | .spillRefill => true
  | .deadlineExpiry => true
  | .affWaitExpiry => true
  | .quotaWindowEnd => true
  | .schedCntClr => true
  | .ringDrainDone => true
  | .transactCommit => true
  | .irqCoalesceTimeout => true
  | .linkReset => true
  | .hostCntClr => true
  | .memCntClr => true
  | .iommuInvDone => true
  | .iommuCntClr => true
  | .actInHigh => true
  | .actInLow => true
  | .initialClaimStart => true
  | .claimGuardEnd => true
  | .claimVetoEnd => true
  | .claimConfirm => true
  | .heartbeatExpiry => true
  | .returnHoldoffExpiry => true
  | .returnTimeout => true
  | .handover => true
  | .finalSegmentSent => true
  | .finalCaptureApply => true
  | .finalCaptureTimeout => true
  | .leavingReclaim => true
  | .pairCntClr => true
  | .vddsafeUp => true
  | .vddsafeLoss => true
  | .commit => true
  | .islandReset => true
  | .freset => true
  | .safeCntClr => true
  | .sapDelayExpiry => true
  | .watchdogExpiry => true
  | .vddsafeOutOfRange => true
  | .logicCycleStart => true
  | .startCold => true
  | .startWarm => true
  | .logicStop => true
  | .validate => true
  | .validateDone => true
  | .exchange => true
  | .logicCntClr => true
  | .logicLd => true
  | .logicLdn => true
  | .logicAnd => true
  | .logicAndn => true
  | .logicOr => true
  | .logicOrn => true
  | .logicXor => true
  | .logicSt => true
  | .logicStn => true
  | .logicSet => true
  | .logicRst => true
  | .logicNot => true
  | .pusha => true
  | .pusho => true
  | .pop => true
  | .logicRe => true
  | .logicFe => true
  | .ton => true
  | .tof => true
  | .tp => true
  | .ctu => true
  | .ctd => true
  | .crst => true
  | .ldw => true
  | .ldi => true
  | .ldih => true
  | .stw => true
  | .stwc => true
  | .logicAdd => true
  | .logicSub => true
  | .logicMul => true
  | .andw => true
  | .orw => true
  | .xorw => true
  | .addi => true
  | .logicShl => true
  | .logicShr => true
  | .logicSar => true
  | .ceq => true
  | .cgt => true
  | .clt => true
  | .logicBit => true
  | .jmp => true
  | .jt => true
  | .jf => true
  | .logicEnd => true
  | .rdr => true
  | .wrr => true
  | .subm => true
  | .logicNop => true
  | .vspTick => true
  | .triggerUnitFire => true
  | .triggerTimeout => true
  | .vspCntClr => true
  | .freeRunSample => true
  | .calInterrupt => true
  | .adcCntClr => true
  | .refSettled => true
  | .slewDone => true
  | .stepGo => true
  | .holdover => true
  | .ppsOutPulse => true
  | .ethPpsinSecRead => true
  | .ethCntClr => true
  | .noAckAlone => true
  | .take => true
  | .canCorrLatch => true
  | .canCntClr => true
  | .referenceOutOfTolerance => true

end Sys2Proof
end

