-- ==== Sys2Proof/Machine/Rows.lean ====
section
/-! DEFINITION. What the commands' meanings share: host accesses to BAR0, the events of a lane as
its string or the pair takes them, and the gate that every meaning passes. -/

namespace Sys2Proof.Machine

open Sys2Proof

/-- A command acts where its operands are well formed; an ill-formed one is refused. -/
def gate (ok : Bool) (t : State) : Host.Outcome State Fault Refusal :=
  if ok then .next t else .refused .illFormed

/-! ## Accesses to BAR0 -/

/-- A host write of one field; the other bits of its register are written as they stand. -/
def State.hostF (s : State) (f : Fld) (v : Nat) : State :=
  s.hostW f.addr (setBits (s.word f) f.lo f.w v)

/-- A write of a whole register by an origin (R58). -/
def State.orgW (s : State) (org a data : Nat) : State :=
  if s.dev.inReset then s
  else s.busW { a := a, mask := 0xFFFFFFFF, data := data % 2 ^ 32, org := org, via := .direct }

/-- A host read of a register; a part in RESET answers none. -/
def State.hostR (s : State) (a : Nat) : State :=
  if s.dev.inReset then s
  else
    let (d, bad, t) := s.busR a 0 0x38
    t.emit (.bar0 d bad false)

/-- An access of LOGIC_MEM_DATA by the host: a write of a word, or a read. -/
def State.logicPort (s : State) (wr : Option Nat) : State :=
  match wr with
  | some v => s.hostW R.LOGIC_MEM_DATA.addr v
  | none => s.hostR R.LOGIC_MEM_DATA.addr

/-- An access that is not an aligned 32-bit access is answered as an Unsupported Request, which AER
notes (R320, R321); one that is aligned is a plain read of its offset, register or memory. -/
def State.badAccess (s : State) (a size : Nat) : State :=
  if s.dev.inReset then s
  else if a % 4 = 0 && size = 4 then s.hostR a
  else (s.aer aerUnsupported).emit (.bar0 0 false true)

/-- A write puts an undefined code into a command register (R6 and the registers' tables). -/
def undefCmd (a data : Nat) : Bool :=
  let c := data % 16
  (a = R.DEV_CMD.addr && !([1, 2, 3, 4, 15] : List Nat).contains c) ||
    (a = R.DEV_OTP_CMD.addr && !([1, 2] : List Nat).contains (data % 4)) ||
    (a = R.SAFE_CMD.addr && !([1, 2, 3, 4] : List Nat).contains c) ||
    cmdBad { a := a, mask := 0xFFFFFFFF, data := data, org := 0, via := .direct }

/-- The event CMD_UNDEFINED: a host write of an undefined code. -/
def State.cmdUndef (s : State) (a data : Nat) : State := if undefCmd a data then s.hostW a data else s

/-! ## Lanes and their blocks -/

/-- A mirror frame arrives on lane l as the receiver delivers it; one that an error has spoilt is
discarded and counted (R77, R392). -/
def State.onMirror (s : State) (l : Nat) (f : Bytes) (k : State → Bytes → State) : State :=
  if (s.lane l).hurt.isEmpty then k s f else s.onFrame l f (fun s f => s.mirDiscard l f)

/-- A frame arrives on the lane of string n. -/
def State.onString (s : State) (n : Nat) (f : Bytes) (k : State → Bytes → State) : State :=
  match s.strLane? n with
  | some l => s.onFrame l f k
  | none => k s f

/-- A code error on lane l (R69, R72); where it clears SYNC an UP lane falls back to TRAIN at once
(R90), a mirror lane with the link (R390). -/
def State.laneCode (s : State) (l gap : Nat) (rd : Bool) (code : Nat) (pos : Option Nat) : State :=
  let t := s.codeError l gap rd code pos
  if s.on (F.LANE_STAT_SYNC l) && !t.on (F.LANE_STAT_SYNC l) then
    let mirror := decide (t.lrole l = .mirror)
    (t.laneDrop l).when mirror (·.linkUpd)
  else t

/-- Time moves on to the apply instant that cell c has placed, where that lies ahead (R129). -/
def State.toCell (s : State) (c : Nat) : State :=
  match (s.cell c).dueAt with
  | some t => s.pass (s.room (t - s.elapsed))
  | none => s

/-- A valid reply in HELLO (R90): the lane comes UP; in SAFE_HOLD its BLK goes out (R93). A string of a NIGHTWATCH that was IDLE goes
to WATCH (R154); a mirror lane takes the reply as MREPLY does. -/
def State.laneReply (s : State) (l : Nat) (f : Bytes) : State :=
  if s.lrole l = .mirror then s.mreply l f
  else if s.linkReplyOk l f then
    let s := s.laneUp l
    let s := s.when (s.gst = .safeHold) (·.holdLane l)
    let n := s.lidx l
    if n < Config.strings then
      if s.live && s.role = .nightwatch && s.sst n = .idle then s.strStop n .watch else s.strFlags n
    else s
  else s

/-- An UP lane falls back to TRAIN (R90): its signal has been lost for 1 µs (`sig`), or R72 has
cleared SYNC. A mirror lane takes the link with it (R390). -/
def State.laneLos (s : State) (l : Nat) (sig : Bool) : State :=
  let s := s.when (sig && !s.nearEnd l) (·.sigLost l)
  if s.on (F.LANE_STAT_SYNC l) then s
  else
    let mirror := decide (s.lrole l = .mirror)
    (s.laneDrop l).when mirror (·.linkUpd)

/-! ## Others -/

/-- Nanoseconds to the next wrap of a running trim counter. -/
def State.wrapIn (s : State) : Option Nat :=
  (s.modu.trims.filterMap (fun p =>
    if p.2.running then some (s.get (F.MOD_TRIM_PER_PER p.1) - p.2.count) else none)).min?

/-- The next wrap of a trim counter (R186): time moves on to it, where it lies before the next
apply instant (notes/assumptions/29.md). -/
def State.trimWrap (s : State) : State :=
  match s.wrapIn with
  | some n => if s.room n = n then s.pass n else s
  | none => s

/-- An arm's vector block may be delivered: its update and the deliveries of the arms before it
are done (R177, R178). -/
def State.vectorReady (s : State) (a : Nat) : Bool :=
  s.live && s.holder && s.on (F.MOD_ARM_DST_EN a) && !(s.armCells a).isEmpty && (s.arm a).updated &&
    !(s.arm a).delivered && (List.range a).all s.armDone

/-- The next vector block is delivered: the first from VEC on (R43). -/
def State.vectorNext (s : State) : State :=
  match (List.range 6).find? s.vectorReady with
  | some a => (s.toOfs (s.get F.TIME_MOD_OFS_VEC)).vectorDeliver a
  | none => s

/-- The observer update of a period at OBS (R43) with what follows it: Vesper's sources take its
results (R472), and the island gets the period's token (R437). -/
def State.obsTick (s : State) : State :=
  s.when s.obsDue (fun s =>
    s.onLine .obs 0 (s.get F.TIME_MOD_OFS_OBS) (fun s => (s.obsUpdate.vspObs).wdToken))

/-- START of group g (R43, R51). -/
def State.startAt (s : State) (g : Nat) : State :=
  s.when (s.lgActs g) (fun s => s.onLine .start g (s.get (F.TIME_LG_OFS0_START_OFS g)) (·.lgStart g))

/-- EVAL of group g (R43, R51, R297): its signals reach Vesper with it (R472). -/
def State.evalAt (s : State) (g : Nat) : State :=
  s.when (s.cengOn && s.lgActs g) (fun s =>
    s.onLine .eval g (s.get (F.TIME_LG_OFS0_EVAL_OFS g)) (fun t => (t.cengEvaluate g).vspCeng g))

/-- CUT of group g (R43, R44). -/
def State.cutAt (s : State) (g : Nat) : State :=
  s.when ((s.live || s.strokes) && s.lgActs g) (fun s =>
    s.onLine .cut g (s.get (F.TIME_LG_OFS1_CUT_OFS g)) (·.launchCut g))

/-- The bow of group g (R43, R52). -/
def State.bowAt (s : State) (g : Nat) : State :=
  s.when (s.strokes && s.lgActs g) (fun s =>
    s.onLine .bow g (s.get (F.TIME_LG_OFS1_LAUNCH_OFS g)) (·.bow g))

/-- Time moves on to the sampling instant of the oldest conversion of converter c, where that lies
ahead (R494). -/
def State.toSample (s : State) (c : Nat) : State :=
  match (s.cv c).flight with
  | f :: _ => s.advTo ((f.at' + 65535) / 65536)
  | [] => s

/-- A conversion of converter c completes; a result that reaches DATA reaches Vesper (R494,
R477). -/
def State.adcEnd (s : State) (c k : Nat) (r : Int) (beyond : Bool) : State :=
  let s := s.toSample c
  let n := (s.cv c).flight.length
  let t := s.adcResult c k r beyond
  t.when (s.adcLive && !s.on (F.ADC_STAT_CAL_BUSY c) && (t.cv c).flight.length ≠ n) (·.vspAdc c)

/-- Nanoseconds until the slew that runs has moved station time by SLEW (R517). -/
def State.slewIn (s : State) : Nat :=
  let n := (s.time.slew.natAbs * 1000000 : Int) - s.time.acc
  let d := 65536 * s.get F.ETH_SLEW_RATE_RATE
  (n.toNat + d - 1) / d

/-- The slew ends (R517): time moves on to there. -/
def State.slewEnd (s : State) : State :=
  if s.on F.ETH_TIME_STAT_SLEW_BUSY then
    let s := s.pass (s.room s.slewIn)
    s.when (s.time.slew = 0) (·.slewDone)
  else s

/-- The next pulse of PPS_OUT (R521): time moves on to it. -/
def State.ppsNext (s : State) : State :=
  if s.on F.ETH_PPS_CFG_PPS_OUT_EN && !s.dev.inReset then (s.pass (s.room s.ppsDue)).ppsOut else s

/-- The time limit of a subscription passes (R527): time moves on to its end. -/
def State.staleNext (s : State) (sv : Bool) (i : Nat) : State :=
  match s.subLimit sv i with
  | some t =>
    let s := s.when (!s.dev.inReset) (fun s => s.pass (s.room (t - s.elapsed)))
    s.when (t ≤ s.elapsed) (·.subStale sv i)
  | none => s.subStale sv i

/-- 10 s since the latest write of an adjustment register, or since RESET (R520): time moves on to
their end. -/
def State.holdoverNext (s : State) : State :=
  if s.dev.inReset then s
  else
    let t := s.eth.adjAt.getD (s.elapsed - s.time.cyc) + 10000000000
    let s := s.pass (s.room (t - s.elapsed))
    s.when (t ≤ s.elapsed) (·.holdover)

/-- Items of the hardware queues that wait for their stream's core (R281). -/
def State.affWaiting (s : State) : List Item :=
  ((List.range 8).flatMap s.queue).filter (fun i => i.affEn && !i.affOver && s.affWaits i)

/-- Of two items the one that became ready first. -/
def elder (i j : Item) : Item :=
  if j.ready < i.ready || (j.ready = i.ready && j.uid < i.uid) then j else i

/-- AFF_WAIT runs out for the item that has waited longest: time moves on to there (R281). -/
def State.affNext (s : State) : State :=
  match s.affWaiting with
  | [] => s
  | i :: r =>
    let j := r.foldl elder i
    (s.pass (s.room (j.ready + s.get F.SCHED_CFG_AFF_WAIT - s.time.cyc))).affExpire j.uid

/-- The pending transaction that applies next and is not committed yet: its ring, its
descriptor's index and its instant (R353). -/
def State.commitNext (s : State) : Option (Nat × Nat × Nat) :=
  (s.host.txns.filterMap (fun t =>
    if t.committed || !t.valid then none
    else (s.txnNext t).map (fun a => (t.ring, t.idx, a)))).foldl (fun m e =>
      match m with
      | none => some e
      | some b => if e.2.2 < b.2.2 then some e else some b) none

/-- The next transaction is committed. -/
def State.commitDue (s : State) : State :=
  match s.commitNext with
  | some (r, idx, _) => s.txnCommit r idx
  | none => s

/-- The trigger unit whose oldest detected trigger is the earliest. -/
def State.fireNext (s : State) : Option (Nat × Nat) :=
  (List.range 8).foldl (fun m u =>
    match (s.tu u).fires with
    | [] => m
    | (t, _) :: _ =>
      match m with
      | none => some (u, t)
      | some (v, t') => if t < t' then some (u, t) else some (v, t')) none

/-- The earliest detected trigger fires (R478, R479). -/
def State.fireDue (s : State) : State :=
  match s.fireNext with
  | some (u, _) => s.tuFire u
  | none => s

/-- The ring whose coalescing time runs out first (R345). -/
def State.irqNext (s : State) : Option (Nat × Nat) :=
  (List.range Config.rings).foldl (fun m r =>
    if (s.ring r).gathered = 0 then m
    else
      let t := (s.ring r).gatherAt + s.get (F.HOST_RING_IRQ_TIME r) * 1000
      match m with
      | none => some (r, t)
      | some (q, t') => if t < t' then some (r, t) else some (q, t')) none

/-- The coalescing time that ends first ends. -/
def State.irqDue (s : State) : State :=
  match s.irqNext with
  | some (r, _) => s.irqTimeout r
  | none => s

/-- An event of each of n units in rising order. -/
def State.each (s : State) (n : Nat) (f : State → Nat → State) : State := (List.range n).foldl f s

/-- A configuration register of segment g: CFG, MEM, CHLO, CHHI, POST, TRIG. -/
def segReg (g k : Nat) : Nat :=
  match k with
  | 0 => (R.VSP_SEG_CFG g).addr
  | 1 => (R.VSP_SEG_MEM g).addr
  | 2 => (R.VSP_SEG_CHLO g).addr
  | 3 => (R.VSP_SEG_CHHI g).addr
  | 4 => (R.VSP_SEG_POST g).addr
  | _ => (R.VSP_SEG_TRIG g).addr

/-- A comparison of ACC with a word, both signed (R451). -/
def State.lCmp (s : State) (w : Nat) (f : Int → Int → Bool) : State :=
  s.lWordRd w (fun d t => t.setLa (f (sx 32 t.logic.acc) (sx 32 d)))

end Sys2Proof.Machine
end

