-- ==== Sys2Proof/Machine/ExecAdc.lean ====
section
/-! DEFINITION. What the commands of one part of the table do. Analogue inputs (R489 to R502). -/

namespace Sys2Proof.Machine

open Sys2Proof

/-- START (R491). -/
def execAdcStart (c : Nat) (s : State) : Host.Outcome State Fault Refusal :=
  gate (okConv c) (s.hostF (F.ADC_CTRL_START c) 1)

/-- FREE_RUN_SAMPLE (R491). -/
def execFreeRunSample (s : State) : Host.Outcome State Fault Refusal :=
  gate true (s.each 8 State.freeSample)

/-- ADC_RESULT (R494). -/
def execAdcResult (c : Nat) (k : Nat) (raw : Int) (beyond : Bool) (s : State) : Host.Outcome State Fault Refusal :=
  gate (okConv c && okSlice k) (s.adcEnd c k raw beyond)

/-- CAL (R497). -/
def execCal (cv : Nat) (s : State) : Host.Outcome State Fault Refusal :=
  gate (okU8 cv) (s.hostW R.ADC_CMD.addr (1 + 256 * cv))

/-- CAL_COMPLETE (R497). -/
def execCalComplete (c : Nat) (facts : List Nat) (s : State) : Host.Outcome State Fault Refusal :=
  gate (okConv c) (s.calComplete c facts)

/-- CAL_INTERRUPT (R498). -/
def execCalInterrupt (s : State) : Host.Outcome State Fault Refusal :=
  gate true (s.each 8 State.calInterrupt)

/-- ACCEPT (R499). -/
def execAccept (cv : Nat) (s : State) : Host.Outcome State Fault Refusal :=
  gate (okU8 cv) (s.hostW R.ADC_CMD.addr (2 + 256 * cv))

/-- ADC_CNT_CLR (R7). -/
def execAdcCntClr (s : State) : Host.Outcome State Fault Refusal :=
  gate true (s.hostW R.ADC_CMD.addr 3)

/-- PROT_CAL_ROTATE (R496). -/
def execProtCalRotate (c : Nat) (fact : Nat) (s : State) : Host.Outcome State Fault Refusal :=
  gate (okConv c && okU16 fact) (s.calRotate c fact)

/-- ADC_REF_SELECT (R500). -/
def execAdcRefSelect (sel : Nat) (s : State) : Host.Outcome State Fault Refusal :=
  gate (okU2 sel) (s.hostF F.ADC_REF_SEL sel)

/-- REF_SETTLED (R500). -/
def execRefSettled (s : State) : Host.Outcome State Fault Refusal :=
  gate true (s.refSettled)

/-- REFERENCE_OUT_OF_TOLERANCE (R500). -/
def execReferenceOutOfTolerance (s : State) : Host.Outcome State Fault Refusal :=
  gate true (s.refOut)

end Sys2Proof.Machine
end

