-- ==== Sys2Proof/Machine/ExecCan.lean ====
section
/-! DEFINITION. What the commands of one part of the table do. CAN (R529 to R543). -/

namespace Sys2Proof.Machine

open Sys2Proof

/-- CAN_ENABLE (R530). -/
def execCanEnable (n : Nat) (s : State) : Host.Outcome State Fault Refusal :=
  gate (okCan n) (s.hostF (F.CAN_CTRL_EN n) 1)

/-- CAN_DISABLE (R540). -/
def execCanDisable (n : Nat) (s : State) : Host.Outcome State Fault Refusal :=
  gate (okCan n) (s.hostF (F.CAN_CTRL_EN n) 0)

/-- RECOVER (R538). -/
def execRecover (n : Nat) (s : State) : Host.Outcome State Fault Refusal :=
  gate (okCan n) (s.hostF (F.CAN_CTRL_RECOVER n) 1)

/-- CAN_RECOVERY_DONE (R538). -/
def execCanRecoveryDone (n : Nat) (s : State) : Host.Outcome State Fault Refusal :=
  gate (okCan n) (s.canRecovered n)

/-- CAN_SEND (R536). -/
def execCanSend (r : Nat) (hm : HostMem) (s : State) : Host.Outcome State Fault Refusal :=
  gate (okRing r) ((s.see hm).canSend r hm)

/-- CAN_FRAME_SENT (R536). -/
def execCanFrameSent (n : Nat) (sync : Bool) (ago : Nat) (s : State) : Host.Outcome State Fault Refusal :=
  gate (okCan n) (s.canSent n sync ago)

/-- CAN_TX_ERROR (R538). -/
def execCanTxError (n : Nat) (kind : CanTxErr) (s : State) : Host.Outcome State Fault Refusal :=
  gate (okCan n) (s.canTxError n kind)

/-- NO_ACK_ALONE (R539). -/
def execNoAckAlone (s : State) : Host.Outcome State Fault Refusal :=
  gate true (s.each 2 State.canAlone)

/-- CAN_FRAME_RECEIVE (R541). -/
def execCanFrameReceive (n : Nat) (id : Nat) (fmt : Nat) (data : Bytes) (ago : Nat) (s : State) : Host.Outcome State Fault Refusal :=
  gate (okCan n) (s.canReceive n id fmt data ago)

/-- CAN_BUF (R541). -/
def execCanBuf (r : Nat) (hm : HostMem) (s : State) : Host.Outcome State Fault Refusal :=
  gate (okRing r) ((s.see hm).canBuf r hm)

/-- TAKE (R543). -/
def execTake (s : State) : Host.Outcome State Fault Refusal :=
  gate true (s.hostW R.CAN_CORR_CMD.addr 1)

/-- CAN_CORR_LATCH (R543). -/
def execCanCorrLatch (s : State) : Host.Outcome State Fault Refusal :=
  gate true (s.canLatch)

/-- CAN_CNT_CLR (R7). -/
def execCanCntClr (s : State) : Host.Outcome State Fault Refusal :=
  gate true (s.hostW R.CAN_CNT_CLR.addr 1)

/-- CAN_RX_ERROR (R538). -/
def execCanRxError (n : Nat) (dominant : Bool) (s : State) : Host.Outcome State Fault Refusal :=
  gate (okCan n) (s.canRxError n dominant)

end Sys2Proof.Machine
end

