-- ==== Sys2Proof/Machine/ExecCell.lean ====
section
/-! DEFINITION. What the commands of one part of the table do. Cell controllers (R98 to R143, R405). -/

namespace Sys2Proof.Machine

open Sys2Proof

/-- CELL_HELLO (R107). -/
def execCellHello (c : Nat) (port : Nat) (f : Bytes) (s : State) : Host.Outcome State Fault Refusal :=
  gate (okCell c && okSide port) (s.cellHello c port f)

/-- CELL_ASSIGN (R110). -/
def execCellAssign (c : Nat) (port : Nat) (f : Bytes) (s : State) : Host.Outcome State Fault Refusal :=
  gate (okCell c && okSide port) (s.cellAssign c port f)

/-- CELL_ECHO (R112). -/
def execCellEcho (c : Nat) (port : Nat) (f : Bytes) (s : State) : Host.Outcome State Fault Refusal :=
  gate (okCell c && okSide port) (s.cellEcho c port f)

/-- CELL_RELEASE (R113). -/
def execCellRelease (c : Nat) (port : Nat) (f : Bytes) (s : State) : Host.Outcome State Fault Refusal :=
  gate (okCell c && okSide port) (s.cellRelease c port f)

/-- CELL_STROKE (R128). -/
def execCellStroke (c : Nat) (port : Nat) (f : Bytes) (m : CellMeas) (s : State) : Host.Outcome State Fault Refusal :=
  gate (okCell c && okSide port) (s.cellStroke c port f m)

/-- CELL_APPLY_INSTANT (R132). -/
def execCellApplyInstant (c : Nat) (s : State) : Host.Outcome State Fault Refusal :=
  gate (okCell c) ((s.toCell c).cellApply c)

/-- CELL_BLK (R143). -/
def execCellBlk (c : Nat) (port : Nat) (g : Nat) (fourth : Nat) (s : State) : Host.Outcome State Fault Refusal :=
  gate (okCell c && okSide port && okU8 g && okU8 fourth) (s.cellBlk c port g fourth)

/-- CELL_AUTH_TIMEOUT (R405). -/
def execCellAuthTimeout (c : Nat) (s : State) : Host.Outcome State Fault Refusal :=
  gate (okCell c) (s.cellAuthTimeout c)

/-- CELL_PORT_UP (R99). -/
def execCellPortUp (c : Nat) (port : Nat) (s : State) : Host.Outcome State Fault Refusal :=
  gate (okCell c && okSide port) (s.cellPortUp c port)

/-- CELL_PORT_LOSS (R99). -/
def execCellPortLoss (c : Nat) (port : Nat) (s : State) : Host.Outcome State Fault Refusal :=
  gate (okCell c && okSide port) (s.cellPortLoss c port)

end Sys2Proof.Machine
end

