-- ==== Sys2Proof/Machine/ExecCore.lean ====
section
/-! DEFINITION. What the commands of one part of the table do. The instructions of the signal-processing cores
(R225 to R265). -/

namespace Sys2Proof.Machine

open Sys2Proof

/-- ADD (R238). -/
def execCoreAdd (c : Nat) (s : State) : Host.Outcome State Fault Refusal :=
  gate (okCore c) (s.coAdd c)

/-- SUB (R238). -/
def execCoreSub (c : Nat) (s : State) : Host.Outcome State Fault Refusal :=
  gate (okCore c) (s.coSub c)

/-- AND (R238). -/
def execCoreAnd (c : Nat) (s : State) : Host.Outcome State Fault Refusal :=
  gate (okCore c) (s.coAnd c)

/-- OR (R238). -/
def execCoreOr (c : Nat) (s : State) : Host.Outcome State Fault Refusal :=
  gate (okCore c) (s.coOr c)

/-- XOR (R238). -/
def execCoreXor (c : Nat) (s : State) : Host.Outcome State Fault Refusal :=
  gate (okCore c) (s.coXor c)

/-- ANDN (R238). -/
def execCoreAndn (c : Nat) (s : State) : Host.Outcome State Fault Refusal :=
  gate (okCore c) (s.coAndn c)

/-- SHL (R238). -/
def execCoreShl (c : Nat) (s : State) : Host.Outcome State Fault Refusal :=
  gate (okCore c) (s.coShl c)

/-- SHR (R238). -/
def execCoreShr (c : Nat) (s : State) : Host.Outcome State Fault Refusal :=
  gate (okCore c) (s.coShr c)

/-- SAR (R238). -/
def execCoreSar (c : Nat) (s : State) : Host.Outcome State Fault Refusal :=
  gate (okCore c) (s.coSar c)

/-- MUL (R238). -/
def execCoreMul (c : Nat) (s : State) : Host.Outcome State Fault Refusal :=
  gate (okCore c) (s.coMul c)

/-- CMP (R238). -/
def execCoreCmp (c : Nat) (s : State) : Host.Outcome State Fault Refusal :=
  gate (okCore c) (s.coCmp c)

/-- MOV (R238). -/
def execCoreMov (c : Nat) (s : State) : Host.Outcome State Fault Refusal :=
  gate (okCore c) (s.coMov c)

/-- POPC (R238). -/
def execCorePopc (c : Nat) (s : State) : Host.Outcome State Fault Refusal :=
  gate (okCore c) (s.coPopc c)

/-- CLZ (R238). -/
def execCoreClz (c : Nat) (s : State) : Host.Outcome State Fault Refusal :=
  gate (okCore c) (s.coClz c)

/-- LD (R242). -/
def execCoreLd (c : Nat) (s : State) : Host.Outcome State Fault Refusal :=
  gate (okCore c) (s.coLd c)

/-- ST (R240). -/
def execCoreSt (c : Nat) (s : State) : Host.Outcome State Fault Refusal :=
  gate (okCore c) (s.coSt c)

/-- LDX (R238). -/
def execCoreLdx (c : Nat) (s : State) : Host.Outcome State Fault Refusal :=
  gate (okCore c) (s.coLdx c)

/-- STX (R238). -/
def execCoreStx (c : Nat) (s : State) : Host.Outcome State Fault Refusal :=
  gate (okCore c) (s.coStx c)

/-- VLD (R244). -/
def execCoreVld (c : Nat) (s : State) : Host.Outcome State Fault Refusal :=
  gate (okCore c) (s.coVld c)

/-- VST (R238). -/
def execCoreVst (c : Nat) (s : State) : Host.Outcome State Fault Refusal :=
  gate (okCore c) (s.coVst c)

/-- VGET (R238). -/
def execCoreVget (c : Nat) (s : State) : Host.Outcome State Fault Refusal :=
  gate (okCore c) (s.coVget c)

/-- VPUT (R238). -/
def execCoreVput (c : Nat) (s : State) : Host.Outcome State Fault Refusal :=
  gate (okCore c) (s.coVput c)

/-- VBC (R238). -/
def execCoreVbc (c : Nat) (s : State) : Host.Outcome State Fault Refusal :=
  gate (okCore c) (s.coVbc c)

/-- VADD (R249). -/
def execCoreVadd (c : Nat) (s : State) : Host.Outcome State Fault Refusal :=
  gate (okCore c) (s.coVadd c)

/-- VSUB (R249). -/
def execCoreVsub (c : Nat) (s : State) : Host.Outcome State Fault Refusal :=
  gate (okCore c) (s.coVsub c)

/-- VAND (R238). -/
def execCoreVand (c : Nat) (s : State) : Host.Outcome State Fault Refusal :=
  gate (okCore c) (s.coVand c)

/-- VOR (R238). -/
def execCoreVor (c : Nat) (s : State) : Host.Outcome State Fault Refusal :=
  gate (okCore c) (s.coVor c)

/-- VXOR (R238). -/
def execCoreVxor (c : Nat) (s : State) : Host.Outcome State Fault Refusal :=
  gate (okCore c) (s.coVxor c)

/-- VANDN (R238). -/
def execCoreVandn (c : Nat) (s : State) : Host.Outcome State Fault Refusal :=
  gate (okCore c) (s.coVandn c)

/-- VMAC (R247). -/
def execCoreVmac (c : Nat) (s : State) : Host.Outcome State Fault Refusal :=
  gate (okCore c) (s.coVmac c)

/-- VMSU (R247). -/
def execCoreVmsu (c : Nat) (s : State) : Host.Outcome State Fault Refusal :=
  gate (okCore c) (s.coVmsu c)

/-- VMACM (R247). -/
def execCoreVmacm (c : Nat) (s : State) : Host.Outcome State Fault Refusal :=
  gate (okCore c) (s.coVmacm c)

/-- VACLR (R238). -/
def execCoreVaclr (c : Nat) (s : State) : Host.Outcome State Fault Refusal :=
  gate (okCore c) (s.coVaclr c)

/-- VEXT (R248). -/
def execCoreVext (c : Nat) (s : State) : Host.Outcome State Fault Refusal :=
  gate (okCore c) (s.coVext c)

/-- SCLR (R238). -/
def execCoreSclr (c : Nat) (s : State) : Host.Outcome State Fault Refusal :=
  gate (okCore c) (s.coSclr c)

/-- SRCH (R250). -/
def execCoreSrch (c : Nat) (s : State) : Host.Outcome State Fault Refusal :=
  gate (okCore c) (s.coSrch c)

/-- SGET (R238). -/
def execCoreSget (c : Nat) (s : State) : Host.Outcome State Fault Refusal :=
  gate (okCore c) (s.coSget c)

/-- SMAC (R247). -/
def execCoreSmac (c : Nat) (s : State) : Host.Outcome State Fault Refusal :=
  gate (okCore c) (s.coSmac c)

/-- SMSU (R247). -/
def execCoreSmsu (c : Nat) (s : State) : Host.Outcome State Fault Refusal :=
  gate (okCore c) (s.coSmsu c)

/-- SMAC2 (R247). -/
def execCoreSmac2 (c : Nat) (s : State) : Host.Outcome State Fault Refusal :=
  gate (okCore c) (s.coSmac2 c)

/-- SACLR (R238). -/
def execCoreSaclr (c : Nat) (s : State) : Host.Outcome State Fault Refusal :=
  gate (okCore c) (s.coSaclr c)

/-- SEXT (R248). -/
def execCoreSext (c : Nat) (s : State) : Host.Outcome State Fault Refusal :=
  gate (okCore c) (s.coSext c)

/-- FADD (R252). -/
def execCoreFadd (c : Nat) (s : State) : Host.Outcome State Fault Refusal :=
  gate (okCore c) (s.coFadd c)

/-- FSUB (R252). -/
def execCoreFsub (c : Nat) (s : State) : Host.Outcome State Fault Refusal :=
  gate (okCore c) (s.coFsub c)

/-- FMUL (R252). -/
def execCoreFmul (c : Nat) (s : State) : Host.Outcome State Fault Refusal :=
  gate (okCore c) (s.coFmul c)

/-- FMA (R252). -/
def execCoreFma (c : Nat) (s : State) : Host.Outcome State Fault Refusal :=
  gate (okCore c) (s.coFma c)

/-- FDIV (R252). -/
def execCoreFdiv (c : Nat) (s : State) : Host.Outcome State Fault Refusal :=
  gate (okCore c) (s.coFdiv c)

/-- FSQRT (R252). -/
def execCoreFsqrt (c : Nat) (s : State) : Host.Outcome State Fault Refusal :=
  gate (okCore c) (s.coFsqrt c)

/-- FMIN (R253). -/
def execCoreFmin (c : Nat) (s : State) : Host.Outcome State Fault Refusal :=
  gate (okCore c) (s.coFmin c)

/-- FMAX (R253). -/
def execCoreFmax (c : Nat) (s : State) : Host.Outcome State Fault Refusal :=
  gate (okCore c) (s.coFmax c)

/-- FCMP (R253). -/
def execCoreFcmp (c : Nat) (s : State) : Host.Outcome State Fault Refusal :=
  gate (okCore c) (s.coFcmp c)

/-- FCVTI (R252). -/
def execCoreFcvti (c : Nat) (s : State) : Host.Outcome State Fault Refusal :=
  gate (okCore c) (s.coFcvti c)

/-- FCVTF (R253). -/
def execCoreFcvtf (c : Nat) (s : State) : Host.Outcome State Fault Refusal :=
  gate (okCore c) (s.coFcvtf c)

/-- FABS (R238). -/
def execCoreFabs (c : Nat) (s : State) : Host.Outcome State Fault Refusal :=
  gate (okCore c) (s.coFabs c)

/-- FNEG (R238). -/
def execCoreFneg (c : Nat) (s : State) : Host.Outcome State Fault Refusal :=
  gate (okCore c) (s.coFneg c)

/-- PSET (R245). -/
def execCorePset (c : Nat) (s : State) : Host.Outcome State Fault Refusal :=
  gate (okCore c) (s.coPset c)

/-- PGET (R238). -/
def execCorePget (c : Nat) (s : State) : Host.Outcome State Fault Refusal :=
  gate (okCore c) (s.coPget c)

/-- PUPD (R242). -/
def execCorePupd (c : Nat) (s : State) : Host.Outcome State Fault Refusal :=
  gate (okCore c) (s.coPupd c)

/-- MFS (R235). -/
def execCoreMfs (c : Nat) (s : State) : Host.Outcome State Fault Refusal :=
  gate (okCore c) (s.coMfs c)

/-- MTS (R235). -/
def execCoreMts (c : Nat) (s : State) : Host.Outcome State Fault Refusal :=
  gate (okCore c) (s.coMts c)

/-- B (R238). -/
def execCoreB (c : Nat) (s : State) : Host.Outcome State Fault Refusal :=
  gate (okCore c) (s.coB c)

/-- BR (R238). -/
def execCoreBr (c : Nat) (s : State) : Host.Outcome State Fault Refusal :=
  gate (okCore c) (s.coBr c)

/-- CALL (R238). -/
def execCoreCall (c : Nat) (s : State) : Host.Outcome State Fault Refusal :=
  gate (okCore c) (s.coCall c)

/-- LOOP (R254). -/
def execCoreLoop (c : Nat) (s : State) : Host.Outcome State Fault Refusal :=
  gate (okCore c) (s.coLoop c)

/-- DMA (R256). -/
def execCoreDma (c : Nat) (s : State) : Host.Outcome State Fault Refusal :=
  gate (okCore c) (s.coDma c)

/-- DMAW (R256). -/
def execCoreDmaw (c : Nat) (s : State) : Host.Outcome State Fault Refusal :=
  gate (okCore c) (s.coDmaw c)

/-- SUBMIT (R239). -/
def execCoreSubmit (c : Nat) (s : State) : Host.Outcome State Fault Refusal :=
  gate (okCore c) (s.coSubmit c)

/-- FENCE (R240). -/
def execCoreFence (c : Nat) (s : State) : Host.Outcome State Fault Refusal :=
  gate (okCore c) (s.coFence c)

/-- END (R239). -/
def execCoreEnd (c : Nat) (s : State) : Host.Outcome State Fault Refusal :=
  gate (okCore c) (s.coEnd c)

/-- NOP (R238). -/
def execCoreNop (c : Nat) (s : State) : Host.Outcome State Fault Refusal :=
  gate (okCore c) (s.coNop c)

/-- UNDEFINED_INSTRUCTION (R237). -/
def execUndefinedInstruction (c : Nat) (s : State) : Host.Outcome State Fault Refusal :=
  gate (okCore c) (s.coUndef c)

/-- CORE_DMA_DONE (R256). -/
def execCoreDmaDone (c : Nat) (tag : Nat) (hm : HostMem) (s : State) : Host.Outcome State Fault Refusal :=
  gate (okCore c && okTag8 tag) ((s.see hm).coreDmaDone c tag hm)

/-- CONTEXT_SAVE_DONE (R261). -/
def execContextSaveDone (c : Nat) (s : State) : Host.Outcome State Fault Refusal :=
  gate (okCore c) (s.saveDone c)

/-- CONTEXT_RESTORE_DONE (R280). -/
def execContextRestoreDone (c : Nat) (s : State) : Host.Outcome State Fault Refusal :=
  gate (okCore c) (s.restoreDone c)

end Sys2Proof.Machine
end

