-- ==== Sys2Proof/Machine/ExecDev.lean ====
section
/-! DEFINITION. What the commands of one part of the table do. DEV: states, resets and the start (R20 to R30, R544
to R549). -/

namespace Sys2Proof.Machine

open Sys2Proof

/-- POWER_ON_RESET (R544). -/
def execPowerOnReset (fit : Option Fitted) (s : State) : Host.Outcome State Fault Refusal :=
  gate true (s.powerOn fit)

/-- RESET_N_LOW (R544). -/
def execResetNLow (s : State) : Host.Outcome State Fault Refusal :=
  gate true (s.resetN)

/-- DEV_RESET (R544). -/
def execDevReset (key : Nat) (dawn : Bool) (s : State) : Host.Outcome State Fault Refusal :=
  gate (okU16 key) (s.hostW R.DEV_RESET.addr (key + 65536 * b2n dawn))

/-- RESET_RELEASE (R545). -/
def execResetRelease (refA : Bool) (refB : Bool) (side : Bool) (home : Bool) (s : State) : Host.Outcome State Fault Refusal :=
  gate true (s.release refA refB side home)

/-- START_STEP_DONE (R547). -/
def execStartStepDone (pass : Bool) (hm : HostMem) (s : State) : Host.Outcome State Fault Refusal :=
  gate true ((s.see hm).startStep pass hm)

/-- START_TIME_LIMIT (R548). -/
def execStartTimeLimit (s : State) : Host.Outcome State Fault Refusal :=
  gate true (s.startLimit)

/-- GO_READY (R29). -/
def execGoReady (s : State) : Host.Outcome State Fault Refusal :=
  gate true (s.hostW R.DEV_CMD.addr 1)

/-- GO_RUN (R30). -/
def execGoRun (s : State) : Host.Outcome State Fault Refusal :=
  gate true (s.hostW R.DEV_CMD.addr 2)

/-- STOP (R28). -/
def execStop (s : State) : Host.Outcome State Fault Refusal :=
  gate true (s.hostW R.DEV_CMD.addr 3)

/-- GO_CONFIG (R20). -/
def execGoConfig (s : State) : Host.Outcome State Fault Refusal :=
  gate true (s.hostW R.DEV_CMD.addr 4)

/-- FORCE_SAFE_HOLD (R25). -/
def execForceSafeHold (s : State) : Host.Outcome State Fault Refusal :=
  gate true (s.hostW R.DEV_CMD.addr 15)

/-- CMD_UNDEFINED (R6). -/
def execCmdUndefined (a : Nat) (data : Nat) (s : State) : Host.Outcome State Fault Refusal :=
  gate (okU32 data) (s.cmdUndef a data)

end Sys2Proof.Machine
end

