-- ==== Sys2Proof/Machine/ExecEth.lean ====
section
/-! DEFINITION. What the commands of one part of the table do. Ethernet and time (R503 to R528). -/

namespace Sys2Proof.Machine

open Sys2Proof

/-- ETH_FRAME_RECEIVE (R506). -/
def execEthFrameReceive (p : Nat) (frame : Bytes) (ago : Nat) (hm : HostMem) (s : State) : Host.Outcome State Fault Refusal :=
  gate (okPort p) ((s.see hm).ethReceive p frame ago hm)

/-- SUBSCRIPTION_STALE (R527). -/
def execSubscriptionStale (sv : Bool) (n : Nat) (s : State) : Host.Outcome State Fault Refusal :=
  gate (okSub sv n) (s.staleNext sv n)

/-- ETH_SEND (R507). -/
def execEthSend (r : Nat) (hm : HostMem) (s : State) : Host.Outcome State Fault Refusal :=
  gate (okRing r) ((s.see hm).ethSend r hm)

/-- ETH_SEND_DONE (R507). -/
def execEthSendDone (p : Nat) (ago : Nat) (s : State) : Host.Outcome State Fault Refusal :=
  gate (okPort p) (s.ethSent p ago)

/-- ETH_BUF (R508). -/
def execEthBuf (r : Nat) (hm : HostMem) (s : State) : Host.Outcome State Fault Refusal :=
  gate (okRing r) ((s.see hm).ethBuf r hm)

/-- ETH_TSQ_HEAD_READ (R514). -/
def execEthTsqHeadRead (p : Nat) (s : State) : Host.Outcome State Fault Refusal :=
  gate (okPort p) (s.hostR (R.ETH_TSQ_HEAD p).addr)

/-- ETH_FREQ_WRITE (R516). -/
def execEthFreqWrite (v : Nat) (s : State) : Host.Outcome State Fault Refusal :=
  gate (okU32 v) (s.hostW R.ETH_FREQ.addr v)

/-- ETH_SLEW_WRITE (R517). -/
def execEthSlewWrite (v : Nat) (s : State) : Host.Outcome State Fault Refusal :=
  gate (okU32 v) (s.hostW R.ETH_SLEW.addr v)

/-- ETH_SLEW_RATE_WRITE (R517). -/
def execEthSlewRateWrite (v : Nat) (s : State) : Host.Outcome State Fault Refusal :=
  gate (okU32 v) (s.hostW R.ETH_SLEW_RATE.addr v)

/-- SLEW_DONE (R517). -/
def execSlewDone (s : State) : Host.Outcome State Fault Refusal :=
  gate true (s.slewEnd)

/-- GO (R518). -/
def execStepGo (s : State) : Host.Outcome State Fault Refusal :=
  gate true (s.hostW R.ETH_STEP_CMD.addr 1)

/-- HOLDOVER (R520). -/
def execHoldover (s : State) : Host.Outcome State Fault Refusal :=
  gate true (s.holdoverNext)

/-- PPS_OUT_PULSE (R521). -/
def execPpsOutPulse (s : State) : Host.Outcome State Fault Refusal :=
  gate true (s.ppsNext)

/-- PPS_IN_EDGE (R522). -/
def execPpsInEdge (s : State) : Host.Outcome State Fault Refusal :=
  gate true s.ppsIn

/-- ETH_PPSIN_SEC_READ (R522). -/
def execEthPpsinSecRead (s : State) : Host.Outcome State Fault Refusal :=
  gate true (s.hostR R.ETH_PPSIN_SEC.addr)

/-- ETH_CNT_CLR (R7). -/
def execEthCntClr (s : State) : Host.Outcome State Fault Refusal :=
  gate true (s.hostW R.ETH_CNT_CLR.addr 1)

/-- ETH_LINK_UP (R507). -/
def execEthLinkUp (p : Nat) (s : State) : Host.Outcome State Fault Refusal :=
  gate (okPort p) (s.ethLinkUp p)

/-- ETH_LINK_DOWN (R507). -/
def execEthLinkDown (p : Nat) (s : State) : Host.Outcome State Fault Refusal :=
  gate (okPort p) (s.ethLinkDown p)

end Sys2Proof.Machine
end

