-- ==== Sys2Proof/Machine/ExecHost.lean ====
section
/-! DEFINITION. What the commands of one part of the table do. Rings, transactions and the host interface (R320 to
R360). -/

namespace Sys2Proof.Machine

open Sys2Proof

/-- RING_ENABLE (R325). -/
def execRingEnable (r : Nat) (s : State) : Host.Outcome State Fault Refusal :=
  gate (okRing r) (s.hostF (F.HOST_RING_CFG_EN r) 1)

/-- RING_DISABLE (R329). -/
def execRingDisable (r : Nat) (s : State) : Host.Outcome State Fault Refusal :=
  gate (okRing r) (s.hostF (F.HOST_RING_CFG_EN r) 0)

/-- RING_DRAIN_DONE (R329). -/
def execRingDrainDone (s : State) : Host.Outcome State Fault Refusal :=
  gate true (s.each Config.rings State.drainDone)

/-- RING_RESUME (R329). -/
def execRingResume (r : Nat) (s : State) : Host.Outcome State Fault Refusal :=
  gate (okRing r) (s.hostF (F.HOST_RING_CFG_RESUME r) 1)

/-- HOST_DB (R327). -/
def execHostDb (r : Nat) (pi : Nat) (s : State) : Host.Outcome State Fault Refusal :=
  gate (okRing r && okU32 pi) (s.hostW (R.HOST_DB r).addr pi)

/-- FETCH_FAULT (R329). -/
def execFetchFault (r : Nat) (hm : HostMem) (s : State) : Host.Outcome State Fault Refusal :=
  gate (okRing r) ((s.see hm).ringFetchFault r hm)

/-- RING_NOP (R335). -/
def execRingNop (r : Nat) (hm : HostMem) (s : State) : Host.Outcome State Fault Refusal :=
  gate (okRing r) ((s.see hm).ringNop r hm)

/-- WORK_SUBMIT (R337). -/
def execWorkSubmit (r : Nat) (hm : HostMem) (s : State) : Host.Outcome State Fault Refusal :=
  gate (okRing r) ((s.see hm).workSubmit r hm)

/-- COPY (R338). -/
def execCopy (r : Nat) (hm : HostMem) (s : State) : Host.Outcome State Fault Refusal :=
  gate (okRing r) ((s.see hm).copy r hm)

/-- COPY_DONE (R339). -/
def execCopyDone (r : Nat) (hm : HostMem) (s : State) : Host.Outcome State Fault Refusal :=
  gate (okRing r) ((s.see hm).copyDone r hm)

/-- QUEUE (R340). -/
def execQueue (r : Nat) (hm : HostMem) (s : State) : Host.Outcome State Fault Refusal :=
  gate (okRing r) ((s.see hm).twRing r hm)

/-- RING_CANCEL (R341). -/
def execRingCancel (r : Nat) (hm : HostMem) (s : State) : Host.Outcome State Fault Refusal :=
  gate (okRing r) ((s.see hm).ringCancel r hm)

/-- TRANSACT (R348). -/
def execTransact (r : Nat) (hm : HostMem) (s : State) : Host.Outcome State Fault Refusal :=
  gate (okRing r) ((s.see hm).transact r hm)

/-- TRANSACT_VALIDATED (R349). -/
def execTransactValidated (r : Nat) (idx : Nat) (s : State) : Host.Outcome State Fault Refusal :=
  gate (okRing r) (s.txnValidated r idx)

/-- TRANSACT_COMMIT (R353). -/
def execTransactCommit (s : State) : Host.Outcome State Fault Refusal :=
  gate true (s.commitDue)

/-- UNDEFINED_OP_DESCRIPTOR (R332). -/
def execUndefinedOpDescriptor (r : Nat) (hm : HostMem) (s : State) : Host.Outcome State Fault Refusal :=
  gate (okRing r) ((s.see hm).ringUndef r hm)

/-- HOST_ABI_SEL_WRITE (R344). -/
def execHostAbiSelWrite (data : Nat) (s : State) : Host.Outcome State Fault Refusal :=
  gate (okU32 data) (s.hostW R.HOST_ABI_SEL.addr data)

/-- IRQ_COALESCE_TIMEOUT (R345). -/
def execIrqCoalesceTimeout (s : State) : Host.Outcome State Fault Refusal :=
  gate true (s.irqDue)

/-- MSIX_UNMASK (R345). -/
def execMsixUnmask (v : Nat) (s : State) : Host.Outcome State Fault Refusal :=
  gate (okVec v) (s.msixUnmask v)

/-- LINK_RESET (R360). -/
def execLinkReset (s : State) : Host.Outcome State Fault Refusal :=
  gate true (s.linkReset)

/-- LINK_TRAINED (R360). -/
def execLinkTrained (speed : Nat) (width : Nat) (s : State) : Host.Outcome State Fault Refusal :=
  gate (okLink speed width) (s.linkTrained speed width)

/-- HOST_CNT_CLR (R7). -/
def execHostCntClr (s : State) : Host.Outcome State Fault Refusal :=
  gate true (s.hostW R.HOST_CNT_CLR.addr 1)

/-- BAR0_BAD_ACCESS (R321). -/
def execBar0BadAccess (a : Nat) (size : Nat) (s : State) : Host.Outcome State Fault Refusal :=
  gate true (s.badAccess a size)

/-- REGISTER_WRITE (R6). -/
def execRegisterWrite (a : Nat) (data : Nat) (s : State) : Host.Outcome State Fault Refusal :=
  gate (okBar0 a && okU32 data) (s.hostW a data)

end Sys2Proof.Machine
end

