-- ==== Sys2Proof/Machine/ExecImg.lean ====
section
/-! DEFINITION. What the commands of one part of the table do. Image updates and key slots (R550 to R560). -/

namespace Sys2Proof.Machine

open Sys2Proof

/-- IMG_ERASE (R558). -/
def execImgErase (r : Nat) (hm : HostMem) (s : State) : Host.Outcome State Fault Refusal :=
  gate (okRing r) ((s.see hm).imgStart r 1 hm)

/-- IMG_PROGRAM (R558). -/
def execImgProgram (r : Nat) (hm : HostMem) (s : State) : Host.Outcome State Fault Refusal :=
  gate (okRing r) ((s.see hm).imgStart r 2 hm)

/-- IMG_VERIFY (R558). -/
def execImgVerify (r : Nat) (hm : HostMem) (s : State) : Host.Outcome State Fault Refusal :=
  gate (okRing r) ((s.see hm).imgStart r 3 hm)

/-- IMG_COMMIT (R558). -/
def execImgCommit (r : Nat) (hm : HostMem) (s : State) : Host.Outcome State Fault Refusal :=
  gate (okRing r) ((s.see hm).imgStart r 4 hm)

/-- IMG_STEP_DONE (R558). -/
def execImgStepDone (r : Nat) (hm : HostMem) (s : State) : Host.Outcome State Fault Refusal :=
  gate (okRing r) ((s.see hm).imgDone r hm)

/-- PROGRAM (R556). -/
def execOtpProgram (slot : Nat) (s : State) : Host.Outcome State Fault Refusal :=
  gate (okSlot slot) (s.hostW R.DEV_OTP_CMD.addr (1 + 4 * slot))

/-- REVOKE (R557). -/
def execOtpRevoke (slot : Nat) (s : State) : Host.Outcome State Fault Refusal :=
  gate (okSlot slot) (s.hostW R.DEV_OTP_CMD.addr (2 + 4 * slot))

/-- OTP_PROGRAM_DONE (R556). -/
def execOtpProgramDone (back : Bytes) (s : State) : Host.Outcome State Fault Refusal :=
  gate true (s.otpDone back)

end Sys2Proof.Machine
end

