-- ==== Sys2Proof/Machine/ExecLane.lean ====
section
/-! DEFINITION. What the commands of one part of the table do. Lanes: training, coding, adaptation and the PRBS
checker (R65 to R97). -/

namespace Sys2Proof.Machine

open Sys2Proof

/-- LANE_TRAIN (R89). -/
def execLaneTrain (l : Nat) (s : State) : Host.Outcome State Fault Refusal :=
  gate (okLane l) (s.hostF (F.LANE_CTRL_TRAIN l) 1)

/-- LANE_CFG_WRITE (R89). -/
def execLaneCfgWrite (l : Nat) (data : Nat) (s : State) : Host.Outcome State Fault Refusal :=
  gate (okLane l && okU32 data) (s.hostW (R.LANE_CFG l).addr data)

/-- LANE_TXEQ_WRITE (R79). -/
def execLaneTxeqWrite (l : Nat) (data : Nat) (s : State) : Host.Outcome State Fault Refusal :=
  gate (okLane l && okU32 data) (s.hostW (R.LANE_TXEQ l).addr data)

/-- LANE_SYNC_ACQUIRE (R71). -/
def execLaneSyncAcquire (l : SyncRx) (s : State) : Host.Outcome State Fault Refusal :=
  gate (okLane l.lane) (s.syncAcquire l.lane l.rate)

/-- LANE_CODE_ERROR (R69). -/
def execLaneCodeError (l : Nat) (e : CodeErr) (s : State) : Host.Outcome State Fault Refusal :=
  gate (okLane l) (s.laneCode l e.gap e.rd e.code e.pos)

/-- SKP_RECEIVE (R74). -/
def execSkpReceive (l : Nat) (n : Nat) (fill : Nat) (s : State) : Host.Outcome State Fault Refusal :=
  gate (okLane l) (s.skp l n fill)

/-- ELASTIC_BUFFER_ERROR (R77). -/
def execElasticBufferError (l : Nat) (e : EbSlip) (s : State) : Host.Outcome State Fault Refusal :=
  gate (okLane l) (s.ebError l e.ovf e.pos)

/-- ADAPT_UPDATE (R81). -/
def execAdaptUpdate (l : Nat) (ctle : Int) (taps : List Int) (s : State) : Host.Outcome State Fault Refusal :=
  gate (okLane l) (s.adapt l ctle taps)

/-- ADAPT_FREEZE (R82). -/
def execAdaptFreeze (l : Nat) (s : State) : Host.Outcome State Fault Refusal :=
  gate (okLane l) (s.adaptFreeze l)

/-- ADAPT_RESUME (R82). -/
def execAdaptResume (l : Nat) (s : State) : Host.Outcome State Fault Refusal :=
  gate (okLane l) (s.adaptResume l)

/-- TRAIN_ADAPT_DONE (R90). -/
def execTrainAdaptDone (l : Nat) (s : State) : Host.Outcome State Fault Refusal :=
  gate (okLane l) (s.trainDone l)

/-- HELLO_RESEND (R90). -/
def execHelloResend (l : Nat) (s : State) : Host.Outcome State Fault Refusal :=
  gate (okLane l) (s.helloResend l)

/-- TRAIN_ATTEMPT_TIMEOUT (R90). -/
def execTrainAttemptTimeout (l : Nat) (s : State) : Host.Outcome State Fault Refusal :=
  gate (okLane l) (s.attemptTimeout l)

/-- BACKOFF_EXPIRY (R90). -/
def execBackoffExpiry (l : Nat) (s : State) : Host.Outcome State Fault Refusal :=
  gate (okLane l) (s.backoffExpiry l)

/-- ABSENT_RETRY (R92). -/
def execAbsentRetry (l : Nat) (s : State) : Host.Outcome State Fault Refusal :=
  gate (okLane l) (s.absentRetry l)

/-- LANE_HELLO_REPLY (R90). -/
def execLaneHelloReply (l : Nat) (f : Bytes) (s : State) : Host.Outcome State Fault Refusal :=
  gate (okLane l) (s.onFrame l f (fun s f => s.laneReply l f))

/-- LANE_HELLO_RECEIVE (R106). -/
def execLaneHelloReceive (l : Nat) (f : Bytes) (s : State) : Host.Outcome State Fault Refusal :=
  gate (okLane l) (s.onFrame l f (fun s f => s.helloReceive l f))

/-- LANE_LOS (R90). -/
def execLaneLos (l : Nat) (sig : Bool) (s : State) : Host.Outcome State Fault Refusal :=
  gate (okLane l) (s.laneLos l sig)

/-- LANE_CNT_CLR (R97). -/
def execLaneCntClr (l : Nat) (s : State) : Host.Outcome State Fault Refusal :=
  gate (okLane l) (s.hostW (R.LANE_CNT_CLR l).addr 1)

/-- PRBS_LOCK (R95). -/
def execPrbsLock (l : PrbsRx) (s : State) : Host.Outcome State Fault Refusal :=
  gate (okLane l.lane) (s.prbsLock l.lane l.rx)

/-- PRBS_LOCK_LOST (R95). -/
def execPrbsLockLost (l : Nat) (n : Nat) (errs : Nat) (s : State) : Host.Outcome State Fault Refusal :=
  gate (okLane l) (s.prbsLost l n errs)

/-- PRBS_ERR_READ (R96). -/
def execPrbsErrRead (l : Nat) (n : Nat) (errs : Nat) (s : State) : Host.Outcome State Fault Refusal :=
  gate (okLane l) ((s.prbsCount l n errs).hostR (R.LANE_PRBS_ERR l).addr)

/-- PRBS_CLR (R96). -/
def execPrbsClr (l : Nat) (s : State) : Host.Outcome State Fault Refusal :=
  gate (okLane l) (s.hostF (F.LANE_PRBS_CTRL_CLR l) 1)

/-- LANE_ECHO_RECEIVE (R112). -/
def execLaneEchoReceive (l : Nat) (f : Bytes) (s : State) : Host.Outcome State Fault Refusal :=
  gate (okLane l) (s.onFrame l f (fun s f => s.laneEcho l f))

/-- LANE_ENUM_HELLO_RECEIVE (R107). -/
def execLaneEnumHelloReceive (l : Nat) (f : Bytes) (s : State) : Host.Outcome State Fault Refusal :=
  gate (okLane l) (s.onFrame l f (fun s f => s.enumHelloReceive l f))

end Sys2Proof.Machine
end

