-- ==== Sys2Proof/Machine/ExecLogic.lean ====
section
/-! DEFINITION. What the commands of one part of the table do. The station logic engine (R442 to R470). -/

namespace Sys2Proof.Machine

open Sys2Proof

/-- LOGIC_CYCLE_START (R457). -/
def execLogicCycleStart (s : State) : Host.Outcome State Fault Refusal :=
  gate true (s.cycleStart)

/-- START_COLD (R463). -/
def execStartCold (s : State) : Host.Outcome State Fault Refusal :=
  gate true (s.hostW R.LOGIC_CMD.addr 1)

/-- START_WARM (R463). -/
def execStartWarm (s : State) : Host.Outcome State Fault Refusal :=
  gate true (s.hostW R.LOGIC_CMD.addr 2)

/-- LOGIC_STOP (R463). -/
def execLogicStop (s : State) : Host.Outcome State Fault Refusal :=
  gate true (s.hostW R.LOGIC_CMD.addr 3)

/-- VALIDATE (R450). -/
def execValidate (s : State) : Host.Outcome State Fault Refusal :=
  gate true (s.hostW R.LOGIC_CMD.addr 4)

/-- VALIDATE_DONE (R450). -/
def execValidateDone (s : State) : Host.Outcome State Fault Refusal :=
  gate true (s.validateDone)

/-- EXCHANGE (R468). -/
def execExchange (s : State) : Host.Outcome State Fault Refusal :=
  gate true (s.hostW R.LOGIC_CMD.addr 5)

/-- LOGIC_CNT_CLR (R7). -/
def execLogicCntClr (s : State) : Host.Outcome State Fault Refusal :=
  gate true (s.hostW R.LOGIC_CMD.addr 6)

/-- LOGIC_MEM_ACCESS (R448). -/
def execLogicMemAccess (wr : Option Nat) (s : State) : Host.Outcome State Fault Refusal :=
  gate (okOptU32 wr) (s.logicPort wr)

/-- RETAIN_WRITE_DONE (R466). -/
def execRetainWriteDone (back : Bytes) (s : State) : Host.Outcome State Fault Refusal :=
  gate true (s.retDone back)

/-- LOGIC_LD (R451). -/
def execLogicLd (s : State) : Host.Outcome State Fault Refusal :=
  gate true (s.lInstr 0x01 1 (fun w t => t.lBitRd w (fun _ b => b)))

/-- LOGIC_LDN (R451). -/
def execLogicLdn (s : State) : Host.Outcome State Fault Refusal :=
  gate true (s.lInstr 0x02 1 (fun w t => t.lBitRd w (fun _ b => !b)))

/-- LOGIC_AND (R451). -/
def execLogicAnd (s : State) : Host.Outcome State Fault Refusal :=
  gate true (s.lInstr 0x03 1 (fun w t => t.lBitRd w (fun a b => a && b)))

/-- LOGIC_ANDN (R451). -/
def execLogicAndn (s : State) : Host.Outcome State Fault Refusal :=
  gate true (s.lInstr 0x04 1 (fun w t => t.lBitRd w (fun a b => a && !b)))

/-- LOGIC_OR (R451). -/
def execLogicOr (s : State) : Host.Outcome State Fault Refusal :=
  gate true (s.lInstr 0x05 1 (fun w t => t.lBitRd w (fun a b => a || b)))

/-- LOGIC_ORN (R451). -/
def execLogicOrn (s : State) : Host.Outcome State Fault Refusal :=
  gate true (s.lInstr 0x06 1 (fun w t => t.lBitRd w (fun a b => a || !b)))

/-- LOGIC_XOR (R451). -/
def execLogicXor (s : State) : Host.Outcome State Fault Refusal :=
  gate true (s.lInstr 0x07 1 (fun w t => t.lBitRd w (fun a b => a != b)))

/-- LOGIC_ST (R451). -/
def execLogicSt (s : State) : Host.Outcome State Fault Refusal :=
  gate true (s.lInstr 0x08 1 (fun w t => t.lBitWr w t.logic.la))

/-- LOGIC_STN (R451). -/
def execLogicStn (s : State) : Host.Outcome State Fault Refusal :=
  gate true (s.lInstr 0x09 1 (fun w t => t.lBitWr w (!t.logic.la)))

/-- LOGIC_SET (R451). -/
def execLogicSet (s : State) : Host.Outcome State Fault Refusal :=
  gate true (s.lInstr 0x0A 1 (fun w t => t.when t.logic.la (·.lBitWr w true)))

/-- LOGIC_RST (R451). -/
def execLogicRst (s : State) : Host.Outcome State Fault Refusal :=
  gate true (s.lInstr 0x0B 1 (fun w t => t.when t.logic.la (·.lBitWr w false)))

/-- LOGIC_NOT (R451). -/
def execLogicNot (s : State) : Host.Outcome State Fault Refusal :=
  gate true (s.lInstr 0x0C 1 (fun _ t => t.setLa (!t.logic.la)))

/-- PUSHA (R453). -/
def execPusha (s : State) : Host.Outcome State Fault Refusal :=
  gate true (s.lInstr 0x0D 1 (fun _ t => t.lPush true))

/-- PUSHO (R453). -/
def execPusho (s : State) : Host.Outcome State Fault Refusal :=
  gate true (s.lInstr 0x0E 1 (fun _ t => t.lPush false))

/-- POP (R453). -/
def execPop (s : State) : Host.Outcome State Fault Refusal :=
  gate true (s.lInstr 0x0F 1 (fun _ t => t.lPop))

/-- LOGIC_RE (R455). -/
def execLogicRe (s : State) : Host.Outcome State Fault Refusal :=
  gate true (s.lInstr 0x10 2 (fun w t => t.lEdge w false))

/-- LOGIC_FE (R455). -/
def execLogicFe (s : State) : Host.Outcome State Fault Refusal :=
  gate true (s.lInstr 0x11 2 (fun w t => t.lEdge w true))

/-- TON (R454). -/
def execTon (s : State) : Host.Outcome State Fault Refusal :=
  gate true (s.lInstr 0x12 3 (fun w t => t.lTimer w 1))

/-- TOF (R454). -/
def execTof (s : State) : Host.Outcome State Fault Refusal :=
  gate true (s.lInstr 0x13 3 (fun w t => t.lTimer w 2))

/-- TP (R454). -/
def execTp (s : State) : Host.Outcome State Fault Refusal :=
  gate true (s.lInstr 0x14 3 (fun w t => t.lTimer w 3))

/-- CTU (R454). -/
def execCtu (s : State) : Host.Outcome State Fault Refusal :=
  gate true (s.lInstr 0x15 2 (fun w t => t.lCounter w true))

/-- CTD (R454). -/
def execCtd (s : State) : Host.Outcome State Fault Refusal :=
  gate true (s.lInstr 0x16 2 (fun w t => t.lCounter w false))

/-- CRST (R451). -/
def execCrst (s : State) : Host.Outcome State Fault Refusal :=
  gate true (s.lInstr 0x17 2 (fun w t => t.lCrst w))

/-- LDW (R451). -/
def execLdw (s : State) : Host.Outcome State Fault Refusal :=
  gate true (s.lInstr 0x20 1 (fun w t => t.lWordRd w (fun d u => u.setAcc d)))

/-- LDI (R451). -/
def execLdi (s : State) : Host.Outcome State Fault Refusal :=
  gate true (s.lInstr 0x21 1 (fun w t => t.setAcc (us 32 (sx 16 (lIdx w)))))

/-- LDIH (R451). -/
def execLdih (s : State) : Host.Outcome State Fault Refusal :=
  gate true (s.lInstr 0x22 1 (fun w t => t.setAcc (setBits t.logic.acc 16 16 (lIdx w))))

/-- STW (R451). -/
def execStw (s : State) : Host.Outcome State Fault Refusal :=
  gate true (s.lInstr 0x23 1 (fun w t => t.lWordWr w t.logic.acc))

/-- STWC (R451). -/
def execStwc (s : State) : Host.Outcome State Fault Refusal :=
  gate true (s.lInstr 0x24 1 (fun w t => t.when t.logic.la (fun u => u.lWordWr w u.logic.acc)))

/-- LOGIC_ADD (R451). -/
def execLogicAdd (s : State) : Host.Outcome State Fault Refusal :=
  gate true (s.lInstr 0x25 1 (fun w t => t.lAcc w (· + ·)))

/-- LOGIC_SUB (R451). -/
def execLogicSub (s : State) : Host.Outcome State Fault Refusal :=
  gate true (s.lInstr 0x26 1 (fun w t => t.lAcc w (fun a b => us 32 ((a : Int) - b))))

/-- LOGIC_MUL (R451). -/
def execLogicMul (s : State) : Host.Outcome State Fault Refusal :=
  gate true (s.lInstr 0x27 2 (fun w t => t.lAcc w (· * ·)))

/-- ANDW (R451). -/
def execAndw (s : State) : Host.Outcome State Fault Refusal :=
  gate true (s.lInstr 0x28 1 (fun w t => t.lAcc w (· &&& ·)))

/-- ORW (R451). -/
def execOrw (s : State) : Host.Outcome State Fault Refusal :=
  gate true (s.lInstr 0x29 1 (fun w t => t.lAcc w (· ||| ·)))

/-- XORW (R451). -/
def execXorw (s : State) : Host.Outcome State Fault Refusal :=
  gate true (s.lInstr 0x2A 1 (fun w t => t.lAcc w (· ^^^ ·)))

/-- ADDI (R451). -/
def execAddi (s : State) : Host.Outcome State Fault Refusal :=
  gate true (s.lInstr 0x2B 1 (fun w t => t.setAcc (t.logic.acc + us 32 (sx 16 (lIdx w)))))

/-- LOGIC_SHL (R451). -/
def execLogicShl (s : State) : Host.Outcome State Fault Refusal :=
  gate true (s.lInstr 0x2C 1 (fun w t => t.setAcc (shl32 t.logic.acc (lIdx w))))

/-- LOGIC_SHR (R451). -/
def execLogicShr (s : State) : Host.Outcome State Fault Refusal :=
  gate true (s.lInstr 0x2D 1 (fun w t => t.setAcc (shr32 t.logic.acc (lIdx w))))

/-- LOGIC_SAR (R451). -/
def execLogicSar (s : State) : Host.Outcome State Fault Refusal :=
  gate true (s.lInstr 0x2E 1 (fun w t => t.setAcc (sar32 t.logic.acc (lIdx w))))

/-- CEQ (R451). -/
def execCeq (s : State) : Host.Outcome State Fault Refusal :=
  gate true (s.lInstr 0x30 1 (fun w t => t.lCmp w (fun a b => decide (a = b))))

/-- CGT (R451). -/
def execCgt (s : State) : Host.Outcome State Fault Refusal :=
  gate true (s.lInstr 0x31 1 (fun w t => t.lCmp w (fun a b => decide (a > b))))

/-- CLT (R451). -/
def execClt (s : State) : Host.Outcome State Fault Refusal :=
  gate true (s.lInstr 0x32 1 (fun w t => t.lCmp w (fun a b => decide (a < b))))

/-- LOGIC_BIT (R451). -/
def execLogicBit (s : State) : Host.Outcome State Fault Refusal :=
  gate true (s.lInstr 0x33 1 (fun w t => t.setLa (bit t.logic.acc (lIdx w % 32))))

/-- JMP (R451). -/
def execJmp (s : State) : Host.Outcome State Fault Refusal :=
  gate true (s.lInstr 0x38 1 (fun w t => t.lJump w true))

/-- JT (R451). -/
def execJt (s : State) : Host.Outcome State Fault Refusal :=
  gate true (s.lInstr 0x39 1 (fun w t => t.lJump w t.logic.la))

/-- JF (R451). -/
def execJf (s : State) : Host.Outcome State Fault Refusal :=
  gate true (s.lInstr 0x3A 1 (fun w t => t.lJump w (!t.logic.la)))

/-- LOGIC_END (R461). -/
def execLogicEnd (s : State) : Host.Outcome State Fault Refusal :=
  gate true (s.lInstr 0x3B 1 (fun _ t => t.lEnd))

/-- RDR (R452). -/
def execRdr (s : State) : Host.Outcome State Fault Refusal :=
  gate true (s.lInstr 0x3C 1 (fun w t => t.lRdr w))

/-- WRR (R452). -/
def execWrr (s : State) : Host.Outcome State Fault Refusal :=
  gate true (s.lInstr 0x3D 1 (fun w t => t.lWrrOp w))

/-- SUBM (R452). -/
def execSubm (s : State) : Host.Outcome State Fault Refusal :=
  gate true (s.lInstr 0x3E 1 (fun w t => t.lSubm w))

/-- LOGIC_NOP (R451). -/
def execLogicNop (s : State) : Host.Outcome State Fault Refusal :=
  gate true (s.lInstr 0x3F 1 (fun _ t => t))

end Sys2Proof.Machine
end

