-- ==== Sys2Proof/Machine/ExecMem.lean ====
section
/-! DEFINITION. What the commands of one part of the table do. Memory protection and the IOMMU (R361 to R378). -/

namespace Sys2Proof.Machine

open Sys2Proof

/-- SCRUB_STEP (R366). -/
def execScrubStep (m : Nat) (hit : ScrubHit) (s : State) : Host.Outcome State Fault Refusal :=
  gate (okClass m) (s.scrubStep m hit)

/-- MEM_CNT_CLR (R7). -/
def execMemCntClr (s : State) : Host.Outcome State Fault Refusal :=
  gate true (s.hostW R.MEM_CNT_CLR.addr 1)

/-- IOMMU_CTRL_WRITE (R370). -/
def execIommuCtrlWrite (data : Nat) (s : State) : Host.Outcome State Fault Refusal :=
  gate (okU32 data) (s.hostW R.IOMMU_CTRL.addr data)

/-- IOMMU_INV (R374). -/
def execIommuInv (scope : Nat) (s : State) : Host.Outcome State Fault Refusal :=
  gate (okScope scope) (s.hostW R.IOMMU_INV.addr scope)

/-- IOMMU_INV_DONE (R374). -/
def execIommuInvDone (s : State) : Host.Outcome State Fault Refusal :=
  gate true (s.iommuInvDone)

/-- IOMMU_CNT_CLR (R7). -/
def execIommuCntClr (s : State) : Host.Outcome State Fault Refusal :=
  gate true (s.hostW R.IOMMU_CNT_CLR.addr 1)

end Sys2Proof.Machine
end

