-- ==== Sys2Proof/Machine/ExecMod.lean ====
section
/-! DEFINITION. What the commands of one part of the table do. MOD: the observer, modulation and trim channels
(R157 to R202). -/

namespace Sys2Proof.Machine

open Sys2Proof

/-- OBS_UPDATE (R170). -/
def execObsUpdate (s : State) : Host.Outcome State Fault Refusal :=
  gate true (s.obsTick)

/-- VECTOR_DELIVERY (R177). -/
def execVectorDelivery (s : State) : Host.Outcome State Fault Refusal :=
  gate true (s.vectorNext)

/-- CELL_TABLE_WRITE (R160). -/
def execCellTableWrite (c : Nat) (w : Nat) (data : Nat) (s : State) : Host.Outcome State Fault Refusal :=
  gate (okEntry c && okWord32 w && okU32 data) (s.hostW (s.ctAt c + 4 * w) data)

/-- MOD_CNT_CLR (R7). -/
def execModCntClr (s : State) : Host.Outcome State Fault Refusal :=
  gate true (s.hostW R.MOD_CNT_CLR.addr 1)

/-- MOD_ARM_COMMIT (R183). -/
def execModArmCommit (a : Nat) (tag : Nat) (s : State) : Host.Outcome State Fault Refusal :=
  gate (okArm a && okU16 tag) (s.hostW (R.MOD_ARM_COMMIT a).addr tag)

/-- LAUNCH_CUT (R189). -/
def execLaunchCut (g : Nat) (s : State) : Host.Outcome State Fault Refusal :=
  gate (okGroup g) (s.cutAt g)

/-- TRIM_CTRL_WRITE (R186). -/
def execTrimCtrlWrite (t : Nat) (data : Nat) (s : State) : Host.Outcome State Fault Refusal :=
  gate (okTrim t && okU32 data) (s.hostW (R.MOD_TRIM_CTRL t).addr data)

/-- TRIM_PER_WRITE (R188). -/
def execTrimPerWrite (t : Nat) (per : Nat) (s : State) : Host.Outcome State Fault Refusal :=
  gate (okTrim t && okU16 per) (s.hostW (R.MOD_TRIM_PER t).addr per)

/-- TRIM_WRAP (R186). -/
def execTrimWrap (s : State) : Host.Outcome State Fault Refusal :=
  gate true (s.trimWrap)

/-- DT_TABLE_WRITE (R199). -/
def execDtTableWrite (c : Nat) (w : Nat) (data : Nat) (s : State) : Host.Outcome State Fault Refusal :=
  gate (okEntry c && okSide w && okU32 data) (s.hostW (s.dtAt c + 4 * w) data)

/-- MOD_MCNT_CLR (R7). -/
def execModMcntClr (s : State) : Host.Outcome State Fault Refusal :=
  gate true (s.hostW R.MOD_MCNT_CLR.addr 1)

end Sys2Proof.Machine
end

