-- ==== Sys2Proof/Machine/ExecPair.lean ====
section
/-! DEFINITION. What the commands of one part of the table do. The pair (R379 to R415). -/

namespace Sys2Proof.Machine

open Sys2Proof

/-- ACT_IN_HIGH (R381). -/
def execActInHigh (s : State) : Host.Outcome State Fault Refusal :=
  gate true (s.actHigh)

/-- ACT_IN_LOW (R381). -/
def execActInLow (s : State) : Host.Outcome State Fault Refusal :=
  gate true (s.actLow)

/-- INITIAL_CLAIM_START (R388). -/
def execInitialClaimStart (s : State) : Host.Outcome State Fault Refusal :=
  gate true (s.initialClaim)

/-- CLAIM_GUARD_END (R384). -/
def execClaimGuardEnd (s : State) : Host.Outcome State Fault Refusal :=
  gate true (s.guardEnd)

/-- CLAIM_VETO_END (R384). -/
def execClaimVetoEnd (s : State) : Host.Outcome State Fault Refusal :=
  gate true ((s.pass (s.room (if s.pair.claim = .veto && s.vetoed then s.vetoLeft else 0))).vetoEnd)

/-- CLAIM_CONFIRM (R384). -/
def execClaimConfirm (s : State) : Host.Outcome State Fault Refusal :=
  gate true (s.claimConfirm)

/-- HEARTBEAT_EXPIRY (R383). -/
def execHeartbeatExpiry (s : State) : Host.Outcome State Fault Refusal :=
  gate true (s.heartbeat)

/-- MHELLO (R380). -/
def execMhello (l : Nat) (f : Bytes) (s : State) : Host.Outcome State Fault Refusal :=
  gate (okLane l) (s.onMirror l f (fun s f => s.mhello l f))

/-- MREPLY (R390). -/
def execMreply (l : Nat) (f : Bytes) (s : State) : Host.Outcome State Fault Refusal :=
  gate (okLane l) (s.onMirror l f (fun s f => s.mreply l f))

/-- TSYNC (R396). -/
def execTsync (l : Nat) (f : Bytes) (ago : Nat) (s : State) : Host.Outcome State Fault Refusal :=
  gate (okLane l) (s.onMirror l f (fun s f => s.tsync l f ago))

/-- HEALTH (R386). -/
def execHealth (l : Nat) (f : Bytes) (s : State) : Host.Outcome State Fault Refusal :=
  gate (okLane l) (s.onMirror l f (fun s f => s.health' l f))

/-- CKPT (R401). -/
def execCkpt (l : Nat) (f : Bytes) (s : State) : Host.Outcome State Fault Refusal :=
  gate (okLane l) (s.onMirror l f (fun s f => s.ckpt l f))

/-- MAP (R119). -/
def execMap (l : Nat) (f : Bytes) (s : State) : Host.Outcome State Fault Refusal :=
  gate (okLane l) (s.onMirror l f (fun s f => s.mapIn l f))

/-- DLY (R118). -/
def execDly (l : Nat) (f : Bytes) (s : State) : Host.Outcome State Fault Refusal :=
  gate (okLane l) (s.onMirror l f (fun s f => s.dlyIn l f))

/-- DLY_TIMEOUT (R119). -/
def execDlyTimeout (n : Nat) (s : State) : Host.Outcome State Fault Refusal :=
  gate (okStr n) (s.dlyTimeout n)

/-- SREP (R145). -/
def execSrep (l : Nat) (f : Bytes) (s : State) : Host.Outcome State Fault Refusal :=
  gate (okLane l) (s.onMirror l f (fun s f => s.srep l f))

/-- RELAY (R408). -/
def execRelay (l : Nat) (f : Bytes) (s : State) : Host.Outcome State Fault Refusal :=
  gate (okLane l) (s.onMirror l f (fun s f => s.relay l f))

/-- RTEL (R147). -/
def execRtel (l : Nat) (f : Bytes) (s : State) : Host.Outcome State Fault Refusal :=
  gate (okLane l) (s.onMirror l f (fun s f => s.rtel l f))

/-- RETURN_HOLDOFF_EXPIRY (R409). -/
def execReturnHoldoffExpiry (s : State) : Host.Outcome State Fault Refusal :=
  gate true (s.returnReq)

/-- RETURN_REQ (R411). -/
def execReturnReq (l : Nat) (f : Bytes) (s : State) : Host.Outcome State Fault Refusal :=
  gate (okLane l) (s.onMirror l f (fun s f => s.returnReqIn l f))

/-- OFFER (R411). -/
def execOffer (l : Nat) (f : Bytes) (s : State) : Host.Outcome State Fault Refusal :=
  gate (okLane l) (s.onMirror l f (fun s f => s.offerIn l f))

/-- CTRL_ACK (R412). -/
def execCtrlAck (l : Nat) (f : Bytes) (s : State) : Host.Outcome State Fault Refusal :=
  gate (okLane l) (s.onMirror l f (fun s f => s.ctrlAck l f))

/-- CTRL_REJ (R411). -/
def execCtrlRej (l : Nat) (f : Bytes) (s : State) : Host.Outcome State Fault Refusal :=
  gate (okLane l) (s.onMirror l f (fun s f => s.ctrlRej l f))

/-- RESYNC (R399). -/
def execResync (l : Nat) (f : Bytes) (s : State) : Host.Outcome State Fault Refusal :=
  gate (okLane l) (s.onMirror l f (fun s f => s.resync l f))

/-- RETURN_TIMEOUT (R411). -/
def execReturnTimeout (s : State) : Host.Outcome State Fault Refusal :=
  gate true (s.returnTimeout)

/-- HANDOVER (R410). -/
def execHandover (s : State) : Host.Outcome State Fault Refusal :=
  gate true (s.hostW R.PAIR_CMD.addr 1)

/-- FINAL_SEGMENT_SENT (R412). -/
def execFinalSegmentSent (s : State) : Host.Outcome State Fault Refusal :=
  gate true (s.finalSent)

/-- FINAL_CAPTURE_APPLY (R413). -/
def execFinalCaptureApply (s : State) : Host.Outcome State Fault Refusal :=
  gate true (s.finalApply)

/-- FINAL_CAPTURE_TIMEOUT (R413). -/
def execFinalCaptureTimeout (s : State) : Host.Outcome State Fault Refusal :=
  gate true (s.finalTimeout)

/-- LEAVING_RECLAIM (R387). -/
def execLeavingReclaim (s : State) : Host.Outcome State Fault Refusal :=
  gate true (s.leavingReclaim)

/-- PAIR_CNT_CLR (R7). -/
def execPairCntClr (s : State) : Host.Outcome State Fault Refusal :=
  gate true (s.hostW R.PAIR_CNT_CLR.addr 1)

/-- MIRROR_FRAME_DISCARDED (R392). -/
def execMirrorFrameDiscarded (l : Nat) (f : Bytes) (s : State) : Host.Outcome State Fault Refusal :=
  gate (okLane l) (s.mirDiscard l f)

end Sys2Proof.Machine
end

