-- ==== Sys2Proof/Machine/ExecSafe.lean ====
section
/-! DEFINITION. What the commands of one part of the table do. The safety island (R416 to R441). -/

namespace Sys2Proof.Machine

open Sys2Proof

/-- VDDSAFE_UP (R418). -/
def execVddsafeUp (s : State) : Host.Outcome State Fault Refusal :=
  gate true (s.vddUp)

/-- VDDSAFE_LOSS (R418). -/
def execVddsafeLoss (s : State) : Host.Outcome State Fault Refusal :=
  gate true (s.vddLoss)

/-- ISLAND_SELFTEST_DONE (R439). -/
def execIslandSelftestDone (pass : Bool) (cause : Nat) (s : State) : Host.Outcome State Fault Refusal :=
  gate (okU8 cause) (s.selftestDone pass cause)

/-- COMMIT (R420). -/
def execCommit (s : State) : Host.Outcome State Fault Refusal :=
  gate true (s.hostW R.SAFE_CMD.addr 1)

/-- RESET (R427). -/
def execIslandReset (s : State) : Host.Outcome State Fault Refusal :=
  gate true (s.hostW R.SAFE_CMD.addr 2)

/-- FRESET (R439). -/
def execFreset (s : State) : Host.Outcome State Fault Refusal :=
  gate true (s.hostW R.SAFE_CMD.addr 3)

/-- SAFE_CNT_CLR (R7). -/
def execSafeCntClr (s : State) : Host.Outcome State Fault Refusal :=
  gate true (s.hostW R.SAFE_CMD.addr 4)

/-- CONTACT_DEBOUNCE (R423). -/
def execContactDebounce (n : Nat) (b : Bool) (p : PinLevel) (s : State) : Host.Outcome State Fault Refusal :=
  gate (okSin n) (s.contact n b p.level p.held)

/-- INPUT_DISCREPANCY (R424). -/
def execInputDiscrepancy (d : Disagree) (s : State) : Host.Outcome State Fault Refusal :=
  gate (okSin d.sin) (s.inputDisc d.sin d.held)

/-- ISLAND_EVALUATION (R423). -/
def execIslandEvaluation (rba : Nat) (rbb : Nat) (permits : Nat) (s : State) : Host.Outcome State Fault Refusal :=
  gate (okU8 rba && okU8 rbb) (s.islandEval rba rbb permits)

/-- SAP_DELAY_EXPIRY (R433). -/
def execSapDelayExpiry (s : State) : Host.Outcome State Fault Refusal :=
  gate true (s.sapExpiry)

/-- OFF_PULSE_TEST (R435). -/
def execOffPulseTest (o : Nat) (bad : Nat) (s : State) : Host.Outcome State Fault Refusal :=
  gate (okSout o) (s.offPulse o bad)

/-- WATCHDOG_EXPIRY (R437). -/
def execWatchdogExpiry (s : State) : Host.Outcome State Fault Refusal :=
  gate true (s.wdTimeout)

/-- CONFIG_CRC_CHECK (R421). -/
def execConfigCrcCheck (w : Nat) (flip : Nat) (s : State) : Host.Outcome State Fault Refusal :=
  gate (okImgWord w && okU32 flip) (s.crcCheck w flip)

/-- RC_MONITOR_CHECK (R438). -/
def execRcMonitorCheck (err : Nat) (s : State) : Host.Outcome State Fault Refusal :=
  gate true (s.rcCheck err)

/-- MARCH_TEST (R438). -/
def execMarchTest (pass : Bool) (s : State) : Host.Outcome State Fault Refusal :=
  gate true (s.marchTest pass)

/-- PATTERN_TEST (R438). -/
def execPatternTest (pass : Bool) (s : State) : Host.Outcome State Fault Refusal :=
  gate true (s.patternTest pass)

/-- VDDSAFE_OUT_OF_RANGE (R438). -/
def execVddsafeOutOfRange (s : State) : Host.Outcome State Fault Refusal :=
  gate true (s.vddRange)

end Sys2Proof.Machine
end

