-- ==== Sys2Proof/Machine/ExecSched.lean ====
section
/-! DEFINITION. What the commands of one part of the table do. The work scheduler (R266 to R296). -/

namespace Sys2Proof.Machine

open Sys2Proof

/-- SCHED_DISPATCH (R278). -/
def execSchedDispatch (s : State) : Host.Outcome State Fault Refusal :=
  gate true (s.dispatch)

/-- SCHED_PREEMPT (R282). -/
def execSchedPreempt (s : State) : Host.Outcome State Fault Refusal :=
  gate true (s.preempt)

/-- SPILL_REFILL (R275). -/
def execSpillRefill (s : State) : Host.Outcome State Fault Refusal :=
  gate true (s.each 8 State.spillRefill)

/-- DEADLINE_EXPIRY (R285). -/
def execDeadlineExpiry (s : State) : Host.Outcome State Fault Refusal :=
  gate true (s.deadlineExpiry)

/-- AFF_WAIT_EXPIRY (R281). -/
def execAffWaitExpiry (s : State) : Host.Outcome State Fault Refusal :=
  gate true (s.affNext)

/-- PERIOD_TABLE_FIRE (R270). -/
def execPeriodTableFire (e : Nat) (s : State) : Host.Outcome State Fault Refusal :=
  gate (okPt e) (s.ptFire e)

/-- TEL_SUBMIT (R271). -/
def execTelSubmit (g : Nat) (s : State) : Host.Outcome State Fault Refusal :=
  gate (okGroup g) (s.telSubmit g)

/-- QUOTA_WINDOW_END (R292). -/
def execQuotaWindowEnd (s : State) : Host.Outcome State Fault Refusal :=
  gate true (s.windowEnd)

/-- SCHED_CANCEL (R287). -/
def execSchedCancel (src : Nat) (tag : Nat) (s : State) : Host.Outcome State Fault Refusal :=
  gate (okSrc src && okU16 tag) (s.hostW R.SCHED_CANCEL.addr (src + 65536 * tag))

/-- SCHED_CNT_CLR (R7). -/
def execSchedCntClr (s : State) : Host.Outcome State Fault Refusal :=
  gate true (s.hostW R.SCHED_CNT_CLR.addr 1)

end Sys2Proof.Machine
end

