-- ==== Sys2Proof/Machine/ExecStr.lean ====
section
/-! DEFINITION. What the commands of one part of the table do. Strings: enumeration, strokes and BLK (R98 to
R156). -/

namespace Sys2Proof.Machine

open Sys2Proof

/-- ENUM (R114). -/
def execEnum (n : Nat) (s : State) : Host.Outcome State Fault Refusal :=
  gate (okStr n) (s.hostW (R.STR_CTRL n).addr 1)

/-- ENUM_START (R114). -/
def execEnumStart (s : State) : Host.Outcome State Fault Refusal :=
  gate true (s.each Config.strings State.enumStart)

/-- ENUM_REPLY_RECEIVE (R114). -/
def execEnumReplyReceive (n : Nat) (f : Bytes) (s : State) : Host.Outcome State Fault Refusal :=
  gate (okStr n) (s.onString n f (fun s f => s.enumReply n f))

/-- ENUM_REPLY_TIMEOUT (R114). -/
def execEnumReplyTimeout (n : Nat) (s : State) : Host.Outcome State Fault Refusal :=
  gate (okStr n) (s.enumReplyTimeout n)

/-- ACK_RECEIVE (R117). -/
def execAckReceive (n : Nat) (f : Bytes) (s : State) : Host.Outcome State Fault Refusal :=
  gate (okStr n) (s.onString n f (fun s f => s.ackReceive n f))

/-- ACK_TIMEOUT (R117). -/
def execAckTimeout (n : Nat) (s : State) : Host.Outcome State Fault Refusal :=
  gate (okStr n) (s.ackTimeout n)

/-- ENUM_ECHO_RETURN (R115). -/
def execEnumEchoReturn (n : Nat) (f : Bytes) (half : Nat) (s : State) : Host.Outcome State Fault Refusal :=
  gate (okStr n) (s.onString n f (fun s f => s.echoReturn n f half))

/-- ENUM_ECHO_TIMEOUT (R114). -/
def execEnumEchoTimeout (n : Nat) (s : State) : Host.Outcome State Fault Refusal :=
  gate (okStr n) (s.echoTimeout n)

/-- REENUM (R121). -/
def execReenum (n : Nat) (s : State) : Host.Outcome State Fault Refusal :=
  gate (okStr n) (s.hostW (R.STR_CTRL n).addr 2)

/-- STR_CNT_CLR (R156). -/
def execStrCntClr (n : Nat) (s : State) : Host.Outcome State Fault Refusal :=
  gate (okStr n) (s.hostW (R.STR_CNT_CLR n).addr 1)

/-- BOW (R52). -/
def execBow (g : Nat) (s : State) : Host.Outcome State Fault Refusal :=
  gate (okGroup g) (s.bowAt g)

/-- STROKE_RETURN (R135). -/
def execStrokeReturn (n : Nat) (f : Bytes) (s : State) : Host.Outcome State Fault Refusal :=
  gate (okStr n) (s.onString n f (fun s f => s.strokeReturn n f))

/-- STROKE_NOHOME (R135). -/
def execStrokeNohome (n : Nat) (s : State) : Host.Outcome State Fault Refusal :=
  gate (okStr n) (s.strokeNoHome n)

/-- STROKE_REFLECT (R133). -/
def execStrokeReflect (l : Nat) (f : Bytes) (s : State) : Host.Outcome State Fault Refusal :=
  gate (okLane l) (s.onFrame l f (fun s f => s.strokeReflect l f))

/-- BLK_INJECT (R141). -/
def execBlkInject (s : State) : Host.Outcome State Fault Refusal :=
  gate true (s.each Config.strings State.blkInject)

/-- BLK_RECEIVE (R144). -/
def execBlkReceive (l : Nat) (g : Nat) (fourth : Nat) (s : State) : Host.Outcome State Fault Refusal :=
  gate (okLane l && okU8 g && okU8 fourth) (s.blkReceive l g fourth)

end Sys2Proof.Machine
end

