-- ==== Sys2Proof/Machine/ExecTime.lean ====
section
/-! DEFINITION. What the commands of one part of the table do. TIME: the period engine, references, snapshots and
timed writes (R31 to R64). -/

namespace Sys2Proof.Machine

open Sys2Proof

/-- PERIOD_ENGINE_START (R37). -/
def execPeriodEngineStart (s : State) : Host.Outcome State Fault Refusal :=
  gate true (s.hostF F.TIME_CTRL_PEN 1)

/-- APPLY_INSTANT (R42). -/
def execApplyInstant (s : State) : Host.Outcome State Fault Refusal :=
  gate true (s.applyInstant)

/-- PERIOD_ENGINE_STALL (R41). -/
def execPeriodEngineStall (s : State) : Host.Outcome State Fault Refusal :=
  gate true (s.stall)

/-- REF_LOSS (R34). -/
def execRefLoss (r : Nat) (s : State) : Host.Outcome State Fault Refusal :=
  gate (okRef r) (s.refLoss r)

/-- REF_RETURN (R35). -/
def execRefReturn (r : Nat) (s : State) : Host.Outcome State Fault Refusal :=
  gate (okRef r) (s.refReturn r)

/-- REF_HOLDOVER_EXPIRY (R35). -/
def execRefHoldoverExpiry (s : State) : Host.Outcome State Fault Refusal :=
  gate true (s.refExpiry)

/-- LG_START (R51). -/
def execLgStart (g : Nat) (s : State) : Host.Outcome State Fault Refusal :=
  gate (okGroup g) (s.startAt g)

/-- TIME_SNAP (R579). -/
def execTimeSnap (org : Nat) (s : State) : Host.Outcome State Fault Refusal :=
  gate (okOrigin org) (s.orgW org R.TIME_SNAP.addr 1)

/-- TIME_TW_PUSH (R59). -/
def execTimeTwPush (org : Nat) (tag : Nat) (s : State) : Host.Outcome State Fault Refusal :=
  gate (okOrigin org && okU16 tag) (s.orgW org R.TIME_TW_PUSH.addr tag)

/-- TIME_TW_CANCEL (R62). -/
def execTimeTwCancel (org : Nat) (tag : Nat) (s : State) : Host.Outcome State Fault Refusal :=
  gate (okOrigin org && okU16 tag) (s.orgW org R.TIME_TW_CANCEL.addr tag)

/-- TIMED_WRITE_FIRE (R60). -/
def execTimedWriteFire (s : State) : Host.Outcome State Fault Refusal :=
  gate true (s.twFire)

/-- TIME_CNT_CLR (R56). -/
def execTimeCntClr (s : State) : Host.Outcome State Fault Refusal :=
  gate true (s.hostW R.TIME_CNT_CLR.addr 1)

end Sys2Proof.Machine
end

