-- ==== Sys2Proof/Machine/ExecTrip.lean ====
section
/-! DEFINITION. What the commands of one part of the table do. Trips and the control engine (R203 to R224, R297 to
R318). -/

namespace Sys2Proof.Machine

open Sys2Proof

/-- TRIP_FILTER_PASS (R204). -/
def execTripFilterPass (n : Nat) (p : PinLevel) (s : State) : Host.Outcome State Fault Refusal :=
  gate (okTripIn n) (s.withTrips (·.tripPin n p.level p.held))

/-- TRIP_SOFT (R207). -/
def execTripSoft (m : Nat) (s : State) : Host.Outcome State Fault Refusal :=
  gate (okU8 m) (s.hostW R.TRIP_SOFT.addr m)

/-- TRIP_CLR (R214). -/
def execTripClr (m : Nat) (s : State) : Host.Outcome State Fault Refusal :=
  gate (okU8 m) (s.hostW R.TRIP_CLR.addr m)

/-- TRIP_CNT_CLR (R7). -/
def execTripCntClr (s : State) : Host.Outcome State Fault Refusal :=
  gate true (s.hostW R.TRIP_CNT_CLR.addr 1)

/-- TRIP_IN_CFG_WRITE (R205). -/
def execTripInCfgWrite (n : Nat) (data : Nat) (s : State) : Host.Outcome State Fault Refusal :=
  gate (okTripIn n && okU32 data) (s.hostW (R.TRIP_IN_CFG n).addr data)

/-- CENG_EVALUATE (R304). -/
def execCengEvaluate (g : Nat) (s : State) : Host.Outcome State Fault Refusal :=
  gate (okGroup g) (s.evalAt g)

end Sys2Proof.Machine
end

