-- ==== Sys2Proof/Machine/ExecVsp.lean ====
section
/-! DEFINITION. What the commands of one part of the table do. The Vesper recorder (R471 to R488). -/

namespace Sys2Proof.Machine

open Sys2Proof

/-- VSP_TICK (R473). -/
def execVspTick (s : State) : Host.Outcome State Fault Refusal :=
  gate true (s.each 16 State.vspTick)

/-- TRIGGER_UNIT_FIRE (R478). -/
def execTriggerUnitFire (s : State) : Host.Outcome State Fault Refusal :=
  gate true (s.fireDue)

/-- TRIGGER_TIMEOUT (R478). -/
def execTriggerTimeout (s : State) : Host.Outcome State Fault Refusal :=
  gate true (s.each 8 State.tuTimeout)

/-- VSP_CMD (R479). -/
def execVspCmd (m : Nat) (s : State) : Host.Outcome State Fault Refusal :=
  gate (okU16 m) (s.hostW R.VSP_CMD.addr m)

/-- ARM (R481). -/
def execArm (g : Nat) (s : State) : Host.Outcome State Fault Refusal :=
  gate (okSeg g) (s.hostW (R.VSP_SEG_CMD g).addr 1)

/-- DISARM (R480). -/
def execDisarm (g : Nat) (s : State) : Host.Outcome State Fault Refusal :=
  gate (okSeg g) (s.hostW (R.VSP_SEG_CMD g).addr 2)

/-- RELEASE (R480). -/
def execRelease (g : Nat) (s : State) : Host.Outcome State Fault Refusal :=
  gate (okSeg g) (s.hostW (R.VSP_SEG_CMD g).addr 3)

/-- SOFT (R479). -/
def execSoft (g : Nat) (s : State) : Host.Outcome State Fault Refusal :=
  gate (okSeg g) (s.hostW (R.VSP_SEG_CMD g).addr 4)

/-- REARM_DONE (R480). -/
def execRearmDone (g : Nat) (s : State) : Host.Outcome State Fault Refusal :=
  gate (okSeg g) (s.rearmDone g)

/-- VSP_CONFIG_WRITE (R475). -/
def execVspConfigWrite (g : Nat) (k : Nat) (data : Nat) (s : State) : Host.Outcome State Fault Refusal :=
  gate (okSeg g && okSegReg k && okU32 data) (s.hostW (segReg g k) data)

/-- VSP_READ (R486). -/
def execVspRead (r : Nat) (hm : HostMem) (s : State) : Host.Outcome State Fault Refusal :=
  gate (okRing r) ((s.see hm).vspRead r hm)

/-- VSP_READ_DONE (R487). -/
def execVspReadDone (r : Nat) (hm : HostMem) (s : State) : Host.Outcome State Fault Refusal :=
  gate (okRing r) ((s.see hm).vspReadDone r hm)

/-- VSP_CNT_CLR (R7). -/
def execVspCntClr (s : State) : Host.Outcome State Fault Refusal :=
  gate true (s.hostW R.VSP_CNT_CLR.addr 1)

/-- AIN_COMPARATOR_EDGE (R477). -/
def execAinComparatorEdge (u : Nat) (hi : Bool) (up : Bool) (t64 : Nat) (s : State) : Host.Outcome State Fault Refusal :=
  gate (okTu u) (s.comparator u hi up t64)

end Sys2Proof.Machine
end

