-- ==== Sys2Proof/Machine/Dispatch.lean ====
section
/-! DEFINITION. One arm per command: which meaning runs. -/

namespace Sys2Proof.Machine

open Sys2Proof

/-- The effect of a command on everything but the queue. -/
def exec (i : Instr) (s : State) : Host.Outcome State Fault Refusal :=
  match i with
  | .powerOnReset fit => Sys2Proof.Machine.execPowerOnReset fit s
  | .devReset key dawn => Sys2Proof.Machine.execDevReset key dawn s
  | .resetRelease refA refB side home => Sys2Proof.Machine.execResetRelease refA refB side home s
  | .startStepDone pass hm => Sys2Proof.Machine.execStartStepDone pass hm s
  | .refLoss r => Sys2Proof.Machine.execRefLoss r s
  | .refReturn r => Sys2Proof.Machine.execRefReturn r s
  | .lgStart g => Sys2Proof.Machine.execLgStart g s
  | .timeSnap org => Sys2Proof.Machine.execTimeSnap org s
  | .timeTwPush org tag => Sys2Proof.Machine.execTimeTwPush org tag s
  | .timeTwCancel org tag => Sys2Proof.Machine.execTimeTwCancel org tag s
  | .laneTrain l => Sys2Proof.Machine.execLaneTrain l s
  | .laneCfgWrite l data => Sys2Proof.Machine.execLaneCfgWrite l data s
  | .laneTxeqWrite l data => Sys2Proof.Machine.execLaneTxeqWrite l data s
  | .laneSyncAcquire l => Sys2Proof.Machine.execLaneSyncAcquire l s
  | .laneCodeError l e => Sys2Proof.Machine.execLaneCodeError l e s
  | .skpReceive l n fill => Sys2Proof.Machine.execSkpReceive l n fill s
  | .elasticBufferError l e => Sys2Proof.Machine.execElasticBufferError l e s
  | .adaptUpdate l ctle taps => Sys2Proof.Machine.execAdaptUpdate l ctle taps s
  | .adaptFreeze l => Sys2Proof.Machine.execAdaptFreeze l s
  | .adaptResume l => Sys2Proof.Machine.execAdaptResume l s
  | .trainAdaptDone l => Sys2Proof.Machine.execTrainAdaptDone l s
  | .helloResend l => Sys2Proof.Machine.execHelloResend l s
  | .trainAttemptTimeout l => Sys2Proof.Machine.execTrainAttemptTimeout l s
  | .backoffExpiry l => Sys2Proof.Machine.execBackoffExpiry l s
  | .absentRetry l => Sys2Proof.Machine.execAbsentRetry l s
  | .laneHelloReply l f => Sys2Proof.Machine.execLaneHelloReply l f s
  | .laneHelloReceive l f => Sys2Proof.Machine.execLaneHelloReceive l f s
  | .laneLos l sig => Sys2Proof.Machine.execLaneLos l sig s
  | .laneCntClr l => Sys2Proof.Machine.execLaneCntClr l s
  | .prbsLock l => Sys2Proof.Machine.execPrbsLock l s
  | .prbsLockLost l n errs => Sys2Proof.Machine.execPrbsLockLost l n errs s
  | .prbsErrRead l n errs => Sys2Proof.Machine.execPrbsErrRead l n errs s
  | .prbsClr l => Sys2Proof.Machine.execPrbsClr l s
  | .enum n => Sys2Proof.Machine.execEnum n s
  | .enumReplyReceive n f => Sys2Proof.Machine.execEnumReplyReceive n f s
  | .enumReplyTimeout n => Sys2Proof.Machine.execEnumReplyTimeout n s
  | .ackReceive n f => Sys2Proof.Machine.execAckReceive n f s
  | .ackTimeout n => Sys2Proof.Machine.execAckTimeout n s
  | .enumEchoReturn n f half => Sys2Proof.Machine.execEnumEchoReturn n f half s
  | .enumEchoTimeout n => Sys2Proof.Machine.execEnumEchoTimeout n s
  | .reenum n => Sys2Proof.Machine.execReenum n s
  | .strCntClr n => Sys2Proof.Machine.execStrCntClr n s
  | .bow g => Sys2Proof.Machine.execBow g s
  | .strokeReturn n f => Sys2Proof.Machine.execStrokeReturn n f s
  | .strokeNohome n => Sys2Proof.Machine.execStrokeNohome n s
  | .strokeReflect l f => Sys2Proof.Machine.execStrokeReflect l f s
  | .laneEchoReceive l f => Sys2Proof.Machine.execLaneEchoReceive l f s
  | .laneEnumHelloReceive l f => Sys2Proof.Machine.execLaneEnumHelloReceive l f s
  | .blkReceive l g fourth => Sys2Proof.Machine.execBlkReceive l g fourth s
  | .cellHello c port f => Sys2Proof.Machine.execCellHello c port f s
  | .cellAssign c port f => Sys2Proof.Machine.execCellAssign c port f s
  | .cellEcho c port f => Sys2Proof.Machine.execCellEcho c port f s
  | .cellRelease c port f => Sys2Proof.Machine.execCellRelease c port f s
  | .cellStroke c port f m => Sys2Proof.Machine.execCellStroke c port f m s
  | .cellApplyInstant c => Sys2Proof.Machine.execCellApplyInstant c s
  | .cellBlk c port g fourth => Sys2Proof.Machine.execCellBlk c port g fourth s
  | .cellAuthTimeout c => Sys2Proof.Machine.execCellAuthTimeout c s
  | .cellTableWrite c w data => Sys2Proof.Machine.execCellTableWrite c w data s
  | .modArmCommit a tag => Sys2Proof.Machine.execModArmCommit a tag s
  | .launchCut g => Sys2Proof.Machine.execLaunchCut g s
  | .trimCtrlWrite t data => Sys2Proof.Machine.execTrimCtrlWrite t data s
  | .trimPerWrite t per => Sys2Proof.Machine.execTrimPerWrite t per s
  | .dtTableWrite c w data => Sys2Proof.Machine.execDtTableWrite c w data s
  | .tripFilterPass n p => Sys2Proof.Machine.execTripFilterPass n p s
  | .tripSoft m => Sys2Proof.Machine.execTripSoft m s
  | .tripClr m => Sys2Proof.Machine.execTripClr m s
  | .tripInCfgWrite n data => Sys2Proof.Machine.execTripInCfgWrite n data s
  | .cengEvaluate g => Sys2Proof.Machine.execCengEvaluate g s
  | .coreAdd c => Sys2Proof.Machine.execCoreAdd c s
  | .coreSub c => Sys2Proof.Machine.execCoreSub c s
  | .coreAnd c => Sys2Proof.Machine.execCoreAnd c s
  | .coreOr c => Sys2Proof.Machine.execCoreOr c s
  | .coreXor c => Sys2Proof.Machine.execCoreXor c s
  | .coreAndn c => Sys2Proof.Machine.execCoreAndn c s
  | .coreShl c => Sys2Proof.Machine.execCoreShl c s
  | .coreShr c => Sys2Proof.Machine.execCoreShr c s
  | .coreSar c => Sys2Proof.Machine.execCoreSar c s
  | .coreMul c => Sys2Proof.Machine.execCoreMul c s
  | .coreCmp c => Sys2Proof.Machine.execCoreCmp c s
  | .coreMov c => Sys2Proof.Machine.execCoreMov c s
  | .corePopc c => Sys2Proof.Machine.execCorePopc c s
  | .coreClz c => Sys2Proof.Machine.execCoreClz c s
  | .coreLd c => Sys2Proof.Machine.execCoreLd c s
  | .coreSt c => Sys2Proof.Machine.execCoreSt c s
  | .coreLdx c => Sys2Proof.Machine.execCoreLdx c s
  | .coreStx c => Sys2Proof.Machine.execCoreStx c s
  | .coreVld c => Sys2Proof.Machine.execCoreVld c s
  | .coreVst c => Sys2Proof.Machine.execCoreVst c s
  | .coreVget c => Sys2Proof.Machine.execCoreVget c s
  | .coreVput c => Sys2Proof.Machine.execCoreVput c s
  | .coreVbc c => Sys2Proof.Machine.execCoreVbc c s
  | .coreVadd c => Sys2Proof.Machine.execCoreVadd c s
  | .coreVsub c => Sys2Proof.Machine.execCoreVsub c s
  | .coreVand c => Sys2Proof.Machine.execCoreVand c s
  | .coreVor c => Sys2Proof.Machine.execCoreVor c s
  | .coreVxor c => Sys2Proof.Machine.execCoreVxor c s
  | .coreVandn c => Sys2Proof.Machine.execCoreVandn c s
  | .coreVmac c => Sys2Proof.Machine.execCoreVmac c s
  | .coreVmsu c => Sys2Proof.Machine.execCoreVmsu c s
  | .coreVmacm c => Sys2Proof.Machine.execCoreVmacm c s
  | .coreVaclr c => Sys2Proof.Machine.execCoreVaclr c s
  | .coreVext c => Sys2Proof.Machine.execCoreVext c s
  | .coreSclr c => Sys2Proof.Machine.execCoreSclr c s
  | .coreSrch c => Sys2Proof.Machine.execCoreSrch c s
  | .coreSget c => Sys2Proof.Machine.execCoreSget c s
  | .coreSmac c => Sys2Proof.Machine.execCoreSmac c s
  | .coreSmsu c => Sys2Proof.Machine.execCoreSmsu c s
  | .coreSmac2 c => Sys2Proof.Machine.execCoreSmac2 c s
  | .coreSaclr c => Sys2Proof.Machine.execCoreSaclr c s
  | .coreSext c => Sys2Proof.Machine.execCoreSext c s
  | .coreFadd c => Sys2Proof.Machine.execCoreFadd c s
  | .coreFsub c => Sys2Proof.Machine.execCoreFsub c s
  | .coreFmul c => Sys2Proof.Machine.execCoreFmul c s
  | .coreFma c => Sys2Proof.Machine.execCoreFma c s
  | .coreFdiv c => Sys2Proof.Machine.execCoreFdiv c s
  | .coreFsqrt c => Sys2Proof.Machine.execCoreFsqrt c s
  | .coreFmin c => Sys2Proof.Machine.execCoreFmin c s
  | .coreFmax c => Sys2Proof.Machine.execCoreFmax c s
  | .coreFcmp c => Sys2Proof.Machine.execCoreFcmp c s
  | .coreFcvti c => Sys2Proof.Machine.execCoreFcvti c s
  | .coreFcvtf c => Sys2Proof.Machine.execCoreFcvtf c s
  | .coreFabs c => Sys2Proof.Machine.execCoreFabs c s
  | .coreFneg c => Sys2Proof.Machine.execCoreFneg c s
  | .corePset c => Sys2Proof.Machine.execCorePset c s
  | .corePget c => Sys2Proof.Machine.execCorePget c s
  | .corePupd c => Sys2Proof.Machine.execCorePupd c s
  | .coreMfs c => Sys2Proof.Machine.execCoreMfs c s
  | .coreMts c => Sys2Proof.Machine.execCoreMts c s
  | .coreB c => Sys2Proof.Machine.execCoreB c s
  | .coreBr c => Sys2Proof.Machine.execCoreBr c s
  | .coreCall c => Sys2Proof.Machine.execCoreCall c s
  | .coreLoop c => Sys2Proof.Machine.execCoreLoop c s
  | .coreDma c => Sys2Proof.Machine.execCoreDma c s
  | .coreDmaw c => Sys2Proof.Machine.execCoreDmaw c s
  | .coreSubmit c => Sys2Proof.Machine.execCoreSubmit c s
  | .coreFence c => Sys2Proof.Machine.execCoreFence c s
  | .coreEnd c => Sys2Proof.Machine.execCoreEnd c s
  | .coreNop c => Sys2Proof.Machine.execCoreNop c s
  | .coreDmaDone c tag hm => Sys2Proof.Machine.execCoreDmaDone c tag hm s
  | .contextSaveDone c => Sys2Proof.Machine.execContextSaveDone c s
  | .contextRestoreDone c => Sys2Proof.Machine.execContextRestoreDone c s
  | .periodTableFire e => Sys2Proof.Machine.execPeriodTableFire e s
  | .telSubmit g => Sys2Proof.Machine.execTelSubmit g s
  | .schedCancel src tag => Sys2Proof.Machine.execSchedCancel src tag s
  | .ringEnable r => Sys2Proof.Machine.execRingEnable r s
  | .ringDisable r => Sys2Proof.Machine.execRingDisable r s
  | .ringResume r => Sys2Proof.Machine.execRingResume r s
  | .hostDb r pi => Sys2Proof.Machine.execHostDb r pi s
  | .fetchFault r hm => Sys2Proof.Machine.execFetchFault r hm s
  | .ringNop r hm => Sys2Proof.Machine.execRingNop r hm s
  | .workSubmit r hm => Sys2Proof.Machine.execWorkSubmit r hm s
  | .copy r hm => Sys2Proof.Machine.execCopy r hm s
  | .copyDone r hm => Sys2Proof.Machine.execCopyDone r hm s
  | .queue r hm => Sys2Proof.Machine.execQueue r hm s
  | .ringCancel r hm => Sys2Proof.Machine.execRingCancel r hm s
  | .transact r hm => Sys2Proof.Machine.execTransact r hm s
  | .transactValidated r idx => Sys2Proof.Machine.execTransactValidated r idx s
  | .hostAbiSelWrite data => Sys2Proof.Machine.execHostAbiSelWrite data s
  | .msixUnmask v => Sys2Proof.Machine.execMsixUnmask v s
  | .bar0BadAccess a size => Sys2Proof.Machine.execBar0BadAccess a size s
  | .registerWrite a data => Sys2Proof.Machine.execRegisterWrite a data s
  | .scrubStep m hit => Sys2Proof.Machine.execScrubStep m hit s
  | .iommuCtrlWrite data => Sys2Proof.Machine.execIommuCtrlWrite data s
  | .iommuInv scope => Sys2Proof.Machine.execIommuInv scope s
  | .mhello l f => Sys2Proof.Machine.execMhello l f s
  | .mreply l f => Sys2Proof.Machine.execMreply l f s
  | .tsync l f ago => Sys2Proof.Machine.execTsync l f ago s
  | .health l f => Sys2Proof.Machine.execHealth l f s
  | .ckpt l f => Sys2Proof.Machine.execCkpt l f s
  | .map l f => Sys2Proof.Machine.execMap l f s
  | .dly l f => Sys2Proof.Machine.execDly l f s
  | .dlyTimeout n => Sys2Proof.Machine.execDlyTimeout n s
  | .srep l f => Sys2Proof.Machine.execSrep l f s
  | .relay l f => Sys2Proof.Machine.execRelay l f s
  | .rtel l f => Sys2Proof.Machine.execRtel l f s
  | .returnReq l f => Sys2Proof.Machine.execReturnReq l f s
  | .offer l f => Sys2Proof.Machine.execOffer l f s
  | .ctrlAck l f => Sys2Proof.Machine.execCtrlAck l f s
  | .ctrlRej l f => Sys2Proof.Machine.execCtrlRej l f s
  | .resync l f => Sys2Proof.Machine.execResync l f s
  | .islandSelftestDone pass cause => Sys2Proof.Machine.execIslandSelftestDone pass cause s
  | .contactDebounce n b p => Sys2Proof.Machine.execContactDebounce n b p s
  | .inputDiscrepancy d => Sys2Proof.Machine.execInputDiscrepancy d s
  | .islandEvaluation rba rbb permits => Sys2Proof.Machine.execIslandEvaluation rba rbb permits s
  | .offPulseTest o bad => Sys2Proof.Machine.execOffPulseTest o bad s
  | .configCrcCheck w flip => Sys2Proof.Machine.execConfigCrcCheck w flip s
  | .rcMonitorCheck err => Sys2Proof.Machine.execRcMonitorCheck err s
  | .marchTest pass => Sys2Proof.Machine.execMarchTest pass s
  | .patternTest pass => Sys2Proof.Machine.execPatternTest pass s
  | .logicMemAccess wr => Sys2Proof.Machine.execLogicMemAccess wr s
  | .retainWriteDone back => Sys2Proof.Machine.execRetainWriteDone back s
  | .vspCmd m => Sys2Proof.Machine.execVspCmd m s
  | .arm g => Sys2Proof.Machine.execArm g s
  | .disarm g => Sys2Proof.Machine.execDisarm g s
  | .release g => Sys2Proof.Machine.execRelease g s
  | .soft g => Sys2Proof.Machine.execSoft g s
  | .rearmDone g => Sys2Proof.Machine.execRearmDone g s
  | .vspConfigWrite g k data => Sys2Proof.Machine.execVspConfigWrite g k data s
  | .vspRead r hm => Sys2Proof.Machine.execVspRead r hm s
  | .vspReadDone r hm => Sys2Proof.Machine.execVspReadDone r hm s
  | .adcStart c => Sys2Proof.Machine.execAdcStart c s
  | .adcResult c k raw beyond => Sys2Proof.Machine.execAdcResult c k raw beyond s
  | .cal cv => Sys2Proof.Machine.execCal cv s
  | .calComplete c facts => Sys2Proof.Machine.execCalComplete c facts s
  | .accept cv => Sys2Proof.Machine.execAccept cv s
  | .protCalRotate c fact => Sys2Proof.Machine.execProtCalRotate c fact s
  | .adcRefSelect sel => Sys2Proof.Machine.execAdcRefSelect sel s
  | .ethFrameReceive p frame ago hm => Sys2Proof.Machine.execEthFrameReceive p frame ago hm s
  | .subscriptionStale sv n => Sys2Proof.Machine.execSubscriptionStale sv n s
  | .ethSend r hm => Sys2Proof.Machine.execEthSend r hm s
  | .ethSendDone p ago => Sys2Proof.Machine.execEthSendDone p ago s
  | .ethBuf r hm => Sys2Proof.Machine.execEthBuf r hm s
  | .ethTsqHeadRead p => Sys2Proof.Machine.execEthTsqHeadRead p s
  | .ethFreqWrite v => Sys2Proof.Machine.execEthFreqWrite v s
  | .ethSlewWrite v => Sys2Proof.Machine.execEthSlewWrite v s
  | .ethSlewRateWrite v => Sys2Proof.Machine.execEthSlewRateWrite v s
  | .ppsInEdge => Sys2Proof.Machine.execPpsInEdge s
  | .canEnable n => Sys2Proof.Machine.execCanEnable n s
  | .canDisable n => Sys2Proof.Machine.execCanDisable n s
  | .recover n => Sys2Proof.Machine.execRecover n s
  | .canRecoveryDone n => Sys2Proof.Machine.execCanRecoveryDone n s
  | .canSend r hm => Sys2Proof.Machine.execCanSend r hm s
  | .canFrameSent n sync ago => Sys2Proof.Machine.execCanFrameSent n sync ago s
  | .canTxError n kind => Sys2Proof.Machine.execCanTxError n kind s
  | .canFrameReceive n id fmt data ago => Sys2Proof.Machine.execCanFrameReceive n id fmt data ago s
  | .canBuf r hm => Sys2Proof.Machine.execCanBuf r hm s
  | .imgErase r hm => Sys2Proof.Machine.execImgErase r hm s
  | .imgProgram r hm => Sys2Proof.Machine.execImgProgram r hm s
  | .imgVerify r hm => Sys2Proof.Machine.execImgVerify r hm s
  | .imgCommit r hm => Sys2Proof.Machine.execImgCommit r hm s
  | .imgStepDone r hm => Sys2Proof.Machine.execImgStepDone r hm s
  | .otpProgram slot => Sys2Proof.Machine.execOtpProgram slot s
  | .otpRevoke slot => Sys2Proof.Machine.execOtpRevoke slot s
  | .otpProgramDone back => Sys2Proof.Machine.execOtpProgramDone back s
  | .undefinedInstruction c => Sys2Proof.Machine.execUndefinedInstruction c s
  | .undefinedOpDescriptor r hm => Sys2Proof.Machine.execUndefinedOpDescriptor r hm s
  | .mirrorFrameDiscarded l f => Sys2Proof.Machine.execMirrorFrameDiscarded l f s
  | .cmdUndefined a data => Sys2Proof.Machine.execCmdUndefined a data s
  | .ainComparatorEdge u hi up t64 => Sys2Proof.Machine.execAinComparatorEdge u hi up t64 s
  | .ethLinkUp p => Sys2Proof.Machine.execEthLinkUp p s
  | .ethLinkDown p => Sys2Proof.Machine.execEthLinkDown p s
  | .canRxError n dominant => Sys2Proof.Machine.execCanRxError n dominant s
  | .linkTrained speed width => Sys2Proof.Machine.execLinkTrained speed width s
  | .cellPortUp c port => Sys2Proof.Machine.execCellPortUp c port s
  | .cellPortLoss c port => Sys2Proof.Machine.execCellPortLoss c port s
  | .resetNLow => Sys2Proof.Machine.execResetNLow s
  | .startTimeLimit => Sys2Proof.Machine.execStartTimeLimit s
  | .goReady => Sys2Proof.Machine.execGoReady s
  | .goRun => Sys2Proof.Machine.execGoRun s
  | .stop => Sys2Proof.Machine.execStop s
  | .goConfig => Sys2Proof.Machine.execGoConfig s
  | .forceSafeHold => Sys2Proof.Machine.execForceSafeHold s
  | .periodEngineStart => Sys2Proof.Machine.execPeriodEngineStart s
  | .applyInstant => Sys2Proof.Machine.execApplyInstant s
  | .periodEngineStall => Sys2Proof.Machine.execPeriodEngineStall s
  | .refHoldoverExpiry => Sys2Proof.Machine.execRefHoldoverExpiry s
  | .timedWriteFire => Sys2Proof.Machine.execTimedWriteFire s
  | .timeCntClr => Sys2Proof.Machine.execTimeCntClr s
  | .enumStart => Sys2Proof.Machine.execEnumStart s
  | .blkInject => Sys2Proof.Machine.execBlkInject s
  | .obsUpdate => Sys2Proof.Machine.execObsUpdate s
  | .vectorDelivery => Sys2Proof.Machine.execVectorDelivery s
  | .modCntClr => Sys2Proof.Machine.execModCntClr s
  | .trimWrap => Sys2Proof.Machine.execTrimWrap s
  | .modMcntClr => Sys2Proof.Machine.execModMcntClr s
  | .tripCntClr => Sys2Proof.Machine.execTripCntClr s
  | .schedDispatch => Sys2Proof.Machine.execSchedDispatch s
  | .schedPreempt => Sys2Proof.Machine.execSchedPreempt s
  | .spillRefill => Sys2Proof.Machine.execSpillRefill s
  | .deadlineExpiry => Sys2Proof.Machine.execDeadlineExpiry s
  | .affWaitExpiry => Sys2Proof.Machine.execAffWaitExpiry s
  | .quotaWindowEnd => Sys2Proof.Machine.execQuotaWindowEnd s
  | .schedCntClr => Sys2Proof.Machine.execSchedCntClr s
  | .ringDrainDone => Sys2Proof.Machine.execRingDrainDone s
  | .transactCommit => Sys2Proof.Machine.execTransactCommit s
  | .irqCoalesceTimeout => Sys2Proof.Machine.execIrqCoalesceTimeout s
  | .linkReset => Sys2Proof.Machine.execLinkReset s
  | .hostCntClr => Sys2Proof.Machine.execHostCntClr s
  | .memCntClr => Sys2Proof.Machine.execMemCntClr s
  | .iommuInvDone => Sys2Proof.Machine.execIommuInvDone s
  | .iommuCntClr => Sys2Proof.Machine.execIommuCntClr s
  | .actInHigh => Sys2Proof.Machine.execActInHigh s
  | .actInLow => Sys2Proof.Machine.execActInLow s
  | .initialClaimStart => Sys2Proof.Machine.execInitialClaimStart s
  | .claimGuardEnd => Sys2Proof.Machine.execClaimGuardEnd s
  | .claimVetoEnd => Sys2Proof.Machine.execClaimVetoEnd s
  | .claimConfirm => Sys2Proof.Machine.execClaimConfirm s
  | .heartbeatExpiry => Sys2Proof.Machine.execHeartbeatExpiry s
  | .returnHoldoffExpiry => Sys2Proof.Machine.execReturnHoldoffExpiry s
  | .returnTimeout => Sys2Proof.Machine.execReturnTimeout s
  | .handover => Sys2Proof.Machine.execHandover s
  | .finalSegmentSent => Sys2Proof.Machine.execFinalSegmentSent s
  | .finalCaptureApply => Sys2Proof.Machine.execFinalCaptureApply s
  | .finalCaptureTimeout => Sys2Proof.Machine.execFinalCaptureTimeout s
  | .leavingReclaim => Sys2Proof.Machine.execLeavingReclaim s
  | .pairCntClr => Sys2Proof.Machine.execPairCntClr s
  | .vddsafeUp => Sys2Proof.Machine.execVddsafeUp s
  | .vddsafeLoss => Sys2Proof.Machine.execVddsafeLoss s
  | .commit => Sys2Proof.Machine.execCommit s
  | .islandReset => Sys2Proof.Machine.execIslandReset s
  | .freset => Sys2Proof.Machine.execFreset s
  | .safeCntClr => Sys2Proof.Machine.execSafeCntClr s
  | .sapDelayExpiry => Sys2Proof.Machine.execSapDelayExpiry s
  | .watchdogExpiry => Sys2Proof.Machine.execWatchdogExpiry s
  | .vddsafeOutOfRange => Sys2Proof.Machine.execVddsafeOutOfRange s
  | .logicCycleStart => Sys2Proof.Machine.execLogicCycleStart s
  | .startCold => Sys2Proof.Machine.execStartCold s
  | .startWarm => Sys2Proof.Machine.execStartWarm s
  | .logicStop => Sys2Proof.Machine.execLogicStop s
  | .validate => Sys2Proof.Machine.execValidate s
  | .validateDone => Sys2Proof.Machine.execValidateDone s
  | .exchange => Sys2Proof.Machine.execExchange s
  | .logicCntClr => Sys2Proof.Machine.execLogicCntClr s
  | .logicLd => Sys2Proof.Machine.execLogicLd s
  | .logicLdn => Sys2Proof.Machine.execLogicLdn s
  | .logicAnd => Sys2Proof.Machine.execLogicAnd s
  | .logicAndn => Sys2Proof.Machine.execLogicAndn s
  | .logicOr => Sys2Proof.Machine.execLogicOr s
  | .logicOrn => Sys2Proof.Machine.execLogicOrn s
  | .logicXor => Sys2Proof.Machine.execLogicXor s
  | .logicSt => Sys2Proof.Machine.execLogicSt s
  | .logicStn => Sys2Proof.Machine.execLogicStn s
  | .logicSet => Sys2Proof.Machine.execLogicSet s
  | .logicRst => Sys2Proof.Machine.execLogicRst s
  | .logicNot => Sys2Proof.Machine.execLogicNot s
  | .pusha => Sys2Proof.Machine.execPusha s
  | .pusho => Sys2Proof.Machine.execPusho s
  | .pop => Sys2Proof.Machine.execPop s
  | .logicRe => Sys2Proof.Machine.execLogicRe s
  | .logicFe => Sys2Proof.Machine.execLogicFe s
  | .ton => Sys2Proof.Machine.execTon s
  | .tof => Sys2Proof.Machine.execTof s
  | .tp => Sys2Proof.Machine.execTp s
  | .ctu => Sys2Proof.Machine.execCtu s
  | .ctd => Sys2Proof.Machine.execCtd s
  | .crst => Sys2Proof.Machine.execCrst s
  | .ldw => Sys2Proof.Machine.execLdw s
  | .ldi => Sys2Proof.Machine.execLdi s
  | .ldih => Sys2Proof.Machine.execLdih s
  | .stw => Sys2Proof.Machine.execStw s
  | .stwc => Sys2Proof.Machine.execStwc s
  | .logicAdd => Sys2Proof.Machine.execLogicAdd s
  | .logicSub => Sys2Proof.Machine.execLogicSub s
  | .logicMul => Sys2Proof.Machine.execLogicMul s
  | .andw => Sys2Proof.Machine.execAndw s
  | .orw => Sys2Proof.Machine.execOrw s
  | .xorw => Sys2Proof.Machine.execXorw s
  | .addi => Sys2Proof.Machine.execAddi s
  | .logicShl => Sys2Proof.Machine.execLogicShl s
  | .logicShr => Sys2Proof.Machine.execLogicShr s
  | .logicSar => Sys2Proof.Machine.execLogicSar s
  | .ceq => Sys2Proof.Machine.execCeq s
  | .cgt => Sys2Proof.Machine.execCgt s
  | .clt => Sys2Proof.Machine.execClt s
  | .logicBit => Sys2Proof.Machine.execLogicBit s
  | .jmp => Sys2Proof.Machine.execJmp s
  | .jt => Sys2Proof.Machine.execJt s
  | .jf => Sys2Proof.Machine.execJf s
  | .logicEnd => Sys2Proof.Machine.execLogicEnd s
  | .rdr => Sys2Proof.Machine.execRdr s
  | .wrr => Sys2Proof.Machine.execWrr s
  | .subm => Sys2Proof.Machine.execSubm s
  | .logicNop => Sys2Proof.Machine.execLogicNop s
  | .vspTick => Sys2Proof.Machine.execVspTick s
  | .triggerUnitFire => Sys2Proof.Machine.execTriggerUnitFire s
  | .triggerTimeout => Sys2Proof.Machine.execTriggerTimeout s
  | .vspCntClr => Sys2Proof.Machine.execVspCntClr s
  | .freeRunSample => Sys2Proof.Machine.execFreeRunSample s
  | .calInterrupt => Sys2Proof.Machine.execCalInterrupt s
  | .adcCntClr => Sys2Proof.Machine.execAdcCntClr s
  | .refSettled => Sys2Proof.Machine.execRefSettled s
  | .slewDone => Sys2Proof.Machine.execSlewDone s
  | .stepGo => Sys2Proof.Machine.execStepGo s
  | .holdover => Sys2Proof.Machine.execHoldover s
  | .ppsOutPulse => Sys2Proof.Machine.execPpsOutPulse s
  | .ethPpsinSecRead => Sys2Proof.Machine.execEthPpsinSecRead s
  | .ethCntClr => Sys2Proof.Machine.execEthCntClr s
  | .noAckAlone => Sys2Proof.Machine.execNoAckAlone s
  | .take => Sys2Proof.Machine.execTake s
  | .canCorrLatch => Sys2Proof.Machine.execCanCorrLatch s
  | .canCntClr => Sys2Proof.Machine.execCanCntClr s
  | .referenceOutOfTolerance => Sys2Proof.Machine.execReferenceOutOfTolerance s

end Sys2Proof.Machine
end

