-- ==== Sys2Proof/Machine/Step.lean ====
section
/-! DEFINITION. One step: the command at the front of the queue, or a nanosecond of time. -/

namespace Sys2Proof.Machine

open Sys2Proof

/-- Takes the command at the front of the queue and runs it on the state with the queue's rest. On
an empty queue one nanosecond of time passes (notes/assumptions/27.md). -/
def step (s : State) : Host.Outcome State Fault Refusal :=
  match s.pending with
  | [] => .next s.tick
  | i :: rest => exec i { s with pending := rest }

/-- The state with a command put at the front of its queue. -/
def State.push (s : State) (i : Instr) : State := { s with pending := i :: s.pending }

/-- The state with the command that a word spells at the front of its queue; no word of the
table spells one. -/
def State.withFetchWord (s : State) (nbits w : Nat) : State :=
  match decodeTableWord nbits w with
  | some i => s.push i
  | none => s

end Sys2Proof.Machine
end

