-- ==== Sys2Proof/Safety.lean ====
section
/-! DEFINITION. The words in which statements speak of a run: what a command answers, and what of
the state it leaves as it was. -/

namespace Sys2Proof.Machine

open Sys2Proof

/-- The command answers a next state, of which P holds. -/
def State.Gives (s : State) (i : Instr) (P : State → Prop) : Prop := ∃ t, exec i s = .next t ∧ P t

/-- The command answers exactly the state t. -/
def State.Leads (s : State) (i : Instr) (t : State) : Prop := exec i s = .next t

/-- The part answers its bus: it is not in RESET. -/
abbrev State.Awake (s : State) : Prop := s.dev.inReset = false

/-- No fatal fault and no command of DEV_CMD has gone before in this core cycle (R27). -/
abbrev State.FirstOfCycle (s : State) : Prop :=
  s.dev.faultAt ≠ some s.time.cyc ∧ ∀ u, s.dev.undo = some u → u.cyc ≠ s.time.cyc

/-- t differs from s at most in the registers at the offsets listed. -/
def RegsOnly (as : List Nat) (s t : State) : Prop :=
  t = { s with regs := t.regs } ∧ ∀ a, a ∉ as → ∀ d, sget t.regs d a = sget s.regs d a

/-- t differs from s at most in the registers listed, in the event causes, and in what the events'
interrupt messages leave: sent, or pending. -/
def EvtOnly (as : List Nat) (s t : State) : Prop :=
  t = { s with regs := t.regs, out := t.out, host := { s.host with pendingV := t.host.pendingV } } ∧
    ∀ a, a ∉ R.HOST_EVT_CAUSE.addr :: as → ∀ d, sget t.regs d a = sget s.regs d a

/-- t differs from s at most in the registers and the inner state of lane l, and in what it
sends. -/
def LaneOnly (l : Nat) (s t : State) : Prop :=
  t = { s with regs := t.regs, lanes := t.lanes, out := t.out, free := t.free } ∧
    (∀ a, (a < 0x100000 + 0x1000 * l ∨ 0x101000 + 0x1000 * l ≤ a) → ∀ d,
      sget t.regs d a = sget s.regs d a) ∧
    ∀ k, k ≠ l → t.lane k = s.lane k

/-- What goes before a frame on lane l: the SKPs of the fill since its latest frame, if there were any
(R73). -/
def State.fillBefore (s : State) (l : Nat) : List Out :=
  if s.fillSkps l = 0 then [] else [.fill l (s.fillSkps l)]

/-- No error stands in the frame being received on the lane of string n (R69). -/
def State.Unhurt (s : State) (n : Nat) : Prop := ∀ l, s.strLane? n = some l → (s.lane l).hurt = []

/-- In this time-base cycle no trip group has latched and none has been cleared, and no DEBLOCK waits
for its end (R215, R218). -/
def State.QuietTrips (s : State) : Prop :=
  s.trip.db = none ∧ ∀ g, (sget s.trip.clrAt (0, false) g).1 ≠ s.elapsed + 1 ∧
    sget s.trip.latchAt 0 g ≠ s.elapsed + 1

/-- The command brings the register fields listed to 0 and changes no other register and nothing
else. -/
def State.Clears (s : State) (i : Instr) (fs : List Fld) : Prop :=
  s.Gives i (fun t => (∀ f ∈ fs, t.get f = 0) ∧ RegsOnly (fs.map Fld.addr) s t)

/-- t differs from s at most in cell c and in what cells send. -/
def CellOnly (c : Nat) (s t : State) : Prop :=
  t = { s with cells := t.cells, out := t.out, free := t.free } ∧ ∀ k, k ≠ c → t.cell k = s.cell k

/-- The island is in FAULT with a cause: no output is energised and every arm's permit is low. -/
def IslandFaulted (cause : Nat) (t : State) : Prop :=
  t.ist = .fault ∧ t.get F.SAFE_CHK_FCAUSE = cause ∧ t.safe.drive = 0 ∧ t.get F.TRIP_STAT_SVB_DEM = 63

/-- The trigger of segment g is taken: latched, and the record closed where its samples are already
written (R480, R482). -/
def SegTaken (s t : State) (g inst tsrc : Nat) : Prop :=
  (t.seg g).trig = some (inst, s.segIndex g inst) ∧ (t.seg g).tsrc = tsrc ∧
    (t.seg g).pre = min (s.segIndex g inst) (s.segSize g - s.get (F.VSP_SEG_POST_POST g)) ∧
    t.segState g = (if s.segIndex g inst + s.get (F.VSP_SEG_POST_POST g) ≤ (s.seg g).cnt then 3 else 2)

/-- One more trigger of segment g is missed (R480). -/
def SegMissed (s t : State) (g : Nat) : Prop :=
  t.on (F.VSP_SEG_STAT_MISS g) = true ∧ t.get (R.VSP_SEG_MISSED g) = satInc 32 (s.get (R.VSP_SEG_MISSED g))

/-- What a trigger at an instant (in 2^-16 ns) from a source does to segment g (R480, R482, R483):
nothing in IDLE, nor in the cycle in which the segment became ARMED; masked in ARMED while FULLPRE
waits for history; else taken. In POST it is missed, but where the trigger taken in this very cycle
comes after it: then it is taken in its place. In any other state it is missed. -/
def SegTriggered (s t : State) (g inst tsrc : Nat) : Prop :=
  (s.segState g = 0 → t.segState g = 0 ∧ t.seg g = s.seg g) ∧
  (s.segState g = 1 → (s.seg g).armAt = some s.elapsed → t.segState g = 1 ∧ t.seg g = s.seg g) ∧
  (s.segState g = 1 → (s.seg g).armAt ≠ some s.elapsed →
    (s.on (F.VSP_SEG_CFG_FULLPRE g) = true →
      (s.seg g).cnt < s.segSize g - s.get (F.VSP_SEG_POST_POST g) →
      t.segState g = 1 ∧ t.seg g = s.seg g ∧ t.get (R.VSP_SEG_MASKED g) = satInc 32 (s.get (R.VSP_SEG_MASKED g))) ∧
    ((s.on (F.VSP_SEG_CFG_FULLPRE g) = false ∨
        s.segSize g - s.get (F.VSP_SEG_POST_POST g) ≤ (s.seg g).cnt) → SegTaken s t g inst tsrc)) ∧
  (∀ old j, s.segState g = 2 → (s.seg g).trig = some (old, j) →
    (((s.seg g).latchAt = some s.elapsed ∧
        (inst < old ∨ (inst = old ∧ tsrcRank tsrc < tsrcRank (s.seg g).tsrc))) →
      SegTaken s t g inst tsrc ∧ SegMissed s t g) ∧
    (((s.seg g).latchAt ≠ some s.elapsed ∨ old < inst ∨
        (inst = old ∧ tsrcRank (s.seg g).tsrc ≤ tsrcRank tsrc)) →
      t.segState g = 2 ∧ t.seg g = s.seg g ∧ SegMissed s t g)) ∧
  (3 ≤ s.segState g → t.segState g = s.segState g ∧ t.seg g = s.seg g ∧ SegMissed s t g)

/-- Fields lie in one register and share no bit. -/
def Fld.Apart (f g : Fld) : Prop :=
  f.addr = g.addr ∧ f.rst = g.rst ∧ (f.lo + f.w ≤ g.lo ∨ g.lo + g.w ≤ f.lo)

/-- A field lies inside its register. -/
def Fld.Fits (f : Fld) : Prop := 0 < f.w ∧ f.lo + f.w ≤ 32 ∧ f.rst < 2 ^ 32

/-! ## Instructions of the cores -/

/-- Register gn as a bit vector. -/
def Ctx.bv (x : Ctx) (n : Nat) : BitVec 32 := sget x.g 0 n

/-- Core c can issue: x is its item's context, w the word at its program counter, and t the state
after the fetch (which may have corrected a bit). -/
def State.CoreAt (s : State) (c w : Nat) (x : Ctx) (t : State) : Prop :=
  c < 16 ∧ s.coreIssues c = some x ∧ s.coreFetch c x.pc = (.ok w, t)

/-- The item of core c goes on with context y at the next instruction (R254, R255). -/
def State.retire (s : State) (c : Nat) (y : Ctx) : State :=
  s.setCtx c { y with pc := (loopNext y.pc y.loops).1, loops := (loopNext y.pc y.loops).2 }

/-- The instruction with code `op`: where its fields are legal it completes with a context of
which P holds and changes nothing else; where they are not, it raises ILLEGAL (R237). -/
def CoreRow (i : Nat → Instr) (op : Nat) (legal : Nat → Ctx → Bool)
    (P : Nat → Ctx → Ctx → Prop) : Prop :=
  ∀ s c w x t, s.CoreAt c w x t → cwOp w = op →
    (legal w x = true → ∃ y, exec (i c) s = .next (t.retire c y) ∧ P w x y) ∧
    (legal w x = false → exec (i c) s = .next (t.coreExc c .illegal 0 0))

/-- A load of bytes by the instruction with code `op`, in the order of R263: ILLEGAL, ALIGN, then
UNMAPPED or PROT, then DECC, each an exception and nothing else; else the bytes go into the
context that `fin` gives. -/
def CoreLoad (i : Nat → Instr) (op : Nat) (legal : Nat → Ctx → Bool) (own : Bool)
    (addr align : Nat → Ctx → Nat) (runs : Nat → Ctx → List (Nat × Nat))
    (fin : Nat → Ctx → Bytes → Ctx) : Prop :=
  ∀ s c w x t, s.CoreAt c w x t → cwOp w = op →
    (legal w x = false → exec (i c) s = .next (t.coreExc c .illegal 0 0)) ∧
    (legal w x = true →
      (addr w x % align w x ≠ 0 → exec (i c) s = .next (t.coreExc c .align 1 (addr w x))) ∧
      (addr w x % align w x = 0 →
        (∀ e, t.coreAccess c false own (runs w x) = some e →
          exec (i c) s = .next (t.coreExc c e 1 (addr w x))) ∧
        (t.coreAccess c false own (runs w x) = none → ∀ b bad u,
          t.coreRdRuns c (runs w x) = (b, bad, u) →
          exec (i c) s = .next
            (if bad then u.coreExc c .decc 1 (addr w x) else u.retire c (fin w x b)))))

/-- A store of bytes, with the same order of checks; a store is performed whole or, on DECC, not at
all. -/
def CoreStore (i : Nat → Instr) (op : Nat) (legal : Nat → Ctx → Bool)
    (addr align : Nat → Ctx → Nat) (runs : Nat → Ctx → List (Nat × Nat))
    (data : Nat → Ctx → Bytes) (fin : Nat → Ctx → Ctx) : Prop :=
  ∀ s c w x t, s.CoreAt c w x t → cwOp w = op →
    (legal w x = false → exec (i c) s = .next (t.coreExc c .illegal 0 0)) ∧
    (legal w x = true →
      (addr w x % align w x ≠ 0 → exec (i c) s = .next (t.coreExc c .align 1 (addr w x))) ∧
      (addr w x % align w x = 0 →
        (∀ e, t.coreAccess c true false (runs w x) = some e →
          exec (i c) s = .next (t.coreExc c e 1 (addr w x))) ∧
        (t.coreAccess c true false (runs w x) = none → ∀ bad u,
          t.coreStore c (storeRuns c (runs w x) (data w x)) = (bad, u) →
          exec (i c) s = .next
            (if bad then u.coreExc c .decc 1 (addr w x) else u.retire c (fin w x)))))

/-- Address of a scalar access through the pointer of operand A (R242). -/
def ptrAddr (w : Nat) (x : Ctx) : Nat := (x.rp (ptrNo (cwA w))).at' (accSize w)

/-- Address of an access at gA + IMM. -/
def immAddr (w : Nat) (x : Ctx) : Nat := (x.bv (cwA w) + BitVec.ofNat 32 (cwImm w)).toNat

/-- Address of a vector access through the pointer of operand A. -/
def vecAddr (w : Nat) (x : Ctx) : Nat := (x.rp (ptrNo (cwA w))).at' 16

/-- y is x with register gd at r, and flags that a statement gives beside. -/
def Ctx.WritesG (x y : Ctx) (d r : Nat) : Prop :=
  y = { x with g := y.g, status := y.status } ∧ y.rg d = r ∧ ∀ n, n ≠ d → y.rg n = x.rg n

/-- y is x with register vd at r, and flags that a statement gives beside. -/
def Ctx.WritesV (x y : Ctx) (d : Nat) (r : Nat) : Prop :=
  y = { x with v := y.v, status := y.status } ∧ y.rv d = r ∧ ∀ n, n ≠ d → y.rv n = x.rv n

/-- Z, N, C and V of y; the other bits of STATUS as in x. -/
def Ctx.FlagsZNCV (x y : Ctx) (z n c v : Bool) : Prop :=
  y.st 0 = z ∧ y.st 1 = n ∧ y.st 2 = c ∧ y.st 3 = v ∧ ∀ i, 4 ≤ i → y.st i = x.st i

/-- Z and N of y; the other bits of STATUS as in x. -/
def Ctx.FlagsZN (x y : Ctx) (z n : Bool) : Prop :=
  y.st 0 = z ∧ y.st 1 = n ∧ ∀ i, 2 ≤ i → y.st i = x.st i

/-- Operand B of ADD to MOV as a bit vector (R237). -/
def Ctx.bvB (x : Ctx) (w : Nat) : BitVec 32 :=
  if cwOpt w = 1 then BitVec.ofNat 32 (cwImm w) else x.bv (cwB w)

/-- Lane l of a vector register as a bit vector. -/
def Ctx.vl (x : Ctx) (n l : Nat) : BitVec 16 := (sget x.v 0 n).extractLsb' (16 * l) 16

/-! ## Instructions of the station logic engine -/

/-- The engine in RUN inside a cycle, at an instruction w; u is the state after the fetch, with the
program counter and the count of clocks moved on by the instruction's (R451). -/
def State.LogicAt (s : State) (n w : Nat) (u : State) : Prop :=
  s.lgst = .run ∧ s.logic.inCycle = true ∧ ∃ v, s.lRead (s.lCode s.lActive s.logic.pc) = (some w, v) ∧
    u = { v with logic := { v.logic with pc := v.logic.pc + 1, clocks := v.logic.clocks + n } }

/-- The instruction with code `op` and `n` clocks completes with a state of which P holds. -/
def LogicRow (i : Instr) (op n : Nat) (P : Nat → State → State → Prop) : Prop :=
  ∀ (s : State) w u, s.LogicAt n w u → lOp w = op → s.Gives i (P w u)

/-- t is u with LA at a value, and nothing else changed. -/
def State.WithLa (u t : State) (b : Bool) : Prop := t = { u with logic := { u.logic with la := b } }

/-- t is u with ACC at a value, and nothing else changed. -/
def State.WithAcc (u t : State) (v : Nat) : Prop := t = { u with logic := { u.logic with acc := v } }

/-- A bit operand read into LA by f of LA and the bit; a word that reads bad ends the instruction;
an operand outside its area reads a free value. -/
def ReadsBit (f : Bool → Bool → Bool) (w : Nat) (u t : State) : Prop :=
  (∀ o b d v, lBitAt (lArea w) (lIdx w) = some (o, b) → u.lWord o = (some d, v) →
    v.WithLa t (f u.logic.la (d.testBit b))) ∧
  (∀ o b v, lBitAt (lArea w) (lIdx w) = some (o, b) → u.lWord o = (none, v) → t = v) ∧
  (lBitAt (lArea w) (lIdx w) = none → ∃ b, State.WithLa { u with free := u.free + 1 } t (f u.logic.la b))

/-- A bit operand written, where its area is writable; forced bits keep their value (R469). -/
def WritesBit (val : Bool) (w : Nat) (u t : State) : Prop :=
  (∀ o b d v, lBitAt (lArea w) (lIdx w) = some (o, b) → lBitWritable (lArea w) = true →
    u.lRead (logicBase + o) = (some d, v) →
    t = v.wr32 (logicBase + o) (v.lView o (setBits d b 1 (b2n val) % 2 ^ 32))) ∧
  (∀ o b v, lBitAt (lArea w) (lIdx w) = some (o, b) → lBitWritable (lArea w) = true →
    u.lRead (logicBase + o) = (none, v) → t = v) ∧
  (lBitAt (lArea w) (lIdx w) = none ∨ lBitWritable (lArea w) = false → t = u)

/-- A word operand read into a relation; a word that reads bad ends the instruction; an operand
outside its area reads a free value. -/
def ReadsWord (f : Nat → State → State → Prop) (w : Nat) (u t : State) : Prop :=
  (∀ o d v, lWordAt (lArea w) (lIdx w) = some o → u.lWord o = (some d, v) → f d v t) ∧
  (∀ o v, lWordAt (lArea w) (lIdx w) = some o → u.lWord o = (none, v) → t = v) ∧
  (lWordAt (lArea w) (lIdx w) = none → ∃ d, d < 2 ^ 32 ∧ f d { u with free := u.free + 1 } t)

/-- A word operand written, where its area is writable. -/
def WritesWord (val w : Nat) (u t : State) : Prop :=
  (∀ o, lWordAt (lArea w) (lIdx w) = some o → lWordWritable (lArea w) = true →
    t = u.wr32 (logicBase + o) (u.lView o (val % 2 ^ 32))) ∧
  (lWordAt (lArea w) (lIdx w) = none ∨ lWordWritable (lArea w) = false → t = u)

/-- ACC as a bit vector. -/
def State.accBv (s : State) : BitVec 32 := BitVec.ofNat 32 s.logic.acc

/-- The record of a timer after its evaluation (R454, R455): Q, INIT clear, ET, the cycle index and
the remainder, as the pseudocode gives them; LA is Q. -/
def TimerRow (kind w : Nat) (u t : State) : Prop :=
  ∀ o w0 pt et last rem v, o = 0x5400 + 32 * (lSlot w % 512) → u.get F.MEM_INJ_MODE = 0 → u.synd = [] →
    u.lWords o 5 = (some [w0, pt, et, last, rem], v) → w0 < 2 ^ 32 → u.logic.k < 2 ^ 32 →
    ∀ x pin last' rem' ns r, x = u.logic.la → pin = (if bit w0 2 then x else bit w0 1) →
      last' = (if bit w0 2 then u.logic.k else last) → rem' = (if bit w0 2 then 0 else rem) →
      ns = rem' + u.tcNs * ((u.logic.k + 2 ^ 32 - last') % 2 ^ 32) →
      r = timerEval kind x (bit w0 0) pin pt et rem' ns → u.logic.forces = [] →
      t.logic.la = r.1 ∧ t.rd32 (logicBase + o) = setBit (setBit (setBit w0 0 r.1) 1 x) 2 false ∧
      t.rd32 (logicBase + o + 8) = r.2.1 % 2 ^ 32 ∧ t.rd32 (logicBase + o + 12) = u.logic.k ∧
      t.rd32 (logicBase + o + 16) = r.2.2 % 2 ^ 32

/-- The record of a counter after its evaluation (R454, R455). -/
def CounterRow (up : Bool) (w : Nat) (u t : State) : Prop :=
  ∀ o w0 pv cv v, o = 0x9400 + 16 * (lSlot w % 256) → u.get F.MEM_INJ_MODE = 0 → u.synd = [] →
    u.lWords o 3 = (some [w0, pv, cv], v) → w0 < 2 ^ 32 → u.logic.forces = [] → ∀ x cm c q, x = u.logic.la →
      cm = (if bit w0 2 then x else bit w0 1) →
      c = (if x && !cm then (if up then min (sx 32 cv + 1) (2 ^ 31 - 1) else max (sx 32 cv - 1) (-(2 ^ 31)))
        else sx 32 cv) →
      q = (if up then decide (sx 32 pv ≤ c) else decide (c ≤ 0)) →
      t.logic.la = q ∧ t.rd32 (logicBase + o) = setBit (setBit (setBit w0 0 q) 1 x) 2 false ∧
      t.rd32 (logicBase + o + 8) = us 32 c

/-- The record of an edge detector after its evaluation (R454, R455). -/
def EdgeRow (falling : Bool) (w : Nat) (u t : State) : Prop :=
  ∀ o w0 v, o = 0xA400 + 4 * lSlot w → u.get F.MEM_INJ_MODE = 0 → u.synd = [] →
    u.lWord o = (some w0, v) → w0 < 2 ^ 32 → u.logic.forces = [] →
      t.logic.la = (if bit w0 1 then false else if falling then bit w0 0 && !u.logic.la
        else u.logic.la && !bit w0 0) ∧
      t.rd32 (logicBase + o) = setBit (setBit w0 0 u.logic.la) 1 false

/-- The memories keep their canonical form. -/
def State.Canonical (s : State) : Prop := Memory.wf s.mem

end Sys2Proof.Machine
end

