-- ==== Sys2Proof/Certificates/Slice0/Obligations.lean ====
section
/-! DEFINITION. The statements for the provers. -/

open Sys2Proof Sys2Proof.Machine

/-- With command c at the front of the queue, a step answers what exec answers for c on the state with
the queue's rest. The queue is the model's own (notes/assumptions/27.md).
(95_what_each_step_holds.md, INDEX.md) -/
def Obligations.StepRunsFrontCommand : Prop :=
  ∀ (s : State) (c : Instr) (rest : List Instr), s.pending = c :: rest →
    step s = exec c { s with pending := rest }

/-- With an empty queue, in a part that is not in RESET and has no apply instant within the next
nanosecond, a step moves station time on by one nanosecond and leaves the queue. This is the
model's choice (notes/assumptions/27.md), not a rule of the spec. (02_period_and_station_time.md) -/
def Obligations.EmptyQueueLetsTimePass : Prop :=
  ∀ s : State, s.pending = [] → s.Awake → s.room 1 = 1 → s.now + 1 < 2 ^ 64 * 1000000000 →
    ∃ t, step s = .next t ∧ t.now = s.now + 1 ∧ t.pending = []

/-- A command whose operands name units that exist answers a next state in every state of the part; a
command that names a unit that does not exist is refused as ill-formed and as nothing else.
(95_what_each_step_holds.md) -/
def Obligations.WellFormedCommandsAnswer : Prop :=
  ∀ (c : Instr) (s : State),
    (c.wf = true → ∃ t, exec c s = .next t) ∧ (c.wf = false → exec c s = .refused .illFormed)

/-- In the state right after power-on every register field reads its table's reset value, the global
state is RESET, and no command, timed write, transaction or item waits. Every stored byte reads 0,
which is the model's choice (notes/assumptions/3.md). (R5, R20, 20_starts_and_images.md) -/
def Obligations.ResetLeavesRegistersAtResetValues : Prop :=
  State.reset.gst = .reset ∧ State.reset.pending = [] ∧ State.reset.time.tw = [] ∧
    State.reset.host.txns = [] ∧ State.reset.sched.queues = [] ∧
    (∀ f : Fld, f.rst < 2 ^ 32 → State.reset.word f = f.rst) ∧
    (∀ a, memGet State.reset.mem a = 0)

/-- A field that lies inside its register reads the written value in its width after the hardware
writes it; every field of the register that shares no bit with it, every other register and
everything else in the state stay. (R5, R6) -/
def Obligations.FieldWrittenReadsBack : Prop :=
  ∀ (s : State) (f : Fld) (v : Nat), f.Fits →
    (s.set f v).get f = v % 2 ^ f.w ∧
      (∀ g : Fld, g.Fits → f.Apart g → (s.set f v).get g = s.get g) ∧
      RegsOnly [f.addr] s (s.set f v)

/-- After a byte string is stored at an address, each of its bytes reads back at its place, every byte
outside them reads as before, and the memory keeps its canonical form. (R361) -/
def Obligations.StoredBytesReadBack : Prop :=
  ∀ (m : List Host.Cell) (a : Nat) (b : Bytes),
    (∀ i, i < b.length → memGet (memPuts m a b) (a + i) = nth b 0 i) ∧
      (∀ c, c < a ∨ a + b.length ≤ c → memGet (memPuts m a b) c = memGet m c) ∧
      (Memory.wf m → Memory.wf (memPuts m a b))

/-- With no injection armed, the read of a word through the error code right after a store of it gives
the stored word, reports no error and changes nothing. (R362, R363) -/
def Obligations.StoredWordReadsBackClean : Prop :=
  ∀ (s : State) (a v req : Nat), s.get F.MEM_INJ_MODE = 0 →
    (s.wr32 a v).eccRd a req = (v % 2 ^ 32, false, s.wr32 a v)

/-- With MEM_INJ armed for one bit and the class of the word, a store writes the word with that bit
flipped and disarms the injection; the next read through the error code gives the word as it was
meant and reports it good, and a read after that finds nothing to correct. Armed for two different
bits, the next read reports the word bad, and the word is poisoned from then on. (R362, R363,
R364, 12_memory_and_faults.md) -/
def Obligations.InjectedErrorsAreCorrectedOrDetected : Prop :=
  (∀ (s : State) (a v req : Nat), s.get F.MEM_INJ_MODE = 1 →
    memClass a = some (s.get F.MEM_INJ_CLASS) →
    (s.wr32 a v).rd32 a = (v % 2 ^ 32) ^^^ 2 ^ s.get F.MEM_INJ_BIT_A ∧
      (s.wr32 a v).get F.MEM_INJ_MODE = 0 ∧
      ((s.wr32 a v).eccRd a req).1 = v % 2 ^ 32 ∧
      ((s.wr32 a v).eccRd a req).2.1 = false ∧
      ((s.wr32 a v).eccRd a req).2.2.rd32 a = v % 2 ^ 32 ∧
      sget ((s.wr32 a v).eccRd a req).2.2.synd 0 (a / 4) = 0) ∧
  (∀ (s : State) (a v req : Nat), s.get F.MEM_INJ_MODE = 2 →
    memClass a = some (s.get F.MEM_INJ_CLASS) →
    s.get F.MEM_INJ_BIT_A ≠ s.get F.MEM_INJ_BIT_B →
    ((s.wr32 a v).eccRd a req).2.1 = true ∧
      synOf (sget ((s.wr32 a v).eccRd a req).2.2.synd 0 (a / 4)) = .poisoned)

/-- From every state whose memory is in canonical form (addresses strictly rising, no byte listed at
its default), whatever command a step runs, the memory of the next state is in canonical form.
Equal memories are therefore equal data. (R361, 12_memory_and_faults.md) -/
def Obligations.MemoryStaysCanonical : Prop :=
  ∀ s t : State, s.Canonical → step s = .next t → t.Canonical

/-- The state right after power-on meets the invariant that every step keeps. (R361) -/
def Obligations.ResetMemoryIsCanonical : Prop :=
  State.reset.Canonical

/-- For every OP, D, A, B, C, OPT and IMM of a core instruction at every value of their widths, the
word built from them has exactly those fields, and every 64-bit word is the word built from its
own fields. For every operation code, AREA and INDEX of a station-logic instruction of form O the
word built from them has exactly those fields and 0 in the bits form O does not name, and every
32-bit word with 0 in those bits is the word built from its own fields. No bit of an instruction
word is dropped or shared. (R236, R451) -/
def Obligations.InstructionWordsRoundTrip : Prop :=
  (∀ op d a b c opt imm : Nat, op < 256 → d < 32 → a < 32 → b < 32 → c < 32 → opt < 16 →
    imm < 2 ^ 32 →
    cwOp (cwEncode op d a b c opt imm) = op ∧ cwD (cwEncode op d a b c opt imm) = d ∧
      cwA (cwEncode op d a b c opt imm) = a ∧ cwB (cwEncode op d a b c opt imm) = b ∧
      cwC (cwEncode op d a b c opt imm) = c ∧ cwOpt (cwEncode op d a b c opt imm) = opt ∧
      cwImm (cwEncode op d a b c opt imm) = imm ∧ cwEncode op d a b c opt imm < 2 ^ 64) ∧
  (∀ w : Nat, w < 2 ^ 64 →
    cwEncode (cwOp w) (cwD w) (cwA w) (cwB w) (cwC w) (cwOpt w) (cwImm w) = w) ∧
  (∀ op area idx : Nat, op < 64 → area < 16 → idx < 65536 →
    lOp (lEncode op area idx) = op ∧ lArea (lEncode op area idx) = area ∧
      lIdx (lEncode op area idx) = idx ∧ lRest .O (lEncode op area idx) = true ∧
      lEncode op area idx < 2 ^ 32) ∧
  (∀ w : Nat, w < 2 ^ 32 → lRest .O w = true → lEncode (lOp w) (lArea w) (lIdx w) = w)

/-- ADD, SUB, AND, OR, XOR, ANDN, SHL, SHR, SAR, MUL, CMP, MOV, POPC and CLZ, in format R and format
I, give gD the result of 32-bit bit-vector arithmetic, set Z and N (ADD, SUB and CMP also C and V;
POPC and CLZ Z alone; MOV none) from it, leave every other bit of STATUS, every other register and
everything else of the state, and go on to the next instruction (R254 at the end of a loop body).
A word whose fields break its format raises ILLEGAL instead. CMP writes no register. (R235, R237,
R238, R262) -/
def Obligations.CoreIntegerInstructions : Prop :=
  CoreRow .coreAdd 0x01 (fun w _ => fmtRI w) (fun w x y =>
    x.WritesG y (cwD w) (x.bv (cwA w) + x.bvB w).toNat ∧
    x.FlagsZNCV y (decide (x.bv (cwA w) + x.bvB w = 0)) (x.bv (cwA w) + x.bvB w).msb
      (decide (2 ^ 32 ≤ (x.bv (cwA w)).toNat + (x.bvB w).toNat))
      (BitVec.saddOverflow (x.bv (cwA w)) (x.bvB w))) ∧
  CoreRow .coreSub 0x02 (fun w _ => fmtRI w) (fun w x y =>
    x.WritesG y (cwD w) (x.bv (cwA w) - x.bvB w).toNat ∧
    x.FlagsZNCV y (decide (x.bv (cwA w) = x.bvB w)) (x.bv (cwA w) - x.bvB w).msb
      (decide ((x.bvB w).toNat ≤ (x.bv (cwA w)).toNat))
      (BitVec.ssubOverflow (x.bv (cwA w)) (x.bvB w))) ∧
  CoreRow .coreAnd 0x03 (fun w _ => fmtRI w) (fun w x y =>
    x.WritesG y (cwD w) (x.bv (cwA w) &&& x.bvB w).toNat ∧
    x.FlagsZN y (decide (x.bv (cwA w) &&& x.bvB w = 0)) (x.bv (cwA w) &&& x.bvB w).msb) ∧
  CoreRow .coreOr 0x04 (fun w _ => fmtRI w) (fun w x y =>
    x.WritesG y (cwD w) (x.bv (cwA w) ||| x.bvB w).toNat ∧
    x.FlagsZN y (decide (x.bv (cwA w) ||| x.bvB w = 0)) (x.bv (cwA w) ||| x.bvB w).msb) ∧
  CoreRow .coreXor 0x05 (fun w _ => fmtRI w) (fun w x y =>
    x.WritesG y (cwD w) (x.bv (cwA w) ^^^ x.bvB w).toNat ∧
    x.FlagsZN y (decide (x.bv (cwA w) ^^^ x.bvB w = 0)) (x.bv (cwA w) ^^^ x.bvB w).msb) ∧
  CoreRow .coreAndn 0x06 (fun w _ => fmtRI w) (fun w x y =>
    x.WritesG y (cwD w) (x.bv (cwA w) &&& ~~~ x.bvB w).toNat ∧
    x.FlagsZN y (decide (x.bv (cwA w) &&& ~~~ x.bvB w = 0)) (x.bv (cwA w) &&& ~~~ x.bvB w).msb) ∧
  CoreRow .coreShl 0x07 (fun w _ => fmtRI w) (fun w x y =>
    x.WritesG y (cwD w) (x.bv (cwA w) <<< ((x.bvB w).toNat % 32)).toNat ∧
    x.FlagsZN y (decide (x.bv (cwA w) <<< ((x.bvB w).toNat % 32) = 0))
      (x.bv (cwA w) <<< ((x.bvB w).toNat % 32)).msb) ∧
  CoreRow .coreShr 0x08 (fun w _ => fmtRI w) (fun w x y =>
    x.WritesG y (cwD w) (x.bv (cwA w) >>> ((x.bvB w).toNat % 32)).toNat ∧
    x.FlagsZN y (decide (x.bv (cwA w) >>> ((x.bvB w).toNat % 32) = 0))
      (x.bv (cwA w) >>> ((x.bvB w).toNat % 32)).msb) ∧
  CoreRow .coreSar 0x09 (fun w _ => fmtRI w) (fun w x y =>
    x.WritesG y (cwD w) ((x.bv (cwA w)).sshiftRight ((x.bvB w).toNat % 32)).toNat ∧
    x.FlagsZN y (decide ((x.bv (cwA w)).sshiftRight ((x.bvB w).toNat % 32) = 0))
      ((x.bv (cwA w)).sshiftRight ((x.bvB w).toNat % 32)).msb) ∧
  CoreRow .coreMul 0x0A (fun w _ => fmtRI w) (fun w x y =>
    x.WritesG y (cwD w) (x.bv (cwA w) * x.bvB w).toNat ∧
    x.FlagsZN y (decide (x.bv (cwA w) * x.bvB w = 0)) (x.bv (cwA w) * x.bvB w).msb) ∧
  CoreRow .coreCmp 0x0B (fun w _ => fmtRI w && decide (cwD w = 0)) (fun w x y =>
    y = { x with status := y.status } ∧
    x.FlagsZNCV y (decide (x.bv (cwA w) = x.bvB w)) (x.bv (cwA w) - x.bvB w).msb
      (decide ((x.bvB w).toNat ≤ (x.bv (cwA w)).toNat))
      (BitVec.ssubOverflow (x.bv (cwA w)) (x.bvB w))) ∧
  CoreRow .coreMov 0x0C (fun w _ => fmtRI w) (fun w x y =>
    x.WritesG y (cwD w) (x.bvB w).toNat ∧ y.status = x.status) ∧
  CoreRow .corePopc 0x0D (fun w _ => fmtR w) (fun w x y =>
    x.WritesG y (cwD w) ((List.range 32).countP (fun i => (x.bv (cwA w)).getLsbD i)) ∧
    y.st 0 = decide (x.bv (cwA w) = 0) ∧ ∀ i, 1 ≤ i → y.st i = x.st i) ∧
  CoreRow .coreClz 0x0E (fun w _ => fmtR w) (fun w x y =>
    ∃ r, x.WritesG y (cwD w) r ∧ r ≤ 32 ∧ (∀ i, i < r → (x.bv (cwA w)).getLsbD (31 - i) = false) ∧
      (r < 32 → (x.bv (cwA w)).getLsbD (31 - r) = true) ∧
      y.st 0 = decide (r = 0) ∧ ∀ i, 1 ≤ i → y.st i = x.st i)

/-- LD and ST through a pointer, LDX and STX at gA + IMM, VLD and VST through a pointer check first
their fields (ILLEGAL), then the address's alignment to the access size, 2 bytes for a vector
(ALIGN), then the address map and the protection (UNMAPPED, PROT), then the read data or the words
a store must read first (DECC). The first check that fails raises its exception, with operand 1
and the address. Else the load writes its register and the store its bytes, the pointer is updated
where its U is 1, and the item goes on. (R238, R241, R242, R244, R262, R263, R364) -/
def Obligations.CoreLoadsAndStores : Prop :=
  CoreLoad .coreLd 0x10 (fun w x => fmtM w && optSize w && ptrOk x (cwA w)) false ptrAddr
    (fun w _ => accSize w) (fun w x => [(ptrAddr w x, accSize w)])
    (fun w x b => (x.ptrAfter (cwA w)).wg (cwD w) (loadVal w b)) ∧
  CoreStore .coreSt 0x11 (fun w x => fmtM w && optSize w && ptrOk x (cwA w)) ptrAddr
    (fun w _ => accSize w) (fun w x => [(ptrAddr w x, accSize w)])
    (fun w x => toLE (accSize w) (x.rg (cwD w))) (fun w x => x.ptrAfter (cwA w)) ∧
  CoreLoad .coreLdx 0x12 (fun w _ => fmtX w) false immAddr (fun w _ => accSize w)
    (fun w x => [(immAddr w x, accSize w)]) (fun w x b => x.wg (cwD w) (loadVal w b)) ∧
  CoreStore .coreStx 0x13 (fun w _ => fmtX w) immAddr (fun w _ => accSize w)
    (fun w x => [(immAddr w x, accSize w)]) (fun w x => toLE (accSize w) (x.rg (cwD w)))
    (fun _ x => x) ∧
  CoreLoad .coreVld 0x14 (fun w x => fmtM w && decide (cwOpt w = 0) && decide (cwD w < 16) &&
      ptrOk x (cwA w)) false vecAddr (fun _ _ => 2) (fun w x => (x.rp (ptrNo (cwA w))).runs 16)
    (fun w x b => (x.ptrAfter (cwA w)).wv (cwD w) (leNat b)) ∧
  CoreStore .coreVst 0x15 (fun w x => fmtM w && decide (cwOpt w = 0) && decide (cwD w < 16) &&
      ptrOk x (cwA w)) vecAddr (fun _ _ => 2) (fun w x => (x.rp (ptrNo (cwA w))).runs 16)
    (fun w x => toLE 16 (x.rv (cwD w))) (fun w x => x.ptrAfter (cwA w))

/-- A store of 1 to 16 bytes that lies in the core's own data memory, where no word it touches is bad
and no error injection is armed, is performed: each byte stands at its place in the core's data
memory, and every other byte of every memory reads as before. The registers of the part stay.
(R226, R241, R361, R364) -/
def Obligations.CoreStoreChangesItsBytesOnly : Prop :=
  ∀ (s : State) (c a : Nat) (b : Bytes), c < 16 → b ≠ [] → b.length ≤ 16 →
    0x40000000 ≤ a → a + b.length ≤ 0x40040000 → s.get F.MEM_INJ_MODE = 0 →
    (∀ i, i < b.length → sget s.synd 0 ((coreOfs c a + i) / 4) = 0) →
    ∃ u, s.coreStore c (storeRuns c [(a, b.length)] b) = (false, u) ∧ u.regs = s.regs ∧
      (∀ i, i < b.length → memGet u.mem (dataBase c + (a - 0x40000000) + i) = nth b 0 i) ∧
      (∀ q, q < dataBase c + (a - 0x40000000) ∨ dataBase c + (a - 0x40000000) + b.length ≤ q →
        memGet u.mem q = memGet s.mem q)

/-- VGET reads a 32-bit word of vA into gD; VPUT writes one word of vD from gA and keeps the other
three; VBC puts gA[15:0] into every lane; VAND, VOR, VXOR and VANDN work on all 128 bits. VADD and
VSUB add and subtract lane by lane: without SAT each lane wraps; with SAT each lane clamps to the
signed 16-bit range, and STATUS.SAT sets where a lane clamped. Nothing else changes; illegal
fields raise ILLEGAL. (R238, R249) -/
def Obligations.CoreVectorMoves : Prop :=
  CoreRow .coreVget 0x16 (fun w _ => fmtI w && decide (cwA w < 16) && decide (cwImm w < 4))
    (fun w x y => y.status = x.status ∧
      x.WritesG y (cwD w) ((sget x.v 0 (cwA w)).extractLsb' (32 * cwImm w) 32).toNat) ∧
  CoreRow .coreVput 0x17 (fun w _ => fmtI w && decide (cwD w < 16) && decide (cwImm w < 4))
    (fun w x y => y = { x with v := y.v } ∧ (∀ n, n ≠ cwD w → y.rv n = x.rv n) ∧
      ∀ k, k < 4 → (sget y.v 0 (cwD w)).extractLsb' (32 * k) 32 =
        if k = cwImm w then x.bv (cwA w) else (sget x.v 0 (cwD w)).extractLsb' (32 * k) 32) ∧
  CoreRow .coreVbc 0x18 (fun w _ => fmtR w && decide (cwD w < 16))
    (fun w x y => y = { x with v := y.v } ∧ (∀ n, n ≠ cwD w → y.rv n = x.rv n) ∧
      ∀ l, l < 8 → y.vl (cwD w) l = (x.bv (cwA w)).extractLsb' 0 16) ∧
  CoreRow .coreVand 0x22 (fun w _ => fmtR w && vOk w) (fun w x y => y.status = x.status ∧
    x.WritesV y (cwD w) (sget x.v 0 (cwA w) &&& sget x.v 0 (cwB w)).toNat) ∧
  CoreRow .coreVor 0x23 (fun w _ => fmtR w && vOk w) (fun w x y => y.status = x.status ∧
    x.WritesV y (cwD w) (sget x.v 0 (cwA w) ||| sget x.v 0 (cwB w)).toNat) ∧
  CoreRow .coreVxor 0x24 (fun w _ => fmtR w && vOk w) (fun w x y => y.status = x.status ∧
    x.WritesV y (cwD w) (sget x.v 0 (cwA w) ^^^ sget x.v 0 (cwB w)).toNat) ∧
  CoreRow .coreVandn 0x25 (fun w _ => fmtR w && vOk w) (fun w x y => y.status = x.status ∧
    x.WritesV y (cwD w) (sget x.v 0 (cwA w) &&& ~~~ sget x.v 0 (cwB w)).toNat) ∧
  CoreRow .coreVadd 0x20 (fun w _ => decide (cwImm w = 0) && decide (cwOpt w < 2) && vOk w)
    (fun w x y => y = { x with v := y.v, status := y.status } ∧
      (∀ n, n ≠ cwD w → y.rv n = x.rv n) ∧
      (∀ l, l < 8 → y.vl (cwD w) l =
        if cwOpt w = 0 then x.vl (cwA w) l + x.vl (cwB w) l
        else BitVec.ofInt 16 (max (-32768) (min 32767
          ((x.vl (cwA w) l).toInt + (x.vl (cwB w) l).toInt)))) ∧
      (∀ i, i ≠ stSat → y.st i = x.st i) ∧
      (y.st stSat = true ↔ x.st stSat = true ∨ (cwOpt w = 1 ∧ ∃ l, l < 8 ∧
        BitVec.saddOverflow (x.vl (cwA w) l) (x.vl (cwB w) l) = true))) ∧
  CoreRow .coreVsub 0x21 (fun w _ => decide (cwImm w = 0) && decide (cwOpt w < 2) && vOk w)
    (fun w x y => y = { x with v := y.v, status := y.status } ∧
      (∀ n, n ≠ cwD w → y.rv n = x.rv n) ∧
      (∀ l, l < 8 → y.vl (cwD w) l =
        if cwOpt w = 0 then x.vl (cwA w) l - x.vl (cwB w) l
        else BitVec.ofInt 16 (max (-32768) (min 32767
          ((x.vl (cwA w) l).toInt - (x.vl (cwB w) l).toInt)))) ∧
      (∀ i, i ≠ stSat → y.st i = x.st i) ∧
      (y.st stSat = true ↔ x.st stSat = true ∨ (cwOpt w = 1 ∧ ∃ l, l < 8 ∧
        BitVec.ssubOverflow (x.vl (cwA w) l) (x.vl (cwB w) l) = true)))

/-- VMAC and VMSU add and subtract the exact product of each pair of signed lanes into the lane's
40-bit accumulator; SMAC and SMSU do the same with 32-bit operands and a 72-bit accumulator, SMAC2
with sa0 and sa1 at once. The sum wraps modulo its width; STATUS.AOV sets where a sum left the
signed range and no other bit of STATUS changes. VACLR and SACLR clear their accumulator. Every
other register and everything else stays; illegal fields raise ILLEGAL. (R238, R247, R248) -/
def Obligations.CoreAccumulators : Prop :=
  (∀ sgn ∈ ([(1, 0x26, Instr.coreVmac), (-1, 0x27, Instr.coreVmsu)] : List (Int × Nat × (Nat → Instr))),
    CoreRow sgn.2.2 sgn.2.1
      (fun w _ => fmtR w && decide (cwD w < 4) && decide (cwA w < 16) && decide (cwB w < 16))
      (fun w x y => y = { x with va := y.va, status := y.status } ∧
        (∀ n l, l < 8 → n ≠ cwD w → y.rva n l = x.rva n l) ∧
        (∀ l, l < 8 → y.rva (cwD w) l = (BitVec.ofInt 40 (x.rva (cwD w) l +
          sgn.1 * ((x.vl (cwA w) l).toInt * (x.vl (cwB w) l).toInt))).toInt) ∧
        (∀ i, i ≠ stAov → y.st i = x.st i) ∧
        (y.st stAov = true ↔ x.st stAov = true ∨ (∃ l, l < 8 ∧ (x.rva (cwD w) l +
          sgn.1 * ((x.vl (cwA w) l).toInt * (x.vl (cwB w) l).toInt) < -2 ^ 39 ∨
          2 ^ 39 ≤ x.rva (cwD w) l +
            sgn.1 * ((x.vl (cwA w) l).toInt * (x.vl (cwB w) l).toInt)))))) ∧
  CoreRow .coreVaclr 0x29 (fun w _ => fmtR w && decide (cwD w < 4)) (fun w x y =>
    y = { x with va := y.va } ∧ ∀ n l, l < 8 → y.rva n l = if n = cwD w then 0 else x.rva n l) ∧
  (∀ sgn ∈ ([(1, 0x38, Instr.coreSmac), (-1, 0x39, Instr.coreSmsu)] : List (Int × Nat × (Nat → Instr))),
    CoreRow sgn.2.2 sgn.2.1 (fun w _ => fmtR w && decide (cwD w < 2)) (fun w x y =>
      y = { x with sa := y.sa, status := y.status } ∧
      (∀ n, n ≠ cwD w → y.rsa n = x.rsa n) ∧
      y.rsa (cwD w) = (BitVec.ofInt 72 (x.rsa (cwD w) +
        sgn.1 * ((x.bv (cwA w)).toInt * (x.bv (cwB w)).toInt))).toInt ∧
      (∀ i, i ≠ stAov → y.st i = x.st i) ∧
      (y.st stAov = true ↔ x.st stAov = true ∨ (x.rsa (cwD w) +
        sgn.1 * ((x.bv (cwA w)).toInt * (x.bv (cwB w)).toInt) < -2 ^ 71 ∨
        2 ^ 71 ≤ x.rsa (cwD w) + sgn.1 * ((x.bv (cwA w)).toInt * (x.bv (cwB w)).toInt))))) ∧
  CoreRow .coreSmac2 0x3A (fun w _ => fmtR w) (fun w x y =>
    y = { x with sa := y.sa, status := y.status } ∧
    y.rsa 0 = (BitVec.ofInt 72 (x.rsa 0 + (x.bv (cwA w)).toInt * (x.bv (cwB w)).toInt)).toInt ∧
    y.rsa 1 = (BitVec.ofInt 72 (x.rsa 1 + (x.bv (cwC w)).toInt * (x.bv (cwD w)).toInt)).toInt ∧
    (∀ n, 2 ≤ n → y.rsa n = x.rsa n) ∧ (∀ i, i ≠ stAov → y.st i = x.st i) ∧
    y.st stAov = (x.st stAov ||
      outOf 72 (x.rsa 0 + (x.bv (cwA w)).toInt * (x.bv (cwB w)).toInt) ||
      outOf 72 (x.rsa 1 + (x.bv (cwC w)).toInt * (x.bv (cwD w)).toInt))) ∧
  CoreRow .coreSaclr 0x3B (fun w _ => fmtR w && decide (cwD w < 2)) (fun w x y =>
    y = { x with sa := y.sa } ∧ ∀ n, y.rsa n = if n = cwD w then 0 else x.rsa n)

/-- VEXT and SEXT shift the accumulator right by IMM, rounding half to even (R169), and take the low
16 or 32 bits, or with SAT the value clamped to that signed range, where a clamp sets STATUS.SAT.
SCLR empties the search (mn = mx = 0, mni = mxi = 0xFFFF, NONE = 1); SGET reads mn, mx, mni or
mxi. SRCH and VMACM read their operands from the core's own data memory, with the checks of R263,
and then search, or multiply and accumulate; VMACM updates the pointer of operand A before operand
B uses its own. (R238, R246, R248, R250, R251) -/
def Obligations.CoreExtractionAndSearch : Prop :=
  CoreRow .coreVext 0x2A (fun w _ => decide (cwB w = 0) && decide (cwC w = 0) &&
      decide (cwOpt w < 2) && decide (cwD w < 16) && decide (cwA w < 4) && decide (cwImm w < 40))
    (fun w x y => y = { x with v := y.v, status := y.status } ∧
      (∀ n, n ≠ cwD w → y.rv n = x.rv n) ∧
      (∀ l, l < 8 → y.vl (cwD w) l = BitVec.ofInt 16
        (if cwOpt w = 0 then rs (x.rva (cwA w) l) (cwImm w)
         else max (-32768) (min 32767 (rs (x.rva (cwA w) l) (cwImm w))))) ∧
      (∀ i, i ≠ stSat → y.st i = x.st i) ∧
      (y.st stSat = true ↔ x.st stSat = true ∨ (cwOpt w = 1 ∧ ∃ l, l < 8 ∧
        (rs (x.rva (cwA w) l) (cwImm w) < -32768 ∨ 32767 < rs (x.rva (cwA w) l) (cwImm w))))) ∧
  CoreRow .coreSext 0x3C (fun w _ => decide (cwB w = 0) && decide (cwC w = 0) &&
      decide (cwOpt w < 2) && decide (cwA w < 2) && decide (cwImm w < 64))
    (fun w x y => x.WritesG y (cwD w) (BitVec.ofInt 32
        (if cwOpt w = 0 then rs (x.rsa (cwA w)) (cwImm w)
         else max (-2147483648) (min 2147483647 (rs (x.rsa (cwA w)) (cwImm w))))).toNat ∧
      (∀ i, i ≠ stSat → y.st i = x.st i) ∧
      (y.st stSat = true ↔ x.st stSat = true ∨ (cwOpt w = 1 ∧
        (rs (x.rsa (cwA w)) (cwImm w) < -2147483648 ∨ 2147483647 < rs (x.rsa (cwA w)) (cwImm w))))) ∧
  CoreRow .coreSclr 0x30 (fun w _ => fmtR w) (fun _ x y =>
    y = { x with mn := 0, mx := 0, mni := 0xFFFF, mxi := 0xFFFF, status := y.status } ∧
    y.st stNone = true ∧ ∀ i, i ≠ stNone → y.st i = x.st i) ∧
  CoreRow .coreSget 0x32 (fun w _ => fmtI w && decide (cwImm w < 4)) (fun w x y =>
    y.status = x.status ∧ x.WritesG y (cwD w) ((if cwImm w = 0 then x.mn
      else if cwImm w = 1 then x.mx else if cwImm w = 2 then x.mni else x.mxi) % 2 ^ 32)) ∧
  CoreLoad .coreSrch 0x31 (fun w x => decide (cwC w = 0) && decide (cwOpt w < 2) &&
      decide (cwB w < 16) && decide (cwImm w < 8) && ptrOk x (cwA w)) true vecAddr (fun _ _ => 16)
    (fun w x => (x.rp (ptrNo (cwA w))).runs 32)
    (fun w x b => (x.srch (x.rp (ptrNo (cwA w))) (decide (cwOpt w = 1))
      (x.vl (cwB w) (cwImm w)).toNat b).ptrAfter (cwA w)) ∧
  (∀ (s : State) c w x t, s.CoreAt c w x t → cwOp w = 0x28 →
    (fmtM w && decide (cwOpt w = 0) && decide (cwD w < 4) && ptrOk x (cwA w) && ptrOk x (cwB w)) = true →
    ∀ p q y b1 b2 u v, x.rp (ptrNo (cwA w)) = p → x.ptrAfter (cwA w) = y →
      y.rp (ptrNo (cwB w)) = q → p.at' 16 % 2 = 0 → q.at' 16 % 2 = 0 →
      t.coreAccess c false true (p.runs 16) = none → t.coreRdRuns c (p.runs 16) = (b1, false, u) →
      u.coreAccess c false true (q.runs 16) = none → u.coreRdRuns c (q.runs 16) = (b2, false, v) →
      exec (.coreVmacm c) s =
        .next (v.retire c ((y.ptrAfter (cwB w)).vmac (cwD w) 1 (leNat b1) (leNat b2))))

/-- FADD, FSUB, FMUL, FMA, FDIV, FSQRT, FMIN, FMAX, FCVTI, FCVTF, FABS and FNEG give gD the binary32
(or integer) result of their operands under the rounding mode and flush bit of FPCSR and OR their
flags into FPCSR[12:8]; FCMP sets Z for equal, N for less, C for greater and V for unordered and
writes no register. STATUS (FCMP aside), every other register and everything else stays. FABS and
FNEG clear and flip the sign bit and raise no flag. Illegal fields raise ILLEGAL. (R238, R252,
R253) -/
def Obligations.CoreFloatingPoint : Prop :=
  (∀ r ∈ ([(0x40, Instr.coreFadd, fun x w => fadd (Ctx.rm x) x.ftz (x.rg (cwA w)) (x.rg (cwB w))),
      (0x41, Instr.coreFsub, fun x w => fsub x.rm x.ftz (x.rg (cwA w)) (x.rg (cwB w))),
      (0x42, Instr.coreFmul, fun x w => fmul x.rm x.ftz (x.rg (cwA w)) (x.rg (cwB w))),
      (0x43, Instr.coreFma, fun x w =>
        ffma x.rm x.ftz (x.rg (cwA w)) (x.rg (cwB w)) (x.rg (cwC w))),
      (0x44, Instr.coreFdiv, fun x w => fdiv x.rm x.ftz (x.rg (cwA w)) (x.rg (cwB w))),
      (0x45, Instr.coreFsqrt, fun x w => fsqrt x.rm x.ftz (x.rg (cwA w))),
      (0x46, Instr.coreFmin, fun x w => fminmax false x.ftz (x.rg (cwA w)) (x.rg (cwB w))),
      (0x47, Instr.coreFmax, fun x w => fminmax true x.ftz (x.rg (cwA w)) (x.rg (cwB w))),
      (0x49, Instr.coreFcvti, fun x w => fcvti x.rm (x.bv (cwA w)).toInt),
      (0x4B, Instr.coreFabs, fun x w => ((x.bv (cwA w) &&& 0x7FFFFFFF#32).toNat, 0)),
      (0x4C, Instr.coreFneg, fun x w => ((x.bv (cwA w) ^^^ 0x80000000#32).toNat, 0))] :
      List (Nat × (Nat → Instr) × (Ctx → Nat → Nat × FFlags))),
    CoreRow r.2.1 r.1 (fun w _ => fmtR w) (fun w x y =>
      y = { x with g := y.g, fpcsr := x.fpcsr ||| BitVec.ofNat 32 ((r.2.2 x w).2 % 32 * 256) } ∧
      y.rg (cwD w) = (r.2.2 x w).1 % 2 ^ 32 ∧ ∀ n, n ≠ cwD w → y.rg n = x.rg n)) ∧
  CoreRow .coreFcvtf 0x4A (fun w _ => fmtR w) (fun w x y =>
    y = { x with g := y.g, fpcsr := y.fpcsr } ∧ (∀ n, n ≠ cwD w → y.rg n = x.rg n) ∧
    y.bv (cwD w) =
      BitVec.ofInt 32 (fcvtf x.rm x.ftz (-2147483648) 2147483647 (x.rg (cwA w))).1) ∧
  CoreRow .coreFcmp 0x48 (fun w _ => fmtR w) (fun w x y =>
    y = { x with status := y.status, fpcsr := y.fpcsr } ∧
    x.FlagsZNCV y (fcmp x.ftz (x.rg (cwA w)) (x.rg (cwB w))).2.1
      (fcmp x.ftz (x.rg (cwA w)) (x.rg (cwB w))).1
      (fcmp x.ftz (x.rg (cwA w)) (x.rg (cwB w))).2.2.1
      (fcmp x.ftz (x.rg (cwA w)) (x.rg (cwB w))).2.2.2.1)

/-- PSET writes BASE, LEN, STEP with MODE, or OFS of pD from gA, and PGET reads them; a MODE of 3 is
ILLEGAL. PUPD makes the update of an access without the access. MFS reads STATUS, FPCSR, the
core's number, the cycle counter's low word (which latches the high word), the latched high word,
the item's address, its level and depth, or DMAOUT. MTS writes the flags and the RW bits, clears
the sticky bits written 1 and leaves read-only registers. Nothing else changes; illegal fields
raise ILLEGAL. (R235, R237, R238, R242, R243) -/
def Obligations.CorePointersAndSpecialRegisters : Prop :=
  CoreRow .corePset 0x50 (fun w x => fmtI w && decide (cwD w < 8) && decide (cwImm w < 4) &&
      !(decide (cwImm w = 2) && decide (bits (x.rg (cwA w)) 16 2 = 3))) (fun w x y =>
    y = { x with p := y.p } ∧ (∀ n, n ≠ cwD w → y.rp n = x.rp n) ∧
    y.rp (cwD w) =
      (if cwImm w = 0 then { x.rp (cwD w) with base := x.rg (cwA w) }
       else if cwImm w = 1 then { x.rp (cwD w) with len := x.rg (cwA w) % 2 ^ 24 }
       else if cwImm w = 2 then
         { x.rp (cwD w) with step := x.rg (cwA w) % 2 ^ 16, mode := x.rg (cwA w) / 2 ^ 16 % 4 }
       else { x.rp (cwD w) with ofs := x.rg (cwA w) % 2 ^ 24 })) ∧
  CoreRow .corePget 0x51 (fun w _ => fmtI w && decide (cwA w < 8) && decide (cwImm w < 4))
    (fun w x y => y.status = x.status ∧ x.WritesG y (cwD w)
      ((if cwImm w = 0 then (x.rp (cwA w)).base else if cwImm w = 1 then (x.rp (cwA w)).len
        else if cwImm w = 2 then (x.rp (cwA w)).step + (x.rp (cwA w)).mode * 2 ^ 16
        else (x.rp (cwA w)).ofs) % 2 ^ 32)) ∧
  CoreRow .corePupd 0x52 (fun w x => fmtM w && decide (cwOpt w = 0) && ptrOk x (cwA w))
    (fun w x y => y = { x with p := y.p, status := y.status } ∧
      (∀ n, n ≠ ptrNo (cwA w) → y.rp n = x.rp n) ∧
      y.rp (ptrNo (cwA w)) = (x.rp (ptrNo (cwA w))).upd.1 ∧
      (∀ i, i ≠ stFold → i ≠ stBrev → y.st i = x.st i) ∧
      y.st stFold = (x.st stFold || (x.rp (ptrNo (cwA w))).upd.2.1) ∧
      y.st stBrev = (x.st stBrev || (x.rp (ptrNo (cwA w))).upd.2.2)) ∧
  (∀ (s : State) c w x t, s.CoreAt c w x t → cwOp w = 0x58 →
    ((fmtI w && decide (cwImm w < 8)) = true → cwImm w ≠ 3 →
      exec (.coreMfs c) s = .next (t.retire c (x.wg (cwD w) (t.special c x (cwImm w))))) ∧
    ((fmtI w && decide (cwImm w < 8)) = true → cwImm w = 3 →
      exec (.coreMfs c) s = .next ((t.setCore c { t.core c with
        cycHi := t.time.cyc / 2 ^ 32 % 2 ^ 32 }).retire c (x.wg (cwD w) (t.time.cyc % 2 ^ 32)))) ∧
    ((fmtI w && decide (cwImm w < 8)) = false →
      exec (.coreMfs c) s = .next (t.coreExc c .illegal 0 0))) ∧
  CoreRow .coreMts 0x59 (fun w _ => fmtI w && decide (cwImm w < 8)) (fun w x y =>
    y = { x with status := y.status, fpcsr := y.fpcsr } ∧
    (cwImm w ≠ 0 → y.status = x.status) ∧ (cwImm w ≠ 1 → y.fpcsr = x.fpcsr) ∧
    (cwImm w = 0 → (∀ i, i < 4 → y.st i = (x.bv (cwA w)).getLsbD i) ∧
      (∀ i, 8 ≤ i → i < 12 → y.st i = (x.st i && !(x.bv (cwA w)).getLsbD i)) ∧
      (∀ i, (4 ≤ i ∧ i < 8) ∨ 12 ≤ i → y.st i = x.st i)) ∧
    (cwImm w = 1 → ∀ i, i < 3 → y.fpcsr.getLsbD i = (x.bv (cwA w)).getLsbD i))

/-- B goes to IMM where its condition holds, and ends the innermost loop if IMM lies outside its body;
else it goes on. BR goes to gA; CALL goes to IMM and puts the address of the next instruction into
g31. LOOP with gA passes starts its body, a count of 0 passes over it, and a third level raises
LOOPSTK; an end not after the LOOP is ILLEGAL. Nothing else changes. Whether a COND outside the
table is taken is left open (notes/assumptions/62.md), so B is stated for the conditions the table
gives. (R237, R238, R254, R255) -/
def Obligations.CoreBranchesAndLoops : Prop :=
  (∀ (s : State) c w x t, s.CoreAt c w x t → cwOp w = 0x60 → fmtJ w = true →
    (∀ l r, x.cond (cwD w) = some true → x.loops = l :: r →
      ∀ ls, ls = (if l.first ≤ cwImm w ∧ cwImm w ≤ l.last then l :: r else r) →
      exec (.coreB c) s = .next (t.setCtx c { x with pc := cwImm w, loops := ls })) ∧
    (x.cond (cwD w) = some true → x.loops = [] →
      exec (.coreB c) s = .next (t.setCtx c { x with pc := cwImm w })) ∧
    (x.cond (cwD w) = some false → exec (.coreB c) s = .next (t.retire c x))) ∧
  (∀ (s : State) c w x t, s.CoreAt c w x t → cwOp w = 0x61 → fmtJ w = true →
    exec (.coreBr c) s = .next (t.setCtx c { x with pc := x.rg (cwA w) })) ∧
  (∀ (s : State) c w x t, s.CoreAt c w x t → cwOp w = 0x62 → fmtJ w = true →
    exec (.coreCall c) s = .next (t.setCtx c { x.wg 31 (x.pc + 8) with pc := cwImm w })) ∧
  (∀ (s : State) c w x t, s.CoreAt c w x t → cwOp w = 0x63 →
    ((fmtJ w = false ∨ cwImm w ≤ x.pc) → exec (.coreLoop c) s = .next (t.coreExc c .illegal 0 0)) ∧
    (fmtJ w = true → x.pc < cwImm w →
      (2 ≤ x.loops.length → exec (.coreLoop c) s = .next (t.coreExc c .loopstk 0 0)) ∧
      (x.loops.length < 2 → x.rg (cwA w) = 0 →
        exec (.coreLoop c) s = .next (t.setCtx c { x with pc := cwImm w + 8 })) ∧
      (x.loops.length < 2 → x.rg (cwA w) ≠ 0 →
        exec (.coreLoop c) s = .next (t.setCtx c
          { x with pc := x.pc + 8, loops := ⟨x.pc + 8, cwImm w, x.rg (cwA w)⟩ :: x.loops })))) ∧
  (∀ (s : State) c w x t, s.CoreAt c w x t → cwOp w ∈ ([0x60, 0x61, 0x62] : List Nat) → fmtJ w = false →
    exec (if cwOp w = 0x60 then .coreB c else if cwOp w = 0x61 then .coreBr c else .coreCall c) s =
      .next (t.coreExc c .illegal 0 0))

/-- DMA reads its 16-byte descriptor from the core's own data memory and, where R257 accepts it,
starts the transfer under a free tag and gives gD the tag; with no free tag it waits.
CORE_DMA_DONE moves the bytes of the transfer outstanding under the tag and records its result,
but not in SAFE_HOLD, where the cores stand. DMAW of the item's own completed tag gives the bytes
moved and Z, and frees the tag; of its own outstanding tag it waits; of any other tag it gives 0
with Z clear. SUBMIT hands 32 bytes to the scheduler as source c. FENCE and NOP only go on. END
with no transfer outstanding completes the item with gA as its result word. A word whose OP is not
in the table raises ILLEGAL. (R237, R238, R239, R241, R256, R257) -/
def Obligations.CoreTransfersAndItemEnd : Prop :=
  (∀ (s : State) c w x t, s.CoreAt c w x t → cwOp w = 0x68 → fmtR w = true →
    ∀ r rest, (t.core c).stack = r :: rest →
    ((t.core c).freeTag r.item.uid = none → exec (.coreDma c) s = .next s) ∧
    (∀ tag b u, (t.core c).freeTag r.item.uid = some tag → x.rg (cwA w) % 16 = 0 →
      t.coreAccess c false true [(x.rg (cwA w), 16)] = none →
      t.coreRdRuns c [(x.rg (cwA w), 16)] = (b, false, u) → dmaBad b = false →
      u.dmaSide c false (dmaTagOf r.item.uid b).srcHost (dmaTagOf r.item.uid b).src
        (dmaTagOf r.item.uid b).len = none →
      u.dmaSide c true (dmaTagOf r.item.uid b).dstHost (dmaTagOf r.item.uid b).dst
        (dmaTagOf r.item.uid b).len = none →
      exec (.coreDma c) s = .next ((u.setCore c { u.core c with
        dma := sput (u.core c).dma none (8 * r.item.uid + tag) (some (dmaTagOf r.item.uid b)) }).retire c
          (x.wg (cwD w) tag)))) ∧
  (∀ (s : State) c tag hm k d, c < 16 → tag < 8 → (s.core c).dmaTag? tag = some (k, d) →
    (s.accepting = false → exec (.coreDmaDone c tag hm) s = .next (s.see hm)) ∧
    (s.accepting = true → ∀ n ok u, (s.see hm).dmaMove c d hm = (n, ok, u) →
      sget (u.core c).dma none k = some d →
      exec (.coreDmaDone c tag hm) s = .next (u.setCore c { u.core c with
        dma := sput (u.core c).dma none k (some { d with done := some (n, ok) }) }))) ∧
  (∀ (s : State) c w x t, s.CoreAt c w x t → cwOp w = 0x69 → fmtR w = true →
    ∀ r rest, (t.core c).stack = r :: rest →
    (∀ d n ok, x.rg (cwA w) < 8 → sget (t.core c).dma none (8 * r.item.uid + x.rg (cwA w)) = some d →
      (d.done = none → exec (.coreDmaw c) s = .next s) ∧
      (d.done = some (n, ok) →
        exec (.coreDmaw c) s = .next ((t.setCore c { t.core c with
          dma := sdel (t.core c).dma (8 * r.item.uid + x.rg (cwA w)) }).retire c
            ((x.setSt 0 ok).wg (cwD w) n)))) ∧
    (8 ≤ x.rg (cwA w) ∨ sget (t.core c).dma none (8 * r.item.uid + x.rg (cwA w)) = none →
      exec (.coreDmaw c) s = .next (t.retire c ((x.setSt 0 false).wg (cwD w) 0)))) ∧
  (∀ (s : State) c w x t, s.CoreAt c w x t → cwOp w = 0x6A → fmtR w = true → x.rg (cwA w) % 16 = 0 →
    t.coreAccess c false false [(x.rg (cwA w), 32)] = none → ∀ b u,
    t.coreRdRuns c [(x.rg (cwA w), 32)] = (b, false, u) →
    exec (.coreSubmit c) s = .next ((u.submit c b none none).retire c x)) ∧
  CoreRow .coreFence 0x6B (fun w _ => fmtR w) (fun _ x y => y = x) ∧
  CoreRow .coreNop 0x7F (fun w _ => fmtR w) (fun _ x y => y = x) ∧
  (∀ (s : State) c w x t, s.CoreAt c w x t → cwOp w = 0x6E → fmtR w = true → t.dmaOut c = 0 →
    exec (.coreEnd c) s = .next (t.itemEnd c 0 (x.rg (cwA w)))) ∧
  (∀ (s : State) c w x t, s.CoreAt c w x t → cwOp w ∉ coreOps →
    exec (.undefinedInstruction c) s = .next (t.coreExc c .illegal 0 0))

/-- An exception of core c with cause, operand and address, on an item with nothing saved below it,
writes the exception record at offset 0x3DC00 of the core's data memory (cause and operand,
program counter, address), leaves the core without an item, and counts one more exception. (R262,
R265, 08_dsp_cores.md) -/
def Obligations.CoreExceptionEndsItem : Prop :=
  ∀ (s : State) (c : Nat) (e : Exc) (opnd addr : Nat) (r : Running), c < 16 →
    (s.core c).stack = [r] → opnd < 4 → s.get F.MEM_INJ_MODE = 0 →
    (s.coreExc c e opnd addr).rd32 (dataBase c + 0x3DC00) = e.code + 256 * opnd ∧
      (s.coreExc c e opnd addr).rd32 (dataBase c + 0x3DC04) = r.ctx.pc % 65536 ∧
      (s.coreExc c e opnd addr).rd32 (dataBase c + 0x3DC08) = addr % 2 ^ 32 ∧
      ((s.coreExc c e opnd addr).core c).stack = [] ∧
      ((s.coreExc c e opnd addr).core c).excs = satInc 32 (s.core c).excs

/-- SCHED_DISPATCH gives the lowest idle core that has a candidate its item, at the item's entry with
g1 = ARG and g2 = the period index, and takes the item out of its queue. SCHED_PREEMPT starts the
save of the chosen core's item for the chosen item; CONTEXT_SAVE_DONE puts the new item on top of
the saved one, or, where that item has completed undispatched meanwhile, goes on as after an item;
CONTEXT_RESTORE_DONE lets the saved item run on, or raises DECC with operand 3 on a bad frame
word. SPILL_REFILL takes the oldest entry out of each spill ring whose hardware queue has room.
DEADLINE_EXPIRY leaves in each queue the items whose deadline still holds. AFF_WAIT_EXPIRY ends
the wait of the item that has waited longest. In SAFE_HOLD a core that saves or restores stands.
(R233, R275, R278, R279, R281, R282, R283, R285, R261) -/
def Obligations.SchedulerEvents : Prop :=
  (∀ (s : State) c i, c < 16 → s.coreIdle c = true → s.pick c = some i →
    (∀ d, d < c → s.coreIdle d = false ∨ s.pick d = none) →
    s.Gives .schedDispatch (fun t => (∃ r, (t.core c).stack = [r] ∧ r.item = i ∧ r.ctx.pc = i.entry ∧
      r.ctx.rg 1 = i.arg % 2 ^ 32 ∧ r.ctx.rg 2 = s.time.pidx % 2 ^ 32) ∧
      (t.core c).phase = .run ∧
      t.queue i.prio = (s.queue i.prio).filter (fun j => j.uid ≠ i.uid))) ∧
  (∀ (s : State) i c, s.preemptPick = some (i, c) →
    s.Gives .schedPreempt (fun t => (t.core c).phase = .saving (some i) i.src ∧
      (t.core c).preempts = (s.core c).preempts + 1 ∧
      t.queue i.prio = (s.queue i.prio).filter (fun j => j.uid ≠ i.uid))) ∧
  (∀ (s : State) c, c < 16 → s.accepting = false →
    exec (.contextSaveDone c) s = .next s ∧ exec (.contextRestoreDone c) s = .next s) ∧
  (∀ (s : State) c i q, c < 16 → s.accepting = true → (s.core c).phase = .saving (some i) q →
    s.Gives (.contextSaveDone c) (fun t => (t.core c).phase = .run ∧
      ∃ r, (t.core c).stack = r :: (s.core c).stack ∧ r.item = i ∧ r.ctx.pc = i.entry)) ∧
  (∀ (s : State) c q u, c < 16 → s.accepting = true → (s.core c).phase = .saving none q →
    s.saveFrame (frameAt c ((s.core c).stack.length - 1)) = u →
    exec (.contextSaveDone c) s = .next ((u.setCore c { u.core c with phase := .run }).afterItem c q)) ∧
  (∀ (s : State) c q r rest b u, c < 16 → s.accepting = true → (s.core c).phase = .restoring q →
    (s.core c).stack = r :: rest →
    (s.eccRds (frameAt c rest.length) c 256 = (b, none, u) →
      s.Gives (.contextRestoreDone c) (fun t => (t.core c).phase = .run ∧
        (t.core c).stack = r :: rest)) ∧
    (∀ a, s.eccRds (frameAt c rest.length) c 256 = (b, some a, u) →
      exec (.contextRestoreDone c) s =
        .next ((u.setCore c { u.core c with phase := .run, cycHi := r.cycHi }).coreExc c .decc 3 a))) ∧
  (∀ (s : State), s.accepting = true → s.Gives .spillRefill (fun t => ∀ l i rest, l < 8 → s.spill l = i :: rest →
    (s.queue l).length < 256 → t.spill l = rest)) ∧
  (∀ (s : State), s.accepting = true → s.Gives .deadlineExpiry (fun t => ∀ l, l < 8 →
    t.queue l = (s.queue l).filter (fun i => s.dlOpen i))) ∧
  (∀ (s : State) i r, s.affWaiting = i :: r → s.Gives .affWaitExpiry (fun t => ∀ l, l < 8 →
    t.queue l = (s.queue l).map (fun j =>
      if j.uid = (r.foldl elder i).uid then { j with affOver := true } else j)))

/-- A period-table entry whose period has come submits its template as source 0x10, or with SKIP_BUSY
only sets PT_SKIP while its item is outstanding. The telemetry source of a group submits its
template as source 0x12 once per period, when every LIVE string of the group has its stroke home.
SCHED_CANCEL takes every undispatched item with its source and tag out of the queues and spill
rings. The window's end, at a period index divisible by 1,024, latches each core's busy cycles,
items and pre-emptions, starts QTUSE again, and stores the window's first period. (R267, R269,
R270, R271, R274, R287, R292, R295) -/
def Obligations.SchedulerSourcesAndWindows : Prop :=
  (∀ (s : State) e, e < 64 → s.live = true → s.on (F.SCHED_PT_CFG_EN e) = true →
    s.get (F.SCHED_PT_CFG_DIV e) ≠ 0 →
    s.time.pidx % s.get (F.SCHED_PT_CFG_DIV e) = s.get (F.SCHED_PT_CFG_PHASE e) →
    ((s.on (F.SCHED_PT_CFG_SKIP_BUSY e) = false ∨ s.ptBusy e = false) →
      exec (.periodTableFire e) s =
        .next (s.submitTpl 0x10 (s.get (R.SCHED_PT_TPL e) / 32 * 32) (some e))) ∧
    (s.on (F.SCHED_PT_CFG_SKIP_BUSY e) = true → s.ptBusy e = true →
      exec (.periodTableFire e) s = .next (s.set F.SCHED_FLAG_PT_SKIP 1))) ∧
  (∀ (s : State) g, g < 8 → s.live = true → s.on (F.SCHED_TEL_EN g) = true →
    ((∃ n ∈ s.grpLive g, (s.str n).flights ≠ []) → exec (.telSubmit g) s = .next s) ∧
    ((∀ n ∈ s.grpLive g, (s.str n).flights = []) →
      ∀ p, p = (s.grpLive g).foldl (fun m n => max m ((s.str n).launched.headD 0))
          (if s.grpLive g = [] then s.time.pidx else 0) →
        (sget s.sched.telAt 0 g = p + 1 → exec (.telSubmit g) s = .next s) ∧
        (sget s.sched.telAt 0 g ≠ p + 1 → exec (.telSubmit g) s =
          .next ({ s with sched := { s.sched with telAt := sput s.sched.telAt 0 g (p + 1) } }.submitTpl
            0x12 (s.get (F.SCHED_TEL_TPL g) * 32) none)))) ∧
  (∀ (s : State) src tag, src < 64 → tag < 65536 → s.Awake → s.accepting = true →
    s.Gives (.schedCancel src tag) (fun t => ∀ l, l < 8 →
      t.queue l = (s.queue l).filter (fun i => !i.hit src tag) ∧
      t.spill l = (s.spill l).filter (fun i => !i.hit src tag))) ∧
  (∀ (s : State), s.peRun = true → s.time.pidx % 1024 = 0 → s.sched.winAt ≠ some s.time.pidx →
    s.Gives .quotaWindowEnd (fun t =>
    (∀ q, q < 32 → t.get (R.SCHED_QTUSE q) = 0) ∧
    (∀ c, c < 16 → t.get (R.SCHED_CORE_BUSY c) = (s.core c).busy % 2 ^ 32 ∧
      t.get (R.SCHED_CORE_ITEMS c) = (s.core c).items % 2 ^ 32 ∧
      t.get (R.SCHED_CORE_PREEMPT c) = (s.core c).preempts % 2 ^ 32 ∧
      (t.core c).busy = 0 ∧ (t.core c).items = 0 ∧ (t.core c).preempts = 0) ∧
    t.memc.winCe = 0 ∧ t.memc.prevUe = s.memc.winUe ∧ t.memc.winUe = 0))

/-- In a part that is not in RESET, in a core cycle that has seen no fatal fault and no DEV_CMD
before: GO_READY leaves CONFIG for READY where every check of R29 passes, and is refused with REJ
2 where one fails. GO_RUN in READY with its instant inside the window sets RUN_PEND and keeps the
instant, and is refused with REJ 3 outside it. STOP takes RUN_PEND back, or leaves RUN for READY
with ARM_RUN cleared. GO_CONFIG leaves READY for CONFIG. FORCE_SAFE_HOLD leaves CONFIG, READY and
RUN for SAFE_HOLD with REASON 6 and ARM_RUN cleared. While RUN_PEND is set the other transitions
are refused with REJ 5, from a state they do not fit with REJ 1. DEV_STATE shows the state left
and the reason. In the core cycle of a fatal fault every command is refused with REJ 4 and has no
effect. (cmdMark only notes what the command changed, for a fault later in its cycle.) (R20, R25,
R26, R27, R28, R29, R30, R212) -/
def Obligations.DeviceCommands : Prop :=
  (∀ (s : State), s.Awake → s.FirstOfCycle → s.gst = .config → s.on F.DEV_STATE_RUN_PEND = false → s.chkClr.readyFails = none →
    s.Gives .goReady (fun t => t.gst = .ready ∧ t.get F.DEV_STATE_PREV = 2 ∧
      t.get F.DEV_STATE_REASON = 1)) ∧
  (∀ (s : State) u, s.Awake → s.FirstOfCycle → s.gst = .config → s.on F.DEV_STATE_RUN_PEND = false →
    s.chkClr.readyFails = some u → exec .goReady s = .next (s.cmdMark (u.devRej 2))) ∧
  (∀ (s : State), s.Awake → s.FirstOfCycle → s.gst = .ready → s.on F.DEV_STATE_RUN_PEND = false →
    (s.inWindow (s.get R.DEV_RUN_AT) = true →
      ∃ d, d = { s.dev with runAt := s.get R.DEV_RUN_AT } ∧
        exec .goRun s = .next (s.cmdMark { s.set F.DEV_STATE_RUN_PEND 1 with dev := d })) ∧
    (s.inWindow (s.get R.DEV_RUN_AT) = false → exec .goRun s = .next (s.cmdMark (s.devRej 3)))) ∧
  (∀ (s : State), s.Awake → s.FirstOfCycle →
    (s.on F.DEV_STATE_RUN_PEND = true → exec .stop s = .next (s.cmdMark (s.set F.DEV_STATE_RUN_PEND 0))) ∧
    (s.on F.DEV_STATE_RUN_PEND = false → s.gst = .run → s.Gives .stop (fun t => t.gst = .ready ∧
      t.get F.DEV_STATE_PREV = 4 ∧ t.get F.DEV_STATE_REASON = 1 ∧
      t.get F.TRIP_ARM_ARM_RUN = 0 ∧ (s.ceng.tune = none → t.mem = s.mem))) ∧
    (s.on F.DEV_STATE_RUN_PEND = false → s.gst ≠ .run → exec .stop s = .next (s.cmdMark (s.devRej 1)))) ∧
  (∀ (s : State), s.Awake → s.FirstOfCycle → s.gst = .ready → s.on F.DEV_STATE_RUN_PEND = false →
    s.Gives .goConfig (fun t => t.gst = .config ∧ t.get F.DEV_STATE_PREV = 3 ∧
      t.get F.DEV_STATE_REASON = 1)) ∧
  (∀ (s : State), s.Awake → s.FirstOfCycle →
    ((s.gst = .config ∨ s.live = true) → s.Gives .forceSafeHold (fun t => t.gst = .safeHold ∧
      t.get F.DEV_STATE_PREV = s.get F.DEV_STATE_STATE ∧ t.get F.DEV_STATE_REASON = 6 ∧
      t.get F.TRIP_ARM_ARM_RUN = 0)) ∧
    (s.gst ≠ .config → s.live = false → exec .forceSafeHold s = .next (s.devRej 1))) ∧
  (∀ (s : State), s.Awake → s.FirstOfCycle → ∀ c ∈ ([.goReady, .goRun, .goConfig] : List Instr),
    (s.on F.DEV_STATE_RUN_PEND = true → exec c s = .next (s.cmdMark (s.devRej 5))) ∧
    (s.on F.DEV_STATE_RUN_PEND = false → s.gst ≠ (if c = Instr.goReady then GState.config else GState.ready) →
      exec c s = .next (s.cmdMark (s.devRej 1)))) ∧
  (∀ (s : State), s.Awake → s.dev.faultAt = some s.time.cyc →
    (∀ c ∈ ([.goReady, .goRun, .goConfig, .stop] : List Instr),
      exec c s = .next (s.cmdMark (s.devRej 4))) ∧
    exec .forceSafeHold s = .next (s.devRej 4))

/-- A write of an undefined code sets the refusal of its block and changes nothing else: REJ 1 for
DEV_CMD outside the core cycle of a fatal fault, OTP_REJ for DEV_OTP_CMD, and CMD_REJ for
SAFE_CMD, LOGIC_CMD, ADC_CMD and PAIR_CMD. (R6, R27, R468) -/
def Obligations.UndefinedCommandCodesAreRefused : Prop :=
  ∀ (s : State) v, s.Awake → v < 2 ^ 32 →
    (v % 16 ∉ ([1, 2, 3, 4, 15] : List Nat) → s.dev.faultAt ≠ some s.time.cyc →
      exec (.cmdUndefined R.DEV_CMD.addr v) s = .next (s.devRej 1)) ∧
    (v % 4 ∉ ([1, 2] : List Nat) →
      exec (.cmdUndefined R.DEV_OTP_CMD.addr v) s = .next (s.set F.DEV_OTP_STAT_OTP_REJ 1)) ∧
    (v % 16 ∉ ([1, 2, 3, 4] : List Nat) →
      exec (.cmdUndefined R.SAFE_CMD.addr v) s = .next (s.set F.SAFE_FLAG_CMD_REJ 1)) ∧
    (v % 16 ∉ ([1, 2, 3, 4, 5, 6] : List Nat) →
      exec (.cmdUndefined R.LOGIC_CMD.addr v) s = .next (s.set F.LOGIC_FLAG_CMD_REJ 1)) ∧
    (v % 16 ∉ ([1, 2, 3] : List Nat) →
      exec (.cmdUndefined R.ADC_CMD.addr v) s = .next (s.set F.ADC_FLAG_CMD_REJ 1)) ∧
    (v % 16 ≠ 1 → exec (.cmdUndefined R.PAIR_CMD.addr v) s = .next (s.set F.PAIR_FLAG_CMD_REJ 1))

/-- A power-on reset leaves memory empty, the queue of commands as it was, and every register at its
reset value, the island's registers alone as they were, but for ISTATE, which is DISABLED on a
part whose code has no island. RESET_N and DEV_RESET with the key put the part into RESET with
their cause (and the dawn request); memory, the links' and the island's registers stay, every
register of the string block is at its reset value. A wrong key is refused with REJ 1. The
release, with a valid reference, ends RESET, starts step 1, locks the PLL on that reference,
samples the straps, counts the epoch, and chooses a noon start exactly where DEV_RESET without a
dawn request follows a completed start with no image commit and no uncorrectable error of class 2
or 5 since. (R356, R358, R418, R544, R546, R547) -/
def Obligations.ResetsAndTheirRelease : Prop :=
  (∀ (s : State) fit, s.Gives (.powerOnReset fit) (fun t => t.mem = [] ∧ t.synd = [] ∧ t.gst = .reset ∧
    t.pending = s.pending ∧ t.time = {} ∧
    ∀ f : Fld, f.rst < 2 ^ 32 →
      (0x70000 ≤ f.addr ∧ f.addr < 0x80000 → f.addr ≠ R.SAFE_STAT.addr → t.word f = s.word f) ∧
      (¬(0x70000 ≤ f.addr ∧ f.addr < 0x80000) → t.word f = f.rst)) ∧
    (∀ b, s.Gives (.powerOnReset b) (fun t =>
      (t.straps.es = false → t.get F.SAFE_STAT_ISTATE = 4) ∧
      (t.straps.es = true → s.get F.SAFE_STAT_ISTATE ≠ 4 →
        t.get F.SAFE_STAT_ISTATE = s.get F.SAFE_STAT_ISTATE)))) ∧
  (∀ (s : State), s.Awake → s.Gives .resetNLow (fun t => t.gst = .reset ∧
    t.get F.DEV_RST_CAUSE_CAUSE = 2 ∧ t.mem = s.mem ∧ t.pending = s.pending ∧
    (∀ n, n < 44 → t.word (R.STR_CFG n) = (R.STR_CFG n).rst) ∧
    t.word R.SAFE_WD = s.word R.SAFE_WD)) ∧
  (∀ (s : State), s.dev.inReset = true → exec .resetNLow s =
    .next (s.set F.DEV_RST_CAUSE_CAUSE (min 2 (s.get F.DEV_RST_CAUSE_CAUSE)))) ∧
  (∀ (s : State) dawn, s.Awake → s.Gives (.devReset 0x5EB7 dawn) (fun t => t.gst = .reset ∧
    t.get F.DEV_RST_CAUSE_CAUSE = 4 ∧ t.get F.DEV_RST_CAUSE_DAWN_REQ = b2n dawn ∧ t.mem = s.mem)) ∧
  (∀ (s : State) key dawn, s.Awake → key < 65536 → key ≠ 0x5EB7 →
    exec (.devReset key dawn) s = .next (s.devRej 1)) ∧
  (∀ (s : State) refA refB side home, s.dev.inReset = true → (refA || refB) = true →
    s.Gives (.resetRelease refA refB side home) (fun t => t.Awake ∧ t.dev.step = 1 ∧
      t.straps.side = side ∧ t.straps.home = home ∧ t.on F.TIME_STATUS_PLL_LOCK = true ∧
      t.get F.TIME_STATUS_REF_ACT = (if refA then 0 else 1) ∧
      t.get R.HOST_EPOCH = satInc 32 (s.get R.HOST_EPOCH) ∧
      (t.on F.DEV_START_KIND = true ↔ s.get F.DEV_RST_CAUSE_CAUSE = 4 ∧
        s.get F.DEV_RST_CAUSE_DAWN_REQ = 0 ∧ s.dev.prevDone = true ∧ s.dev.committed = false ∧
        s.dev.ue25 = false)))

/-- In BOOT a start step that completes passes to the next step, step 3 with a valid image and step 6
with a register list that applies; a failed self-test of a dawn start, a silent flash, no image
and a bad list fail the start with codes 1, 2, 3 and 4, and 2 s without an end with code 5. Step 5
leaves REF_OK set and the factors of the converters that were MEAS before the reset
(notes/assumptions/79.md). Step 8 ends in CONFIG with REASON 7. A failed start enters RESET with
cause 3, the third in a row SAFE_HOLD with REASON 2. A late apply instant enters SAFE_HOLD with
REASON 3, and 10 ms without a usable reference with REASON 5. (R25, R35, R41, R547, R548, R549) -/
def Obligations.StartStepsAndFaults : Prop :=
  (∀ (s0 : State) (ok : Bool) (hm : HostMem) (s : State), s = s0.see hm → s0.Awake → s0.gst = .boot →
    (s.dev.step = 1 → (s.on F.DEV_START_KIND = true ∨ ok = true) →
      exec (.startStepDone ok hm) s0 = .next { s with dev := { s.dev with step := 2 } }) ∧
    (s.dev.step = 1 → s.on F.DEV_START_KIND = false → ok = false →
      exec (.startStepDone ok hm) s0 = .next (s.startFail 1)) ∧
    (s.dev.step = 2 → s0.Gives (.startStepDone ok hm) (fun t => t.dev.step = 3 ∧
      (s.on F.DEV_START_KIND = false → t.mem = [] ∧ t.synd = []))) ∧
    (s.dev.step = 3 → ok = false → exec (.startStepDone ok hm) s0 = .next (s.startFail 2)) ∧
    (s.dev.step = 3 → ok = true → ∀ k load u,
      s.pickImage (s.on F.DEV_START_KIND) = (.run k load, u) →
      s0.Gives (.startStepDone ok hm) (fun t => t.dev.step = 4)) ∧
    (s.dev.step = 3 → ok = true → ∀ u, s.pickImage (s.on F.DEV_START_KIND) = (.noImage, u) →
      exec (.startStepDone ok hm) s0 = .next (u.startFail 3)) ∧
    (s.dev.step = 4 → exec (.startStepDone ok hm) s0 = .next { s with dev := { s.dev with step := 5 } }) ∧
    (s.dev.step = 5 → s0.Gives (.startStepDone ok hm) (fun t => t.dev.step = 6 ∧
      t.on F.ADC_REF_REF_OK = true ∧ ∀ c, c < 8 → bit s.dev.meas c = true →
        ∀ k, k < 5 → t.get (R.ADC_FACT c k) = s.get (R.ADC_FACT c k))) ∧
    (s.dev.step = 6 → ∀ u, s.regListApply s.dev.regList = some u →
      exec (.startStepDone ok hm) s0 = .next { u with dev := { u.dev with step := 7 } }) ∧
    (s.dev.step = 6 → s.regListApply s.dev.regList = none →
      exec (.startStepDone ok hm) s0 = .next (s.startFail 4)) ∧
    (s.dev.step = 7 → s0.Gives (.startStepDone ok hm) (fun t => t.dev.step = 8)) ∧
    (s.dev.step = 8 → s0.Gives (.startStepDone ok hm) (fun t => t.gst = .config ∧
      t.get F.DEV_STATE_REASON = 7 ∧ t.get F.DEV_START_FAILS = 0 ∧ t.dev.prevDone = true ∧
      t.dev.step = 0))) ∧
  (∀ (s : State), s.Awake → s.gst = .boot → exec .startTimeLimit s = .next (s.startFail 5)) ∧
  (∀ (s : State) code, s.Awake → s.gst = .boot → code < 32 →
    (2 ≤ s.get F.DEV_START_FAILS → (s.startFail code).gst = .safeHold ∧
      (s.startFail code).get F.DEV_STATE_REASON = 2) ∧
    (s.get F.DEV_START_FAILS < 2 → (s.startFail code).gst = .reset ∧
      (s.startFail code).get F.DEV_RST_CAUSE_CAUSE = 3 ∧
      (s.startFail code).get F.DEV_START_FCODE = code ∧
      (s.startFail code).get F.DEV_START_FAILS = s.get F.DEV_START_FAILS + 1)) ∧
  (∀ (s : State), s.Awake → s.peRun = true → (s.gst = .config ∨ s.live = true) →
    s.Gives .periodEngineStall (fun t => t.gst = .safeHold ∧ t.get F.DEV_STATE_REASON = 3)) ∧
  (∀ (s : State), s.Awake → s.FirstOfCycle → s.on F.TIME_STATUS_REF_NONE = true → (s.gst = .config ∨ s.live = true) →
    s.Gives .refHoldoverExpiry (fun t => t.gst = .safeHold ∧ t.get F.DEV_STATE_REASON = 5 ∧
      t.on F.TIME_STATUS_PLL_LOCK = false))

/-- REF_LOSS and REF_RETURN of a reference show in its OK bit. When the reference in use may no longer
be used, the other one comes into use where it may be (valid, and with AUTOSW clear the selected
one), with REF_SW set if one was in use before; where neither may be used REF_NONE sets. A
returned reference that may be used clears REF_NONE while the PLL lock has not been declared
failed. A reference in use that stays usable stays in use. (R34, R35) -/
def Obligations.ReferencesAreLostAndReturn : Prop :=
  (∀ (s : State) r, r < 2 → s.Awake → s.Gives (.refLoss r) (fun t => t.refOk r = false ∧
    t.refOk (1 - r) = s.refOk (1 - r) ∧ RegsOnly [R.TIME_STATUS.addr] s t ∧
    (s.get F.TIME_STATUS_REF_ACT ≠ r → s.refUsable (1 - r) = true →
      t.get F.TIME_STATUS_REF_ACT = 1 - r ∧ t.on F.TIME_STATUS_REF_NONE = false) ∧
    (s.get F.TIME_STATUS_REF_ACT = r → s.refUsable (1 - r) = true →
      t.get F.TIME_STATUS_REF_ACT = 1 - r ∧ t.on F.TIME_STATUS_REF_NONE = false ∧
      (s.on F.TIME_STATUS_REF_NONE = false → t.on F.TIME_STATUS_REF_SW = true)) ∧
    (s.refUsable (1 - r) = false → t.on F.TIME_STATUS_REF_NONE = true))) ∧
  (∀ (s : State) r, r < 2 → s.Awake → s.Gives (.refReturn r) (fun t => t.refOk r = true ∧
    RegsOnly [R.TIME_STATUS.addr] s t ∧
    (s.on F.TIME_STATUS_PLL_LOCK = true → s.refUsable (s.get F.TIME_STATUS_REF_ACT) = false →
      s.on F.TIME_STATUS_REF_NONE = true →
      (s.on F.TIME_CTRL_AUTOSW = true ∨ s.get F.TIME_CTRL_REFSEL = r) →
      t.get F.TIME_STATUS_REF_ACT = r ∧ t.on F.TIME_STATUS_REF_NONE = false)))

/-- A write of TAKE by an origin copies SEC, NS and FRAC, the period index and the offset in the
period into that origin's own snapshot registers, POFS with its bit 16 saying that no period
engine runs, and leaves everything else, the copies of the other origins among it. (R579) -/
def Obligations.SnapshotShowsTheInstant : Prop :=
  ∀ (s : State) org, org < 18 → s.Awake → s.time.frac < 65536 → s.time.ns < 2 ^ 32 → s.time.sec < 2 ^ 64 →
    s.time.pidx < 2 ^ 64 →
    s.Gives (.timeSnap org) (fun t =>
      t.get (R.TIME_SNAP_FRAC.of org) = s.time.frac ∧ t.get (R.TIME_SNAP_NS.of org) = s.time.ns ∧
      t.get (R.TIME_SNAP_SEC_LO.of org) = s.time.sec % 2 ^ 32 ∧
      t.get (R.TIME_SNAP_SEC_HI.of org) = s.time.sec / 2 ^ 32 ∧
      t.get (R.TIME_SNAP_PIDX_LO.of org) = (if s.peRun then s.time.pidx % 2 ^ 32 else 0) ∧
      t.get (R.TIME_SNAP_PIDX_HI.of org) = (if s.peRun then s.time.pidx / 2 ^ 32 else 0) ∧
      t.get (R.TIME_SNAP_POFS.of org) = (if s.peRun then s.time.pofs % 65536 else 65536) ∧
      RegsOnly [(R.TIME_SNAP_FRAC.of org).addr, (R.TIME_SNAP_NS.of org).addr,
        (R.TIME_SNAP_SEC_LO.of org).addr, (R.TIME_SNAP_SEC_HI.of org).addr,
        (R.TIME_SNAP_PIDX_LO.of org).addr, (R.TIME_SNAP_PIDX_HI.of org).addr,
        (R.TIME_SNAP_POFS.of org).addr] s t)

/-- A push by an origin takes the staged address, data, mask and target of that origin: with 256
entries it is refused as FULL (1), with a target less than 200 ns ahead, or seconds that lie 2^31
or more ahead modulo 2^32, as PAST (2), with a forbidden address as BADADDR (3), each recorded in
the origin's own LAST and REJ; otherwise the entry is queued, and LAST is 0. An accepted entry
goes in front of the first entry with a later target. Where several causes hold, LAST takes the
first of this order (notes/assumptions/88.md). A cancel takes out every entry with its tag that
does not fire in the present tick; for one that does it sets CANCEL_LATE, and the entry stays;
with no entry it sets CANCEL_MISS. The first entry fires as its origin's write at its target, one
tick later behind an entry of the same target, if that lies before the next apply instant and the
part is neither in RESET nor in SAFE_HOLD. (R57, R58, R59, R60, R61, R62) -/
def Obligations.TimedWritesQueueAndFire : Prop :=
  (∀ (s : State) org tag, org < 18 → tag < 65536 → s.Awake → ∀ e : TwEntry,
    e = { addr := 4 * s.get (F.TIME_TW_ADDR_WORD.of org), data := s.get (R.TIME_TW_DATA.of org),
          mask := s.get (R.TIME_TW_MASK.of org), ns := s.get (F.TIME_TW_NS_NS.of org),
          sec := s.get (R.TIME_TW_SEC.of org), tag := tag, org := org } →
    s.Gives (.timeTwPush org tag) (fun t =>
      (256 ≤ s.time.tw.length → t = (s.set (F.TIME_TW_STAT_LAST.of org) 1).set (F.TIME_TW_STAT_REJ.of org) 1) ∧
      (s.time.tw.length < 256 → (2 ^ 31 ≤ s.twSecs e ∨ s.twAt e < s.now + 200) →
        t = (s.set (F.TIME_TW_STAT_LAST.of org) 2).set (F.TIME_TW_STAT_REJ.of org) 1) ∧
      (s.time.tw.length < 256 → s.twSecs e < 2 ^ 31 → (s.now : Int) + 200 ≤ s.twAt e → twBadAddr e.addr = true →
        t = (s.set (F.TIME_TW_STAT_LAST.of org) 3).set (F.TIME_TW_STAT_REJ.of org) 1) ∧
      (s.time.tw.length < 256 → s.twSecs e < 2 ^ 31 → (s.now : Int) + 200 ≤ s.twAt e → twBadAddr e.addr = false →
        (∃ x y, s.time.tw = x ++ y ∧ t.time.tw = x ++ e :: y ∧
          (∀ z ∈ x, s.twAt z ≤ s.twAt e) ∧ (∀ z, y.head? = some z → s.twAt e < s.twAt z)) ∧
        t.get (F.TIME_TW_STAT_LAST.of org) = 0 ∧ t.mem = s.mem))) ∧
  (∀ (s : State) org tag, org < 18 → tag < 65536 → s.Awake →
    ((∀ e ∈ s.time.tw, e.tag ≠ tag) → s.twFiredNow tag = false →
      exec (.timeTwCancel org tag) s = .next (s.set (F.TIME_TW_STAT_CANCEL_MISS.of org) 1)) ∧
    (s.twFiredNow tag = true ∨ (∃ e ∈ s.time.tw, e.tag = tag ∧ s.twDue e = true) →
      s.Gives (.timeTwCancel org tag) (fun t =>
        t.on (F.TIME_TW_STAT_CANCEL_LATE.of org) = true ∧
        t.time.tw = (s.time.tw.filter (fun e => e.tag ≠ tag ∨ s.twDue e = true)).map
          (fun e => if e.tag = tag then { e with late := true } else e))) ∧
    (s.twFiredNow tag = false → (∃ e ∈ s.time.tw, e.tag = tag) →
      (∀ e ∈ s.time.tw, e.tag = tag → s.twDue e = false) → s.Gives (.timeTwCancel org tag) (fun t =>
        t.time.tw = s.time.tw.filter (fun e => e.tag ≠ tag)))) ∧
  (∀ (s : State) e r, s.time.tw = e :: r → s.Awake → s.gst ≠ .safeHold →
    (∀ k, s.toApply = some k → s.twAt e < (s.now + k : Nat)) →
    ∀ v, (v = s.advTo (s.twAt e).toNat ∨ (s.advTo (s.twAt e).toNat).twWaits e = true ∧
        v = (s.advTo (s.twAt e).toNat).pass ((s.advTo (s.twAt e).toNat).room 1)) →
      v.twWaits e = false →
      exec .timedWriteFire s = .next (({ v with time := { v.time with tw := r } }.twOverlap e).twWrite e
        (·.busW { a := e.addr, mask := e.mask, data := e.data, org := e.org, via := .direct })))

/-- Writing PEN starts the engine: PEN reads 1 and time does not move. An apply instant in CONFIG with
no role, no transaction, no timed write, no step that waits and no partner's instant to follow
opens period 0 where no engine ran, else the next period; the engine runs from then on, the offset
in the period starts at 0, the period takes the length that TIME_PERIOD holds, and station time
stands at the instant. (R36, R37, R39) -/
def Obligations.PeriodEngineRuns : Prop :=
  (∀ (s : State), s.Awake → s.Gives .periodEngineStart (fun t => t.on F.TIME_CTRL_PEN = true ∧
    t.time = s.time ∧ t.mem = s.mem)) ∧
  (∀ (s : State) k, s.Awake → s.gst = .config → s.role = .none → s.on F.DEV_STATE_RUN_PEND = false →
    s.host.txns = [] → s.time.tw = [] → s.time.step = none → s.time.align = none →
    s.toApply = some k →
    s.now + k < 2 ^ 64 * 1000000000 →
    s.Gives .applyInstant (fun t =>
      t.time.pidx = (if s.peRun then s.time.pidx + 1 else 0) ∧ t.peRun = true ∧ t.time.pofs = 0 ∧
      t.time.per = s.get F.TIME_PERIOD_STEPS * 10 ∧ t.now = s.now + k))

/-- A masked write of a field: an RW field, an RWL field in CONFIG and an RWT field under a
transaction take the data in the bits the mask names and keep the others, unless the value so
formed lies outside the range the tables allow, which leaves the field; a W1C field clears and a
W1S field sets exactly the bits where mask and data are 1; an RO or WO field, an RWL field outside
CONFIG and an RWT field under a direct write keep their value. No bit outside the field changes.
(R6, R352) -/
def Obligations.AccessCodesGovernWrites : Prop :=
  ∀ (f : FAcc) (config : Bool) (v : Via) (mask data old i : Nat), old < 2 ^ 32 → f.lo + f.w ≤ 32 →
    ∀ n : Nat, n = f.write config v mask data old →
    (i < f.lo ∨ f.lo + f.w ≤ i → n.testBit i = old.testBit i) ∧
    (f.acc = .RW ∨ (f.acc = .RWL ∧ config = true) ∨ (f.acc = .RWT ∧ v = .txn) → i < f.w →
      (f.min = 0 → f.max = 2 ^ f.w - 1 →
        n.testBit (f.lo + i) =
          (if mask.testBit (f.lo + i) then data.testBit (f.lo + i) else old.testBit (f.lo + i))) ∧
      (bits n f.lo f.w = bits old f.lo f.w ∨ (f.min ≤ bits n f.lo f.w ∧ bits n f.lo f.w ≤ f.max))) ∧
    (f.acc = .W1C → i < f.w → n.testBit (f.lo + i) =
      (old.testBit (f.lo + i) && !(mask.testBit (f.lo + i) && data.testBit (f.lo + i)))) ∧
    (f.acc = .W1S → i < f.w → n.testBit (f.lo + i) =
      (old.testBit (f.lo + i) || (mask.testBit (f.lo + i) && data.testBit (f.lo + i)))) ∧
    (f.acc = .RO ∨ f.acc = .WO ∨ (f.acc = .RWL ∧ config = false) ∨ (f.acc = .RWT ∧ v = .direct) →
      n = old)

/-- A write by the host is one direct write of all 32 bits at its offset. A write of SCHED_CFG changes
no register but that one; a write of shared SRAM outside the tables MOD reads there stores the
word; a write of Vesper memory or of a hole stores nothing. An access that is not an aligned
32-bit access is answered as an Unsupported Request, which AER notes, and changes nothing else;
one that is aligned is a read of its offset. A part in RESET answers no access. (R5, R6, R321,
R361, R476) -/
def Obligations.HostWritesAndBadAccesses : Prop :=
  (∀ (s : State) a data, s.Awake → a < 0x4000000 → a % 4 = 0 → data < 2 ^ 32 →
    exec (.registerWrite a data) s =
      .next (s.busW { a := a, mask := 0xFFFFFFFF, data := data, org := 0, via := .direct })) ∧
  (∀ (s : State) data, s.Awake → data < 2 ^ 32 → s.Gives (.registerWrite R.SCHED_CFG.addr data) (fun t =>
    RegsOnly [R.SCHED_CFG.addr] s t)) ∧
  (∀ (s : State) a data, s.Awake → sramBase ≤ a → a < sramBase + sramSize → a % 4 = 0 → data < 2 ^ 32 →
    s.inCt a = false → s.inDt a = false → s.get F.MEM_INJ_MODE = 0 →
    s.Gives (.registerWrite a data) (fun t => t.rd32 a = data ∧ t.regs = s.regs ∧
      ∀ q, q < a ∨ a + 4 ≤ q → memGet t.mem q = memGet s.mem q)) ∧
  (∀ (s : State) a data, s.Awake → (0x2800000 ≤ a ∧ a < 0x4000000) → a % 4 = 0 → data < 2 ^ 32 →
    exec (.registerWrite a data) s = .next s) ∧
  (∀ (s : State) a size, s.Awake → (a % 4 ≠ 0 ∨ size ≠ 4) →
    exec (.bar0BadAccess a size) s = .next ((s.aer aerUnsupported).emit (.bar0 0 false true))) ∧
  (∀ (s : State) a, s.Awake → a % 4 = 0 → exec (.bar0BadAccess a 4) s = .next (s.hostR a)) ∧
  (∀ (s : State) a data, s.dev.inReset = true → a < 0x4000000 → a % 4 = 0 → data < 2 ^ 32 →
    exec (.registerWrite a data) s = .next s)

/-- TRAIN takes a STRING or MIRROR lane from DISABLED to TRAIN with ATTEMPT 0 and its equaliser at the
snapshot, or without one, or with CTLE_FIX, at the set value. The end of the adaptation step, with
SYNC, takes the snapshot, enters HELLO and sends a HELLO of a fresh nonce, which HELLO_RESEND
repeats. The attempt timer moves to BACKOFF and counts the attempt, the ninth to ABSENT with
ABSENT_SEEN; the end of the backoff and the ABSENT retry start TRAIN again. A valid LINK reply to
the lane's own nonce brings a string lane UP with ATTEMPT 0. A synchronised string lane answers a
HELLO without ENUM by a LINK reply of its nonce. The loss of signal of an UP lane falls back to
TRAIN, sets LOS and counts the retrain. A frame goes after the SKPs of the fill before it and is
followed by one SKP. No other lane, and apart from the pair's link and the string's flags nothing
else, changes. (R82, R83, R89, R90, R92, R154) -/
def Obligations.LaneTrainingStates : Prop :=
  (∀ (s : State) l, l < 48 → s.Awake → (s.lrole l = .string ∨ s.lrole l = .mirror) → s.lst l = .disabled →
    s.Gives (.laneTrain l) (fun t => t.lst l = .train ∧
      t.get (F.LANE_STAT_ATTEMPT l) = 0 ∧
      t.get (F.LANE_RXEQ_CTLE_CUR l) =
        (if (s.lane l).snap = true ∧ s.on (F.LANE_RXEQ_CTLE_FIX l) = false then
          s.get (F.LANE_RXEQ_CTLE_SNAP l) else s.get (F.LANE_RXEQ_CTLE_SET l)) ∧
      LaneOnly l s t)) ∧
  (∀ (s : State) l, l < 48 → s.lst l = .train → s.on (F.LANE_STAT_SYNC l) = true → s.lrole l = .string →
    s.Gives (.trainAdaptDone l) (fun t => t.lst l = .hello ∧ (t.lane l).snap = true ∧
      t.get (F.LANE_RXEQ_CTLE_SNAP l) = s.get (F.LANE_RXEQ_CTLE_CUR l) ∧
      t.out = s.out ++ s.fillBefore l ++
        [.lane l (helloFrame 0 s.sideBit (s.lidx l) (t.lane l).nonce), .skp l] ∧
      LaneOnly l s t)) ∧
  (∀ (s : State) l, l < 48 → s.lst l = .hello → s.lrole l = .string →
    s.Gives (.helloResend l) (fun t => t.lst l = .hello ∧
      t.out = s.out ++ s.fillBefore l ++
        [.lane l (helloFrame 0 s.sideBit (s.lidx l) (t.lane l).nonce), .skp l] ∧
      LaneOnly l s t)) ∧
  (∀ (s : State) l, l < 48 → (s.lst l = .train ∨ s.lst l = .hello) → s.Gives (.trainAttemptTimeout l) (fun t =>
    (s.get (F.LANE_STAT_ATTEMPT l) < 8 → t.lst l = .backoff ∧
      t.get (F.LANE_STAT_ATTEMPT l) = s.get (F.LANE_STAT_ATTEMPT l) + 1 ∧
      (t.lane l).backoff = 2 ^ s.get (F.LANE_STAT_ATTEMPT l)) ∧
    (8 ≤ s.get (F.LANE_STAT_ATTEMPT l) → t.lst l = .absent ∧
      t.on (F.LANE_STAT_ABSENT_SEEN l) = true) ∧ LaneOnly l s t)) ∧
  (∀ (s : State) l, l < 48 → s.lst l = .backoff → s.Gives (.backoffExpiry l) (fun t => t.lst l = .train ∧
    t.get (F.LANE_STAT_ATTEMPT l) = s.get (F.LANE_STAT_ATTEMPT l) ∧ LaneOnly l s t)) ∧
  (∀ (s : State) l, l < 48 → s.lst l = .absent → s.Gives (.absentRetry l) (fun t => t.lst l = .train ∧
    LaneOnly l s t)) ∧
  (∀ (s : State) l f, l < 48 → s.lrole l = .string → (s.lane l).hurt = [] → s.linkReplyOk l f = true →
    s.Gives (.laneHelloReply l f) (fun t => t.lst l = .up ∧ t.get (F.LANE_STAT_ATTEMPT l) = 0 ∧
      t.mem = s.mem)) ∧
  (∀ (s : State) l f, l < 48 → s.lrole l = .string → (s.lane l).hurt = [] → s.on (F.LANE_STAT_SYNC l) = true →
    s.lst l ≠ .disabled → strFrameOk 2 12 f = true → (fieldLE f 1 1).testBit 0 = false →
    s.Gives (.laneHelloReceive l f) (fun t => LaneOnly l s t ∧ t.regs = s.regs ∧
      t.out = s.out ++ s.fillBefore l ++ [.lane l (devReply 4 (fieldLE f 4 4)), .skp l])) ∧
  (∀ (s : State) l, l < 48 → s.lrole l = .string → s.lst l = .up → s.Gives (.laneLos l true) (fun t =>
    t.lst l = .train ∧ t.on (F.LANE_STAT_LOS l) = true ∧ t.on (F.LANE_STAT_SYNC l) = false ∧
    t.get (F.LANE_STAT_ATTEMPT l) = 0 ∧
    t.get (F.LANE_ADAPT_CNT_RETRAINS l) = satInc 16 (s.get (F.LANE_ADAPT_CNT_RETRAINS l)) ∧
    ∃ v, LaneOnly l v t ∧ (v = s ∨ v = s.set (F.STR_BLK_G_TX (s.lidx l)) 0))) ∧
  (∀ (s : State) l, l < 48 → s.lrole l = .string → s.lst l = .up → s.on (F.LANE_STAT_SYNC l) = true →
    exec (.laneLos l false) s = .next s)

/-- Acquisition from a peer of the lane's rate sets SYNC with a score of 0. A code group that no
character has at its running disparity is a code error, which counts in CODE_ERR; with SYNC set it
also scores 1 after one for every 64 error-free characters has been taken off, and a score of 4
clears SYNC, from UP with a return to TRAIN and LOS. A code group that a character has changes
nothing. A SKP of 1 to 5 K28.0 brings the fill of the elastic buffer toward 4 by at most two
characters, or re-centres it after an error. An overflow or an underflow sets EB_ERR, counts in
its own counter and re-centres at the next SKP. Only the lane changes, and the pair's link where a
mirror lane loses SYNC. (R69, R71, R72, R74, R75, R77) -/
def Obligations.LaneCodingAndRateMatching : Prop :=
  (∀ (s : State) l, l < 48 → s.lrole l ≠ .none →
    s.Gives (.laneSyncAcquire ⟨l, s.get (F.LANE_CFG_RATE l)⟩) (fun t =>
      t.on (F.LANE_STAT_SYNC l) = true ∧ (t.lane l).score = 0 ∧ LaneOnly l s t)) ∧
  (∀ (s : State) l rate, l < 48 → rate ≠ s.get (F.LANE_CFG_RATE l) →
    exec (.laneSyncAcquire ⟨l, rate⟩) s = .next s) ∧
  (∀ (s : State) l gap rd code pos, l < 48 → dec10 rd code ≠ none →
    exec (.laneCodeError l ⟨gap, rd, code, pos⟩) s = .next s) ∧
  (∀ (s : State) l gap rd code pos, l < 48 → s.lrole l ≠ .none → dec10 rd code = none →
    s.Gives (.laneCodeError l ⟨gap, rd, code, pos⟩) (fun t =>
    t.get (R.LANE_CODE_ERR l) = satInc 32 (s.get (R.LANE_CODE_ERR l)) ∧
    (s.lst l ≠ .up → s.lrole l ≠ .mirror → LaneOnly l s t) ∧
    (s.on (F.LANE_STAT_SYNC l) = true →
      (3 ≤ (s.lane l).score - ((s.lane l).good + gap) / 64 → t.on (F.LANE_STAT_SYNC l) = false ∧
        (s.lst l = .up → s.lrole l = .string → t.lst l = .train ∧ t.on (F.LANE_STAT_LOS l) = true)) ∧
      ((s.lane l).score - ((s.lane l).good + gap) / 64 < 3 → t.on (F.LANE_STAT_SYNC l) = true ∧
        (t.lane l).score = (s.lane l).score - ((s.lane l).good + gap) / 64 + 1)))) ∧
  (∀ (s : State) l n fill, l < 48 → (s.lrole l = .none ∨ n < 1 ∨ 5 < n) →
    exec (.skpReceive l n fill) s = .next s) ∧
  (∀ (s : State) l n fill, l < 48 → s.lrole l ≠ .none → 1 ≤ n → n ≤ 5 →
    s.Gives (.skpReceive l n fill) (fun t => LaneOnly l s t ∧
    t.regs = s.regs ∧ (t.lane l).recentre = false ∧
    ((s.lane l).recentre = true → (t.lane l).fill = 4) ∧
    ((s.lane l).recentre = false → 3 ≤ fill → fill ≤ 5 → (t.lane l).fill = fill) ∧
    ((s.lane l).recentre = false → 5 < fill → fill ≤ (t.lane l).fill + 2 ∧ 4 ≤ (t.lane l).fill ∧
      (t.lane l).fill ≤ fill) ∧
    ((s.lane l).recentre = false → fill < 3 → (t.lane l).fill ≤ fill + 2 ∧ (t.lane l).fill ≤ 4 ∧
      fill ≤ (t.lane l).fill))) ∧
  (∀ (s : State) l ovf pos, l < 48 → s.lrole l = .none → exec (.elasticBufferError l ⟨ovf, pos⟩) s = .next s) ∧
  (∀ (s : State) l ovf pos, l < 48 → s.lrole l ≠ .none →
    s.Gives (.elasticBufferError l ⟨ovf, pos⟩) (fun t => LaneOnly l s t ∧
    t.on (F.LANE_STAT_EB_ERR l) = true ∧ (t.lane l).recentre = true ∧
    t.get (F.LANE_EB_CNT_OVF l) =
      (if ovf then satInc 16 (s.get (F.LANE_EB_CNT_OVF l)) else s.get (F.LANE_EB_CNT_OVF l)) ∧
    t.get (F.LANE_EB_CNT_UNF l) =
      (if ovf then s.get (F.LANE_EB_CNT_UNF l) else satInc 16 (s.get (F.LANE_EB_CNT_UNF l)))))

/-- In CONFIG a LANE_CFG write that changes ROLE or RATE takes the lane to DISABLED (TEST with role
TEST) and clears its coefficients; a LANE_TXEQ write beyond a limit of R78 leaves the register and
sets EQ_REJ, one inside the limits is taken. An adaptation update outside the guard's reach moves
CTLE by one step toward its sign, inside 0 to 15. 64 IDLE sets freeze the adaptation of a
synchronised lane outside DISABLED, and 256 frame characters resume it unless the guard froze it.
The checker of a TEST lane locks on 256 error-free bits after its seed, counts errors and bits
while locked, loses its lock with LOCK_LOST, latches its bit count at a read of the errors and
clears both at CLR. (R78, R79, R81, R82, R84, R88, R89, R94, R95, R96) -/
def Obligations.LaneAdaptationAndTests : Prop :=
  (∀ (s : State) l data, l < 48 → s.Awake → s.gst = .config → data < 2 ^ 32 →
    bits data 0 4 ≠ bits (s.word (R.LANE_CFG l)) 0 4 →
    s.Gives (.laneCfgWrite l data) (fun t => t.get (F.LANE_CFG_ROLE l) = data % 4 ∧
      t.lst l = (if data % 4 = 3 then .test else .disabled) ∧ t.get (F.LANE_RXEQ_CTLE_CUR l) = 0 ∧
      t.get (R.LANE_DFE l) = 0 ∧ t.on (F.LANE_STAT_SYNC l) = false)) ∧
  (∀ (s : State) l data, l < 48 → s.Awake → s.gst = .config → data < 2 ^ 14 →
    ((bits data 4 5 ≤ 16 ∧ bits data 9 5 ≤ 24 ∧ bits data 4 5 + bits data 9 5 ≤ 32) →
      s.Gives (.laneTxeqWrite l data) (fun t => t.get (R.LANE_TXEQ l) % 2 ^ 14 = data ∧
        RegsOnly [(R.LANE_TXEQ l).addr] s t)) ∧
    (¬(bits data 4 5 ≤ 16 ∧ bits data 9 5 ≤ 24 ∧ bits data 4 5 + bits data 9 5 ≤ 32) →
      exec (.laneTxeqWrite l data) s = .next (s.set (F.LANE_STAT_EQ_REJ l) 1))) ∧
  (∀ (s : State) l ctle taps, l < 48 → s.adapting l = true → s.on (F.LANE_RXEQ_CTLE_FIX l) = false →
    (s.lane l).snap = false → s.Gives (.adaptUpdate l ctle taps) (fun t => LaneOnly l s t ∧
      (t.get (F.LANE_RXEQ_CTLE_CUR l) : Int) =
        max 0 (min 15 ((s.get (F.LANE_RXEQ_CTLE_CUR l) : Int) + ctle.sign)))) ∧
  (∀ (s : State) l, l < 48 → s.lrole l ≠ .none → s.on (F.LANE_STAT_SYNC l) = true → s.lst l ≠ .disabled →
    s.Gives (.adaptFreeze l) (fun t => t.on (F.LANE_STAT_FROZEN l) = true ∧ LaneOnly l s t)) ∧
  (∀ (s : State) l, l < 48 → s.on (F.LANE_STAT_FROZEN l) = true →
    ((s.lane l).guard = false → s.Gives (.adaptResume l) (fun t =>
      t.on (F.LANE_STAT_FROZEN l) = false ∧ LaneOnly l s t)) ∧
    ((s.lane l).guard = true → exec (.adaptResume l) s = .next s)) ∧
  (∀ (s : State) l rx, l < 48 → s.chkOn l = true →
    (s.chkRun l (bitsOf rx) = true → exec (.prbsLock ⟨l, rx⟩) s =
      .next ((s.farEnd l (bitsOf rx)).set (F.LANE_PRBS_STAT_LOCK l) 1)) ∧
    (s.chkRun l (bitsOf rx) = false → exec (.prbsLock ⟨l, rx⟩) s = .next (s.farEnd l (bitsOf rx)))) ∧
  (∀ (s : State) l n errs, l < 48 → s.chkOn l = true → s.on (F.LANE_PRBS_STAT_LOCK l) = true →
    s.nearEnd l = false → 64 ≤ errs → errs ≤ n →
    s.Gives (.prbsLockLost l n errs) (fun t => t.on (F.LANE_PRBS_STAT_LOCK l) = false ∧
      t.on (F.LANE_PRBS_STAT_LOCK_LOST l) = true ∧ LaneOnly l s t ∧
      t.get (R.LANE_PRBS_ERR l) = min (s.get (R.LANE_PRBS_ERR l) + errs) (2 ^ 32 - 1))) ∧
  (∀ (s : State) l n errs, l < 48 → s.Awake → s.chkOn l = true → s.on (F.LANE_PRBS_STAT_LOCK l) = true →
    s.nearEnd l = false →
    (s.lane l).bits + n < 2 ^ 64 → s.Gives (.prbsErrRead l n errs) (fun t =>
      t.get (R.LANE_PRBS_ERR l) = min (s.get (R.LANE_PRBS_ERR l) + errs) (2 ^ 32 - 1) ∧
      t.get (R.LANE_PRBS_BITS_LO l) = ((s.lane l).bits + n) % 2 ^ 32 ∧
      t.get (R.LANE_PRBS_BITS_HI l) = ((s.lane l).bits + n) / 2 ^ 32 ∧
      t.out = s.out ++ [.bar0 (t.get (R.LANE_PRBS_ERR l)) false false])) ∧
  (∀ (s : State) l, l < 48 → s.Awake → s.Gives (.prbsClr l) (fun t => t.get (R.LANE_PRBS_ERR l) = 0 ∧
    (t.lane l).bits = 0 ∧ LaneOnly l s t))

/-- ENUM on a LIVE or FAILED string of a READY holder whose lane is UP, and ENUM_START on every IDLE
one in a lock group, begin an enumeration: state ENUM, a new MAP_ID, no frets. A LIVE string takes
REENUM; the wrong state sets CMD_IGN. A valid reply of a cell adds a fret and sends its
provisional ASSIGN; the partner's reply sets FAR to 1; a reply that is not valid has no effect. No
reply sets SHORT and starts the ECHOs. A good ACK of the provisional ASSIGN sends the next HELLO;
a final ASSIGN without ACK is repeated twice, then the string is FAILED with code 5 and the fret.
A returned ECHO stores the round trip and goes on to the next fret; a lost one is repeated twice.
(Frames are those in whose reception no character was lost or spoilt.) (R107, R114, R116, R117,
R121, R150, R154) -/
def Obligations.StringEnumeration : Prop :=
  (∀ (s : State) n, n < 44 → s.Awake → (s.sst n = .live ∨ s.sst n = .failed) → s.enumReady n = true →
    s.Gives (.enum n) (fun t => t.sst n = .enum ∧ (t.str n).phase = .hello ∧ (t.str n).frets = [] ∧
      t.get (F.STR_ENUM_MAP_ID n) = (s.str n).lastMap % 255 + 1)) ∧
  (∀ (s : State) n, n < 44 → s.Awake → (s.sst n = .idle ∨ s.sst n = .watch) →
    s.Gives (.enum n) (fun t => t.on (F.STR_STAT_CMD_IGN n) = true ∧ t.sst n = s.sst n)) ∧
  (∀ (s : State), s.Gives .enumStart (fun t => ∀ n, n < 44 →
    (s.sst n = .idle → (s.strGrp? n).isSome = true → s.enumReady n = true → t.sst n = .enum) ∧
    (s.sst n ≠ .idle → t.sst n = s.sst n))) ∧
  (∀ (s : State) n, n < 44 → s.Awake → s.sst n = .live → s.live = true → (s.str n).phase = .none →
    s.Gives (.reenum n) (fun t => t.on (F.STR_CTRL_REENUM n) = true ∧ (t.str n).phase = .reHello ∧
      t.sst n = .live)) ∧
  (∀ (s : State) n f, n < 44 → s.Unhurt n → (s.str n).phase = .hello →
    (s.enumReplyOk n f = false → exec (.enumReplyReceive n f) s = .next s) ∧
    (s.enumReplyOk n f = true → fieldLE f 1 1 = 1 → (s.str n).frets.length < s.fmax →
      s.Gives (.enumReplyReceive n f) (fun t => (t.str n).phase = .prov ∧
        (t.str n).frets = (s.str n).frets ++ [(s.newFret n f).1] ∧
        (t.str n).k = (s.str n).frets.length)) ∧
    (s.enumReplyOk n f = true → fieldLE f 1 1 = 2 → s.Gives (.enumReplyReceive n f) (fun t =>
      t.get (F.STR_STAT_FAR n) = 1 ∧ (t.str n).frets = (s.str n).frets))) ∧
  (∀ (s : State) n, n < 44 → (s.str n).phase = .hello → s.Gives (.enumReplyTimeout n) (fun t =>
    t.on (F.STR_STAT_SHORT n) = true ∧
    (t.str n).phase = (if (s.str n).frets = [] then .echoEnd 1 else .echo 1))) ∧
  (∀ (s : State) n f, n < 44 → s.Unhurt n → (s.str n).phase = .prov → s.ackFor n (s.str n).k 0 f = true →
    fieldLE f 3 1 = 0 → s.Gives (.ackReceive n f) (fun t => (t.str n).phase = .hello ∧
      (t.str n).frets = (s.str n).frets)) ∧
  (∀ (s : State) n i, n < 44 → (s.str n).phase = .final i →
    (i < 3 → s.Gives (.ackTimeout n) (fun t => (t.str n).phase = .final (i + 1))) ∧
    (3 ≤ i → s.Gives (.ackTimeout n) (fun t => t.sst n = .failed ∧ t.get (F.STR_CHK_CODE n) = 5 ∧
      t.get (F.STR_CHK_FRET n) = (s.str n).k % 256))) ∧
  (∀ (s : State) n i half, n < 44 → s.Unhurt n → (s.str n).phase = .echo i →
    (s.str n).k < 256 → (s.str n).nonce < 2 ^ 32 →
    (s.str n).k + 1 < (s.str n).frets.length → s.Gives
      (.enumEchoReturn n (s.echoFrame (s.str n).k (s.str n).nonce) half) (fun t =>
        (t.str n).phase = .echo 1 ∧ (t.str n).k = (s.str n).k + 1 ∧
        (nth (t.str n).frets {} (s.str n).k).rt = 2 * half)) ∧
  (∀ (s : State) n i, n < 44 → (s.str n).phase = .echo i →
    (i < 3 → s.Gives (.enumEchoTimeout n) (fun t => (t.str n).phase = .echo (i + 1))) ∧
    (3 ≤ i → s.Gives (.enumEchoTimeout n) (fun t => (t.str n).phase = .echoEnd 1 ∧
      t.on (F.STR_STAT_SHORT n) = true ∧ (t.str n).frets = (s.str n).frets.take (s.str n).k)))

/-- The bow of a group acts at its LAUNCH_OFS once in a period: a stroke leaves on the lane of every
string that the group launches, and is noted as in flight; where the group does not act nothing
happens. A stroke's return takes the oldest flight of its string and counts a bad CRC or length;
NOHOME takes it and counts a lost stroke. A string that the device does not launch on and does not
relay sends a received stroke back, and a WATCH string notes its period. A changed BLK request of
a string whose lane is UP goes out, its mask is shown; a valid BLK joins G_RX, a BLK with a bad
fourth character counts BLKERR. A HELLO with ENUM 0 is answered by a LINK reply, one with ENUM 1
by an END_PARTNER reply, the partner's ECHO to the end returns unchanged; nothing but the lane
changes. (R43, R91, R106, R107, R112, R133, R135, R140, R141, R144) -/
def Obligations.StrokesBlocksAndReturns : Prop :=
  (∀ (s : State) g n l, g < 8 → n < 44 → s.live = true → s.holder = true → s.lgActs g = true →
    s.get (F.TIME_LG_OFS1_LAUNCH_OFS g) < s.P → (Line.code .bow, g) ∉ s.time.acted →
    s.strLane? n = some l → s.strGoes g n = true → (s.str n).mapWait = false →
    s.Gives (.bow g) (fun t => ∃ f k, Out.stroke l f ∈ t.out ∧
      (t.str n).flights = (s.str n).flights ++ [⟨s.time.pidx, k⟩])) ∧
  (∀ (s : State) g, g < 8 → (s.strokes = false ∨ s.lgActs g = false) → exec (.bow g) s = .next s) ∧
  (∀ (s : State) n f fl rest, n < 44 → s.Unhurt n → s.sst n ≠ .watch → (s.str n).flights = fl :: rest →
    s.Gives (.strokeReturn n f) (fun t => (t.str n).flights = rest ∧
      ((strokeCrcOk (s.str n).frets f && decide (f.length = fl.len)) = false →
        t.get (R.STR_CNT_RETCRC n) = satInc 32 (s.get (R.STR_CNT_RETCRC n))))) ∧
  (∀ (s : State) n fl rest, n < 44 → (s.str n).flights = fl :: rest → ∀ x, x = { s.str n with flights := rest } →
    exec (.strokeNohome n) s = .next ((s.setStr n x).inc (R.STR_CNT_NOHOME n))) ∧
  (∀ (s : State) l f, l < 48 → s.lrole l = .string → s.lidx l < 44 → s.lst l = .up → (s.lane l).hurt = [] →
    s.strBows (s.lidx l) = false → (s.str (s.lidx l)).relayOn = none →
    s.Gives (.strokeReflect l f) (fun t => Out.stroke l f ∈ t.out ∧
      (s.sst (s.lidx l) = .watch → (t.str (s.lidx l)).seen = some (fieldLE f 2 4)))) ∧
  (∀ (s : State), s.Gives .blkInject (fun t => ∀ n l, n < 44 → s.strLane? n = some l → s.lst l = .up →
    s.blkReq n ≠ s.get (F.STR_BLK_G_TX n) → s.blkReq n ≠ 0 →
    t.get (F.STR_BLK_G_TX n) = s.blkReq n % 256 ∧ Out.blk l (s.blkReq n) ∈ t.out)) ∧
  (∀ (s : State) l g fourth, l < 48 → g < 256 → fourth < 256 → s.lrole l = .string → s.lidx l < 44 →
    (g ≠ 0 → fourth = 255 - g → exec (.blkReceive l g fourth) s = .next (s.set
      (F.STR_BLK_G_RX (s.lidx l)) (s.get (F.STR_BLK_G_RX (s.lidx l)) ||| g))) ∧
    ((g = 0 ∨ fourth ≠ 255 - g) → exec (.blkReceive l g fourth) s =
      .next (s.inc (R.STR_CNT_BLKERR (s.lidx l))))) ∧
  (∀ (s : State) l f, l < 48 → s.lrole l = .string → (s.lane l).hurt = [] →
    s.on (F.LANE_STAT_SYNC l) = true → s.lst l ≠ .disabled → strFrameOk 2 12 f = true →
    (bit (fieldLE f 1 1) 0 = false → s.Gives (.laneHelloReceive l f) (fun t => LaneOnly l s t ∧
      t.out = s.out ++ s.fillBefore l ++ [.lane l (devReply 4 (fieldLE f 4 4)), .skp l])) ∧
    (bit (fieldLE f 1 1) 0 = true → s.Gives (.laneEnumHelloReceive l f) (fun t => LaneOnly l s t ∧
      t.out = s.out ++ s.fillBefore l ++ [.lane l (devReply 2 (fieldLE f 4 4)), .skp l]))) ∧
  (∀ (s : State) l f, l < 48 → s.lrole l = .string → (s.lane l).hurt = [] → s.lst l = .up →
    strFrameOk 6 12 f = true → fieldLE f 2 1 = 0xFF → bit (fieldLE f 1 1) 1 ≠ s.straps.side →
    s.Gives (.laneEchoReceive l f) (fun t => LaneOnly l s t ∧
      t.out = s.out ++ s.fillBefore l ++ [.lane l f, .skp l]))

/-- A HELLO without ENUM is answered at once (KIND 4); with ENUM an unassigned cell replies (KIND 1),
any other forwards it, or at the string end replies for it (KIND 3). An unassigned cell whose UID
fits takes a provisional ASSIGN (MAP 0, ADDR 0) and acknowledges it; a provisional one takes a
final ASSIGN of its fret with an authority that is not stale, every field of it, and acknowledges
with status 0; where it must refuse the fields it stays as it was and the ACK carries why. An
ASSIGN for another UID goes on. An ECHO to the cell's own fret comes back at its port, one to
another goes on. A RELEASE with an authority that is not stale leaves the cell unassigned and
blocked, and goes on. Ports come up and are lost, the loss marking the link degraded. Each changes
no other cell and nothing else in the part. (R99, R100, R106, R107, R110, R111, R112, R113, R137) -/
def Obligations.CellsEnumerate : Prop :=
  (∀ (s : State) c p f, c < Config.cells → p < 2 → strFrameOk 2 12 f = true →
    (bit (fieldLE f 1 1) 0 = false → exec (.cellHello c p f) s =
      .next (s.emit (.cell c p ((s.cell c).reply 4 (fieldLE f 4 4))))) ∧
    (bit (fieldLE f 1 1) 0 = true → (s.cell c).st = .unassigned → exec (.cellHello c p f) s =
      .next (s.emit (.cell c p ((s.cell c).reply 1 (fieldLE f 4 4))))) ∧
    (bit (fieldLE f 1 1) 0 = true → (s.cell c).st ≠ .unassigned → (s.cell c).up (1 - p) = true →
      exec (.cellHello c p f) s = .next (s.emit (.cell c (1 - p) f))) ∧
    (bit (fieldLE f 1 1) 0 = true → (s.cell c).st ≠ .unassigned → (s.cell c).up (1 - p) = false →
      exec (.cellHello c p f) s = .next (s.emit (.cell c p ((s.cell c).reply 3 (fieldLE f 4 4)))))) ∧
  (∀ (s : State) c p f, c < Config.cells → p < 2 → strFrameOk 4 40 f = true →
    (fieldLE f 28 8 ≠ (s.cell c).uid → (s.cell c).up (1 - p) = true →
      exec (.cellAssign c p f) s = .next (s.emit (.cell c (1 - p) f))) ∧
    (fieldLE f 28 8 = (s.cell c).uid → (s.cell c).st = .unassigned → fieldLE f 1 1 = 0 →
      bit (fieldLE f 3 1) 0 = false → s.Gives (.cellAssign c p f) (fun t => CellOnly c s t ∧
        t.out = s.out ++ [.cell c p (cellAck 0 (fieldLE f 5 1) 0 (s.cell c).uid)] ∧
        t.cell c = { s.cell c with st := .provisional, fret := fieldLE f 5 1, provSide := bit (fieldLE f 3 1) 1, portA := if bit (fieldLE f 3 1) 1 then 1 - p else p })) ∧
    (fieldLE f 28 8 = (s.cell c).uid → (s.cell c).st = .provisional → fieldLE f 1 1 ≠ 0 →
      bit (fieldLE f 3 1) 0 = true → fieldLE f 5 1 = (s.cell c).fret →
      (s.cell c).authClass (bit (fieldLE f 3 1) 1) (fieldLE f 4 1) ≠ .stale →
      s.Gives (.cellAssign c p f) (fun t => CellOnly c s t ∧
        t.out = s.out ++ [.cell c p (cellAck (fieldLE f 1 1) (fieldLE f 5 1) ((s.cell c).refuse f true) (s.cell c).uid)] ∧
        ((s.cell c).refuse f true ≠ 0 → t.cell c = s.cell c) ∧
        ((s.cell c).refuse f true = 0 → (t.cell c).st = .assigned ∧
          (t.cell c).auth = some (bit (fieldLE f 3 1) 1, fieldLE f 4 1) ∧
          (t.cell c).mapId = fieldLE f 1 1 ∧ (t.cell c).ver = fieldLE f 2 1 ∧
          (t.cell c).cid = fieldLE f 8 2 ∧ (t.cell c).fretA = fieldLE f 6 1 ∧
          (t.cell c).fretB = fieldLE f 7 1 ∧ (t.cell c).leadA = fieldLE f 18 2 ∧
          (t.cell c).leadB = fieldLE f 20 2 ∧ (t.cell c).per = fieldLE f 22 2 ∧
          (t.cell c).hold = fieldLE f 26 1 ∧ (t.cell c).string = fieldLE f 27 1 ∧
          (t.cell c).dual = false)))) ∧
  (∀ (s : State) c p f, c < Config.cells → p < 2 → strFrameOk 6 12 f = true → fieldLE f 2 1 ≠ 0xFF →
    ((s.cell c).fretOf (bit (fieldLE f 1 1) 1) = some (fieldLE f 2 1) →
      exec (.cellEcho c p f) s = .next (s.emit (.cell c p f))) ∧
    ((s.cell c).fretOf (bit (fieldLE f 1 1) 1) ≠ some (fieldLE f 2 1) →
      (s.cell c).up (1 - p) = true → exec (.cellEcho c p f) s = .next (s.emit (.cell c (1 - p) f)))) ∧
  (∀ (s : State) c p f, c < Config.cells → p < 2 → strFrameOk 7 8 f = true →
    (s.cell c).authClass (bit (fieldLE f 1 1) 1) (fieldLE f 2 1) ≠ .stale →
    s.Gives (.cellRelease c p f) (fun t => CellOnly c s t ∧ (t.cell c).st = .unassigned ∧
      (t.cell c).auth = none ∧ (t.cell c).init = 3 ∧ (t.cell c).on = 3 ∧ (t.cell c).cmd = none ∧
      t.out = s.out ++ (if (s.cell c).up (1 - p) then [.cell c (1 - p) f] else []))) ∧
  (∀ (s : State) c p, c < Config.cells → p < 2 →
    s.Gives (.cellPortUp c p) (fun t => CellOnly c s t ∧ (t.cell c).up p = true ∧
      (t.cell c).up (1 - p) = (s.cell c).up (1 - p) ∧ t.out = s.out) ∧
    s.Gives (.cellPortLoss c p) (fun t => CellOnly c s t ∧ (t.cell c).up p = false ∧
      (t.cell c).linkDeg = true ∧ (t.cell c).up (1 - p) = (s.cell c).up (1 - p) ∧ t.out = s.out))

/-- A stroke of another map, or at a cell not assigned, goes on unchanged. A stroke of its map, from
the side it comes from, leaves with the cell's telemetry record in its slot and every other byte
as it came; a valid record of the current authority that comes in time is held for the apply
instant. A stroke of the other side less than a period after one latches DUAL and blocks. At the
apply instant that the cell has placed (time moves on to it) the held command goes into effect,
INSERT_NEG on a half-bridge cell blocks and is flagged; with none held the last one stays for HOLD
periods, then the cell blocks. A valid BLK blocks the cell for two periods and goes on, any other
has no effect. After 100 ms without its authority's strokes a cell has none. (R125, R126, R128,
R130, R132, R134, R137, R138, R139, R140, R143, R405) -/
def Obligations.CellsTakeStrokesAndBlocks : Prop :=
  (∀ (s : State) c p f m, c < Config.cells → p < 2 → ((s.cell c).st ≠ .assigned ∨ f.length < 20) →
    exec (.cellStroke c p f m) s =
      .next (s.emit (.cell c (if (s.cell c).up (1 - p) then 1 - p else p) f))) ∧
  (∀ (s : State) c p f m x side, c < Config.cells → p < 2 → x = s.cell c → side = bit (fieldLE f 11 1) 0 →
    x.st = .assigned → x.ver = 1 → 20 ≤ f.length → bit (fieldLE f 14 2) 0 = false → x.faces p = side →
    s.Gives (.cellStroke c p f m) (fun t => CellOnly c s t ∧ ∃ g,
      t.out = s.out ++ [.cell c (if x.up (1 - p) then 1 - p else p) g] ∧ g.length = f.length ∧
      (fieldLE f 1 1 ≠ x.mapId → g = f ∧ (t.cell c).cmd = x.cmd) ∧
      (∀ i, (i < (if side then x.telB else x.telA) ∨ (if side then x.telB else x.telA) + 8 ≤ i) →
        nth g 0 i = nth f 0 i) ∧
      (fieldLE f 1 1 = x.mapId → (if side then x.telB else x.telA) + 8 ≤ f.length →
        fieldLE g (if side then x.telB else x.telA) 2 = m.vcap % 65536 ∧
        (t.cell c).crcErr = false ∧ (t.cell c).linkDeg = false) ∧
      (∀ e lead, fieldLE f 1 1 = x.mapId → x.dual = false → (x.lastStart = none ∨ side = x.runSide) →
        cmdEnd f ((if side then x.cmdB else x.cmdA) + 6) ((if side then x.telB else x.telA) - 4) = some e →
        fieldLE f 0 1 = 1 → fieldLE f 12 1 = x.string → x.auth = some (side, fieldLE f 10 1) →
        recordOk (parseCmd (slice f (if side then x.cmdB else x.cmdA) 6)) x.per = true →
        lead = (if x.faces p then x.leadB else x.leadA) → lead ≠ 0xFFFF →
        (e + 5) * s.tChar ((s.strLane? x.string).getD 0) + x.lead ≤ lead →
        fieldLE f 2 4 ∉ x.applied →
        (t.cell c).cmd = some (slice f (if side then x.cmdB else x.cmdA) 6, fieldLE f 2 4)) ∧
      (∀ q, x.lastStart = some q → side ≠ x.runSide → s.elapsed - q < x.per →
        (t.cell c).dual = true ∧ (t.cell c).init = 3 ∧ (t.cell c).on = 3))) ∧
  (∀ (s : State) c u, c < Config.cells → (s.cell c).st = .assigned → (s.cell c).dual = false →
    (s.cell c).blkUntil = none → (s.cell c).ver = 1 → u = s.toCell c →
    s.Gives (.cellApplyInstant c) (fun t => CellOnly c u t ∧ t.out = u.out ∧
      (t.cell c).dueAt = some (u.elapsed + (s.cell c).per) ∧
      (∀ b p, (s.cell c).cmd = some (b, p) → (t.cell c).cmd = none ∧ (t.cell c).misses = 0 ∧
        p ∈ (t.cell c).applied ∧
        (((s.cell c).fb = true ∨ ((parseCmd b).init ≠ 2 ∧ (parseCmd b).on ≠ 2)) →
          (t.cell c).init = (parseCmd b).init ∧ (t.cell c).on = (parseCmd b).on ∧
          (t.cell c).tog1 = (parseCmd b).tog1 ∧ (t.cell c).tog2 = (parseCmd b).tog2) ∧
        ((s.cell c).fb = false → ((parseCmd b).init = 2 ∨ (parseCmd b).on = 2) →
          (t.cell c).init = 3 ∧ (t.cell c).on = 3 ∧ (t.cell c).negF = true)) ∧
      ((s.cell c).cmd = none → (t.cell c).misses = min ((s.cell c).misses + 1) 9 ∧
        (t.cell c).holdF = true ∧ ((s.cell c).hold ≤ (s.cell c).misses → (s.cell c).hold ≤ 8 →
          (t.cell c).init = 3 ∧ (t.cell c).on = 3)))) ∧
  (∀ (s : State) c p g fourth, c < Config.cells → p < 2 → g < 256 → fourth < 256 →
    (g ≠ 0 → fourth = 255 - g → s.Gives (.cellBlk c p g fourth) (fun t => CellOnly c s t ∧
      t.cell c = { (s.cell c).blockNow with blkUntil := some (s.elapsed + 2 * (s.cell c).per) } ∧
      t.out = s.out ++ (if (s.cell c).up (1 - p) then [.cellBlk c (1 - p) g] else []))) ∧
    ((g = 0 ∨ fourth ≠ 255 - g) → exec (.cellBlk c p g fourth) s = .next s)) ∧
  (∀ (s : State) c, c < Config.cells → s.Gives (.cellAuthTimeout c) (fun t => CellOnly c s t ∧
    t.cell c = { s.cell c with auth := none } ∧ t.out = s.out))

/-- A write of 1 to the counter-clear register of a block, or the counter-clear command of SAFE, LOGIC
and ADC, brings exactly the counters of that block to 0; every other register and everything else
in the state stay. SCHED's also clears the cycles its sources have used in the window and the
high-water marks of levels and spill rings, and leaves what waits. (R56, 03_lanes.md,
04_strings.md, 05_cell_table_and_observer.md, 06_arm_modulation.md, 09_work_scheduler.md,
11_host_rings.md, 12_memory_and_faults.md, 13_pair.md, 14_safety_island.md, 15_station_logic.md,
19_can.md) -/
def Obligations.CounterClears : Prop :=
  ∀ s : State, s.Awake →
    s.Clears .timeCntClr (R.TIME_CENG_LATE_CNT :: (List.range 6).map R.TIME_LATE_CNT) ∧
    (∀ l, l < 48 → s.Clears (.laneCntClr l) [R.LANE_CODE_ERR l, R.LANE_EB_CNT l, R.LANE_ADAPT_CNT l]) ∧
    (∀ n, n < 44 → s.Clears (.strCntClr n) [R.STR_CNT_LAUNCH n, R.STR_CNT_RETCRC n, R.STR_CNT_NOHOME n,
      R.STR_CNT_TELCRC n, R.STR_CNT_EMPTY n, R.STR_CNT_BLKERR n, R.STR_CNT_RELAY n]) ∧
    s.Clears .modCntClr [R.MOD_CNT_OUTLIER, R.MOD_CNT_RESEED, R.MOD_CNT_SEQERR, R.MOD_CNT_STALE,
      R.MOD_CNT_WDISC] ∧
    s.Clears .modMcntClr ([R.MOD_CNT_DTUP, R.MOD_CNT_DTDN, R.MOD_CNT_DTSAT, R.MOD_CNT_SWLIM,
      R.MOD_CNT_NEGHB, R.MOD_CNT_DTWDISC] ++ (List.range Config.trims).map R.MOD_TRIM_SHORT) ∧
    s.Clears .tripCntClr ((List.range 8).map R.TRIP_CNT) ∧
    s.Clears .hostCntClr ((List.range 32).flatMap (fun r => [R.HOST_RING_QREJ r, R.HOST_RING_ABORT r])) ∧
    s.Clears .memCntClr ((List.range 6).flatMap (fun m => [F.MEM_CE_COUNT m, F.MEM_UE_COUNT m] ++
      (if m < 5 then [F.MEM_PASS_COUNT m, F.MEM_POISON_RD_COUNT m] else []))) ∧
    s.Clears .iommuCntClr [R.IOMMU_CNT_MISS, R.IOMMU_CNT_FLT] ∧
    s.Clears .pairCntClr [R.PAIR_CNT_CLAIM, R.PAIR_CNT_CKPT, R.PAIR_CNT_CKBAD, R.PAIR_CNT_MERR,
      R.PAIR_CNT_HO] ∧
    s.Clears .safeCntClr [R.SAFE_CNT_DEM, R.SAFE_CNT_OP, R.SAFE_CNT_RST] ∧
    s.Clears .logicCntClr [R.LOGIC_TEXEC_MAX, R.LOGIC_CNT_CYC, R.LOGIC_CNT_OVR, R.LOGIC_CNT_XCHG,
      R.LOGIC_CNT_RET, R.LOGIC_CNT_RETERR, R.LOGIC_CNT_ACCREJ, R.LOGIC_CNT_CANOK, R.LOGIC_CNT_CANERR] ∧
    s.Clears .vspCntClr ((List.range 16).flatMap (fun g => [R.VSP_SEG_MISSED g, R.VSP_SEG_MASKED g])) ∧
    s.Clears .adcCntClr ((List.range 8).map R.ADC_CNT_OVR) ∧
    s.Clears .ethCntClr ([R.ETH_CNT_DUP, R.ETH_CNT_PARSE] ++ (List.range 4).flatMap (fun p =>
      [R.ETH_CNT_RXERR p, R.ETH_CNT_RXNOBUF p, R.ETH_CNT_RXOK p, R.ETH_CNT_TXOK p, R.ETH_CNT_TSQOVF p])) ∧
    s.Clears .canCntClr ((List.range 2).flatMap (fun n => [R.CAN_CNT_TXOK n, R.CAN_CNT_RXOK n,
      R.CAN_CNT_RXOVF n, R.CAN_CNT_RXNOMATCH n, R.CAN_CNT_BUSOFF n])) ∧
    s.Gives .schedCntClr (fun t => t.sched = { s.sched with qcyc := [] } ∧ t.mem = s.mem ∧
      t.get R.SCHED_CNT_CQLOST = 0 ∧ t.get R.SCHED_CNT_TPLERR = 0 ∧
      (∀ q, q < 32 → t.get (R.SCHED_QTUSE q) = 0 ∧ t.get (R.SCHED_QREJ q) = 0) ∧
      (∀ c, c < 16 → t.get (R.SCHED_CORE_BUSY c) = 0 ∧ t.get (R.SCHED_CORE_ITEMS c) = 0 ∧
        t.get (R.SCHED_CORE_PREEMPT c) = 0) ∧
      (∀ l b, l < 8 → b < 8 → t.get (R.SCHED_HIST l b) = 0) ∧
      (∀ l, l < 8 → t.get (F.SCHED_LVL_DEPTH_MAX l) = 0 ∧ t.get (F.SCHED_SPILL_MAX_DEPTH l) = 0))

/-- The update of a period takes place once, at OBS: it empties the waiting telemetry and reads each
arm's current, 0 where ISRC is off, else the converter's sample with its sign, or the held current
with ISRC_BAD where the sample is not good; a second one in the same period has no effect. The
next arm whose vector is due gets, from VEC on, its entries read and its block written to its
core's data memory, counts as delivered, and submits its template where that is enabled; where
none is due nothing happens. A write of word 3 of a cell-table entry is taken, of every other word
discarded and counted. A 32-bit write of a dead-time entry's first word, where that reads clean,
takes byte 0 alone and counts as discarded, of its second word nothing. (R157, R160, R166, R167,
R168, R173, R174, R176, R177, R199) -/
def Obligations.ObserverVectorsAndTables : Prop :=
  (∀ (s : State), s.obsDue = true → s.get F.TIME_MOD_OFS_OBS < s.P → (Line.code .obs, 0) ∉ s.time.acted →
    s.Gives .obsUpdate (fun t => t.modu.obsAt = some s.time.pidx ∧
    t.modu.tel = [] ∧ (∀ a, a < 6 → (t.arm a).updated = true ∧ (t.arm a).delivered = false ∧
      (s.on (F.MOD_ARM_ISRC_EN a) = false → (t.arm a).iu = 0 ∧ (t.arm a).ip = 0) ∧
      (s.on (F.MOD_ARM_ISRC_EN a) = true → (s.arm a).seen = true → ∀ c, c = s.get (F.MOD_ARM_ISRC_CV a) →
        (t.arm a).ip = (s.arm a).iu ∧
        (s.on (F.ADC_DATA_VALID c) = true → s.on (F.ADC_DATA_OVR c) = false →
          (t.arm a).iu = (if s.on (F.MOD_ARM_ISRC_INV a) then -sx 16 (s.get (F.ADC_DATA_SAMPLE c))
            else sx 16 (s.get (F.ADC_DATA_SAMPLE c)))) ∧
        ((s.on (F.ADC_DATA_VALID c) = false ∨ s.on (F.ADC_DATA_OVR c) = true) →
          (t.arm a).iu = (s.arm a).iu ∧ (t.arm a).bad = true ∧ t.bitOf F.MOD_OBS_STAT_ISRC_BAD a = true))))) ∧
  (∀ (s : State), s.obsDue = false → exec .obsUpdate s = .next s) ∧
  (∀ (s : State) a v h w u, (List.range 6).find? s.vectorReady = some a →
    v = s.toOfs (s.get F.TIME_MOD_OFS_VEC) → h = 0x40 + 0x10 * (s.time.pidx % 4) →
    w = (s.armCells a).foldl (fun t c => (t.ctRead a c [0x28, 0x34, h, h + 12]).2) v →
    u = (w.wrB (dataBase (s.get (F.MOD_ARM_DST_CORE a)) + s.get (F.MOD_ARM_DST_ADDR a) * 16)
      (w.vectorBlock a s.time.pidx)).setArm a { s.arm a with delivered := true } →
    (s.on (F.SCHED_ARM_TPL_EN a) = false → exec .vectorDelivery s = .next u) ∧
    (s.on (F.SCHED_ARM_TPL_EN a) = true →
      exec .vectorDelivery s = .next (u.submitTpl 0x11 (s.get (F.SCHED_ARM_TPL_TPL a) * 32) none))) ∧
  (∀ (s : State), (List.range 6).find? s.vectorReady = none → exec .vectorDelivery s = .next s) ∧
  (∀ (s : State) c w data, c < 4096 → w < 32 → data < 2 ^ 32 → s.Awake → s.get F.MEM_INJ_MODE = 0 →
    s.Gives (.cellTableWrite c w data) (fun t =>
      (w = 3 → t.rd32 (s.ctAt c + 12) = data ∧ t.regs = s.regs ∧
        (∀ q, (q < s.ctAt c + 12 ∨ s.ctAt c + 16 ≤ q) → memGet t.mem q = memGet s.mem q)) ∧
      (w ≠ 3 → t = (s.set F.MOD_OBS_STAT_CT_WDISC 1).inc R.MOD_CNT_WDISC))) ∧
  (∀ (s : State) c w data, c < 4096 → w < 2 → data < 2 ^ 32 → s.Awake → s.get F.MEM_INJ_MODE = 0 →
    s.inCt (s.dtAt c + 4 * w) = false → sget s.synd 0 (s.dtAt c / 4) = 0 →
    s.Gives (.dtTableWrite c w data) (fun t =>
      t.on F.MOD_MSTAT_DT_WDISC = true ∧ t.get R.MOD_CNT_DTWDISC = satInc 32 (s.get R.MOD_CNT_DTWDISC) ∧
      (w = 0 → memGet t.mem (s.dtAt c) = BitVec.ofNat 8 data) ∧
      (∀ q, (q ≠ s.dtAt c ∨ w = 1) → memGet t.mem q = memGet s.mem q)))

/-- A commit whose output area reads good copies both bitmaps with the tag, PEND sets, and COMMIT_OVR
where a commit still waited. At the cut of a group that acts, once in a period at CUT_OFS, on the
holder of ACT, an arm with no commit is LATE and keeps its vector (HELD); with SWLIM off a commit
of an earlier core cycle becomes its vector, the tag is shown, PEND and HELD clear. Where the
group does not act nothing happens. Writing EN 1 arms a trim channel, writing 0 stops it at 0. PER
below P is refused; from P on it is taken, and a running counter that has passed it folds its
cycle at the next nanosecond. TRIM_WRAP lets time run to the next wrap where that lies before the
next apply instant. (R183, R184, R186, R188, R189, R53, R54) -/
def Obligations.ArmCutsAndTrimChannels : Prop :=
  (∀ (s : State) a tag n, a < 6 → tag < 65536 → s.Awake → n = npad (s.armCells a).length / 8 → ∀ d u,
    s.eccRdB (dataBase (s.get (F.MOD_ARM_DST_CORE a)) + 16 * s.get (F.MOD_ARM_OUT_ADDR a)) (2 * n)
      0x30 = (d, none, u) → s.Gives (.modArmCommit a tag) (fun t =>
        t.arm a = { u.arm a with commit := some (d.take n, d.drop n, tag), commitAt := u.time.cyc } ∧
        t.get (F.MOD_ARM_VSTAT_PEND a) = 1 ∧
        ((u.arm a).commit.isSome = true → t.on (F.MOD_ARM_FLAG_COMMIT_OVR a) = true) ∧
        t.mem = u.mem ∧ (∀ b, b ≠ a → t.arm b = u.arm b))) ∧
  (∀ (s : State) g, g < 8 → ((s.live = false ∧ s.strokes = false) ∨ s.lgActs g = false) →
    exec (.launchCut g) s = .next s) ∧
  (∀ (s : State) g a, g < 8 → s.live = true → s.lgActs g = true → s.holder = true → a ∈ s.grpArms g →
    s.get (F.TIME_LG_OFS1_CUT_OFS g) < s.P → (Line.code .cut, g) ∉ s.time.acted →
    ((s.arm a).commit = none → s.Gives (.launchCut g) (fun t =>
      t.bitOf F.TIME_LATE_ARM_LATE a = true ∧ t.get (F.MOD_ARM_VSTAT_HELD a) = 1 ∧
      (t.arm a).ins = (s.arm a).ins ∧ (t.arm a).neg = (s.arm a).neg)) ∧
    (∀ i n tag, (s.arm a).commit = some (i, n, tag) → (s.arm a).commitAt < s.time.cyc → tag < 65536 →
      s.get (F.MOD_ARM_SWLIM_MAXCH a) = 0 → s.Gives (.launchCut g) (fun t =>
        (t.arm a).ins = i ∧ (t.arm a).neg = n ∧ (t.arm a).commit = none ∧
        t.get (F.MOD_ARM_VSTAT_TAG a) = tag ∧ t.get (F.MOD_ARM_VSTAT_HELD a) = 0 ∧
        t.get (F.MOD_ARM_VSTAT_PEND a) = 0))) ∧
  (∀ (s : State) k data, k < 48 → data < 2 ^ 32 → s.Awake →
    (bit data 0 = true → s.on (F.MOD_TRIM_CTRL_EN k) = false → s.Gives (.trimCtrlWrite k data) (fun t =>
      t.trim k = { (s.trimKeep k).trim k with armed := true, running := false, count := 0, cyc := 0 } ∧
      t.get (F.MOD_TRIM_CTRL_CELL k) = bits data 1 12 ∧ RegsOnly [(R.MOD_TRIM_CTRL k).addr] { s with modu := t.modu } t)) ∧
    (bit data 0 = false → s.on (F.MOD_TRIM_CTRL_EN k) = true → s.Gives (.trimCtrlWrite k data) (fun t =>
      t.trim k = { (s.trimKeep k).trim k with armed := false, running := false, count := 0, cyc := 0 }))) ∧
  (∀ (s : State) k per, k < 48 → per < 65536 → s.Awake →
    (per < s.P → exec (.trimPerWrite k per) s =
      .next ((s.trimKeep k).set (F.MOD_TRIM_STAT_PER_REJ k) 1)) ∧
    (s.P ≤ per → exec (.trimPerWrite k per) s = .next ((s.trimKeep k).set (F.MOD_TRIM_PER_PER k) per))) ∧
  (∀ (s : State) k x t, s.modu.trims = [(k, x)] → x.running = true → s.get (F.MOD_TRIM_PER_PER k) ≠ 0 →
    s.get (F.MOD_TRIM_PER_PER k) ≤ x.count → t = s.trimsRun 1 →
    t.trim k = { x with count := 0, cyc := (x.cyc + 1) % 16 } ∧
      t.on (F.MOD_TRIM_STAT_PER_FOLD k) = true) ∧
  (∀ (s : State) n, s.wrapIn = some n →
    (s.room n = n → exec .trimWrap s = .next (s.pass n)) ∧ (s.room n ≠ n → exec .trimWrap s = .next s)) ∧
  (∀ (s : State), s.wrapIn = none → exec .trimWrap s = .next s)

/-- In a time-base cycle in which no group has latched or been cleared and no DEBLOCK waits: a level
at the pin that has held for FILT cycles passes, a shorter one has no effect; where it is active
by POL and counts for a group that is not latched, the group latches: the level, the hit, the
group's ACTIVE and LATCH set, the cause names the input, the time and the count are taken, every
arm of the group loses ARM_RUN and is blocked, and the TRIP event sets. A level that ends clears
no latch. TRIP_SOFT latches the groups it names and records that software did. TRIP_CLR clears the
latches it names whose group is not active; the others are refused, and so is the clear of a latch
that has set in the same cycle. An input's configuration is taken in CONFIG alone. (R204, R206,
R207, R208, R209, R211, R212, R214) -/
def Obligations.TripsLatchAndClear : Prop :=
  (∀ (s : State) n g held, n < 24 → g < 8 → s.Awake → s.QuietTrips → s.get (F.TRIP_IN_CFG_FILT n) ≤ held →
    s.get F.TRIP_IN_LVL_LVL = 0 → s.time.ns < 2 ^ 32 →
    s.tripCounts n g = true → s.latched g = false →
    s.Gives (.tripFilterPass n ⟨!s.on (F.TRIP_IN_CFG_POL n), held⟩) (fun t =>
      t.get F.TRIP_IN_LVL_LVL = 2 ^ n ∧ t.latched g = true ∧ t.bitOf F.TRIP_STAT_ACTIVE g = true ∧
      t.bitOf F.TRIP_IN_HIT_HIT n = true ∧ t.get (F.TRIP_FIRST_SRC_INPUT g) = n ∧
      t.get (F.TRIP_FIRST_SRC_MULTI g) = 0 ∧ t.get (F.TRIP_FIRST_SRC_SOFT g) = 0 ∧
      t.get (R.TRIP_FIRST_NS g) = s.time.ns ∧ t.get (R.TRIP_FIRST_SEC g) = s.time.sec % 2 ^ 32 ∧
      t.get (R.TRIP_CNT g) = satInc 32 (s.get (R.TRIP_CNT g)) ∧
      bit (t.word R.HOST_EVT_CAUSE) 1 = true ∧
      (∀ a, a < 6 → s.bitOf (F.TRIP_GRP_ARMS g) a = true → t.bitOf F.TRIP_ARM_ARM_RUN a = false ∧
        t.armBlocked a = true ∧ t.bitOf F.TRIP_STAT_ARM_BLK a = true) ∧
      (s.on F.VSP_DONE_TPL_EN = false → t.mem = s.mem))) ∧
  (∀ (s : State) n level held, n < 24 → held < s.get (F.TRIP_IN_CFG_FILT n) →
    exec (.tripFilterPass n ⟨level, held⟩) s = .next s) ∧
  (∀ (s : State) n held, n < 24 → s.Awake → s.QuietTrips → s.get (F.TRIP_IN_CFG_FILT n) ≤ held →
    s.Gives (.tripFilterPass n ⟨s.on (F.TRIP_IN_CFG_POL n), held⟩) (fun t =>
    t.bitOf F.TRIP_IN_LVL_LVL n = false ∧ (∀ g, s.latched g = true → t.latched g = true) ∧
    (s.on F.VSP_DONE_TPL_EN = false → t.mem = s.mem))) ∧
  (∀ (s : State) m, m < 256 → s.Awake → s.QuietTrips → s.Gives (.tripSoft m) (fun t =>
    (s.on F.VSP_DONE_TPL_EN = false → t.mem = s.mem) ∧
    (∀ g, g < 8 → bit m g = true → t.latched g = true ∧ (s.latched g = false →
      t.get (F.TRIP_FIRST_SRC_SOFT g) = 1)) ∧ (∀ g, s.latched g = true → t.latched g = true))) ∧
  (∀ (s : State) m g, m < 256 → g < 8 → s.Awake → bit m g = true → sget s.trip.latchAt 0 g = s.elapsed + 1 →
    s.Gives (.tripClr m) (fun t => t.latched g = s.latched g ∧ t.on F.TRIP_FLAG_TRIP_CLR_REJ = true)) ∧
  (∀ (s : State) m, m < 256 → s.Awake → s.QuietTrips → s.Gives (.tripClr m) (fun t => t.mem = s.mem ∧
    (∀ g, g < 8 → t.latched g = (s.latched g && !(bit m g && !s.bitOf F.TRIP_STAT_ACTIVE g))) ∧
    (m &&& s.get F.TRIP_STAT_ACTIVE ≠ 0 → t.on F.TRIP_FLAG_TRIP_CLR_REJ = true))) ∧
  (∀ (s : State) n data, n < 24 → data < 2 ^ 32 → s.Awake → s.QuietTrips → s.Gives (.tripInCfgWrite n data) (fun t =>
    (s.gst = .config → t.get (F.TRIP_IN_CFG_EN n) = bits data 0 1 ∧
      t.get (F.TRIP_IN_CFG_MAP n) = bits data 16 8 ∧ t.get (F.TRIP_IN_CFG_POL n) = bits data 1 1) ∧
    (s.gst ≠ .config → t.word (R.TRIP_IN_CFG n) = s.word (R.TRIP_IN_CFG n))))

/-- Once in a period at EVAL_OFS, in READY or RUN on the holder of ACT, where the lock group acts, and
with one slot of the group in AUTO or MANUAL whose three sources are constants and whose gain
table is off, the evaluation writes the error (reference minus measurement), a gain of 1, and what
the law of the mode gives for the integrator and the output (with NaN or infinity: NANF, and the
integrator as before), places the output in the slot's latch in its destination's format, and
marks the evaluation done. Where the group does not act or the engine is not on, nothing happens.
(R297, R298, R299, R300, R303, R304, R305, R307) -/
def Obligations.ControlEngineEvaluates : Prop :=
  (∀ (s : State) g k e ff law, g < 8 → k < 32 → s.cengOn = true → s.lgActs g = true → s.on (F.CENG_GRP_TPL_EN g) = false →
    s.get (F.TIME_LG_OFS0_EVAL_OFS g) < s.P → (Line.code .eval, g) ∉ s.time.acted →
    s.slotIn g k = true → (∀ j, j ≠ k → j < 32 → s.slotIn g j = false) → s.ceng.tune = none →
    s.slotMode k ≠ 3 → s.on (F.CENG_MODE_GT_EN k) = false →
    s.get (F.CENG_SRC_REF_TYPE k) = 0 → s.get (F.CENG_SRC_MEAS_TYPE k) = 0 →
    s.get (F.CENG_SRC_FF_TYPE k) = 0 →
    e = esub (s.get (R.CENG_SCL_REF k)) (s.get (R.CENG_SCL_MEAS k)) →
    ff = s.get (R.CENG_SCL_FF k) →
    law = (if s.slotMode k = 2 then
        lawManual (s.get (R.CENG_KP k)) (s.get (R.CENG_UMIN k)) (s.get (R.CENG_UMAX k))
          (s.get (R.CENG_MAN k)) ff (emul eOne e)
      else lawAuto (s.get (R.CENG_KP k)) (s.get (R.CENG_KI k)) (s.get (R.CENG_UMIN k))
          (s.get (R.CENG_UMAX k)) (s.slot k).integ ff (emul eOne e) (s.slot k).resume) →
    s.Gives (.cengEvaluate g) (fun t => t.get (R.CENG_ERR k) = e % 2 ^ 32 ∧
      t.get (R.CENG_GAIN k) = 0x3F800000 ∧ t.get (R.CENG_OUT k) = law.u % 2 ^ 32 ∧
      (t.slot k).done = true ∧
      (fbad (s.get (R.CENG_SCL_REF k)) = false → fbad (s.get (R.CENG_SCL_MEAS k)) = false →
        fbad ff = false → fbad e = false → fbad (emul (s.get (R.CENG_KP k)) (emul eOne e)) = false →
        fbad law.i = false → fbad law.u = false → (t.slot k).integ = law.i ∧
          t.get (R.CENG_INT k) = law.i % 2 ^ 32 ∧ (t.slot k).held = law.u ∧
          (t.slot k).latch = some (s.slotConv k law.u).1) ∧
      ((fbad e = true ∨ fbad law.i = true ∨ fbad law.u = true) →
        t.on (F.CENG_SSTAT_NANF k) = true ∧ (t.slot k).integ = (s.slot k).integ ∧
        (t.slot k).latch = (s.slot k).latch))) ∧
  (∀ (s : State) g, g < 8 → (s.cengOn = false ∨ s.lgActs g = false) → exec (.cengEvaluate g) s = .next s)

/-- EN = 1 on a DISABLED ring that passes the checks empties it and makes it RUNNING, other rings as
they were; one that fails them is refused with EN_REJ. EN = 0 on a RUNNING or HALTED ring makes it
DRAINING, and a DRAINING ring with CI = PI becomes DISABLED. RESUME of a HALTED ring makes it
RUNNING, after a walk fault from the walk's PI. A doorbell moves PI where it fits, else sets
DB_BAD, or DB_DROP on a DISABLED or DRAINING ring. HOST_ABI_SEL is taken with all rings DISABLED,
VALID for major 1 and minor 0 to 2. A gathered message goes when its time ends. Unmasking a vector
sends its pending message. LINK_TRAINED shows speed and width; once the link has trained,
LINK_RESET disables every ring, masks every vector, forgets translations and returns configuration
space to its defaults, while copies, readouts and flash steps that have started go on under a ring
number 32 above. (R325, R326, R327, R329, R344, R345, R356, R359, R360) -/
def Obligations.RingsEnableRunAndDrain : Prop :=
  (∀ (s : State) r, r < 32 → s.Awake → s.rst r = .disabled →
    (s.enableOk r = true → s.Gives (.ringEnable r) (fun t => t.rst r = .running ∧ t.ring r = {} ∧
      t.get (R.HOST_RING_PI r) = 0 ∧ t.get (R.HOST_RING_CI r) = 0 ∧ t.on (F.HOST_RING_CFG_EN r) = true ∧
      t.get (F.HOST_RING_OUT_OUT r) = 0 ∧ t.mem = s.mem ∧
      (∀ q, q < 32 → q ≠ r → t.rst q = s.rst q ∧ t.ring q = s.ring q))) ∧
    (s.enableOk r = false → s.Gives (.ringEnable r) (fun t => t.rst r = .disabled ∧
      t.on (F.HOST_RING_STAT_EN_REJ r) = true ∧ t.on (F.HOST_RING_CFG_EN r) = false ∧ t.host = s.host))) ∧
  (∀ (s : State) r, r < 32 → s.Awake → (s.rst r = .running ∨ s.rst r = .halted) →
    s.on (F.HOST_RING_CFG_RESUME r) = false → s.Gives (.ringDisable r) (fun t => t.rst r = .draining ∧ t.on (F.HOST_RING_CFG_EN r) = false ∧
      RegsOnly [(R.HOST_RING_CFG r).addr, (F.HOST_RING_STAT_STATE r).addr] s t)) ∧
  (∀ (s : State), s.Gives .ringDrainDone (fun t => t.host = s.host ∧ ∀ r, r < 32 → t.rst r =
    (if s.rst r = .draining ∧ s.get (R.HOST_RING_CI r) = s.get (R.HOST_RING_PI r) then .disabled
      else s.rst r))) ∧
  (∀ (s : State) r, r < 32 → s.Awake → s.rst r = .halted →
    s.Gives (.ringResume r) (fun t => t.rst r = .running ∧
      ((s.ring r).walkPi = none → t.host = s.host) ∧
      (∀ p, (s.ring r).walkPi = some p → p < 2 ^ 32 → t.get (R.HOST_RING_CI r) = p ∧
        (t.ring r).outs = [] ∧ (t.ring r).fetch = p ∧ (t.ring r).walkPi = none))) ∧
  (∀ (s : State) r pi, r < 32 → pi < 2 ^ 32 → s.Awake →
    ((s.rst r = .disabled ∨ s.rst r = .draining) →
      exec (.hostDb r pi) s = .next (s.set (F.HOST_RING_STAT_DB_DROP r) 1)) ∧
    (∀ span last, (s.rst r = .running ∨ s.rst r = .halted) →
      span = (pi + 2 ^ 32 - s.get (R.HOST_RING_CI r)) % 2 ^ 32 →
      last = (s.get (R.HOST_RING_PI r) + 2 ^ 32 - s.get (R.HOST_RING_CI r)) % 2 ^ 32 →
      (last ≤ span → span ≤ 2 ^ s.get (F.HOST_RING_CFG_SIZE r) →
        exec (.hostDb r pi) s = .next (s.set (R.HOST_RING_PI r) pi)) ∧
      ((span < last ∨ 2 ^ s.get (F.HOST_RING_CFG_SIZE r) < span) →
        exec (.hostDb r pi) s = .next (s.set (F.HOST_RING_STAT_DB_BAD r) 1)))) ∧
  (∀ (s : State) data, data < 2 ^ 32 → s.Awake →
    ((∀ r, r < 32 → s.rst r = .disabled) → s.Gives (.hostAbiSelWrite data) (fun t =>
      t.get F.HOST_ABI_SEL_MINOR = data % 256 ∧ t.get F.HOST_ABI_SEL_MAJOR = data / 256 % 256 ∧
      t.on F.HOST_ABI_SEL_VALID = decide (data / 256 % 256 = 1 ∧ data % 256 ≤ 2) ∧
      (t.on F.HOST_ABI_SEL_VALID = false → t.on F.HOST_STAT_ABI_REJ = true) ∧
      RegsOnly [R.HOST_ABI_SEL.addr, R.HOST_STAT.addr] s t)) ∧
    ((∃ r, r < 32 ∧ s.rst r ≠ .disabled) →
      exec (.hostAbiSelWrite data) s = .next (s.set F.HOST_STAT_ABI_REJ 1))) ∧
  (∀ (s : State), (∀ r e, s.irqNext = some (r, e) → exec .irqCoalesceTimeout s =
      .next ((s.setRing r { s.ring r with gathered := 0 }).msi (s.get (F.HOST_RING_CFG_VEC r)))) ∧
    (s.irqNext = none → exec .irqCoalesceTimeout s = .next s)) ∧
  (∀ (s : State) v, v < 64 → s.Gives (.msixUnmask v) (fun t => v ∈ t.host.unmasked ∧ v ∉ t.host.pendingV ∧
    t.regs = s.regs ∧ t.mem = s.mem ∧
    t.out = s.out ++ (if s.host.pendingV.contains v then [.msix v] else []))) ∧
  (∀ (s : State) speed width, 0 < speed → speed < 4 → (width = 1 ∨ width = 2 ∨ width = 4) →
    s.Gives (.linkTrained speed width) (fun t => t.host = { s.host with trained := true } ∧
      bits (t.word R.HOST_LINK) 0 6 = speed + 4 * width + 32 ∧
      RegsOnly [R.HOST_LINK.addr] { s with host := t.host } t)) ∧
  (∀ (s : State), s.host.trained = true → s.Gives .linkReset (fun t => (∀ r, r < 32 → t.rst r = .disabled ∧
      t.ring r = {} ∧ t.ring (r + 32) = s.lostRing r) ∧ t.host.unmasked = [] ∧ t.host.pendingV = [] ∧
      t.host.pcie = {} ∧ t.iommu = { view := s.iommu.view } ∧
      bits (t.word R.HOST_LINK) 0 6 = 0)) ∧
  (∀ (s : State), s.host.trained = false → s.Gives .linkReset (fun t => t.host = s.host ∧
    RegsOnly [R.HOST_LINK.addr] s t))

/-- A running ring with nothing outstanding and an accepted descriptor at its fetch index starts it
and moves the index on. A completion's area goes to host memory where its translation lets it. NOP
completes as DONE, an undefined OP as FAILED with reason 0xF0, a fetch that fails halts the ring.
WORK SUBMIT hands its item to the scheduler; TW QUEUE queues its entry, or completes with the
reason that refuses it; COPY by its rules waits for its turn, else fails; the running one moves
its bytes and completes as DONE with their number. CANCEL cancels every other outstanding
descriptor of its TAG and completes with how many. TRANSACT with 1 to 256 entries and room in
staging is pending from its fetch and reads its list into staging; else it fails with reason 1 or
2. A validated list that passes waits for its instant, one that fails completes; the next to apply
is committed. (R328, R331, R332, R333, R335, R337, R338, R339, R340, R341, R348, R353) -/
def Obligations.DescriptorsRunAndComplete : Prop :=
  (∀ (s : State) r hm b want, r < 32 → s.rst r = .running → (s.ring r).outs = [] → s.peek r hm = some (b, none, s) →
    want b = true → descBad (s.rtype r) s.abi b = none → s.get (F.HOST_RING_CREDIT_CREDIT r) = 0 →
    ∃ u, s.fetchEvent r hm want = (.start { idx := (s.ring r).fetch, bytes := b, started := true }, u) ∧
      (u.ring r).fetch = ((s.ring r).fetch + 1) % 2 ^ 32 ∧ (u.ring r).outs = [{ idx := (s.ring r).fetch, bytes := b, started := true }] ∧
      u.get (F.HOST_RING_OUT_OUT r) = 1 ∧ u.mem = s.mem ∧ u.out = s.out) ∧
  (∀ (s : State) r hm d u, r < 32 → (s.see hm).fetchEvent r hm (fun b => fieldLE b 0 1 = 0) = (.start d, u) →
    exec (.ringNop r hm) s = .next (u.complete r d.idx 0 0 0)) ∧
  (∀ (s : State) r idx d status result flags a, r < 32 → s.desc? r idx = some d → (s.rtype r).inOrder = false →
    d.cancelLate = false → (s.slotAt r idx + 48) % 4096 ≤ 4080 →
    (s.xlate s.iommu.view true (ringReq r) (s.slotAt r idx + 48)).1 = some a →
    Out.host a (s.cplArea r d.tag status result s.pidx32 flags) ∈ (s.complete r idx status result flags).out) ∧
  (∀ (s : State) v r hm b, v = s.see hm → r < 32 → s.rst r = .running → (s.ring r).outs = [] →
    v.peek r hm = some (b, none, v) → descBad (s.rtype r) s.abi b = some 0 →
    exec (.undefinedOpDescriptor r hm) s =
      .next ((v.setRing r { v.ring r with fetch := ((s.ring r).fetch + 1) % 2 ^ 32 }).cpl r
        ⟨(s.ring r).fetch, fieldLE b 2 2, bit (fieldLE b 1 1) 0, 1, 0xF0, 0, false⟩)) ∧
  (∀ (s : State) r hm b e u, r < 32 → (s.see hm).peek r hm = some (b, some e, u) → s.Gives (.fetchFault r hm) (fun t =>
    t = u.fetchHalt r ∧ t.rst r = .halted ∧ t.on (F.HOST_RING_STAT_FETCH_HALT r) = true ∧ t.host = u.host)) ∧
  (∀ (s : State) r hm d u, r < 32 → (s.see hm).fetchEvent r hm (wantOp (s.see hm) r .work 1) = (.start d, u) →
    exec (.workSubmit r hm) s = .next (u.submit (0x18 + u.get (F.HOST_RING_CFG_SUB r))
      (slice d.bytes 8 32) (some (r, d.idx)) none)) ∧
  (∀ (s : State) r hm d u e, r < 32 → (s.see hm).fetchEvent r hm (wantOp (s.see hm) r .tw 1) = (.start d, u) →
    e = { addr := fieldLE d.bytes 8 4 / 4 * 4, data := fieldLE d.bytes 12 4, mask := fieldLE d.bytes 16 4, ns := fieldLE d.bytes 20 4 % 2 ^ 30, sec := fieldLE d.bytes 24 4, tag := d.tag, org := 0, ring := some (r, d.idx) } →
    (u.twJudge e = 0 → exec (.queue r hm) s = .next (u.twQueue e)) ∧
    (u.twJudge e ≠ 0 → exec (.queue r hm) s = .next (u.complete r d.idx 1 (u.twJudge e) 0))) ∧
  (∀ (s : State) r hm d u, r < 32 → (s.see hm).fetchEvent r hm (wantOp (s.see hm) r .dma 1) = (.start d, u) →
    (u.copyOk d.bytes = true → exec (.copy r hm) s = .next (u.copyTurn r)) ∧
    (u.copyOk d.bytes = false → exec (.copy r hm) s = .next (u.complete r d.idx 1 0 0))) ∧
  (∀ (s : State) r hm d h a n, r < 32 → s.copyHead r = some d → d.busy = true → n % 4 = 0 →
    (∀ b u, copyArgs d.bytes = (h, a, n, false) →
      (s.see hm).hostRd hm (ringReq r) (pagesOf h n) h n = (b, none, u) → b.length = n → exec (.copyDone r hm) s =
        .next (((u.memWrs a (ringReq r) (wordsOf b)).complete r d.idx 0 n 0).copyTurn r)) ∧
    (∀ b u k v, copyArgs d.bytes = (h, a, n, true) → (s.see hm).eccRds a (ringReq r) (n / 4) = (b, none, u) →
      u.hostWr hm (ringReq r) (pagesOf h n) h b = (k, true, v) →
      exec (.copyDone r hm) s = .next ((v.complete r d.idx 0 n 0).copyTurn r))) ∧
  (∀ (s : State) r hm d u hits, r < 32 → (s.see hm).fetchEvent r hm (fun b => fieldLE b 0 1 = 0x7F) = (.start d, u) →
    hits = (u.ring r).outs.filter (fun e => e.idx ≠ d.idx && e.tag = fieldLE d.bytes 8 2 &&
      !(u.ring r).held.any (fun c => c.idx = e.idx)) → exec (.ringCancel r hm) s =
    .next ((hits.foldl (fun t e => t.cancelOne r e) u).complete r d.idx 0 hits.length 0)) ∧
  (∀ (s : State) r hm d u n, r < 32 → (s.see hm).fetchEvent r hm (wantOp (s.see hm) r .ctx 1) = (.start d, u) →
    n = fieldLE d.bytes 16 2 → u.txn? r d.idx = none →
    ((n = 0 ∨ 256 < n) → exec (.transact r hm) s = .next (u.complete r d.idx 1 1 0)) ∧
    (1 ≤ n → n ≤ 256 → 16 ≤ u.host.txns.length →
      exec (.transact r hm) s = .next (u.complete r d.idx 1 2 0)) ∧
    (1 ≤ n → n ≤ 256 → u.host.txns.length < 16 → bit (fieldLE d.bytes 18 1) 0 = false → ∀ b p v,
      p = u.setTxns (u.host.txns ++ [{ ring := r, idx := d.idx, apply := some (fieldLE d.bytes 20 4) }]) →
      p.hostRd hm (ringReq r) (pagesOf (fieldLE d.bytes 8 8) (16 * n)) (fieldLE d.bytes 8 8) (16 * n) =
        (b, none, v) → exec (.transact r hm) s = .next (v.updTxn r d.idx (fun t =>
          { t with staged := true, entries := (List.range n).map (txnEntry b) })))) ∧
  (∀ (s : State) r idx t, r < 32 → s.txnOf r idx (fun x => x.staged && !x.valid) = some t →
    (s.txnWhen t ≠ 0 → exec (.transactValidated r idx) s =
      .next (s.txnEnd t 1 (txnResult (s.txnWhen t) 0 0))) ∧
    (s.txnWhen t = 0 → t.imm = false → s.entriesBad 0 t.entries = none →
      exec (.transactValidated r idx) s = .next (s.updTxn t.ring idx (fun x => { x with valid := true })))) ∧
  (∀ (s : State) r idx a t, s.commitNext = some (r, idx, a) → s.txn? r idx = some t → s.txnNext t = some a →
    exec .transactCommit s = .next ((s.advTo (a - 1000)).updTxn r idx (fun x => { x with committed := true })))

/-- With SCRUB_EN a step of a class's scrubber goes to its next row, or from the last row back to row
0 with one pass counted, and leaves memory that holds no error as it is; an error of one data bit
in the row is corrected and counted. Class 5 counts a corrected error. With SCRUB_EN 0, or for
class 5 with nothing found, nothing happens. IOMMU_CTRL takes MODE and DIRBITS up to 18 with every
ring DISABLED and no core transfer, else a change is refused. IOMMU_INV starts an invalidation of
scope 1, 2 or 3 with the page in IOMMU_INV_ADDR beside those in progress, scope 0 nothing; at the
end no matching entry of any of them is cached and INV_BUSY reads 0. The order of banks is the
model's (notes/assumptions/28.md). (R361, R363, R366, R370, R373, R374) -/
def Obligations.MemoryScrubAndTranslation : Prop :=
  (∀ (s : State) m, m < 5 → s.Awake → s.on F.MEM_ECC_CTRL_SCRUB_EN = true → s.synd = [] →
    s.Gives (.scrubStep m .clean) (fun t => t.mem = s.mem ∧ t.synd = [] ∧
      sget t.memc.row 0 m = (if bankBytes m / 16 ≤ sget s.memc.row 0 m + 1 then 0
        else sget s.memc.row 0 m + 1) ∧
      t.get (F.MEM_PASS_COUNT m) = (if bankBytes m / 16 ≤ sget s.memc.row 0 m + 1 then
        satInc (F.MEM_PASS_COUNT m).w (s.get (F.MEM_PASS_COUNT m)) else s.get (F.MEM_PASS_COUNT m)))) ∧
  (∀ (s : State) m k x i, m < 5 → s.Awake → s.on F.MEM_ECC_CTRL_SCRUB_EN = true → s.synd = [(k, x)] →
    memClass (4 * k) = some m → rowOf m (4 * k) = sget s.memc.row 0 m → synOf x = .data i →
    s.Gives (.scrubStep m .clean) (fun t => t.synd = [] ∧ t.rd32 (4 * k) = s.rd32 (4 * k) ^^^ 2 ^ i ∧
      t.get (F.MEM_CE_COUNT m) = satInc (F.MEM_CE_COUNT m).w (s.get (F.MEM_CE_COUNT m)) ∧
      ∀ q, (q < 4 * k ∨ 4 * k + 4 ≤ q) → memGet t.mem q = memGet s.mem q)) ∧
  (∀ (s : State) m, m < 5 → s.Awake → s.on F.MEM_ECC_CTRL_SCRUB_EN = false → exec (.scrubStep m .clean) s = .next s) ∧
  (∀ (s : State), s.Awake → exec (.scrubStep 5 .clean) s = .next s ∧
    exec (.scrubStep 5 .corrected) s = .next (s.ceCount 5)) ∧
  (∀ (s : State) data, data < 2 ^ 32 → s.Awake → bits data 1 5 ≤ 18 →
    ((∀ r, r < 32 → s.rst r = .disabled) → s.cores = [] → s.Gives (.iommuCtrlWrite data) (fun t =>
      t.get F.IOMMU_CTRL_MODE = bits data 0 1 ∧ t.get F.IOMMU_CTRL_DIRBITS = bits data 1 5 ∧
      RegsOnly [R.IOMMU_CTRL.addr] s t)) ∧
    ((∃ r, r < 32 ∧ s.rst r ≠ .disabled) → bits data 0 6 ≠ bits (s.word R.IOMMU_CTRL) 0 6 →
      exec (.iommuCtrlWrite data) s = .next (s.set F.IOMMU_STAT_MODE_REJ 1))) ∧
  (∀ (s : State) k, k < 4 → s.Awake → s.Gives (.iommuInv k) (fun t => (k = 0 → t = s) ∧
    (k ≠ 0 → t.iommu = { s.iommu with inv := s.iommu.inv ++ [(k, s.get F.IOMMU_INV_ADDR_PAGE)] } ∧
      t.on F.IOMMU_STAT_INV_BUSY = true))) ∧
  (∀ (s : State) k page, 1 ≤ k → k < 4 → (k, page) ∈ s.iommu.inv → s.Gives .iommuInvDone (fun t =>
    t.iommu.inv = [] ∧ t.on F.IOMMU_STAT_INV_BUSY = false ∧
    (k = 1 → ∀ p ∈ t.iommu.leaves, p.1 ≠ page) ∧
    (k = 2 → (∀ p ∈ t.iommu.leaves, p.1 / 512 ≠ page / 512) ∧ ∀ p ∈ t.iommu.dirs, p.1 ≠ page / 512) ∧
    (k = 3 → t.iommu.leaves = [] ∧ t.iommu.dirs = [])))

/-- ACT_IN high ends a guard or a veto without a claim; at a claimant or holder of side B it ends the
claim with CLAIM_LOST, PAIR_ACT_OUT low and role NIGHTWATCH, side A keeps on; a LEAVING device
without ACT becomes NIGHTWATCH. ACT_IN low starts the guard of an armed NIGHTWATCH; so do the
initial claim and the reclaim of LEAVING. The guard's end, or the veto's once it stands no more,
asserts: ACT_OUT high, this side, the next epoch, role CLAIMING; a HEALTH with ACT within 1.2 P
vetoes first. Confirmation wins the claim and counts it. A lost heartbeat drops ACT and goes to
SAFE_HOLD. The end of the final segment drops ACT. A FINAL capture is applied and starts the
claim; without one the handover is off. RETURN_REQ, OFFER, ACK, REJ, RESYNC, HANDOVER and the
answer's timeout do what their rules say, a refusal with its cause. (R381, R382, R384, R387, R388,
R399, R403, R409, R410, R411, R412, R413) -/
def Obligations.ActClaimsAndHandover : Prop :=
  (∀ (s : State) u, u = (s.set F.PAIR_STAT_ACT_IN 1).pr (fun p => { p with seenHigh := true }) →
    ((s.pair.claim = .guard ∨ s.pair.claim = .veto) → s.role ≠ .leaving → exec .actInHigh s =
      .next (u.pr (fun p => { p with claim := .none, finalClaim := false }))) ∧
    (s.straps.side = true → (s.pair.claim = .confirm ∨ (s.pair.claim = .none ∧ s.actOut = true)) →
      s.Gives .actInHigh (fun t => t.actOut = false ∧ t.on F.PAIR_FLAG_CLAIM_LOST = true ∧
        t.role = .nightwatch ∧ t.pair.claim = .none ∧ t.pair.won = false ∧ t.actIn = true)) ∧
    (s.straps.side = false → (s.pair.claim = .confirm ∨ (s.pair.claim = .none ∧ s.actOut = true)) →
      exec .actInHigh s = .next u) ∧
    (s.pair.claim = .none → s.actOut = false → s.role = .leaving → s.Gives .actInHigh (fun t =>
      t.role = .nightwatch ∧ t.get R.PAIR_CNT_HO = satInc 32 (s.get R.PAIR_CNT_HO)))) ∧
  (∀ (s : State), (s.actIn = true → s.role = .nightwatch → s.pair.claim = .none →
      (s.on F.PAIR_STAT_TAKE_ARMED = true ∨ s.pair.finalClaim = true) → exec .actInLow s =
        .next ((s.set F.PAIR_STAT_ACT_IN 0).pr (fun p => { p with claim := .guard }))) ∧
    (s.role ≠ .nightwatch → exec .actInLow s = .next (s.set F.PAIR_STAT_ACT_IN 0))) ∧
  (∀ (s : State), s.actIn = false → s.pair.claim = .none →
    (s.live = true → s.role = .nightwatch → s.pair.seenHigh = false → s.pair.heldAct = false →
      exec .initialClaimStart s = .next (s.pr (fun p => { p with claim := .guard }))) ∧
    (s.role = .leaving → s.actOut = false →
      exec .leavingReclaim s = .next (s.pr (fun p => { p with claim := .guard })))) ∧
  (∀ (s : State), s.actIn = false → s.pair.claim = .guard → s.vetoed = true →
    exec .claimGuardEnd s = .next (s.pr (fun p => { p with claim := .veto }))) ∧
  (∀ (s : State) i, s.actIn = false → ((i = .claimGuardEnd ∧ s.pair.claim = .guard ∧ s.vetoed = false) ∨
      (i = .claimVetoEnd ∧ s.pair.claim = .veto ∧ s.vetoed = false)) → s.Gives i (fun t => t.actOut = true ∧
    t.role = .claiming ∧ t.get F.PAIR_EPOCH_SIDE = b2n s.straps.side ∧
    t.get F.PAIR_EPOCH_EPOCH = (s.get F.PAIR_EPOCH_EPOCH + 1) % 256 ∧
    t.pair = { s.pair with claim := .confirm, heldAct := true, rxSegs := [] } ∧
    Out.pin "PAIR_ACT_OUT" true ∈ t.out ∧ t.mem = s.mem)) ∧
  (∀ (s : State) t0, s.actIn = false → s.pair.claim = .veto → s.vetoed = true → s.pair.actAt = some t0 →
    t0 ≤ s.time.cyc → s.room s.vetoLeft = s.vetoLeft → s.Gives .claimVetoEnd (fun t => t.actOut = true ∧
      t.role = .claiming ∧ t.time.cyc = s.time.cyc + s.vetoLeft)) ∧
  (∀ (s : State), s.pair.claim = .confirm → s.actIn = false → exec .claimConfirm s =
    .next ((s.pr (fun p => { p with claim := .none, won := true })).inc R.PAIR_CNT_CLAIM)) ∧
  (∀ (s : State), s.Awake → s.FirstOfCycle → s.peRun = true → (s.gst = .config ∨ s.live = true) → s.Gives .heartbeatExpiry (fun t =>
    t.actOut = false ∧ t.gst = .safeHold ∧ t.get F.DEV_STATE_REASON = 3)) ∧
  (∀ (s : State), s.role = .leaving → s.actOut = true → exec .finalSegmentSent s =
    .next (((s.pr (fun p => { p with sendLeft := 0 })).set F.PAIR_STAT_ACT_OUT 0).emit
      (.pin "PAIR_ACT_OUT" false))) ∧
  (∀ (s : State), s.role = .nightwatch → s.pair.hoAt.isSome = true →
    (s.captureIs true = true → s.actIn = false → s.pair.claim = .none → s.Gives .finalCaptureApply (fun t =>
      t.pair.claim = .guard ∧ t.pair.finalClaim = true ∧ t.pair.hoAt = none ∧ t.pair.ready = [] ∧
      t.get F.PAIR_STAT_HO_PEND = 0 ∧ t.get R.PAIR_CNT_CKPT = satInc 32 (s.get R.PAIR_CNT_CKPT))) ∧
    s.Gives .finalCaptureTimeout (fun t => t.pair.hoAt = none ∧ t.pair.ready = [] ∧
      t.get F.PAIR_STAT_HO_PEND = 0 ∧ RegsOnly [F.PAIR_STAT_HO_PEND.addr] { s with pair := t.pair } t)) ∧
  (∀ (s : State), s.role = .nightwatch → s.straps.home = true → s.on F.PAIR_STAT_TAKE_OK = true →
    s.pair.holdAt.isSome = true → s.inhibited = false → s.on F.PAIR_FLAG_HOME_CLASH = false →
    s.pair.asked = none → s.pair.hoAt = none → exec .returnHoldoffExpiry s =
      .next ((s.pr (fun p => { p with asked := some 0 })).ctrlSend 1 0 0)) ∧
  (∀ (s : State), s.pair.asked.isSome = true → s.Gives .returnTimeout (fun t => t.get F.PAIR_HO_STAT_CAUSE = 6 ∧
    t.on F.PAIR_FLAG_HO_REJ = true ∧ t.pair.asked = none ∧ t.pair.hoAt = none)) ∧
  (∀ (s : State), s.Awake → (s.role = .active → exec .handover s =
      .next ((s.pr (fun p => { p with asked := some ((s.time.pidx + 32) % 2 ^ 32) })).ctrlSend 2 0
        ((s.time.pidx + 32) % 2 ^ 32))) ∧
    (s.role ≠ .active → exec .handover s = .next (s.set F.PAIR_FLAG_CMD_REJ 1))) ∧
  (∀ (s : State) l f, l < 48 → (s.lane l).hurt = [] → s.mirTakes l 0x2A f = true →
    (fieldLE f 4 1 = 1 → s.role = .active → (s.returnCause = 0 → exec (.returnReq l f) s = .next
        ((s.hoAck ((s.time.pidx + 32) % 2 ^ 32)).ctrlSend 3 0 ((s.time.pidx + 32) % 2 ^ 32))) ∧
      (s.returnCause ≠ 0 → s.returnCause ≠ 7 → exec (.returnReq l f) s =
        .next ((s.hoRej s.returnCause).ctrlSend 4 s.returnCause 0))) ∧
    (fieldLE f 4 1 = 2 → s.role = .nightwatch → (s.offerCause = 0 → exec (.offer l f) s =
        .next ((s.hoAck (fieldLE f 8 4)).ctrlSend 3 0 (fieldLE f 8 4))) ∧
      (s.offerCause ≠ 0 → s.offerCause ≠ 7 → exec (.offer l f) s =
        .next ((s.hoRej s.offerCause).ctrlSend 4 s.offerCause 0))) ∧
    (fieldLE f 4 1 = 3 → s.pair.asked.isSome = true → s.Gives (.ctrlAck l f) (fun t =>
      t.on F.PAIR_STAT_HO_PEND = true ∧ t.get R.PAIR_HO_H = fieldLE f 8 4 ∧
      t.pair = { s.pair with asked := none, hoAt := some (fieldLE f 8 4) })) ∧
    (fieldLE f 4 1 = 4 → s.pair.asked.isSome = true → s.Gives (.ctrlRej l f) (fun t =>
      t.get F.PAIR_HO_STAT_CAUSE = fieldLE f 5 1 % 2 ^ F.PAIR_HO_STAT_CAUSE.w ∧ t.on F.PAIR_FLAG_HO_REJ = true ∧ t.pair.asked = none)) ∧
    (fieldLE f 4 1 = 5 → exec (.resync l f) s = .next (s.pr (fun p => { p with allDirty := true }))))

/-- An MHELLO is answered by an MREPLY, a valid MREPLY brings the lane UP, findings set their flags. A
TSYNC is noted, and where the own one is at hand gives delay and offset; a device that must step
takes its time from it, at its next apply instant while its period engine runs. HEALTH shows in
its registers; an ALONE device whose partner is NIGHTWATCH becomes ACTIVE. A whole capture waits
for its apply instant, a segment with a bad CRC discards it and asks for a RESYNC. A MAP of a
WATCH string is taken and measured; a DLY ends the wait for it, and so does 20 ms. SREP: misses of
two consecutive periods make a string BROKEN, direct strokes of two consecutive periods end relay.
A RELAY frame goes out on the string's lane, an RTEL's slots are parsed. A frame that is discarded
counts in MERR. (R90, R118, R119, R145, R147, R148, R380, R386, R392, R395, R400, R401) -/
def Obligations.MirrorFramesAreTaken : Prop :=
  (∀ (s : State) l f, l < 48 → (s.lane l).hurt = [] → s.mirIn l = true →
    (mirFrameOk 0x20 f = true → f.length = 28 → s.Gives (.mhello l f) (fun t =>
      t.out = s.out ++ s.fillBefore l ++ [.mirror l (mirrorFrame 0x21 (s.mhelloBody l (fieldLE f 12 4))), .skp l] ∧
      RegsOnly [F.PAIR_FLAG_ID_CLASH.addr] { s with out := t.out, lanes := t.lanes } t ∧
      (fieldLE f 8 2 ≠ s.get F.PAIR_CFG_PAIR_ID → t.on F.PAIR_FLAG_ID_CLASH = true) ∧
      (bit (fieldLE f 5 1) 0 = s.straps.side → t.on F.PAIR_FLAG_SIDE_CLASH = true) ∧
      (fieldLE f 6 1 ≠ s.lidx l → t.on F.PAIR_FLAG_MIS_CABLE = true))) ∧
    (mirFrameOk 0x21 f = true → f.length = 28 → s.lst l = .hello → fieldLE f 12 4 = (s.lane l).nonce →
      (fieldLE f 6 1 = s.lidx l → s.Gives (.mreply l f) (fun t => t.lst l = .up ∧ t.mem = s.mem)) ∧
      (fieldLE f 6 1 ≠ s.lidx l → s.Gives (.mreply l f) (fun t => t.lst l = .hello ∧
        t.on F.PAIR_FLAG_MIS_CABLE = true))) ∧
    (s.mirBad f = true → fieldLE f 0 1 ≠ 0x24 →
      exec (.mirrorFrameDiscarded l f) s = .next (s.inc R.PAIR_CNT_MERR))) ∧
  (∀ (s : State) l f ago, l < 48 → (s.lane l).hurt = [] → s.mirTakes l 0x22 f = true →
    (s.pair.sentTs.find? (fun e => e.1 % 2 ^ 32 = fieldLE (mirBody f) 32 4) = none →
      exec (.tsync l f ago) s = .next (s.pr (fun p => { p with rxTs := some (fieldLE (mirBody f) 0 4, s.now16 - ago), peerSteps := some (fieldLE (mirBody f) 8 2) }))) ∧
    (∀ n t3 d21 d43 theta, s.pair.sentTs.find? (fun e => e.1 % 2 ^ 32 = fieldLE (mirBody f) 32 4) = some (n, t3) →
      d21 = tsDiff (s.now16 - ago) (tsTime (mirBody f) 10 12 16) → d43 = tsDiff (tsTime (mirBody f) 20 24 28) t3 →
      theta = Int.fdiv (d21 - d43 - sx 16 (s.get F.PAIR_ASYM_ASYM) * 2 ^ 16) 2 →
      (s.mustStep theta = false → s.Gives (.tsync l f ago) (fun t =>
        t.get F.PAIR_DLY_DM = us 16 (rs (Int.fdiv (d21 + d43) 2) 16) ∧ t.get R.PAIR_OFS = us 32 (rs theta 12) ∧
        t.time = s.time ∧ t.mem = s.mem)) ∧
      (s.mustStep theta = true →
        (s.peRun = true → ∀ ofs, ofs = (tsDiff ((s.now16 : Int) - theta).toNat
            (tsTime (mirBody f) 10 12 16 - s.tTx s.mir0 * 2 ^ 16)).toNat / 2 ^ 16 →
          s.Gives (.tsync l f ago) (fun t => t.pair.stepped = true ∧ t.on F.TIME_STATUS_STEP_PEND = true ∧
            t.now16 = s.now16 ∧ t.time.step = some (-theta) ∧
            t.time.align = some (s.P - ofs % s.P, fieldLE (mirBody f) 0 8 + ofs / s.P + 1))) ∧
        (s.peRun = false → theta ≤ s.now16 → (s.now16 : Int) - theta < 2 ^ 64 * 1000000000 * 65536 →
          s.Gives (.tsync l f ago) (fun t => t.pair.stepped = true ∧
            t.now16 = ((s.now16 : Int) - theta).toNat))))) ∧
  (∀ (s : State) l f, l < 48 → (s.lane l).hurt = [] → s.mirTakes l 0x23 f = true → s.Gives (.health l f) (fun t =>
    t.pair.peer = some (mirBody f) ∧
    (bit (fieldLE (mirBody f) 4 1) 6 = true → t.pair.actAt = some s.time.cyc) ∧
    (∀ w, w < 7 → t.get (R.PAIR_HLTH_PEER w) = fieldLE (mirBody f) (4 * w) 4) ∧
    t.get F.PAIR_STAT_PEER_TAKE_OK = fieldLE (mirBody f) 6 1 % 2 ∧
    t.role = (if s.role = .alone ∧ bits (fieldLE (mirBody f) 4 1) 0 3 = 1 then .active else s.role))) ∧
  (∀ (s : State) l f b, l < 48 → (s.lane l).hurt = [] → s.mirTakes l 0x24 f = true → b = mirBody f → s.role = .nightwatch →
    s.pair.rxSegs = [] → s.pair.badSeq ≠ some (segSeq b) → segCount b = 1 → segNo b = 0 → s.segInside b = true →
    exec (.ckpt l f) s = .next (s.pr (fun p => { p with badSeq := none, rxSegs := [], ready := [b] }))) ∧
  (∀ (s : State) l f, l < 48 → (s.lane l).hurt = [] → s.lrole l = .mirror → s.lst l = .up → s.linkUp = true → s.role = .nightwatch →
    fieldLE f 0 1 = 0x24 → crc32Ok f = false → s.Gives (.ckpt l f) (fun t =>
      t.on F.PAIR_FLAG_CK_BAD = true ∧ t.get R.PAIR_CNT_MERR = satInc 32 (s.get R.PAIR_CNT_MERR) ∧
      t.get R.PAIR_CNT_CKBAD = satInc 32 (s.get R.PAIR_CNT_CKBAD) ∧
      t.pair = { s.pair with rxSegs := [], full := false, badSeq := s.rxSeq })) ∧
  (∀ (s : State) l f n, l < 48 → n < 44 → (s.lane l).hurt = [] → s.mirTakes l 0x25 f = true → s.role = .nightwatch →
    fieldLE (mirBody f) 0 1 = n → s.sst n = .watch → s.Gives (.map l f) (fun t =>
      t.get (F.STR_ENUM_MAP_ID n) = fieldLE (mirBody f) 1 1 ∧
      (t.str n).frets.length = fieldLE (mirBody f) 2 1 ∧
      (t.str n).phase = (if fieldLE (mirBody f) 2 1 = 0 then .measEnd else .meas 0))) ∧
  (∀ (s : State) l f n, l < 48 → n < 44 → (s.lane l).hurt = [] → s.mirTakes l 0x26 f = true → s.holder = true → fieldLE (mirBody f) 0 1 = n →
    (s.str n).mapWait = true → fieldLE (mirBody f) 1 1 = s.get (F.STR_ENUM_MAP_ID n) →
    s.Gives (.dly l f) (fun t => (t.str n).mapWait = false ∧
      (t.str n).frets.length = (s.str n).frets.length ∧ ∀ k, k < (s.str n).frets.length →
        fieldLE (mirBody f) 2 1 = (s.str n).frets.length → (nth (t.str n).frets {} k).dOther =
          fieldLE (mirBody f) (8 + 2 * ((s.str n).frets.length - 1 - k)) 2)) ∧
  (∀ (s : State) n, n < 44 → exec (.dlyTimeout n) s = .next (s.setStr n { s.str n with mapWait := false })) ∧
  (∀ (s : State) l f n p before, l < 48 → n < 44 → (s.lane l).hurt = [] → s.mirTakes l 0x28 f = true → s.role = .active →
    before = some ((p + 2 ^ 32 - 1) % 2 ^ 32) → p = fieldLE (mirBody f) 0 4 → (s.str n).launched.any (fun q => q % 2 ^ 32 = p) = true →
    s.Gives (.srep l f) (fun t =>
      ((fieldLE (mirBody f) 4 6).testBit n = false → (t.str n).missAt = some p ∧ (t.str n).directAt = none ∧
        t.on (F.STR_STAT_BROKEN n) = (s.on (F.STR_STAT_BROKEN n) || decide ((s.str n).missAt = before))) ∧
      ((fieldLE (mirBody f) 4 6).testBit n = true → (t.str n).missAt = none ∧
        (s.on (F.STR_STAT_BROKEN n) = true → (s.str n).directAt = before →
          t.on (F.STR_STAT_BROKEN n) = false ∧ t.on (F.STR_STAT_RELAY n) = false ∧ (t.str n).relayOn = none) ∧
        ((s.on (F.STR_STAT_BROKEN n) = false ∨ (s.str n).directAt ≠ before) →
          (t.str n).directAt = some p ∧ t.on (F.STR_STAT_BROKEN n) = s.on (F.STR_STAT_BROKEN n))))) ∧
  (∀ (s : State) l f n k, l < 48 → n < 44 → (s.lane l).hurt = [] → s.lrole l = .mirror → s.lst l = .up → s.linkUp = true →
    fieldLE f 0 1 = 0x27 → 32 ≤ f.length → fieldLE f 4 1 = n → s.sst n = .watch → s.strLane? n = some k →
    s.lst k = .up → s.Gives (.relay l f) (fun t => (t.str n).relayOn = some (s.lidx l) ∧
      t.on (F.STR_STAT_RELAY n) = true ∧ t.out = s.out ++ s.fillBefore k ++
        (if s.get (F.STR_BLK_G_TX n) = 0 then [] else [.blk k (s.get (F.STR_BLK_G_TX n))]) ++
        [.stroke k ((f.drop 8).take (f.length - 12) ++ emptyArea (s.str n).frets), .skp k])) ∧
  (∀ (s : State) l f n g, l < 48 → n < 44 → (s.lane l).hurt = [] → s.mirTakes l 0x29 f = true → s.holder = true → fieldLE f 4 1 = n →
    (s.str n).frets = [g] → g.ver = 1 → g.cid ≤ 4095 → s.Gives (.rtel l f) (fun t =>
      ∃ x, t.modu.tel = s.modu.tel ++ [x] ∧ x.cid = g.cid ∧ x.pidx = fieldLE (mirBody f) 4 4))

/-- On a part with the island: VDDSAFE brings the self-test out of POWERUP; its loss returns to
POWERUP with image and outputs gone. A self-test that passes leads to UNCONF, one that fails to
FAULT with its cause; out of FAULT it latches SVB and SBT. COMMIT of a sound staged image makes it
active, latches both functions and enters OPERATE; an unsound one is refused with its code. RESET
asks for the next evaluation, FRESET out of FAULT starts the self-test, elsewhere it is refused.
Contacts held for their debounce time are noted; a discrepancy held for its time faults the input;
shorter ones do nothing. An evaluation latches a demanded function, which holds its arms' permits
low, lets a request reset one no longer demanded, and faults on permit lines that differ; in FAULT
it takes the readbacks, with every output off and both functions as they were. SAP energises when
its delay has passed; an off-pulse with a bad readback faults its output; a watchdog without a
token for WD_MAX expires. A failing diagnostic leads to FAULT with its cause. (R416, R418, R420,
R421, R423, R424, R426, R427, R433, R435, R437, R438) -/
def Obligations.IslandStatesAndFunctions : Prop :=
  ∀ (s : State), s.straps.es = true →
  (s.ist = .powerup → exec .vddsafeUp s = .next { s with safe := { s.safe with vdd := true, testing := true } }) ∧
  (s.ist ≠ .powerup → exec .vddsafeUp s = .next { s with safe := { s.safe with vdd := true } }) ∧
  s.Gives .vddsafeLoss (fun t => t.ist = .powerup ∧ t.safe.committed = false ∧ t.safe.active = [] ∧
    t.safe.drive = 0 ∧ t.safe.vdd = false ∧ t.get F.TRIP_STAT_SVB_DEM = 63) ∧
  (∀ cause, cause < 256 → s.safe.testing = true → s.ist = .powerup →
    s.Gives (.islandSelftestDone true cause) (fun t => t.ist = .unconf ∧ t.safe.testing = false ∧ t.safe.drive = 0) ∧
    s.Gives (.islandSelftestDone false cause) (fun t =>
      IslandFaulted (cause % 2 ^ F.SAFE_CHK_FCAUSE.w) t ∧ t.safe.testing = false)) ∧
  (∀ cause, cause < 256 → s.safe.testing = true → s.ist = .fault → s.safe.committed = false →
    s.Gives (.islandSelftestDone true cause) (fun t => t.ist = .unconf ∧ t.on F.SAFE_STAT_SVB = true ∧
      t.on F.SAFE_STAT_SBT = true)) ∧
  (s.Awake → (s.ist = .unconf ∨ s.ist = .operate) →
    (s.commitCode = 0 → s.Gives .commit (fun t => t.ist = .operate ∧ t.safe.committed = true ∧
      t.on F.SAFE_STAT_SVB = true ∧ t.on F.SAFE_STAT_SBT = true ∧ t.safe.crc = s.get R.SAFE_CRC ∧
      (∀ f ∈ safeImage, t.act f = s.word f))) ∧
    (s.commitCode ≠ 0 → exec .commit s =
      .next ((s.set F.SAFE_CHK_CODE s.commitCode).set F.SAFE_FLAG_CRC_REJ 1)) ∧
    exec .islandReset s = .next { s with safe := { s.safe with reqHost := true } } ∧
    exec .freset s = .next (s.set F.SAFE_FLAG_CMD_REJ 1)) ∧
  (s.Awake → s.ist = .fault → s.safe.vdd = true → exec .islandReset s = .next s ∧
    exec .freset s = .next { s with safe := { s.safe with testing := true } }) ∧
  (∀ n b level held, n < 16 → s.safe.vdd = true → s.act (F.SAFE_SIN_CFG_TYPE n) ≠ 3 →
    (held < s.debounce n → exec (.contactDebounce n b ⟨level, held⟩) s = .next s) ∧
    (s.debounce n ≤ held → s.Gives (.contactDebounce n b ⟨level, held⟩) (fun t =>
      bit (if b then t.safe.cb else t.safe.ca) n = level ∧
      t.safe = { s.safe with ca := t.safe.ca, cb := t.safe.cb } ∧ t.regs = s.regs))) ∧
  (∀ n held, n < 16 → (s.act (F.SAFE_SIN_CFG_TYPE n) = 1 ∨ s.act (F.SAFE_SIN_CFG_TYPE n) = 2) →
    s.sinNormal n false ≠ s.sinNormal n true →
    (held < 160000 * max 1 (s.act (F.SAFE_SIN_CFG_DISC n)) → exec (.inputDiscrepancy ⟨n, held⟩) s = .next s) ∧
    (160000 * max 1 (s.act (F.SAFE_SIN_CFG_DISC n)) ≤ held → s.Gives (.inputDiscrepancy ⟨n, held⟩) (fun t =>
      t.sinState n = 2 ∧ t.on F.SAFE_FLAG_DISC = true ∧
      RegsOnly [F.SAFE_FLAG_DISC.addr] { s with safe := t.safe } t))) ∧
  (∀ a b p, a < 256 → b < 256 → s.ist = .operate →
    (p % 128 ≠ s.permits → s.Gives (.islandEvaluation a b p) (IslandFaulted 6)) ∧
    (p % 128 = s.permits → s.svbWanted = true → s.Gives (.islandEvaluation a b p) (fun t =>
      t.on F.SAFE_STAT_SVB = true ∧ t.ist = .operate ∧ ∀ k, k < 6 →
        bit (s.act F.SAFE_SVB_CFG_ARMS) k = true → t.armLow k = true ∧ t.bitOf F.TRIP_STAT_SVB_DEM k = true)) ∧
    (p % 128 = s.permits → s.svbWanted = false → s.on F.SAFE_STAT_SVB = true → s.safe.fresh = false →
      s.safe.reqIn = true → s.Gives (.islandEvaluation a b p) (fun t => t.on F.SAFE_STAT_SVB = false ∧
        t.safe.reqIn = false ∧ t.ist = .operate))) ∧
  (∀ a b p, a < 256 → b < 256 → s.ist = .fault → s.Gives (.islandEvaluation a b p) (fun t =>
    t.ist = .fault ∧ t.safe.drive = 0 ∧ t.safe.rba = a ∧ t.safe.rbb = b ∧
    t.on F.SAFE_STAT_SVB = s.on F.SAFE_STAT_SVB ∧ t.on F.SAFE_STAT_SBT = s.on F.SAFE_STAT_SBT)) ∧
  (∀ b, s.sapHolds = true → s.safe.sapFrom = some b →
    (s.elapsed < b + 1000000000 * max 1 (s.act F.SAFE_SAP_CFG_DLY) → exec .sapDelayExpiry s = .next s) ∧
    (b + 1000000000 * max 1 (s.act F.SAFE_SAP_CFG_DLY) ≤ s.elapsed → s.Gives .sapDelayExpiry (fun t =>
      t.on F.SAFE_STAT_SAP_ON = true ∧ (s.safe.flt = 0 → ∀ o, o < 8 →
        bit (s.act F.SAFE_SAP_CFG_OUTS) o = true → bit t.safe.drive o = true)))) ∧
  (∀ o bad, o < 8 → s.ist = .operate → bit s.safe.drive o = true → s.actOn (F.SAFE_SOUT_CFG_OPT_EN o) = true →
    (bad < 2 → exec (.offPulseTest o bad) s = .next (s.inc R.SAFE_CNT_OP)) ∧
    (2 ≤ bad → s.Gives (.offPulseTest o bad) (fun t => bit t.safe.flt o = true ∧ bit t.safe.drive o = false ∧
      t.on F.SAFE_FLAG_OUT_FLT = true ∧ t.get R.SAFE_CNT_OP = satInc 32 (s.get R.SAFE_CNT_OP)))) ∧
  (∀ b, s.on F.SAFE_STAT_WD_ARMED = true → s.ist = .operate → s.safe.wdLast = some b →
    (s.elapsed ≤ b + 100 * s.act F.SAFE_WD_WD_MAX → exec .watchdogExpiry s = .next s) ∧
    (b + 100 * s.act F.SAFE_WD_WD_MAX < s.elapsed → s.Gives .watchdogExpiry (fun t =>
      t.on F.SAFE_STAT_WD_EXP = true ∧ t.on F.SAFE_STAT_WD_ARMED = false ∧ t.on F.SAFE_FLAG_WD_LATE = true ∧
      (s.actOn F.SAFE_SVB_SRC_WD = true → t.on F.SAFE_STAT_SVB = true)))) ∧
  ((s.ist = .unconf ∨ s.ist = .operate) →
    (∀ w, w < 31 → s.activeCrc = s.safe.crc → exec (.configCrcCheck w 0) s = .next s) ∧
    (∀ w, w < 31 → s.safe.committed = true → s.activeCrc ≠ s.safe.crc →
      s.Gives (.configCrcCheck w 0) (IslandFaulted 4)) ∧
    (∀ err, (60 < err → s.Gives (.rcMonitorCheck err) (IslandFaulted 2)) ∧
      (err ≤ 60 → exec (.rcMonitorCheck err) s = .next s)) ∧
    s.Gives (.marchTest false) (IslandFaulted 3) ∧ exec (.marchTest true) s = .next s ∧
    s.Gives (.patternTest false) (IslandFaulted 5) ∧ exec (.patternTest true) s = .next s ∧
    s.Gives .vddsafeOutOfRange (fun t => IslandFaulted 1 t ∧ t.safe.vdd = false))

/-- In RUN inside a cycle, the instruction at the program counter completes with the meaning of R451:
bit instructions act on LA with a bit operand or write it where its area is writable, word
instructions on ACC, comparisons set LA signed, jumps set the program counter, PUSHA, PUSHO and
POP work the stack of 16 and halt with STACK beyond it, timers, counters and edge detectors
evaluate as the pseudocode gives, CRST brings a counter to its start, RDR, WRR and SUBM access
BAR0 by their rules, END with an empty stack ends the cycle. A word that reads bad ends the
instruction. An operand outside its area reads a free value, and the clocks of RDR and SUBM are
free within their bound (notes/assumptions/2.md). Timer records are stated with no force in
effect. (R444, R445, R451, R452, R453, R454, R455, R461, R469) -/
def Obligations.StationLogicInstructions : Prop :=
  LogicRow .logicLd 0x01 1 (ReadsBit (fun _ b => b)) ∧
  LogicRow .logicLdn 0x02 1 (ReadsBit (fun _ b => !b)) ∧
  LogicRow .logicAnd 0x03 1 (ReadsBit (fun a b => a && b)) ∧
  LogicRow .logicAndn 0x04 1 (ReadsBit (fun a b => a && !b)) ∧
  LogicRow .logicOr 0x05 1 (ReadsBit (fun a b => a || b)) ∧
  LogicRow .logicOrn 0x06 1 (ReadsBit (fun a b => a || !b)) ∧
  LogicRow .logicXor 0x07 1 (ReadsBit (fun a b => xor a b)) ∧
  LogicRow .logicSt 0x08 1 (fun w u t => WritesBit u.logic.la w u t) ∧
  LogicRow .logicStn 0x09 1 (fun w u t => WritesBit (!u.logic.la) w u t) ∧
  LogicRow .logicSet 0x0A 1 (fun w u t => if u.logic.la then WritesBit true w u t else t = u) ∧
  LogicRow .logicRst 0x0B 1 (fun w u t => if u.logic.la then WritesBit false w u t else t = u) ∧
  LogicRow .logicNot 0x0C 1 (fun _ u t => u.WithLa t (!u.logic.la)) ∧
  LogicRow .pusha 0x0D 1 (fun _ u t =>
    (u.logic.stack.length < 16 → t = { u with logic := { u.logic with stack := (u.logic.la, true) :: u.logic.stack, la := true } }) ∧
    (16 ≤ u.logic.stack.length → t.lgst = .halt ∧ t.get F.LOGIC_STAT_HCAUSE = 1)) ∧
  LogicRow .pusho 0x0E 1 (fun _ u t =>
    (u.logic.stack.length < 16 → t = { u with logic := { u.logic with stack := (u.logic.la, false) :: u.logic.stack, la := false } }) ∧
    (16 ≤ u.logic.stack.length → t.lgst = .halt ∧ t.get F.LOGIC_STAT_HCAUSE = 1)) ∧
  LogicRow .pop 0x0F 1 (fun _ u t =>
    (∀ r op rest, u.logic.stack = (r, op) :: rest → t = { u with logic := { u.logic with stack := rest, la := if op then r && u.logic.la else r || u.logic.la } }) ∧
    (u.logic.stack = [] → t.lgst = .halt ∧ t.get F.LOGIC_STAT_HCAUSE = 1)) ∧
  LogicRow .logicRe 0x10 2 (EdgeRow false) ∧ LogicRow .logicFe 0x11 2 (EdgeRow true) ∧
  LogicRow .ton 0x12 3 (TimerRow 1) ∧ LogicRow .tof 0x13 3 (TimerRow 2) ∧ LogicRow .tp 0x14 3 (TimerRow 3) ∧
  LogicRow .ctu 0x15 2 (CounterRow true) ∧ LogicRow .ctd 0x16 2 (CounterRow false) ∧
  LogicRow .crst 0x17 2 (fun w u t => (u.logic.la = false → t = u) ∧
    (u.logic.la = true → ∀ o w0 pv v, o = 0x9400 + 16 * (lSlot w % 256) → u.lWords o 2 = (some [w0, pv], v) →
      t = v.wr32 (logicBase + (o + 8)) (v.lView (o + 8) ((if bits w0 4 3 = 5 then pv else 0) % 2 ^ 32)))) ∧
  LogicRow .ldw 0x20 1 (ReadsWord (fun d v t => v.WithAcc t (d % 2 ^ 32))) ∧
  LogicRow .ldi 0x21 1 (fun w u t => u.WithAcc t ((BitVec.ofNat 16 w).signExtend 32).toNat) ∧
  LogicRow .ldih 0x22 1 (fun w u t => u.WithAcc t (u.logic.acc % 65536 + 65536 * (w % 65536))) ∧
  LogicRow .stw 0x23 1 (fun w u t => WritesWord u.logic.acc w u t) ∧
  LogicRow .stwc 0x24 1 (fun w u t => if u.logic.la then WritesWord u.logic.acc w u t else t = u) ∧
  LogicRow .logicAdd 0x25 1 (ReadsWord (fun d v t => v.WithAcc t (v.accBv + BitVec.ofNat 32 d).toNat)) ∧
  LogicRow .logicSub 0x26 1 (ReadsWord (fun d v t => v.WithAcc t (v.accBv - BitVec.ofNat 32 d).toNat)) ∧
  LogicRow .logicMul 0x27 2 (ReadsWord (fun d v t => v.WithAcc t (v.accBv * BitVec.ofNat 32 d).toNat)) ∧
  LogicRow .andw 0x28 1 (ReadsWord (fun d v t => v.WithAcc t (v.accBv &&& BitVec.ofNat 32 d).toNat)) ∧
  LogicRow .orw 0x29 1 (ReadsWord (fun d v t => v.WithAcc t (v.accBv ||| BitVec.ofNat 32 d).toNat)) ∧
  LogicRow .xorw 0x2A 1 (ReadsWord (fun d v t => v.WithAcc t (v.accBv ^^^ BitVec.ofNat 32 d).toNat)) ∧
  LogicRow .addi 0x2B 1 (fun w u t => u.WithAcc t (u.accBv + (BitVec.ofNat 16 w).signExtend 32).toNat) ∧
  LogicRow .logicShl 0x2C 1 (fun w u t => u.WithAcc t (u.accBv <<< (w % 32)).toNat) ∧
  LogicRow .logicShr 0x2D 1 (fun w u t => u.logic.acc < 2 ^ 32 → u.WithAcc t (u.accBv >>> (w % 32)).toNat) ∧
  LogicRow .logicSar 0x2E 1 (fun w u t => u.WithAcc t (u.accBv.sshiftRight (w % 32)).toNat) ∧
  LogicRow .ceq 0x30 1 (ReadsWord (fun d v t => v.WithLa t (decide (v.accBv = BitVec.ofNat 32 d)))) ∧
  LogicRow .cgt 0x31 1 (ReadsWord (fun d v t => v.WithLa t ((BitVec.ofNat 32 d).slt v.accBv))) ∧
  LogicRow .clt 0x32 1 (ReadsWord (fun d v t => v.WithLa t (v.accBv.slt (BitVec.ofNat 32 d)))) ∧
  LogicRow .logicBit 0x33 1 (fun w u t => u.WithLa t (u.logic.acc.testBit (w % 32))) ∧
  LogicRow .jmp 0x38 1 (fun w u t => t = { u with logic := { u.logic with pc := w % 65536, clocks := u.logic.clocks + 11 } }) ∧
  LogicRow .jt 0x39 1 (fun w u t => t = if u.logic.la then { u with logic := { u.logic with pc := w % 65536, clocks := u.logic.clocks + 11 } } else u) ∧
  LogicRow .jf 0x3A 1 (fun w u t => t = if u.logic.la then u else { u with logic := { u.logic with pc := w % 65536, clocks := u.logic.clocks + 11 } }) ∧
  LogicRow .logicEnd 0x3B 1 (fun _ u t =>
    (u.logic.stack ≠ [] → t.lgst = .halt ∧ t.get F.LOGIC_STAT_HCAUSE = 1) ∧
    (u.logic.stack = [] → u.get F.MEM_INJ_MODE = 0 → u.synd = [] → u.lgst = .run →
      t.get R.LOGIC_TEXEC_LAST = min u.logic.clocks (2 ^ 32 - 1) ∧ t.logic.inCycle = false ∧
      t.logic.copy = 1 - u.logic.copy % 2 ∧ t.on F.LOGIC_STAT_XPEND = false ∧
      t.lgst = (if u.on F.LOGIC_STAT_STOP_PEND then .stop else .run))) ∧
  LogicRow .rdr 0x3C 1 (ReadsWord (fun a v t => ∃ c, c < 25 ∧
    ∀ z, z = { v with free := v.free + 1, logic := { v.logic with clocks := v.logic.clocks + c } } →
    (rdrOk a = false → t.logic.acc = 0 ∧ t.on F.LOGIC_FLAG_ACC_REJ = true ∧
      t.get R.LOGIC_CNT_ACCREJ = satInc 32 (v.get R.LOGIC_CNT_ACCREJ)) ∧
    (rdrOk a = true → ∀ d y, z.busR a logicOrg 0x34 = (d, false, y) → y.WithAcc t (d % 2 ^ 32)))) ∧
  LogicRow .wrr 0x3D 1 (fun w u t => if u.logic.la then ReadsWord (fun a v t =>
    (wrrOk a = true → t = v.busW { a := a, mask := 0xFFFFFFFF, data := v.logic.acc, org := logicOrg, via := .direct }) ∧
    (wrrOk a = false → t.on F.LOGIC_FLAG_ACC_REJ = true ∧ t.mem = v.mem ∧
      t.get R.LOGIC_CNT_ACCREJ = satInc 32 (v.get R.LOGIC_CNT_ACCREJ))) w u t else t = u) ∧
  LogicRow .subm 0x3E 1 (fun w u t => if u.logic.la then ReadsWord (fun a v t => ∃ c, c < 4 ∧
    ∀ z, z = { v with free := v.free + 1, logic := { v.logic with clocks := v.logic.clocks + c } } →
    (a % 32 = 0 → memClass a = some 0 → t = z.submitTpl 0x17 (a - sramBase) none) ∧
    ((a % 32 ≠ 0 ∨ memClass a ≠ some 0) → t.on F.LOGIC_FLAG_ACC_REJ = true ∧ t.mem = v.mem)) w u t else t = u) ∧
  LogicRow .logicNop 0x3F 1 (fun _ u t => t = u)

/-- START takes STOP or HALT of a live part to ARMED with its restart kind, else CMD_REJ; STOP in RUN
waits for the end sequence. VALIDATE clears VALID and is busy; its end, the program read through
the error code, sets VALID or the code and index of the first failure. EXCHANGE with VALID waits
in RUN and acts at once elsewhere: the bank changes, VALID clears, it counts; else CMD_REJ. The
memory port writes a word of the image, discards one into the system area, reads a word, and
advances with INC. The end of a retain write frees RET_BUSY and counts as written or as failed. At
a cycle boundary RUN starts a cycle with LA, ACC, stack and program counter at 0; a cycle still
running is skipped, the third skip halts with RUNAWAY; elsewhere nothing starts. (R448, R450,
R456, R457, R462, R463, R464, R466, R468) -/
def Obligations.LogicEngineCommandsAndCycles : Prop :=
  (∀ (s : State), s.Awake →
    (s.live = true → (s.lgst = .stop ∨ s.lgst = .halt) → s.get F.MEM_INJ_MODE = 0 →
      s.Gives .startCold (fun t => t.lgst = .armed ∧ t.logic.cold = true ∧ t.get F.LOGIC_STAT_HCAUSE = 0 ∧
        t.rd32 (logicBase + 0xB444) = 1) ∧
      s.Gives .startWarm (fun t => t.lgst = .armed ∧ t.logic.cold = false ∧ t.get F.LOGIC_STAT_HCAUSE = 0 ∧
        t.rd32 (logicBase + 0xB444) = 1)) ∧
    ((s.live = false ∨ (s.lgst ≠ .stop ∧ s.lgst ≠ .halt)) →
      exec .startCold s = .next (s.set F.LOGIC_FLAG_CMD_REJ 1) ∧
      exec .startWarm s = .next (s.set F.LOGIC_FLAG_CMD_REJ 1)) ∧
    (s.lgst = .run → exec .logicStop s = .next (s.set F.LOGIC_STAT_STOP_PEND 1)) ∧
    (s.lgst ≠ .run → exec .logicStop s = .next s) ∧
    s.Gives .validate (fun t => t.on F.LOGIC_XCHK_BUSY = true ∧ t.get F.LOGIC_XCHK_CODE = 0 ∧
      t.get F.LOGIC_XCHK_INDEX = 0 ∧ t.on F.LOGIC_STAT_VALID = false ∧
      RegsOnly [R.LOGIC_XCHK.addr, R.LOGIC_STAT.addr] s t) ∧
    (s.on F.LOGIC_STAT_VALID = true → s.on F.LOGIC_STAT_XPEND = false →
      (s.lgst = .run → exec .exchange s = .next (s.set F.LOGIC_STAT_XPEND 1)) ∧
      (s.lgst ≠ .run → s.Gives .exchange (fun t => t.lActive = 1 - s.lActive ∧ t.on F.LOGIC_STAT_VALID = false ∧
        t.on F.LOGIC_STAT_XPEND = false ∧ t.get R.LOGIC_CNT_XCHG = satInc 32 (s.get R.LOGIC_CNT_XCHG)))) ∧
    ((s.on F.LOGIC_STAT_VALID = false ∨ s.on F.LOGIC_STAT_XPEND = true) →
      exec .exchange s = .next (s.set F.LOGIC_FLAG_CMD_REJ 1))) ∧
  (∀ (s : State), (s.on F.LOGIC_XCHK_BUSY = false → exec .validateDone s = .next s) ∧
    (s.on F.LOGIC_XCHK_BUSY = true →
      ∀ u, u = (s.set F.LOGIC_XCHK_BUSY 0).lBankRead (1 - s.lActive) → (s.synd = [] → u = s.set F.LOGIC_XCHK_BUSY 0) ∧
      (u.lValidate (1 - s.lActive) = none → exec .validateDone s = .next (u.set F.LOGIC_STAT_VALID 1)) ∧
      (∀ c i, u.lValidate (1 - s.lActive) = some (c, i) → exec .validateDone s =
        .next ((u.set F.LOGIC_XCHK_CODE c).set F.LOGIC_XCHK_INDEX i)))) ∧
  (∀ (s : State) a, s.Awake → a = 4 * s.get F.LOGIC_MEM_ADDR_WORD →
    (∀ v, v < 2 ^ 32 → s.get F.MEM_INJ_MODE = 0 → s.Gives (.logicMemAccess (some v)) (fun t =>
      (0xB400 ≤ a → a ≤ 0xB4FF → t.on F.LOGIC_FLAG_MEM_WDISC = true ∧ t.mem = s.mem) ∧
      (a < 0xB400 → t.rd32 (logicBase + a) = v ∧ (∀ c, (c < logicBase + a ∨ logicBase + a + 4 ≤ c) →
        memGet t.mem c = memGet s.mem c)) ∧
      (0xB4FF < a → a < 0xD000 → t.rd32 (logicBase + a) = v) ∧ (0xD000 ≤ a → t.mem = s.mem) ∧
      t.get F.LOGIC_MEM_ADDR_WORD = (if s.on F.LOGIC_MEM_ADDR_INC then (s.get F.LOGIC_MEM_ADDR_WORD + 1) % 2 ^ 14
        else s.get F.LOGIC_MEM_ADDR_WORD))) ∧
    (a < 0xD000 → sget s.synd 0 ((logicBase + a) / 4) = 0 → s.Gives (.logicMemAccess none) (fun t =>
      t.out = s.out ++ [.bar0 (s.rd32 (logicBase + a)) false false] ∧ t.mem = s.mem ∧
      t.get F.LOGIC_MEM_ADDR_WORD = (if s.on F.LOGIC_MEM_ADDR_INC then (s.get F.LOGIC_MEM_ADDR_WORD + 1) % 2 ^ 14
        else s.get F.LOGIC_MEM_ADDR_WORD)))) ∧
  (∀ (s : State) back, (s.logic.retPend = none → exec (.retainWriteDone back) s = .next s) ∧
    (∀ b d h, s.logic.retPend = some (b, d, h) → s.Gives (.retainWriteDone back) (fun t =>
      t.on F.LOGIC_STAT_RET_BUSY = false ∧ t.logic.retPend = none ∧
      (slice back 0 16 = h → t.get R.LOGIC_CNT_RET = satInc 32 (s.get R.LOGIC_CNT_RET)) ∧
      (slice back 0 16 ≠ h → t.on F.LOGIC_FLAG_RET_ERR = true ∧
        t.get R.LOGIC_CNT_RETERR = satInc 32 (s.get R.LOGIC_CNT_RETERR)) ∧ t.mem = s.mem))) ∧
  (∀ (s : State), (s.lBoundary = false → exec .logicCycleStart s = .next s) ∧
    (s.lBoundary = true → s.lgst = .run → s.logic.inCycle = true → s.Gives .logicCycleStart (fun t =>
      t.on F.LOGIC_FLAG_OVR = true ∧ t.get R.LOGIC_CNT_OVR = satInc 32 (s.get R.LOGIC_CNT_OVR) ∧
      t.logic.skips = s.logic.skips + 1 ∧
      (s.logic.skips < 2 → t.lgst = .run ∧ t.logic.inCycle = true ∧ t.logic.pc = s.logic.pc) ∧
      (2 ≤ s.logic.skips → t.lgst = .halt ∧ t.get F.LOGIC_STAT_HCAUSE = 3))) ∧
    (s.lBoundary = true → s.lgst = .run → s.logic.inCycle = false → s.get F.MEM_INJ_MODE = 0 → s.synd = [] →
      (∀ w, w < 128 → s.get (F.LOGIC_IMAP_CFG_TYPE w) ≠ 1) →
      s.Gives .logicCycleStart (fun t => t.logic.inCycle = true ∧ t.logic.la = false ∧ t.logic.acc = 0 ∧
        t.logic.stack = [] ∧ t.logic.pc = 0 ∧ t.logic.clocks = 0 ∧ t.logic.k = s.lIndex)) ∧
    (s.lBoundary = true → s.lgst = .armed → s.logic.cold = true → s.get F.MEM_INJ_MODE = 0 → s.synd = [] →
      (∀ w, w < 128 → s.get (F.LOGIC_IMAP_CFG_TYPE w) ≠ 1) →
      s.Gives .logicCycleStart (fun t => t.logic.inCycle = true ∧ t.logic.pc = 0 ∧ t.logic.k = s.lIndex)) ∧
    (s.lBoundary = true → (s.lgst = .stop ∨ s.lgst = .halt) → s.logic.zeroPub = false →
      exec .logicCycleStart s = .next { s.toOfs 8 with logic := { (s.toOfs 8).logic with taken := s.time.pidx + 1 } }))

/-- A tick that is due writes one sample of the segment's channels at its place and counts it; the
last sample of POST closes the record. A detected trigger, a timeout, and a soft trigger reach
exactly the segments they name: nothing in IDLE and in the cycle of ARM, masked or taken in ARMED,
missed elsewhere but where it comes before one taken in the same cycle. ARM takes a segment that
passes every check to ARMED with no samples, else sets CODE and ARM_REJ; DISARM takes it to IDLE;
RELEASE takes DONE to REARM, whose end is ARMED again. A configuration write of a segment that is
not IDLE is refused with CFG_WREJ, else taken. A comparator edge sets the unit's level and its
events complete pulses. A READ starts when no other runs; its end gives its bytes, or
FAILED_ACCESS outside a DONE record. Which segments and units an operand-free row names is the
model's choice (notes/assumptions/48.md). A submission at DONE is left to VSP_DONE_TPL. (R472,
R473, R474, R475, R477, R478, R479, R480, R481, R482, R486, R487) -/
def Obligations.RecorderSegmentsAndTriggers : Prop :=
  (∀ (s : State) g z, g < 16 → s.segDue g = some z → z ≤ s.now →
    (∀ c ∈ s.segCh g, s.chWait c (z * 2 ^ 16) = false) → (∀ h, h < 16 → h ≠ g → s.segDue h = none) →
    (∀ h, h < 16 → h ≠ g → (s.segSample g z).segDue h = none) →
    exec .vspTick s = .next (s.segSample g z) ∧
    (s.segState g = 1 → ((s.segSample g z).seg g).cnt = (s.seg g).cnt + 1 ∧
      (s.segSample g z).get (R.VSP_SEG_WR g) = min ((s.seg g).cnt + 1) (2 ^ 32 - 1) ∧
      (s.segSample g z).segState g = 1 ∧
      (s.get F.MEM_INJ_MODE = 0 → s.synd = [] → (∀ c ∈ s.segCh g, s.get (F.VSP_CH_CFG_TYPE c) ∈ ([1, 2, 3, 4] : List Nat)) →
        ∀ k, k < (s.segCh g).length → (s.segSample g z).rdN (s.segAddr g (s.seg g).cnt + 2 * k) 2 =
          (s.chValue (nth (s.segCh g) 0 k) z).1)) ∧
    (∀ i j, s.segState g = 2 → s.on F.VSP_DONE_TPL_EN = false → (s.seg g).trig = some (i, j) →
      j + s.get (F.VSP_SEG_POST_POST g) = (s.seg g).cnt + 1 → (s.segSample g z).segState g = 3 ∧
      ((s.segSample g z).seg g).post = s.get (F.VSP_SEG_POST_POST g) ∧
      ((s.segSample g z).seg g).seq = ((s.seg g).seq + 1) % 65536 ∧
      (s.segSample g z).bitOf F.VSP_STAT_DONE g = true)) ∧
  (∀ (s : State) u i ip rest, u < 8 → s.fireNext = some (u, i) → (s.tu u).fires = (i, ip) :: rest →
    s.on F.VSP_DONE_TPL_EN = false → s.Gives .triggerUnitFire (fun t => (t.tu u).fires = rest ∧
      ∀ g, g < 16 → (bit (s.get (F.VSP_SEG_TRIG_UNITS g)) u = true → SegTriggered s t g i u) ∧
        (bit (s.get (F.VSP_SEG_TRIG_UNITS g)) u = false → t.seg g = s.seg g ∧ t.segState g = s.segState g))) ∧
  (∀ (s : State), s.fireNext = none → exec .triggerUnitFire s = .next s) ∧
  (∀ (s : State) u i, u < 8 → s.tuDue u = some i → i ≤ s.now16 →
    (s.on (F.VSP_TU_CFG_SRC u) = true ∨ s.chWait (s.get (F.VSP_TU_CFG_INDEX u)) i = false) → (∀ v, v < 8 → v ≠ u → s.tuDue v = none) →
    s.on F.VSP_DONE_TPL_EN = false → s.Gives .triggerTimeout (fun t => (t.tu u).timed = true ∧
      ∀ g, g < 16 → bit (s.get (F.VSP_SEG_TRIG_UNITS g)) u = true → SegTriggered s t g i u)) ∧
  (∀ (s : State) m, m < 65536 → s.Awake → s.on F.VSP_DONE_TPL_EN = false → s.Gives (.vspCmd m) (fun t =>
    ∀ g, g < 16 → (bit m g = true → SegTriggered s t g s.now16 8) ∧
      (bit m g = false → t.seg g = s.seg g ∧ t.segState g = s.segState g))) ∧
  (∀ (s : State) g, g < 16 → s.Awake →
    (s.on F.VSP_DONE_TPL_EN = false → s.Gives (.soft g) (fun t => SegTriggered s t g s.now16 8)) ∧
    (s.armCode g = 0 → s.Gives (.arm g) (fun t => t.segState g = 1 ∧ t.seg g =
      { seq := (s.seg g).seq, first := (t.seg g).first, nextP := (t.seg g).nextP, armAt := some s.elapsed } ∧
      t.get (R.VSP_SEG_WR g) = 0 ∧ t.bitOf F.VSP_STAT_ARMED g = true)) ∧
    (s.armCode g ≠ 0 → exec (.arm g) s =
      .next ((s.set (F.VSP_SEG_STAT_CODE g) (s.armCode g)).set (F.VSP_SEG_STAT_ARM_REJ g) 1)) ∧
    (s.segState g ≠ 0 → s.Gives (.disarm g) (fun t => t.segState g = 0 ∧ t.seg g = { seq := (s.seg g).seq } ∧
      t.bitOf F.VSP_STAT_ARMED g = false ∧ t.bitOf F.VSP_STAT_DONE g = false)) ∧
    (s.segState g = 0 → exec (.disarm g) s = .next s) ∧
    (s.segState g = 3 → s.Gives (.release g) (fun t => t.segState g = 4 ∧ t.seg g = { seq := (s.seg g).seq } ∧
      t.bitOf F.VSP_STAT_DONE g = false)) ∧
    (s.segState g ≠ 3 → exec (.release g) s = .next s) ∧
    (s.segState g = 4 → s.Gives (.rearmDone g) (fun t => t.segState g = 1 ∧ (t.seg g).cnt = 0 ∧
      (t.seg g).trig = none ∧ (t.seg g).seq = (s.seg g).seq)) ∧
    (s.segState g ≠ 4 → exec (.rearmDone g) s = .next s)) ∧
  (∀ (s : State) g k data, g < 16 → k < 6 → data < 2 ^ 32 → s.Awake →
    (s.segState g ≠ 0 → exec (.vspConfigWrite g k data) s = .next (s.set F.VSP_FLAG_CFG_WREJ 1)) ∧
    (s.segState g = 0 → s.Gives (.vspConfigWrite g k data) (fun t => RegsOnly [segReg g k] s t ∧
      (k = 0 → t.on (F.VSP_SEG_CFG_FULLPRE g) = bit data 0 ∧ t.on (F.VSP_SEG_CFG_TBASE g) = bit data 1 ∧
        t.get (F.VSP_SEG_CFG_DIV g) = bits data 16 16) ∧
      (k = 1 → t.get (F.VSP_SEG_MEM_BASE g) = bits data 0 11 ∧ t.get (F.VSP_SEG_MEM_LEN g) = bits data 16 12) ∧
      (k = 2 → t.get (R.VSP_SEG_CHLO g) = data) ∧ (k = 3 → t.get (R.VSP_SEG_CHHI g) = data) ∧
      (k = 4 → t.get (F.VSP_SEG_POST_POST g) = bits data 0 23) ∧
      (k = 5 → t.get (F.VSP_SEG_TRIG_UNITS g) = bits data 0 8 ∧ t.on (F.VSP_SEG_TRIG_TRIP g) = bit data 8)))) ∧
  (∀ (s : State) u hi up z, u < 8 →
    ((s.on (F.VSP_TU_CFG_EN u) = false ∨ s.on (F.VSP_TU_CFG_SRC u) = false) →
      exec (.ainComparatorEdge u hi up z) s = .next s) ∧
    (s.on (F.VSP_TU_CFG_EN u) = true → s.on (F.VSP_TU_CFG_SRC u) = true →
      s.Gives (.ainComparatorEdge u hi up z) (fun t => t.regs = s.regs ∧
        (t.tu u).level = some (if hi then (if up then 2 else 1) else (if up then 1 else 0)) ∧
        (s.on (F.VSP_TU_CFG_POL u) = false → hi = true → up = true → (s.tu u).high = none →
          (t.tu u).high = some (z * 1024)) ∧
        (∀ p, s.on (F.VSP_TU_CFG_POL u) = false → s.get (F.VSP_TU_CFG_TYPE u) = 0 → hi = false → up = false →
          (s.tu u).high = some p → (t.tu u).high = none ∧ (t.tu u).fires =
            (s.tu u).fires ++ (if s.tuCond u (z * 1024 - p) then [(z * 1024, true)] else []))))) ∧
  (∀ (s : State) r hm d u, r < 32 → (s.see hm).fetchEvent r hm (wantOp (s.see hm) r .vsp 1) = (.start d, u) →
    ((u.ring r).outs.any (·.busy) = true → exec (.vspRead r hm) s = .next u) ∧
    ((u.ring r).outs.any (·.busy) = false → exec (.vspRead r hm) s =
      .next (u.updDesc r d.idx (fun e => { e with busy := true })))) ∧
  (∀ (s : State) r hm d g, r < 32 → s.rtype r = .vsp → (s.ring r).outs = [d] → d.busy = true → d.started = true →
    d.cancelLate = false → s.get (R.HOST_RING_CI r) = d.idx →
    g = fieldLE d.bytes 8 1 % 16 →
    (s.readOk d.bytes = false →
      exec (.vspReadDone r hm) s = .next ((s.see hm).complete r d.idx 1 0 0)) ∧
    (s.readOk d.bytes = true → ∀ b u k v,
      (s.see hm).imageRead g (fieldLE d.bytes 12 4) (fieldLE d.bytes 16 4 / 4) = (b, false, u) →
      u.hostWr hm (ringReq r) (pagesOf (fieldLE d.bytes 24 8) (fieldLE d.bytes 16 4)) (fieldLE d.bytes 24 8) b =
        (k, true, v) → ∀ q, q = v.complete r d.idx 0 (fieldLE d.bytes 16 4) 0 →
      exec (.vspReadDone r hm) s = .next (if bit (fieldLE d.bytes 9 1) 0 then q.segRelease g else q)))

/-- While RUN of a converter is 1, while it is one of an interleaved pair, or while its self-
calibration runs, a START sets START_IGN of that converter and changes nothing else; a write of
RUN = 1 to a converter of an enabled lock group leaves RUN as it is and sets START_IGN as well.
(R492) -/
def Obligations.StartsThatTheConverterIgnores : Prop :=
  ∀ (s : State) c, c < 8 → s.Awake →
    ((s.on (F.ADC_CTRL_RUN c) = true ∨ s.ilv c = true ∨ s.on (F.ADC_STAT_CAL_BUSY c) = true) →
      s.Gives (.adcStart c) (fun t => t.on (F.ADC_STAT_START_IGN c) = true ∧
        t.get (R.ADC_STAT c) = s.get (R.ADC_STAT c) ||| 2 ^ (F.ADC_STAT_START_IGN c).lo ∧
        t.get (R.ADC_CTRL c) = (setBits (s.get (R.ADC_CTRL c)) 1 1 (s.get (F.ADC_CTRL_RUN c))) ∧
        RegsOnly [(R.ADC_STAT c).addr, (R.ADC_CTRL c).addr] s t)) ∧
    (∀ data, data < 2 ^ 32 → bit data 1 = true → bit data 0 = false → s.inGroup c = true →
      s.Gives (.registerWrite (R.ADC_CTRL c).addr data) (fun t =>
        t.on (F.ADC_STAT_START_IGN c) = true ∧
        t.get (R.ADC_STAT c) = s.get (R.ADC_STAT c) ||| 2 ^ (F.ADC_STAT_START_IGN c).lo ∧
        RegsOnly [(R.ADC_STAT c).addr] s t))

/-- A START that is not ignored samples at the next edge of the 320 MHz clock, or with START_DLY at
the first edge 50 ns after the previous instant. The group START of a group that acts starts its
converters at its place in the period; free-running converters sample at their grid instants. A
result completes the oldest sample: DATA takes the code corrected by the factors of its sampling
instant (R499) with VALID, OVR, REF_UNSETTLED, CAL_STALE and SRC, CNT advances, PDATA takes the
same of a pair; an overflow counts. CAL starts or is refused with CMD_REJ, and while it runs DATA
keeps its value; its end replaces the factors, an interruption does not. ACCEPT clears CAL_STALE.
A rotation takes the freed slice's factor and moves SPARE on. A change of SEL clears REF_OK and
sets every CAL_STALE; REF_OK follows settling and tolerance. How many converters an operand-free
row names is the model's choice (notes/assumptions/48.md). (R51, R490, R491, R493, R494, R495,
R496, R497, R498, R499, R500, R501) -/
def Obligations.ConvertersSampleAndCalibrate : Prop :=
  (∀ (s : State) c z, c < 8 → s.Awake → s.gst ≠ .safeHold → s.on (F.ADC_CTRL_RUN c) = false → s.ilv c = false →
    s.on (F.ADC_STAT_CAL_BUSY c) = false →
    (z = edgeAfter s.now16 → (∀ p, (s.cv c).last = some p → p + ns50 ≤ z) →
      s.Gives (.adcStart c) (fun t => (t.cv c).last = some z ∧
        (t.cv c).flight = (s.cv c).flight ++ [s.sampleOf c z] ∧ (t.cv c).hist = (s.cv c).hist ∧
        t.get (R.ADC_STAT c) = s.get (R.ADC_STAT c) ∧ ∀ k, k ≠ c → t.cv k = s.cv k)) ∧
    (∀ p, (s.cv c).last = some p → edgeAfter s.now16 < p + ns50 → z = edgeFrom (p + ns50) →
      s.Gives (.adcStart c) (fun t => (t.cv c).last = some z ∧ t.on (F.ADC_STAT_START_DLY c) = true ∧
        (t.cv c).flight.map (·.at') = (s.cv c).flight.map (·.at') ++ [z] ∧ ∀ k, k ≠ c → t.cv k = s.cv k))) ∧
  (∀ (s : State) g, g < 8 →
    (s.lgActs g = true → (Line.code .start, g) ∉ s.time.acted → s.get (F.TIME_LG_OFS0_START_OFS g) < s.P →
      s.Awake → s.gst ≠ .safeHold → s.Gives (.lgStart g) (fun t => ∀ c, c < 8 →
        (bit (s.get (F.TIME_LG_CV_CV g)) c = false → t.cv c = s.cv c) ∧
        (bit (s.get (F.TIME_LG_CV_CV g)) c = true → s.on (F.ADC_CTRL_RUN c) = false → s.ilv c = false →
          s.on (F.ADC_STAT_CAL_BUSY c) = false → ∃ x, (t.cv c).flight = (s.cv c).flight ++ [x] ∧
            t.now16 < x.at' ∧ (t.cv c).last = some x.at'))) ∧
    (s.lgActs g = false ∨ (Line.code .start, g) ∈ s.time.acted ∨ s.P ≤ s.get (F.TIME_LG_OFS0_START_OFS g) →
      exec (.lgStart g) s = .next s)) ∧
  (∀ (s : State), s.Gives .freeRunSample (fun t => t.regs = s.regs ∧ ∀ c, c < 8 →
    (s.adcFree c = true → s.freeDue c = s.now → (t.cv c).last = some (s.now * 2 ^ 16) ∧
      (t.cv c).flight = (s.cv c).flight ++ [s.sampleOf c (s.now * 2 ^ 16)]) ∧
    ((s.adcFree c = false ∨ s.freeDue c ≠ s.now) → t.cv c = s.cv c))) ∧
  (∀ (s : State) c k r b f rest w y, c < 8 → k < 5 → s.adcLive = true →
    s.on (F.ADC_STAT_CAL_BUSY c) = false → (s.cv c).flight = f :: rest → f.at' ≤ (s.toSample c).now16 →
    f.src < 64 → w = nth f.facts 0x8000 k →
    y = (if s.on (F.ADC_CFG_CLASS c) then
      rs ((r * 16 - sx 16 (bits w 16 16)) * (bits w 0 16 : Int)) 19 else r) →
    s.Gives (.adcResult c k r b) (fun t => (t.cv c).flight = rest ∧
      ((t.cv c).hist.head?).map (·.1) = some f.at' ∧
      t.on (F.ADC_DATA_OVR c) = (b || decide (y < -32768 ∨ 32767 < y)) ∧
      t.get (F.ADC_DATA_SAMPLE c) = (if t.on (F.ADC_DATA_OVR c) then (if r < 0 then 0x8000 else 0x7FFF)
        else us 16 y) ∧
      t.on (F.ADC_DATA_VALID c) = f.far ∧
      t.on (F.ADC_DATA_REF_UNSETTLED c) = f.unset ∧ t.on (F.ADC_DATA_CAL_STALE c) = f.stale ∧
      t.get (F.ADC_DATA_SRC c) = f.src ∧ t.get (F.ADC_DATA_CNT c) = (s.get (F.ADC_DATA_CNT c) + 1) % 64 ∧
      (t.on (F.ADC_DATA_OVR c) = true → t.get (R.ADC_CNT_OVR c) = satInc 32 (s.get (R.ADC_CNT_OVR c))) ∧
      (s.ilv c = true → t.get (F.ADC_PDATA_SAMPLE (c / 2)) = t.get (F.ADC_DATA_SAMPLE c) ∧
        t.get (F.ADC_PDATA_CNT (c / 2)) = (s.get (F.ADC_PDATA_CNT (c / 2)) + 1) % 64) ∧
      t.mem = s.mem ∧ ∀ j, j ≠ c → t.cv j = s.cv j)) ∧
  (∀ (s : State) c k r b x rest, c < 8 → k < 5 → (s.cv c).flight = x :: rest →
    ((s.toSample c).now16 < x.at' → exec (.adcResult c k r b) s = .next (s.toSample c)) ∧
    (x.at' ≤ (s.toSample c).now16 → s.on (F.ADC_STAT_CAL_BUSY c) = true → exec (.adcResult c k r b) s =
      .next ((s.toSample c).setCv c { s.cv c with flight := rest }))) ∧
  (∀ (s : State) cv, cv < 256 → s.Awake → s.Gives (.cal cv) (fun t => ∀ c, c < 8 →
    (bit cv c = false → t.get (R.ADC_STAT c) = s.get (R.ADC_STAT c)) ∧
    (bit cv c = true → s.on (F.ADC_CFG_CLASS c) = true → s.on F.ADC_REF_REF_OK = true → s.gst ≠ .safeHold →
      t.on (F.ADC_STAT_CAL_BUSY c) = true ∧ t.on (F.ADC_DATA_VALID c) = false ∧
      t.get (F.ADC_DATA_SAMPLE c) = s.get (F.ADC_DATA_SAMPLE c)) ∧
    (bit cv c = true → (s.on (F.ADC_CFG_CLASS c) = false ∨ s.on F.ADC_REF_REF_OK = false ∨ s.gst = .safeHold) →
      t.on F.ADC_FLAG_CMD_REJ = true ∧ t.get (R.ADC_STAT c) = s.get (R.ADC_STAT c)))) ∧
  (∀ (s : State) c facts, c < 8 → s.on (F.ADC_STAT_CAL_BUSY c) = true → s.adcLive = true →
    (s.on F.ADC_REF_REF_OK = true → s.Gives (.calComplete c facts) (fun t =>
      (∀ k, k < 5 → t.get (R.ADC_FACT c k) = nth facts 0x8000 k % 2 ^ 32) ∧
      t.on (F.ADC_STAT_CAL_BUSY c) = false ∧ t.on (F.ADC_STAT_CAL_STALE c) = false ∧
      t.on (F.ADC_STAT_CAL_DONE c) = true)) ∧
    (s.on F.ADC_REF_REF_OK = false → exec (.calComplete c facts) s = .next s)) ∧
  (∀ (s : State), s.Gives .calInterrupt (fun t => ∀ c, c < 8 →
    (∀ k, k < 5 → t.get (R.ADC_FACT c k) = s.get (R.ADC_FACT c k)) ∧
    (s.on (F.ADC_STAT_CAL_BUSY c) = true → (s.adcLive = false ∨ s.on F.ADC_REF_REF_OK = false) →
      t.on (F.ADC_STAT_CAL_BUSY c) = false ∧ t.on (F.ADC_STAT_CAL_STALE c) = true ∧
      t.on (F.ADC_STAT_CAL_ABORT c) = true) ∧
    (s.on (F.ADC_STAT_CAL_BUSY c) = false → t.get (R.ADC_STAT c) = s.get (R.ADC_STAT c)))) ∧
  (∀ (s : State) cv, cv < 256 → s.Awake → s.Gives (.accept cv) (fun t => ∀ c, c < 8 →
    (bit cv c = true → t.on (F.ADC_STAT_CAL_STALE c) = false) ∧
    (bit cv c = false → t.get (R.ADC_STAT c) = s.get (R.ADC_STAT c)) ∧
    (∀ k, k < 5 → t.get (R.ADC_FACT c k) = s.get (R.ADC_FACT c k)))) ∧
  (∀ (s : State) c f, c < 8 → f < 65536 →
    (s.on (F.ADC_CFG_CLASS c) = true → exec (.protCalRotate c f) s = .next s) ∧
    (s.on (F.ADC_CFG_CLASS c) = false → s.get (F.ADC_STAT_SPARE c) < 5 → s.Gives (.protCalRotate c f) (fun t =>
      t.get (F.ADC_STAT_SPARE c) = (s.get (F.ADC_STAT_SPARE c) + 1) % 5 ∧
      t.get (R.ADC_FACT c (s.get (F.ADC_STAT_SPARE c))) = f ∧
      ((s.cv c).rot = 4 → t.on (F.ADC_STAT_CAL_STALE c) = false)))) ∧
  (∀ (s : State) sel, sel < 4 → s.Awake → s.gst = .config →
    (sel ≠ 3 → sel ≠ s.get F.ADC_REF_SEL → s.Gives (.adcRefSelect sel) (fun t =>
      t.get F.ADC_REF_SEL = sel ∧ t.on F.ADC_REF_REF_OK = false ∧
      ∀ c, c < 8 → t.on (F.ADC_STAT_CAL_STALE c) = true)) ∧
    ((sel = 3 ∨ sel = s.get F.ADC_REF_SEL) → exec (.adcRefSelect sel) s = .next s)) ∧
  (∀ (s : State), s.Awake → exec .refSettled s = .next (s.set F.ADC_REF_REF_OK 1).adcAhead ∧
    (s.set F.ADC_REF_REF_OK 1).adcAhead.regs = (s.set F.ADC_REF_REF_OK 1).regs) ∧
  (∀ (s : State), s.Gives .referenceOutOfTolerance (fun t => t.on F.ADC_REF_REF_OK = false ∧ t.mem = s.mem ∧
    ∀ c, c < 8 → (t.cv c).hist = (s.cv c).hist ∧
      (t.cv c).flight.map (·.at') = (s.cv c).flight.map (·.at') ∧ (∀ k, k < 5 → t.get (R.ADC_FACT c k) = s.get (R.ADC_FACT c k)) ∧
      t.get (R.ADC_DATA c) = s.get (R.ADC_DATA c) ∧
      (s.on (F.ADC_STAT_CAL_BUSY c) = false → t.get (R.ADC_STAT c) = s.get (R.ADC_STAT c)) ∧
      (s.on (F.ADC_STAT_CAL_BUSY c) = true → t.on (F.ADC_STAT_CAL_BUSY c) = false ∧
        t.on (F.ADC_STAT_CAL_STALE c) = true ∧ t.on (F.ADC_STAT_CAL_ABORT c) = true)))

/-- A frame on a port whose link is up is counted bad, parsed for a subscription, or written into the
oldest BUF, else RXNOBUF counts. A subscription becomes stale at its time limit and says so in its
record, GEN and CHG. A SEND waits on its port or fails at once; when its last byte has left it
goes out padded with its FCS, is counted and leaves a stamp where one is asked for. A read of the
stamp queue takes its head. ETH_FREQ is clamped at 500 ppm, ETH_SLEW starts a slew, both end
HOLDOVER; a partner's time base ignores them. GO sets a step pending, applies it where no period
engine runs, or is refused. HOLDOVER sets 10 s after the latest adjustment; a slew ends when its
remainder is 0; PPS_OUT rises for WIDTH ms; an edge of PPS_IN is stamped and counted, and an edge
within 100 ns of the one before takes the place of that one, whose pulse was too short to count; a
link comes up or goes down, which fails what waits. The tags of the parsed messages are PRESUMED
(notes/assumptions/24.md). (R505, R506, R507, R508, R514, R515, R516, R517, R519, R520, R521,
R522) -/
def Obligations.EthernetPortsAndTimeBase : Prop :=
  (∀ (s : State) p f ago hm, p < 4 →
    ((s.dev.inReset = true ∨ s.ethUp p = false) → exec (.ethFrameReceive p f ago hm) s = .next (s.see hm)) ∧
    (s.Awake → s.ethUp p = true → (f.length < 64 ∨ 1522 < f.length ∨ crc32Ok f = false) →
      exec (.ethFrameReceive p f ago hm) s = .next ((s.see hm).inc (R.ETH_CNT_RXERR p))) ∧
    (s.Awake → s.ethUp p = true → 64 ≤ f.length → f.length ≤ 1522 → crc32Ok f = true →
      ∀ b u z, b = f.take (f.length - 4) → u = (s.see hm).inc (R.ETH_CNT_RXOK p) →
      z = s.ethStamp p true ((s.now16 : Int) - ago) →
      (ethType b ≠ 0x88B8 → ethType b ≠ 0x88BA →
        ((∀ r, r < 32 → (s.rst r = .disabled ∨ s.rtype r ≠ .ethRx ∨ s.get (F.HOST_RING_CFG_SUB r) ≠ p)) →
          exec (.ethFrameReceive p f ago hm) s = .next (u.inc (R.ETH_CNT_RXNOBUF p))) ∧
        (∀ r d k v, r < 32 → s.rst r ≠ .disabled → s.rtype r = .ethRx → s.get (F.HOST_RING_CFG_SUB r) = p →
          (∀ q, q < r → (s.rst q = .disabled ∨ s.rtype q ≠ .ethRx ∨ s.get (F.HOST_RING_CFG_SUB q) ≠ p)) →
          (s.ring r).outs.find? (fun d => d.started && d.op = 1) = some d →
          u.hostWr hm (ringReq r) (pagesOf (fieldLE d.bytes 8 8) (16 + b.length)) (fieldLE d.bytes 8 8)
            (rxHeader b.length (frameClass b) (ethTagged b) (s.on (F.ETH_PORT_CFG_STAMP p)) z ++ b) = (k, true, v) →
          exec (.ethFrameReceive p f ago hm) s = .next (v.complete r d.idx 0 (16 + b.length) 0))) ∧
      (∀ i, ethType b = 0x88B8 → (List.range 32).find? (s.gseHit p b) = some i →
        (gseDecode b = none → exec (.ethFrameReceive p f ago hm) s = .next (u.inc R.ETH_CNT_PARSE)) ∧
        (∀ m y, gseDecode b = some m → y = u.eccTouchIn (s.subAt false i) 256 0x35 →
          (s.on (F.ETH_GSE_CFG_CONF_CHK i) = true → m.confRev ≠ s.word (R.ETH_GSE_CONF i) →
            exec (.ethFrameReceive p f ago hm) s = .next (y.inc R.ETH_CNT_PARSE)) ∧
          (s.on (F.ETH_GSE_CFG_CONF_CHK i) = false → m.sim = false →
            m.a = y.rd32 (s.subAt false i + 4) → m.b = y.rd32 (s.subAt false i + 8) →
            exec (.ethFrameReceive p f ago hm) s = .next (y.inc R.ETH_CNT_DUP)) ∧
          (s.on (F.ETH_GSE_CFG_CONF_CHK i) = false → m.sim = false → m.a ≠ y.rd32 (s.subAt false i + 4) →
            s.get F.MEM_INJ_MODE = 0 → s.on F.ETH_EVT_TPL_EN = false → m.a < 2 ^ 32 → m.b < 2 ^ 32 →
            m.ttl < 2 ^ 32 → m.confRev < 2 ^ 32 → s.Gives (.ethFrameReceive p f ago hm) (fun t =>
              t.rd32 (s.subAt false i) = (y.rd32 (s.subAt false i) + 1) % 2 ^ 32 ∧
              t.rd32 (s.subAt false i + 4) = m.a ∧ t.rd32 (s.subAt false i + 8) = m.b ∧
              t.rd32 (s.subAt false i + 0x0C) = m.ttl ∧ t.rd32 (s.subAt false i + 0x10) = stampNs z ∧
              t.rd32 (s.subAt false i + 0x1C) = m.confRev ∧ bit (t.rd32 (s.subAt false i + 0x18)) 0 = false ∧
              t.bitOf F.ETH_GSE_CHG_CHG i = true)))))) ∧
  (∀ (s : State) sv n, n < (if sv then 16 else 32) →
    ∀ a k y, a = s.subAt sv n + statAt sv → s.Awake → k = ((s.subLimit sv n).map (· - s.elapsed)).getD 0 →
      s.room k = k → y = (s.pass k).eccTouchIn (s.subAt sv n) 256 0x35 →
      (s.on (if sv then F.ETH_SV_CFG_EN n else F.ETH_GSE_CFG_EN n) = false →
        exec (.subscriptionStale sv n) s = .next (s.pass k)) ∧
      (s.on (if sv then F.ETH_SV_CFG_EN n else F.ETH_GSE_CFG_EN n) = true →
        (bit (y.rd32 a) 0 = true → exec (.subscriptionStale sv n) s = .next y) ∧
        (bit (y.rd32 a) 0 = false → s.get F.MEM_INJ_MODE = 0 → s.on F.ETH_EVT_TPL_EN = false →
          s.Gives (.subscriptionStale sv n) (fun t => t.rd32 a = setBit (y.rd32 a) 0 true ∧
            t.rd32 (s.subAt sv n) = (y.rd32 (s.subAt sv n) + 1) % 2 ^ 32 ∧
            t.bitOf (if sv then F.ETH_SV_CHG_CHG else F.ETH_GSE_CHG_CHG) n = true)))) ∧
  (∀ (s : State) r hm d u p len, r < 32 → (s.see hm).fetchEvent r hm (wantOp (s.see hm) r .ethTx 1) = (.start d, u) →
    p = s.get (F.HOST_RING_CFG_SUB r) → len = fieldLE d.bytes 16 2 →
    ((u.ethUp p = false ∨ len < 14 ∨ 1518 < len) → exec (.ethSend r hm) s = .next (u.complete r d.idx 1 0 0)) ∧
    (u.ethUp p = true → 14 ≤ len → len ≤ 1518 → ∀ b v,
      u.hostRd hm (ringReq r) (pagesOf (fieldLE d.bytes 8 8) len) (fieldLE d.bytes 8 8) len = (b, none, v) →
      exec (.ethSend r hm) s = .next (v.setEthTx p (v.ethTxQ p ++ [⟨r, d.idx, b,
        if bit (fieldLE d.bytes 18 1) 0 then some (fieldLE d.bytes 20 2) else none⟩])))) ∧
  (∀ (s : State) p ago, p < 4 → ((s.ethTxQ p = [] ∨ s.ethUp p = false) → exec (.ethSendDone p ago) s = .next s) ∧
    (∀ e rest, s.ethTxQ p = e :: rest → s.ethUp p = true → s.Gives (.ethSendDone p ago) (fun t =>
      t.ethTxQ p = rest ∧ Out.eth p (withCrc32 (e.frame ++ List.replicate (60 - e.frame.length) 0)) ∈ t.out ∧
      t.get (R.ETH_CNT_TXOK p) = satInc 32 (s.get (R.ETH_CNT_TXOK p)) ∧
      (∀ id q, e.tsid = some id → q = sget s.eth.tsq [] p →
        (q.length < 16 → sget t.eth.tsq [] p = q ++ [(id, s.ethStamp p false ((s.now16 : Int) - ago))]) ∧
        (16 ≤ q.length → t.eth.tsq = s.eth.tsq ∧ t.on (F.ETH_PORT_STAT_TSQ_OVF p) = true ∧
          t.get (R.ETH_CNT_TSQOVF p) = satInc 32 (s.get (R.ETH_CNT_TSQOVF p)))) ∧
      (e.tsid = none → t.eth.tsq = s.eth.tsq)))) ∧
  (∀ (s : State) r hm d u, r < 32 → (s.see hm).fetchEvent r hm (wantOp (s.see hm) r .ethRx 1) = (.start d, u) →
    exec (.ethBuf r hm) s = .next (if fieldLE d.bytes 16 2 < 1540 then u.complete r d.idx 1 0 0 else u)) ∧
  (∀ (s : State) p, p < 4 → s.Awake →
    (sget s.eth.tsq [] p = [] → exec (.ethTsqHeadRead p) s = .next (s.emit (.bar0 0 false false))) ∧
    (∀ id z rest x, sget s.eth.tsq [] p = (id, z) :: rest → sget s.eth.lost none p = some x → x.cyc = s.elapsed →
      s.Gives (.ethTsqHeadRead p) (fun t => sget t.eth.tsq [] p = rest ++ [(x.tsid, x.stamp)] ∧
        t.get (R.ETH_TSQ_NS p) = stampNs z ∧ t.get (F.ETH_PORT_STAT_TSQ_OVF p) = x.ovf % 2 ∧
        t.get (R.ETH_CNT_TSQOVF p) = x.cnt % 2 ^ 32)) ∧
    (∀ id z rest, sget s.eth.tsq [] p = (id, z) :: rest →
      (∀ x, sget s.eth.lost none p = some x → x.cyc ≠ s.elapsed) → s.Gives (.ethTsqHeadRead p) (fun t =>
      sget t.eth.tsq [] p = rest ∧ t.get (R.ETH_TSQ_NS p) = stampNs z ∧
      t.get (R.ETH_TSQ_SEC p) = stampSec z % 2 ^ 32 ∧ t.get (R.ETH_TSQ_FRAC p) = z % 2 ^ 16 ∧
      t.out = s.out ++ [.bar0 (id + 2 ^ 16 + (rest.length + 1) * 2 ^ 17) false false] ∧
      RegsOnly [(R.ETH_TSQ_NS p).addr, (R.ETH_TSQ_SEC p).addr, (R.ETH_TSQ_FRAC p).addr]
        { s with eth := t.eth, out := t.out } t))) ∧
  (∀ (s : State) v, v < 2 ^ 32 → s.Awake →
    (s.adjIgn = true → exec (.ethFreqWrite v) s = .next (s.set F.PAIR_FLAG_ADJ_IGN 1) ∧
      exec (.ethSlewWrite v) s = .next (s.set F.PAIR_FLAG_ADJ_IGN 1) ∧
      exec .stepGo s = .next (s.set F.PAIR_FLAG_ADJ_IGN 1)) ∧
    (s.adjIgn = false → s.Gives (.ethFreqWrite v) (fun t => t.on F.ETH_TIME_STAT_HOLDOVER = false ∧
      (-freqMax ≤ sx 32 v → sx 32 v ≤ freqMax → t.get R.ETH_FREQ = v) ∧
      (freqMax < sx 32 v → t.get R.ETH_FREQ = 128000000 ∧ t.on F.ETH_TIME_STAT_ADJ_CLAMP = true) ∧
      (sx 32 v < -freqMax → t.get R.ETH_FREQ = 2 ^ 32 - 128000000 ∧ t.on F.ETH_TIME_STAT_ADJ_CLAMP = true) ∧
      t.eth = { s.eth with adjAt := some s.elapsed } ∧
      RegsOnly [R.ETH_FREQ.addr, R.ETH_TIME_STAT.addr] { s with eth := t.eth } t)) ∧
    (s.adjIgn = false → s.Gives (.ethSlewWrite v) (fun t => t.get R.ETH_SLEW = v ∧ t.get R.ETH_SLEW_LEFT = v ∧
      t.on F.ETH_TIME_STAT_SLEW_BUSY = true ∧ t.on F.ETH_TIME_STAT_HOLDOVER = false ∧
      t.time = { s.time with slew := sx 32 v * 65536, acc := 0 })) ∧
    (1 ≤ v % 128 → v % 128 ≤ 100 → exec (.ethSlewRateWrite v) s = .next (s.set F.ETH_SLEW_RATE_RATE (v % 128))) ∧
    ((v % 128 = 0 ∨ 100 < v % 128) → exec (.ethSlewRateWrite v) s = .next s)) ∧
  (∀ (s : State), s.Awake → s.adjIgn = false →
    ((s.time.step.isSome = true ∨ 1000000000 ≤ s.get F.ETH_STEP_NS_NS) →
      exec .stepGo s = .next ((({ s with eth := { s.eth with adjAt := some s.elapsed } }).set
        F.ETH_TIME_STAT_HOLDOVER 0).set F.ETH_TIME_STAT_STEP_REJ 1)) ∧
    (∀ d, s.time.step = none → s.get F.ETH_STEP_NS_NS < 1000000000 →
      d = (sx 32 (s.get R.ETH_STEP_SEC) * 1000000000 + s.get F.ETH_STEP_NS_NS) * 65536 →
      (s.peRun = true → s.Gives .stepGo (fun t => t.time.step = some d ∧
        t.on F.TIME_STATUS_STEP_PEND = true ∧ t.now16 = s.now16)) ∧
      (s.peRun = false → s.time.tw = [] → 0 ≤ (s.now16 : Int) + d → (s.now16 : Int) + d < 2 ^ 64 * 1000000000 * 65536 →
        s.Gives .stepGo (fun t => t.time.step = none ∧ t.now16 = ((s.now16 : Int) + d).toNat)))) ∧
  (∀ (s : State) u, u = s.pass (s.room s.slewIn) → (s.on F.ETH_TIME_STAT_SLEW_BUSY = true →
      (u.time.slew ≠ 0 → exec .slewDone s = .next u) ∧ (u.time.slew = 0 → s.Gives .slewDone (fun t =>
        t.on F.ETH_TIME_STAT_SLEW_BUSY = false ∧ t.get R.ETH_SLEW_LEFT = 0 ∧
        t.time = { u.time with slew := 0, acc := 0 }))) ∧
    (s.on F.ETH_TIME_STAT_SLEW_BUSY = false → exec .slewDone s = .next s)) ∧
  (∀ (s : State), s.Awake →
    (∀ k, k = s.eth.adjAt.getD (s.elapsed - s.time.cyc) + 10000000000 - s.elapsed →
      (s.room k = k → exec .holdover s = .next ((s.pass k).set F.ETH_TIME_STAT_HOLDOVER 1)) ∧
      (s.room k < k → exec .holdover s = .next (s.pass (s.room k)))) ∧
    (∀ k, s.on F.ETH_PPS_CFG_PPS_OUT_EN = true → k = s.ppsDue → s.room k = k → s.eth.ppsAt ≠ some (s.elapsed + k) →
      s.Gives .ppsOutPulse (fun t => t.regs = (s.pass k).regs ∧
        t.out = (s.pass k).out ++ [.pulse "PPS_OUT" (1000000 * s.get F.ETH_PPS_CFG_WIDTH)] ∧
        t.now = (s.pass k).now)) ∧
    (s.on F.ETH_PPS_CFG_PPS_OUT_EN = false → exec .ppsOutPulse s = .next s) ∧
    (s.on F.ETH_PPS_CFG_PPS_IN_EN = false → exec .ppsInEdge s = .next s) ∧
    (s.on F.ETH_PPS_CFG_PPS_IN_EN = true → s.time.ns < 2 ^ 32 → s.Gives .ppsInEdge (fun t =>
      t.get R.ETH_PPSIN_NS = s.time.ns ∧ t.get R.ETH_PPSIN_SEC = s.time.sec % 2 ^ 32 ∧
      t.eth = { s.eth with ppsUnread := true, ppsInAt := some s.elapsed } ∧
      ((∀ a, s.eth.ppsInAt = some a → a + 100 ≤ s.elapsed) →
        t.get F.ETH_TIME_STAT_PPSIN_CNT = (s.get F.ETH_TIME_STAT_PPSIN_CNT + 1) % 65536 ∧
        (s.eth.ppsUnread = true → t.on F.ETH_TIME_STAT_PPSIN_OVR = true)) ∧
      (∀ a, s.eth.ppsInAt = some a → s.elapsed < a + 100 →
        t.get F.ETH_TIME_STAT_PPSIN_CNT = s.get F.ETH_TIME_STAT_PPSIN_CNT ∧
        t.on F.ETH_TIME_STAT_PPSIN_OVR = s.on F.ETH_TIME_STAT_PPSIN_OVR))) ∧
    s.Gives .ethPpsinSecRead (fun t => t.eth = { s.eth with ppsUnread := false } ∧ t.regs = s.regs ∧
      t.out = s.out ++ [.bar0 (s.get R.ETH_PPSIN_SEC) false false])) ∧
  (∀ (s : State) p, p < 4 →
    (s.Awake → s.get (F.ETH_PORT_CFG_MODE p) ≠ 0 → s.Gives (.ethLinkUp p) (fun t => t.ethUp p = true ∧
      t.on (F.ETH_PORT_STAT_AN_DONE p) = (decide (s.get (F.ETH_PORT_CFG_MODE p) = 1) &&
        s.on (F.ETH_PORT_CFG_AN_EN p)) ∧ RegsOnly [(R.ETH_PORT_STAT p).addr] s t)) ∧
    (s.get (F.ETH_PORT_CFG_MODE p) = 0 → exec (.ethLinkUp p) s = .next s) ∧
    s.Gives (.ethLinkDown p) (fun t => t.ethUp p = false ∧ t.on (F.ETH_PORT_STAT_AN_DONE p) = false ∧
      t.ethTxQ p = [] ∧ t.mem = s.mem ∧ (∀ q, q ≠ p → t.ethTxQ q = s.ethTxQ q)))

/-- EN = 1 takes a controller with good bit timing onto its bus with TEC and REC 0 (bus-off where it
went off in bus-off), else sets CODE and EN_REJ; EN = 0 takes it off at once, or at the end of the
frame in progress. RECOVER acts in bus-off alone; recovery ends error-active. A SEND is refused or
joins the queue. A frame sent counts, lowers TEC and completes its SEND with its stamp; an error
raises TEC by 8, a missing acknowledgement not while error-passive; above 255 the controller is
bus-off. Sixteen acknowledgement errors set NO_ACK_ALONE, and take the head out where asked. A
received frame goes by the lowest filter that matches into FIFO and mailbox, or is counted. A BUF
takes the oldest frame. TAKE and the whole second latch counter and time together. Whether a frame
is in progress at EN = 0, TEC at bus-off, and REC after a value above 127 are free values
(notes/assumptions/2.md). (R530, R533, R534, R535, R536, R537, R538, R539, R540, R541, R542, R543) -/
def Obligations.CanControllersAndTheirBuses : Prop :=
  (∀ (s : State) n, n < 2 → s.Awake →
    (s.on (F.CAN_CTRL_EN n) = false → s.canEnCode n = 0 → s.Gives (.canEnable n) (fun t =>
      t.on (F.CAN_CTRL_EN n) = true ∧ t.get (F.CAN_STAT_TEC n) = 0 ∧ t.get (F.CAN_STAT_REC n) = 0 ∧
      t.get (F.CAN_STAT_STATE n) = (if (s.can n).wasOff then 3 else 1) ∧ (t.can n).queue = (s.can n).queue)) ∧
    (s.on (F.CAN_CTRL_EN n) = false → s.canEnCode n ≠ 0 → s.Gives (.canEnable n) (fun t =>
      t.on (F.CAN_CTRL_EN n) = false ∧ t.get (F.CAN_STAT_CODE n) = s.canEnCode n ∧
      t.on (F.CAN_STAT_EN_REJ n) = true ∧ t.cans = s.cans ∧
      RegsOnly [(R.CAN_CTRL n).addr, (R.CAN_STAT n).addr] s t)) ∧
    (s.on (F.CAN_CTRL_EN n) = true → s.canOn n = false → s.Gives (.canDisable n) (fun t =>
      t.on (F.CAN_CTRL_EN n) = false ∧ t.get (F.CAN_STAT_STATE n) = 0 ∧ (t.can n).queue = [] ∧
      (t.can n).sync = none ∧ t.get (F.CAN_STAT_TXQ n) = 0)) ∧
    (s.on (F.CAN_CTRL_EN n) = true → s.canOn n = true → s.Gives (.canDisable n) (fun t =>
      t.on (F.CAN_CTRL_EN n) = false ∧
      (((t.can n).ending = true ∧ (t.can n).queue = (s.can n).queue ∧
          t.get (F.CAN_STAT_STATE n) = s.get (F.CAN_STAT_STATE n)) ∨
        (t.get (F.CAN_STAT_STATE n) = 0 ∧ (t.can n).queue = [])))) ∧
    s.Gives (.recover n) (fun t => t.cans = s.cans ∧
      t.on (F.CAN_STAT_RECOVERING n) = (decide (s.get (F.CAN_STAT_STATE n) = 3) || s.on (F.CAN_STAT_RECOVERING n)) ∧
      RegsOnly [(R.CAN_CTRL n).addr, (R.CAN_STAT n).addr] s t) ∧
    (s.on (F.CAN_STAT_RECOVERING n) = true → s.Gives (.canRecoveryDone n) (fun t =>
      t.get (F.CAN_STAT_STATE n) = 1 ∧ t.get (F.CAN_STAT_TEC n) = 0 ∧ t.get (F.CAN_STAT_REC n) = 0 ∧
      t.on (F.CAN_STAT_RECOVERING n) = false ∧ RegsOnly [(R.CAN_STAT n).addr] s t)) ∧
    (s.on (F.CAN_STAT_RECOVERING n) = false → exec (.canRecoveryDone n) s = .next s)) ∧
  (∀ (s : State) r hm d u n, r < 32 → n = s.get (F.HOST_RING_CFG_SUB r) →
    (32 ≤ (s.can n).queue.length → exec (.canSend r hm) s = .next (s.see hm)) ∧
    ((s.can n).queue.length < 32 → (s.see hm).fetchEvent r hm (wantOp (s.see hm) r .canTx 1) = (.start d, u) →
      (u.canSendBad n d.bytes = true → exec (.canSend r hm) s = .next (u.complete r d.idx 1 0 0)) ∧
      (u.canSendBad n d.bytes = false → ∀ id fmt k b v, id = fieldLE d.bytes 8 4 % 2 ^ 31 →
        fmt = fieldLE d.bytes 12 1 % 64 → k = (if bit id 30 then 0 else dlcBytes (bit fmt 4) (fmt % 16)) →
        (k = 0 → b = [] ∧ v = u) →
        (k ≠ 0 → u.hostRd hm (ringReq r) (pagesOf (fieldLE d.bytes 16 8) k) (fieldLE d.bytes 16 8) k = (b, none, v)) →
        exec (.canSend r hm) s = .next (v.setCan n { v.can n with
          queue := (v.can n).queue ++ [⟨some (r, d.idx), id, fmt, b, false⟩] })))) ∧
  (∀ (s : State) n sync ago, n < 2 → (s.can n).ending = false →
    ((s.canOn n = false ∨ s.on (F.CAN_CTRL_LISTEN n) = true) → exec (.canFrameSent n sync ago) s = .next s) ∧
    (s.canOn n = true → s.on (F.CAN_CTRL_LISTEN n) = false →
      (∀ id, sync = true → (s.can n).sync = some id → s.Gives (.canFrameSent n sync ago) (fun t =>
        (t.can n).sync = none ∧ (t.can n).queue = (s.can n).queue ∧ (t.can n).acks = 0 ∧
        Out.can n id 0 [] ∈ t.out ∧
        t.get (R.CAN_CNT_TXOK n) = satInc 32 (s.get (R.CAN_CNT_TXOK n)) ∧
        t.get (F.CAN_STAT_TEC n) = s.get (F.CAN_STAT_TEC n) - 1 ∧ t.on (F.CAN_STAT_NO_ACK_ALONE n) = false)) ∧
      (∀ e rest stamp, sync = false → (s.can n).queue = e :: rest → stamp = (s.canCnt + 2 ^ 32 - ago % 2 ^ 32) % 2 ^ 32 →
        s.Gives (.canFrameSent n sync ago) (fun t => (t.can n).queue = rest ∧ (t.can n).acks = 0 ∧
          Out.can n e.id e.fmt e.data ∈ t.out ∧ t.get (F.CAN_STAT_TXQ n) = rest.length % 64 ∧
          t.get (R.CAN_CNT_TXOK n) = satInc 32 (s.get (R.CAN_CNT_TXOK n)) ∧
          t.get (F.CAN_STAT_TEC n) = s.get (F.CAN_STAT_TEC n) - 1 ∧ t.on (F.CAN_STAT_NO_ACK_ALONE n) = false ∧
          (e.ring = none → e.cancelled = false →
            t.get R.LOGIC_CNT_CANOK = satInc 32 (s.get R.LOGIC_CNT_CANOK)) ∧
          (∀ r idx d, e.ring = some (r, idx) → s.desc? r idx = some d → (s.rtype r).inOrder = false →
            d.cancelLate = false → s.on F.IOMMU_CTRL_MODE = false → r < 32 → (s.slotAt r idx + 48) % 4096 ≤ 4080 →
            Out.host (s.slotAt r idx + 48) (s.cplArea r d.tag
              (if e.cancelled then 5 else 0) stamp s.pidx32 0) ∈ t.out))))) ∧
  (∀ (s : State) n kind, n < 2 → (s.can n).ending = false →
    (((s.can n).queue = [] ∧ (s.can n).sync = none) → exec (.canTxError n kind) s = .next s) ∧
    (s.canOn n = true → s.on (F.CAN_CTRL_LISTEN n) = false → ∀ e rest, (s.can n).queue = e :: rest →
      e.cancelled = false →
      exec (.canTxError n .lost) s = .next s ∧
      s.Gives (.canTxError n .error) (fun t => (t.can n).queue = e :: rest ∧ (t.can n).acks = 0 ∧
        (s.get (F.CAN_STAT_TEC n) + 8 ≤ 255 → t.get (F.CAN_STAT_TEC n) = s.get (F.CAN_STAT_TEC n) + 8 ∧
          t.get (F.CAN_STAT_STATE n) =
            (if 127 < s.get (F.CAN_STAT_TEC n) + 8 ∨ 127 < s.get (F.CAN_STAT_REC n) then 2 else 1)) ∧
        (255 < s.get (F.CAN_STAT_TEC n) + 8 → t.get (F.CAN_STAT_STATE n) = 3 ∧
          t.on (F.CAN_STAT_BUSOFF_SEEN n) = true ∧
          t.get (R.CAN_CNT_BUSOFF n) = satInc 32 (s.get (R.CAN_CNT_BUSOFF n)))) ∧
      s.Gives (.canTxError n .noAck) (fun t => (t.can n).queue = e :: rest ∧
        (t.can n).acks = (s.can n).acks + 1 ∧
        (s.get (F.CAN_STAT_STATE n) = 2 → t.get (F.CAN_STAT_TEC n) = s.get (F.CAN_STAT_TEC n)) ∧
        (s.get (F.CAN_STAT_STATE n) = 1 → s.get (F.CAN_STAT_TEC n) + 8 ≤ 255 →
          t.get (F.CAN_STAT_TEC n) = s.get (F.CAN_STAT_TEC n) + 8)))) ∧
  (∀ (s : State), s.Gives .noAckAlone (fun t => ∀ n, n < 2 →
    (16 ≤ (s.can n).acks → s.on (F.CAN_STAT_NO_ACK_ALONE n) = false →
      t.on (F.CAN_STAT_NO_ACK_ALONE n) = true ∧
      (s.on (F.CAN_CTRL_ABORT_ON_ALONE n) = true → (t.can n).queue = (s.can n).queue.tail) ∧
      (s.on (F.CAN_CTRL_ABORT_ON_ALONE n) = false → t.can n = s.can n)) ∧
    ((s.can n).acks < 16 → t.can n = s.can n ∧
      t.on (F.CAN_STAT_NO_ACK_ALONE n) = s.on (F.CAN_STAT_NO_ACK_ALONE n)))) ∧
  (∀ (s : State) n id fmt data ago, n < 2 → (s.can n).ending = false →
    ((s.canOn n = false ∨ (bit fmt 4 = true ∧ s.on (F.CAN_CTRL_FD_EN n) = false)) →
      exec (.canFrameReceive n id fmt data ago) s = .next s) ∧
    (s.canOn n = true → (bit fmt 4 = true → s.on (F.CAN_CTRL_FD_EN n) = true) →
      s.Gives (.canFrameReceive n id fmt data ago) (fun t =>
        t.get (R.CAN_CNT_RXOK n) = satInc 32 (s.get (R.CAN_CNT_RXOK n)) ∧
        (t.can n).queue = (s.can n).queue ∧
        (s.on (F.CAN_CTRL_LISTEN n) = false → s.get (F.CAN_STAT_REC n) ≤ 127 →
          t.get (F.CAN_STAT_REC n) = s.get (F.CAN_STAT_REC n) - 1) ∧
        (s.on (F.CAN_CTRL_LISTEN n) = true → t.get (F.CAN_STAT_REC n) = s.get (F.CAN_STAT_REC n)) ∧
        (s.canFilter n id = none → t.get (R.CAN_CNT_RXNOMATCH n) = satInc 32 (s.get (R.CAN_CNT_RXNOMATCH n)) ∧
          (t.can n).fifo = (s.can n).fifo ∧ (t.can n).mail = (s.can n).mail) ∧
        (∀ f k b, s.canFilter n id = some f →
          k = (if bit id 30 then 0 else dlcBytes (bit fmt 4) (fmt % 16)) → b = slice data 0 k →
          (s.on (F.CAN_FILT_ID_RING n f) = true → (s.can n).fifo.length < 64 → (t.can n).fifo = (s.can n).fifo ++
            [toLE 4 (id % 2 ^ 31) ++ toLE 1 (fmt % 128) ++ toLE 1 f ++ toLE 2 k ++
              toLE 4 ((s.canCnt + 2 ^ 32 - ago % 2 ^ 32) % 2 ^ 32) ++ [0, 0, 0, 0] ++ b]) ∧
          (s.on (F.CAN_FILT_ID_RING n f) = true → 64 ≤ (s.can n).fifo.length → (t.can n).fifo = (s.can n).fifo ∧
            t.get (R.CAN_CNT_RXOVF n) = satInc 32 (s.get (R.CAN_CNT_RXOVF n))) ∧
          (s.on (F.CAN_FILT_ID_RING n f) = false → (t.can n).fifo = (s.can n).fifo) ∧
          (s.on (F.CAN_FILT_ID_LOGIC n f) = true → t.canMail n f = slice (slice b 0 8) 0 8) ∧
          (s.on (F.CAN_FILT_ID_LOGIC n f) = false → (t.can n).mail = (s.can n).mail))))) ∧
  (∀ (s : State) r hm d u n, r < 32 → s.rtype r = .canRx → n = s.get (F.HOST_RING_CFG_SUB r) →
    (s.ring r).outs.any (fun d => d.started && d.op = 1) = false →
    (s.see hm).fetchEvent r hm (wantOp (s.see hm) r .canRx 1) = (.start d, u) →
    (fieldLE d.bytes 16 2 < 80 → exec (.canBuf r hm) s = .next (u.complete r d.idx 1 0 0)) ∧
    (80 ≤ fieldLE d.bytes 16 2 → (u.can n).fifo = [] → u.get (F.HOST_RING_CFG_SUB r) = n →
      exec (.canBuf r hm) s = .next u)) ∧
  (∀ (s : State) r hm d n f rest k v, r < 32 → s.rtype r = .canRx → n = s.get (F.HOST_RING_CFG_SUB r) →
    (s.ring r).outs.find? (fun d => d.started && d.op = 1) = some d → (s.can n).fifo = f :: rest →
    ((s.see hm).setCan n { s.can n with fifo := rest }).hostWr hm (ringReq r) (pagesOf (fieldLE d.bytes 8 8) f.length)
      (fieldLE d.bytes 8 8) f = (k, true, v) →
    exec (.canBuf r hm) s = .next (v.complete r d.idx 0 f.length 0)) ∧
  (∀ (s : State), s.Awake → s.time.ns < 2 ^ 32 → s.Gives .take (fun t => t.get R.CAN_CORR_CNT = s.canCnt ∧
    t.get R.CAN_CORR_NS = s.time.ns ∧ t.get R.CAN_CORR_SEC = s.time.sec % 2 ^ 32 ∧
    RegsOnly [R.CAN_CORR_CNT.addr, R.CAN_CORR_NS.addr, R.CAN_CORR_SEC.addr] s t)) ∧
  (∀ (s : State), s.Gives .canCorrLatch (fun t => t.get R.CAN_CORR_NS = 0 ∧
    t.get R.CAN_CORR_SEC = s.time.sec % 2 ^ 32 ∧
    t.get R.CAN_CORR_CNT = (s.time.canNs - s.time.ns) * 2 / 25 % 2 ^ 32 ∧
    RegsOnly [R.CAN_CORR_CNT.addr, R.CAN_CORR_NS.addr, R.CAN_CORR_SEC.addr] s t)) ∧
  (∀ (s : State) n dominant, n < 2 → (s.can n).ending = false →
    ((s.canOn n = false ∨ s.on (F.CAN_CTRL_LISTEN n) = true) → exec (.canRxError n dominant) s = .next s) ∧
    (s.canOn n = true → s.on (F.CAN_CTRL_LISTEN n) = false → s.Gives (.canRxError n dominant) (fun t =>
      t.get (F.CAN_STAT_REC n) = min (s.get (F.CAN_STAT_REC n) + (if dominant then 8 else 1)) 255 ∧
      t.get (F.CAN_STAT_TEC n) = s.get (F.CAN_STAT_TEC n) ∧ t.cans = s.cans ∧
      (127 < s.get (F.CAN_STAT_REC n) + (if dominant then 8 else 1) → t.get (F.CAN_STAT_STATE n) = 2))))

/-- A step of an IMG ring that starts with no other running begins at once; a cause of R558 known then
completes it with its number. ERASE and PROGRAM take the slot's VERIFY away, ERASE marks it
UPDATING in a new commit record with the next SEQ in the other copy. At its end ERASE leaves the
slot erased, PROGRAM has programmed the host's bytes and compares them, VERIFY runs the checks of
R553 and notes a pass or gives the number of the first that fails, COMMIT makes the slot active
and VALID in a new record. A PROGRAM of a key slot in CONFIG takes the hash of DEV_OTP_DATA and is
busy until it ends; it is refused elsewhere, while busy, or for a slot already programmed. A
REVOKE is refused for the slot of the running image and for the last slot left. OTP that a reset
cuts off, and the SEQ of a first record, are free values (notes/assumptions/2.md, 26.md); the
signature check is PRESUMED (25.md). (R550, R551, R553, R555, R556, R557, R558) -/
def Obligations.ImageUpdatesAndKeySlots : Prop :=
  (∀ (s : State) r hm d u op c, r < 32 → op ∈ ([1, 2, 3, 4] : List Nat) →
    (s.see hm).fetchEvent r hm (wantOp (s.see hm) r .img op) = (.start d, u) → (u.ring r).outs = [d] → d.busy = false →
    (∀ q ∈ u.ringNos, u.rtype q = .img → (u.ring q).outs.any (·.busy) = false) →
    c = (if op = 1 then Instr.imgErase r hm else if op = 2 then .imgProgram r hm
      else if op = 3 then .imgVerify r hm else .imgCommit r hm) →
    (∀ k, u.imgCause d = some k → d.started = true →
      exec c s = .next (u.complete r d.idx 1 k 0)) ∧
    (∀ k v, u.imgCause d = none → d.started = true → d.op = op → k = fieldLE d.bytes 8 1 % 2 →
      v = u.updDesc r d.idx (fun e => { e with busy := true }) →
      (2 < op → exec c s = .next v) ∧
      (op = 2 → exec c s = .next { v with img := { v.img with verified := setBit v.img.verified k false } }) ∧
      (op = 1 → s.Gives c (fun t => bit t.img.verified k = false ∧ (t.ring r).outs = [{ d with busy := true }] ∧
        ∀ o copy, u.newest = some (o, copy) → ∃ q, t.recOf (1 - copy) = some q ∧
          q.seq = (o.seq + 1) % 2 ^ 32 ∧ q.slot k = 2 ∧ q.slot (1 - k) = o.slot (1 - k) ∧ q.active = o.active ∧
          t.get (if k = 0 then F.DEV_IMG_STATE_A else F.DEV_IMG_STATE_B) = 2)))) ∧
  (∀ (s : State) r hm d k, r < 32 → s.rtype r = .img → (s.ring r).outs = [d] → d.busy = true →
    s.get (R.HOST_RING_CI r) = d.idx → k = fieldLE d.bytes 8 1 % 2 →
    (∀ q ∈ s.ringNos, q ≠ r → s.rtype q = .img → (s.ring q).outs = []) →
    (d.op = 1 → s.Gives (.imgStepDone r hm) (fun t => t = ((s.see hm).flErase k).complete r d.idx 0 0 0 ∧
      (∀ a, slotBase k ≤ a → a < slotBase k + slotSize → t.flByte a = 0xFF) ∧
      (∀ a, (a < slotBase k ∨ slotBase k + slotSize ≤ a) → t.flByte a = s.flByte a))) ∧
    (d.op = 2 → ∀ b u a len, a = slotBase k + fieldLE d.bytes 12 4 → len = fieldLE d.bytes 16 4 →
      (s.see hm).hostRd hm (ringReq r) (pagesOf (fieldLE d.bytes 24 8) len) (fieldLE d.bytes 24 8) len = (b, none, u) →
      b.length = len → s.Gives (.imgStepDone r hm) (fun t =>
        (∀ i, i < len → t.flByte (a + i) = s.flByte (a + i) &&& nth b 0 i) ∧
        (∀ i, (i < a ∨ a + len ≤ i) → t.flByte i = s.flByte i) ∧
        t = (u.flProg a b).complete r d.idx (if (u.flProg a b).flRd a len = b then 0 else 1)
          (if (u.flProg a b).flRd a len = b then 0 else 4) 0)) ∧
    (d.op = 3 → (∀ c, s.imgBad k false = some c →
        exec (.imgStepDone r hm) s = .next ((s.see hm).complete r d.idx 1 (5 + c * 0x100) 0)) ∧
      (s.imgBad k false = none → s.Gives (.imgStepDone r hm) (fun t => bit t.img.verified k = true ∧
        t.img.flash = s.img.flash))) ∧
    (d.op = 4 → s.Gives (.imgStepDone r hm) (fun t => t.dev.committed = true ∧
      ∀ o copy, s.newest = some (o, copy) → o.active = 1 - k → ∃ q, t.recOf (1 - copy) = some q ∧
        q.seq = (o.seq + 1) % 2 ^ 32 ∧ q.active = k ∧ q.slot k = 1 ∧ q.slot (1 - k) = 1))) ∧
  (∀ (s : State) r hm, r < 32 → (∀ q ∈ s.ringNos, q % 32 = r → (s.ring q).outs.any (·.busy) = false) →
    exec (.imgStepDone r hm) s = .next (s.see hm)) ∧
  (∀ (s : State) k, k < 8 → s.Awake →
    ((s.gst ≠ .config ∨ s.on F.DEV_OTP_STAT_OTP_BUSY = true ∨ bit s.img.prog k = true) →
      exec (.otpProgram k) s = .next (s.set F.DEV_OTP_STAT_OTP_REJ 1)) ∧
    (s.gst = .config → s.on F.DEV_OTP_STAT_OTP_BUSY = false → bit s.img.prog k = false →
      s.Gives (.otpProgram k) (fun t => t.on F.DEV_OTP_STAT_OTP_BUSY = true ∧ t.img =
        { s.img with otp := some (k, (List.range 8).flatMap (fun w => toLE 4 (s.get (R.DEV_OTP_DATA w)))) })) ∧
    ((s.get F.DEV_IMG_KEYSLOT = k ∨ (∀ j, j < 8 → j ≠ k → bit s.img.prog j = true → bit s.img.revoked j = true)) →
      exec (.otpRevoke k) s = .next (s.set F.DEV_OTP_STAT_OTP_REJ 1)) ∧
    (s.gst = .config → s.on F.DEV_OTP_STAT_OTP_BUSY = false → s.get F.DEV_IMG_KEYSLOT ≠ k →
      (∃ j, j < 8 ∧ j ≠ k ∧ bit s.img.prog j = true ∧ bit s.img.revoked j = false) →
      s.Gives (.otpRevoke k) (fun t => bit t.img.revoked k = true ∧ t.bitOf F.DEV_OTP_STAT_REVOKED k = true ∧
        (∀ j, j ≠ k → bit t.img.revoked j = bit s.img.revoked j)))) ∧
  (∀ (s : State) back, (s.img.otp = none → exec (.otpProgramDone back) s = .next s) ∧
    (∀ k h, s.img.otp = some (k, h) → k < 8 → s.Gives (.otpProgramDone back) (fun t => t.img.otp = none ∧
      bit t.img.prog k = true ∧ t.bitOf F.DEV_OTP_STAT_PROG k = true ∧ t.on F.DEV_OTP_STAT_OTP_BUSY = false ∧
      sget t.img.hash [] k = slice back 0 32 ∧
      (slice back 0 32 ≠ h → t.on F.DEV_OTP_STAT_OTP_ERR = true))))
end

