-- ==== Sys2Proof/Laws/Sparse.lean ====
section
/-! SUPPORT. Sparse lists: a read after a write, and the canonical form of memory. -/

namespace Sys2Proof.Machine

open Sys2Proof

section
variable {α : Type}

/-- A key taken out reads the default. -/
@[simp] theorem sget_sdel_same (m : Sparse α) (d : α) (k : Nat) : sget (sdel m k) d k = d := by
  induction m with
  | nil => rfl
  | cons p r ih =>
    obtain ⟨a, v⟩ := p
    by_cases h : a = k
    · simpa [sdel, List.filter, h] using ih
    · simpa [sdel, List.filter, h, sget] using ih

/-- Other keys stay when one is taken out. -/
theorem sget_sdel_ne (m : Sparse α) (d : α) {k j : Nat} (h : j ≠ k) :
    sget (sdel m k) d j = sget m d j := by
  induction m with
  | nil => rfl
  | cons p r ih =>
    obtain ⟨a, v⟩ := p
    by_cases hk : a = k
    · subst hk
      have : ¬ a = j := fun e => h e.symm
      simpa [sdel, List.filter, sget, this] using ih
    · by_cases hj : a = j
      · simp [sdel, List.filter, sget, hj, h]
      · simpa [sdel, List.filter, sget, hk, hj] using ih

/-- A key put in reads its value. -/
@[simp] theorem sget_sins_same (m : Sparse α) (d : α) (k : Nat) (v : α) :
    sget (sins m k v) d k = v := by
  induction m with
  | nil => simp [sins, sget]
  | cons p r ih =>
    obtain ⟨a, w⟩ := p
    unfold sins
    split
    · simp [sget]
    · split
      · simp [sget]
      · rename_i h1 h2
        simpa [sget, Ne.symm h2] using ih

/-- Other keys stay when one is put in. -/
theorem sget_sins_ne (m : Sparse α) (d : α) {k j : Nat} (v : α) (h : j ≠ k) :
    sget (sins m k v) d j = sget m d j := by
  induction m with
  | nil => simp [sins, sget, Ne.symm h]
  | cons p r ih =>
    obtain ⟨a, w⟩ := p
    unfold sins
    split
    · simp [sget, Ne.symm h]
    · split
      · rename_i h1 h2
        subst h2
        simp [sget, Ne.symm h]
      · by_cases hj : a = j
        · simp [sget, hj]
        · simpa [sget, hj] using ih

variable [DecidableEq α]

/-- A key written reads what was written. -/
@[simp] theorem sget_sput_same (m : Sparse α) (d : α) (k : Nat) (v : α) :
    sget (sput m d k v) d k = v := by
  unfold sput
  split
  · rename_i h
    simp [h]
  · simp

/-- Other keys stay under a write, whatever default they are read with. -/
theorem sget_sput_ne (m : Sparse α) (d e : α) {k j : Nat} (v : α) (h : j ≠ k) :
    sget (sput m d k v) e j = sget m e j := by
  unfold sput
  split
  · exact sget_sdel_ne m e h
  · exact sget_sins_ne m e v h

end

/-! ## The canonical form -/

/-- Keys of a list with one taken out are among its keys. -/
theorem sdel_sublist {α : Type} (m : Sparse α) (k : Nat) : (sdel m k).Sublist m := List.filter_sublist

/-- A bound on the keys after an insertion. -/
theorem sins_lower {α : Type} (m : Sparse α) (k b : Nat) (v : α) (hb : b < k)
    (h : ∀ p ∈ m, b < p.1) : ∀ p ∈ sins m k v, b < p.1 := by
  induction m with
  | nil => simpa [sins] using hb
  | cons q r ih =>
    obtain ⟨a, w⟩ := q
    have ha := h (a, w) (by simp)
    have hr : ∀ p ∈ r, b < p.1 := fun p hp => h p (by simp [hp])
    unfold sins
    split
    · intro p hp
      rcases List.mem_cons.mp hp with rfl | hp
      · exact hb
      · exact h p hp
    · split
      · intro p hp
        rcases List.mem_cons.mp hp with rfl | hp
        · exact hb
        · exact hr p hp
      · intro p hp
        rcases List.mem_cons.mp hp with rfl | hp
        · exact ha
        · exact ih hr p hp

/-- An insertion keeps the keys rising. -/
theorem sins_sorted {α : Type} (m : Sparse α) (k : Nat) (v : α)
    (h : (m.map Prod.fst).Pairwise (· < ·)) : ((sins m k v).map Prod.fst).Pairwise (· < ·) := by
  induction m with
  | nil => simp [sins]
  | cons q r ih =>
    obtain ⟨a, w⟩ := q
    rw [List.map_cons, List.pairwise_cons] at h
    unfold sins
    split
    · rename_i hk
      rw [List.map_cons, List.map_cons, List.pairwise_cons, List.pairwise_cons]
      refine ⟨?_, h⟩
      intro b hb
      rcases List.mem_cons.mp hb with rfl | hb
      · exact hk
      · exact lt_trans hk (h.1 b hb)
    · split
      · rename_i h1 h2
        subst h2
        rw [List.map_cons, List.pairwise_cons]
        exact h
      · rename_i h1 h2
        rw [List.map_cons, List.pairwise_cons]
        refine ⟨?_, ih h.2⟩
        intro b hb
        obtain ⟨p, hp, rfl⟩ := List.mem_map.mp hb
        exact sins_lower r k a v (by omega) (fun p hp => h.1 _ (List.mem_map_of_mem hp)) p hp

/-- What an insertion lists. -/
theorem mem_sins {α : Type} (m : Sparse α) (k : Nat) (v : α) :
    ∀ p ∈ sins m k v, p = (k, v) ∨ p ∈ m := by
  induction m with
  | nil => simp [sins]
  | cons q r ih =>
    obtain ⟨a, w⟩ := q
    unfold sins
    split
    · simp
    · split
      · intro p hp
        rcases List.mem_cons.mp hp with rfl | hp
        · exact .inl rfl
        · exact .inr (List.mem_cons_of_mem _ hp)
      · intro p hp
        rcases List.mem_cons.mp hp with rfl | hp
        · exact .inr (by simp)
        · rcases ih p hp with h | h
          · exact .inl h
          · exact .inr (List.mem_cons_of_mem _ h)

/-- A byte stored keeps the canonical form of memory. -/
theorem memPut_wf (m : List Host.Cell) (a : Nat) (b : Byte) (h : Memory.wf m) :
    Memory.wf (memPut m a b) := by
  obtain ⟨h1, h2⟩ := h
  unfold memPut sput
  split
  · exact ⟨h1.sublist ((sdel_sublist m a).map _), fun c hc => h2 c ((sdel_sublist m a).subset hc)⟩
  · rename_i hb
    refine ⟨sins_sorted m a b h1, fun c hc => ?_⟩
    rcases mem_sins m a b c hc with rfl | hc
    · exact hb
    · exact h2 c hc

/-- Bytes stored keep the canonical form. -/
theorem memPuts_wf (b : Bytes) : ∀ (m : List Host.Cell) (a : Nat), Memory.wf m →
    Memory.wf (memPuts m a b) := by
  induction b with
  | nil => exact fun _ _ h => h
  | cons x r ih => exact fun m a h => ih _ _ (memPut_wf m a x h)

/-- A memory of which part is taken away keeps the canonical form. -/
theorem filter_wf (m : List Host.Cell) (p : Host.Cell → Bool) (h : Memory.wf m) :
    Memory.wf (m.filter p) :=
  ⟨h.1.sublist (List.filter_sublist.map _), fun c hc => h.2 c (List.mem_of_mem_filter hc)⟩

/-- The memory with nothing listed. -/
theorem nil_wf : Memory.wf [] := ⟨.nil, by simp⟩

/-- A stored byte reads back. -/
@[simp] theorem memGet_memPut_same (m : List Host.Cell) (a : Nat) (b : Byte) :
    memGet (memPut m a b) a = b := sget_sput_same m 0 a b

/-- A stored byte leaves every other address. -/
theorem memGet_memPut_ne (m : List Host.Cell) {a c : Nat} (b : Byte) (h : c ≠ a) :
    memGet (memPut m a b) c = memGet m c := sget_sput_ne m 0 0 b h

/-- Bytes stored leave every address outside them. -/
theorem memGet_memPuts_out (b : Bytes) : ∀ (m : List Host.Cell) (a c : Nat),
    c < a ∨ a + b.length ≤ c → memGet (memPuts m a b) c = memGet m c := by
  induction b with
  | nil => exact fun _ _ _ _ => rfl
  | cons x r ih =>
    intro m a c h
    simp only [List.length_cons] at h
    rw [memPuts, ih _ _ _ (by omega)]
    exact memGet_memPut_ne m x (by omega)

end Sys2Proof.Machine
end

