-- ==== Sys2Proof/Laws/Memory.lean ====
section
/-! SUPPORT. The range operations on memory keep its canonical form. -/

namespace Sys2Proof.Machine

open Sys2Proof

/-- A cleared range keeps the canonical form. -/
theorem memClear_wf (m : List Host.Cell) (lo hi : Nat) (h : Memory.wf m) :
    Memory.wf (memClear m lo hi) := filter_wf m _ h

/-- A copied range keeps the canonical form. -/
theorem memCopy_wf (m : List Host.Cell) (src dst len : Nat) (h : Memory.wf m) :
    Memory.wf (memCopy m src dst len) := by
  have ha := filter_wf m (fun c => decide (c.1 < dst)) h
  have hb := filter_wf m (fun c => decide (src ≤ c.1 ∧ c.1 < src + len)) h
  have hc := filter_wf m (fun c => decide (dst + len ≤ c.1)) h
  have ra : ∀ c ∈ m.filter (fun c => decide (c.1 < dst)), c.1 < dst := fun c hm => by
    simpa using (List.mem_filter.mp hm).2
  have rb : ∀ c ∈ m.filter (fun c => decide (src ≤ c.1 ∧ c.1 < src + len)),
      src ≤ c.1 ∧ c.1 < src + len := fun c hm => by simpa using (List.mem_filter.mp hm).2
  have rc : ∀ c ∈ m.filter (fun c => decide (dst + len ≤ c.1)), dst + len ≤ c.1 := fun c hm => by
    simpa using (List.mem_filter.mp hm).2
  unfold memCopy
  generalize m.filter (fun c => decide (c.1 < dst)) = A at *
  generalize m.filter (fun c => decide (src ≤ c.1 ∧ c.1 < src + len)) = B at *
  generalize m.filter (fun c => decide (dst + len ≤ c.1)) = C at *
  have hB : ((B.map (fun c => (c.1 - src + dst, c.2))).map Prod.fst).Pairwise (· < ·) := by
    have := hb.1
    rw [List.pairwise_map] at this
    rw [List.map_map, List.pairwise_map]
    refine this.imp_of_mem ?_
    intro x y hx hy hxy
    have h1 := rb x hx
    have h2 := rb y hy
    show x.1 - src + dst < y.1 - src + dst
    omega
  refine ⟨?_, ?_⟩
  · rw [List.map_append, List.map_append, List.pairwise_append, List.pairwise_append]
    refine ⟨⟨ha.1, hB, ?_⟩, hc.1, ?_⟩
    · intro x hx y hy
      obtain ⟨p, hp, rfl⟩ := List.mem_map.mp hx
      obtain ⟨q, hq, rfl⟩ := List.mem_map.mp hy
      obtain ⟨r, hr, rfl⟩ := List.mem_map.mp hq
      have h1 := ra p hp
      show p.1 < r.1 - src + dst
      omega
    · intro x hx y hy
      obtain ⟨q, hq, rfl⟩ := List.mem_map.mp hy
      have h3 := rc q hq
      rcases List.mem_append.mp hx with hx | hx
      · obtain ⟨p, hp, rfl⟩ := List.mem_map.mp hx
        have h1 := ra p hp
        omega
      · obtain ⟨p, hp, rfl⟩ := List.mem_map.mp hx
        obtain ⟨r, hr, rfl⟩ := List.mem_map.mp hp
        have h2 := rb r hr
        show r.1 - src + dst < q.1
        omega
  · intro c hm
    rcases List.mem_append.mp hm with hm | hm
    · rcases List.mem_append.mp hm with hm | hm
      · exact ha.2 c hm
      · obtain ⟨r, hr, rfl⟩ := List.mem_map.mp hm
        exact hb.2 r hr
    · exact hc.2 c hm

end Sys2Proof.Machine
end

