-- ==== Sys2Proof/Laws/State.lean ====
section
/-! SUPPORT. What the shared operations on State leave and change: one lemma per field for a
register write and for a sent message; the reads of a register field after a write; what the
memory operations do to memory. -/

namespace Sys2Proof.Machine

open Sys2Proof

/-! ## A register field written by the hardware -/

@[simp] theorem State.set_mem (s : State) (f : Fld) (v : Nat) : (s.set f v).mem = s.mem := rfl
@[simp] theorem State.set_synd (s : State) (f : Fld) (v : Nat) : (s.set f v).synd = s.synd := rfl
@[simp] theorem State.set_straps (s : State) (f : Fld) (v : Nat) : (s.set f v).straps = s.straps := rfl
@[simp] theorem State.set_dev (s : State) (f : Fld) (v : Nat) : (s.set f v).dev = s.dev := rfl
@[simp] theorem State.set_time (s : State) (f : Fld) (v : Nat) : (s.set f v).time = s.time := rfl
@[simp] theorem State.set_lanes (s : State) (f : Fld) (v : Nat) : (s.set f v).lanes = s.lanes := rfl
@[simp] theorem State.set_strs (s : State) (f : Fld) (v : Nat) : (s.set f v).strs = s.strs := rfl
@[simp] theorem State.set_cells (s : State) (f : Fld) (v : Nat) : (s.set f v).cells = s.cells := rfl
@[simp] theorem State.set_modu (s : State) (f : Fld) (v : Nat) : (s.set f v).modu = s.modu := rfl
@[simp] theorem State.set_ceng (s : State) (f : Fld) (v : Nat) : (s.set f v).ceng = s.ceng := rfl
@[simp] theorem State.set_logic (s : State) (f : Fld) (v : Nat) : (s.set f v).logic = s.logic := rfl
@[simp] theorem State.set_safe (s : State) (f : Fld) (v : Nat) : (s.set f v).safe = s.safe := rfl
@[simp] theorem State.set_adc (s : State) (f : Fld) (v : Nat) : (s.set f v).adc = s.adc := rfl
@[simp] theorem State.set_vsp (s : State) (f : Fld) (v : Nat) : (s.set f v).vsp = s.vsp := rfl
@[simp] theorem State.set_eth (s : State) (f : Fld) (v : Nat) : (s.set f v).eth = s.eth := rfl
@[simp] theorem State.set_cans (s : State) (f : Fld) (v : Nat) : (s.set f v).cans = s.cans := rfl
@[simp] theorem State.set_cores (s : State) (f : Fld) (v : Nat) : (s.set f v).cores = s.cores := rfl
@[simp] theorem State.set_sched (s : State) (f : Fld) (v : Nat) : (s.set f v).sched = s.sched := rfl
@[simp] theorem State.set_host (s : State) (f : Fld) (v : Nat) : (s.set f v).host = s.host := rfl
@[simp] theorem State.set_iommu (s : State) (f : Fld) (v : Nat) : (s.set f v).iommu = s.iommu := rfl
@[simp] theorem State.set_pair (s : State) (f : Fld) (v : Nat) : (s.set f v).pair = s.pair := rfl
@[simp] theorem State.set_img (s : State) (f : Fld) (v : Nat) : (s.set f v).img = s.img := rfl
@[simp] theorem State.set_memc (s : State) (f : Fld) (v : Nat) : (s.set f v).memc = s.memc := rfl
@[simp] theorem State.set_out (s : State) (f : Fld) (v : Nat) : (s.set f v).out = s.out := rfl
@[simp] theorem State.set_free (s : State) (f : Fld) (v : Nat) : (s.set f v).free = s.free := rfl
@[simp] theorem State.set_pending (s : State) (f : Fld) (v : Nat) : (s.set f v).pending = s.pending := rfl

/-! ## Something sent -/

@[simp] theorem State.emit_regs (s : State) (o : Out) : (s.emit o).regs = s.regs := rfl
@[simp] theorem State.emit_mem (s : State) (o : Out) : (s.emit o).mem = s.mem := rfl
@[simp] theorem State.emit_synd (s : State) (o : Out) : (s.emit o).synd = s.synd := rfl
@[simp] theorem State.emit_straps (s : State) (o : Out) : (s.emit o).straps = s.straps := rfl
@[simp] theorem State.emit_dev (s : State) (o : Out) : (s.emit o).dev = s.dev := rfl
@[simp] theorem State.emit_time (s : State) (o : Out) : (s.emit o).time = s.time := rfl
@[simp] theorem State.emit_lanes (s : State) (o : Out) : (s.emit o).lanes = s.lanes := rfl
@[simp] theorem State.emit_strs (s : State) (o : Out) : (s.emit o).strs = s.strs := rfl
@[simp] theorem State.emit_cells (s : State) (o : Out) : (s.emit o).cells = s.cells := rfl
@[simp] theorem State.emit_modu (s : State) (o : Out) : (s.emit o).modu = s.modu := rfl
@[simp] theorem State.emit_ceng (s : State) (o : Out) : (s.emit o).ceng = s.ceng := rfl
@[simp] theorem State.emit_logic (s : State) (o : Out) : (s.emit o).logic = s.logic := rfl
@[simp] theorem State.emit_safe (s : State) (o : Out) : (s.emit o).safe = s.safe := rfl
@[simp] theorem State.emit_adc (s : State) (o : Out) : (s.emit o).adc = s.adc := rfl
@[simp] theorem State.emit_vsp (s : State) (o : Out) : (s.emit o).vsp = s.vsp := rfl
@[simp] theorem State.emit_eth (s : State) (o : Out) : (s.emit o).eth = s.eth := rfl
@[simp] theorem State.emit_cans (s : State) (o : Out) : (s.emit o).cans = s.cans := rfl
@[simp] theorem State.emit_cores (s : State) (o : Out) : (s.emit o).cores = s.cores := rfl
@[simp] theorem State.emit_sched (s : State) (o : Out) : (s.emit o).sched = s.sched := rfl
@[simp] theorem State.emit_host (s : State) (o : Out) : (s.emit o).host = s.host := rfl
@[simp] theorem State.emit_iommu (s : State) (o : Out) : (s.emit o).iommu = s.iommu := rfl
@[simp] theorem State.emit_pair (s : State) (o : Out) : (s.emit o).pair = s.pair := rfl
@[simp] theorem State.emit_img (s : State) (o : Out) : (s.emit o).img = s.img := rfl
@[simp] theorem State.emit_memc (s : State) (o : Out) : (s.emit o).memc = s.memc := rfl
@[simp] theorem State.emit_free (s : State) (o : Out) : (s.emit o).free = s.free := rfl
@[simp] theorem State.emit_pending (s : State) (o : Out) : (s.emit o).pending = s.pending := rfl
@[simp] theorem State.emit_out (s : State) (o : Out) : (s.emit o).out = s.out ++ [o] := rfl

/-! ## Conditions -/

@[simp] theorem State.when_true (s : State) (f : State → State) : s.when true f = f s := rfl
@[simp] theorem State.when_false (s : State) (f : State → State) : s.when false f = s := rfl

/-- A property of both sides is one of a conditional application. -/
theorem State.when_of (s : State) (c : Bool) (f : State → State) (P : State → Prop) (h : P s)
    (hf : P (f s)) : P (s.when c f) := by
  cases c
  · exact h
  · exact hf

/-! ## Bits -/

/-- The field just written reads the written value in its width. -/
theorem bits_setBits_same (x lo w v : Nat) : bits (setBits x lo w v) lo w = v % 2 ^ w := by
  have hm : (x >>> lo) % 2 ^ w * 2 ^ lo ≤ x := by
    rw [Nat.shiftRight_eq_div_pow]
    exact le_trans (Nat.mul_le_mul_right _ (Nat.mod_le _ _)) (Nat.div_mul_le_self _ _)
  unfold bits setBits bits
  rw [Nat.shiftRight_eq_div_pow, Nat.add_mul_div_right _ _ (Nat.two_pow_pos lo)]
  have hd : (x - (x >>> lo) % 2 ^ w * 2 ^ lo) / 2 ^ lo % 2 ^ w = 0 := by
    rw [Nat.shiftRight_eq_div_pow, Nat.mul_comm, Nat.sub_mul_div]
    have h := Nat.div_add_mod (x / 2 ^ lo) (2 ^ w)
    have e : x / 2 ^ lo - x / 2 ^ lo % 2 ^ w = 2 ^ w * (x / 2 ^ lo / 2 ^ w) := by omega
    rw [e, Nat.mul_mod_right]
  rw [Nat.add_mod, hd, Nat.zero_add, Nat.mod_mod, Nat.mod_mod]

/-- A word stays a word when a field inside it is written. -/
theorem setBits_lt (x lo w v n : Nat) (h : lo + w ≤ n) (hx : x < 2 ^ n) : setBits x lo w v < 2 ^ n := by
  unfold setBits bits
  rw [Nat.shiftRight_eq_div_pow]
  have e : 2 ^ n = 2 ^ lo * (2 ^ w * 2 ^ (n - lo - w)) := by
    rw [← Nat.pow_add, ← Nat.pow_add]
    congr 1
    omega
  have hq : x / 2 ^ lo < 2 ^ w * 2 ^ (n - lo - w) := by
    rw [Nat.div_lt_iff_lt_mul (Nat.two_pow_pos lo), Nat.mul_comm, ← e]
    exact hx
  have h1 := Nat.div_add_mod x (2 ^ lo)
  have h2 := Nat.mod_lt x (Nat.two_pow_pos lo)
  have h3 := Nat.div_add_mod (x / 2 ^ lo) (2 ^ w)
  have hv := Nat.mod_lt v (Nat.two_pow_pos w)
  have hr := Nat.mod_lt (x / 2 ^ lo) (Nat.two_pow_pos w)
  have hlt : x / 2 ^ lo / 2 ^ w < 2 ^ (n - lo - w) := by
    rw [Nat.div_lt_iff_lt_mul (Nat.two_pow_pos w), Nat.mul_comm]
    exact hq
  have hy : x / 2 ^ lo - x / 2 ^ lo % 2 ^ w + v % 2 ^ w < 2 ^ w * 2 ^ (n - lo - w) := by
    have : 2 ^ w * (x / 2 ^ lo / 2 ^ w) + 2 ^ w ≤ 2 ^ w * 2 ^ (n - lo - w) := by
      have := Nat.mul_le_mul_left (2 ^ w) hlt
      rw [Nat.succ_eq_add_one, Nat.mul_add, Nat.mul_one] at this
      exact this
    omega
  have hs : x - x / 2 ^ lo % 2 ^ w * 2 ^ lo + v % 2 ^ w * 2 ^ lo =
      2 ^ lo * (x / 2 ^ lo - x / 2 ^ lo % 2 ^ w + v % 2 ^ w) + x % 2 ^ lo := by
    have hle : x / 2 ^ lo % 2 ^ w ≤ x / 2 ^ lo := Nat.mod_le _ _
    have : 2 ^ lo * (x / 2 ^ lo - x / 2 ^ lo % 2 ^ w + v % 2 ^ w) =
        2 ^ lo * (x / 2 ^ lo) - x / 2 ^ lo % 2 ^ w * 2 ^ lo + v % 2 ^ w * 2 ^ lo := by
      rw [Nat.mul_add, Nat.mul_sub, Nat.mul_comm (x / 2 ^ lo % 2 ^ w), Nat.mul_comm (v % 2 ^ w)]
    have hle2 : x / 2 ^ lo % 2 ^ w * 2 ^ lo ≤ 2 ^ lo * (x / 2 ^ lo) := by
      rw [Nat.mul_comm]
      exact Nat.mul_le_mul_left _ hle
    omega
  rw [hs, e]
  have := Nat.mul_le_mul_left (2 ^ lo) hy
  rw [Nat.succ_eq_add_one, Nat.mul_add, Nat.mul_one] at this
  omega

/-! ## Reads of registers after writes -/

/-- The stored word of a field's register after a write of the field. -/
theorem State.word_set (s : State) (f : Fld) (v : Nat) (h : f.lo + f.w ≤ 32) :
    (s.set f v).word f = setBits (s.word f) f.lo f.w v := by
  have hw : s.word f < 2 ^ 32 := (sget s.regs (BitVec.ofNat 32 f.rst) f.addr).isLt
  unfold State.set
  show (sget (sput s.regs _ f.addr _) _ f.addr).toNat = _
  rw [sget_sput_same, BitVec.toNat_ofNat]
  exact Nat.mod_eq_of_lt (setBits_lt _ _ _ _ 32 h hw)

/-- A field reads what was written, in its width. -/
theorem State.get_set (s : State) (f : Fld) (v : Nat) (h : f.lo + f.w ≤ 32) :
    (s.set f v).get f = v % 2 ^ f.w := by
  unfold State.get
  rw [State.word_set s f v h, bits_setBits_same]

/-- Registers at other offsets stay under a write. -/
theorem State.word_set_ne (s : State) (f g : Fld) (v : Nat) (h : g.addr ≠ f.addr) :
    (s.set f v).word g = s.word g := by
  unfold State.set State.word
  show (sget (sput s.regs _ f.addr _) _ g.addr).toNat = _
  rw [sget_sput_ne _ _ _ _ h]

/-- Fields of registers at other offsets stay under a write. -/
theorem State.get_set_ne (s : State) (f g : Fld) (v : Nat) (h : g.addr ≠ f.addr) :
    (s.set f v).get g = s.get g := by
  unfold State.get
  rw [State.word_set_ne s f g v h]

/-! ## The memories -/

/-- A word stored with its marks and error code keeps the canonical form of memory. -/
theorem State.wr32_wf (s : State) (a v : Nat) (h : Memory.wf s.mem) : Memory.wf (s.wr32 a v).mem := by
  have hm : (s.mark a).mem = s.mem := by
    unfold State.mark
    split <;> rfl
  unfold State.wr32
  simp only
  split
  · exact memPuts_wf _ _ _ (memPuts_wf _ _ _ (hm ▸ h))
  · exact memPuts_wf _ _ _ (hm ▸ h)

/-- Words stored keep the canonical form. -/
theorem State.wrWords_wf (l : List Nat) : ∀ (s : State) (a : Nat), Memory.wf s.mem →
    Memory.wf (s.wrWords a l).mem := by
  induction l with
  | nil => exact fun _ _ h => h
  | cons v r ih => exact fun s a h => ih _ _ (State.wr32_wf s a v h)

/-- Bytes stored keep the canonical form. -/
theorem State.wrB_wf (s : State) (a : Nat) (b : Bytes) (h : Memory.wf s.mem) :
    Memory.wf (s.wrB a b).mem := State.wrWords_wf _ s a h

/-- A counter that advances leaves memory. -/
@[simp] theorem State.inc_mem (s : State) (f : Fld) : (s.inc f).mem = s.mem := rfl

/-- An interrupt message leaves memory. -/
@[simp] theorem State.msi_mem (s : State) (v : Nat) : (s.msi v).mem = s.mem := by
  unfold State.msi
  repeat' split
  all_goals rfl

/-- A device event leaves memory. -/
@[simp] theorem State.evt_mem (s : State) (e : Evt) : (s.evt e).mem = s.mem := by
  unfold State.evt
  simp only
  split
  · simp
  · rfl

/-- A fault record leaves memory. -/
@[simp] theorem State.faultRec_mem (s : State) (kind cls req detail addr aux : Nat) :
    (s.faultRec kind cls req detail addr aux).mem = s.mem := by
  unfold State.faultRec
  extract_lets e s1 s2 s3 s4 s5 s6 s7
  have h1 : s1.mem = s.mem := by
    unfold s1 State.when
    split <;> rfl
  rw [State.evt_mem]
  show s6.mem = s.mem
  rw [State.inc_mem, State.set_mem, State.set_mem, State.set_mem, State.set_mem, State.set_mem, h1]

/-- A value that may be free leaves memory. -/
@[simp] theorem State.orFree_mem (s : State) (w : Nat) (o : Option Nat) :
    (s.orFree w o).2.mem = s.mem := by
  cases o <;> rfl

/-- A fault record with free fields leaves memory. -/
@[simp] theorem State.faultLog_mem (s : State) (kind : Nat) (cls req detail addr aux : Option Nat) :
    (s.faultLog kind cls req detail addr aux).mem = s.mem := by
  simp [State.faultLog]

/-- A counted correctable error leaves memory. -/
@[simp] theorem State.ceCount_mem (s : State) (cls : Nat) : (s.ceCount cls).mem = s.mem := by
  unfold State.ceCount
  simp only
  split
  · rw [State.faultLog_mem]
    rfl
  · rfl

/-- ADDR of a fault record leaves memory. -/
@[simp] theorem State.faultAddr_mem (s : State) (a : Nat) : (s.faultAddr a).2.mem = s.mem := by
  unfold State.faultAddr
  split <;> rfl

/-- A read through the error code keeps the canonical form: it writes at most the word it
corrects. -/
theorem State.eccRd_wf (s : State) (a req : Nat) (h : Memory.wf s.mem) :
    Memory.wf (s.eccRd a req).2.2.mem := by
  unfold State.eccRd
  simp only
  split
  · exact h
  · simp only [State.ceCount_mem]
    exact memPuts_wf _ _ _ h
  · simp only [State.ceCount_mem]
    exact h
  · exact h
  · simp only [State.faultLog_mem, State.inc, State.set_mem, State.faultAddr_mem]
    exact State.when_of _ _ _ (fun t => Memory.wf t.mem) h h

/-- The record of a poisoned word leaves memory. -/
@[simp] theorem State.poisonLog_mem (s : State) (a req : Nat) : (s.poisonLog a req).mem = s.mem := by
  simp [State.poisonLog]

/-- What a contained read leaves: the plain read, then the record of a poisoned word. -/
theorem State.eccRdF_state (s : State) (a req : Nat) :
    (s.eccRdF a req).2.2 = (s.eccRd a req).2.2.when
      (decide (sget s.synd 0 (a / 4) = 0x7F)) (·.poisonLog a req) := by
  rw [State.eccRdF]

/-- A contained read keeps the canonical form. -/
theorem State.eccRdF_wf (s : State) (a req : Nat) (h : Memory.wf s.mem) :
    Memory.wf (s.eccRdF a req).2.2.mem := by
  have h1 := State.eccRd_wf s a req h
  rw [State.eccRdF_state]
  generalize decide (sget s.synd 0 (a / 4) = 0x7F) = c
  cases c
  · rw [State.when_false]
    exact h1
  · rw [State.when_true, State.poisonLog_mem]
    exact h1

/-- Reads of consecutive words keep the canonical form. -/
theorem State.eccRds_wf (n : Nat) : ∀ (s : State) (a req : Nat), Memory.wf s.mem →
    Memory.wf (s.eccRds a req n).2.2.mem := by
  induction n with
  | zero => exact fun _ _ _ h => h
  | succ n ih =>
    intro s a req h
    have h1 := State.eccRdF_wf s a req h
    unfold State.eccRds
    simp only
    split
    · exact h1
    · exact ih _ _ _ h1

/-- A store of part of a word keeps the canonical form. -/
theorem State.wrPart_wf (s : State) (a k v req : Nat) (h : Memory.wf s.mem) :
    Memory.wf (s.wrPart a k v req).2.mem := by
  have h1 := State.eccRd_wf s (a / 4 * 4) req h
  unfold State.wrPart
  simp only
  split
  · exact h1
  · exact State.wr32_wf _ _ _ h1

end Sys2Proof.Machine
end

