-- ==== Sys2Proof/Tests/Slice0.lean ====
section
/-! SUPPORT. Small checks of the model, and for every statement a state and operands that meet its
hypotheses. Expected values come from the spec's own numbers or from hand calculation. -/

namespace Sys2Proof.Tests

open Sys2Proof Sys2Proof.Machine

/-! ### States -/

/-- A part out of RESET, in BOOT. -/
def up : State := { State.reset with dev := { inReset := false } }

/-- A part in a global state by its code. -/
def inState (g : Nat) : State := up.set F.DEV_STATE_STATE g

/-- A context with nothing in it. -/
def ctx0 : Ctx := {}

/-- Core 0 runs an item whose next instruction is w. -/
def onCore (w : Nat) : State :=
  { inState 2 with cores := [(0, { stack := [{ item := {}, ctx := ctx0 }] })],
                   mem := memPuts [] (instrBase 0) (toLE 8 w) }

/-- A pointer at the start of the own data memory. -/
def ownPtr : Ptr := { base := 0x40000000 }

/-- An item that core 0 may run. -/
def item0 : Item := { cores := 1 }

/-- An item of the highest level. -/
def item7 : Item := { cores := 1, prio := 7, uid := 7 }

/-- Core 0 is idle, and an item waits. -/
def queued : State :=
  { (inState 2).set R.SCHED_CORE_EN 1 with sched := { queues := [(0, [item0])] } }

/-- Core 0 runs an item and one of the highest level waits. -/
def busyCore : State :=
  { ((inState 2).set R.SCHED_CORE_EN 1).set F.SCHED_CFG_NEST_MAX 1 with
    sched := { queues := [(7, [item7])] }, cores := [(0, { stack := [{ item := {} }] })] }

/-- A spill ring with one item. -/
def spilled : State := { inState 2 with sched := { spills := [(7, [item7])] } }

/-- An item of stream 0. -/
def affItem : Item := { cores := 1, affEn := true }

/-- Core 0, on which stream 0 last ran, is busy, and an item of that stream waits. -/
def affinity : State :=
  { ((inState 2).set R.SCHED_CORE_EN 3).set (F.SCHED_AFF_LAST_VALID 0) 1 with
    sched := { queues := [(0, [affItem])] }, cores := [(0, { stack := [{ item := {} }] })] }

/-- The last entry of the period table is due. -/
def ptReady : State :=
  ((inState 3).set (F.SCHED_PT_CFG_EN 63) 1).set (F.SCHED_PT_CFG_DIV 63) 1

/-- A part in CONFIG whose settings pass every check of GO_READY. -/
def readyOk : State :=
  (((((inState 2).set F.TIME_CTRL_PEN 1).set F.TIME_STATUS_PE_RUN 1).set F.ETH_SV_BASE_BASE 64).set
    F.SCHED_RUN_BASE_BASE 0x1000).set (F.LOGIC_PROG_BASE_BASE 0) 0x100 |>.set
    (F.LOGIC_PROG_BASE_BASE 1) 0x200 |>.set F.SCHED_CQ_BASE_BASE 0x80

/-! ### Well-formedness: for each check a command that breaks it and is refused -/

/-- One ill-formed command for each check of WellFormed. -/
def illFormed : List Instr :=
  [.adcRefSelect 4, .blkReceive 0 256 0, .devReset 65536 false, .laneCfgWrite 0 4294967296,
    .logicMemAccess (some 4294967296), .refLoss 2, .lgStart 8, .timeSnap 18, .laneTrain 48, .enum 44] ++
  [.cellApplyInstant Config.cells, .cellHello 0 2 [], .modArmCommit 6 0, .cellTableWrite 4096 0 0,
    .cellTableWrite 0 32 0, .trimCtrlWrite 48 0, .tripFilterPass 24 ⟨false, 100⟩, .coreAdd 16,
    .coreDmaDone 0 8 {}, .periodTableFire 64] ++
  [.schedCancel 64 0, .ringEnable 32, .msixUnmask 64, .linkTrained 4 1, .linkTrained 1 3,
    .registerWrite 0x4000000 0, .registerWrite 2 0, .scrubStep 6 .clean, .iommuInv 4,
    .contactDebounce 16 false ⟨false, 0⟩] ++
  [.offPulseTest 8 0, .configCrcCheck 31 0, .arm 16, .vspConfigWrite 0 6 0,
    .ainComparatorEdge 8 false false 0, .adcStart 8, .adcResult 0 5 0 false,
    .ethFrameReceive 4 [] 0 {}, .subscriptionStale true 16, .subscriptionStale false 32] ++
  [.canEnable 2, .otpProgram 8]

theorem smoke_illFormed : illFormed.all (fun c => !c.wf) = true := by decide
theorem smoke_refused : exec (.refLoss 2) up = .refused .illFormed ∧
    exec (.coreAdd 16) up = .refused .illFormed ∧ exec (.arm 16) up = .refused .illFormed :=
  ⟨rfl, rfl, rfl⟩

/-! ### The spec's worked examples -/

/-- R510 to R512: t2 = 500,000,050.5 ns and t3 = 500,120,032.75 ns on port 1. -/
def stampPort : State :=
  ((up.set (F.ETH_LAT_RXLAT 1) 0x0328).set (F.ETH_LAT_TXLAT 1) 0x023C).set (F.ETH_ASYM_ASYM 1) 0x0030
theorem test_stamps : stampPort.ethStamp 1 true (500000104 * 65536) = 500000050 * 65536 + 0x8000 ∧
    stampPort.ethStamp 1 false (500120000 * 65536) = 500120032 * 65536 + 0xC000 := by decide +kernel

/-- R242: a length cut under a live pointer folds its offset to 24. -/
theorem test_pointer_cut :
    ({ base := 0x40001000, len := 40, step := 16, mode := 1, ofs := 48 } : Ptr).upd.1.ofs = 24 ∧
    ({ base := 0x40001000, len := 40, step := 16, mode := 1, ofs := 48 } : Ptr).upd.2.1 = true := by decide

/-- A command of the observer's worked example. -/
def obsCmd (st : Nat) : CmdRec := { init := st, on := st, dtc := 5 }
/-- The observer's worked example before update 103: VEST 2,001.00 V, no prediction yet of period 103. -/
def obs103 : State :=
  let s := ((inState 3).set F.PAIR_STAT_ROLE 3).set F.TIME_STATUS_PE_RUN 1
  let s := ((s.setStr 0 { frets := [{ cid := 5, ver := 1, insvc := true }] }).set (F.STR_CFG_ARM 0) 0).set (F.MOD_ARM_ISRC_EN 0) 1
  let s := (s.set (F.ADC_DATA_SAMPLE 0) 8000).set (F.ADC_DATA_VALID 0) 1
  let s := (s.set (R.MOD_ARM_K 0) 1374389535).setArm 0 { iu := 8000, ip := 8000, seen := true }
  let s := { s with time := { s.time with pidx := 103, ns := 515000 } }
  let s := ((s.ctPut 5 8 (2 ^ 24 + 2 ^ 18 + 8 * 2 ^ 20)).ctPut 5 0xC 10000).ctPut 5 0x24 1311375360
  let s := ((s.ctPut 5 0x2C 137439).ctPut 5 0x34 (2 + 2 * 2 ^ 16)).histPut 5 100 (obsCmd 1) false
  let s := ((s.histPut 5 101 (obsCmd 1) false).qhPut 5 101 156250).histPut 5 102 (obsCmd 0) false
  let s := s.histPut 5 103 (obsCmd 1) false
  { s with modu := { s.modu with tel := [⟨5, 0, toLE 2 20009 ++ [0] ++ toLE 2 (4 * 4096) ++ [25, 0, 0, 0, 0], 101, 505800⟩] } }
/-- R170: VEST becomes 1,311,440,896 at update 103, and EST 20,016. -/
theorem test_observer_103 : obs103.obsUpdate.ct 5 0x24 = 1311440896 ∧
    rs (obs103.obsUpdate.ct 5 0x28) 16 = 20016 := by decide +kernel

/-! ### Witnesses of StepRunsFrontCommand -/

theorem wit_step : ({ State.reset with pending := [.modCntClr] } : State).pending = [.modCntClr] := rfl

/-! ### Witnesses of EmptyQueueLetsTimePass -/

theorem wit_tick : up.pending = [] ∧ up.Awake ∧ up.room 1 = 1 ∧ up.now + 1 < 2 ^ 64 * 1000000000 := by
  decide

/-! ### Witnesses of WellFormedCommandsAnswer -/

theorem wit_wellFormed : (Instr.refLoss 1).wf = true ∧ (Instr.refLoss 2).wf = false := by decide

/-! ### Witnesses of ResetLeavesRegistersAtResetValues -/

theorem wit_resetWord : F.LANE_CFG_RATE 0 = F.LANE_CFG_RATE 0 ∧ (F.LANE_CFG_RATE 0).rst < 2 ^ 32 := by
  decide

/-! ### Witnesses of FieldWrittenReadsBack -/

theorem wit_fieldFits : F.DEV_STATE_STATE.Fits ∧ F.DEV_STATE_PREV.Fits ∧
    F.DEV_STATE_STATE.Apart F.DEV_STATE_PREV := by
  unfold Fld.Fits Fld.Apart
  decide

/-! ### Witnesses of StoredBytesReadBack -/

theorem wit_storedBytes : Memory.wf [(3, (7 : Byte)), (9, 1)] := by decide

/-! ### Witnesses of StoredWordReadsBackClean -/

theorem wit_noInjection : up.get F.MEM_INJ_MODE = 0 := by decide

/-! ### Witnesses of InjectedErrorsAreCorrectedOrDetected -/

theorem wit_oneError : (up.set F.MEM_INJ_MODE 1).get F.MEM_INJ_MODE = 1 ∧
    memClass 0x1000000 = some ((up.set F.MEM_INJ_MODE 1).get F.MEM_INJ_CLASS) := by decide
theorem wit_twoErrors : ((up.set F.MEM_INJ_MODE 2).set F.MEM_INJ_BIT_B 31).get F.MEM_INJ_MODE = 2 ∧
    memClass 0x1FFFFFC = some (((up.set F.MEM_INJ_MODE 2).set F.MEM_INJ_BIT_B 31).get F.MEM_INJ_CLASS) ∧
    ((up.set F.MEM_INJ_MODE 2).set F.MEM_INJ_BIT_B 31).get F.MEM_INJ_BIT_A ≠
      ((up.set F.MEM_INJ_MODE 2).set F.MEM_INJ_BIT_B 31).get F.MEM_INJ_BIT_B := by decide

/-! ### Witnesses of MemoryStaysCanonical -/

theorem wit_canonical : ({ up with pending := [.pairCntClr] } : State).Canonical ∧
    step { up with pending := [.pairCntClr] } = .next up.pairCntClr := by
  refine ⟨?_, rfl⟩
  unfold State.Canonical
  decide

/-! ### Witnesses of InstructionWordsRoundTrip -/

theorem wit_coreFields : cwEncode 255 31 31 31 31 15 (2 ^ 32 - 1) = 2 ^ 64 - 1 := by decide
theorem wit_logicWord : (0x0C0FFFFF : Nat) < 2 ^ 32 ∧ lRest .O 0x0C0FFFFF = true := by decide
/-- R236: OP [63:56], D [55:51], A [50:46], B [45:41], C [40:36], OPT [35:32], IMM [31:0]. -/
theorem test_core_fields : cwOp 0x0108A40000000000 = 1 ∧ cwD 0x0108A40000000000 = 1 ∧
    cwA 0x0108A40000000000 = 2 ∧ cwB 0x0108A40000000000 = 18 := by decide

/-! ### Witnesses of CoreIntegerInstructions -/

theorem wit_coreInteger : ∀ op ∈ ([1, 2, 3, 4, 5, 6, 7, 8, 9, 10, 11, 12, 13, 14] : List Nat),
    fmtRI (cwEncode op 0 31 30 0 0 0) = true ∧ cwOp (cwEncode op 0 31 30 0 0 0) = op ∧
    (onCore (cwEncode op 0 31 30 0 0 0)).CoreAt 0 (cwEncode op 0 31 30 0 0 0) ctx0
      (onCore (cwEncode op 0 31 30 0 0 0)) := by
  intro op h
  fin_cases h <;> exact ⟨by decide, by decide, by decide, rfl, rfl⟩
theorem wit_coreIllegal : fmtRI (cwEncode 1 0 0 0 0 2 0) = false ∧ fmtRI (cwEncode 1 0 0 0 0 1 5) = true := by
  decide

/-! ### Witnesses of CoreLoadsAndStores -/

theorem wit_coreLoads : ∀ op ∈ ([0x10, 0x11, 0x12, 0x13, 0x14, 0x15] : List Nat),
    ((onCore (cwEncode op 15 7 0 0 0 0)).CoreAt 0 (cwEncode op 15 7 0 0 0 0) ctx0
      (onCore (cwEncode op 15 7 0 0 0 0))) ∧ cwOp (cwEncode op 15 7 0 0 0 0) = op ∧
    (fmtM (cwEncode op 15 7 0 0 0 0) && optSize (cwEncode op 15 7 0 0 0 0) &&
      ptrOk ctx0 (cwA (cwEncode op 15 7 0 0 0 0)) && fmtX (cwEncode op 15 7 0 0 0 0)) = true := by
  intro op h
  fin_cases h <;> exact ⟨⟨by decide, rfl, rfl⟩, by decide, by decide⟩
theorem wit_coreAddress : (onCore 0).coreAccess 0 false false [(0x40000000, 4)] = none ∧
    (onCore 0).coreRdRuns 0 [(0x40000000, 4)] = ([0, 0, 0, 0], false, onCore 0) ∧
    (onCore 0).coreAccess 0 true false [(0x4003DC00, 4)] = some .prot ∧
    (onCore 0).coreAccess 0 false false [(0x40040000, 4)] = some .unmapped := by
  refine ⟨by decide, rfl, by decide, by decide⟩

/-! ### Witnesses of CoreStoreChangesItsBytesOnly -/

theorem wit_storeOwn : (up.get F.MEM_INJ_MODE = 0) ∧ (0x40000000 ≤ 0x4003FFFF) ∧
    ∀ i, i < 1 → sget up.synd 0 ((coreOfs 15 0x4003FFFF + i) / 4) = 0 := by decide

/-! ### Witnesses of CoreVectorMoves -/

theorem wit_coreVector : ∀ op ∈ ([0x16, 0x17, 0x18, 0x20, 0x21, 0x22, 0x23, 0x24, 0x25] : List Nat),
    cwOp (cwEncode op 15 15 0 0 0 0) = op ∧ fmtR (cwEncode op 15 15 0 0 0 0) = true ∧
    fmtI (cwEncode op 15 15 0 0 0 0) = true ∧ vOk (cwEncode op 15 15 0 0 0 0) = true ∧
    (onCore (cwEncode op 15 15 0 0 0 0)).CoreAt 0 (cwEncode op 15 15 0 0 0 0) ctx0
      (onCore (cwEncode op 15 15 0 0 0 0)) := by
  intro op h
  fin_cases h <;> exact ⟨by decide, by decide, by decide, by decide, by decide, rfl, rfl⟩

/-! ### Witnesses of CoreAccumulators -/

theorem wit_coreAcc : ∀ op ∈ ([0x26, 0x27, 0x29, 0x38, 0x39, 0x3A, 0x3B] : List Nat),
    cwOp (cwEncode op 1 15 15 0 0 0) = op ∧ fmtR (cwEncode op 1 15 15 0 0 0) = true ∧
    (onCore (cwEncode op 1 15 15 0 0 0)).CoreAt 0 (cwEncode op 1 15 15 0 0 0) ctx0
      (onCore (cwEncode op 1 15 15 0 0 0)) := by
  intro op h
  fin_cases h <;> exact ⟨by decide, by decide, by decide, rfl, rfl⟩

/-! ### Witnesses of CoreExtractionAndSearch -/

theorem wit_coreExt : ∀ op ∈ ([0x28, 0x2A, 0x3C, 0x30, 0x31, 0x32] : List Nat),
    cwOp (cwEncode op 3 1 0 0 0 0) = op ∧ fmtR (cwEncode op 3 1 0 0 0 0) = true ∧
    fmtM (cwEncode op 3 1 0 0 0 0) = true ∧ ptrOk ctx0 1 = true ∧
    (onCore (cwEncode op 3 1 0 0 0 0)).CoreAt 0 (cwEncode op 3 1 0 0 0 0) ctx0
      (onCore (cwEncode op 3 1 0 0 0 0)) := by
  intro op h
  fin_cases h <;> exact ⟨by decide, by decide, by decide, by decide, by decide, rfl, rfl⟩
theorem wit_coreVmacm : (onCore 0).coreAccess 0 false true ((ownPtr).runs 16) = none ∧
    (onCore 0).coreRdRuns 0 ((ownPtr).runs 16) = (List.replicate 16 0, false, onCore 0) ∧
    ownPtr.at' 16 % 2 = 0 := ⟨by decide, rfl, by decide⟩

/-! ### Witnesses of CoreFloatingPoint -/

theorem wit_coreFp : ∀ op ∈ ([0x40, 0x41, 0x42, 0x43, 0x44, 0x45, 0x46, 0x47, 0x48, 0x49, 0x4A,
      0x4B, 0x4C] : List Nat),
    cwOp (cwEncode op 31 1 2 3 0 0) = op ∧ fmtR (cwEncode op 31 1 2 3 0 0) = true ∧
    (onCore (cwEncode op 31 1 2 3 0 0)).CoreAt 0 (cwEncode op 31 1 2 3 0 0) ctx0
      (onCore (cwEncode op 31 1 2 3 0 0)) := by
  intro op h
  fin_cases h <;> exact ⟨by decide, by decide, by decide, rfl, rfl⟩
set_option maxRecDepth 8000 in
/-- IEEE 754-2019: 1 + 2 = 3, 1 / 3 rounds to 0x3EAAAAAB and is inexact, sqrt 4 = 2. -/
theorem test_fp_values : fadd 0 false 0x3F800000 0x40000000 = (0x40400000, 0) ∧
    (fdiv 0 false 0x3F800000 0x40400000).1 = 0x3EAAAAAB ∧ fsqrt 0 false 0x40800000 = (0x40000000, 0) :=
  ⟨rfl, rfl, rfl⟩

/-! ### Witnesses of CorePointersAndSpecialRegisters -/

theorem wit_corePtr : ∀ op ∈ ([0x50, 0x51, 0x52, 0x58, 0x59] : List Nat),
    cwOp (cwEncode op 7 7 0 0 0 0) = op ∧ fmtI (cwEncode op 7 7 0 0 0 0) = true ∧
    fmtM (cwEncode op 7 7 0 0 0 0) = true ∧
    (onCore (cwEncode op 7 7 0 0 0 0)).CoreAt 0 (cwEncode op 7 7 0 0 0 0) ctx0
      (onCore (cwEncode op 7 7 0 0 0 0)) := by
  intro op h
  fin_cases h <;> exact ⟨by decide, by decide, by decide, by decide, rfl, rfl⟩
theorem wit_coreMfsBounds : (fmtI (cwEncode 0x58 0 0 0 0 0 7) && decide (cwImm (cwEncode 0x58 0 0 0 0 0 7) < 8)) = true ∧
    (fmtI (cwEncode 0x58 0 0 0 0 0 8) && decide (cwImm (cwEncode 0x58 0 0 0 0 0 8) < 8)) = false := by decide
/-- R242's bit-reversed pointer over 8 elements: 0, 4, 2, 6 with STEP 4. -/
theorem test_bitrev_pointer :
    ({ len := 8, step := 4, mode := 2, ofs := 4 } : Ptr).upd.1.ofs = 2 := by decide

/-! ### Witnesses of CoreBranchesAndLoops -/

theorem wit_coreBranch : ∀ op ∈ ([0x60, 0x61, 0x62, 0x63] : List Nat),
    cwOp (cwEncode op 0 1 0 0 0 8) = op ∧ fmtJ (cwEncode op 0 1 0 0 0 8) = true ∧
    ctx0.cond 0 = some true ∧ ctx0.cond 1 = some false ∧ ctx0.loops.length < 2 ∧
    (onCore (cwEncode op 0 1 0 0 0 8)).CoreAt 0 (cwEncode op 0 1 0 0 0 8) ctx0
      (onCore (cwEncode op 0 1 0 0 0 8)) := by
  intro op h
  fin_cases h <;> exact ⟨by decide, by decide, by decide, by decide, by decide, by decide, rfl, rfl⟩
/-- R254: a body of one instruction that runs twice. -/
theorem test_loop_pass : loopNext 8 [⟨8, 8, 2⟩] = (8, [⟨8, 8, 1⟩]) ∧ loopNext 8 [⟨8, 8, 1⟩] = (16, []) := by
  decide

/-! ### Witnesses of CoreTransfersAndItemEnd -/

theorem wit_coreTransfer : ∀ op ∈ ([0x68, 0x69, 0x6A, 0x6B, 0x6E, 0x7F] : List Nat),
    cwOp (cwEncode op 1 2 0 0 0 0) = op ∧ fmtR (cwEncode op 1 2 0 0 0 0) = true ∧
    (onCore (cwEncode op 1 2 0 0 0 0)).dmaOut 0 = 0 ∧
    ((onCore (cwEncode op 1 2 0 0 0 0)).core 0).freeTag 0 = some 0 ∧
    (onCore (cwEncode op 1 2 0 0 0 0)).CoreAt 0 (cwEncode op 1 2 0 0 0 0) ctx0
      (onCore (cwEncode op 1 2 0 0 0 0)) := by
  intro op h
  fin_cases h <;> exact ⟨by decide, by decide, by decide, by decide, by decide, rfl, rfl⟩
theorem wit_coreUndefined : cwOp (cwEncode 0xFF 0 0 0 0 0 0) ∉ coreOps ∧
    (onCore (cwEncode 0xFF 0 0 0 0 0 0)).CoreAt 0 (cwEncode 0xFF 0 0 0 0 0 0) ctx0
      (onCore (cwEncode 0xFF 0 0 0 0 0 0)) := ⟨by decide, by decide, rfl, rfl⟩
theorem wit_coreDmaGood : dmaBad (toLE 16 (0x40000000 + 2 ^ 32 * 0x40000010 + 2 ^ 64 * 4)) = false ∧
    (onCore 0).dmaSide 0 false false 0x40000000 4 = none ∧
    (onCore 0).dmaSide 0 true false 0x40000010 4 = none := by decide
/-- A core with one transfer of item 0 outstanding under tag 7. -/
def dmaCore : CoreS := { stack := [{ item := {}, ctx := ctx0 }], dma := [(7, some ⟨0, 0, 0, 4, false, false, 0, none⟩)] }
theorem wit_coreDmaDone : dmaCore.dmaTag? 7 = some (7, ⟨0, 0, 0, 4, false, false, 0, none⟩) ∧
    dmaCore.freeTag 0 = some 0 ∧ (onCore 0).accepting = true := by decide

/-! ### Witnesses of CoreExceptionEndsItem -/

theorem wit_coreException : ((onCore 0).core 0).stack = [{ item := {}, ctx := ctx0 }] ∧
    (onCore 0).get F.MEM_INJ_MODE = 0 := by decide

/-! ### Witnesses of SchedulerEvents -/

theorem wit_dispatch : queued.coreIdle 0 = true ∧ queued.pick 0 = some item0 := by decide
theorem wit_preempt : busyCore.preemptPick = some (item7, 0) := by decide
theorem wit_save : ((busyCore.preempt).core 0).phase = .saving (some item7) 0 := by decide
theorem wit_restore : ({ onCore 0 with cores := [(0, { stack := [{ item := {} }], phase := .restoring 3 })] } :
    State).core 0 = { stack := [{ item := {} }], phase := .restoring 3 } := by decide
theorem wit_hold : (inState 5).accepting = false ∧ spilled.accepting = true := by decide
theorem wit_spill : spilled.spill 7 = [item7] ∧ (spilled.queue 7).length < 256 := by decide
theorem wit_affinity : affinity.affWaiting = [affItem] := by decide

/-! ### Witnesses of SchedulerSourcesAndWindows -/

theorem wit_periodTable : ptReady.live = true ∧ ptReady.on (F.SCHED_PT_CFG_EN 63) = true ∧
    ptReady.get (F.SCHED_PT_CFG_DIV 63) ≠ 0 ∧
    ptReady.time.pidx % ptReady.get (F.SCHED_PT_CFG_DIV 63) = ptReady.get (F.SCHED_PT_CFG_PHASE 63) ∧
    ptReady.on (F.SCHED_PT_CFG_SKIP_BUSY 63) = false ∧
    (ptReady.set (F.SCHED_PT_CFG_SKIP_BUSY 63) 1).on (F.SCHED_PT_CFG_SKIP_BUSY 63) = true ∧
    ({ ptReady with sched := { queues := [(0, [{ item0 with pt := some 63 }])] } } : State).ptBusy 63 = true := by
  decide
theorem wit_telemetry : (inState 3).live = true ∧
    ((inState 3).set (F.SCHED_TEL_EN 7) 1).on (F.SCHED_TEL_EN 7) = true := by decide
theorem wit_window : ((inState 3).set F.TIME_STATUS_PE_RUN 1).peRun = true ∧
    ((inState 3).set F.TIME_STATUS_PE_RUN 1).time.pidx % 1024 = 0 ∧
    ((inState 3).set F.TIME_STATUS_PE_RUN 1).sched.winAt = none := by decide
theorem wit_telFlight : (inState 3).grpLive 7 = [] ∧ ((inState 3).str 0).flights = [] := by decide

/-! ### Witnesses of DeviceCommands -/

theorem wit_devCycle : (inState 2).FirstOfCycle := ⟨by decide, fun u h => by cases h⟩
theorem wit_devFault : ({ up with dev := { up.dev with faultAt := some 0 } } : State).dev.faultAt = some up.time.cyc := by decide
theorem wit_devStates : (inState 2).Awake ∧ (inState 2).gst = .config ∧ (inState 3).gst = .ready ∧
    (inState 4).gst = .run ∧ (inState 4).live = true ∧ (inState 5).gst = .safeHold ∧
    (inState 5).live = false ∧ (inState 3).on F.DEV_STATE_RUN_PEND = false ∧
    ((inState 3).set F.DEV_STATE_RUN_PEND 1).on F.DEV_STATE_RUN_PEND = true := by decide
/-- R30: the window opens at 2 periods ahead and closes before 2^31. -/
theorem wit_runWindow : ((inState 3).set R.DEV_RUN_AT 2).inWindow 2 = true ∧ up.inWindow 1 = false ∧
    up.inWindow 0x7FFFFFFF = true ∧ up.inWindow 0x80000000 = false := by decide
set_option maxRecDepth 100000 in
theorem wit_readyFails : ∃ u, (inState 2).chkClr.readyFails = some u := by
  have h : (inState 2).chkClr.timeCheck = some (9, 0) := by decide
  unfold State.readyFails State.chk2
  rw [h]
  exact ⟨_, rfl⟩
set_option maxRecDepth 100000 in
theorem wit_readyPasses : readyOk.Awake ∧ readyOk.gst = .config ∧
    readyOk.on F.DEV_STATE_RUN_PEND = false ∧ readyOk.chkClr.readyFails = none := by
  have h1 : readyOk.chkClr.timeCheck = none := by decide
  have h2 : readyOk.chkClr.laneCheck = none := by decide
  have h3 : readyOk.chkClr.modCheck = none := by decide
  have h4 : readyOk.chkClr.schedCheck = none := by decide
  have h5 : readyOk.chkClr.cengCheck = none := by decide
  have h6 : readyOk.chkClr.adcCheck = none := by decide
  have h7 : readyOk.chkClr.logicCheck readyOk.chkClr.areas = none := by decide
  have h8 : readyOk.chkClr.pairCheck readyOk.chkClr.areas = none := by decide
  have h9 : areaCheck [] readyOk.chkClr.areas = none := by decide
  refine ⟨by decide, by decide, by decide, ?_⟩
  unfold State.readyFails State.chk2
  rw [h1, h2, h3, h4, h5, h6, h7, h8, h9]
  rfl

/-! ### Witnesses of UndefinedCommandCodesAreRefused -/

theorem wit_undefinedCodes : up.Awake ∧ (0 : Nat) % 16 ∉ ([1, 2, 3, 4, 15] : List Nat) ∧
    14 % 16 ∉ ([1, 2, 3, 4, 15] : List Nat) ∧ 3 % 4 ∉ ([1, 2] : List Nat) ∧
    5 % 16 ∉ ([1, 2, 3, 4] : List Nat) ∧ 7 % 16 ∉ ([1, 2, 3, 4, 5, 6] : List Nat) ∧
    4 % 16 ∉ ([1, 2, 3] : List Nat) ∧ 15 % 16 ≠ 1 := by decide

/-! ### Witnesses of ResetsAndTheirRelease -/

theorem wit_resets : up.Awake ∧ State.reset.dev.inReset = true ∧ (true || false) = true ∧
    (0x5EB6 : Nat) ≠ 0x5EB7 ∧ (R.STR_CFG 43).rst < 2 ^ 32 := by decide

/-! ### Witnesses of StartStepsAndFaults -/

theorem wit_start : up.gst = .boot ∧ up.on F.DEV_START_KIND = false ∧
    (up.set F.DEV_START_KIND 1).on F.DEV_START_KIND = true ∧ up.get F.DEV_START_FAILS < 2 ∧
    2 ≤ (up.set F.DEV_START_FAILS 2).get F.DEV_START_FAILS := by decide
theorem wit_startImage : ∃ u, up.pickImage false = (.noImage, u) := ⟨_, rfl⟩
theorem wit_startList : up.regListApply [] = some up ∧ up.regListApply [(1, 0, 0)] = none := ⟨rfl, by decide⟩
theorem wit_faults : ((inState 4).set F.TIME_STATUS_PE_RUN 1).peRun = true ∧
    ((inState 2).set F.TIME_STATUS_REF_NONE 1).on F.TIME_STATUS_REF_NONE = true := by decide

/-! ### Witnesses of ReferencesAreLostAndReturn -/

theorem wit_refs : up.Awake ∧ (up.set F.TIME_STATUS_REF_B_OK 1).refUsable 1 = true ∧
    (up.set F.TIME_STATUS_REF_ACT 1).get F.TIME_STATUS_REF_ACT ≠ 0 ∧
    up.get F.TIME_STATUS_REF_ACT = 0 ∧ up.refUsable 1 = false := by decide
theorem wit_refBack : ((up.set F.TIME_STATUS_PLL_LOCK 1).set F.TIME_STATUS_REF_NONE 1).on
      F.TIME_STATUS_PLL_LOCK = true ∧
    ((up.set F.TIME_STATUS_PLL_LOCK 1).set F.TIME_STATUS_REF_NONE 1).refUsable 0 = false ∧
    ((up.set F.TIME_STATUS_PLL_LOCK 1).set F.TIME_STATUS_REF_NONE 1).on F.TIME_CTRL_AUTOSW = true := by
  decide

/-! ### Witnesses of SnapshotShowsTheInstant -/

theorem wit_snapshot : up.Awake ∧ up.time.frac < 65536 ∧ up.time.ns < 2 ^ 32 ∧ (17 : Nat) < 18 := by decide

/-! ### Witnesses of TimedWritesQueueAndFire -/

/-- A queued write 1 µs ahead. -/
def twState : State := { up with time := { up.time with tw := [⟨0x50000, 1, 1, 1000, 0, 7, 0, none, false, false⟩] } }
theorem wit_timedWrite : twState.Awake ∧ twState.gst ≠ .safeHold ∧ twState.toApply = none ∧
    (∃ e ∈ twState.time.tw, e.tag = 7) ∧ twState.twFiredNow 7 = false ∧
    (∀ e ∈ twState.time.tw, twState.twDue e = false ∧ twState.twWaits e = false) ∧
    (∀ e ∈ twState.time.tw, ({ twState with time := { twState.time with ns := 1000 } } : State).twDue e = true) ∧ (∀ e ∈ twState.time.tw, e.tag ≠ 8) ∧
    twBadAddr 0x50000 = false ∧ twBadAddr 0 = true ∧ twBadAddr 0x10080 = true ∧
    twBadAddr 0x100A0 = false ∧ twBadAddr 0x1009C = true ∧ twBadAddr 0x1007C = false := by decide

/-! ### Witnesses of PeriodEngineRuns -/

theorem wit_applyInstant : readyOk.Awake ∧ readyOk.gst = .config ∧ readyOk.role = .none ∧
    readyOk.on F.DEV_STATE_RUN_PEND = false ∧ readyOk.toApply = some 5000 ∧ readyOk.host.txns = [] ∧
    readyOk.time.tw = [] ∧ readyOk.time.step = none ∧ readyOk.time.align = none ∧ readyOk.now + 5000 < 2 ^ 64 * 1000000000 := by decide

/-! ### Witnesses of AccessCodesGovernWrites -/

theorem wit_accessCodes : (FAcc.mk 31 1 .RWL 0 1).lo + (FAcc.mk 31 1 .RWL 0 1).w ≤ 32 ∧
    (FAcc.mk 0 32 .RW 0 (2 ^ 32 - 1)).max = 2 ^ 32 - 1 ∧
    (FAcc.mk 31 1 .RWL 0 1).write true .direct 0x80000000 0x80000000 0 = 0x80000000 ∧
    (FAcc.mk 31 1 .RWL 0 1).write false .direct 0x80000000 0x80000000 0 = 0 := by decide

/-! ### Witnesses of HostWritesAndBadAccesses -/

theorem wit_hostWrites : up.Awake ∧ State.reset.dev.inReset = true ∧ sramBase ≤ 0x1000000 ∧
    up.inCt 0x1000000 = false ∧ up.inDt 0x1000000 = false ∧ up.get F.MEM_INJ_MODE = 0 := by decide

/-! ### Witnesses of LaneTrainingStates -/

/-- Lane 47 is a string lane in a training state by its code, with SYNC. -/
def lane47 (st : Nat) : State :=
  ((up.set (F.LANE_CFG_ROLE 47) 1).set (F.LANE_STAT_STATE 47) st).set (F.LANE_STAT_SYNC 47) 1
theorem wit_laneStates : (lane47 0).lrole 47 = .string ∧ (lane47 0).lst 47 = .disabled ∧
    (lane47 1).lst 47 = .train ∧ (lane47 2).lst 47 = .hello ∧ (lane47 3).lst 47 = .backoff ∧
    (lane47 4).lst 47 = .up ∧ (lane47 5).lst 47 = .absent ∧
    (lane47 1).on (F.LANE_STAT_SYNC 47) = true ∧
    (lane47 1).get (F.LANE_STAT_ATTEMPT 47) < 8 ∧
    8 ≤ ((lane47 1).set (F.LANE_STAT_ATTEMPT 47) 8).get (F.LANE_STAT_ATTEMPT 47) := by decide
set_option maxRecDepth 20000 in
theorem wit_laneReply : (lane47 2).linkReplyOk 47 (devReply 4 0) = true := by decide
set_option maxRecDepth 20000 in
theorem wit_laneHello : strFrameOk 2 12 (helloFrame 0 1 43 7) = true ∧
    (fieldLE (helloFrame 0 1 43 7) 1 1).testBit 0 = false ∧ ((lane47 1).lane 47).hurt = [] ∧
    (lane47 1).lst 47 ≠ .disabled := by decide

/-! ### Witnesses of LaneCodingAndRateMatching -/

theorem wit_laneCoding : (lane47 4).lrole 47 ≠ .none ∧ (lane47 4).on (F.LANE_STAT_SYNC 47) = true ∧
    ((lane47 4).lane 47).recentre = false ∧ ((lane47 4).lane 47).score < 3 ∧
    3 ≤ (((lane47 4).setLane 47 { score := 3 }).lane 47).score - 63 / 64 ∧
    (((lane47 4).setLane 47 { recentre := true }).lane 47).recentre = true ∧ up.lrole 0 = .none ∧
    (lane47 4).get (F.LANE_CFG_RATE 47) = 0 := by decide
/-- IEEE 802.3 clause 36: D0.0 at RD- is 100111 0100; ten zeros are no code group. -/
theorem wit_codeGroups : dec10 false 0 = none ∧ dec10 false (enc10 (.data 0) false).1 ≠ none := by decide

/-! ### Witnesses of LaneAdaptationAndTests -/

theorem wit_laneEq : (inState 2).gst = .config ∧ bits 1 0 4 ≠ bits ((inState 2).word (R.LANE_CFG 47)) 0 4 ∧
    (bits 0x3010 4 5 ≤ 16 ∧ bits 0x3010 9 5 ≤ 24 ∧ bits 0x3010 4 5 + bits 0x3010 9 5 ≤ 32) ∧
    ¬(bits 0x3300 4 5 ≤ 16 ∧ bits 0x3300 9 5 ≤ 24 ∧ bits 0x3300 4 5 + bits 0x3300 9 5 ≤ 32) := by decide
theorem wit_laneAdapt : ((lane47 4).set (F.LANE_CTRL_ADAPT_EN 47) 1).adapting 47 = true ∧
    ((lane47 4).set (F.LANE_RXEQ_CTLE_FIX 47) 0).on (F.LANE_RXEQ_CTLE_FIX 47) = false ∧
    ((lane47 4).lane 47).snap = false ∧ ((lane47 4).lane 47).guard = false ∧
    ((lane47 4).set (F.LANE_STAT_FROZEN 47) 1).on (F.LANE_STAT_FROZEN 47) = true := by decide
theorem wit_prbs : ((up.set (F.LANE_CFG_ROLE 0) 3).set (F.LANE_PRBS_CTRL_CHK_EN 0) 1).chkOn 0 = true ∧
    (up.set (F.LANE_PRBS_STAT_LOCK 0) 1).on (F.LANE_PRBS_STAT_LOCK 0) = true ∧
    (up.set (F.LANE_CFG_ROLE 0) 3).nearEnd 0 = false := by decide
/-- A TEST lane that checks its own generator over the near-end loopback. -/
def prbsOwn : State :=
  ((((up.set (F.LANE_CFG_ROLE 0) 3).set (F.LANE_PRBS_CTRL_CHK_EN 0) 1).set (F.LANE_PRBS_CTRL_GEN_EN 0) 1).set
    (F.LANE_CTRL_LOOP 0) 1).setLane 0 { seed := 1 }
set_option maxRecDepth 20000 in
theorem wit_prbsRun : prbsOwn.chkOn 0 = true ∧ prbsOwn.chkRun 0 (bitsOf (List.replicate 33 0)) = true ∧
    prbsOwn.chkRun 0 (bitsOf [0]) = false := by decide +kernel

/-! ### Witnesses of StringEnumeration -/

/-- String 43 on lane 47, which is UP, of an ALONE part in READY, in a state by its code. -/
def str43 (st : Nat) : State :=
  ((((((inState 3).set F.PAIR_STAT_ROLE 3).set (F.LANE_CFG_ROLE 47) 1).set (F.LANE_CFG_INDEX 47) 43).set
    (F.LANE_STAT_STATE 47) 4).set (F.STR_STAT_STATE 43) st).set (F.TIME_LG_STRB_STR 0) (2 ^ 11) |>.set
    (F.TIME_LG_CFG_EN 0) 1
/-- The same with the inner state of the string. -/
def str43in (x : StrS) : State := (str43 1).setStr 43 x
theorem wit_enum : (str43 2).sst 43 = .live ∧ (str43 3).sst 43 = .failed ∧
    (str43 0).sst 43 = .idle ∧ (str43 4).sst 43 = .watch ∧ (str43 2).enumReady 43 = true ∧
    (str43 0).enumReady 43 = true ∧ ((str43 0).strGrp? 43).isSome = true ∧
    (str43 2).live = true ∧ ((str43 2).str 43).phase = .none := by decide
theorem wit_enumUnhurt : (str43in { phase := .hello }).Unhurt 43 := by
  intro l h
  have : l = 47 := by simpa using (Option.some.inj (h.symm.trans (by decide : (str43in { phase := .hello }).strLane? 43 = some 47)))
  subst this
  decide
theorem wit_enumPhases : ((str43in { phase := .hello }).str 43).phase = .hello ∧
    (str43in { phase := .hello }).enumReplyOk 43 [] = false ∧
    ((str43in { phase := .final 3 }).str 43).phase = .final 3 ∧
    ((str43in { phase := .echo 2, frets := [{}, {}] }).str 43).k + 1 <
      ((str43in { phase := .echo 2, frets := [{}, {}] }).str 43).frets.length := by decide
set_option maxRecDepth 20000 in
theorem wit_enumReply : (str43in { phase := .hello }).enumReplyOk 43 (devReply 1 0) = true ∧
    fieldLE (devReply 1 0) 1 1 = 1 ∧ 0 < (str43in { phase := .hello }).fmax ∧
    fieldLE (devReply 2 0) 1 1 = 2 ∧ (str43in { phase := .hello }).enumReplyOk 43 (devReply 2 0) = true := by
  decide
set_option maxRecDepth 20000 in
theorem wit_provAck : (str43in { phase := .prov, frets := [{}] }).ackFor 43 0 0
    (withCrc32 (toLE 1 5 ++ toLE 11 0)) = true ∧
    fieldLE (withCrc32 (toLE 1 5 ++ toLE 11 0)) 3 1 = 0 := by decide

/-! ### Witnesses of StrokesBlocksAndReturns -/

theorem wit_bow :
    ((((str43 2).setStr 43 { frets := [{}] }).set F.TIME_STATUS_PE_RUN 1).set (F.TIME_LG_CFG_DIV 0)
      1).lgActs 0 = true ∧
    ((((str43 2).setStr 43 { frets := [{}] }).set F.TIME_STATUS_PE_RUN 1).set (F.TIME_LG_CFG_DIV 0)
      1).strGoes 0 43 = true ∧
    (str43 2).strLane? 43 = some 47 ∧ (str43 2).holder = true ∧ ((str43 2).str 43).mapWait = false := by
  decide
theorem wit_bowLine : (Line.code .bow, 0) ∉ (str43 2).time.acted ∧ (str43 2).get (F.TIME_LG_OFS1_LAUNCH_OFS 0) < (str43 2).P ∧
    (str43 2).lgActs 1 = false ∧ (str43 4).strBows 43 = false ∧ ((str43 4).lane 47).hurt = [] := by decide
theorem wit_flights : ((str43in { flights := [⟨0, 20⟩] }).str 43).flights = [⟨0, 20⟩] ∧
    (str43in { flights := [⟨0, 20⟩] }).sst 43 ≠ .watch ∧ ((str43 4).str 43).relayOn = none ∧
    (str43 4).lrole 47 = .string ∧ (str43 4).lidx 47 < 44 ∧ (str43 4).lst 47 = .up ∧
    (str43in { blkTrip := 128 }).blkReq 43 ≠ (str43in { blkTrip := 128 }).get (F.STR_BLK_G_TX 43) ∧
    (str43in { blkTrip := 128 }).blkReq 43 ≠ 0 := by decide
set_option maxRecDepth 20000 in
theorem wit_hellos : strFrameOk 2 12 (helloFrame 0 0 43 7) = true ∧
    bit (fieldLE (helloFrame 0 0 43 7) 1 1) 0 = false ∧
    bit (fieldLE (helloFrame 1 0 43 7) 1 1) 0 = true ∧ strFrameOk 2 12 (helloFrame 1 0 43 7) = true ∧
    strFrameOk 6 12 (({ up with straps := { side := true } } : State).echoFrame 0xFF 3) = true := by decide

/-! ### Witnesses of CellsEnumerate -/

/-- A part with cell 5 as given. -/
def cell5 (x : CellS) : State := { up with cells := [(5, x)] }
set_option maxRecDepth 20000 in
theorem wit_cellHello : (5 : Nat) < Config.cells ∧ strFrameOk 2 12 (helloFrame 0 0 43 7) = true ∧
    strFrameOk 2 12 (helloFrame 1 0 43 7) = true ∧ bit (fieldLE (helloFrame 0 0 43 7) 1 1) 0 = false ∧
    bit (fieldLE (helloFrame 1 0 43 7) 1 1) 0 = true ∧ ((cell5 {}).cell 5).st = .unassigned ∧
    ((cell5 { st := .assigned }).cell 5).st ≠ .unassigned ∧ ((cell5 { up0 := true }).cell 5).up 0 = true ∧
    ((cell5 {}).cell 5).up 1 = false := by decide
/-- An ASSIGN of side A with given MAP and ADDR to fret 2, its other fields those of a version 1 cell. -/
def assignFrame (map addr uid : Nat) : Bytes :=
  withCrc32 (toLE 1 4 ++ toLE 1 map ++ toLE 1 1 ++ toLE 1 addr ++ toLE 1 3 ++ toLE 1 2 ++ toLE 1 2 ++
    toLE 1 2 ++ toLE 2 9 ++ toLE 2 20 ++ toLE 2 40 ++ toLE 2 20 ++ toLE 2 40 ++ toLE 2 100 ++
    toLE 2 100 ++ toLE 2 5000 ++ toLE 2 0 ++ toLE 1 2 ++ toLE 1 43 ++ toLE 8 uid)
set_option maxRecDepth 40000 in
theorem wit_cellAssign : strFrameOk 4 40 (assignFrame 0 0 7) = true ∧
    fieldLE (assignFrame 0 0 7) 28 8 = 7 ∧ fieldLE (assignFrame 0 0 7) 1 1 = 0 ∧
    bit (fieldLE (assignFrame 0 0 7) 3 1) 0 = false ∧ strFrameOk 4 40 (assignFrame 1 1 7) = true ∧
    fieldLE (assignFrame 1 1 7) 28 8 = 7 ∧ fieldLE (assignFrame 1 1 7) 5 1 = 2 ∧
    bit (fieldLE (assignFrame 1 1 7) 3 1) 0 = true := by decide
set_option maxRecDepth 40000 in
theorem wit_cellTakes : ((cell5 { st := .provisional, uid := 7, fret := 2 }).cell 5).authClass false 3 ≠ .stale ∧
    ((cell5 { st := .provisional, uid := 7, fret := 2 }).cell 5).refuse (assignFrame 1 1 7) true = 0 ∧
    ((cell5 { st := .provisional, uid := 7, fret := 2, vers := 2 }).cell 5).refuse (assignFrame 1 1 7) true = 1 ∧
    ((cell5 { st := .provisional, fret := 2 }).cell 5).fretOf false = some 2 ∧
    strFrameOk 6 12 (up.echoFrame 2 3) = true ∧
    strFrameOk 7 8 (withCrc32 [7, 0, 3, 0]) = true := by decide

/-! ### Witnesses of CellsTakeStrokesAndBlocks -/

/-- A cell of map 1 at fret 0 of string 43, whose records lie at 20 and 40. -/
def cellA : CellS := { st := .assigned, mapId := 1, ver := 1, cmdA := 20, telA := 40, leadA := 0xFFFF, leadB := 4000, per := 5000, string := 43, auth := some (false, 3), portA := 0, hold := 2, up1 := true }
/-- A stroke of side A, map 1, epoch 3 with the command record 00 FF FF FF FF 00. -/
def strokeA : Bytes :=
  withCrc32 ([1, 1, 9, 0, 0, 0, 0, 0, 0, 0, 3, 0, 43, 0, 0, 0, 0, 0, 0, 0] ++ [0, 255, 255, 255, 255, 0]) ++
    List.replicate 40 0
set_option maxRecDepth 40000 in
theorem wit_cellStroke : 20 ≤ strokeA.length ∧ bit (fieldLE strokeA 11 1) 0 = false ∧
    bit (fieldLE strokeA 14 2) 0 = false ∧ cellA.faces 0 = false ∧ fieldLE strokeA 1 1 = cellA.mapId ∧
    cellA.telA + 8 ≤ strokeA.length ∧ cmdEnd strokeA 26 36 = some 26 ∧ fieldLE strokeA 0 1 = 1 ∧
    fieldLE strokeA 12 1 = cellA.string ∧ cellA.auth = some (false, fieldLE strokeA 10 1) ∧
    recordOk (parseCmd (slice strokeA 20 6)) 5000 = true ∧ fieldLE strokeA 2 4 ∉ cellA.applied ∧
    cellA.dual = false ∧ cellA.lastStart = none := by decide
theorem wit_cellLead : (26 + 5) * (cell5 { cellA with leadA := 4000 }).tChar
      (((cell5 { cellA with leadA := 4000 }).strLane? 43).getD 0) + 0 ≤ 4000 ∧
    ((cell5 { cellA with lastStart := some 0, runSide := true }).cell 5).lastStart = some 0 ∧
    (cell5 {}).elapsed - 0 < 5000 := by decide
theorem wit_cellApply : ((cell5 { cellA with cmd := some ([0x0A, 0, 0, 0, 0, 0], 7) }).cell 5).cmd =
      some ([0x0A, 0, 0, 0, 0, 0], 7) ∧ (parseCmd [0x0A, 0, 0, 0, 0, 0]).init = 2 ∧
    (parseCmd [0x05, 0, 0, 0, 0, 0]).init ≠ 2 ∧ (parseCmd [0x05, 0, 0, 0, 0, 0]).on ≠ 2 ∧
    (cell5 cellA).cell 5 = cellA ∧ cellA.cmd = none ∧ cellA.blkUntil = none ∧
    ((cell5 { cellA with misses := 2 }).cell 5).hold ≤ ((cell5 { cellA with misses := 2 }).cell 5).misses := by
  decide

/-! ### Witnesses of CounterClears -/

theorem wit_counters : up.Awake ∧ (47 : Nat) < 48 ∧ (43 : Nat) < 44 := by decide
theorem test_counter_clears :
    (((up.set R.PAIR_CNT_HO 5).busW1 { a := R.PAIR_CNT_CLR.addr, mask := 0xFFFFFFFF, data := 1, org := 0, via := .direct }).get R.PAIR_CNT_HO = 0) ∧
    (((up.set R.PAIR_CNT_HO 5).busW1 { a := R.PAIR_CNT_CLR.addr, mask := 0xFFFFFFFF, data := 0, org := 0, via := .direct }).get R.PAIR_CNT_HO = 5) := by
  decide

/-! ### Witnesses of ObserverVectorsAndTables -/

/-- An ALONE part in READY, period engine running, with string 43 of arm 0 and one cell on it. -/
def armState : State :=
  ((((str43 2).setStr 43 { frets := [{ cid := 5, ver := 1, insvc := true }] }).set
    F.TIME_STATUS_PE_RUN 1).set (F.STR_CFG_ARM 43) 0).set (F.MOD_ARM_DST_EN 0) 1 |>.set
    (F.TIME_LG_CFG_DIV 0) 1
set_option maxRecDepth 20000 in
theorem wit_observer : armState.obsDue = true ∧
    ({ armState with modu := { armState.modu with obsAt := some 0 } } : State).obsDue = false ∧
    ((armState.set (F.MOD_ARM_ISRC_EN 5) 1).setArm 5 { seen := true }).on (F.MOD_ARM_ISRC_EN 5) = true ∧
    (((armState.set (F.MOD_ARM_ISRC_EN 5) 1).setArm 5 { seen := true }).arm 5).seen = true ∧
    (armState.set (F.ADC_DATA_VALID 0) 1).on (F.ADC_DATA_VALID 0) = true ∧
    armState.on (F.ADC_DATA_VALID 0) = false := by decide
set_option maxRecDepth 20000 in
theorem wit_vector : (List.range 6).find? (armState.setArm 0 { updated := true }).vectorReady = some 0 ∧
    (List.range 6).find? up.vectorReady = none ∧
    (armState.set (F.SCHED_ARM_TPL_EN 0) 1).on (F.SCHED_ARM_TPL_EN 0) = true := by decide
theorem wit_obsLine : (Line.code .obs, 0) ∉ armState.time.acted ∧ armState.get F.TIME_MOD_OFS_OBS < armState.P := by decide
theorem wit_tables : up.Awake ∧ sget up.synd 0 (up.dtAt 4095 / 4) = 0 ∧ up.get F.MEM_INJ_MODE = 0 ∧ up.inCt (up.dtAt 4095 + 4) = false := by decide

/-! ### Witnesses of ArmCutsAndTrimChannels -/

theorem wit_cut : armState.live = true ∧ armState.lgActs 0 = true ∧ armState.holder = true ∧
    0 ∈ armState.grpArms 0 ∧ (armState.arm 0).commit = none ∧ armState.get (F.MOD_ARM_SWLIM_MAXCH 0) = 0 ∧
    ((armState.setArm 0 { commit := some ([], [], 65535) }).arm 0).commit = some ([], [], 65535) ∧
    up.lgActs 0 = false ∧ up.live = false ∧ up.strokes = false ∧
    (Line.code .cut, 0) ∉ armState.time.acted ∧ armState.get (F.TIME_LG_OFS1_CUT_OFS 0) < armState.P ∧
    (({ armState with time := { armState.time with cyc := 1 } } : State).arm 0).commitAt < 1 := by decide
theorem wit_trims : up.on (F.MOD_TRIM_CTRL_EN 47) = false ∧
    (up.set (F.MOD_TRIM_CTRL_EN 47) 1).on (F.MOD_TRIM_CTRL_EN 47) = true ∧ (4999 : Nat) < up.P ∧
    up.P ≤ 5000 ∧ ((up.setTrim 47 { running := true, count := 5000 }).trim 47).count = 5000 ∧
    (up.setTrim 47 { running := true, count := 4990 }).wrapIn = some 10 ∧
    (up.setTrim 47 { running := true, count := 4990 }).room 10 = 10 ∧ up.wrapIn = none := by decide
theorem wit_commitRead : (up.eccRdB (dataBase 0) 0 0x30).2.1 = none ∧ npad 0 / 8 = 0 := by decide

/-! ### Witnesses of TripsLatchAndClear -/

theorem wit_trip : ((up.set (F.TRIP_IN_CFG_EN 23) 1).set (F.TRIP_IN_CFG_MAP 23) 128).tripCounts 23 7 = true ∧
    up.latched 7 = false ∧ up.get F.TRIP_IN_LVL_LVL = 0 ∧ up.time.ns < 2 ^ 32 ∧
    (up.set F.TRIP_STAT_ACTIVE 128).get F.TRIP_STAT_ACTIVE &&& 128 ≠ 0 ∧
    (inState 2).gst = .config ∧ (inState 3).gst ≠ .config := by decide
theorem wit_quietTrips : up.QuietTrips := ⟨rfl, fun _ => ⟨Nat.zero_ne_one, Nat.zero_ne_one⟩⟩
theorem wit_tripFilter : (up.set (F.TRIP_IN_CFG_FILT 23) 255).get (F.TRIP_IN_CFG_FILT 23) = 255 ∧
    up.get (F.TRIP_IN_CFG_FILT 23) ≤ 100 ∧
    sget ({ up with trip := { up.trip with latchAt := [(7, 1)] } } : State).trip.latchAt 0 7 = up.elapsed + 1 := by decide
set_option maxRecDepth 40000 in
theorem test_trip_clr :
    (((up.set F.TRIP_STAT_LATCH 3).set F.TRIP_STAT_ACTIVE 1).tripClr 3).get F.TRIP_STAT_LATCH = 1 := by decide

/-! ### Witnesses of ControlEngineEvaluates -/

/-- Slot 31 in a mode, in a group that acts. -/
def slotState (mode : Nat) : State :=
  ((armState.set (F.CENG_SLOT_CFG_EN 31) 1).set (F.CENG_SLOT_CFG_GROUP 31) 0).set (F.CENG_MODE_MODE 31) mode
set_option maxRecDepth 20000 in
theorem wit_slot : (slotState 2).cengOn = true ∧ (slotState 2).lgActs 0 = true ∧
    (slotState 2).slotIn 0 31 = true ∧ (slotState 1).slotIn 0 31 = true ∧
    (List.range 31).all (fun j => !(slotState 1).slotIn 0 j) = true ∧
    (slotState 1).ceng.tune = none ∧ (slotState 1).on (F.CENG_MODE_GT_EN 31) = false ∧
    (slotState 1).get (F.CENG_SRC_REF_TYPE 31) = 0 ∧ fbad 0 = false ∧ fbad 0x7FC00000 = true ∧
    up.cengOn = false ∧ (Line.code .eval, 0) ∉ (slotState 1).time.acted ∧
    (slotState 1).get (F.TIME_LG_OFS0_EVAL_OFS 0) < (slotState 1).P := by decide
/-- MANUAL 1.0 within the limits -2.0 to 2.0 gives 1.0 (R304). -/
theorem test_law_manual : (lawManual 0 0xC0000000 0x40000000 0x3F800000 0 0).u = 0x3F800000 ∧
    (lawManual 0 0xC0000000 0x40000000 0x40400000 0 0).u = 0x40000000 := by decide

/-! ### Witnesses of RingsEnableRunAndDrain -/

/-- Ring 31 of a type in a state by its code, ABI 1.2 selected. -/
def ring31 (type st : Nat) : State :=
  ((((((inState 2).set (R.HOST_RING_CFG 31) 0).set (F.HOST_RING_CFG_TYPE 31) type).set
    (F.HOST_RING_CFG_SIZE 31) 4).set R.HOST_ABI_SEL 0x10102).set (F.HOST_RING_STAT_STATE 31) st).set
    (F.HOST_RING_CFG_EN 31) (if st = 0 then 0 else 1)
set_option maxRecDepth 20000 in
theorem wit_rings : (ring31 1 0).enableOk 31 = true ∧ (ring31 0 0).enableOk 31 = false ∧
    (ring31 1 0).rst 31 = .disabled ∧ (ring31 1 1).rst 31 = .running ∧ (ring31 1 2).rst 31 = .draining ∧
    (ring31 1 3).rst 31 = .halted ∧ (ring31 1 3).on (F.HOST_RING_CFG_RESUME 31) = false ∧
    ((ring31 1 3).setRing 31 { walkPi := some 5 }).rst 31 = .halted ∧
    (((ring31 1 3).setRing 31 { walkPi := some 5 }).ring 31).walkPi = some 5 := by decide
theorem wit_doorbell : (16 + 2 ^ 32 - (ring31 1 1).get (R.HOST_RING_CI 31)) % 2 ^ 32 = 16 ∧
    2 ^ (ring31 1 1).get (F.HOST_RING_CFG_SIZE 31) = 16 ∧
    ((ring31 1 1).get (R.HOST_RING_PI 31) + 2 ^ 32 - (ring31 1 1).get (R.HOST_RING_CI 31)) % 2 ^ 32 = 0 := by
  decide
set_option maxRecDepth 20000 in
theorem wit_abi : (∀ r, r < 32 → up.rst r = .disabled) ∧ (ring31 1 1).rst 31 ≠ .disabled ∧
    ((ring31 1 1).setRing 31 { gathered := 1 }).irqNext = some (31, 0) ∧ up.irqNext = none ∧
    ({ up with host := { trained := true } } : State).host.trained = true ∧ up.host.trained = false := by
  decide

/-! ### Witnesses of DescriptorsRunAndComplete -/

/-- A running ring of a type whose first descriptor waits in host memory at 0. -/
def ringDesc (type : Nat) : State := ((ring31 type 1).set (R.HOST_RING_PI 31) 1)
/-- Host memory whose descriptor at 0 has an OP. -/
def hmOp (op : Byte) : HostMem := { cells := [(0, op)] }
set_option maxRecDepth 40000 in
theorem wit_fetch : (ringDesc 3).peek 31 (hmOp 1) =
      some ([1] ++ List.replicate 63 0, none, ringDesc 3) ∧
    ((ringDesc 3).see (hmOp 0x55)).peek 31 (hmOp 0x55) =
      some ([0x55] ++ List.replicate 63 0, none, (ringDesc 3).see (hmOp 0x55)) ∧
    ((ringDesc 1).slotAt 31 0 + 48) % 4096 ≤ 4080 ∧
    ((ringDesc 1).xlate {} true (ringReq 31) ((ringDesc 1).slotAt 31 0 + 48)).1 = some 48 ∧
    descBad ((ringDesc 3).rtype 31) (ringDesc 3).abi ([1] ++ List.replicate 63 0) = none ∧
    descBad ((ringDesc 3).rtype 31) (ringDesc 3).abi ([0x55] ++ List.replicate 63 0) = some 0 ∧
    (ringDesc 3).get (F.HOST_RING_CREDIT_CREDIT 31) = 0 ∧ ((ringDesc 3).ring 31).outs = [] ∧
    ((ringDesc 1).rtype 31).inOrder = false := by decide
set_option maxRecDepth 40000 in
theorem wit_starts :
    ((ringDesc 3).fetchEvent 31 (hmOp 0) (fun b => fieldLE b 0 1 = 0)).1 ≠ .nothing ∧
    ((ringDesc 1).fetchEvent 31 (hmOp 1) (wantOp (ringDesc 1) 31 .work 1)).1 ≠ .nothing ∧
    ((ringDesc 2).fetchEvent 31 (hmOp 1) (wantOp (ringDesc 2) 31 .ctx 1)).1 ≠ .nothing ∧
    ((ringDesc 3).fetchEvent 31 (hmOp 1) (wantOp (ringDesc 3) 31 .dma 1)).1 ≠ .nothing ∧
    ((ringDesc 4).fetchEvent 31 (hmOp 1) (wantOp (ringDesc 4) 31 .tw 1)).1 ≠ .nothing ∧
    ((ringDesc 3).fetchEvent 31 (hmOp 0x7F) (fun b => fieldLE b 0 1 = 0x7F)).1 ≠ .nothing := by decide
set_option maxRecDepth 40000 in
theorem wit_fetchFault : (((ringDesc 3).see { bad := [(0, 64, .ur)] }).peek 31 { bad := [(0, 64, .ur)] }).map (fun p => p.2.1) =
    some (some (.abort .ur)) := by decide
/-- A COPY of 4 bytes into shared SRAM that runs on ring 31. -/
def copying : State := (ring31 3 1).setRing 31
  { outs := [{ idx := 0, bytes := [1, 0, 0, 0, 0, 0, 0, 0, 0, 0, 0, 0, 0, 0, 0, 0, 0, 0, 0, 1, 4, 0, 0, 0, 0] ++ List.replicate 39 0, started := true, busy := true }] }
set_option maxRecDepth 40000 in
theorem wit_copy : (copying.copyHead 31).map (·.busy) = some true ∧
    copyArgs ([1, 0, 0, 0, 0, 0, 0, 0, 0, 0, 0, 0, 0, 0, 0, 0, 0, 0, 0, 1, 4, 0, 0, 0, 0] ++ List.replicate 39 0) =
      (0, 0x1000000, 4, false) ∧
    copying.copyOk ([1, 0, 0, 0, 0, 0, 0, 0, 0, 0, 0, 0, 0, 0, 0, 0, 0, 0, 0, 1, 4, 0, 0, 0, 0] ++ List.replicate 39 0) = true ∧
    (copying.hostRd {} (ringReq 31) (pagesOf 0 4) 0 4).2.1 = none ∧
    (copying.eccRds 0x1000000 (ringReq 31) 1).2.1 = none := by decide
/-- A transaction of an instant, in a part whose engine runs. -/
def staged (x : Txn) : State := { (inState 3).set F.TIME_STATUS_PE_RUN 1 with host := { txns := [x] } }
set_option maxRecDepth 40000 in
theorem wit_txn : (staged { ring := 31, idx := 0, apply := some 2 }).txnWhen { ring := 31, idx := 0, apply := some 2 } = 0 ∧
    (staged { ring := 31, idx := 0, apply := some 1 }).txnWhen { ring := 31, idx := 0, apply := some 1 } = 3 ∧
    (staged { ring := 31, idx := 0 }).entriesBad 0 [] = none ∧
    (staged { ring := 31, idx := 0, apply := some 1, valid := true }).commitNext = some (31, 0, 5000) ∧
    ((staged { ring := 31, idx := 0, staged := true }).txnOf 31 0 (fun x => x.staged && !x.valid)).isSome = true := by decide

/-! ### Witnesses of MemoryScrubAndTranslation -/

/-- Scrubbing on, at the last row of class 2, which holds one wrong data bit. -/
def scrubbing : State :=
  { up.set F.MEM_ECC_CTRL_SCRUB_EN 1 with memc := { row := [(2, 4095)] }, synd := [(0x903FFC, 0x62)] }
set_option maxRecDepth 20000 in
theorem wit_scrub : scrubbing.on F.MEM_ECC_CTRL_SCRUB_EN = true ∧ synOf 0x62 = .data 31 ∧
    memClass (4 * 0x903FFC) = some 2 ∧ rowOf 2 (4 * 0x903FFC) = 4095 ∧ bankBytes 2 / 16 = 4096 ∧
    ((up.set F.MEM_ECC_CTRL_SCRUB_EN 0).on F.MEM_ECC_CTRL_SCRUB_EN) = false := by decide
theorem wit_iommu : bits 0x25 1 5 ≤ 18 ∧ up.cores = [] ∧
    bits 1 0 6 ≠ bits (up.word R.IOMMU_CTRL) 0 6 ∧
    (3, 7) ∈ ({ up with iommu := { inv := [(1, 2), (3, 7)] } } : State).iommu.inv := by decide

/-! ### Witnesses of ActClaimsAndHandover -/

/-- A READY part of a role by its code with mirror lane 47, index 0, UP, and the link UP. -/
def mir47 (role : Nat) : State :=
  ((((((inState 3).set F.PAIR_STAT_ROLE role).set (F.LANE_CFG_ROLE 47) 2).set (F.LANE_CFG_INDEX 47) 0).set
    (F.LANE_STAT_STATE 47) 4).set (F.LANE_STAT_SYNC 47) 1).set F.PAIR_STAT_LINK 1
/-- The same with the pair's inner state. -/
def mirP (role : Nat) (p : PairS) : State := { mir47 role with pair := p }
/-- A CTRL frame with an OP. -/
def ctrlF (op : Nat) : Bytes := mirrorFrame 0x2A (toLE 1 op ++ toLE 1 6 ++ [0, 0] ++ toLE 4 7 ++ [0, 0, 0, 0])
theorem wit_act : (mirP 1 { claim := .guard }).role ≠ .leaving ∧ (mir47 1).actOut = false ∧
    ((mir47 2).set F.PAIR_STAT_ACT_OUT 1).actOut = true ∧
    ({ mirP 5 { claim := .confirm } with straps := { side := true } } : State).straps.side = true ∧
    (mir47 1).straps.side = false ∧ (mir47 4).role = .leaving ∧ ((mir47 1).set F.PAIR_STAT_ACT_IN 1).actIn = true ∧
    ((mir47 1).set F.PAIR_STAT_TAKE_ARMED 1).on F.PAIR_STAT_TAKE_ARMED = true ∧ (mir47 2).role ≠ .nightwatch ∧
    (mir47 1).live = true ∧ (mir47 1).pair.seenHigh = false ∧ (mir47 1).pair.heldAct = false ∧
    (mirP 1 { claim := .guard }).vetoed = false ∧ (mirP 1 { claim := .guard, actAt := some 0 }).vetoed = true ∧
    (mirP 1 { claim := .veto, actAt := some 0 }).vetoed = true ∧ (mirP 1 { claim := .veto }).vetoed = false ∧
    (mirP 1 { claim := .veto, actAt := some 0 }).room (mirP 1 { claim := .veto, actAt := some 0 }).vetoLeft =
      (mirP 1 { claim := .veto, actAt := some 0 }).vetoLeft := by
  decide
theorem wit_handover : (mir47 1).Awake ∧ ((mir47 1).lane 47).hurt = [] ∧ ((mir47 1).set F.TIME_STATUS_PE_RUN 1).peRun = true ∧
    (mirP 1 { hoAt := some 3, ready := [[0, 4]] }).captureIs true = true ∧ (mir47 1).actIn = false ∧
    ({ ((mirP 1 { holdAt := some 0 }).set F.PAIR_STAT_TAKE_OK 1) with straps := { home := true } } : State).inhibited = false ∧
    (mirP 2 { asked := some 0 }).pair.asked.isSome = true ∧ (mir47 2).role = .active := by decide
set_option maxRecDepth 40000 in
theorem wit_ctrl : (mir47 2).mirTakes 47 0x2A (ctrlF 1) = true ∧ (mir47 1).mirTakes 47 0x2A (ctrlF 5) = true ∧
    fieldLE (ctrlF 4) 5 1 = 6 ∧ (mir47 2).returnCause = 2 ∧ (mir47 1).offerCause = 2 ∧
    ((mir47 1).set F.PAIR_STAT_TAKE_OK 1).offerCause = 4 := by decide
/-- The partner in READY with TAKE_OK set. -/
def peerReady : Bytes := [0, 0, 0, 0, 0x18, 0, 1] ++ List.replicate 21 0
theorem wit_causes0 : (mirP 2 { peer := some peerReady }).returnCause = 0 ∧
    ((mirP 1 { peer := some peerReady }).set F.PAIR_STAT_TAKE_OK 1).offerCause = 0 := by decide

/-! ### Witnesses of MirrorFramesAreTaken -/

set_option maxRecDepth 60000 in
theorem wit_mhello : (mir47 1).mirIn 47 = true ∧ mirFrameOk 0x20 (mirrorFrame 0x20 (List.replicate 20 0)) = true ∧
    (mirrorFrame 0x20 (List.replicate 20 0)).length = 28 ∧ mirFrameOk 0x21 (mirrorFrame 0x21 (List.replicate 20 0)) = true ∧
    ((mir47 1).set (F.LANE_STAT_STATE 47) 2).lst 47 = .hello ∧ ((mir47 1).lane 47).nonce = 0 ∧
    (mir47 1).mirBad [0x20] = true ∧ ((mir47 1).set (F.LANE_CFG_INDEX 47) 3).lidx 47 ≠ 0 := by decide
set_option maxRecDepth 60000 in
theorem wit_tsync : (mir47 2).mirTakes 47 0x22 (mirrorFrame 0x22 (List.replicate 36 0)) = true ∧
    ((mirP 2 { sentTs := [(0, 5)] }).pair.sentTs.find? (fun e => e.1 % 2 ^ 32 = 0)) = some (0, 5) ∧
    (mir47 2).mustStep 0 = false ∧ (mir47 1).mustStep 0 = true ∧ (mir47 1).peRun = false ∧ ((mir47 1).set F.TIME_STATUS_PE_RUN 1).peRun = true ∧
    (mir47 3).mirTakes 47 0x23 (mirrorFrame 0x23 (List.replicate 28 0)) = true := by decide
/-- One segment of KIND 2: NSEG 1, LEN 8. -/
def segF : Bytes := mirrorFrame 0x24 ([2, 0, 0, 0, 0, 0, 0, 0, 0, 0, 0, 0, 0, 0, 1, 0, 8, 0, 0, 0] ++ List.replicate 8 0)
set_option maxRecDepth 60000 in
theorem wit_ckpt : (mir47 1).mirTakes 47 0x24 segF = true ∧ segCount (mirBody segF) = 1 ∧ segNo (mirBody segF) = 0 ∧
    (mir47 1).segInside (mirBody segF) = true ∧ (mir47 1).pair.rxSegs = [] ∧
    (mir47 1).pair.badSeq = none ∧ (mir47 1).rxSeq = none ∧ fieldLE [0x24, 0, 0, 0, 0, 0, 0, 0] 0 1 = 0x24 ∧ crc32Ok [0x24, 0, 0, 0, 0, 0, 0, 0] = false := by decide
set_option maxRecDepth 60000 in
theorem wit_mapDly : (mir47 1).mirTakes 47 0x25 (mirrorFrame 0x25 [43, 1, 0, 0]) = true ∧
    (mir47 2).mirTakes 47 0x26 (mirrorFrame 0x26 [43, 0, 0, 0, 0, 0, 0, 0]) = true ∧
    ((mir47 1).set (F.STR_STAT_STATE 43) 4).sst 43 = .watch ∧ (mir47 2).holder = true ∧
    (((mir47 2).setStr 43 { mapWait := true }).str 43).mapWait = true ∧ (mir47 2).get (F.STR_ENUM_MAP_ID 43) = 0 := by decide
set_option maxRecDepth 60000 in
theorem wit_srep : ((mir47 2).set F.PAIR_STAT_MLVER 2).mirTakes 47 0x28 (mirrorFrame 0x28 (List.replicate 16 0)) = true ∧
    (((mir47 2).setStr 43 { launched := [0], missAt := some 0xFFFFFFFF }).str 43).launched.any (fun q => q % 2 ^ 32 = 0) = true ∧
    (((mir47 2).setStr 43 { directAt := some 0xFFFFFFFF }).set (F.STR_STAT_BROKEN 43) 1).on (F.STR_STAT_BROKEN 43) = true ∧
    (mir47 2).mirTakes 47 0x29 (mirrorFrame 0x29 (43 :: List.replicate 15 0)) = true := by decide
set_option maxRecDepth 20000 in
theorem wit_relay : 32 ≤ (0x27 :: [0, 0, 0, 43] ++ List.replicate 30 0).length ∧
    (((mir47 1).set (F.LANE_CFG_ROLE 46) 1).set (F.LANE_CFG_INDEX 46) 43).strLane? 43 = some 46 ∧
    ((mir47 1).set (F.LANE_STAT_STATE 46) 4).lst 46 = .up := by decide

/-! ### Witnesses of IslandStatesAndFunctions -/

/-- The island in a state by its code, its supply in range. -/
def isl (st : Nat) (x : SafeS) : State :=
  { (inState 2).set F.SAFE_STAT_ISTATE st with safe := x }
/-- The active image's word of a register. -/
def actIs (f : Fld) (v : Nat) : SafeS := { vdd := true, active := [(f.addr, BitVec.ofNat 32 v)] }
set_option maxRecDepth 100000 in
theorem wit_islandStates : (isl 0 {}).ist = .powerup ∧ (isl 1 {}).ist = .unconf ∧ (isl 2 {}).ist = .operate ∧
    (isl 3 { vdd := true }).ist = .fault ∧ (isl 0 {}).straps.es = true ∧ (isl 1 {}).Awake ∧
    (isl 1 {}).commitCode ≠ 0 ∧ (isl 1 {}).act (F.SAFE_SIN_CFG_TYPE 15) ≠ 3 ∧
    (isl 1 {}).debounce 15 = 80000 := by
  decide
set_option maxRecDepth 100000 in
theorem wit_commit :
    (((isl 1 {}).set F.SAFE_SVB_CFG_G 1).set R.SAFE_CRC
      ((isl 1 {}).set F.SAFE_SVB_CFG_G 1).stagedCrc).commitCode = 0 := by decide +kernel
theorem wit_discrepancy : (isl 2 (actIs (F.SAFE_SIN_CFG_TYPE 15) 1)).act (F.SAFE_SIN_CFG_TYPE 15) = 1 ∧
    (isl 2 { actIs (F.SAFE_SIN_CFG_TYPE 15) 1 with ca := 2 ^ 15 }).sinNormal 15 false ≠
      (isl 2 { actIs (F.SAFE_SIN_CFG_TYPE 15) 1 with ca := 2 ^ 15 }).sinNormal 15 true := by decide
theorem wit_evaluation : (isl 2 {}).permits = 127 ∧ (127 : Nat) % 128 = (isl 2 {}).permits ∧
    (isl 2 (actIs F.SAFE_SVB_SRC_WD 0xFFFFFFFF)).actOn F.SAFE_SVB_SRC_WD = true ∧
    ((isl 2 (actIs F.SAFE_SVB_SRC_WD 0xFFFFFFFF)).set F.SAFE_STAT_WD_EXP 1).svbWanted = true ∧
    (isl 2 { reqIn := true }).svbWanted = false ∧ (isl 2 { reqIn := true }).safe.fresh = false := by decide
theorem wit_sapOut : (((isl 2 { sapFrom := some 0 }).set F.SAFE_STAT_SVB 1).set F.SAFE_STAT_SBT 1).sapHolds = true ∧
    bit (isl 2 { drive := 128 }).safe.drive 7 = true ∧ (isl 2 { wdLast := some 0 }).safe.wdLast = some 0 ∧
    0 + 1000000000 * max 1 ((isl 2 {}).act F.SAFE_SAP_CFG_DLY) ≤ ({ isl 2 {} with elapsed := 60000000000 } : State).elapsed ∧
    0 + 100 * (isl 2 {}).act F.SAFE_WD_WD_MAX < ({ isl 2 {} with elapsed := 1000000000 } : State).elapsed ∧
    (isl 2 (actIs (F.SAFE_SOUT_CFG_OPT_EN 7) 0xFFFFFFFF)).actOn (F.SAFE_SOUT_CFG_OPT_EN 7) = true ∧
    ((isl 2 {}).set F.SAFE_STAT_WD_ARMED 1).on F.SAFE_STAT_WD_ARMED = true := by decide
set_option maxRecDepth 100000 in
theorem wit_crc : ((isl 1 { committed := true }).activeCrc ≠ (isl 1 { committed := true }).safe.crc) ∧
    ((isl 1 { crc := (isl 1 {}).activeCrc }).activeCrc = (isl 1 { crc := (isl 1 {}).activeCrc }).safe.crc) := by
  refine ⟨?_, rfl⟩
  decide +kernel

/-! ### Witnesses of StationLogicInstructions -/

/-- The engine in RUN at the word w, its program in bank 0 at the start of shared SRAM. -/
def logicAt (w : Nat) (x : LogicS) : State :=
  { (inState 3).set F.LOGIC_STAT_LSTATE 2 with logic := { x with inCycle := true }, mem := memPuts [] (sramBase + 32) (toLE 4 w) }
set_option maxRecDepth 40000 in
theorem wit_logicAt : ∀ op, op < 64 → lOp (lEncode op 2 7) = op ∧
    (logicAt (lEncode op 2 7) {}).lgst = .run ∧ (logicAt (lEncode op 2 7) {}).logic.inCycle = true ∧
    ((logicAt (lEncode op 2 7) {}).lRead ((logicAt (lEncode op 2 7) {}).lCode
      (logicAt (lEncode op 2 7) {}).lActive (logicAt (lEncode op 2 7) {}).logic.pc)).1 = some (lEncode op 2 7) := by
  decide +kernel
set_option maxRecDepth 40000 in
theorem wit_logicOperands : lBitAt 2 7 = some (0x400, 7) ∧ lBitAt 7 0 = none ∧ lWordAt 2 7 = some 0x141C ∧
    lBitWritable 2 = true ∧ lBitWritable 0 = false ∧ ((logicAt 0 {}).lWord 0x400).1 = some 0 ∧
    ((logicAt 0 {}).lWords 0x5400 5).1 = some [0, 0, 0, 0, 0] ∧ (logicAt 0 {}).get F.MEM_INJ_MODE = 0 ∧
    (logicAt 0 {}).synd = [] ∧ rdrOk 0x1000000 = true ∧ rdrOk 0x2400000 = false ∧ rdrOk 0x27FFFFC = false ∧
    rdrOk 0x2800000 = true ∧ wrrOk 0x50000 = true ∧ wrrOk 0x80000 = false ∧ memClass 0x1000000 = some 0 := by
  decide +kernel
/-- R454: TON with PT 100 µs, Tc 50 µs: after two more cycles with IN, ET reaches PT. -/
theorem test_ton : timerEval 1 true false true 100 50 0 50000 = (true, 100, 0) ∧
    timerEval 1 true false true 100 0 0 50000 = (false, 50, 0) := by decide

/-! ### Witnesses of LogicEngineCommandsAndCycles -/

/-- The engine of a part in READY in a state by its code. -/
def logicIn (st : Nat) (x : LogicS) : State := { (inState 3).set F.LOGIC_STAT_LSTATE st with logic := x }
theorem wit_logicCommands : (logicIn 0 {}).live = true ∧ (logicIn 0 {}).lgst = .stop ∧ (logicIn 2 {}).lgst = .run ∧
    (inState 2).live = false ∧ (logicIn 0 {}).Awake ∧ (logicIn 3 {}).lgst = .halt ∧
    ((logicIn 2 {}).set F.LOGIC_STAT_VALID 1).on F.LOGIC_STAT_VALID = true ∧
    (logicIn 0 {}).on F.LOGIC_STAT_XPEND = false := by decide
set_option maxRecDepth 40000 in
theorem wit_validateDone : ((logicIn 0 {}).set F.LOGIC_XCHK_BUSY 1).on F.LOGIC_XCHK_BUSY = true ∧
    ((((logicIn 0 {}).set F.LOGIC_XCHK_BUSY 1).set F.LOGIC_XCHK_BUSY 0).lBankRead 1).lValidate 1 = some (1, 0) ∧
    (logicIn 0 { retPend := some (0, [], []) }).logic.retPend = some (0, [], []) ∧
    slice ([] : Bytes) 0 16 ≠ [] := by decide +kernel
/-- A part in READY and ALONE at a period that opens a cycle. -/
def boundary (st : Nat) (x : LogicS) : State :=
  ((((armState.set F.DEV_STATE_STATE 3).set F.LOGIC_STAT_LSTATE st).set F.LOGIC_CFG_MULT 1).lg (fun _ => x))
set_option maxRecDepth 40000 in
theorem wit_cycleStart : (boundary 2 {}).lBoundary = true ∧ (boundary 1 {}).lBoundary = true ∧
    (boundary 1 {}).lgst = .armed ∧ (boundary 2 {}).lgst = .run ∧
    (boundary 2 { inCycle := true }).lBoundary = true ∧ (boundary 0 {}).lgst = .stop ∧
    (boundary 2 { taken := 1 }).lBoundary = false ∧ (boundary 2 {}).synd = [] ∧
    (∀ w, w < 128 → (boundary 2 {}).get (F.LOGIC_IMAP_CFG_TYPE w) ≠ 1) ∧
    (boundary 2 {}).get F.MEM_INJ_MODE = 0 := by decide +kernel

/-! ### Witnesses of RecorderSegmentsAndTriggers -/

/-- Segment 15 in a state, on one channel of the control engine, with one page of Vesper memory. -/
def segIn (st : Nat) (x : SegS) : State :=
  (((((((inState 2).set (R.VSP_SEG_CHLO 15) 1).set (F.VSP_CH_CFG_TYPE 0) 3).set (F.VSP_SEG_MEM_LEN 15) 1).set
    (F.VSP_SEG_POST_POST 15) 1).set (F.VSP_SEG_TRIG_UNITS 15) 128).set (F.VSP_SEG_STAT_STATE 15) st).setSeg 15 x
set_option maxRecDepth 40000 in
theorem wit_vspTick : (segIn 1 { first := some 0 }).segDue 15 = some 0 ∧
    (∀ h, h < 16 → h ≠ 15 → (segIn 1 { first := some 0 }).segDue h = none) ∧
    (∀ h, h < 16 → h ≠ 15 → ((segIn 1 { first := some 0 }).segSample 15 0).segDue h = none) ∧
    (∀ c ∈ (segIn 1 {}).segCh 15, (segIn 1 {}).chWait c 0 = false) ∧
    (segIn 1 {}).get F.MEM_INJ_MODE = 0 ∧ (segIn 1 {}).synd = [] ∧
    (segIn 2 { first := some 0, trig := some (0, 0) }).segState 15 = 2 := by decide
set_option maxRecDepth 40000 in
theorem wit_fire : ((segIn 1 { first := some 0 }).setTu 7 { fires := [(0, false)] }).fireNext = some (7, 0) ∧
    up.fireNext = none ∧ (segIn 1 {}).on F.VSP_DONE_TPL_EN = false ∧ (segIn 1 {}).segState 15 = 1 ∧
    (segIn 1 {}).on (F.VSP_SEG_CFG_FULLPRE 15) = false ∧ (segIn 1 {}).chWait 0 0 = false ∧ (segIn 3 {}).segState 15 = 3 ∧
    (segIn 1 { armAt := some 0 }).elapsed = 0 ∧ (segIn 1 {}).seg 15 = {} ∧ tsrcRank 8 = 9 ∧ tsrcRank 9 = 8 ∧
    (((segIn 1 {}).set (F.VSP_TU_CFG_EN 7) 1).set (F.VSP_TU_CFG_TYPE 7) 2 |>.setTu 7 { high := some 0 }).tuDue 7 =
      some 0 ∧ (∀ v, v < 8 → v ≠ 7 →
    (((segIn 1 {}).set (F.VSP_TU_CFG_EN 7) 1).set (F.VSP_TU_CFG_TYPE 7) 2 |>.setTu 7 { high := some 0 }).tuDue v = none) := by
  decide
set_option maxRecDepth 40000 in
theorem wit_arm : (segIn 0 {}).armCode 15 ≠ 0 ∧ (segIn 1 {}).armCode 15 = 1 ∧
    ((segIn 0 {}).set (F.VSP_SEG_TRIG_UNITS 15) 0).armCode 15 = 0 ∧ (segIn 0 {}).Awake := by decide
theorem wit_comparator : (up.set (F.VSP_TU_CFG_EN 7) 1).on (F.VSP_TU_CFG_EN 7) = true ∧
    (up.set (F.VSP_TU_CFG_SRC 7) 1).on (F.VSP_TU_CFG_SRC 7) = true ∧ (up.tu 7).high = none := by decide
/-- A READ of the header of segment 15 that runs on ring 31. -/
def reading (type : Nat) (n : Byte) : State := (ring31 type 1).setRing 31
  { outs := [{ idx := 0, bytes := [1, 0, 0, 0, 0, 0, 0, 0, 15, 0, 0, 0, 0, 0, 0, 0, n] ++ List.replicate 47 0, started := true, busy := true }] }
set_option maxRecDepth 40000 in
theorem wit_read : (reading 5 64).rtype 31 = .vsp ∧ (reading 5 64).get (R.HOST_RING_CI 31) = 0 ∧
    ((reading 5 64).ring 31).outs.map (fun d => (d.busy, d.started, d.cancelLate, (reading 5 64).readOk d.bytes)) =
      [(true, true, false, false)] ∧
    (((reading 5 64).set (F.VSP_SEG_STAT_STATE 15) 3).ring 31).outs.map (fun d =>
      ((reading 5 64).set (F.VSP_SEG_STAT_STATE 15) 3).readOk d.bytes) = [true] ∧
    (((reading 5 64).set (F.VSP_SEG_STAT_STATE 15) 3).imageRead 15 0 16).2.1 = false ∧
    ((reading 5 64).hostWr {} (ringReq 31) (pagesOf 0 64) 0 (List.replicate 64 0)).2.1 = true ∧
    ((ringDesc 5).fetchEvent 31 (hmOp 1) (wantOp (ringDesc 5) 31 .vsp 1)).1 ≠ .nothing := by decide

/-! ### Witnesses of StartsThatTheConverterIgnores -/

theorem wit_startIgnored : up.Awake ∧ (up.set (F.ADC_CTRL_RUN 7) 1).on (F.ADC_CTRL_RUN 7) = true ∧
    (up.set (F.ADC_CFG_ILV 6) 1).ilv 7 = true ∧
    (up.set (F.ADC_STAT_CAL_BUSY 7) 1).on (F.ADC_STAT_CAL_BUSY 7) = true ∧
    ((up.set (F.TIME_LG_CFG_EN 7) 1).set (F.TIME_LG_CV_CV 7) 128).inGroup 7 = true ∧
    bit 2 1 = true ∧ bit 2 0 = false := by decide

/-! ### Witnesses of ConvertersSampleAndCalibrate -/

/-- A MEAS converter 7 with one sample in flight. -/
def sampled : State := ((inState 2).set (F.ADC_CFG_CLASS 7) 1).setCv 7 { flight := [{ at' := 204800, src := 39, far := true, unset := false, stale := true, facts := [] }], last := some 204800 }
theorem wit_adcStart : (inState 2).Awake ∧ (inState 2).gst ≠ .safeHold ∧
    (inState 2).on (F.ADC_CTRL_RUN 7) = false ∧ (inState 2).ilv 7 = false ∧
    (inState 2).on (F.ADC_STAT_CAL_BUSY 7) = false ∧ ((inState 2).cv 7).last = none ∧
    edgeAfter sampled.now16 < 204800 + ns50 ∧ sampled.adcLive = true ∧
    204800 ≤ (sampled.toSample 7).now16 := by decide
theorem wit_groupStart : (((armState.set (F.TIME_LG_CFG_EN 0) 1).set (F.TIME_LG_CV_CV 0) 128)).lgActs 0 = true ∧
    (Line.code .start, 0) ∉ armState.time.acted ∧ armState.get (F.TIME_LG_OFS0_START_OFS 0) < armState.P ∧
    up.lgActs 0 = false ∧
    armState.Awake ∧ armState.gst ≠ .safeHold ∧
    bit ((armState.set (F.TIME_LG_CV_CV 0) 128).get (F.TIME_LG_CV_CV 0)) 7 = true := by decide +kernel
set_option maxRecDepth 20000 in
theorem wit_free : ((inState 2).set (F.ADC_CTRL_RUN 7) 1).adcFree 7 = true ∧
    ((inState 2).set (F.ADC_CTRL_RUN 7) 1).freeDue 7 = ((inState 2).set (F.ADC_CTRL_RUN 7) 1).now := by decide
theorem wit_cal : ((inState 2).set F.ADC_REF_REF_OK 1).on F.ADC_REF_REF_OK = true ∧
    (inState 2).on F.ADC_REF_REF_OK = false ∧ sampled.on (F.ADC_CFG_CLASS 7) = true ∧
    (sampled.set (F.ADC_STAT_CAL_BUSY 7) 1).on (F.ADC_STAT_CAL_BUSY 7) = true ∧
    (inState 2).get (F.ADC_STAT_SPARE 7) < 5 ∧ (1 : Nat) ≠ (inState 2).get F.ADC_REF_SEL ∧
    (inState 2).gst = .config := by decide
/-- Chapter 17's worked example: r = 20,000, GAIN 0x8148, OFS +24. -/
theorem test_worked_sample :
    (((inState 2).set (F.ADC_CFG_CLASS 2) 1).set (R.ADC_FACT 2 1) 0x188148).adcCorrect 2 0x188148 20000 = (20199, false) := by
  decide

/-! ### Witnesses of EthernetPortsAndTimeBase -/

/-- Port 3 with its link up. -/
def linkUp : State := (inState 2).set (F.ETH_PORT_STAT_LINK 3) 1
/-- A frame of 60 zeros with its FCS. -/
def frame64 : Bytes := withCrc32 (List.replicate 60 0)
set_option maxRecDepth 100000 in
theorem wit_ethReceive : linkUp.Awake ∧ linkUp.ethUp 3 = true ∧ frame64.length = 64 ∧ crc32Ok frame64 = true ∧
    ethType (frame64.take 60) ≠ 0x88B8 ∧ ethType (frame64.take 60) ≠ 0x88BA ∧
    (∀ r, r < 32 → (linkUp.rst r = .disabled ∨ linkUp.rtype r ≠ .ethRx ∨ linkUp.get (F.HOST_RING_CFG_SUB r) ≠ 3)) ∧
    up.ethUp 3 = false := by decide +kernel
set_option maxRecDepth 100000 in
theorem wit_ethBufWaits : (ring31 7 1).rst 31 ≠ .disabled ∧ (ring31 7 1).rtype 31 = .ethRx ∧
    (ring31 7 1).get (F.HOST_RING_CFG_SUB 31) = 0 ∧
    (∀ q, q < 31 → ((ring31 7 1).rst q = .disabled ∨ (ring31 7 1).rtype q ≠ .ethRx ∨
      (ring31 7 1).get (F.HOST_RING_CFG_SUB q) ≠ 0)) ∧
    ((ring31 7 1).hostWr {} (ringReq 31) (pagesOf 0 76) 0 (List.replicate 76 0)).2.1 = true := by decide +kernel
/-- A GOOSE frame of subscription 31: stNum 1, sqNum 0, time allowed to live 2, confRev 0, one Boolean. -/
def goose : Bytes := [1, 0x0C, 0xCD, 1, 0, 0] ++ List.replicate 6 0 ++ [0x88, 0xB8] ++
  [0, 1, 0, 27, 0, 0, 0, 0] ++ [0x61, 17, 0x85, 1, 1, 0x86, 1, 0, 0x81, 1, 2, 0x88, 1, 0, 0xAB, 3, 0x83, 1, 1] ++
  List.replicate 19 0
/-- Subscription 31 takes it on port 3. -/
def subscribed : State := (((((linkUp.set (F.ETH_GSE_CFG_EN 31) 1).set (F.ETH_GSE_CFG_PORTS 31) 8).set
  (R.ETH_GSE_MAC 31) 0xCD010000).set (F.ETH_GSE_ID_MAC_HI 31) 0x010C).set (F.ETH_GSE_ID_APPID 31) 1).set
  F.ETH_GSE_BASE_BASE 1
set_option maxRecDepth 100000 in
theorem wit_goose : (List.range 32).find? (subscribed.gseHit 3 goose) = some 31 ∧ ethType goose = 0x88B8 ∧
    (gseDecode goose).map (fun m => [m.a, m.b, m.ttl, m.confRev, b2n m.sim] ++ m.mems.map (·.1)) = some [1, 0, 2, 0, 0, 1] ∧
    subscribed.rd32 (subscribed.subAt false 31 + 4) = 0 ∧ subscribed.on (F.ETH_GSE_CFG_CONF_CHK 31) = false ∧
    subscribed.get F.MEM_INJ_MODE = 0 ∧ subscribed.on F.ETH_EVT_TPL_EN = false ∧
    (gseDecode (goose.take 20)).isNone = true := by decide +kernel
theorem wit_stale : subscribed.on (F.ETH_GSE_CFG_EN 31) = true ∧
    bit (subscribed.rd32 (subscribed.subAt false 31 + statAt false)) 0 = false ∧
    bit ((subscribed.wr32 (subscribed.subAt false 31 + statAt false) 1).rd32
      (subscribed.subAt false 31 + statAt false)) 0 = true ∧ subscribed.subLimit false 31 = none ∧ subscribed.synd = [] := by decide +kernel
set_option maxRecDepth 40000 in
theorem wit_ethRings : ((ringDesc 6).fetchEvent 31 (hmOp 1) (wantOp (ringDesc 6) 31 .ethTx 1)).1 ≠ .nothing ∧
    ((ringDesc 7).fetchEvent 31 (hmOp 1) (wantOp (ringDesc 7) 31 .ethRx 1)).1 ≠ .nothing ∧
    (linkUp.setEthTx 3 [⟨31, 0, [], some 7⟩]).ethTxQ 3 = [⟨31, 0, [], some 7⟩] ∧
    sget ({ linkUp with eth := { tsq := [(3, [(7, 9)])] } } : State).eth.tsq [] 3 = [(7, 9)] ∧
    sget linkUp.eth.tsq [] 3 = [] ∧
    sget ({ linkUp with eth := { lost := [(3, some { cyc := 0, tsid := 1, stamp := 2, ovf := 0, cnt := 0 })] } } : State).eth.lost none 3 =
      some { cyc := 0, tsid := 1, stamp := 2, ovf := 0, cnt := 0 } := by decide
theorem wit_adjust : up.adjIgn = false ∧ (up.set F.PAIR_STAT_ROLE 4).adjIgn = true ∧
    (-freqMax ≤ sx 32 128000000 ∧ sx 32 128000000 ≤ freqMax) ∧ freqMax < sx 32 128000001 ∧
    sx 32 0x80000000 < -freqMax ∧ up.get F.ETH_STEP_NS_NS < 1000000000 ∧ up.time.step = none ∧
    armState.peRun = true ∧ armState.adjIgn = false ∧ up.peRun = false ∧ up.time.tw = [] := by decide
theorem wit_pps : (up.set F.ETH_PPS_CFG_PPS_OUT_EN 1).on F.ETH_PPS_CFG_PPS_OUT_EN = true ∧
    (up.set F.ETH_PPS_CFG_PPS_IN_EN 1).on F.ETH_PPS_CFG_PPS_IN_EN = true ∧ up.time.ns < 2 ^ 32 ∧ up.eth.ppsInAt = none ∧
    { up with eth := { up.eth with ppsInAt := some 0 } }.elapsed < 0 + 100 ∧
    (up.set F.ETH_TIME_STAT_SLEW_BUSY 1).on F.ETH_TIME_STAT_SLEW_BUSY = true ∧
    (up.set (F.ETH_PORT_CFG_MODE 3) 1).get (F.ETH_PORT_CFG_MODE 3) ≠ 0 ∧
    (up.set F.ETH_TIME_STAT_SLEW_BUSY 1).time.slew = 0 ∧ up.room up.ppsDue = up.ppsDue ∧ up.eth.ppsAt = none ∧
    up.room 10000000000 = 10000000000 := by decide

/-! ### Witnesses of CanControllersAndTheirBuses -/

/-- Controller 1 in a state. -/
def canIn (st : Nat) (x : CanS) : State :=
  ((inState 2).set (F.CAN_STAT_STATE 1) st).setCan 1 x
/-- One frame of the logic engine waits. -/
def canQ : CanS := { queue := [⟨none, 1, 8, [], false⟩] }
theorem wit_canEnable : (canIn 0 {}).canEnCode 1 = 0 ∧ ((inState 2).set (F.CAN_NBT_BRP 1) 0).canEnCode 1 = 1 ∧
    (canIn 0 {}).on (F.CAN_CTRL_EN 1) = false ∧ ((canIn 1 {}).set (F.CAN_CTRL_EN 1) 1).on (F.CAN_CTRL_EN 1) = true ∧
    (canIn 1 {}).canOn 1 = true ∧ (canIn 3 {}).canOn 1 = false ∧ (canIn 0 {}).Awake ∧
    ((canIn 3 {}).set (F.CAN_STAT_RECOVERING 1) 1).on (F.CAN_STAT_RECOVERING 1) = true := by decide
set_option maxRecDepth 40000 in
theorem wit_canSend : ((ringDesc 8).fetchEvent 31 (hmOp 1) (wantOp (ringDesc 8) 31 .canTx 1)).1 ≠ .nothing ∧
    (ringDesc 8).canSendBad 0 ([1] ++ List.replicate 63 0) = false ∧
    (ringDesc 8).canSendBad 0 ([1] ++ List.replicate 11 0 ++ [0x10] ++ List.replicate 51 0) = true ∧
    ((ringDesc 8).can 0).queue.length < 32 ∧ dlcBytes false 0 = 0 := by decide
theorem wit_canBus : (canIn 1 canQ).canOn 1 = true ∧ (canIn 1 canQ).on (F.CAN_CTRL_LISTEN 1) = false ∧
    ((canIn 1 canQ).can 1).queue.length = 1 ∧ ((canIn 1 canQ).can 1).ending = false ∧
    ((canIn 1 { sync := some 5 }).can 1).sync = some 5 ∧ 16 ≤ ((canIn 2 { acks := 16 }).can 1).acks ∧
    (canIn 2 {}).get (F.CAN_STAT_STATE 1) = 2 ∧
    255 < ((canIn 1 canQ).set (F.CAN_STAT_TEC 1) 248).get (F.CAN_STAT_TEC 1) + 8 := by decide
theorem wit_canFilter : (canIn 1 {}).canFilter 1 5 = none ∧
    ((canIn 1 {}).set (F.CAN_FILT_MASK_EN 1 31) 1).canFilter 1 5 = some 31 ∧
    ((canIn 1 {}).set (F.CAN_FILT_ID_RING 1 31) 1).on (F.CAN_FILT_ID_RING 1 31) = true ∧
    ((canIn 1 {}).can 1).fifo.length < 64 := by decide
/-- A BUF waits on ring 31. -/
def canBufWaits : State := (ring31 9 1).setRing 31
  { outs := [{ idx := 0, bytes := [1] ++ List.replicate 15 0 ++ [80] ++ List.replicate 47 0, started := true }] }
set_option maxRecDepth 40000 in
theorem wit_canBuf : canBufWaits.rtype 31 = .canRx ∧
    (((canBufWaits.ring 31).outs.find? (fun d => d.started && d.op = 1))).isSome = true ∧
    (canBufWaits.hostWr {} (ringReq 31) (pagesOf 0 16) 0 (List.replicate 16 0)).2.1 = true ∧
    ((ringDesc 9).fetchEvent 31 (hmOp 1) (wantOp (ringDesc 9) 31 .canRx 1)).1 ≠ .nothing ∧
    ((ringDesc 9).ring 31).outs.any (fun d => d.started && d.op = 1) = false := by decide

/-! ### Witnesses of ImageUpdatesAndKeySlots -/

/-- The flash with a commit record of SEQ 1 in copy 0: slot A active, A VALID, B as given. -/
def recorded (b : Nat) : State := (ring31 10 1).flWr 0
  (toLE 4 0x52435850 ++ toLE 4 1 ++ toLE 4 (2 + b * 8) ++
    toLE 4 (crc32 (toLE 4 0x52435850 ++ toLE 4 1 ++ toLE 4 (2 + b * 8))))
/-- A descriptor of an IMG ring on slot B. -/
def imgDesc (op : Byte) (busy : Bool) : Desc :=
  { idx := 0, bytes := [op, 0, 0, 0, 0, 0, 0, 0, 1] ++ List.replicate 55 0, started := true, busy := busy }
set_option maxRecDepth 100000 in
theorem wit_imgStart : (((recorded 2).set (R.HOST_RING_PI 31) 1).fetchEvent 31 { cells := [(0, 1), (8, 1)] }
      (wantOp (recorded 2) 31 .img 1)).1 = .start (imgDesc 1 false) ∧
    (recorded 2).imgCause (imgDesc 1 false) = none ∧ (recorded 2).imgCause (imgDesc 3 false) = none ∧
    (recorded 0).imgCause (imgDesc 3 false) = some 2 ∧ (recorded 2).imgCause (imgDesc 4 false) = some 6 ∧
    (recorded 2).rtype 31 = .img ∧ (recorded 2).get (R.HOST_RING_CI 31) = 0 := by decide +kernel
set_option maxRecDepth 100000 in
theorem wit_imgDone : ((recorded 2).newest).map (fun p => [p.1.seq, p.1.active, p.2]) = some [1, 0, 0] ∧
    (((recorded 2).setRing 31 { outs := [imgDesc 1 true] }).ring 31).outs = [imgDesc 1 true] ∧
    (imgDesc 4 true).op = 4 ∧ fieldLE (imgDesc 4 true).bytes 8 1 % 2 = 1 ∧
    (recorded 2).imgBad 1 false = some 1 ∧ ((ring31 10 1).ring 31).outs.any (·.busy) = false ∧
    (ring31 10 1).ringNos = List.range 32 := by decide +kernel
theorem wit_otp : (inState 2).gst = .config ∧ (inState 2).on F.DEV_OTP_STAT_OTP_BUSY = false ∧
    bit (inState 2).img.prog 7 = false ∧ (inState 2).get F.DEV_IMG_KEYSLOT ≠ 7 ∧
    bit ({ inState 2 with img := { prog := 1 } } : State).img.prog 0 = true ∧
    bit ({ inState 2 with img := { prog := 1 } } : State).img.revoked 0 = false ∧
    ({ inState 2 with img := { otp := some (7, []) } } : State).img.otp = some (7, []) := by decide

end Sys2Proof.Tests
end

section
/-! SUPPORT. The bit fields of a word under a write of one of them; the stored bytes read back; a
write of the host as far as the block that its offset names; then what 00_scope.md has proved:
FieldWrittenReadsBack, ResetLeavesRegistersAtResetValues, UndefinedCommandCodesAreRefused,
HostWritesAndBadAccesses. -/

namespace Sys2Proof.Machine

open Sys2Proof

/-! ## Bits of a word under a field write -/

/-- Bit i of a field is bit lo + i of the word, and 0 past the field's width. -/
theorem testBit_bits (x lo w i : Nat) :
    (bits x lo w).testBit i = (decide (i < w) && x.testBit (lo + i)) := by
  rw [bits, Nat.testBit_mod_two_pow, Nat.testBit_shiftRight]

/-- A field write as sums: what lies below the field, the field, and what lies above it. -/
theorem setBits_eq_split (x lo w v : Nat) :
    setBits x lo w v = 2 ^ lo * (2 ^ w * (x >>> (lo + w)) + v % 2 ^ w) + x % 2 ^ lo := by
  have hx := Nat.div_add_mod x (2 ^ lo)
  have hq := Nat.div_add_mod (x / 2 ^ lo) (2 ^ w)
  have hsplit : x = 2 ^ lo * (2 ^ w * (x / 2 ^ lo / 2 ^ w)) + 2 ^ lo * (x / 2 ^ lo % 2 ^ w) +
      x % 2 ^ lo := by
    rw [← Nat.mul_add, hq, hx]
  rw [setBits, bits, Nat.shiftRight_eq_div_pow, Nat.shiftRight_eq_div_pow, Nat.pow_add,
    ← Nat.div_div_eq_div_mul, Nat.mul_add, Nat.mul_comm (_ % _) (2 ^ lo),
    Nat.mul_comm (v % _) (2 ^ lo)]
  omega

/-- A field write brings the written bits into the field and leaves every other bit. -/
theorem testBit_setBits (x lo w v i : Nat) : (setBits x lo w v).testBit i =
    if lo ≤ i ∧ i < lo + w then v.testBit (i - lo) else x.testBit i := by
  have hlo : x % 2 ^ lo < 2 ^ lo := Nat.mod_lt _ (Nat.two_pow_pos lo)
  have hw : v % 2 ^ w < 2 ^ w := Nat.mod_lt _ (Nat.two_pow_pos w)
  rw [setBits_eq_split, Nat.testBit_two_pow_mul_add _ hlo]
  by_cases hbelow : i < lo
  · simp [hbelow, Nat.testBit_mod_two_pow, Nat.not_le.mpr hbelow]
  · rw [if_neg hbelow, Nat.testBit_two_pow_mul_add _ hw]
    by_cases hin : i - lo < w
    · rw [if_pos hin, if_pos (by omega), Nat.testBit_mod_two_pow, decide_eq_true hin,
        Bool.true_and]
    · rw [if_neg hin, if_neg (by omega), Nat.testBit_shiftRight]
      congr 1
      omega

/-- A field that shares no bit with the written one keeps its value. -/
theorem bits_setBits_apart (x lo w v lo' w' : Nat) (h : lo + w ≤ lo' ∨ lo' + w' ≤ lo) :
    bits (setBits x lo w v) lo' w' = bits x lo' w' := by
  refine Nat.eq_of_testBit_eq fun i => ?_
  rw [testBit_bits, testBit_bits, testBit_setBits]
  by_cases hi : i < w'
  · rw [if_neg (by omega)]
  · rw [decide_eq_false hi, Bool.false_and, Bool.false_and]

/-! ## Registers -/

/-- The word of a register is that of any field handle on it. -/
theorem State.word_congr (s : State) {f g : Fld} (ha : f.addr = g.addr) (hr : f.rst = g.rst) :
    s.word f = s.word g := by
  rw [State.word, State.word, ha, hr]

/-- A field of the same register that shares no bit with the written one stays. -/
theorem State.get_set_apart (s : State) (f g : Fld) (v : Nat) (hfit : f.lo + f.w ≤ 32)
    (h : f.Apart g) : (s.set f v).get g = s.get g := by
  obtain ⟨haddr, hrst, hbits⟩ := h
  rw [State.get, State.get, ← State.word_congr _ haddr hrst, ← State.word_congr _ haddr hrst,
    State.word_set s f v hfit, bits_setBits_apart _ _ _ _ _ _ hbits]

/-- A state differs from itself in no register. -/
theorem RegsOnly.refl (as : List Nat) (s : State) : RegsOnly as s s := ⟨rfl, fun _ _ _ => rfl⟩

/-- A field written by the hardware changes its register and nothing else. -/
theorem State.set_regsOnly (s : State) (f : Fld) (v : Nat) : RegsOnly [f.addr] s (s.set f v) :=
  ⟨rfl, fun _ ha d => sget_sput_ne s.regs _ d _ (List.ne_of_not_mem_cons ha)⟩

/-- A write of the host by the access codes alone changes no register but the one at its offset. -/
theorem State.plain_regsOnly (s : State) (w : BusWr) (h : w.org = 0) :
    RegsOnly [w.a] s (s.plain w) := by
  unfold State.plain
  split
  next r _ =>
    have haddr : (rawFld w.a (orgOf w.a w.org) r).addr = w.a := by
      simp [rawFld, orgOf, h]
    have hset := State.set_regsOnly s (rawFld w.a (orgOf w.a w.org) r)
    rw [haddr] at hset
    exact hset _
  next => exact RegsOnly.refl _ s

/-! ## Words and bytes of memory -/

@[simp] theorem length_toLE (k n : Nat) : (toLE k n).length = k := by
  induction k generalizing n with
  | zero => rfl
  | succ k ih => rw [toLE, List.length_cons, ih]

/-- The little-endian bytes of a number read back as the number, in their width (R5). -/
theorem leNat_toLE (k n : Nat) : leNat (toLE k n) = n % 2 ^ (8 * k) := by
  induction k generalizing n with
  | zero => simp [toLE, leNat, Nat.mod_one]
  | succ k ih =>
    rw [toLE, leNat, ih, BitVec.toNat_ofNat, Nat.mul_succ, Nat.add_comm (8 * k), Nat.pow_add,
      Nat.mod_mul]

/-- Each byte of a stored string reads back at its place. -/
theorem memGet_memPuts_in (b : Bytes) : ∀ (m : List Host.Cell) (a i : Nat), i < b.length →
    memGet (memPuts m a b) (a + i) = nth b 0 i := by
  induction b with
  | nil => exact fun _ _ i hi => absurd hi (Nat.not_lt_zero i)
  | cons x r ih =>
    intro m a i hi
    cases i with
    | zero =>
      exact (memGet_memPuts_out r _ _ _ (.inl a.lt_succ_self)).trans (memGet_memPut_same m a x)
    | succ i =>
      have hi' : i < r.length := Nat.lt_of_succ_lt_succ hi
      rw [memPuts, ← Nat.add_assoc, Nat.add_right_comm, ih _ _ i hi']
      rfl

/-- The bytes read from where a string was stored are that string. -/
theorem State.rdB_of_mem (s : State) (m : List Host.Cell) (a : Nat) (b : Bytes)
    (h : s.mem = memPuts m a b) : s.rdB a b.length = b := by
  refine List.ext_getElem (by simp [State.rdB]) fun i _ hi => ?_
  simp only [State.rdB, List.getElem_map, List.getElem_range, h]
  rw [memGet_memPuts_in b m a i hi, nth, List.getElem?_eq_getElem hi, Option.getD_some]

/-- The word read from where a word was stored is that word. -/
theorem State.rd32_of_mem (s : State) (m : List Host.Cell) (a v : Nat)
    (h : s.mem = memPuts m a (toLE 4 v)) : s.rd32 a = v % 2 ^ 32 := by
  have hb := State.rdB_of_mem s m a (toLE 4 v) h
  rw [length_toLE] at hb
  rw [State.rd32, State.rdN, hb, leNat_toLE]

/-- The mark of a granule is in no register and no byte. -/
theorem State.mark_frame (s : State) (a : Nat) :
    (s.mark a).regs = s.regs ∧ (s.mark a).mem = s.mem := by
  unfold State.mark
  split <;> exact ⟨rfl, rfl⟩

/-- States of the same registers read the same fields. -/
theorem State.get_congr_regs {s t : State} (f : Fld) (h : s.regs = t.regs) : s.get f = t.get f := by
  rw [State.get, State.get, State.word, State.word, h]

/-- With no injection armed a stored word goes into memory as it is, and no register changes
(R364). -/
theorem State.wr32_frame (s : State) (a v : Nat) (h : s.get F.MEM_INJ_MODE = 0) :
    (s.wr32 a v).regs = s.regs ∧ (s.wr32 a v).mem = memPuts s.mem a (toLE 4 v) := by
  obtain ⟨hregs, hmem⟩ := State.mark_frame s a
  have hmode (m y) : ({ s.mark a with mem := m, synd := y } : State).get F.MEM_INJ_MODE = 0 :=
    (State.get_congr_regs F.MEM_INJ_MODE hregs).trans h
  simp only [State.wr32, hmode]
  exact ⟨hregs, congrArg (fun m => memPuts m a (toLE 4 v)) hmem⟩

/-! ## A write of the host on its way to a block -/

/-- The direct write of all 32 bits that the host makes at an offset (R5, R6). -/
def wholeWrite (a data : Nat) : BusWr :=
  { a := a, mask := 0xFFFFFFFF, data := data, org := 0, via := .direct }

@[simp] theorem wholeWrite_a (a data : Nat) : (wholeWrite a data).a = a := rfl
@[simp] theorem wholeWrite_data (a data : Nat) : (wholeWrite a data).data = data := rfl
@[simp] theorem wholeWrite_mask (a data : Nat) :
    (wholeWrite a data).mask % 2 ^ 32 = 0xFFFFFFFF := rfl

/-- A command field takes the data of a whole write as they are. -/
theorem wholeWrite_cmd (a : Nat) {data : Nat} (h : data < 2 ^ 32) : (wholeWrite a data).cmd = data :=
  (Nat.and_two_pow_sub_one_eq_mod data 32).trans (Nat.mod_eq_of_lt h)

/-- Outside RESET a write of the host at an aligned offset is a whole write. -/
theorem State.hostW_awake (s : State) {a data : Nat} (hs : s.Awake) (ha : a % 4 = 0)
    (hd : data < 2 ^ 32) : s.hostW a data = s.busW (wholeWrite a data) := by
  rw [State.hostW, hs, Nat.mod_eq_of_lt hd]
  simp [ha, wholeWrite]

/-- A part in RESET answers no write. -/
theorem State.hostW_inReset (s : State) (a data : Nat) (hs : s.dev.inReset = true) :
    s.hostW a data = s := by
  simp [State.hostW, hs]

/-- Only the step of station time does more than the write itself (R63). -/
theorem State.busW_eq_busW1 (s : State) (w : BusWr) (h : w.a ≠ R.ETH_STEP_CMD.addr) :
    s.busW w = s.busW1 w := by
  simp [State.busW, h]

/-- The first sixteen blocks lie below the lanes, the strings and the memories (R321). -/
theorem below_lanes_of_block {a k : Nat} (h : a / 0x10000 = k) (hk : k < 16) :
    ¬ a ≥ 0x1000000 ∧ ¬ a ≥ 0x200000 ∧ ¬ a ≥ 0x100000 := by omega

/-- A write of DEV. -/
theorem State.busW1_dev (s : State) {a : Nat} (data : Nat) (h : a / 0x10000 = 0) :
    s.busW1 (wholeWrite a data) = s.wrDev (wholeWrite a data) := by
  simp [State.busW1, h, below_lanes_of_block h (by decide)]

/-- A write of SCHED. -/
theorem State.busW1_sched (s : State) {a : Nat} (data : Nat) (h : a / 0x10000 = 3) :
    s.busW1 (wholeWrite a data) = s.wrSched (wholeWrite a data) := by
  simp [State.busW1, h, below_lanes_of_block h (by decide)]

/-- A write of SAFE. -/
theorem State.busW1_safe (s : State) {a : Nat} (data : Nat) (h : a / 0x10000 = 7) :
    s.busW1 (wholeWrite a data) = s.wrSafe (wholeWrite a data) := by
  simp [State.busW1, h, below_lanes_of_block h (by decide)]

/-- A write of LOGIC. -/
theorem State.busW1_logic (s : State) {a : Nat} (data : Nat) (h : a / 0x10000 = 8) :
    s.busW1 (wholeWrite a data) = s.wrLogic (wholeWrite a data) := by
  simp [State.busW1, h, below_lanes_of_block h (by decide)]

/-- A write of ADC. -/
theorem State.busW1_adc (s : State) {a : Nat} (data : Nat) (h : a / 0x10000 = 10) :
    s.busW1 (wholeWrite a data) = s.wrAdc (wholeWrite a data) := by
  simp [State.busW1, h, below_lanes_of_block h (by decide)]

/-- A write of PAIR. -/
theorem State.busW1_pair (s : State) {a : Nat} (data : Nat) (h : a / 0x10000 = 13) :
    s.busW1 (wholeWrite a data) = s.wrPair (wholeWrite a data) := by
  simp [State.busW1, h, below_lanes_of_block h (by decide)]

/-- A write of a memory or of a hole goes to the memory at its offset. -/
theorem State.busW_memory (s : State) (w : BusWr) (h : 0x1000000 ≤ w.a) :
    s.busW w = s.wrMemory w := by
  have hstep : w.a ≠ R.ETH_STEP_CMD.addr := by
    have : R.ETH_STEP_CMD.addr = 0xb0024 := rfl
    omega
  rw [State.busW_eq_busW1 s w hstep, State.busW1, if_pos h]

/-- REGISTER_WRITE at a word of the map is the host's write there. -/
theorem exec_registerWrite (s : State) {a data : Nat} (ha : a < 0x4000000) (h4 : a % 4 = 0)
    (hd : data < 2 ^ 32) : exec (.registerWrite a data) s = .next (s.hostW a data) := by
  have hok : (okBar0 a && okU32 data) = true := by
    simpa [okBar0, okU32, ha, h4] using hd
  change gate (okBar0 a && okU32 data) (s.hostW a data) = _
  rw [hok, gate, if_pos rfl]

/-- REGISTER_WRITE outside RESET is one whole write of the bus. -/
theorem exec_registerWrite_awake (s : State) {a data : Nat} (hs : s.Awake) (ha : a < 0x4000000)
    (h4 : a % 4 = 0) (hd : data < 2 ^ 32) :
    exec (.registerWrite a data) s = .next (s.busW (wholeWrite a data)) := by
  rw [exec_registerWrite s ha h4 hd, State.hostW_awake s hs h4 hd]

/-! ## Undefined command codes -/

/-- CMD_UNDEFINED with a code that the register does not define is a whole write of it. -/
theorem exec_cmdUndefined (s : State) {a data : Nat} (hs : s.Awake) (ha : a % 4 = 0)
    (hstep : a ≠ R.ETH_STEP_CMD.addr) (hd : data < 2 ^ 32) (hu : undefCmd a data = true) :
    exec (.cmdUndefined a data) s = .next (s.busW1 (wholeWrite a data)) := by
  change gate (okU32 data) (s.cmdUndef a data) = _
  rw [gate, if_pos (show okU32 data = true from decide_eq_true hd), State.cmdUndef, if_pos hu,
    State.hostW_awake s hs ha hd, State.busW_eq_busW1 s _ hstep]

/-- A whole write that a block's own table of codes refuses is one of an undefined code. -/
theorem undefCmd_of_cmdBad {a data : Nat} (h : cmdBad (wholeWrite a data) = true) :
    undefCmd a data = true := by
  unfold undefCmd
  exact Bool.or_eq_true_iff.mpr (.inr h)

/-- An undefined code of DEV_CMD is refused with REJ 1 outside the core cycle of a fatal fault
(R27). -/
theorem State.devCmd_undefined (s : State) {c : Nat} (hs : s.Awake)
    (hf : s.dev.faultAt ≠ some s.time.cyc) (hc : c ∉ ([1, 2, 3, 4, 15] : List Nat)) :
    s.devCmd c = s.devRej 1 := by
  unfold State.devCmd
  split
  case h_6 => rw [State.devUndef, hs, if_neg Bool.false_ne_true, if_neg hf]
  all_goals exact absurd hc (by decide)

/-- An undefined code of DEV_OTP_CMD sets OTP_REJ. -/
theorem State.wrDev_otpUndefined (s : State) {v : Nat} (hv : v < 2 ^ 32)
    (hc : v % 4 ∉ ([1, 2] : List Nat)) :
    s.wrDev (wholeWrite R.DEV_OTP_CMD.addr v) = s.set F.DEV_OTP_STAT_OTP_REJ 1 := by
  rw [State.wrDev, wholeWrite_a, if_neg (by decide), if_neg (by decide), if_pos rfl,
    wholeWrite_cmd _ hv]
  split
  case h_3 => rfl
  all_goals
    rename_i hcode
    exact absurd (hcode ▸ hc) (by decide)

/-- An undefined code of SAFE_CMD sets CMD_REJ. -/
theorem State.safeCmd_undefined (s : State) {c : Nat} (hc : c ∉ ([1, 2, 3, 4] : List Nat)) :
    s.safeCmd c = s.set F.SAFE_FLAG_CMD_REJ 1 := by
  unfold State.safeCmd
  split
  case h_5 => rfl
  all_goals exact absurd hc (by decide)

/-- An undefined code of LOGIC_CMD sets CMD_REJ (R468). -/
theorem State.logicCmd_undefined (s : State) {c : Nat}
    (hc : c ∉ ([1, 2, 3, 4, 5, 6] : List Nat)) :
    s.logicCmd c = s.set F.LOGIC_FLAG_CMD_REJ 1 := by
  unfold State.logicCmd
  split
  case h_7 => rfl
  all_goals exact absurd hc (by decide)

/-- An undefined code of ADC_CMD sets CMD_REJ. -/
theorem State.adcCmd_undefined (s : State) {c : Nat} (m : Nat) (hc : c ∉ ([1, 2, 3] : List Nat)) :
    s.adcCmd c m = s.set F.ADC_FLAG_CMD_REJ 1 := by
  unfold State.adcCmd
  split
  case h_4 => rfl
  all_goals exact absurd hc (by decide)

/-- DEV_CMD outside the core cycle of a fatal fault refuses an undefined code. -/
theorem exec_cmdUndefined_dev (s : State) {v : Nat} (hs : s.Awake) (hv : v < 2 ^ 32)
    (hc : v % 16 ∉ ([1, 2, 3, 4, 15] : List Nat)) (hf : s.dev.faultAt ≠ some s.time.cyc) :
    exec (.cmdUndefined R.DEV_CMD.addr v) s = .next (s.devRej 1) := by
  rw [exec_cmdUndefined s hs rfl (by decide) hv (by simp [undefCmd, hc]),
    State.busW1_dev s _ (by decide), State.wrDev, wholeWrite_a, if_pos rfl,
    wholeWrite_cmd _ hv, State.devCmd_undefined s hs hf hc]

/-- DEV_OTP_CMD refuses an undefined code. -/
theorem exec_cmdUndefined_otp (s : State) {v : Nat} (hs : s.Awake) (hv : v < 2 ^ 32)
    (hc : v % 4 ∉ ([1, 2] : List Nat)) :
    exec (.cmdUndefined R.DEV_OTP_CMD.addr v) s = .next (s.set F.DEV_OTP_STAT_OTP_REJ 1) := by
  rw [exec_cmdUndefined s hs rfl (by decide) hv (by simp [undefCmd, hc]),
    State.busW1_dev s _ (by decide), State.wrDev_otpUndefined s hv hc]

/-- SAFE_CMD refuses an undefined code. -/
theorem exec_cmdUndefined_safe (s : State) {v : Nat} (hs : s.Awake) (hv : v < 2 ^ 32)
    (hc : v % 16 ∉ ([1, 2, 3, 4] : List Nat)) :
    exec (.cmdUndefined R.SAFE_CMD.addr v) s = .next (s.set F.SAFE_FLAG_CMD_REJ 1) := by
  rw [exec_cmdUndefined s hs rfl (by decide) hv (by simp [undefCmd, hc]),
    State.busW1_safe s _ (by decide), State.wrSafe, wholeWrite_a, if_pos rfl,
    wholeWrite_cmd _ hv, State.safeCmd_undefined s hc]

/-- LOGIC_CMD refuses an undefined code. -/
theorem exec_cmdUndefined_logic (s : State) {v : Nat} (hs : s.Awake) (hv : v < 2 ^ 32)
    (hc : v % 16 ∉ ([1, 2, 3, 4, 5, 6] : List Nat)) :
    exec (.cmdUndefined R.LOGIC_CMD.addr v) s = .next (s.set F.LOGIC_FLAG_CMD_REJ 1) := by
  have hcode : v % 16 = 0 ∨ 6 < v % 16 := by
    simp only [List.mem_cons, List.not_mem_nil, or_false, not_or] at hc
    omega
  have hbad : cmdBad (wholeWrite R.LOGIC_CMD.addr v) = true := by
    simp [cmdBad, wholeWrite_cmd _ hv, hcode]
  rw [exec_cmdUndefined s hs rfl (by decide) hv (undefCmd_of_cmdBad hbad),
    State.busW1_logic s _ (by decide), State.wrLogic, wholeWrite_a, if_pos rfl,
    wholeWrite_cmd _ hv, State.logicCmd_undefined s hc]

/-- ADC_CMD refuses an undefined code. -/
theorem exec_cmdUndefined_adc (s : State) {v : Nat} (hs : s.Awake) (hv : v < 2 ^ 32)
    (hc : v % 16 ∉ ([1, 2, 3] : List Nat)) :
    exec (.cmdUndefined R.ADC_CMD.addr v) s = .next (s.set F.ADC_FLAG_CMD_REJ 1) := by
  have hcode : v % 16 = 0 ∨ 3 < v % 16 := by
    simp only [List.mem_cons, List.not_mem_nil, or_false, not_or] at hc
    omega
  have hbad : cmdBad (wholeWrite R.ADC_CMD.addr v) = true := by
    simp [cmdBad, wholeWrite_cmd _ hv, hcode]
  rw [exec_cmdUndefined s hs rfl (by decide) hv (undefCmd_of_cmdBad hbad),
    State.busW1_adc s _ (by decide), State.wrAdc, wholeWrite_a, if_pos rfl,
    wholeWrite_cmd _ hv, State.adcCmd_undefined s _ hc]

/-- PAIR_CMD refuses every code but the handover's. -/
theorem exec_cmdUndefined_pair (s : State) {v : Nat} (hs : s.Awake) (hv : v < 2 ^ 32)
    (hc : v % 16 ≠ 1) :
    exec (.cmdUndefined R.PAIR_CMD.addr v) s = .next (s.set F.PAIR_FLAG_CMD_REJ 1) := by
  have hbad : cmdBad (wholeWrite R.PAIR_CMD.addr v) = true := by
    simp [cmdBad, wholeWrite_cmd _ hv, hc]
  rw [exec_cmdUndefined s hs rfl (by decide) hv (undefCmd_of_cmdBad hbad),
    State.busW1_pair s _ (by decide), State.wrPair, wholeWrite_a, if_pos rfl,
    wholeWrite_cmd _ hv, if_neg hc, State.flag]

/-! ## Writes of the host by what lies at their offset -/

/-- A write of SCHED_CFG goes by the access codes alone. -/
theorem State.busW_schedCfg (s : State) (data : Nat) :
    s.busW (wholeWrite R.SCHED_CFG.addr data) = s.plain (wholeWrite R.SCHED_CFG.addr data) := by
  have hquota : ix R.SCHED_CFG.addr 0x30400 0x10 32 = none := by decide
  rw [State.busW_eq_busW1 s _ (show R.SCHED_CFG.addr ≠ _ by decide),
    State.busW1_sched s _ (by decide), State.wrSched, wholeWrite_a,
    if_neg (by decide), if_neg (by decide), if_neg (by decide), hquota]

/-- A whole word written outside the tables that MOD reads is stored (R160, R199). -/
theorem State.memWr_whole (s : State) (a v req : Nat) (hct : s.inCt a = false)
    (hdt : s.inDt a = false) : s.memWr a 0xFFFFFFFF v req = s.wr32 a v := by
  simp [State.memWr, hct, hdt, State.mergeWr]

/-- Shared SRAM takes a write under its mask (R361). -/
theorem State.wrMemory_sram (s : State) {w : BusWr} (h : memClass w.a = some 0) :
    s.wrMemory w = s.memWr w.a (w.mask % 2 ^ 32) (w.data % 2 ^ 32) (reqOf w.org) := by
  simp only [State.wrMemory, h]

/-- Shared SRAM outside the tables that MOD reads stores the word (R361). -/
theorem State.busW_sram (s : State) {a data : Nat} (hlo : sramBase ≤ a)
    (hhi : a < sramBase + sramSize) (hct : s.inCt a = false) (hdt : s.inDt a = false)
    (hd : data < 2 ^ 32) : s.busW (wholeWrite a data) = s.wr32 a data := by
  rw [sramBase] at hlo hhi
  rw [sramSize] at hhi
  have hclass : memClass a = some 0 := by
    simp [memClass, hlo, show a < 0x2000000 by omega]
  rw [State.busW_memory s _ hlo, State.wrMemory_sram s hclass, wholeWrite_a, wholeWrite_mask,
    wholeWrite_data, Nat.mod_eq_of_lt hd, State.memWr_whole s a data _ hct hdt]

/-- Vesper memory and the holes above it take no write (R321, R476). -/
theorem State.busW_vesper_or_hole (s : State) {a : Nat} (data : Nat) (hlo : 0x2800000 ≤ a)
    (hhi : a < 0x4000000) : s.busW (wholeWrite a data) = s := by
  have hclass : memClass a = if a < 0x3000000 then some 3 else none := by
    have hplace : ¬ a < 0x2000000 ∧ ¬ a < 0x2400000 ∧ ¬ a < 0x2800000 ∧ ¬ 0x4000000 ≤ a := by omega
    simp [memClass, hplace, hlo]
  rw [State.busW_memory s _ (by rw [wholeWrite_a]; omega), State.wrMemory, wholeWrite_a, hclass]
  by_cases h : a < 0x3000000
  · simp only [if_pos h]
  · simp only [if_neg h]

/-- A whole word stored in shared SRAM reads back, and no other byte and no register changes. -/
theorem State.wr32_reads_back (s : State) {a data : Nat} (hd : data < 2 ^ 32)
    (hinj : s.get F.MEM_INJ_MODE = 0) :
    (s.wr32 a data).rd32 a = data ∧ (s.wr32 a data).regs = s.regs ∧
      ∀ q, q < a ∨ a + 4 ≤ q → memGet (s.wr32 a data).mem q = memGet s.mem q := by
  obtain ⟨hregs, hmem⟩ := State.wr32_frame s a data hinj
  refine ⟨?_, hregs, fun q hq => ?_⟩
  · rw [State.rd32_of_mem _ s.mem a data hmem, Nat.mod_eq_of_lt hd]
  · rw [hmem]
    exact memGet_memPuts_out _ _ _ _ (by rwa [length_toLE])

/-! ## Accesses that are not aligned words -/

/-- An access that is not an aligned word is an Unsupported Request, which AER notes (R320, R321). -/
theorem State.badAccess_unsupported (s : State) {a size : Nat} (hs : s.Awake)
    (h : a % 4 ≠ 0 ∨ size ≠ 4) :
    s.badAccess a size = (s.aer aerUnsupported).emit (.bar0 0 false true) := by
  have hnot : ¬ (a % 4 = 0 ∧ size = 4) := by omega
  simp [State.badAccess, hs, hnot]

/-- An access of an aligned word is a read of its offset. -/
theorem State.badAccess_aligned (s : State) {a : Nat} (hs : s.Awake) (h : a % 4 = 0) :
    s.badAccess a 4 = s.hostR a := by
  simp [State.badAccess, hs, h]

/-! ## The statements -/

/-- Settles O5: the written field by `get_set`, the others by the bits that the write leaves. -/
theorem fieldWrittenReadsBack : Obligations.FieldWrittenReadsBack := by
  rintro s f v ⟨-, hfit, -⟩
  exact ⟨State.get_set s f v hfit, fun g _ hg => State.get_set_apart s f g v hfit hg,
    State.set_regsOnly s f v⟩

/-- Settles O4: nothing is listed at power-on, so every register holds its table's value. -/
theorem resetLeavesRegistersAtResetValues : Obligations.ResetLeavesRegistersAtResetValues := by
  refine ⟨rfl, rfl, rfl, rfl, rfl, fun f hf => ?_, fun _ => rfl⟩
  change (BitVec.ofNat 32 f.rst).toNat = f.rst
  rw [BitVec.toNat_ofNat, Nat.mod_eq_of_lt hf]

/-- Settles O26, block by block. -/
theorem undefinedCommandCodesAreRefused : Obligations.UndefinedCommandCodesAreRefused :=
  fun s _ hs hv => ⟨exec_cmdUndefined_dev s hs hv, exec_cmdUndefined_otp s hs hv,
    exec_cmdUndefined_safe s hs hv, exec_cmdUndefined_logic s hs hv, exec_cmdUndefined_adc s hs hv,
    exec_cmdUndefined_pair s hs hv⟩

/-- Settles O34, by what lies at the offset of the access. -/
theorem hostWritesAndBadAccesses : Obligations.HostWritesAndBadAccesses := by
  refine ⟨fun s a data => exec_registerWrite_awake s, ?schedCfg, ?sram, ?vesper, ?unsupported,
    ?aligned, ?inReset⟩
  case schedCfg =>
    intro s data hs hd
    refine ⟨_, exec_registerWrite_awake s hs (by decide) (by decide) hd, ?_⟩
    rw [State.busW_schedCfg]
    exact State.plain_regsOnly s _ rfl
  case sram =>
    intro s a data hs hlo hhi h4 hd hct hdt hinj
    have hmap : a < 0x4000000 := by
      rw [sramBase, sramSize] at hhi
      omega
    refine ⟨_, exec_registerWrite_awake s hs hmap h4 hd, ?_⟩
    rw [State.busW_sram s hlo hhi hct hdt hd]
    exact State.wr32_reads_back s hd hinj
  case vesper =>
    rintro s a data hs ⟨hlo, hhi⟩ h4 hd
    rw [exec_registerWrite_awake s hs hhi h4 hd, State.busW_vesper_or_hole s data hlo hhi]
  case unsupported =>
    exact fun s a size hs h => congrArg Host.Outcome.next (State.badAccess_unsupported s hs h)
  case aligned =>
    exact fun s a hs h => congrArg Host.Outcome.next (State.badAccess_aligned s hs h)
  case inReset =>
    intro s a data hr ha h4 hd
    rw [exec_registerWrite s ha h4 hd, State.hostW_inReset s a data hr]

end Sys2Proof.Machine
end

section
/-! SUPPORT. Registers that an operation of the machine leaves alone: DEV, TIME and TRIP_ARM stay
under everything that follows a transition of the global state. Then what 01_station_view.md has
proved: DeviceCommands, StartStepsAndFaults. -/

namespace Sys2Proof.Machine

open Sys2Proof

/-! ## Registers kept -/

/-- t holds the register at offset a as s does, and of the device's hidden state everything but the
two notes that have nothing to do with its states: an error in a core's instruction memory, and
the strings that still launch after GO_CONFIG. -/
def State.Keeps (a : Nat) (s t : State) : Prop :=
  t.dev = { s.dev with ue25 := t.dev.ue25, lastBow := t.dev.lastBow } ∧
    ∀ d, sget t.regs d a = sget s.regs d a

/-- The registers that nothing behind a transition of the global state writes: DEV, TIME and
TRIP_ARM. -/
def Quiet (a : Nat) : Prop := a < 0x20000 ∨ a = R.TRIP_ARM.addr

/-- An offset outside the quiet registers. -/
abbrev Loud (a : Nat) : Prop := 0x20000 ≤ a ∧ a ≠ R.TRIP_ARM.addr

/-- What lies above TRIP is no quiet register. -/
theorem loud_of_above {a : Nat} (h : 0x70000 ≤ a) : Loud a := by
  have : R.TRIP_ARM.addr = 0x60018 := rfl
  exact ⟨by omega, by omega⟩

/-- A register of a family that begins above TRIP is no quiet register. -/
theorem loud_family {base : Nat} (k : Nat) (h : 0x70000 ≤ base) : Loud (base + k) :=
  loud_of_above (Nat.le_add_right_of_le h)

/-- The registers of HOST for the 32 rings are not quiet. -/
theorem loud_ring {base r : Nat} (h : 0x20000 ≤ base ∧ base < 0x22000) (hr : r < 32) :
    Loud (base + 0x40 * r) := by
  have : R.TRIP_ARM.addr = 0x60018 := rfl
  exact ⟨by omega, by omega⟩

/-- A family of registers whose offsets never agree with TRIP_ARM's modulo its stride is not
quiet. -/
theorem loud_stride (base m k : Nat) (h : 0x20000 ≤ base)
    (hmod : base % m ≠ R.TRIP_ARM.addr % m) : Loud (base + m * k) := by
  refine ⟨Nat.le_add_right_of_le h, fun he => hmod ?_⟩
  rw [← he, Nat.add_mul_mod_self_left]

/-- A quiet register is not a loud one. -/
theorem Quiet.ne {a b : Nat} (h : Quiet a) (hb : Loud b) : b ≠ a := by
  obtain ⟨hlo, hne⟩ := hb
  rcases h with h | rfl
  · omega
  · exact hne

namespace State

variable {a : Nat} {s t u : State}

theorem Keeps.refl (a : Nat) (s : State) : Keeps a s s := ⟨rfl, fun _ => rfl⟩

theorem Keeps.trans (h : Keeps a s t) (k : Keeps a t u) : Keeps a s u := by
  refine ⟨?_, fun d => (k.2 d).trans (h.2 d)⟩
  rw [k.1, h.1]

/-- States of the same registers and the same device keep everything of each other. -/
theorem Keeps.same (h : Keeps a s t) (hr : u.regs = t.regs) (hd : u.dev = t.dev) :
    Keeps a s u := by
  refine ⟨?_, fun d => ?_⟩
  · rw [hd]
    exact h.1
  · rw [hr]
    exact h.2 d

/-- A write of a field keeps the registers at other offsets. -/
theorem Keeps.set (h : Keeps a s t) {f : Fld} {v : Nat} (hf : f.addr ≠ a) :
    Keeps a s (t.set f v) :=
  ⟨h.1, fun d => (sget_sput_ne t.regs _ d _ hf.symm).trans (h.2 d)⟩

/-- A fold keeps a register where each step keeps it, of the states that have kept it so far. -/
theorem Keeps.foldl_from {α : Type} {f : State → α → State} (l : List α)
    (hf : ∀ t, Keeps a s t → ∀ x ∈ l, Keeps a t (f t x)) (h : Keeps a s t) :
    Keeps a s (l.foldl f t) := by
  induction l generalizing t with
  | nil => exact h
  | cons x r ih =>
    exact ih (fun t ht y hy => hf t ht y (List.mem_cons_of_mem x hy))
      (h.trans (hf t h x (List.mem_cons_self ..)))

/-- A fold of steps that each keep a register keeps it. -/
theorem Keeps.foldl {α : Type} {f : State → α → State} (l : List α)
    (hf : ∀ t, ∀ x ∈ l, Keeps a t (f t x)) (h : Keeps a s t) : Keeps a s (l.foldl f t) :=
  .foldl_from l (fun t _ => hf t) h

/-- A step under a condition keeps what the step keeps. -/
theorem Keeps.when (h : Keeps a s t) {c : Bool} {f : State → State} (hf : Keeps a t (f t)) :
    Keeps a s (t.when c f) :=
  State.when_of t c f (Keeps a s) h (h.trans hf)

/-- A branch keeps what both of its sides keep. -/
theorem Keeps.ite {c : Prop} [Decidable c] (ht : Keeps a s t) (hu : Keeps a s u) :
    Keeps a s (if c then t else u) := by
  split
  · exact ht
  · exact hu

/-- A field of a kept register reads the same. -/
theorem Keeps.get (h : Keeps a s t) (f : Fld) (hf : f.addr = a) : t.get f = s.get f := by
  rw [State.get, State.get, State.word, State.word, hf, h.2]

section
variable (q : Quiet a)
include q

/-- A write of a register that is not quiet keeps the quiet ones. -/
theorem Keeps.put (h : Keeps a s t) {f : Fld} {v : Nat} (hf : Loud f.addr) :
    Keeps a s (t.set f v) := h.set (q.ne hf)

/-! ## Messages, events, fault records, memory -/

omit q in
theorem msi_keeps (s : State) (v : Nat) : Keeps a s (s.msi v) :=
  .ite (.same (.refl a s) rfl rfl) (.ite (.refl a s) (.same (.refl a s) rfl rfl))

theorem evt_keeps (s : State) (e : Evt) : Keeps a s (s.evt e) := by
  have hset : Keeps a s (s.set R.HOST_EVT_CAUSE (setBit (s.word R.HOST_EVT_CAUSE) e.bit true)) :=
    .put q (.refl a s) ⟨by decide, by decide⟩
  exact .ite (hset.trans (msi_keeps _ _)) hset

theorem faultRec_keeps (s : State) (kind cls req detail addr aux : Nat) :
    Keeps a s (s.faultRec kind cls req detail addr aux) := by
  have hlog (e k : Nat) : Loud (R.MEM_FLOG e k).addr :=
    loud_of_above (show 0x70000 ≤ 0xe0400 + 0x10 * e + 0x4 * k by omega)
  unfold State.faultRec
  extract_lets e s1 s2 s3 s4 s5 s6 s7
  have hovf : Keeps a s s1 := .when (.refl a s) (.put q (.refl a s) (loud_of_above (by decide)))
  have hwords : Keeps a s s5 :=
    (((hovf.put q (hlog e 0)).put q (hlog e 1)).put q (hlog e 2)).put q (hlog e 3)
  have hidx : Keeps a s s6 :=
    (hwords.put q (loud_of_above (by decide))).put q (loud_of_above (by decide))
  clear_value s6
  refine .trans ?_ (evt_keeps q _ _)
  exact hidx.same rfl rfl

omit q in
theorem orFree_keeps (s : State) (w : Nat) (o : Option Nat) : Keeps a s (s.orFree w o).2 := by
  cases o <;> exact .same (.refl a s) rfl rfl

theorem faultLog_keeps (s : State) (kind : Nat) (cls req detail addr aux : Option Nat) :
    Keeps a s (s.faultLog kind cls req detail addr aux) :=
  ((((orFree_keeps s 3 cls).trans (orFree_keeps _ 8 req)).trans (orFree_keeps _ 8 detail)).trans
    (orFree_keeps _ 32 addr)).trans ((orFree_keeps _ 32 aux).trans (faultRec_keeps q _ _ _ _ _ _ _))

theorem ceCount_keeps (s : State) (cls : Nat) : Keeps a s (s.ceCount cls) := by
  unfold State.ceCount
  extract_lets s1 n m s2 lim m' s3
  have hinc : Keeps a s s1 := .put q (.refl a s) (loud_family _ (by decide))
  clear_value s1
  have hwin : Keeps a s s2 := hinc.same rfl rfl
  clear_value s2
  have hhit : Keeps a s s3 := hwin.same rfl rfl
  refine .ite (.trans ?_ (faultLog_keeps q _ _ _ _ _ _ _)) hwin
  exact hhit.put q (loud_of_above (by decide))

omit q in
theorem faultAddr_keeps (s : State) (x : Nat) : Keeps a s (s.faultAddr x).2 := by
  unfold State.faultAddr
  split <;> exact .same (.refl a s) rfl rfl

theorem poisonLog_keeps (s : State) (x req : Nat) : Keeps a s (s.poisonLog x req) := by
  unfold State.poisonLog
  exact (faultAddr_keeps s x).trans (faultLog_keeps q _ _ _ _ _ _ _)

/-- Only the read of a bad word in an instruction memory notes something of the device. -/
theorem eccRd_keeps (s : State) (x req : Nat) : Keeps a s (s.eccRd x req).2.2 := by
  unfold State.eccRd
  extract_lets d y cls
  split
  case h_1 => exact .refl a s
  case h_2 =>
    dsimp only
    refine .trans ?_ (ceCount_keeps q _ _)
    exact ⟨rfl, fun _ => rfl⟩
  case h_3 =>
    dsimp only
    refine .trans ?_ (ceCount_keeps q _ _)
    exact ⟨rfl, fun _ => rfl⟩
  case h_4 => exact .put q (.refl a s) (loud_family _ (by decide))
  case h_5 =>
    rename_i s1 s2 _ _
    have hpoison : Keeps a s s1 := .same (.refl a s) rfl rfl
    have hnote : Keeps a s s2 := hpoison.when ⟨rfl, fun _ => rfl⟩
    have haddr := hnote.trans (faultAddr_keeps s2 x)
    rcases hf : s2.faultAddr x with ⟨p, s3⟩
    simp only [hf] at haddr ⊢
    refine .trans ?_ (faultLog_keeps q _ _ _ _ _ _ _)
    refine .put q ?_ (loud_family _ (by decide))
    exact haddr.same rfl rfl

theorem eccRdF_keeps (s : State) (x req : Nat) : Keeps a s (s.eccRdF x req).2.2 := by
  rw [State.eccRdF_state]
  exact .when (eccRd_keeps q s x req) (poisonLog_keeps q _ _ _)

theorem eccRds_keeps (n : Nat) (s : State) (x req : Nat) : Keeps a s (s.eccRds x req n).2.2 := by
  induction n generalizing s x with
  | zero => exact .refl a s
  | succ n ih =>
    have hrd := eccRdF_keeps q s x req
    unfold State.eccRds
    simp only
    split
    · exact hrd
    · exact hrd.trans (ih _ _)

omit q in
theorem mark_keeps (s : State) (x : Nat) : Keeps a s (s.mark x) := by
  unfold State.mark
  split <;> exact .same (.refl a s) rfl rfl

theorem wr32_keeps (s : State) (x v : Nat) : Keeps a s (s.wr32 x v) :=
  .ite (.put q (.same (mark_keeps s x) rfl rfl) (loud_of_above (by decide)))
    (.same (mark_keeps s x) rfl rfl)

theorem wrWords_keeps (l : List Nat) (s : State) (x : Nat) : Keeps a s (s.wrWords x l) := by
  induction l generalizing s x with
  | nil => exact .refl a s
  | cons v r ih => exact (wr32_keeps q s x v).trans (ih _ _)

/-! ## Completions of ring descriptors -/

theorem xfault_keeps (s : State) (k : XFault) (write : Bool) (req iova : Nat) :
    Keeps a s (s.xfault k write req iova) := by
  unfold State.xfault
  refine .trans ?_ (faultLog_keeps q _ _ _ _ _ _ _)
  refine .put q (.ite (.refl a s) ?_) (by decide)
  refine .put q (.put q (.put q ?_ (by decide)) (by decide)) (by decide)
  exact .put q (.put q (.put q (.refl a s) (by decide)) (by decide)) (by decide)

theorem walk_keeps (s : State) (hm : HostMem) (x : Nat) : Keeps a s (s.walk hm x).2 := by
  have hmiss : Keeps a s (s.inc R.IOMMU_CNT_MISS) := .put q (.refl a s) (by decide)
  unfold State.walk
  extract_lets page s1 span dirAt de dir
  split
  · exact .refl a s
  have hdir : Keeps a s dir.2 := by
    unfold dir
    split
    · exact hmiss
    · split
      · exact hmiss
      · split
        · exact hmiss
        · split
          · exact hmiss
          · exact hmiss.same rfl rfl
  clear_value dir
  obtain ⟨_ | de', s2⟩ := dir
  · exact hdir
  · dsimp only
    split
    · exact hdir
    · split
      · exact hdir
      · split
        · exact hdir
        · exact hdir.same rfl rfl

theorem xlate_keeps (s : State) (hm : HostMem) (write : Bool) (req x : Nat) :
    Keeps a s (s.xlate hm write req x).2 := by
  have hwalk := walk_keeps q s hm x
  unfold State.xlate
  split
  · exact .refl a s
  split
  · exact xfault_keeps q _ _ _ _ _
  split
  next hw =>
    rw [hw] at hwalk
    exact hwalk.trans (xfault_keeps q _ _ _ _ _)
  next hw =>
    rw [hw] at hwalk
    split
    · exact hwalk
    · exact hwalk.trans (xfault_keeps q _ _ _ _ _)

theorem hostWr_keeps (fuel : Nat) (s : State) (hm : HostMem) (req x : Nat) (d : Bytes) :
    Keeps a s (s.hostWr hm req fuel x d).2.2 := by
  induction fuel generalizing s x d with
  | zero => exact .refl a s
  | succ fuel ih =>
    unfold State.hostWr
    split
    · exact .refl a s
    extract_lets n
    have hx := xlate_keeps q s hm true req x
    split
    next hf => rwa [hf] at hx
    next b s1 hf =>
      rw [hf] at hx
      exact .trans (t := s1.emit (.host b (d.take n))) (hx.same rfl rfl) (ih _ _ _)

omit q in
theorem setRing_keeps (s : State) (r : Nat) (x : RingS) : Keeps a s (s.setRing r x) :=
  .same (.refl a s) rfl rfl

theorem ringCounts_keeps (s : State) {r : Nat} (hr : r < 32) : Keeps a s (s.ringCounts r) :=
  .put q (.put q (.refl a s) (loud_ring (by decide) hr)) (loud_ring (by decide) hr)

omit q in
theorem ringIrq_keeps (s : State) (r : Nat) : Keeps a s (s.ringIrq r) :=
  .ite (msi_keeps _ _) (.ite (.trans (setRing_keeps _ _ _) (msi_keeps _ _)) (setRing_keeps _ _ _))

theorem cplWrite_keeps (s : State) {r : Nat} (c : Cpl) (hr : r < 32) :
    Keeps a s (s.cplWrite r c) := by
  unfold State.cplWrite
  extract_lets area
  have hwr := hostWr_keeps q 2 s s.iommu.view (ringReq r) (s.slotAt r c.idx + 48) area
  rcases hf : s.hostWr s.iommu.view (ringReq r) 2 (s.slotAt r c.idx + 48) area with ⟨n, ok, s1⟩
  rw [hf] at hwr
  dsimp only
  have hdone (x : RingS) (ci : Nat) :
      Keeps a s ((((s1.setRing r x).set (R.HOST_RING_CI r) ci).ringCounts r).when c.irq
        (·.ringIrq r)) := by
    refine .when (.trans (.put q ?_ (loud_ring (by decide) hr)) (ringCounts_keeps q _ hr))
      (ringIrq_keeps _ _)
    exact hwr.trans (setRing_keeps _ _ _)
  refine .ite ?_ (hdone _ _)
  exact .put q (.put q (hdone _ _) (loud_ring (by decide) hr)) (loud_ring (by decide) hr)

theorem cplRelease_keeps (fuel : Nat) (s : State) {r : Nat} (hr : r < 32) :
    Keeps a s (s.cplRelease r fuel) := by
  induction fuel generalizing s with
  | zero => exact .refl a s
  | succ fuel ih =>
    unfold State.cplRelease
    split
    · exact .refl a s
    · exact .trans (.trans (setRing_keeps _ _ _) (cplWrite_keeps q _ _ hr)) (ih _)

/-- Only the 32 rings have registers: what a link reset left of a ring loses its descriptor. -/
theorem cpl_keeps (s : State) (r : Nat) (c : Cpl) : Keeps a s (s.cpl r c) := by
  unfold State.cpl
  split
  · exact setRing_keeps _ _ _
  next hr =>
    have hr : r < 32 := Nat.lt_of_not_le hr
    split
    · exact setRing_keeps _ _ _
    · exact (cplWrite_keeps q s c hr).trans (cplRelease_keeps q _ _ hr)

theorem complete_keeps (s : State) (r idx status result flags : Nat) :
    Keeps a s (s.complete r idx status result flags) := by
  unfold State.complete
  split
  · exact .refl a s
  · exact cpl_keeps q s r _

theorem setTxns_keeps (s : State) (l : List Txn) : Keeps a s (s.setTxns l) :=
  .put q (.same (.refl a s) rfl rfl) (by decide)

theorem txnEnd_keeps (s : State) (x : Txn) (status result : Nat) :
    Keeps a s (s.txnEnd x status result) :=
  (setTxns_keeps q s _).trans (complete_keeps q _ _ _ _ _ _)

theorem dbDone_keeps (s : State) : Keeps a s s.dbDone := by
  unfold State.dbDone
  split
  · refine .trans ?_ (txnEnd_keeps q _ _ _ _)
    exact .same (.refl a s) rfl rfl
  · exact .refl a s

theorem txnsHold_keeps (s : State) : Keeps a s s.txnsHold :=
  .foldl _ (fun _ _ _ => txnEnd_keeps q _ _ _ _) (dbDone_keeps q s)

/-! ## Submissions to the scheduler -/

theorem cqPut_keeps (s : State) (rcd : Bytes) : Keeps a s (s.cqPut rcd) := by
  unfold State.cqPut
  split
  · exact .put q (.put q (.refl a s) (by decide)) (by decide)
  · extract_lets pi s1 s2
    have hrec : Keeps a s s1 := wrWords_keeps q _ _ _
    have hpi : Keeps a s s2 := hrec.put q (by decide)
    exact hpi.same rfl rfl

theorem itemReport_keeps (s : State) (i : Item) (status result flags : Nat) :
    Keeps a s (s.itemReport i status result flags) := by
  unfold State.itemReport
  split
  · exact complete_keeps q _ _ _ _ _ _
  · exact .ite (wrWords_keeps q _ _ _) (cqPut_keeps q _ _)

theorem setQueue_keeps (s : State) (l : Nat) (x : List Item) : Keeps a s (s.setQueue l x) := by
  have hl : Loud (R.SCHED_LVL_DEPTH l).addr :=
    loud_stride 0x30100 0x20 l (by decide) (by decide)
  refine .put q (.put q ?_ ?_) ?_
  exacts [.same (.refl a s) rfl rfl, hl, hl]

theorem setSpill_keeps (s : State) (l : Nat) (x : List Item) : Keeps a s (s.setSpill l x) := by
  have hstat : Loud (R.SCHED_SPILL_STAT l).addr :=
    loud_stride 0x30108 0x20 l (by decide) (by decide)
  have hmax : Loud (R.SCHED_SPILL_MAX l).addr :=
    loud_stride 0x3010c 0x20 l (by decide) (by decide)
  refine .put q (.put q ?_ ?_) ?_
  exacts [.same (.refl a s) rfl rfl, hstat, hmax]

theorem spillPut_keeps (s : State) (l : Nat) (i : Item) : Keeps a s (s.spillPut l i) := by
  unfold State.spillPut
  extract_lets n w0 w1 w b s1
  have hput : Keeps a s s1 := wrWords_keeps q _ _ _
  refine .trans ?_ (setSpill_keeps q _ _ _)
  exact hput.same rfl rfl

theorem submit_keeps (s : State) (src : Nat) (b : Bytes) (ring : Option (Nat × Nat))
    (pt : Option Nat) : Keeps a s (s.submit src b ring pt) := by
  have hrej : Loud (R.SCHED_QREJ src).addr :=
    loud_stride 0x3040c 0x10 src (by decide) (by decide)
  have huse : Loud (F.SCHED_QUSE_OUT src).addr :=
    loud_stride 0x30404 0x10 src (by decide) (by decide)
  have hinc : Keeps a s (s.inc (R.SCHED_QREJ src)) := .put q (.refl a s) hrej
  unfold State.submit
  split
  · exact .refl a s
  extract_lets i0 i1 l dl i size toSpill sched s1 s2
  split
  · exact itemReport_keeps q _ _ _ _ _
  split
  · exact hinc.trans (itemReport_keeps q _ _ _ _ _)
  split
  · exact itemReport_keeps q _ _ _ _ _
  split
  · exact .trans (hinc.put q (by decide)) (itemReport_keeps q _ _ _ _ _)
  have huid : Keeps a s s1 := .same (.refl a s) rfl rfl
  clear_value s1
  have hacc : Keeps a s s2 := .put q (huid.put q huse) (by decide)
  exact .ite (hacc.trans (spillPut_keeps q _ _ _)) (hacc.trans (setQueue_keeps q _ _ _))

theorem submitTpl_keeps (s : State) (src ofs : Nat) (pt : Option Nat) :
    Keeps a s (s.submitTpl src ofs pt) := by
  unfold State.submitTpl
  split
  · exact .refl a s
  have hrd := eccRds_keeps q 8 s (sramBase + ofs) 0x31
  split
  next hf =>
    rw [hf] at hrd
    exact .put q (hrd.put q (by decide)) (by decide)
  next hf =>
    rw [hf] at hrd
    exact hrd.trans (submit_keeps q _ _ _ _ _)

/-! ## Controller, logic engine, recorder and converters -/

theorem tuneClear_keeps (s : State) : Keeps a s s.tuneClear :=
  .foldl _ (fun t f hf => by
    refine .put q (.refl a t) ?_
    simp only [List.mem_cons, List.not_mem_nil, or_false] at hf
    rcases hf with rfl | rfl | rfl | rfl | rfl <;> decide) (.refl a s)

theorem slotPlace_keeps (s : State) (k x : Nat) : Keeps a s (s.slotPlace k x) := by
  have hloss : Loud (F.CENG_SSTAT_DCONV k).addr :=
    loud_stride 0x4013c 0x40 k (by decide) (by decide)
  have hflag {c : Bool} : Keeps a s (s.when c (·.flag (F.CENG_SSTAT_DCONV k))) :=
    .when (.refl a s) (.put q (.refl a s) hloss)
  unfold State.slotPlace
  exact hflag.same rfl rfl

theorem tuneEnded_keeps (s : State) : Keeps a s s.tuneEnded := by
  have hend : Keeps a s (s.flag F.CENG_FLAG_TUNE_END) := .put q (.refl a s) (by decide)
  exact .ite (hend.trans (submitTpl_keeps q _ _ _ _)) hend

theorem tuneStop_keeps (s : State) (x : TuneS) (code : Nat) : Keeps a s (s.tuneStop x code) := by
  have hmode : Loud (F.CENG_MODE_MODE x.slot).addr :=
    loud_stride 0x4012c 0x40 x.slot (by decide) (by decide)
  have hout : Loud (R.CENG_OUT x.slot).addr :=
    loud_stride 0x41000 0x10 x.slot (by decide) (by decide)
  unfold State.tuneStop
  extract_lets c s1 s2 s3
  have hnone : Keeps a s s1 := .same (.refl a s) rfl rfl
  have hback : Keeps a s s2 := .put q (hnone.put q (by decide)) hmode
  have hlatch : Keeps a s s3 := .put q (hback.trans (slotPlace_keeps q _ _ _)) hout
  refine .trans ?_ (tuneEnded_keeps q _)
  exact hlatch.same rfl rfl

theorem tuneCheck_keeps (s : State) : Keeps a s s.tuneCheck := by
  unfold State.tuneCheck
  split
  · exact .ite ((tuneClear_keeps q s).trans (tuneStop_keeps q _ _ _)) (.refl a s)
  · exact .refl a s

omit q in
theorem slotsIdle_keeps (s : State) : Keeps a s s.slotsIdle :=
  .foldl _ (fun t _ _ => .ite (.same (.refl a t) rfl rfl) (.refl a t)) (.refl a s)

theorem setLgst_keeps (s : State) (x : LogState) : Keeps a s (s.setLgst x) := by
  unfold State.setLgst
  extract_lets was s1 s2 s3
  have hst : Keeps a s s1 := .put q (.refl a s) (by decide)
  have hpub : Keeps a s s2 := .ite hst (hst.trans (wr32_keeps q _ _ _))
  have hpend : Keeps a s s3 := hpub.put q (by decide)
  exact .ite (hpend.same rfl rfl) hpub

theorem lHalt_keeps (s : State) (cause : Nat) : Keeps a s (s.lHalt cause) := by
  have hcause : Keeps a s (s.set F.LOGIC_STAT_HCAUSE cause) := .put q (.refl a s) (by decide)
  exact hcause.trans (setLgst_keeps q _ _)

omit q in
theorem lg_keeps (s : State) (f : LogicS → LogicS) : Keeps a s (s.lg f) := ⟨rfl, fun _ => rfl⟩

theorem logicReady_keeps (s : State) : Keeps a s s.logicReady := by
  have hcause : Keeps a s (s.set F.LOGIC_STAT_HCAUSE 0) := .put q (.refl a s) (by decide)
  unfold State.logicReady State.lArm
  exact .ite ((hcause.trans (setLgst_keeps q _ _)).trans (lg_keeps _ _)) (.refl a s)

theorem segGoto_keeps (s : State) (g st : Nat) : Keeps a s (s.segGoto g st) := by
  have hst : Loud (F.VSP_SEG_STAT_STATE g).addr := loud_family (base := 0x9021c) _ (by decide)
  refine .put q (.put q (.put q (.refl a s) ?_) ?_) ?_
  exacts [hst, by decide, by decide]

theorem segLatch_keeps (s : State) (g inst tsrc : Nat) (interp : Bool) :
    Keeps a s (s.segLatch g inst tsrc interp) := by
  unfold State.segLatch
  refine .trans ?_ (segGoto_keeps q _ _ _)
  exact .same (.refl a s) rfl rfl

theorem segClose_keeps (s : State) (g post : Nat) (trunc : Bool) :
    Keeps a s (s.segClose g post trunc) := by
  unfold State.segClose
  extract_lets x n
  split
  · exact .refl a s
  extract_lets data inv short t0 sec h s1 s2
  have hseg : Keeps a s s1 := .same (.refl a s) rfl rfl
  have hdone : Keeps a s s2 := hseg.trans (segGoto_keeps q _ _ _)
  exact .ite (hdone.trans (submitTpl_keeps q _ _ _ _)) hdone

theorem vspSafeHold_keeps (s : State) : Keeps a s s.vspSafeHold := by
  refine .foldl _ (fun t g _ => ?_) (.refl a s)
  split
  · extract_lets t1 j j' x t2
    have hlatch : Keeps a t t1 := segLatch_keeps q t g _ _ _
    clear_value t1
    have hpre : Keeps a t t2 := hlatch.same rfl rfl
    exact hpre.trans (segClose_keeps q _ _ _ _)
  · exact segClose_keeps q _ _ _ _
  · exact .refl a t

theorem calAbort_keeps (s : State) (c : Nat) : Keeps a s (s.calAbort c) := by
  have hst : Loud (R.ADC_STAT c).addr := loud_family (base := 0xa010c) _ (by decide)
  refine .put q (.put q (.put q (.refl a s) ?_) ?_) ?_
  exacts [hst, hst, hst]

theorem calInterrupt_keeps (s : State) (c : Nat) : Keeps a s (s.calInterrupt c) :=
  .ite (calAbort_keeps q s c) (.refl a s)

theorem wdOff_keeps (s : State) : Keeps a s s.wdOff := by
  refine .put q (.put q ?_ ?_) ?_
  exacts [.same (.refl a s) rfl rfl, by decide, by decide]

/-! ## The pair, strings and lanes -/

theorem dropAct_keeps (s : State) : Keeps a s s.dropAct := by
  refine .ite (.same (t := s.set F.PAIR_STAT_ACT_OUT 0) ?_ rfl rfl) (.refl a s)
  exact .put q (.refl a s) (by decide)

theorem setRole_keeps (s : State) (r : Role) : Keeps a s (s.setRole r) := by
  have hrole : Keeps a s (s.set F.PAIR_STAT_ROLE r.code) := .put q (.refl a s) (by decide)
  exact .ite (.refl a s) (hrole.trans (evt_keeps q _ _))

theorem relaysEnd_keeps (s : State) : Keeps a s s.relaysEnd := by
  refine .foldl _ (fun t n _ => .ite (.put q ?_ ?_) (.refl a t)) (.refl a s)
  · exact .same (.refl a t) rfl rfl
  · exact loud_family (base := 0x200010) _ (by decide)

theorem pairLeave_keeps (s : State) : Keeps a s s.pairLeave := by
  unfold State.pairLeave
  extract_lets s1 s2
  have hact : Keeps a s s1 := .same (dropAct_keeps q s) rfl rfl
  have hpend : Keeps a s s2 := .put q (hact.trans (relaysEnd_keeps q _)) (by decide)
  exact hpend.trans (setRole_keeps q _ _)

theorem strFlags_keeps (s : State) (n : Nat) : Keeps a s (s.strFlags n) := by
  have henum : Loud (R.STR_ENUM n).addr := loud_family (base := 0x200014) _ (by decide)
  have hstat : Loud (R.STR_STAT n).addr := loud_family (base := 0x200010) _ (by decide)
  unfold State.strFlags
  extract_lets x e s1 s2 s3 s4 s5
  have h1 : Keeps a s s3 := by
    refine .put q (.put q (.put q (.refl a s) ?_) ?_) ?_
    exacts [henum, henum, henum]
  refine .put q (.put q (.put q h1 ?_) ?_) ?_
  exacts [hstat, hstat, hstat]

theorem setSst_keeps (s : State) (n : Nat) (x : SState) : Keeps a s (s.setSst n x) := by
  have hstate : Keeps a s (s.set (F.STR_STAT_STATE n) x.code) :=
    .put q (.refl a s) (loud_family (base := 0x200010) _ (by decide))
  refine .trans (.put q hstate ?_) (strFlags_keeps q _ _)
  exact loud_family (base := 0x20000c) _ (by decide)

theorem strStop_keeps (s : State) (n : Nat) (x : SState) : Keeps a s (s.strStop n x) := by
  unfold State.strStop
  refine .trans (.put q ?_ ?_) (setSst_keeps q _ _ _)
  · exact .same (.refl a s) rfl rfl
  · exact loud_family (base := 0x20000c) _ (by decide)

theorem strsIdle_keeps (s : State) : Keeps a s s.strsIdle :=
  .foldl _ (fun t _ _ => .ite (.refl a t) (strStop_keeps q _ _ _)) (.refl a s)

theorem strsWatch_keeps (s : State) : Keeps a s s.strsWatch := by
  refine .foldl _ (fun t n _ => ?_) (.refl a s)
  split
  · exact .refl a t
  · exact .ite (strStop_keeps q _ _ _) (.refl a t)
  · exact strStop_keeps q _ _ _

theorem pairReady_keeps (s : State) : Keeps a s s.pairReady := by
  unfold State.pairReady
  refine .trans (.trans ?_ (setRole_keeps q _ _)) (strsWatch_keeps q _)
  exact .same (.refl a s) rfl rfl

omit q in
theorem setLane_keeps (s : State) (l : Nat) (x : LaneS) : Keeps a s (s.setLane l x) :=
  ⟨rfl, fun _ => rfl⟩

omit q in
theorem emit_keeps (s : State) (o : Out) : Keeps a s (s.emit o) := ⟨rfl, fun _ => rfl⟩

omit q in
theorem blkOut_keeps (s : State) (l g : Nat) : Keeps a s (s.blkOut l g) := by
  unfold State.blkOut
  exact .trans (.trans (emit_keeps _ _) (emit_keeps _ _))
    (.trans (emit_keeps _ _) (emit_keeps _ _))

theorem holdLane_keeps (s : State) (l : Nat) : Keeps a s (s.holdLane l) := by
  unfold State.holdLane
  refine .ite (.trans (.when (.refl a s) (.put q (.refl a s) ?_)) (blkOut_keeps _ _ _)) (.refl a s)
  exact loud_family (base := 0x200034) _ (by decide)

theorem blkHold_keeps (s : State) : Keeps a s s.blkHold :=
  .foldl _ (fun _ _ _ => holdLane_keeps q _ _)
    (.foldl _ (fun t _ _ => .ite (.same (.refl a t) rfl rfl) (.refl a t)) (.refl a s))

theorem setLst_keeps (s : State) (l : Nat) (x : LState) : Keeps a s (s.setLst l x) := by
  refine .put q (.put q (.refl a s) ?_) ?_
  · exact loud_family (base := 0x100020) _ (by decide)
  · exact loud_family (base := 0x10000c) _ (by decide)

theorem ctleHold_keeps (s : State) (l : Nat) : Keeps a s (s.ctleHold l) :=
  .when (.refl a s) (.put q (.refl a s) (loud_family (base := 0x100014) _ (by decide)))

theorem toTrain_keeps (s : State) (l : Nat) : Keeps a s (s.toTrain l) := by
  have hrxeq : Loud (F.LANE_RXEQ_CTLE_CUR l).addr := loud_family (base := 0x100014) _ (by decide)
  have hdfe : Loud (R.LANE_DFE l).addr := loud_family (base := 0x100018) _ (by decide)
  unfold State.toTrain
  extract_lets snap x s1 s2 s3
  have hlane : Keeps a s s1 := setLane_keeps _ _ _
  have hfrozen : Keeps a s s2 := hlane.put q (loud_family (base := 0x100020) _ (by decide))
  have heq : Keeps a s s3 :=
    .ite ((hfrozen.put q hrxeq).put q hdfe) ((hfrozen.put q hrxeq).put q hdfe)
  exact (heq.trans (setLst_keeps q _ _ _)).trans (ctleHold_keeps q _ _)

theorem laneTrain_keeps (s : State) (l : Nat) : Keeps a s (s.laneTrain l) := by
  unfold State.laneTrain
  refine .ite (.trans (.trans (.put q (.refl a s) ?_) (setLane_keeps _ _ _))
    (toTrain_keeps q _ _)) (.refl a s)
  exact loud_family (base := 0x100020) _ (by decide)

end

/-! ## Transitions of the global state -/

/-- The part stands in state g, shows the state it left, and the reason (R20). -/
def Entered (t : State) (g : GState) (prev reason : Nat) : Prop :=
  t.gst = g ∧ t.get F.DEV_STATE_PREV = prev ∧ t.get F.DEV_STATE_REASON = reason

/-- Out of RESET the state is the one whose code DEV_STATE holds. -/
theorem gst_of_code (hs : s.Awake) {g : GState} (hg : g ≠ .reset ∧ g ≠ .boot)
    (h : s.get F.DEV_STATE_STATE = g.code) : s.gst = g := by
  rw [State.gst, hs, h]
  cases g <;> simp_all [GState.code]

/-- Beyond BOOT the state's code is the one that DEV_STATE holds. -/
theorem code_of_gst {g : GState} (hg : g ≠ .reset ∧ g ≠ .boot) (h : s.gst = g) :
    s.get F.DEV_STATE_STATE = g.code := by
  unfold State.gst at h
  split at h
  · exact absurd h.symm hg.1
  · split at h
    case h_5 => exact absurd h.symm hg.2
    all_goals
      subst h
      assumption

/-- What is kept at DEV_STATE leaves the global state. -/
theorem Keeps.gst (h : Keeps R.DEV_STATE.addr s t) : t.gst = s.gst := by
  have hreset : t.dev.inReset = s.dev.inReset := by rw [h.1]
  rw [State.gst, State.gst, hreset, h.get F.DEV_STATE_STATE rfl]

theorem Keeps.awake (h : Keeps a s t) (hs : s.Awake) : t.Awake := by
  rw [State.Awake, h.1]
  exact hs

theorem Keeps.entered {g : GState} {p r : Nat} (h : Keeps R.DEV_STATE.addr s t)
    (hs : s.Entered g p r) : t.Entered g p r :=
  ⟨h.gst.trans hs.1, (h.get F.DEV_STATE_PREV rfl).trans hs.2.1,
    (h.get F.DEV_STATE_REASON rfl).trans hs.2.2⟩

/-- What a state shows of its transition rests on its registers and on RESET alone. -/
theorem Entered.same {g : GState} {p r : Nat} (h : s.Entered g p r) (hregs : t.regs = s.regs)
    (hreset : t.dev.inReset = s.dev.inReset) : t.Entered g p r := by
  simp only [Entered, State.gst, State.get, State.word, hregs, hreset] at h ⊢
  exact h

theorem quiet_devState : Quiet R.DEV_STATE.addr := .inl (by decide)
theorem quiet_devStart : Quiet R.DEV_START.addr := .inl (by decide)
theorem quiet_tripArm : Quiet R.TRIP_ARM.addr := .inr rfl

/-- A transition shows the state it enters, the one it leaves and its reason (R20). -/
theorem goto_entered (hs : s.Awake) {g : GState} (hg : g ≠ .reset ∧ g ≠ .boot) {reason : Nat}
    (hr : reason < 256) : (s.goto g reason).Entered g (s.get F.DEV_STATE_STATE) reason := by
  refine (evt_keeps quiet_devState _ .state).entered ⟨gst_of_code ?_ hg ?_, ?_, ?_⟩
  · exact hs
  · rw [get_set_apart _ F.DEV_STATE_REASON F.DEV_STATE_STATE _ (by decide) ⟨rfl, rfl, by decide⟩,
      get_set _ F.DEV_STATE_STATE _ (by decide)]
    cases g <;> rfl
  · rw [get_set_apart _ F.DEV_STATE_REASON F.DEV_STATE_PREV _ (by decide) ⟨rfl, rfl, by decide⟩,
      get_set_apart _ F.DEV_STATE_STATE F.DEV_STATE_PREV _ (by decide) ⟨rfl, rfl, by decide⟩,
      get_set _ F.DEV_STATE_PREV _ (by decide)]
    exact Nat.mod_mod _ _
  · rw [get_set _ F.DEV_STATE_REASON _ (by decide)]
    exact Nat.mod_eq_of_lt hr

/-- A transition changes no other quiet register. -/
theorem goto_keeps (q : Quiet a) (ha : R.DEV_STATE.addr ≠ a) (s : State) (g : GState)
    (reason : Nat) : Keeps a s (s.goto g reason) := by
  refine .trans ?_ (evt_keeps q _ _)
  refine .set (.set (.set (.refl a s) ?_) ?_) ?_
  exacts [ha, ha, ha]

/-- A refused command leaves the global state. -/
theorem devRej_state (s : State) (rej : Nat) :
    (s.devRej rej).get F.DEV_STATE_STATE = s.get F.DEV_STATE_STATE := by
  rw [State.devRej, State.flag,
    get_set_apart _ F.DEV_STATE_REJ F.DEV_STATE_STATE _ (by decide) ⟨rfl, rfl, by decide⟩,
    get_set_apart _ F.DEV_STATE_CMD_REJ F.DEV_STATE_STATE _ (by decide) ⟨rfl, rfl, by decide⟩]

theorem devRej_dev (s : State) (rej : Nat) : (s.devRej rej).dev = s.dev := by
  rw [State.devRej, State.flag, set_dev, set_dev]

theorem devRej_keeps (ha : R.DEV_STATE.addr ≠ a) (s : State) (rej : Nat) :
    Keeps a s (s.devRej rej) := by
  refine .set (.set (.refl a s) ?_) ?_
  exacts [ha, ha]

/-! ## ARM_RUN -/

theorem armRunClr_keeps (ha : R.TRIP_ARM.addr ≠ a ∧ R.TRIP_STAT.addr ≠ a) (s : State) (m : Nat) :
    Keeps a s (s.armRunClr m) := by
  refine .set (.set (.refl a s) ?_) ?_
  exacts [ha.1, ha.2]

/-- All six bits cleared leave ARM_RUN at 0 (R212). -/
theorem armRunClr_all (s : State) : (s.armRunClr 0x3F).get F.TRIP_ARM_ARM_RUN = 0 := by
  rw [State.armRunClr, State.armBlkUpd,
    get_set_ne _ F.TRIP_STAT_ARM_BLK F.TRIP_ARM_ARM_RUN _ (by decide), State.clrF,
    get_set _ F.TRIP_ARM_ARM_RUN _ (by decide)]
  exact congrArg (· % 2 ^ 6) (Nat.and_zero _)

/-- What follows ARM_RUN's end keeps its 0. -/
theorem Keeps.armRun (h : Keeps R.TRIP_ARM.addr (s.armRunClr 0x3F) t) :
    t.get F.TRIP_ARM_ARM_RUN = 0 := (h.get F.TRIP_ARM_ARM_RUN rfl).trans (armRunClr_all s)

/-! ## SAFE_HOLD -/

/-- A run that was pending is lost at entry to SAFE_HOLD, and reported (R30). -/
def runPendLost (s : State) : State :=
  if s.on F.DEV_STATE_RUN_PEND then (s.set F.DEV_STATE_RUN_PEND 0).devRej 4 else s

theorem runPendLost_state (s : State) :
    s.runPendLost.get F.DEV_STATE_STATE = s.get F.DEV_STATE_STATE := by
  unfold runPendLost
  split
  · rw [devRej_state,
      get_set_apart _ F.DEV_STATE_RUN_PEND F.DEV_STATE_STATE _ (by decide) ⟨rfl, rfl, by decide⟩]
  · rfl

theorem runPendLost_keeps (ha : R.DEV_STATE.addr ≠ a) (s : State) : Keeps a s s.runPendLost := by
  refine .ite (.trans (.set (.refl a s) ?_) (devRej_keeps ha _ _)) (.refl a s)
  exact ha

theorem runPendLost_dev (s : State) : s.runPendLost.dev = s.dev := by
  unfold runPendLost
  split
  · rw [devRej_dev, set_dev]
  · rfl

/-- Entry to SAFE_HOLD is a transition and ARM_RUN's end; all that follows leaves the quiet
registers (R26). -/
theorem safeHold_keeps (q : Quiet a) (s : State) (reason : Nat) :
    Keeps a ((s.runPendLost.goto .safeHold reason).armRunClr 0x3F) (s.safeHold reason) := by
  unfold State.safeHold
  extract_lets s1 s2 s3 s4 s5
  have hpair : Keeps a ((s.runPendLost.goto .safeHold reason).armRunClr 0x3F) s2 :=
    pairLeave_keeps q _
  have hstop : Keeps a ((s.runPendLost.goto .safeHold reason).armRunClr 0x3F) s3 :=
    .trans (.trans (.trans (hpair.trans (strsIdle_keeps q _)) (blkHold_keeps q _))
      (slotsIdle_keeps _)) (tuneCheck_keeps q _)
  have hhalt : Keeps a ((s.runPendLost.goto .safeHold reason).armRunClr 0x3F) s4 :=
    .trans (hstop.trans (lHalt_keeps q _ _)) (vspSafeHold_keeps q _)
  have hcal : Keeps a ((s.runPendLost.goto .safeHold reason).armRunClr 0x3F) s5 :=
    .foldl _ (fun _ _ _ => calInterrupt_keeps q _ _) hhalt
  exact hcal.trans (txnsHold_keeps q _)

theorem safeHold_entered (hs : s.Awake) {reason : Nat} (hr : reason < 256) :
    (s.safeHold reason).Entered .safeHold (s.get F.DEV_STATE_STATE) reason := by
  have hawake : s.runPendLost.Awake := by
    rw [Awake, runPendLost_dev]
    exact hs
  have hgoto := goto_entered hawake (g := .safeHold) ⟨by decide, by decide⟩ hr
  rw [runPendLost_state] at hgoto
  exact (safeHold_keeps quiet_devState s reason).entered
    ((armRunClr_keeps ⟨by decide, by decide⟩ _ _).entered hgoto)

theorem safeHold_armRun (s : State) (reason : Nat) :
    (s.safeHold reason).get F.TRIP_ARM_ARM_RUN = 0 :=
  (safeHold_keeps quiet_tripArm s reason).armRun

/-- Entry to SAFE_HOLD changes DEV_STATE alone of DEV and TIME. -/
theorem safeHold_leaves (ha : a < 0x20000) (hne : R.DEV_STATE.addr ≠ a) (s : State)
    (reason : Nat) : Keeps a s (s.safeHold reason) := by
  have harm : R.TRIP_ARM.addr ≠ a ∧ R.TRIP_STAT.addr ≠ a := by
    have h1 : R.TRIP_ARM.addr = 0x60018 := rfl
    have h2 : R.TRIP_STAT.addr = 0x60008 := rfl
    omega
  exact .trans (.trans ((runPendLost_keeps hne s).trans (goto_keeps (.inl ha) hne _ _ _))
    (armRunClr_keeps harm _ _)) (safeHold_keeps (.inl ha) s reason)

/-! ## Fatal faults -/

/-- With no command before it in its core cycle a fatal fault takes nothing back (R27). -/
theorem cmdLost_of_first (h : s.FirstOfCycle) : s.cmdLost = s := by
  unfold State.cmdLost
  split
  next u hu => rw [if_neg (h.2 u hu)]
  next => rfl

theorem cmdLost_awake (hs : s.Awake) : s.cmdLost.Awake := by
  unfold State.cmdLost
  split
  · split
    · rw [Awake, devRej_dev]
      exact hs
    · exact hs
  · exact hs

/-- What a fatal fault notes beside its transition. -/
def faultNoted (s : State) : State :=
  { s with dev := { s.dev with faultAt := some s.time.cyc, undo := none, lastBow := [] } }

theorem faultNoted_regs (s : State) : s.faultNoted.regs = s.regs := rfl

theorem faultNoted_inReset (s : State) : s.faultNoted.dev.inReset = s.dev.inReset := rfl

/-- In CONFIG, READY and RUN a fatal fault is the entry to SAFE_HOLD and its notes (R20, R25). -/
theorem fatal_holds (hg : s.gst = .config ∨ s.live = true) (reason : Nat) :
    s.fatal reason = (s.cmdLost.safeHold reason).faultNoted :=
  if_pos (by simpa using hg)

theorem fatal_regs (hg : s.gst = .config ∨ s.live = true) (reason : Nat) :
    (s.fatal reason).regs = (s.cmdLost.safeHold reason).regs :=
  (congrArg State.regs (fatal_holds hg reason)).trans (faultNoted_regs _)

theorem fatal_inReset (hg : s.gst = .config ∨ s.live = true) (reason : Nat) :
    (s.fatal reason).dev.inReset = (s.cmdLost.safeHold reason).dev.inReset :=
  (congrArg (·.dev.inReset) (fatal_holds hg reason)).trans (faultNoted_inReset _)

theorem fatal_entered (hs : s.Awake) (hg : s.gst = .config ∨ s.live = true) {reason : Nat}
    (hr : reason < 256) :
    (s.fatal reason).Entered .safeHold (s.cmdLost.get F.DEV_STATE_STATE) reason :=
  (safeHold_entered (cmdLost_awake hs) hr).same (fatal_regs hg reason)
    (fatal_inReset hg reason)

theorem fatal_armRun (hg : s.gst = .config ∨ s.live = true) (reason : Nat) :
    (s.fatal reason).get F.TRIP_ARM_ARM_RUN = 0 :=
  (get_congr_regs _ (fatal_regs hg reason)).trans (safeHold_armRun _ _)

/-- A fatal fault with no command before it leaves TIME_STATUS. -/
theorem fatal_timeStatus (hf : s.FirstOfCycle) (hg : s.gst = .config ∨ s.live = true)
    (reason : Nat) {f : Fld} (h : f.addr = R.TIME_STATUS.addr) :
    (s.fatal reason).get f = s.get f := by
  rw [get_congr_regs f (fatal_regs hg reason), cmdLost_of_first hf]
  exact (safeHold_leaves (by decide) (by decide) s reason).get f h

/-! ## The commands of DEV_CMD -/

theorem cmdMark_entered {g : GState} {p r : Nat} (h : t.Entered g p r) :
    (s.cmdMark t).Entered g p r := h.same rfl rfl

/-- In the core cycle of a fatal fault no command has an effect (R27). -/
theorem devGate_fault (hs : s.Awake) (hf : s.dev.faultAt = some s.time.cyc) (ok : Bool)
    (f : State → State) : s.devGate ok f = s.devRej 4 := by
  simp [State.devGate, hs, hf]

/-- While RUN_PEND is set a transition is refused (R28). -/
theorem devGate_pending (hs : s.Awake) (hf : s.dev.faultAt ≠ some s.time.cyc)
    (hp : s.on F.DEV_STATE_RUN_PEND = true) (ok : Bool) (f : State → State) :
    s.devGate ok f = s.devRej 5 := by
  simp [State.devGate, hs, hf, hp]

/-- A state that a transition does not fit refuses it (R28). -/
theorem devGate_unfit (hs : s.Awake) (hf : s.dev.faultAt ≠ some s.time.cyc)
    (hp : s.on F.DEV_STATE_RUN_PEND = false) (f : State → State) :
    s.devGate false f = s.devRej 1 := by
  simp [State.devGate, hs, hf, hp]

/-- Past those checks the command is judged by itself. -/
theorem devGate_pass (hs : s.Awake) (hf : s.dev.faultAt ≠ some s.time.cyc)
    (hp : s.on F.DEV_STATE_RUN_PEND = false) (f : State → State) :
    s.devGate true f = f s := by
  simp [State.devGate, hs, hf, hp]

/-- The results of the checks lie in the blocks behind DEV (R29). -/
theorem chkClr_keeps (ha : a < 0x10000) (s : State) : Keeps a s s.chkClr := by
  refine .foldl _ (fun t f hf => .set (.refl a t) ?_) (.refl a s)
  have hbehind : 0x10000 ≤ f.addr := by
    simp only [List.mem_append, List.mem_cons, List.not_mem_nil, or_false, List.mem_map] at hf
    rcases hf with (rfl | rfl | rfl | rfl | rfl | rfl | rfl | rfl) | ⟨l, -, rfl⟩
    case inr => exact Nat.le_add_right_of_le (by decide)
    all_goals decide
  omega

/-- GO_READY accepted enters READY; the lanes that train, the pair and the logic engine leave
DEV (R20, R89, R387, R463). -/
theorem readyEnter_entered (hs : s.Awake) :
    s.readyEnter.Entered .ready (s.get F.DEV_STATE_STATE) 1 := by
  have q := quiet_devState
  have hgoto := goto_entered hs (g := .ready) ⟨by decide, by decide⟩ (reason := 1) (by decide)
  unfold State.readyEnter
  extract_lets s1 s2
  have htrain : Keeps R.DEV_STATE.addr s1 s2 :=
    .foldl _ (fun t _ _ => .ite (laneTrain_keeps q _ _) (.refl _ t)) (.refl _ s1)
  exact ((htrain.trans (pairReady_keeps q _)).trans (logicReady_keeps q _)).entered hgoto

theorem goReady_entered (hs : s.Awake) (hf : s.dev.faultAt ≠ some s.time.cyc)
    (hp : s.on F.DEV_STATE_RUN_PEND = false) (hg : s.gst = .config)
    (hok : s.chkClr.readyFails = none) : s.goReady.Entered .ready 2 1 := by
  have hclr : Keeps R.DEV_STATE.addr s s.chkClr := chkClr_keeps (by decide) s
  have hcode : s.chkClr.get F.DEV_STATE_STATE = 2 :=
    (hclr.get F.DEV_STATE_STATE rfl).trans (code_of_gst ⟨by decide, by decide⟩ hg)
  rw [State.goReady, decide_eq_true hg, devGate_pass hs hf hp]
  simp only [hok]
  exact hcode ▸ readyEnter_entered (hclr.awake hs)

theorem goReady_refused (hs : s.Awake) (hf : s.dev.faultAt ≠ some s.time.cyc)
    (hp : s.on F.DEV_STATE_RUN_PEND = false) (hg : s.gst = .config)
    (hbad : s.chkClr.readyFails = some u) : s.goReady = u.devRej 2 := by
  rw [State.goReady, decide_eq_true hg, devGate_pass hs hf hp]
  simp only [hbad]

theorem goRun_judged (hs : s.Awake) (hf : s.dev.faultAt ≠ some s.time.cyc)
    (hp : s.on F.DEV_STATE_RUN_PEND = false) (hg : s.gst = .ready) :
    s.goRun = if s.inWindow (s.get R.DEV_RUN_AT) then
      { s.set F.DEV_STATE_RUN_PEND 1 with dev := { s.dev with runAt := s.get R.DEV_RUN_AT } }
      else s.devRej 3 := by
  rw [State.goRun, decide_eq_true hg, devGate_pass hs hf hp]
  rfl

/-- The strings that still launch are noted beside the registers. -/
theorem lastBow_keeps (s : State) (l : List Nat) :
    Keeps a s { s with dev := { s.dev with lastBow := l } } := ⟨rfl, fun _ => rfl⟩

/-- GO_CONFIG leaves READY for CONFIG: what it stops leaves DEV (R20, R154, R437, R463). -/
theorem goConfig_entered (hs : s.Awake) (hf : s.dev.faultAt ≠ some s.time.cyc)
    (hp : s.on F.DEV_STATE_RUN_PEND = false) (hg : s.gst = .ready) :
    s.goConfig.Entered .config 3 1 := by
  have q := quiet_devState
  have hgoto := goto_entered hs (g := .config) ⟨by decide, by decide⟩ (reason := 1) (by decide)
  rw [code_of_gst ⟨by decide, by decide⟩ hg] at hgoto
  rw [State.goConfig, decide_eq_true hg, devGate_pass hs hf hp]
  extract_lets go s1 d s2 s3
  have hleave : Keeps R.DEV_STATE.addr (s.goto .config 1) s1 :=
    (pairLeave_keeps q _).trans (strsIdle_keeps q _)
  clear_value s1
  have hlast : Keeps R.DEV_STATE.addr s1 s2 := lastBow_keeps s1 go
  clear_value s2
  have hstop : Keeps R.DEV_STATE.addr s2 s3 :=
    ((slotsIdle_keeps _).trans (tuneCheck_keeps q _)).trans (setLgst_keeps q _ _)
  exact (((hleave.trans hlast).trans hstop).when (wdOff_keeps q _)).entered hgoto

/-- In RUN STOP leaves for READY and clears ARM_RUN (R20, R212). -/
theorem stop_run (hs : s.Awake) (hf : s.dev.faultAt ≠ some s.time.cyc)
    (hp : s.on F.DEV_STATE_RUN_PEND = false) (hg : s.gst = .run) :
    s.stop = ((s.goto .ready 1).armRunClr 0x3F).tuneCheck := by
  simp [State.stop, hs, hf, hp, hg]

theorem stop_entered (hs : s.Awake) (hf : s.dev.faultAt ≠ some s.time.cyc)
    (hp : s.on F.DEV_STATE_RUN_PEND = false) (hg : s.gst = .run) :
    s.stop.Entered .ready 4 1 ∧ s.stop.get F.TRIP_ARM_ARM_RUN = 0 := by
  have hgoto := goto_entered hs (g := .ready) ⟨by decide, by decide⟩ (reason := 1) (by decide)
  rw [code_of_gst ⟨by decide, by decide⟩ hg] at hgoto
  rw [stop_run hs hf hp hg]
  exact ⟨((armRunClr_keeps ⟨by decide, by decide⟩ _ _).trans
    (tuneCheck_keeps quiet_devState _)).entered hgoto, (tuneCheck_keeps quiet_tripArm _).armRun⟩

/-- FORCE_SAFE_HOLD in CONFIG, READY and RUN is a fatal fault (R25, R28). -/
theorem forceHold_pass (hs : s.Awake) (hf : s.dev.faultAt ≠ some s.time.cyc)
    (hg : s.gst = .config ∨ s.live = true) : s.forceHold = s.fatal 6 := by
  simp only [State.forceHold, hs, if_neg hf, Bool.false_eq_true, if_false]
  rw [if_pos (by simpa using hg)]

theorem msi_ceng (s : State) (v : Nat) : (s.msi v).ceng = s.ceng := by
  unfold State.msi
  repeat' split
  all_goals rfl

theorem evt_ceng (s : State) (e : Evt) : (s.evt e).ceng = s.ceng := by
  unfold State.evt
  extract_lets was s'
  split
  · rw [msi_ceng, set_ceng]
  · rfl

theorem goto_ceng (s : State) (g : GState) (reason : Nat) : (s.goto g reason).ceng = s.ceng := by
  rw [State.goto, evt_ceng, set_ceng, set_ceng, set_ceng]

theorem goto_mem (s : State) (g : GState) (reason : Nat) : (s.goto g reason).mem = s.mem := by
  rw [State.goto, evt_mem, set_mem, set_mem, set_mem]

theorem armRunClr_ceng (s : State) (m : Nat) : (s.armRunClr m).ceng = s.ceng := by
  rw [State.armRunClr, State.armBlkUpd, set_ceng, State.clrF, set_ceng]

theorem armRunClr_mem (s : State) (m : Nat) : (s.armRunClr m).mem = s.mem := by
  rw [State.armRunClr, State.armBlkUpd, set_mem, State.clrF, set_mem]

/-- With no auto-tune to abort STOP leaves memory. -/
theorem stop_mem (hs : s.Awake) (hf : s.dev.faultAt ≠ some s.time.cyc)
    (hp : s.on F.DEV_STATE_RUN_PEND = false) (hg : s.gst = .run) (ht : s.ceng.tune = none) :
    s.stop.mem = s.mem := by
  have hmem : ((s.goto .ready 1).armRunClr 0x3F).mem = s.mem :=
    (armRunClr_mem _ _).trans (goto_mem _ _ _)
  rw [stop_run hs hf hp hg, State.tuneCheck, armRunClr_ceng, goto_ceng, ht]
  exact hmem

end State

/-- The write of a command to DEV_CMD reaches the commands of the global state. -/
theorem hostW_devCmd {s : State} (hs : s.Awake) {c : Nat} (hc : c < 16) :
    s.hostW R.DEV_CMD.addr c = s.devCmd c := by
  have hc32 : c < 2 ^ 32 := by omega
  have hbus : R.DEV_CMD.addr ≠ R.ETH_STEP_CMD.addr := by decide
  rw [State.hostW_awake s hs rfl hc32, State.busW_eq_busW1 s (wholeWrite R.DEV_CMD.addr c) hbus,
    State.busW1_dev s c (by decide), State.wrDev, wholeWrite_a, if_pos rfl,
    wholeWrite_cmd _ hc32, Nat.mod_eq_of_lt hc]

theorem exec_goReady {s : State} (hs : s.Awake) :
    exec .goReady s = .next (s.cmdMark s.goReady) :=
  congrArg Host.Outcome.next (hostW_devCmd hs (by decide))

theorem exec_goRun {s : State} (hs : s.Awake) :
    exec .goRun s = .next (s.cmdMark s.goRun) :=
  congrArg Host.Outcome.next (hostW_devCmd hs (by decide))

theorem exec_stop {s : State} (hs : s.Awake) :
    exec .stop s = .next (s.cmdMark s.stop) :=
  congrArg Host.Outcome.next (hostW_devCmd hs (by decide))

theorem exec_goConfig {s : State} (hs : s.Awake) :
    exec .goConfig s = .next (s.cmdMark s.goConfig) :=
  congrArg Host.Outcome.next (hostW_devCmd hs (by decide))

theorem exec_forceSafeHold {s : State} (hs : s.Awake) :
    exec .forceSafeHold s = .next s.forceHold :=
  congrArg Host.Outcome.next (hostW_devCmd hs (by decide))

/-- Settles O25, command by command. -/
theorem deviceCommands : Obligations.DeviceCommands := by
  refine ⟨?ready, ?readyBad, ?run, ?stop, ?config, ?force, ?refused, ?fault⟩
  case ready =>
    intro s hs hfirst hg hp hok
    exact ⟨_, exec_goReady hs, State.cmdMark_entered (State.goReady_entered hs hfirst.1 hp hg hok)⟩
  case readyBad =>
    intro s u hs hfirst hg hp hbad
    rw [exec_goReady hs, State.goReady_refused hs hfirst.1 hp hg hbad]
  case run =>
    intro s hs hfirst hg hp
    rw [exec_goRun hs, State.goRun_judged hs hfirst.1 hp hg]
    exact ⟨fun hw => ⟨_, rfl, by rw [if_pos hw]⟩,
      fun hw => by rw [hw, if_neg Bool.false_ne_true]⟩
  case stop =>
    intro s hs hfirst
    refine ⟨fun hp => ?_, fun hp hg => ?_, fun hp hg => ?_⟩
    · rw [exec_stop hs]
      simp [State.stop, hs, hfirst.1, hp]
    · obtain ⟨⟨hgst, hprev, hreason⟩, harm⟩ := State.stop_entered hs hfirst.1 hp hg
      exact ⟨_, exec_stop hs, hgst, hprev, hreason, harm, State.stop_mem hs hfirst.1 hp hg⟩
    · rw [exec_stop hs]
      simp [State.stop, hs, hfirst.1, hp, hg]
  case config =>
    intro s hs hfirst hg hp
    exact ⟨_, exec_goConfig hs, State.cmdMark_entered (State.goConfig_entered hs hfirst.1 hp hg)⟩
  case force =>
    intro s hs hfirst
    rw [exec_forceSafeHold hs, State.Gives, exec_forceSafeHold hs]
    refine ⟨fun hg => ?_, fun hg hlive => ?_⟩
    · have hin := State.fatal_entered hs hg (reason := 6) (by decide)
      rw [State.cmdLost_of_first hfirst] at hin
      obtain ⟨hgst, hprev, hreason⟩ := hin
      exact ⟨s.fatal 6, congrArg _ (State.forceHold_pass hs hfirst.1 hg), hgst, hprev, hreason,
        State.fatal_armRun hg 6⟩
    · simp [State.forceHold, hs, hfirst.1, hg, hlive]
  case refused =>
    intro s hs hfirst c hc
    simp only [List.mem_cons, List.not_mem_nil, or_false] at hc
    rcases hc with rfl | rfl | rfl
    · rw [exec_goReady hs, State.goReady]
      refine ⟨fun hp => by rw [State.devGate_pending hs hfirst.1 hp], fun hp hg => ?_⟩
      rw [if_pos rfl] at hg
      rw [decide_eq_false hg, State.devGate_unfit hs hfirst.1 hp]
    · rw [exec_goRun hs, State.goRun]
      refine ⟨fun hp => by rw [State.devGate_pending hs hfirst.1 hp], fun hp hg => ?_⟩
      rw [if_neg (by decide)] at hg
      rw [decide_eq_false hg, State.devGate_unfit hs hfirst.1 hp]
    · rw [exec_goConfig hs, State.goConfig]
      refine ⟨fun hp => by rw [State.devGate_pending hs hfirst.1 hp], fun hp hg => ?_⟩
      rw [if_neg (by decide)] at hg
      rw [decide_eq_false hg, State.devGate_unfit hs hfirst.1 hp]
  case fault =>
    intro s hs hf
    refine ⟨fun c hc => ?_, by rw [exec_forceSafeHold hs]; simp [State.forceHold, hs, hf]⟩
    simp only [List.mem_cons, List.not_mem_nil, or_false] at hc
    rcases hc with rfl | rfl | rfl | rfl
    · rw [exec_goReady hs, State.goReady, State.devGate_fault hs hf]
    · rw [exec_goRun hs, State.goRun, State.devGate_fault hs hf]
    · rw [exec_goConfig hs, State.goConfig, State.devGate_fault hs hf]
    · rw [exec_stop hs]
      simp [State.stop, hs, hf]

/-! ## The start -/

/-- A reading of a list from which entries of other keys are taken. -/
theorem sget_filter_key {α : Type} (m : Sparse α) (d : α) (p : Nat → Bool) {k : Nat}
    (hk : p k = true) : sget (m.filter (fun e => p e.1)) d k = sget m d k := by
  induction m with
  | nil => rfl
  | cons e r ih =>
    obtain ⟨j, v⟩ := e
    by_cases hj : p j = true
    · rw [List.filter_cons_of_pos (by exact hj), sget, sget, ih]
    · have hne : ¬ j = k := fun h => hj (h ▸ hk)
      rw [List.filter_cons_of_neg (by exact hj), ih, sget, if_neg hne]

namespace State

variable {a : Nat} {s t u : State}

/-- The start has come to step k. -/
def atStep (s : State) (k : Nat) : State := { s with dev := { s.dev with step := k } }

section
variable (hs : s.Awake) (hb : s.gst = .boot) {ok : Bool} {hm : HostMem}
include hs hb

theorem startStep_selfTest (h : s.dev.step = 1) : s.startStep ok hm =
    if !s.on F.DEV_START_KIND && !ok then s.startFail 1 else s.atStep 2 := by
  rw [State.startStep, if_neg (by simp [hs, hb]), h]
  rfl

theorem startStep_clear (h : s.dev.step = 2) :
    s.startStep ok hm = (s.startClear (s.on F.DEV_START_KIND)).atStep 3 := by
  rw [State.startStep, if_neg (by simp [hs, hb]), h]
  rfl

theorem startStep_image (h : s.dev.step = 3) : s.startStep ok hm =
    if !ok then s.startFail 2 else s.startImage (s.on F.DEV_START_KIND) := by
  rw [State.startStep, if_neg (by simp [hs, hb]), h]
  rfl

theorem startStep_otp (h : s.dev.step = 4) : s.startStep ok hm = s.atStep 5 := by
  rw [State.startStep, if_neg (by simp [hs, hb]), h]
  rfl

theorem startStep_adc (h : s.dev.step = 5) :
    s.startStep ok hm = (s.startAdc (s.on F.DEV_START_KIND)).atStep 6 := by
  rw [State.startStep, if_neg (by simp [hs, hb]), h]
  rfl

theorem startStep_list (h : s.dev.step = 6) (hu : s.regListApply s.dev.regList = some u) :
    s.startStep ok hm = u.atStep 7 := by
  rw [State.startStep, if_neg (by simp [hs, hb]), h]
  simp only [hu]
  rfl

theorem startStep_badList (h : s.dev.step = 6) (hu : s.regListApply s.dev.regList = none) :
    s.startStep ok hm = s.startFail 4 := by
  rw [State.startStep, if_neg (by simp [hs, hb]), h]
  simp only [hu]

theorem startStep_walk (h : s.dev.step = 7) :
    s.startStep ok hm = (s.resetWalk hm).atStep 8 := by
  rw [State.startStep, if_neg (by simp [hs, hb]), h]
  rfl

theorem startStep_end (h : s.dev.step = 8) : s.startStep ok hm = s.startEnd := by
  unfold State.startStep
  rw [if_neg (by simp [hs, hb])]
  simp only [h]

end

/-! ### The image and the memories -/

theorem startClear_dawn (s : State) :
    (s.startClear false).mem = [] ∧ (s.startClear false).synd = [] := ⟨rfl, rfl⟩

theorem startImage_runs {noon load : Bool} {k : Nat}
    (h : s.pickImage noon = (.run k load, u)) : (s.startImage noon).dev.step = 4 := by
  unfold State.startImage
  simp only [h]

theorem startImage_none {noon : Bool} (h : s.pickImage noon = (.noImage, u)) :
    s.startImage noon = u.startFail 3 := by
  unfold State.startImage
  simp only [h]

/-! ### The converters (R496) -/

/-- A rotation writes the status of its converter and the factors of one of its slices. -/
theorem calRotate_keeps {c : Nat} (hst : (R.ADC_STAT c).addr ≠ a)
    (hf : ∀ k, k < 8 → (R.ADC_FACT c k).addr ≠ a) (s : State) (v : Nat) :
    Keeps a s (s.calRotate c v) := by
  have hk : s.get (F.ADC_STAT_SPARE c) < 8 := Nat.mod_lt _ (Nat.two_pow_pos 3)
  unfold State.calRotate
  split
  · exact .refl a s
  extract_lets k s1 s2 n x s3
  have hfact : Keeps a s s1 := .set (.refl a s) (hf k hk)
  have hspare : Keeps a s s2 := hfact.set hst
  have hcv : Keeps a s s3 := hspare.same rfl rfl
  refine .ite (.foldl _ (fun t _ _ => .ite (.same (.refl a t) rfl rfl) (.refl a t)) ?_) hcv
  exact hcv.set hst

/-- A converter that was MEAS before the reset is marked stale, any other goes round its slices. -/
theorem startAdc_keeps (hst : ∀ c, (R.ADC_STAT c).addr ≠ a)
    (hf : ∀ c, c < 8 → bit s.dev.meas c = false → ∀ k, k < 8 → (R.ADC_FACT c k).addr ≠ a)
    (noon : Bool) : Keeps a (s.flag F.ADC_REF_REF_OK) (s.startAdc noon) := by
  refine .ite (.refl a _) (.foldl_from _ (fun t ht c hc => ?_) (.refl a _))
  have hmeas : t.dev.meas = s.dev.meas := by
    rw [ht.1]
    rfl
  rw [hmeas]
  by_cases hm : bit s.dev.meas c = true
  · rw [if_pos hm]
    exact .set (.refl a t) (hst c)
  · rw [if_neg hm]
    have hrot := hf c (List.mem_range.mp hc) (Bool.not_eq_true _ ▸ hm)
    refine .foldl _ (fun v _ _ => ?_) (.refl a t)
    exact .trans (t := v.fresh.2) (.same (.refl a v) rfl rfl) (calRotate_keeps (hst c) hrot _ _)

theorem startAdc_refOk (s : State) (noon : Bool) :
    (s.startAdc noon).on F.ADC_REF_REF_OK = true := by
  have hst (c : Nat) : (R.ADC_STAT c).addr ≠ R.ADC_REF.addr := by
    have h1 : (R.ADC_STAT c).addr = 0xa010c + 0x40 * c := rfl
    have h2 : R.ADC_REF.addr = 0xa0008 := rfl
    omega
  have hf (c k : Nat) : (R.ADC_FACT c k).addr ≠ R.ADC_REF.addr := by
    have h1 : (R.ADC_FACT c k).addr = 0xa0110 + 0x40 * c + 0x4 * k := rfl
    have h2 : R.ADC_REF.addr = 0xa0008 := rfl
    omega
  have hkeep := startAdc_keeps (s := s) hst (fun c _ _ k _ => hf c k) noon
  rw [State.on, hkeep.get F.ADC_REF_REF_OK rfl, State.flag,
    get_set _ F.ADC_REF_REF_OK _ (by decide)]
  rfl

/-- The factors of a converter that was MEAS stay (notes/assumptions/79.md). -/
theorem startAdc_factors {c k : Nat} (hk : k < 5) (hm : bit s.dev.meas c = true) (noon : Bool) :
    (s.startAdc noon).get (R.ADC_FACT c k) = s.get (R.ADC_FACT c k) := by
  have hfact (c k : Nat) : (R.ADC_FACT c k).addr = 0xa0110 + 0x40 * c + 0x4 * k := rfl
  have hst (b : Nat) : (R.ADC_STAT b).addr ≠ (R.ADC_FACT c k).addr := by
    have h1 : (R.ADC_STAT b).addr = 0xa010c + 0x40 * b := rfl
    rw [h1, hfact]
    omega
  have hf (b : Nat) (hb : bit s.dev.meas b = false) (j : Nat) (hj : j < 8) :
      (R.ADC_FACT b j).addr ≠ (R.ADC_FACT c k).addr := by
    have hne : b ≠ c := fun h => by simp [h, hm] at hb
    rw [hfact, hfact]
    omega
  have hkeep := startAdc_keeps hst (fun b _ hb j hj => hf b hb j hj) noon
  rw [hkeep.get _ rfl, State.flag, get_set_ne _ _ _ _ ?_]
  have h2 : F.ADC_REF_REF_OK.addr = 0xa0008 := rfl
  rw [hfact, h2]
  omega

/-! ### The end of the start -/

/-- A completed start stands in CONFIG with REASON 7 and counts no failure (R547, R548). -/
theorem startEnd_entered (hs : s.Awake) :
    s.startEnd.Entered .config (s.get F.DEV_STATE_STATE) 7 ∧
      s.startEnd.get F.DEV_START_FAILS = 0 ∧ s.startEnd.dev.prevDone = true ∧
      s.startEnd.dev.step = 0 := by
  unfold State.startEnd
  extract_lets s1 s2 d s3 s4 s5
  have hend {a : Nat} (q : Quiet a) : Keeps a s3 s5 :=
    .foldl _ (fun _ _ _ => strFlags_keeps q _ _) (.when (.refl a s3) (.same (.refl a s3) rfl rfl))
  have hstate : s5.get F.DEV_STATE_STATE = s.get F.DEV_STATE_STATE := by
    rw [(hend quiet_devState).get F.DEV_STATE_STATE rfl]
    exact (get_set_ne _ _ _ _ (by decide)).trans (get_set_ne _ _ _ _ (by decide))
  have hfails : s3.get F.DEV_START_FAILS = 0 := by
    have h2 : s2.get F.DEV_START_FAILS = s1.get F.DEV_START_FAILS :=
      get_set_apart _ F.DEV_START_TIME F.DEV_START_FAILS _ (by decide) ⟨rfl, rfl, by decide⟩
    exact h2.trans (get_set _ F.DEV_START_FAILS _ (by decide))
  have hgoto := (hend quiet_devStart).trans
    (goto_keeps quiet_devStart (by decide) s5 .config 7)
  have hin := goto_entered ((hend quiet_devState).awake (t := s5) hs) (g := .config)
    ⟨by decide, by decide⟩ (reason := 7) (by decide)
  refine ⟨hstate ▸ hin, (hgoto.get F.DEV_START_FAILS rfl).trans hfails, ?_, ?_⟩
  · rw [hgoto.1]
  · rw [hgoto.1]

/-! ### A start that fails (R548, R549) -/

/-- The failure as DEV_START shows it. -/
def startFailed (s : State) (code : Nat) : State :=
  (s.set F.DEV_START_FCODE code).set F.DEV_START_FAILS (min 3 (s.get F.DEV_START_FAILS + 1))

theorem startFailed_code {code : Nat} (h : code < 32) :
    (s.startFailed code).get F.DEV_START_FCODE = code := by
  rw [startFailed,
    get_set_apart _ F.DEV_START_FAILS F.DEV_START_FCODE _ (by decide) ⟨rfl, rfl, by decide⟩,
    get_set _ F.DEV_START_FCODE _ (by decide)]
  exact Nat.mod_eq_of_lt h

theorem startFailed_count (h : s.get F.DEV_START_FAILS < 2) (code : Nat) :
    (s.startFailed code).get F.DEV_START_FAILS = s.get F.DEV_START_FAILS + 1 := by
  rw [startFailed, get_set _ F.DEV_START_FAILS _ (by decide)]
  show min 3 (s.get F.DEV_START_FAILS + 1) % 4 = _
  omega

theorem startFail_third (h : 2 ≤ s.get F.DEV_START_FAILS) (code : Nat) :
    s.startFail code = ((s.startFailed code).atStep 0).safeHold 2 := by
  rw [State.startFail]
  exact if_pos h

theorem startFail_reset (h : s.get F.DEV_START_FAILS < 2) (code : Nat) :
    s.startFail code = (s.startFailed code).enterReset 3 false := by
  rw [State.startFail]
  exact if_neg (Nat.not_le.mpr h)

/-- A write of the commit record shows in DEV_IMG alone. -/
theorem commitRec_keeps (ha : R.DEV_IMG.addr ≠ a) (s : State) (k : Nat) :
    Keeps a s (s.commitRec k) := by
  have hrec (x : CRec) (c n : Nat) (b : Bytes) :
      Keeps a s { (s.flWr c b).showRec x with free := n } := by
    refine .same (t := (s.flWr c b).showRec x) (.set (.set ?_ ?_) ?_) rfl rfl
    exacts [.same (.refl a s) rfl rfl, ha, ha]
  unfold State.commitRec State.writeRec
  dsimp only
  exact hrec _ _ _ _

/-- What a reset cuts off shows in PAIR_STAT and DEV_IMG alone. -/
theorem resetCut_keeps (q : Quiet a) (ha : R.DEV_IMG.addr ≠ a) (s : State) :
    Keeps a s (((s.dropAct).otpCut).retCut).imgCut := by
  have hotp (t : State) : Keeps a t t.otpCut := by
    unfold State.otpCut
    split
    · exact .refl a t
    · exact .same (.refl a t) rfl rfl
  have hret (t : State) : Keeps a t t.retCut := by
    unfold State.retCut
    split
    · exact .refl a t
    · exact .same (.refl a t) rfl rfl
  have himg (t : State) : Keeps a t t.imgCut := by
    refine .foldl _ (fun u r _ => ?_) (.refl a t)
    split
    · refine .when (t := u.fresh.2) (.same (.refl a u) rfl rfl) (commitRec_keeps ha _ _)
    · exact .refl a u
  exact (((dropAct_keeps q s).trans (hotp _)).trans (hret _)).trans (himg _)

/-- DEV_RST_CAUSE shows the cause of the RESET (R544). -/
theorem rstCause_shown (s : State) {cause : Nat} (hc : cause < 8) (v : Nat) :
    ((s.set F.DEV_RST_CAUSE_CAUSE cause).set F.DEV_RST_CAUSE_DAWN_REQ v).get
      F.DEV_RST_CAUSE_CAUSE = cause := by
  rw [get_set_apart _ F.DEV_RST_CAUSE_DAWN_REQ F.DEV_RST_CAUSE_CAUSE _ (by decide)
    ⟨rfl, rfl, by decide⟩, get_set _ F.DEV_RST_CAUSE_CAUSE _ (by decide)]
  exact Nat.mod_eq_of_lt hc

theorem rstCause_keeps (ha : R.DEV_RST_CAUSE.addr ≠ a) (s : State) (cause v : Nat) :
    Keeps a s ((s.set F.DEV_RST_CAUSE_CAUSE cause).set F.DEV_RST_CAUSE_DAWN_REQ v) := by
  refine .set (.set (.refl a s) ?_) ?_
  exacts [ha, ha]

/-- RESET is entered with its cause; of the registers that it keeps DEV_START is one (R544,
R548). -/
theorem enterReset_shows (s : State) {cause : Nat} (hc : cause < 8) (dawn : Bool) :
    (s.enterReset cause dawn).gst = .reset ∧
      (s.enterReset cause dawn).get F.DEV_RST_CAUSE_CAUSE = cause ∧
      ∀ f : Fld, f.addr = R.DEV_START.addr → (s.enterReset cause dawn).get f = s.get f := by
  have hcut := resetCut_keeps quiet_devStart (by decide) s
  unfold State.enterReset
  extract_lets s1 cal meas h l d t0 t1 t2
  have hreset : t0.dev.inReset = true := rfl
  have hregs : t0.regs = s1.regs.filter (fun p => keepReg p.1) := rfl
  clear_value t0
  have hcause : Keeps R.DEV_START.addr t0 t1 := rstCause_keeps (by decide) _ _ _
  have hrings {a : Nat} (q : Quiet a) : Keeps a t1 t2 := by
    refine .foldl _ (fun u r hr => ?_) (.refl a t1)
    have hring := loud_ring (base := 0x21018) (by decide) (List.mem_range.mp hr)
    refine .ite (.refl a u) (.put q (.put q (.refl a u) ?_) ?_)
    exacts [hring, hring]
  have hcal {a : Nat} (q : Quiet a) :
      Keeps a t2 (cal.foldl (fun u c => u.flag (F.ADC_STAT_CAL_ABORT c)) t2) :=
    .foldl _ (fun u c _ => .put q (.refl a u) (loud_family (base := 0xa010c) _ (by decide)))
      (.refl a t2)
  have hstart := hcause.trans ((hrings quiet_devStart).trans (hcal quiet_devStart))
  have qcause : Quiet R.DEV_RST_CAUSE.addr := .inl (by decide)
  have hshown := (hrings qcause).trans (hcal qcause)
  refine ⟨?_, ?_, fun f hf => ?_⟩
  · rw [State.gst, hstart.1, if_pos hreset]
  · exact (hshown.get F.DEV_RST_CAUSE_CAUSE rfl).trans (rstCause_shown t0 hc _)
  · have hfilter : t0.get f = s1.get f := by
      rw [State.get, State.get, State.word, State.word, hf, hregs,
        sget_filter_key _ _ keepReg (by decide)]
    exact (hstart.get f hf).trans (hfilter.trans (hcut.get f hf))

/-- The third failed start in a row ends in SAFE_HOLD with REASON 2 (R549). -/
theorem startFail_holds (hs : s.Awake) (h : 2 ≤ s.get F.DEV_START_FAILS) (code : Nat) :
    (s.startFail code).gst = .safeHold ∧ (s.startFail code).get F.DEV_STATE_REASON = 2 := by
  rw [startFail_third h]
  obtain ⟨hgst, -, hreason⟩ :=
    safeHold_entered (s := (s.startFailed code).atStep 0) hs (reason := 2) (by decide)
  exact ⟨hgst, hreason⟩

/-- A failed start before it enters RESET with cause 3, its code and one failure more (R548). -/
theorem startFail_resets (h : s.get F.DEV_START_FAILS < 2) {code : Nat} (hc : code < 32) :
    (s.startFail code).gst = .reset ∧ (s.startFail code).get F.DEV_RST_CAUSE_CAUSE = 3 ∧
      (s.startFail code).get F.DEV_START_FCODE = code ∧
      (s.startFail code).get F.DEV_START_FAILS = s.get F.DEV_START_FAILS + 1 := by
  rw [startFail_reset h]
  obtain ⟨hgst, hcause, hstart⟩ :=
    enterReset_shows (s.startFailed code) (cause := 3) (by decide) false
  exact ⟨hgst, hcause, (hstart F.DEV_START_FCODE rfl).trans (startFailed_code hc),
    (hstart F.DEV_START_FAILS rfl).trans (startFailed_count h code)⟩

/-- 10 ms without a usable reference: the PLL has lost its lock, and SAFE_HOLD is entered
(R35). -/
theorem refExpiry_holds (hs : s.Awake) (hf : s.FirstOfCycle)
    (hnone : s.on F.TIME_STATUS_REF_NONE = true) (hg : s.gst = .config ∨ s.live = true) :
    s.refExpiry.gst = .safeHold ∧ s.refExpiry.get F.DEV_STATE_REASON = 5 ∧
      s.refExpiry.on F.TIME_STATUS_PLL_LOCK = false := by
  have hkeep : Keeps R.DEV_STATE.addr s (s.set F.TIME_STATUS_PLL_LOCK 0) :=
    .set (.refl _ s) (by decide)
  have hg' : (s.set F.TIME_STATUS_PLL_LOCK 0).gst = .config ∨
      (s.set F.TIME_STATUS_PLL_LOCK 0).live = true := by
    rw [State.live, hkeep.gst]
    exact hg
  rw [State.refExpiry, if_pos hnone]
  obtain ⟨hgst, -, hreason⟩ := fatal_entered (hkeep.awake hs) hg' (reason := 5) (by decide)
  have hlock := fatal_timeStatus (s := s.set F.TIME_STATUS_PLL_LOCK 0)
    (f := F.TIME_STATUS_PLL_LOCK) hf hg' 5 rfl
  refine ⟨hgst, hreason, ?_⟩
  rw [State.on, hlock, get_set _ F.TIME_STATUS_PLL_LOCK _ (by decide)]
  rfl

end State

/-- START_STEP_DONE shows the host memory and ends the step in progress (R547). -/
theorem exec_startStepDone (s : State) (ok : Bool) (hm : HostMem) :
    exec (.startStepDone ok hm) s = .next ((s.see hm).startStep ok hm) := rfl

/-- Settles O28: the steps one by one, then the failures and the faults. -/
theorem startStepsAndFaults : Obligations.StartStepsAndFaults := by
  refine ⟨?steps, ?limit, ?fail, ?stall, ?expiry⟩
  case steps =>
    intro s0 ok hm s hsee hs0 hb0
    have hs : s.Awake := by
      rw [hsee]
      exact hs0
    have hb : s.gst = .boot := by
      rw [hsee]
      exact hb0
    have hexec : exec (.startStepDone ok hm) s0 = .next (s.startStep ok hm) := by
      rw [hsee, exec_startStepDone]
    simp only [State.Gives, hexec]
    refine ⟨?selfTest, ?selfTestFails, ?clear, ?silent, ?image, ?noImage, ?otp, ?adc, ?list,
      ?badList, ?walk, ?done⟩
    case selfTest =>
      intro h hok
      rw [State.startStep_selfTest hs hb h, if_neg (by rcases hok with hk | hk <;> simp [hk])]
      rfl
    case selfTestFails =>
      intro h hk hok
      rw [State.startStep_selfTest hs hb h, if_pos (by simp [hk, hok])]
    case clear =>
      intro h
      rw [State.startStep_clear hs hb h]
      exact ⟨_, rfl, rfl, fun hk => hk ▸ State.startClear_dawn s⟩
    case silent =>
      intro h hok
      rw [State.startStep_image hs hb h, if_pos (by simp [hok])]
    case image =>
      intro h hok k load u hpick
      rw [State.startStep_image hs hb h, if_neg (by simp [hok])]
      exact ⟨_, rfl, State.startImage_runs hpick⟩
    case noImage =>
      intro h hok u hpick
      rw [State.startStep_image hs hb h, if_neg (by simp [hok]), State.startImage_none hpick]
    case otp =>
      intro h
      rw [State.startStep_otp hs hb h]
      rfl
    case adc =>
      intro h
      rw [State.startStep_adc hs hb h]
      exact ⟨_, rfl, rfl, State.startAdc_refOk s _,
        fun c _ hm k hk => State.startAdc_factors hk hm _⟩
    case list =>
      intro h u hu
      rw [State.startStep_list hs hb h hu]
      rfl
    case badList =>
      intro h hu
      rw [State.startStep_badList hs hb h hu]
    case walk =>
      intro h
      rw [State.startStep_walk hs hb h]
      exact ⟨_, rfl, rfl⟩
    case done =>
      intro h
      rw [State.startStep_end hs hb h]
      obtain ⟨⟨hgst, -, hreason⟩, hfails, hdone, hstep⟩ := State.startEnd_entered hs
      exact ⟨_, rfl, hgst, hreason, hfails, hdone, hstep⟩
  case limit =>
    intro s hs hb
    refine congrArg Host.Outcome.next (if_pos ?_)
    simp [hs, hb]
  case fail =>
    exact fun s code hs _ hc =>
      ⟨fun h => State.startFail_holds hs h code, fun h => State.startFail_resets h hc⟩
  case stall =>
    intro s hs hpe hg
    obtain ⟨hgst, -, hreason⟩ := State.fatal_entered hs hg (reason := 3) (by decide)
    refine ⟨s.fatal 3, congrArg Host.Outcome.next (if_pos ?_), hgst, hreason⟩
    simp [hs, hpe]
  case expiry =>
    exact fun s hs hf hnone hg => ⟨_, rfl, State.refExpiry_holds hs hf hnone hg⟩

end Sys2Proof.Machine
end

section
/-! SUPPORT. Writes of TIME by an origin; what completions of descriptors leave alone; the
timed-write queue; the passage of time up to an apply instant. Then what
02_period_and_station_time.md has settled: SnapshotShowsTheInstant, TimedWritesQueueAndFire,
PeriodEngineRuns, and the refutations of ReferencesAreLostAndReturn and
ConvertersSampleAndCalibrate. -/

namespace Sys2Proof.Machine

open Sys2Proof

/-- A part outside RESET whose PLL lock has been declared failed: reference B is in use and both
references are valid again, but without the lock neither clears REF_NONE (R35). -/
def lockLost : State :=
  ((({ State.reset with dev := { State.reset.dev with inReset := false } }.set
    F.TIME_STATUS_REF_B_OK 1).set F.TIME_STATUS_REF_ACT 1).set F.TIME_STATUS_REF_NONE 1)

theorem lockLost_refB_usable : lockLost.refUsable 1 = true := by decide

/-- Refutes O29: once the PLL lock has been declared failed a loss shows in its OK bit alone, so
REF_NONE stays set although the other reference may be used. -/
theorem not_referencesAreLostAndReturn : ¬ Obligations.ReferencesAreLostAndReturn := by
  rintro ⟨hloss, -⟩
  obtain ⟨t, hexec, -, -, -, hother, -⟩ := hloss lockLost 0 (by decide) (by decide)
  have ht : t = lockLost.refLoss 0 := by
    injection hexec with h
    exact h.symm
  have hnone : t.on F.TIME_STATUS_REF_NONE = true := by
    rw [ht]
    decide
  obtain ⟨-, hclear⟩ := hother (by decide) lockLost_refB_usable
  rw [hnone] at hclear
  exact absurd hclear (by decide)

/-! ## Writes of TIME by an origin -/

/-- The direct write of all 32 bits that an origin makes at an offset (R58). -/
def originWrite (org a data : Nat) : BusWr :=
  { a := a, mask := 0xFFFFFFFF, data := data, org := org, via := .direct }

/-- A command field takes the data of an origin's write as they are. -/
theorem originWrite_cmd (org a : Nat) {data : Nat} (h : data < 2 ^ 32) :
    (originWrite org a data).cmd = data :=
  (Nat.and_two_pow_sub_one_eq_mod data 32).trans (Nat.mod_eq_of_lt h)

@[simp] theorem originWrite_a (org a data : Nat) : (originWrite org a data).a = a := rfl
@[simp] theorem originWrite_org (org a data : Nat) : (originWrite org a data).org = org := rfl

/-- Outside RESET the write of an origin in TIME reaches TIME. -/
theorem State.orgW_time {s : State} (hs : s.Awake) (org : Nat) {a data : Nat}
    (ha : a / 0x10000 = 1) (hd : data < 2 ^ 32) :
    s.orgW org a data = s.wrTime (originWrite org a data) := by
  have hstep : (originWrite org a data).a ≠ R.ETH_STEP_CMD.addr := by
    rintro rfl
    exact absurd ha (by decide)
  rw [State.orgW, hs, Nat.mod_eq_of_lt hd]
  change s.busW (originWrite org a data) = _
  rw [State.busW_eq_busW1 s _ hstep]
  simp [State.busW1, ha, below_lanes_of_block ha (by decide)]

/-- A copy of a register lies at no offset of another register of the block, whatever the
origin. -/
theorem Fld.of_addr_ne {f g : Fld} (org : Nat)
    (h : f.addr % Config.originStride ≠ g.addr % Config.originStride) : (f.of org).addr ≠ g.addr := by
  intro he
  apply h
  rw [← he, Fld.of, Nat.add_mul_mod_self_left]

theorem Fld.of_addr_of_ne {f g : Fld} (org : Nat) (h : f.addr ≠ g.addr) :
    (f.of org).addr ≠ (g.of org).addr := fun he => h (Nat.add_right_cancel he)

/-- The copy that an origin has of a whole register reads what was written to it. -/
theorem State.get_set_of (s : State) (f : Fld) (org v : Nat) (hlo : f.lo = 0) (hw : f.w = 32) :
    (s.set (f.of org) v).get (f.of org) = v % 2 ^ 32 := by
  rw [State.get_set s (f.of org) v (by simp [Fld.of, hlo, hw])]
  simp [Fld.of, hw]

/-- An origin's copy of another register stays. -/
theorem State.get_set_of_ne (s : State) (f g : Fld) (org v : Nat) (h : g.addr ≠ f.addr) :
    (s.set (f.of org) v).get (g.of org) = s.get (g.of org) :=
  State.get_set_ne s _ _ v (Fld.of_addr_of_ne org h)

/-- A write of a listed register keeps all but the listed ones. -/
theorem RegsOnly.set {as : List Nat} {s t : State} (h : RegsOnly as s t) {f : Fld} (v : Nat)
    (hf : f.addr ∈ as) : RegsOnly as s (t.set f v) := by
  obtain ⟨hrest, hregs⟩ := h
  refine ⟨?_, fun a ha d => ?_⟩
  · rw [hrest]
    rfl
  · exact (sget_sput_ne t.regs _ d _ (by rintro rfl; exact ha hf)).trans (hregs a ha d)

/-! ## Snapshots -/

/-- The period engine runs or not, whatever an origin's copies of the TIME registers hold. -/
theorem State.peRun_set_of (s : State) (f : Fld) (org v : Nat)
    (h : f.addr % Config.originStride ≠ R.TIME_STATUS.addr) : (s.set (f.of org) v).peRun = s.peRun := by
  rw [State.peRun, State.peRun, State.on, State.on,
    State.get_set_ne s (f.of org) F.TIME_STATUS_PE_RUN v (Fld.of_addr_ne org h).symm]

/-- TAKE by an origin takes its snapshot (R579). -/
theorem exec_timeSnap {s : State} (hs : s.Awake) {org : Nat} (h : org < 18) :
    exec (.timeSnap org) s = .next (s.snap org) := by
  change gate (okOrigin org) (s.orgW org R.TIME_SNAP.addr 1) = _
  rw [gate, if_pos (show okOrigin org = true from decide_eq_true h),
    State.orgW_time hs org (by decide) (by decide), State.wrTime, originWrite_a, if_neg (by decide),
    if_neg (by decide), if_pos rfl, originWrite_cmd _ _ (by decide)]
  rfl

/-- What a snapshot leaves in the copies of its origin: seven whole registers. -/
theorem State.snap_eq (s : State) (org : Nat) : s.snap org =
    ((((((s.set (R.TIME_SNAP_FRAC.of org) (s.time.frac % 65536)).set (R.TIME_SNAP_NS.of org)
      s.time.ns).set (R.TIME_SNAP_SEC_LO.of org) (s.time.sec % 2 ^ 32)).set
      (R.TIME_SNAP_SEC_HI.of org) (s.time.sec / 2 ^ 32)).set (R.TIME_SNAP_PIDX_LO.of org)
      ((if s.peRun then s.time.pidx else 0) % 2 ^ 32)).set (R.TIME_SNAP_PIDX_HI.of org)
      ((if s.peRun then s.time.pidx else 0) / 2 ^ 32)).set (R.TIME_SNAP_POFS.of org)
      ((if s.peRun then s.time.pofs else 0) % 65536 + 65536 * b2n (!s.peRun)) := by
  simp (disch := decide) only [State.snap, State.peRun_set_of]

/-- A snapshot changes the copies of its origin alone. -/
theorem State.snap_regsOnly (s : State) (org : Nat) :
    RegsOnly [(R.TIME_SNAP_FRAC.of org).addr, (R.TIME_SNAP_NS.of org).addr,
      (R.TIME_SNAP_SEC_LO.of org).addr, (R.TIME_SNAP_SEC_HI.of org).addr,
      (R.TIME_SNAP_PIDX_LO.of org).addr, (R.TIME_SNAP_PIDX_HI.of org).addr,
      (R.TIME_SNAP_POFS.of org).addr] s (s.snap org) := by
  rw [State.snap_eq]
  refine .set (.set (.set (.set (.set (.set (.set (.refl _ s) _ ?_) _ ?_) _ ?_) _ ?_) _ ?_) _ ?_) _ ?_
  all_goals simp only [List.mem_cons, true_or, or_true]

/-- Settles O30: each copy is written once, with the part of the instant that it shows. -/
theorem snapshotShowsTheInstant : Obligations.SnapshotShowsTheInstant := by
  intro s org horg hs hfrac hns hsec hpidx
  refine ⟨_, exec_timeSnap hs horg, ?_, ?_, ?_, ?_, ?_, ?_, ?_, s.snap_regsOnly org⟩
  all_goals
    rw [State.snap_eq]
    simp (disch := decide) only [State.get_set_of, State.get_set_of_ne]
  · omega
  · omega
  · omega
  · omega
  · split <;> omega
  · split <;> omega
  · cases s.peRun
    · simp [b2n]
    · simp only [b2n, Bool.not_true, if_true, Bool.false_eq_true, if_false]
      omega

/-! ## What completions and frames leave alone -/

/-- t stands at the station time of s, with its device, its DEV and TIME registers, its role and its
staged transactions. -/
structure State.Still (s t : State) : Prop where
  time : t.time = s.time
  dev : t.dev = s.dev
  low : ∀ a, a < 0x20000 → ∀ d, sget t.regs d a = sget s.regs d a
  role : t.get F.PAIR_STAT_ROLE = s.get F.PAIR_STAT_ROLE
  txns : t.host.txns = s.host.txns

/-- A write of the field leaves the role: it lies in another register than PAIR_STAT, or above the
role's three bits in a register that resets with these at 0. -/
abbrev Fld.OffRole (f : Fld) : Prop :=
  f.addr ≠ R.PAIR_STAT.addr ∨ 3 ≤ f.lo ∧ f.lo + f.w ≤ 32 ∧ f.rst % 8 = 0

/-- A field behind DEV and TIME whose write leaves the role. -/
abbrev Fld.Behind (f : Fld) : Prop := 0x20000 ≤ f.addr ∧ f.OffRole

/-- What is not listed reads its default, what is listed does not depend on it. -/
theorem sget_default {α : Type} (m : Sparse α) (d e : α) (k : Nat) :
    sget m d k = sget m e k ∨ (sget m d k = d ∧ sget m e k = e) := by
  induction m with
  | nil => exact .inr ⟨rfl, rfl⟩
  | cons p r ih =>
    obtain ⟨j, v⟩ := p
    by_cases h : j = k
    · simp [sget, h]
    · simpa [sget, h] using ih

/-- The low bits of a register do not depend on which reset value it is read with, where these agree
in them. -/
theorem bits_sget_default (m : Sparse Word) (d e : Word) (k w : Nat)
    (h : bits d.toNat 0 w = bits e.toNat 0 w) :
    bits (sget m d k).toNat 0 w = bits (sget m e k).toNat 0 w := by
  rcases sget_default m d e k with hk | ⟨hd, he⟩
  · rw [hk]
  · rw [hd, he, h]

namespace State

variable {s t u : State}

/-- A write above the three lowest bits of a register that resets with these at 0 leaves the role,
whichever register it is. -/
theorem role_set (s : State) (f : Fld) (v : Nat) (h : f.OffRole) :
    (s.set f v).get F.PAIR_STAT_ROLE = s.get F.PAIR_STAT_ROLE := by
  by_cases ha : f.addr = R.PAIR_STAT.addr
  · obtain ⟨hlo, hfit, hrst⟩ := h.resolve_left (not_not_intro ha)
    have hreset : bits (BitVec.ofNat 32 0x170000).toNat 0 3 = bits (BitVec.ofNat 32 f.rst).toNat 0 3 := by
      simp only [bits, BitVec.toNat_ofNat, Nat.shiftRight_zero]
      omega
    have hread (x : State) : x.get F.PAIR_STAT_ROLE = bits (x.word f) 0 3 := by
      rw [State.get, State.word, State.word, ha]
      exact bits_sget_default x.regs _ _ _ 3 hreset
    rw [hread, hread, State.word_set s f v hfit, bits_setBits_apart _ _ _ _ _ _ (by omega)]
  · exact get_set_ne s f _ v (Ne.symm ha)

theorem Still.refl (s : State) : Still s s := ⟨rfl, rfl, fun _ _ _ => rfl, rfl, rfl⟩

theorem Still.trans (h : Still s t) (k : Still t u) : Still s u :=
  ⟨k.time.trans h.time, k.dev.trans h.dev, fun a ha d => (k.low a ha d).trans (h.low a ha d),
    k.role.trans h.role, k.txns.trans h.txns⟩

/-- What shares the registers, the time, the device and the staged transactions stands still. -/
theorem Still.same (h : Still s t) (hr : u.regs = t.regs) (ht : u.time = t.time)
    (hd : u.dev = t.dev) (hx : u.host.txns = t.host.txns) : Still s u :=
  h.trans ⟨ht, hd, fun _ _ _ => by rw [hr], get_congr_regs _ hr, hx⟩

theorem Still.set (h : Still s t) {f : Fld} {v : Nat} (hf : f.Behind) : Still s (t.set f v) :=
  h.trans ⟨rfl, rfl, fun a ha d => sget_sput_ne t.regs _ d _ (by omega), role_set t f v hf.2, rfl⟩

theorem Still.ite {c : Prop} [Decidable c] (ht : Still s t) (hu : Still s u) :
    Still s (if c then t else u) := by
  split
  · exact ht
  · exact hu

theorem Still.when (h : Still s t) {c : Bool} {f : State → State} (hf : Still t (f t)) :
    Still s (t.when c f) :=
  State.when_of t c f (Still s) h (h.trans hf)

/-- A fold stands still where each of its steps does. -/
theorem Still.foldl {α : Type} {f : State → α → State} (l : List α)
    (hf : ∀ t, ∀ x ∈ l, Still t (f t x)) (h : Still s t) : Still s (l.foldl f t) := by
  induction l generalizing t with
  | nil => exact h
  | cons x r ih =>
    exact ih (fun t y hy => hf t y (List.mem_cons_of_mem x hy))
      (h.trans (hf t x (List.mem_cons_self ..)))

/-- A field of DEV or TIME reads the same. -/
theorem Still.get (h : Still s t) (f : Fld) (hf : f.addr < 0x20000) : t.get f = s.get f := by
  rw [State.get, State.get, State.word, State.word, h.low _ hf]

/-! ### Messages, events, fault records -/

theorem msi_still (s : State) (v : Nat) : Still s (s.msi v) :=
  .ite (.same (.refl s) rfl rfl rfl rfl) (.ite (.refl s) (.same (.refl s) rfl rfl rfl rfl))

theorem evt_still (s : State) (e : Evt) : Still s (s.evt e) := by
  have hset : Still s (s.set R.HOST_EVT_CAUSE (setBit (s.word R.HOST_EVT_CAUSE) e.bit true)) :=
    .set (.refl s) (by decide)
  exact .ite (hset.trans (msi_still _ _)) hset

/-- A register at or above MEM is behind DEV and TIME and is not PAIR_STAT. -/
theorem behind_mem {f : Fld} (h : 0xe0000 ≤ f.addr) : f.Behind := by
  have : R.PAIR_STAT.addr = 0xd000c := rfl
  exact ⟨by omega, .inl (by omega)⟩

theorem faultRec_still (s : State) (kind cls req detail addr aux : Nat) :
    Still s (s.faultRec kind cls req detail addr aux) := by
  have hlog (e k : Nat) : (R.MEM_FLOG e k).Behind :=
    behind_mem (show 0xe0000 ≤ 0xe0400 + 0x10 * e + 0x4 * k by omega)
  unfold State.faultRec
  extract_lets e s1 s2 s3 s4 s5 s6 s7
  have hovf : Still s s1 := .when (.refl s) (.set (.refl s) (by decide))
  have hwords : Still s s5 :=
    (((hovf.set (hlog e 0)).set (hlog e 1)).set (hlog e 2)).set (hlog e 3)
  have hidx : Still s s6 := (hwords.set (by decide)).set (by decide)
  clear_value s6
  refine .trans ?_ (evt_still _ _)
  exact hidx.same rfl rfl rfl rfl

theorem orFree_still (s : State) (w : Nat) (o : Option Nat) : Still s (s.orFree w o).2 := by
  cases o <;> exact .same (.refl s) rfl rfl rfl rfl

theorem faultLog_still (s : State) (kind : Nat) (cls req detail addr aux : Option Nat) :
    Still s (s.faultLog kind cls req detail addr aux) :=
  ((((orFree_still s 3 cls).trans (orFree_still _ 8 req)).trans (orFree_still _ 8 detail)).trans
    (orFree_still _ 32 addr)).trans ((orFree_still _ 32 aux).trans (faultRec_still _ _ _ _ _ _ _))

/-! ### Writes to host memory -/

theorem xfault_still (s : State) (k : XFault) (write : Bool) (req iova : Nat) :
    Still s (s.xfault k write req iova) := by
  unfold State.xfault
  refine .trans (.set (.ite (.refl s) ?_) (by decide)) (faultLog_still _ _ _ _ _ _ _)
  exact .set (.set (.set (.set (.set (.set (.refl s) (by decide)) (by decide)) (by decide))
    (by decide)) (by decide)) (by decide)

theorem walk_still (s : State) (hm : HostMem) (x : Nat) : Still s (s.walk hm x).2 := by
  have hmiss : Still s (s.inc R.IOMMU_CNT_MISS) := .set (.refl s) (by decide)
  unfold State.walk
  extract_lets page s1 span dirAt de dir
  split
  · exact .refl s
  have hdir : Still s dir.2 := by
    unfold dir
    split
    · exact hmiss
    · split
      · exact hmiss
      · split
        · exact hmiss
        · split
          · exact hmiss
          · exact hmiss.same rfl rfl rfl rfl
  clear_value dir
  obtain ⟨_ | de', s2⟩ := dir
  · exact hdir
  · dsimp only
    split
    · exact hdir
    · split
      · exact hdir
      · split
        · exact hdir
        · exact hdir.same rfl rfl rfl rfl

theorem xlate_still (s : State) (hm : HostMem) (write : Bool) (req x : Nat) :
    Still s (s.xlate hm write req x).2 := by
  have hwalk := walk_still s hm x
  unfold State.xlate
  split
  · exact .refl s
  split
  · exact xfault_still _ _ _ _ _
  split
  next hw =>
    rw [hw] at hwalk
    exact hwalk.trans (xfault_still _ _ _ _ _)
  next hw =>
    rw [hw] at hwalk
    split
    · exact hwalk
    · exact hwalk.trans (xfault_still _ _ _ _ _)

theorem hostWr_still (fuel : Nat) (s : State) (hm : HostMem) (req x : Nat) (d : Bytes) :
    Still s (s.hostWr hm req fuel x d).2.2 := by
  induction fuel generalizing s x d with
  | zero => exact .refl s
  | succ fuel ih =>
    unfold State.hostWr
    split
    · exact .refl s
    extract_lets n
    have hx := xlate_still s hm true req x
    split
    next hf => rwa [hf] at hx
    next b s1 hf =>
      rw [hf] at hx
      exact .trans (t := s1.emit (.host b (d.take n))) (hx.same rfl rfl rfl rfl) (ih _ _ _)

/-! ### Completions of ring descriptors -/

/-- The registers of the 32 rings. -/
theorem behind_ring {f : Fld} {base r : Nat} (hf : f.addr = base + 0x40 * r)
    (h : 0x21000 ≤ base ∧ base < 0x21040) (hr : r < 32) : f.Behind := by
  have : R.PAIR_STAT.addr = 0xd000c := rfl
  exact ⟨by omega, .inl (by omega)⟩

theorem setRing_still (s : State) (r : Nat) (x : RingS) : Still s (s.setRing r x) :=
  .same (.refl s) rfl rfl rfl rfl

section
variable {r : Nat} (hr : r < 32)
include hr

theorem ringStat_behind (lo w : Nat) : (Fld.mk (0x21018 + 0x40 * r) 0 lo w).Behind :=
  behind_ring rfl (by decide) hr

theorem ringCounts_still (s : State) : Still s (s.ringCounts r) :=
  .set (.set (.refl s) (behind_ring (base := 0x2101c) rfl (by decide) hr)) (ringStat_behind hr _ _)

omit hr in
theorem ringIrq_still (s : State) (r : Nat) : Still s (s.ringIrq r) :=
  .ite (msi_still _ _) (.ite (.trans (setRing_still _ _ _) (msi_still _ _)) (setRing_still _ _ _))

theorem cplWrite_still (s : State) (c : Cpl) : Still s (s.cplWrite r c) := by
  unfold State.cplWrite
  extract_lets area
  have hwr := hostWr_still 2 s s.iommu.view (ringReq r) (s.slotAt r c.idx + 48) area
  rcases hf : s.hostWr s.iommu.view (ringReq r) 2 (s.slotAt r c.idx + 48) area with ⟨n, ok, s1⟩
  rw [hf] at hwr
  dsimp only
  have hdone (x : RingS) (ci : Nat) :
      Still s ((((s1.setRing r x).set (R.HOST_RING_CI r) ci).ringCounts r).when c.irq
        (·.ringIrq r)) := by
    refine .when (.trans (.set (hwr.trans (setRing_still _ _ _)) ?_) (ringCounts_still hr _))
      (ringIrq_still _ _)
    exact behind_ring (base := 0x21014) rfl (by decide) hr
  exact .ite (.set (.set (hdone _ _) (ringStat_behind hr _ _)) (ringStat_behind hr _ _)) (hdone _ _)

theorem cplRelease_still (fuel : Nat) (s : State) : Still s (s.cplRelease r fuel) := by
  induction fuel generalizing s with
  | zero => exact .refl s
  | succ fuel ih =>
    unfold State.cplRelease
    split
    · exact .refl s
    · exact .trans (.trans (setRing_still _ _ _) (cplWrite_still hr _ _)) (ih _)

end

theorem cpl_still (s : State) (r : Nat) (c : Cpl) : Still s (s.cpl r c) := by
  unfold State.cpl
  split
  · exact setRing_still _ _ _
  next hr =>
    have hr : r < 32 := Nat.lt_of_not_le hr
    exact .ite (setRing_still _ _ _) ((cplWrite_still hr s c).trans (cplRelease_still hr _ _))

/-- The completion of a descriptor stands still. -/
theorem complete_still (s : State) (r idx status result flags : Nat) :
    Still s (s.complete r idx status result flags) := by
  unfold State.complete
  split
  · exact .refl s
  · exact cpl_still s r _

end State

/-! ## Timed writes -/

/-- A push by an origin in TIME (R58, R59). -/
theorem exec_timeTwPush {s : State} (hs : s.Awake) {org tag : Nat} (ho : org < 18)
    (ht : tag < 65536) : exec (.timeTwPush org tag) s = .next (s.twPush org tag) := by
  change gate (okOrigin org && okU16 tag) (s.orgW org R.TIME_TW_PUSH.addr tag) = _
  have hok : (okOrigin org && okU16 tag) = true := by simp [okOrigin, okU16, ho, ht]
  have ht32 : tag < 2 ^ 32 := by omega
  rw [gate, if_pos hok, State.orgW_time hs org (by decide) ht32, State.wrTime, originWrite_a,
    if_neg (by decide), if_neg (by decide), if_neg (by decide), if_neg (by decide), if_pos rfl,
    originWrite_cmd _ _ ht32, originWrite_org, Nat.mod_eq_of_lt ht]

/-- A cancel by an origin in TIME (R58, R62). -/
theorem exec_timeTwCancel {s : State} (hs : s.Awake) {org tag : Nat} (ho : org < 18)
    (ht : tag < 65536) : exec (.timeTwCancel org tag) s = .next (s.twCancel org tag) := by
  change gate (okOrigin org && okU16 tag) (s.orgW org R.TIME_TW_CANCEL.addr tag) = _
  have hok : (okOrigin org && okU16 tag) = true := by simp [okOrigin, okU16, ho, ht]
  have ht32 : tag < 2 ^ 32 := by omega
  rw [gate, if_pos hok, State.orgW_time hs org (by decide) ht32, State.wrTime, originWrite_a,
    if_neg (by decide), if_neg (by decide), if_neg (by decide), if_neg (by decide),
    if_neg (by decide), if_pos rfl, originWrite_cmd _ _ ht32, originWrite_org, Nat.mod_eq_of_lt ht]

namespace State

variable {s : State} {org tag : Nat}

/-! ### Pushes -/

/-- The entry that an origin has staged, with the tag of its push (R58). -/
def staged (s : State) (org tag : Nat) : TwEntry :=
  { addr := 4 * s.get (F.TIME_TW_ADDR_WORD.of org), data := s.get (R.TIME_TW_DATA.of org),
    mask := s.get (R.TIME_TW_MASK.of org), ns := s.get (F.TIME_TW_NS_NS.of org),
    sec := s.get (R.TIME_TW_SEC.of org), tag := tag, org := org }

/-- A push that is judged as refused records the cause and nothing else (R59). -/
theorem twPush_refused (ht : tag < 65536) {c : Nat} (hc : c ≠ 0)
    (h : s.twJudge (s.staged org tag) = c) : s.twPush org tag =
      (s.set (F.TIME_TW_STAT_LAST.of org) c).set (F.TIME_TW_STAT_REJ.of org) 1 := by
  rw [State.twPush, Nat.mod_eq_of_lt ht]
  change (if s.twJudge (s.staged org tag) = 0 then _ else _) = _
  rw [if_neg (by rwa [h]), State.flag]
  exact congrArg (fun c => (s.set (F.TIME_TW_STAT_LAST.of org) c).set _ 1) h

/-- A push that is judged as accepted queues its entry (R59). -/
theorem twPush_accepted (ht : tag < 65536) (h : s.twJudge (s.staged org tag) = 0) :
    s.twPush org tag =
      (s.set (F.TIME_TW_STAT_LAST.of org) 0).twQueue (s.staged org tag) := by
  rw [State.twPush, Nat.mod_eq_of_lt ht]
  change (if s.twJudge (s.staged org tag) = 0 then _ else _) = _
  rw [if_pos h]
  exact congrArg (fun c => (s.set (F.TIME_TW_STAT_LAST.of org) c).twQueue (s.staged org tag)) h

/-- An entry is placed behind those that are not later, in front of the first later one (R57). -/
theorem twPlace_split (s : State) (e : TwEntry) (l : List TwEntry) :
    ∃ x y, l = x ++ y ∧ s.twPlace e l = x ++ e :: y ∧ (∀ z ∈ x, s.twAt z ≤ s.twAt e) ∧
      ∀ z, y.head? = some z → s.twAt e < s.twAt z := by
  induction l with
  | nil => exact ⟨[], [], rfl, rfl, by simp, by simp⟩
  | cons f r ih =>
    rw [State.twPlace]
    by_cases h : s.twAt e < s.twAt f
    · exact ⟨[], f :: r, rfl, if_pos h, by simp, by simpa using h⟩
    · obtain ⟨x, y, rfl, hplace, hbefore, hafter⟩ := ih
      refine ⟨f :: x, y, rfl, ?_, ?_, hafter⟩
      · rw [if_neg h, hplace]
        rfl
      · simpa using ⟨Int.not_lt.mp h, hbefore⟩

/-- An accepted entry stands in front of the first later one; the field that shows the judgement
reads 0, and no memory changes (R57, R59). -/
theorem twQueue_shows (s : State) (f : Fld) (hf : f.lo + f.w ≤ 32) (e : TwEntry) :
    (∃ x y, s.time.tw = x ++ y ∧ ((s.set f 0).twQueue e).time.tw = x ++ e :: y ∧
      (∀ z ∈ x, s.twAt z ≤ s.twAt e) ∧ ∀ z, y.head? = some z → s.twAt e < s.twAt z) ∧
    ((s.set f 0).twQueue e).get f = 0 ∧ ((s.set f 0).twQueue e).mem = s.mem := by
  have hshown : (s.set f 0).get f = 0 := by rw [get_set s f 0 hf, Nat.zero_mod]
  exact ⟨twPlace_split (s.set f 0) e s.time.tw, hshown, rfl⟩

/-- The full queue refuses before all other causes. -/
theorem twJudge_full (e : TwEntry) (h : 256 ≤ s.time.tw.length) : s.twJudge e = 1 := if_pos h

/-- A target in the past is refused before the address is looked at. -/
theorem twJudge_past (e : TwEntry) (h : s.time.tw.length < 256)
    (hp : 2 ^ 31 ≤ s.twSecs e ∨ s.twAt e < s.now + 200) : s.twJudge e = 2 := by
  rw [State.twJudge, if_neg (Nat.not_le.mpr h), if_pos (by simpa using hp)]

/-- With room and time the address decides. -/
theorem twJudge_addr (e : TwEntry) (h : s.time.tw.length < 256) (hsec : s.twSecs e < 2 ^ 31)
    (hat : (s.now : Int) + 200 ≤ s.twAt e) : s.twJudge e = if twBadAddr e.addr then 3 else 0 := by
  have hnot : ¬ (2 ^ 31 ≤ s.twSecs e ∨ s.twAt e < s.now + 200) := by omega
  rw [State.twJudge, if_neg (Nat.not_le.mpr h), if_neg (by simpa using hnot)]

/-! ### Cancels -/

theorem twComplete_still (s : State) (e : TwEntry) (status : Nat) :
    Still s (s.twComplete e status) := by
  unfold State.twComplete
  split
  · exact complete_still _ _ _ _ _ _
  · exact .refl s

/-- A cancel leaves the entries that it does not name, and those of the present tick, marked
(R62). -/
theorem twRemove_tw (s : State) (hit : TwEntry → Bool) : (s.twRemove hit).time.tw =
    (s.time.tw.filter (fun e => !hit e || s.twDue e)).map
      (fun e => if hit e then { e with late := true } else e) := by
  have hstill (l : List TwEntry) (t : State) : Still t (l.foldl (fun t e => t.twComplete e 4) t) :=
    .foldl _ (fun t e _ => twComplete_still t e 4) (.refl t)
  exact congrArg TimeS.tw (hstill _ _).time

/-- The entries that a cancel of a tag names. -/
def hasTag (tag : Nat) (e : TwEntry) : Bool := e.tag = tag

/-- A cancel of a tag, by what the queue and the present tick hold. -/
theorem twCancel_eq (s : State) (org : Nat) (ht : tag < 65536) : s.twCancel org tag =
    if s.twFiredNow tag || s.time.tw.any (fun e => hasTag tag e && s.twDue e) then
      (s.twRemove (hasTag tag)).flag (F.TIME_TW_STAT_CANCEL_LATE.of org)
    else if s.time.tw.any (hasTag tag) then s.twRemove (hasTag tag)
    else s.flag (F.TIME_TW_STAT_CANCEL_MISS.of org) := by
  rw [State.twCancel, Nat.mod_eq_of_lt ht]
  rfl

/-- A tag that is neither queued nor fired in the present tick is missed (R62). -/
theorem twCancel_miss (org : Nat) (ht : tag < 65536) (hnone : ∀ e ∈ s.time.tw, e.tag ≠ tag)
    (hfired : s.twFiredNow tag = false) :
    s.twCancel org tag = s.set (F.TIME_TW_STAT_CANCEL_MISS.of org) 1 := by
  have hany : s.time.tw.any (hasTag tag) = false := by simpa [hasTag] using hnone
  have hdue : s.time.tw.any (fun e => hasTag tag e && s.twDue e) = false := by
    rw [List.any_eq_false] at hany ⊢
    exact fun e he h => hany e he (Bool.and_elim_left h)
  rw [twCancel_eq s org ht, hfired, hdue, hany]
  rfl

/-- A cancel that meets an entry of the present tick is late (R62). -/
theorem twCancel_late (org : Nat) (ht : tag < 65536)
    (h : s.twFiredNow tag = true ∨ ∃ e ∈ s.time.tw, e.tag = tag ∧ s.twDue e = true) :
    s.twCancel org tag = (s.twRemove (hasTag tag)).flag (F.TIME_TW_STAT_CANCEL_LATE.of org) := by
  rw [twCancel_eq s org ht, if_pos (by simpa [hasTag] using h)]

/-- A cancel of entries that do not fire in the present tick takes them out (R62). -/
theorem twCancel_gone (org : Nat) (ht : tag < 65536) (hfired : s.twFiredNow tag = false)
    (hsome : ∃ e ∈ s.time.tw, e.tag = tag)
    (hdue : ∀ e ∈ s.time.tw, e.tag = tag → s.twDue e = false) :
    s.twCancel org tag = s.twRemove (hasTag tag) := by
  rw [twCancel_eq s org ht, if_neg (by simpa [hasTag, hfired] using hdue),
    if_pos (by simpa [hasTag] using hsome)]

/-- Where no entry of the tag fires in the present tick, all of them leave the queue. -/
theorem twRemove_tw_gone (hdue : ∀ e ∈ s.time.tw, e.tag = tag → s.twDue e = false) :
    (s.twRemove (hasTag tag)).time.tw = s.time.tw.filter (fun e => e.tag ≠ tag) := by
  have hstay : s.time.tw.filter (fun e => !hasTag tag e || s.twDue e) =
      s.time.tw.filter (fun e => e.tag ≠ tag) := by
    refine List.filter_congr fun e he => ?_
    by_cases h : e.tag = tag
    · simp [hasTag, h, hdue e he h]
    · simp [hasTag, h]
  rw [twRemove_tw, hstay]
  refine (List.map_congr_left fun e he => if_neg ?_).trans (List.map_id _)
  simpa [hasTag] using (List.mem_filter.mp he).2

/-! ### Fires -/

/-- The entry at the head of the queue has fired (R60). -/
def twFired (u : State) (e : TwEntry) (r : List TwEntry) : State :=
  ({ u with time := { u.time with tw := r } }.twOverlap e).twWrite e (·.busW e.wr)

/-- Time at the tick in which an entry may fire: that of its target, or one later behind an entry of
the same target (R60, R61). -/
def twTick (s : State) (e : TwEntry) : State :=
  (s.advTo (s.twAt e).toNat).when ((s.advTo (s.twAt e).toNat).twWaits e) (fun u => u.pass (u.room 1))

/-- The first entry fires in its tick, if the next apply instant lies behind its target (R60). -/
theorem twFire_eq {e : TwEntry} {r : List TwEntry} (hq : s.time.tw = e :: r) (hs : s.Awake)
    (hg : s.gst ≠ .safeHold) (hk : ∀ k, s.toApply = some k → s.twAt e < (s.now + k : Nat)) :
    s.twFire = if (s.twTick e).twWaits e then s.twTick e else (s.twTick e).twFired e r := by
  have hopen : s.twOpen = true := by simp [State.twOpen, hs, hg]
  cases happly : s.toApply with
  | none =>
    simp only [State.twFire, hq, happly, hopen, Bool.and_true, if_true]
    rfl
  | some k =>
    simp only [State.twFire, hq, happly, hopen, decide_eq_true (hk k happly), Bool.and_true, if_true]
    rfl

end State

/-- Settles O31: pushes by their judgement, cancels by what the queue holds, fires by the tick. -/
theorem timedWritesQueueAndFire : Obligations.TimedWritesQueueAndFire := by
  refine ⟨?push, ?cancel, ?fire⟩
  case push =>
    intro s org tag ho ht hs e he
    obtain rfl : e = s.staged org tag := he
    refine ⟨_, exec_timeTwPush hs ho ht, fun hfull => ?full, fun hroom hpast => ?past,
      fun hroom hsec hat hbad => ?addr, fun hroom hsec hat hgood => ?accepted⟩
    case full => exact State.twPush_refused ht (by decide) (State.twJudge_full _ hfull)
    case past => exact State.twPush_refused ht (by decide) (State.twJudge_past _ hroom hpast)
    case addr =>
      exact State.twPush_refused ht (by decide)
        ((State.twJudge_addr _ hroom hsec hat).trans (if_pos hbad))
    case accepted =>
      have hjudge := (State.twJudge_addr _ hroom hsec hat).trans (if_neg (by simp [hgood]))
      rw [State.twPush_accepted ht hjudge]
      exact State.twQueue_shows s _ (show 9 + 2 ≤ 32 by decide) _
  case cancel =>
    intro s org tag ho ht hs
    have hexec := exec_timeTwCancel hs ho ht
    refine ⟨fun hnone hfired => ?miss, fun hlate => ?late, fun hfired hsome hdue => ?gone⟩
    case miss => rw [hexec, State.twCancel_miss org ht hnone hfired]
    case late =>
      rw [State.twCancel_late org ht hlate] at hexec
      refine ⟨_, hexec, ?_, (State.twRemove_tw s (State.hasTag tag)).trans (by simp [State.hasTag])⟩
      rw [State.on, State.flag, State.get_set _ _ _ (show 13 + 1 ≤ 32 by decide)]
      rfl
    case gone =>
      rw [State.twCancel_gone org ht hfired hsome hdue] at hexec
      exact ⟨_, hexec, State.twRemove_tw_gone hdue⟩
  case fire =>
    intro s e r hq hs hg hk v hv hwaits
    have htick : s.twTick e = v := by
      rcases hv with rfl | ⟨hw, rfl⟩
      · rw [State.twTick, hwaits, State.when_false]
      · rw [State.twTick, hw, State.when_true]
    refine congrArg Host.Outcome.next ((State.twFire_eq hq hs hg hk).trans ?_)
    rw [htick, hwaits, if_neg Bool.false_ne_true]
    rfl

/-! ## The passage of time -/

/-- The label of station time in nanoseconds (R31). -/
def TimeS.stamp (t : TimeS) : Nat := t.sec * Config.nsPerSec + t.ns

theorem State.now_eq (s : State) : s.now = s.time.stamp := rfl

theorem TimeS.stamp_congr {t u : TimeS} (hsec : u.sec = t.sec) (hns : u.ns = t.ns) :
    u.stamp = t.stamp := by
  rw [TimeS.stamp, TimeS.stamp, hsec, hns]

/-- A label of fewer than 2^64 seconds reads back. -/
theorem TimeS.stamp_setNow (t : TimeS) {m : Nat} (h : m < 2 ^ 64 * Config.nsPerSec) :
    (t.setNow m).stamp = m := by
  have hsec : m / Config.nsPerSec < 2 ^ 64 := Nat.div_lt_of_lt_mul (by rwa [Nat.mul_comm])
  rw [TimeS.stamp, TimeS.setNow, Nat.mod_eq_of_lt hsec, Nat.mul_comm]
  exact Nat.div_add_mod m _

/-- Station time t, n nanoseconds later, with what an apply instant looks at: the same period index,
the same queue, the same step that waits, and no partner's instant where there was none. -/
structure TimeS.Later (t : TimeS) (n : Nat) (u : TimeS) : Prop where
  pidx : u.pidx = t.pidx
  tw : u.tw = t.tw
  step : u.step = t.step
  align : t.align = none → u.align = none
  stamp : t.stamp + n < 2 ^ 64 * Config.nsPerSec → u.stamp = t.stamp + n

theorem TimeS.Later.refl (t : TimeS) : t.Later 0 t :=
  ⟨rfl, rfl, rfl, id, fun _ => (Nat.add_zero _).symm⟩

/-- The label m, with the clocks that run with it n nanoseconds on and the offset p in the period
(R31, R37). -/
def TimeS.moved (t : TimeS) (m n p : Nat) : TimeS :=
  { t.setNow m with
    cyc := t.cyc + n, canNs := t.canNs + n, pofs := p, align := t.align.map (fun a => (a.1 - n, a.2)) }

theorem TimeS.moved_later (t : TimeS) {m n : Nat} (p : Nat) (a b : Int) (hm : m = t.stamp + n) :
    t.Later n { t.moved m n p with slew := a, acc := b } :=
  ⟨rfl, rfl, rfl, fun h => congrArg (Option.map _) h,
    fun h => (TimeS.stamp_congr rfl rfl).trans ((t.stamp_setNow (hm ▸ h)).trans hm)⟩

namespace State

variable {s t u : State}

/-- With nothing staged the end of a transaction stages nothing. -/
theorem txnEnd_still (hx : s.host.txns = []) (x : Txn) (status result : Nat) :
    Still s (s.txnEnd x status result) := by
  have hempty : Still s { s with host := { s.host with txns := [] } } :=
    .same (.refl s) rfl rfl rfl hx.symm
  have hset : Still s (s.setTxns []) := hempty.set (f := F.HOST_CTX_STAT_PENDING) (by decide)
  have hnone : s.host.txns.filter (fun y => !(y.ring = x.ring && y.idx = x.idx)) = [] := by
    rw [hx]
    rfl
  unfold State.txnEnd
  rw [hnone]
  exact hset.trans (complete_still _ _ _ _ _ _)

theorem dbDone_still (hx : s.host.txns = []) : Still s s.dbDone := by
  unfold State.dbDone
  split
  next d _ =>
    have hnone : Still s { s with trip := { s.trip with db := none } } :=
      .same (.refl s) rfl rfl rfl rfl
    refine hnone.trans ?_
    exact txnEnd_still (s := { s with trip := { s.trip with db := none } }) hx _ _ _
  next => exact .refl s

/-- A slew that runs changes of the time its own remainder alone. -/
theorem slewPass_still (s : State) (n : Nat) :
    ∃ a b, Still { s with time := { s.time with slew := a, acc := b } } (s.slewPass n) := by
  unfold State.slewPass
  split
  · exact ⟨_, _, .set (.refl _) (by decide)⟩
  · exact ⟨s.time.slew, s.time.acc, .refl s⟩

theorem setTrim_still (s : State) (k : Nat) (x : TrimS) : Still s (s.setTrim k x) :=
  .same (.refl s) rfl rfl rfl rfl

theorem trimsRun_still (s : State) (n : Nat) : Still s (s.trimsRun n) := by
  have hfold (k : Nat) : (F.MOD_TRIM_STAT_PER_FOLD k).Behind :=
    ⟨show 0x20000 ≤ 0x50700 + 0x4 * k by omega,
      .inr ⟨show 3 ≤ 25 by decide, show 25 + 1 ≤ 32 by decide, rfl⟩⟩
  refine .foldl _ (fun t p _ => ?_) (.refl s)
  extract_lets x per
  refine .ite (.ite (.refl t) (.ite (.set (setTrim_still _ _ _) (hfold _)) (setTrim_still _ _ _)))
    (.refl t)

theorem quotaUpd_still (s : State) (q : Nat) : Still s (s.quotaUpd q) := .set (.refl s) (by decide)

theorem coreTime_still (s : State) (n : Nat) : Still s (s.coreTime n) := by
  have huse (q : Nat) : (R.SCHED_QTUSE q).Behind := by
    have h1 : (R.SCHED_QTUSE q).addr = 0x30408 + 0x10 * q := rfl
    have h2 : R.PAIR_STAT.addr = 0xd000c := rfl
    exact ⟨by omega, .inl (by omega)⟩
  refine .ite (.refl s) (.foldl _ (fun t c _ => ?_) (.refl s))
  extract_lets x
  split
  · exact .refl t
  · refine .trans (.set (.same (.refl t) ?_ ?_ ?_ ?_) (huse _)) (quotaUpd_still _ _)
    all_goals rfl

/-- The passing of n nanoseconds, after the DEBLOCK of the cycle that ends. -/
def clocksRun (s : State) (n : Nat) : State :=
  ((({ s with
    time := s.time.moved (s.now + n) n (if s.peRun then s.time.pofs + n else s.time.pofs)
    elapsed := s.elapsed + n }).slewPass n).trimsRun n).coreTime n

theorem pass_eq {n : Nat} (h : n ≠ 0) : s.pass n = s.dbDone.clocksRun n :=
  if_neg h

theorem clocksRun_still (s : State) (n : Nat) :
    ∃ T, Still { s with time := T } (s.clocksRun n) ∧ s.time.Later n T := by
  unfold clocksRun
  generalize hm : s.now + n = m
  generalize (if s.peRun then s.time.pofs + n else s.time.pofs) = p
  obtain ⟨a, b, hslew⟩ :=
    slewPass_still { s with time := s.time.moved m n p, elapsed := s.elapsed + n } n
  have hlabel : Still { s with time := { s.time.moved m n p with slew := a, acc := b } }
      { s with
        time := { s.time.moved m n p with slew := a, acc := b }
        elapsed := s.elapsed + n } :=
    .same (.refl _) rfl rfl rfl rfl
  exact ⟨_, ((hlabel.trans hslew).trans (trimsRun_still _ n)).trans (coreTime_still _ n),
    s.time.moved_later p a b hm.symm⟩

/-- Time passes: with nothing staged the device, the registers of DEV and TIME and the role stand
still, and station time moves on (R31). -/
theorem pass_still (hx : s.host.txns = []) (n : Nat) :
    ∃ T, Still { s with time := T } (s.pass n) ∧ s.time.Later n T := by
  by_cases hn : n = 0
  · subst hn
    exact ⟨s.time, .refl s, .refl s.time⟩
  · have hdb : Still s s.dbDone := dbDone_still hx
    obtain ⟨T, hrun, hlater⟩ := clocksRun_still s.dbDone n
    rw [pass_eq hn]
    have hsame : Still { s with time := T } { s.dbDone with time := T } :=
      ⟨rfl, hdb.dev, hdb.low, hdb.role, hdb.txns⟩
    exact ⟨T, hsame.trans hrun, hdb.time ▸ hlater⟩

/-! ## The apply instant -/

/-- With a new period the bow frames of the last one are forgotten. -/
def bowsForgotten (s : State) : State :=
  s.when (!s.dev.lastBow.isEmpty) (fun t => { t with dev := { t.dev with lastBow := [] } })

/-- The end of an apply instant that wrote the registers w: timed writes, trims, slots (R42). -/
def instantEnd (s : State) (w : List (Nat × Nat)) (old : Int) : State :=
  ((({ s with time := { s.time with instW := ((s.now : Int), w) } }.twAtInstant old).stepFire
    old).trimsStart).slotsDue

/-- What follows the opening of the period at an apply instant whose label was `old` (R42). -/
def instantActs (s : State) (old : Int) : State :=
  let s := s.runDue.bowsForgotten
  let (w2, s) := s.txnsApply
  let (w3, s) := s.pairBefore.latchesMove
  (s.overlapMark w2 w3).pairInstant.instantEnd (w2 ++ w3) old

/-- The apply instant: time moves on to it, the period opens, and R42 runs. -/
theorem applyInstant_eq (hs : s.Awake) {k : Nat} (hk : s.toApply = some k) :
    s.applyInstant = (s.pass k).periodOpen.instantActs (s.pass k).now := by
  unfold State.applyInstant
  split
  next h => rw [h] at hk; cases hk
  next h =>
    rw [h] at hk
    cases hk
    rw [if_neg (by rw [hs]; exact Bool.false_ne_true)]
    generalize s.pass k = p
    simp only [State.instantActs, State.bowsForgotten, State.instantEnd]

/-- The part stands in CONFIG and has no role. -/
structure Parked (s : State) : Prop where
  config : s.gst = .config
  role : s.role = .none

theorem Parked.still (h : s.Parked) (k : Still s t) : t.Parked := by
  refine ⟨?_, ?_⟩
  · rw [State.gst, k.dev, k.get F.DEV_STATE_STATE (by decide)]
    exact h.config
  · rw [State.role, k.role]
    exact h.role

theorem Parked.live (h : s.Parked) : s.live = false := by
  rw [State.live, h.config]
  rfl


/-! ### The pair at an instant -/

theorem pr_still (s : State) (f : PairS → PairS) : Still s (s.pr f) :=
  .same (.refl s) rfl rfl rfl rfl

theorem emit_still (s : State) (o : Out) : Still s (s.emit o) :=
  .same (.refl s) rfl rfl rfl rfl

theorem sendFrame_still (s : State) (l n g : Nat) (o : Out) : Still s (s.sendFrame l n g o) := by
  have hfill : Still s (s.fillOut l) := by
    unfold State.fillOut
    exact .when (.refl s) (emit_still _ _)
  have hblk : Still s ((s.fillOut l).when (g ≠ 0) (·.emit (.blk l g))) := hfill.when (emit_still _ _)
  exact ((hblk.trans (emit_still _ o)).trans (emit_still _ (.skp l))).same rfl rfl rfl rfl

theorem mirSend_still (s : State) (i type : Nat) (body : Bytes) :
    Still s (s.mirSend i type body) := by
  unfold State.mirSend
  split
  · exact .when (.refl s) (sendFrame_still _ _ _ _ _)
  · exact .refl s

theorem healthSend_still (s : State) : Still s s.healthSend := by
  have hown (w : Nat) : (R.PAIR_HLTH_OWN w).Behind := by
    have h1 : (R.PAIR_HLTH_OWN w).addr = 0xd0220 + 4 * w := rfl
    have h2 : R.PAIR_STAT.addr = 0xd000c := rfl
    exact ⟨by omega, .inl (by omega)⟩
  unfold State.healthSend
  extract_lets b t
  have hregs : Still s t := .foldl _ (fun t w _ => .set (.refl t) (hown w)) (.refl s)
  exact hregs.trans (mirSend_still t 0 0x23 b)

theorem tsyncSend_still (s : State) : Still s s.tsyncSend := by
  unfold State.tsyncSend
  extract_lets
  exact (pr_still _ _).trans (mirSend_still _ _ _ _)

theorem srepSend_still (s : State) : Still s s.srepSend := by
  unfold State.srepSend
  exact mirSend_still _ _ _ _

/-- The frames of an instant leave on their lanes (R396). -/
theorem pairFrames_still (s : State) : Still s s.pairFrames := by
  have hsync : Still s (s.when s.live (·.tsyncSend)) := .when (.refl s) (tsyncSend_still _)
  exact (hsync.trans (healthSend_still _)).when (srepSend_still _)

theorem wireCheck_still (s : State) : Still s s.wireCheck :=
  .ite ((pr_still _ _).when (.set (.refl _) (by decide))) (.refl s)

theorem readiness_still (s : State) : Still s s.readiness := by
  have hbits : Still s ((s.set F.PAIR_STAT_NR s.nrBits).set F.PAIR_STAT_TAKE_OK (b2n (s.nrBits = 0))) :=
    .set (.set (.refl s) (by decide)) (by decide)
  unfold State.readiness
  extract_lets nr ok s1 s2 s3
  have hruns : Still s s2 := hbits.trans (pr_still _ _)
  have harmed : Still s s3 :=
    .ite (.set (f := F.PAIR_STAT_TAKE_ARMED) hruns (by decide))
      (.ite (.set (f := F.PAIR_STAT_TAKE_ARMED) hruns (by decide)) hruns)
  exact harmed.trans (pr_still _ _)

theorem Parked.not_active (h : s.Parked) : ¬ s.role = .active := by
  rw [h.role]
  decide

/-- A part without a role hands over, captures and relays nothing at an instant (R399, R408). -/
theorem Parked.pairInstant (h : s.Parked) : Still s s.pairInstant := by
  have hage : Still s (s.inc F.PAIR_CKPT_STAT_AGE) := .set (.refl s) (by decide)
  have hsend (t : State) (ht : t.Parked) :
      (((t.sendRun).handoverInstant).captureDue).relayStart = t.sendRun := by
    have hrole : ¬ t.sendRun.role = .active := (ht.still (pr_still t _)).not_active
    have hho : t.sendRun.handoverInstant = t.sendRun := if_neg (by simp [hrole])
    have hcap : t.sendRun.captureDue = t.sendRun := if_neg (by simp [hrole])
    have hrel : t.sendRun.relayStart = t.sendRun := if_neg (by simp [hrole])
    rw [hho, hcap, hrel]
  unfold State.pairInstant
  extract_lets s1 s2 s3
  have hready : Still s s2 :=
    ((hage.trans (pr_still _ _)).trans (wireCheck_still s1)).trans (readiness_still _)
  have hframes : Still s s3 := hready.when (pairFrames_still s2)
  rw [hsend s3 (h.still hframes)]
  exact hframes.trans (pr_still _ _)

/-! ### The rest of R42 -/

/-- A part without a role neither captures nor takes over. -/
theorem Parked.pairBefore (h : s.Parked) : s.pairBefore = s := by
  have hcap : s.captureInstant = s := if_neg (by simp [takesCkpt, h.role])
  rw [State.pairBefore, hcap]
  exact if_neg (by simp [h.role])

theorem Parked.cengOn (h : s.Parked) : s.cengOn = false := by
  rw [State.cengOn, h.live, Bool.false_and]

theorem Parked.latchesMove (h : s.Parked) : s.latchesMove = ([], s) :=
  if_pos (by rw [h.cengOn]; rfl)

theorem txnsApply_nil (hx : s.host.txns = []) : s.txnsApply = ([], s) := by
  rw [State.txnsApply, hx]
  rfl

theorem twAtInstant_nil (h : s.time.tw = []) (old : Int) : Still s (s.twAtInstant old) := by
  have hsame : Still s { s with time := { s.time with tw := [] } } :=
    .same (.refl s) rfl (by rw [← h]) rfl rfl
  unfold State.twAtInstant
  rw [h]
  exact hsame

theorem stepFire_nil (h : s.time.tw = []) (old : Int) : s.stepFire old = s := by
  rw [State.stepFire, h]
  rfl

theorem trimsStart_still (s : State) : Still s s.trimsStart :=
  .foldl _ (fun t _ _ => .ite (setTrim_still t _ _) (.refl t)) (.refl s)

theorem Parked.slotsDue (h : s.Parked) : s.slotsDue = s :=
  if_neg (by simp [h.cengOn])

theorem Parked.congr (h : s.Parked) (hr : t.regs = s.regs) (hd : t.dev.inReset = s.dev.inReset) :
    t.Parked :=
  ⟨by rw [State.gst, hd, get_congr_regs _ hr]; exact h.config,
    by rw [State.role, get_congr_regs _ hr]; exact h.role⟩

/-- The end of an apply instant notes what was written, and starts trims. -/
theorem Parked.instantEnd (h : s.Parked) (htw : s.time.tw = []) (w : List (Nat × Nat))
    (old : Int) : (s.instantEnd w old).time = { s.time with instW := ((s.now : Int), w) } ∧
      (s.instantEnd w old).get F.TIME_STATUS_PE_RUN = s.get F.TIME_STATUS_PE_RUN := by
  unfold State.instantEnd
  generalize hu : { s with time := { s.time with instW := ((s.now : Int), w) } } = u
  have hpu : u.Parked := hu ▸ h.congr rfl rfl
  have hnone : u.time.tw = [] := hu ▸ htw
  have htws : Still u (u.twAtInstant old) := twAtInstant_nil hnone old
  have htrims : Still u (u.twAtInstant old).trimsStart := htws.trans (trimsStart_still _)
  rw [stepFire_nil (htws.time ▸ hnone), (hpu.still htrims).slotsDue]
  exact ⟨htrims.time.trans (hu ▸ rfl),
    (htrims.get _ (by decide)).trans (get_congr_regs _ (hu ▸ rfl))⟩

/-- What an apply instant does in CONFIG to a part without a role, with nothing staged or queued and
no entry of RUN pending, after the period has opened: station time is as it opened, and the period
engine runs as before. -/
theorem Parked.instantActs (h : s.Parked) (hx : s.host.txns = []) (htw : s.time.tw = [])
    (hrun : s.on F.DEV_STATE_RUN_PEND = false) (old : Int) :
    ∃ W, (s.instantActs old).time = { s.time with instW := W } ∧
      (s.instantActs old).peRun = s.peRun := by
  have hdue : s.runDue = s := if_neg (by simp [hrun])
  obtain ⟨hregs, htime, hreset, hhost⟩ : s.bowsForgotten.regs = s.regs ∧
      s.bowsForgotten.time = s.time ∧ s.bowsForgotten.dev.inReset = s.dev.inReset ∧
      s.bowsForgotten.host = s.host := by
    unfold bowsForgotten State.when
    split <;> exact ⟨rfl, rfl, rfl, rfl⟩
  rw [State.instantActs, hdue]
  generalize s.bowsForgotten = u at *
  have hu : u.Parked := h.congr hregs hreset
  simp only [txnsApply_nil (show u.host.txns = [] from hhost ▸ hx), hu.pairBefore, hu.latchesMove]
  change ∃ W, (State.instantEnd u.pairInstant [] old).time = _ ∧
    (State.instantEnd u.pairInstant [] old).peRun = _
  have hpair : Still u u.pairInstant := hu.pairInstant
  obtain ⟨hend, hstat⟩ := (hu.still hpair).instantEnd (by rw [hpair.time, htime, htw]) [] old
  have hrunning : (State.instantEnd u.pairInstant [] old).get F.TIME_STATUS_PE_RUN =
      s.get F.TIME_STATUS_PE_RUN :=
    (hstat.trans (hpair.get _ (by decide))).trans (get_congr_regs _ hregs)
  refine ⟨((u.pairInstant.now : Int), []), ?_, ?_⟩
  · rw [hend, hpair.time, htime]
  · rw [State.peRun, State.on, hrunning, State.peRun, State.on]

/-! ### The period opens -/

/-- With no partner's instant to follow and no step that waits, the period opens by its own count
(R36, R37, R39). -/
theorem periodOpen_eq (ha : s.time.align = none) (hst : s.time.step = none) : s.periodOpen =
    { s.flag F.TIME_STATUS_PE_RUN with time := { s.time with
      pidx := if s.peRun then s.time.pidx + 1 else 0, pofs := 0, align := none, acted := [],
      per := s.get F.TIME_PERIOD_STEPS * 10 } } := by
  have hper : (s.flag F.TIME_STATUS_PE_RUN).get F.TIME_PERIOD_STEPS = s.get F.TIME_PERIOD_STEPS :=
    get_set_ne s _ _ 1 (by decide)
  unfold State.periodOpen
  simp only [ha, flag, set_time, hst, ← hper]

theorem periodOpen_peRun (ha : s.time.align = none) (hst : s.time.step = none) :
    s.periodOpen.peRun = true := by
  rw [periodOpen_eq ha hst]
  exact decide_eq_true (get_set s F.TIME_STATUS_PE_RUN 1 (by decide))

theorem periodOpen_get (ha : s.time.align = none) (hst : s.time.step = none) (f : Fld)
    (hf : f.addr ≠ R.TIME_STATUS.addr) : s.periodOpen.get f = s.get f := by
  rw [periodOpen_eq ha hst]
  exact get_set_ne s F.TIME_STATUS_PE_RUN f 1 hf

theorem Parked.periodOpen (h : s.Parked) (ha : s.time.align = none) (hst : s.time.step = none) :
    s.periodOpen.Parked := by
  have hreset : s.periodOpen.dev.inReset = s.dev.inReset := by
    rw [periodOpen_eq ha hst]
    rfl
  refine ⟨?_, ?_⟩
  · rw [State.gst, hreset, periodOpen_get ha hst _ (by decide)]
    exact h.config
  · rw [State.role, periodOpen_get ha hst _ (by decide)]
    exact h.role

end State

/-- An apply instant in CONFIG of a part without a role, with nothing staged, queued or pending:
time moves on by k nanoseconds, and the period opens there. -/
theorem State.Parked.applyInstant {s : State} (h : s.Parked) (hs : s.Awake) {k : Nat}
    (hk : s.toApply = some k) (hrun : s.on F.DEV_STATE_RUN_PEND = false) (hx : s.host.txns = [])
    (htw : s.time.tw = []) (hst : s.time.step = none) (ha : s.time.align = none)
    (hmax : s.now + k < 2 ^ 64 * 1000000000) :
    s.applyInstant.time.pidx = (if s.peRun then s.time.pidx + 1 else 0) ∧
      s.applyInstant.peRun = true ∧ s.applyInstant.time.pofs = 0 ∧
      s.applyInstant.time.per = s.get F.TIME_PERIOD_STEPS * 10 ∧ s.applyInstant.now = s.now + k := by
  obtain ⟨T, hpass, hlater⟩ := State.pass_still hx k
  rw [State.applyInstant_eq hs hk]
  generalize s.pass k = p at *
  have hget (f : Fld) (hf : f.addr < 0x20000) : p.get f = s.get f := hpass.get f hf
  have htime : p.time = T := hpass.time
  have hap : p.time.align = none := htime ▸ hlater.align ha
  have hsp : p.time.step = none := htime ▸ hlater.step.trans hst
  have hp : p.Parked := (h.congr rfl rfl : State.Parked { s with time := T }).still hpass
  have hopen : p.periodOpen.time = { p.time with
      pidx := if p.peRun then p.time.pidx + 1 else 0, pofs := 0, align := none, acted := [],
      per := p.get F.TIME_PERIOD_STEPS * 10 } :=
    congrArg State.time (State.periodOpen_eq hap hsp)
  have hrunning : p.periodOpen.peRun = true := State.periodOpen_peRun hap hsp
  have hpend : p.periodOpen.on F.DEV_STATE_RUN_PEND = false := by
    rw [State.on, State.periodOpen_get hap hsp _ (by decide), hget _ (by decide)]
    exact hrun
  have hstaged : p.periodOpen.host.txns = [] := by
    rw [State.periodOpen_eq hap hsp]
    exact hpass.txns.trans hx
  have hqueue : p.periodOpen.time.tw = [] := by
    rw [hopen]
    exact (congrArg TimeS.tw htime).trans (hlater.tw.trans htw)
  obtain ⟨W, hacts, hkept⟩ :=
    (hp.periodOpen hap hsp).instantActs hstaged hqueue hpend p.now
  generalize p.periodOpen.instantActs p.now = t at *
  rw [hkept, State.now_eq, hacts, hopen]
  refine ⟨?_, hrunning, rfl, ?_, ?_⟩
  · change (if p.peRun then p.time.pidx + 1 else 0) = _
    rw [State.peRun, State.on, hget _ (by decide), htime, hlater.pidx, State.peRun, State.on]
  · change p.get F.TIME_PERIOD_STEPS * 10 = _
    rw [hget _ (by decide)]
  · change p.time.stamp = _
    rw [htime]
    exact hlater.stamp hmax

/-! ## The start of the period engine -/

/-- A host's write of one field of a register of TIME reaches TIME. -/
theorem State.hostF_time {s : State} (hs : s.Awake) (f : Fld) {v : Nat}
    (ha : f.addr / 0x10000 = 1) (h4 : f.addr % 4 = 0)
    (hd : setBits (s.word f) f.lo f.w v < 2 ^ 32) :
    s.hostF f v = s.wrTime (originWrite 0 f.addr (setBits (s.word f) f.lo f.w v)) := by
  rw [← State.orgW_time hs 0 ha hd, State.hostF, State.hostW, State.orgW, hs, h4]
  rfl

theorem RegsOnly.get {as : List Nat} {s t : State} (h : RegsOnly as s t) {f : Fld}
    (hf : f.addr ∉ as) : t.get f = s.get f := by
  obtain ⟨-, hregs⟩ := h
  rw [State.get, State.get, State.word, State.word, hregs _ hf]

theorem RegsOnly.time {as : List Nat} {s t : State} (h : RegsOnly as s t) : t.time = s.time := by
  obtain ⟨hrest, -⟩ := h
  rw [hrest]

theorem RegsOnly.mem {as : List Nat} {s t : State} (h : RegsOnly as s t) : t.mem = s.mem := by
  obtain ⟨hrest, -⟩ := h
  rw [hrest]

theorem RegsOnly.ite {as : List Nat} {s t u : State} {c : Prop} [Decidable c] (ht : RegsOnly as s t)
    (hu : RegsOnly as s u) : RegsOnly as s (if c then t else u) := by
  split
  · exact ht
  · exact hu

/-- The choice of the reference writes TIME_STATUS alone (R34). -/
theorem State.refSelect_regsOnly (s : State) (old : Nat) :
    RegsOnly [R.TIME_STATUS.addr] s (s.refSelect old) := by
  have hset {t : State} (f : Fld) (v : Nat) (h : RegsOnly [R.TIME_STATUS.addr] s t)
      (hf : f.addr = R.TIME_STATUS.addr) : RegsOnly [R.TIME_STATUS.addr] s (t.set f v) :=
    h.set v (List.mem_singleton.2 hf)
  have hauto (t : State) (h : RegsOnly [R.TIME_STATUS.addr] s t) :
      RegsOnly [R.TIME_STATUS.addr] s t.refAuto := by
    unfold State.refAuto
    extract_lets a u
    have hsw : RegsOnly [R.TIME_STATUS.addr] s u := State.when_of t _ _ _ h (hset _ 1 h rfl)
    exact .ite (hset _ 0 h rfl) (.ite (hset _ 0 (hset _ _ hsw rfl) rfl) (hset _ 1 h rfl))
  have hfixed (t : State) (h : RegsOnly [R.TIME_STATUS.addr] s t) :
      RegsOnly [R.TIME_STATUS.addr] s t.refFixed := by
    unfold State.refFixed
    extract_lets r u
    have hact : RegsOnly [R.TIME_STATUS.addr] s u := State.when_of t _ _ _ h (hset _ r h rfl)
    exact .ite (hset _ 0 hact rfl) (hset _ 1 h rfl)
  unfold State.refSelect
  extract_lets r t
  have hact : RegsOnly [R.TIME_STATUS.addr] s t :=
    State.when_of s _ _ _ (.refl _ s) (hset _ r (.refl _ s) rfl)
  exact State.when_of t _ _ _ hact (.ite (hauto t hact) (hfixed t hact))

/-- A write of TIME_CTRL by the host with PEN at 1 leaves PEN at 1, and moves neither time nor memory
(R36). -/
theorem State.wrTime_pen (s : State) {data : Nat} (hd : data < 2 ^ 32) (hpen : bit data 0 = true) :
    (s.wrTime (originWrite 0 R.TIME_CTRL.addr data)).on F.TIME_CTRL_PEN = true ∧
      (s.wrTime (originWrite 0 R.TIME_CTRL.addr data)).time = s.time ∧
      (s.wrTime (originWrite 0 R.TIME_CTRL.addr data)).mem = s.mem := by
  have hplain := s.plain_regsOnly (originWrite 0 R.TIME_CTRL.addr data) rfl
  rw [State.wrTime, originWrite_a, if_pos rfl, originWrite_cmd _ _ hd, hpen]
  generalize s.plain (originWrite 0 R.TIME_CTRL.addr data) = p at *
  extract_lets old t
  have ht : t = p.set F.TIME_CTRL_PEN 1 := rfl
  have hon : t.on F.TIME_CTRL_PEN = true :=
    decide_eq_true (by rw [ht, State.get_set _ _ _ (by decide)]; rfl)
  have htime : t.time = s.time := hplain.time
  have hmem : t.mem = s.mem := hplain.mem
  have hsel := t.refSelect_regsOnly old
  refine State.when_of t _ _ (fun u => u.on F.TIME_CTRL_PEN = true ∧ u.time = s.time ∧ u.mem = s.mem)
    ⟨hon, htime, hmem⟩ ⟨?_, hsel.time.trans htime, hsel.mem.trans hmem⟩
  rw [State.on, hsel.get (by decide)]
  exact hon

/-- PEN written with 1 starts the period engine (R36). -/
theorem State.periodEngineStart_starts {s : State} (hs : s.Awake) :
    (s.hostF F.TIME_CTRL_PEN 1).on F.TIME_CTRL_PEN = true ∧
      (s.hostF F.TIME_CTRL_PEN 1).time = s.time ∧ (s.hostF F.TIME_CTRL_PEN 1).mem = s.mem := by
  have hd : setBits (s.word F.TIME_CTRL_PEN) 0 1 1 < 2 ^ 32 :=
    setBits_lt _ _ _ _ 32 (by decide) (BitVec.isLt _)
  have hpen : bit (setBits (s.word F.TIME_CTRL_PEN) 0 1 1) 0 = true := by
    rw [bit, testBit_setBits]
    rfl
  rw [State.hostF_time hs F.TIME_CTRL_PEN (by decide) (by decide) hd]
  exact s.wrTime_pen hd hpen

/-- Settles O32: PEN is a field of one register; an apply instant is the passing of time, the opening
of the period and R42, which leaves both. -/
theorem periodEngineRuns : Obligations.PeriodEngineRuns := by
  refine ⟨fun s hs => ⟨_, rfl, State.periodEngineStart_starts hs⟩, ?_⟩
  intro s k hs hconfig hrole hrun hx htw hst ha hk hmax
  exact ⟨_, rfl, State.Parked.applyInstant ⟨hconfig, hrole⟩ hs hk hrun hx htw hst ha hmax⟩

/-! ## A result while time passes -/

/-- The trim channel number whose MOD_TRIM_STAT would lie at ADC_DATA of converter 0. No part has
it (R186), but the statement speaks of every state. -/
def strayTrim : Nat := 0x13E82

theorem strayTrim_addr : (R.MOD_TRIM_STAT strayTrim).addr = (R.ADC_DATA 0).addr := rfl

/-- A sample of converter 0 at the first edge of the sample clock. -/
def firstEdge : Sample :=
  { at' := sampleEdge, src := 0, far := true, unset := false, stale := false, facts := [] }

/-- A part outside RESET with that sample in conversion, in which the stray channel's counter stands
at its PER. -/
def strayState : State :=
  { State.reset with
    dev := { State.reset.dev with inReset := false }
    modu := { trims := [(strayTrim, { running := true, count := 5000 })] }
    adc := [(0, { flight := [firstEdge] })] }

/-- The four nanoseconds up to the sampling instant wrap the stray counter, whose PER_FOLD is then
bit 5 of CNT; the result advances CNT from there. -/
theorem strayState_cnt : ((strayState.adcEnd 0 0 0 false).get (F.ADC_DATA_CNT 0)) = 33 := by
  decide +kernel

/-- Refutes O57: time that passes up to the sampling instant runs every trim counter that the state
holds, and the statement does not keep these to the channels that a part has, so a stray one changes
CNT before the result does. -/
theorem not_convertersSampleAndCalibrate : ¬ Obligations.ConvertersSampleAndCalibrate := by
  rintro ⟨-, -, -, hresult, -⟩
  obtain ⟨t, hexec, -, -, -, -, -, -, -, -, hcnt, -⟩ :=
    hresult strayState 0 0 0 false firstEdge [] 0x8000 0 (by decide) (by decide) (by decide)
      (by decide) (by decide) (by decide) (by decide) (by decide) (by decide)
  have ht : t = strayState.adcEnd 0 0 0 false := (Host.Outcome.next.inj hexec).symm
  rw [ht, strayState_cnt] at hcnt
  exact absurd hcnt (by decide)

end Sys2Proof.Machine
end

section
/-! SUPPORT. The registers of a lane under writes of its fields; what one lane's commands leave of
the others; its equaliser and its training states; the frames that it sends; the writes of the host
that reach it. Then what 03_lanes.md has proved: LaneTrainingStates, LaneAdaptationAndTests. -/

namespace Sys2Proof.Machine

open Sys2Proof

/-! ## The fields of a lane -/

/-- A write of the one field leaves the other: it lies in another register, or beside it. -/
abbrev Fld.Clear (f g : Fld) : Prop :=
  g.addr ≠ f.addr ∨ (f.lo + f.w ≤ 32 ∧ f.addr = g.addr ∧ f.rst = g.rst ∧
    (f.lo + f.w ≤ g.lo ∨ g.lo + g.w ≤ f.lo))

theorem State.get_set_clear (s : State) {f g : Fld} (v : Nat) (h : f.Clear g) :
    (s.set f v).get g = s.get g := by
  obtain h | ⟨hfit, h⟩ := h
  · exact State.get_set_ne s f g v h
  · exact State.get_set_apart s f g v hfit h

/-- A field of every lane, inside the lane's own block of registers. -/
abbrev LaneReg (f : Nat → Fld) : Prop :=
  ∀ l < 48, 0x100000 + 0x1000 * l ≤ (f l).addr ∧ (f l).addr < 0x101000 + 0x1000 * l

/-- Writes of the listed fields of a lane leave its field g. -/
abbrev LaneClear (fs : List (Nat → Fld)) (g : Nat → Fld) : Prop :=
  ∀ f ∈ fs, ∀ l < 48, (f l).Clear (g l)

theorem LaneClear.mono {fs gs : List (Nat → Fld)} {g : Nat → Fld} (h : LaneClear fs g)
    (hsub : gs ⊆ fs) : LaneClear gs g := fun f hf => h f (hsub hf)

namespace State

variable {s t u : State} {l : Nat}

/-- The written field of a lane reads what was written, in its width. -/
theorem get_set_lane_same (hl : l < 48) (s : State) {f : Nat → Fld} (v : Nat)
    (h : ∀ k < 48, (f k).lo + (f k).w ≤ 32) : (s.set (f l) v).get (f l) = v % 2 ^ (f l).w :=
  get_set s _ v (h l hl)

/-- A lane's field that is clear of the written one stays. -/
theorem get_set_lane (hl : l < 48) (s : State) {f g : Nat → Fld} (v : Nat)
    (h : ∀ k < 48, (f k).Clear (g k)) : (s.set (f l) v).get (g l) = s.get (g l) :=
  get_set_clear s v (h l hl)

@[simp] theorem get_setLane (s : State) (l : Nat) (x : LaneS) (f : Fld) :
    (s.setLane l x).get f = s.get f := rfl

@[simp] theorem setLane_out (s : State) (l : Nat) (x : LaneS) : (s.setLane l x).out = s.out := rfl

@[simp] theorem get_emit (s : State) (o : Out) (f : Fld) : (s.emit o).get f = s.get f := rfl

@[simp] theorem lane_set (s : State) (f : Fld) (v k : Nat) : (s.set f v).lane k = s.lane k := rfl

@[simp] theorem lane_setLane (s : State) (l : Nat) (x : LaneS) : (s.setLane l x).lane l = x :=
  sget_sput_same _ _ _ _

theorem lane_setLane_ne (s : State) {l k : Nat} (x : LaneS) (h : k ≠ l) :
    (s.setLane l x).lane k = s.lane k :=
  sget_sput_ne _ _ _ _ h

theorem on_congr {f : Fld} (h : t.get f = s.get f) : t.on f = s.on f := by rw [on, on, h]

theorem lst_congr (h : t.get (F.LANE_STAT_STATE l) = s.get (F.LANE_STAT_STATE l)) :
    t.lst l = s.lst l := by rw [lst, lst, h]

theorem lrole_congr (h : t.get (F.LANE_CFG_ROLE l) = s.get (F.LANE_CFG_ROLE l)) :
    t.lrole l = s.lrole l := by rw [lrole, lrole, h]

/-- A flag of a lane that has been set reads 1. -/
theorem on_flag_lane (hl : l < 48) (s : State) {f : Nat → Fld}
    (h : ∀ k < 48, (f k).lo + (f k).w ≤ 32) (hw : ∀ k < 48, (f k).w = 1) :
    (s.flag (f l)).on (f l) = true := by
  rw [on, flag, get_set_lane_same hl s 1 h, hw l hl]
  rfl

end State

/-! ## What a lane's commands leave of the rest -/

namespace LaneOnly

variable {s t u : State} {l : Nat}

theorem refl (l : Nat) (s : State) : LaneOnly l s s := ⟨rfl, fun _ _ _ => rfl, fun _ _ => rfl⟩

theorem trans (h : LaneOnly l s t) (k : LaneOnly l t u) : LaneOnly l s u := by
  obtain ⟨hst, hregs, hlanes⟩ := h
  obtain ⟨htu, hregs', hlanes'⟩ := k
  refine ⟨?_, fun a ha d => (hregs' a ha d).trans (hregs a ha d),
    fun j hj => (hlanes' j hj).trans (hlanes j hj)⟩
  rw [htu, hst]

theorem elapsed (h : LaneOnly l s t) : t.elapsed = s.elapsed := by
  obtain ⟨hrest, -⟩ := h
  rw [hrest]

theorem sideBit (h : LaneOnly l s t) : t.sideBit = s.sideBit := by
  obtain ⟨hrest, -⟩ := h
  rw [State.sideBit, State.sideBit, hrest]

/-- A write of a field of the lane. -/
theorem set (h : LaneOnly l s t) (hl : l < 48) {f : Nat → Fld} {v : Nat} (hf : LaneReg f) :
    LaneOnly l s (t.set (f l) v) := by
  refine h.trans ⟨rfl, fun a ha d => ?_, fun _ _ => rfl⟩
  have := hf l hl
  exact sget_sput_ne t.regs _ d _ (by omega)

theorem setLane (h : LaneOnly l s t) (x : LaneS) : LaneOnly l s (t.setLane l x) :=
  h.trans ⟨rfl, fun _ _ _ => rfl, fun _ hk => t.lane_setLane_ne x hk⟩

theorem when (h : LaneOnly l s t) {c : Bool} {f : State → State} (hf : LaneOnly l t (f t)) :
    LaneOnly l s (t.when c f) :=
  State.when_of t c f (LaneOnly l s) h (h.trans hf)

theorem ite {c : Prop} [Decidable c] (ht : LaneOnly l s t) (hu : LaneOnly l s u) :
    LaneOnly l s (if c then t else u) := by
  split
  · exact ht
  · exact hu

/-- What changes one register of the lane alone changes the lane alone. -/
theorem of_regsOnly (hl : l < 48) {f : Nat → Fld} (hf : LaneReg f)
    (h : RegsOnly [(f l).addr] s t) : LaneOnly l s t := by
  obtain ⟨hrest, hregs⟩ := h
  have := hf l hl
  refine ⟨?_, fun a ha d => hregs a (mt List.mem_singleton.1 (by omega)) d, fun _ _ => ?_⟩
  · rw [hrest]
  · rw [State.lane, State.lane, hrest]

/-- A write of a field outside the lane commutes with what the lane does: both sides write the same
word. -/
theorem set_both (h : LaneOnly l s t) (f : Fld) (v : Nat)
    (hf : f.addr < 0x100000 + 0x1000 * l ∨ 0x101000 + 0x1000 * l ≤ f.addr) :
    LaneOnly l (s.set f v) (t.set f v) := by
  obtain ⟨hrest, hregs, hlanes⟩ := h
  have hword : t.word f = s.word f := by rw [State.word, State.word, hregs _ hf]
  refine ⟨?_, fun a ha d => ?_, hlanes⟩
  · rw [hrest]
    rfl
  · change sget (sput t.regs _ f.addr (BitVec.ofNat 32 (setBits (t.word f) f.lo f.w v))) d a =
      sget (sput s.regs _ f.addr (BitVec.ofNat 32 (setBits (s.word f) f.lo f.w v))) d a
    by_cases h : a = f.addr
    · subst h
      unfold sput
      rw [hword]
      split
      · rw [sget_sdel_same, sget_sdel_same]
      · rw [sget_sins_same, sget_sins_same]
    · rw [sget_sput_ne _ _ _ _ h, sget_sput_ne _ _ _ _ h, hregs a ha d]

end LaneOnly

/-! ## Training -/

namespace State

variable {s t u : State} {l : Nat}

/-! ### The steps that several commands share -/

theorem lst_setLst (hl : l < 48) (s : State) (x : LState) : (s.setLst l x).lst l = x := by
  have hstate : (s.setLst l x).get (F.LANE_STAT_STATE l) = x.code % 8 := by
    rw [setLst, get_set_lane hl _ _ (by decide), get_set_lane_same hl _ _ (by decide)]
    rfl
  rw [lst, hstate]
  cases x <;> rfl

theorem setLst_get (hl : l < 48) (s : State) (x : LState) {g : Nat → Fld}
    (h : LaneClear [F.LANE_STAT_STATE, F.LANE_CTRL_TRAIN] g) :
    (s.setLst l x).get (g l) = s.get (g l) := by
  have hstate := h F.LANE_STAT_STATE (by simp)
  have htrain := h F.LANE_CTRL_TRAIN (by simp)
  rw [setLst, get_set_lane hl _ _ htrain, get_set_lane hl _ _ hstate]

theorem setLst_laneOnly (hl : l < 48) (s : State) (x : LState) : LaneOnly l s (s.setLst l x) :=
  .set (.set (.refl l s) hl (by decide)) hl (by decide)

theorem ctleHold_laneOnly (hl : l < 48) (s : State) : LaneOnly l s (s.ctleHold l) :=
  .when (.refl l s) (.set (.refl l s) hl (by decide))

theorem ctleHold_get (hl : l < 48) (s : State) {g : Nat → Fld}
    (h : ∀ k < 48, (F.LANE_RXEQ_CTLE_CUR k).Clear (g k)) : (s.ctleHold l).get (g l) = s.get (g l) :=
  when_of s _ _ (fun t => t.get (g l) = s.get (g l)) rfl (get_set_lane hl s _ h)

theorem get_lt (s : State) (f : Fld) : s.get f < 2 ^ f.w := Nat.mod_lt _ (Nat.two_pow_pos _)

/-- A field of a lane takes the value of another of its width. -/
theorem get_set_lane_get (hl : l < 48) (s t : State) {f g : Nat → Fld}
    (h : ∀ k < 48, (f k).lo + (f k).w ≤ 32 ∧ (g k).w = (f k).w) :
    (s.set (f l) (t.get (g l))).get (f l) = t.get (g l) := by
  obtain ⟨hfit, hw⟩ := h l hl
  rw [get_set s _ _ hfit, ← hw]
  exact Nat.mod_eq_of_lt (get_lt t (g l))

/-- Outside DISABLED the CTLE shows CTLE_SET under CTLE_FIX. -/
theorem ctleHold_ctle (hl : l < 48) (h : s.lst l ≠ .disabled) :
    (s.ctleHold l).get (F.LANE_RXEQ_CTLE_CUR l) =
      if s.on (F.LANE_RXEQ_CTLE_FIX l) then s.get (F.LANE_RXEQ_CTLE_SET l)
      else s.get (F.LANE_RXEQ_CTLE_CUR l) := by
  rw [ctleHold, decide_eq_true h, Bool.and_true]
  cases s.on (F.LANE_RXEQ_CTLE_FIX l)
  · rfl
  · exact get_set_lane_get hl s s (g := F.LANE_RXEQ_CTLE_SET) (by decide)

/-- The coefficients that the entry to TRAIN starts from, with the freeze ended (R84, R90). -/
def trainCoeffs (s : State) (l : Nat) : State :=
  let s' := (s.setLane l { s.lane l with idles := 0, guard := false }).set (F.LANE_STAT_FROZEN l) 0
  if (s.lane l).snap then
    (s'.set (F.LANE_RXEQ_CTLE_CUR l) (s'.get (F.LANE_RXEQ_CTLE_SNAP l))).set (R.LANE_DFE l)
      (s'.get (R.LANE_DFE_SNAP l))
  else (s'.set (F.LANE_RXEQ_CTLE_CUR l) (s'.get (F.LANE_RXEQ_CTLE_SET l))).set (R.LANE_DFE l) 0

theorem toTrain_eq (s : State) (l : Nat) :
    s.toTrain l = ((s.trainCoeffs l).setLst l .train).ctleHold l := rfl

theorem trainCoeffs_laneOnly (hl : l < 48) (s : State) : LaneOnly l s (s.trainCoeffs l) := by
  have hfree : LaneOnly l s ((s.setLane l { s.lane l with idles := 0, guard := false }).set
      (F.LANE_STAT_FROZEN l) 0) := (LaneOnly.setLane (.refl l s) _).set hl (by decide)
  exact .ite ((hfree.set hl (f := F.LANE_RXEQ_CTLE_CUR) (by decide)).set hl (by decide))
    ((hfree.set hl (f := F.LANE_RXEQ_CTLE_CUR) (by decide)).set hl (by decide))

theorem trainCoeffs_get (hl : l < 48) (s : State) {g : Nat → Fld}
    (h : LaneClear [F.LANE_STAT_FROZEN, F.LANE_RXEQ_CTLE_CUR, R.LANE_DFE] g) :
    (s.trainCoeffs l).get (g l) = s.get (g l) := by
  have hfrozen := h F.LANE_STAT_FROZEN (by simp)
  have hctle := h F.LANE_RXEQ_CTLE_CUR (by simp)
  have hdfe := h R.LANE_DFE (by simp)
  unfold trainCoeffs
  extract_lets x s'
  have hs' : s'.get (g l) = s.get (g l) := get_set_lane hl _ _ hfrozen
  split
  all_goals rw [get_set_lane hl _ _ hdfe, get_set_lane hl _ _ hctle, hs']

theorem trainCoeffs_ctle (hl : l < 48) (s : State) :
    (s.trainCoeffs l).get (F.LANE_RXEQ_CTLE_CUR l) =
      if (s.lane l).snap then s.get (F.LANE_RXEQ_CTLE_SNAP l)
      else s.get (F.LANE_RXEQ_CTLE_SET l) := by
  unfold trainCoeffs
  extract_lets x s'
  split
  · rw [get_set_lane hl _ _ (by decide), get_set_lane_get hl _ _ (f := F.LANE_RXEQ_CTLE_CUR)
      (g := F.LANE_RXEQ_CTLE_SNAP) (by decide)]
    exact get_set_lane hl _ _ (by decide)
  · rw [get_set_lane hl _ _ (by decide), get_set_lane_get hl _ _ (f := F.LANE_RXEQ_CTLE_CUR)
      (g := F.LANE_RXEQ_CTLE_SET) (by decide)]
    exact get_set_lane hl _ _ (by decide)

theorem toTrain_laneOnly (hl : l < 48) (s : State) : LaneOnly l s (s.toTrain l) :=
  ((trainCoeffs_laneOnly hl s).trans (setLst_laneOnly hl _ _)).trans (ctleHold_laneOnly hl _)

theorem toTrain_lst (hl : l < 48) (s : State) : (s.toTrain l).lst l = .train := by
  rw [toTrain_eq, lst_congr (ctleHold_get hl _ (by decide)), lst_setLst hl]

/-- The fields of a lane that the entry to TRAIN writes. -/
def trainFlds : List (Nat → Fld) :=
  [F.LANE_STAT_FROZEN, F.LANE_RXEQ_CTLE_CUR, R.LANE_DFE, F.LANE_STAT_STATE, F.LANE_CTRL_TRAIN]

theorem trainCoeffs_setLst_get (hl : l < 48) (s : State) {g : Nat → Fld}
    (h : LaneClear trainFlds g) :
    ((s.trainCoeffs l).setLst l .train).get (g l) = s.get (g l) := by
  rw [setLst_get hl _ _ (h.mono (by simp [trainFlds])),
    trainCoeffs_get hl _ (h.mono (by simp [trainFlds]))]

theorem toTrain_get (hl : l < 48) (s : State) {g : Nat → Fld} (h : LaneClear trainFlds g) :
    (s.toTrain l).get (g l) = s.get (g l) := by
  rw [toTrain_eq, ctleHold_get hl _ (h F.LANE_RXEQ_CTLE_CUR (by simp [trainFlds])),
    trainCoeffs_setLst_get hl s h]

/-- TRAIN starts at the snapshot, or without one, or with CTLE_FIX, at the set value (R80, R90). -/
theorem toTrain_ctle (hl : l < 48) (s : State) :
    (s.toTrain l).get (F.LANE_RXEQ_CTLE_CUR l) =
      if (s.lane l).snap = true ∧ s.on (F.LANE_RXEQ_CTLE_FIX l) = false then
        s.get (F.LANE_RXEQ_CTLE_SNAP l) else s.get (F.LANE_RXEQ_CTLE_SET l) := by
  have htrain : ((s.trainCoeffs l).setLst l .train).lst l ≠ .disabled := by
    rw [lst_setLst hl]
    decide
  have hfix := on_congr (trainCoeffs_setLst_get hl s (g := F.LANE_RXEQ_CTLE_FIX) (by decide))
  have hset := trainCoeffs_setLst_get hl s (g := F.LANE_RXEQ_CTLE_SET) (by decide)
  rw [toTrain_eq, ctleHold_ctle hl htrain, hfix, hset, setLst_get hl _ _ (by decide),
    trainCoeffs_ctle hl]
  cases (s.lane l).snap <;> cases s.on (F.LANE_RXEQ_CTLE_FIX l) <;> simp

end State

/-! ### Frames that a lane sends -/

namespace State

variable {s t u : State} {l : Nat}

/-- The fill before a frame, as the lane sends it. -/
theorem fillOut_eq (s : State) (l : Nat) :
    s.fillOut l = { s with out := s.out ++ s.fillBefore l } := by
  unfold fillOut fillBefore
  by_cases h : s.fillSkps l = 0
  · simp [h]
  · simp [h, emit]

/-- A string frame leaves after the fill before it and is followed by one SKP (R73, R103); of the
lane it moves the instant of its latest SKP. -/
theorem sendLane_eq (s : State) (l : Nat) (f : Bytes) : s.sendLane l f =
    { s with out := s.out ++ s.fillBefore l ++ [Out.lane l f, Out.skp l] }.setLane l
      { s.lane l with skpAt := s.elapsed + (f.length + 2 + (skpSet 3).length) * s.tChar l } := by
  have hout (a b : Out) : ({ s with out := s.out ++ s.fillBefore l }.emit a).emit b =
      { s with out := s.out ++ s.fillBefore l ++ [a, b] } := by
    simp [emit]
  simp only [sendLane, sendFrame, fillOut_eq, ne_eq, not_true_eq_false, decide_false, when_false,
    hout]
  rfl

theorem sendLane_laneOnly (s : State) (l : Nat) (f : Bytes) : LaneOnly l s (s.sendLane l f) := by
  rw [sendLane_eq]
  exact LaneOnly.setLane ⟨rfl, fun _ _ _ => rfl, fun _ _ => rfl⟩ _

theorem sendLane_regs (s : State) (l : Nat) (f : Bytes) : (s.sendLane l f).regs = s.regs := by
  rw [sendLane_eq]
  rfl

theorem sendLane_out (s : State) (l : Nat) (f : Bytes) :
    (s.sendLane l f).out = s.out ++ s.fillBefore l ++ [.lane l f, .skp l] := by
  rw [sendLane_eq]
  rfl

theorem sendLane_lane (s : State) (l : Nat) (f : Bytes) : (s.sendLane l f).lane l =
    { s.lane l with skpAt := s.elapsed + (f.length + 2 + (skpSet 3).length) * s.tChar l } := by
  rw [sendLane_eq, lane_setLane]

/-- What a string lane has sent since its latest frame depends on its rate and on the time alone. -/
theorem fillBefore_string (h : s.lrole l = .string) (ht : t.lrole l = .string)
    (hrate : t.get (F.LANE_CFG_RATE l) = s.get (F.LANE_CFG_RATE l)) (hnow : t.elapsed = s.elapsed)
    (hskp : (t.lane l).skpAt = (s.lane l).skpAt) : t.fillBefore l = s.fillBefore l := by
  have hskps : t.fillSkps l = s.fillSkps l := by
    simp only [fillSkps, laneFill, h, ht, tChar, hrate, hnow, hskp]
  rw [fillBefore, fillBefore, hskps]

/-- The lane with the nonce of its next HELLO (R90). -/
def withNonce (s : State) (l : Nat) : State :=
  { s with free := s.free + 1 }.setLane l
    { s.lane l with nonce := Config.freeValue s.free % 2 ^ 32 }

theorem sendHello_string (h : s.lrole l = .string) : s.sendHello l =
    (s.withNonce l).sendLane l
      (helloFrame 0 s.sideBit (s.lidx l) ((s.withNonce l).lane l).nonce) := by
  have hrole : (s.withNonce l).lrole l = .string := h
  rw [withNonce, lane_setLane]
  unfold sendHello
  split
  next v r hfresh =>
    obtain ⟨rfl, rfl⟩ := Prod.mk.inj hfresh
    extract_lets n x
    split
    next => rfl
    next h' => exact absurd (hrole.symm.trans h') (by decide)
    next h' _ => exact absurd hrole h'

/-- What the HELLO of a string lane leaves: it goes out with a fresh nonce, which the lane keeps. -/
theorem sendHello_spec (h : s.lrole l = .string) :
    (s.sendHello l).regs = s.regs ∧ ((s.sendHello l).lane l).snap = (s.lane l).snap ∧
      (s.sendHello l).out = s.out ++ s.fillBefore l ++
        [.lane l (helloFrame 0 s.sideBit (s.lidx l) ((s.sendHello l).lane l).nonce), .skp l] ∧
      LaneOnly l s (s.sendHello l) := by
  have hfill : (s.withNonce l).fillBefore l = s.fillBefore l :=
    fillBefore_string h h rfl rfl (by rw [withNonce, lane_setLane])
  have honly : LaneOnly l s (s.withNonce l) :=
    LaneOnly.setLane ⟨rfl, fun _ _ _ => rfl, fun _ _ => rfl⟩ _
  rw [sendHello_string h, sendLane_regs, sendLane_lane, sendLane_out, hfill]
  refine ⟨rfl, ?_, rfl, honly.trans (sendLane_laneOnly _ _ _)⟩
  rw [withNonce, lane_setLane]

end State

/-! ### From TRAIN to UP and back -/

namespace State

variable {s t u : State} {l : Nat}

/-- DISABLED is left with ATTEMPT 0 (R89, R90). -/
theorem laneTrain_spec (hl : l < 48) (hrole : s.lrole l = .string ∨ s.lrole l = .mirror)
    (hst : s.lst l = .disabled) :
    (s.laneTrain l).lst l = .train ∧ (s.laneTrain l).get (F.LANE_STAT_ATTEMPT l) = 0 ∧
      (s.laneTrain l).get (F.LANE_RXEQ_CTLE_CUR l) =
        (if (s.lane l).snap = true ∧ s.on (F.LANE_RXEQ_CTLE_FIX l) = false then
          s.get (F.LANE_RXEQ_CTLE_SNAP l) else s.get (F.LANE_RXEQ_CTLE_SET l)) ∧
      LaneOnly l s (s.laneTrain l) := by
  have hgo : ((s.lrole l = .string || s.lrole l = .mirror) && s.lst l = .disabled) = true := by
    simp [hrole, hst]
  have hkeep (g : Nat → Fld) (h : ∀ k < 48, (F.LANE_STAT_ATTEMPT k).Clear (g k)) :
      ((s.set (F.LANE_STAT_ATTEMPT l) 0).setLane l
        { s.lane l with skpAt := s.elapsed }).get (g l) = s.get (g l) := get_set_lane hl s 0 h
  rw [laneTrain, if_pos hgo]
  refine ⟨toTrain_lst hl _, ?_, ?_, ?_⟩
  · rw [toTrain_get hl _ (by decide), get_setLane, get_set_lane_same hl _ _ (by decide)]
    rfl
  · rw [toTrain_ctle hl, on_congr (hkeep F.LANE_RXEQ_CTLE_FIX (by decide)),
      hkeep F.LANE_RXEQ_CTLE_SNAP (by decide), hkeep F.LANE_RXEQ_CTLE_SET (by decide), lane_setLane]
  · exact (LaneOnly.setLane (.set (.refl l s) hl (by decide)) _).trans (toTrain_laneOnly hl _)

/-- The snapshot that the end of the adaptation step takes, in HELLO (R83, R90). -/
def trained (s : State) (l : Nat) : State :=
  let s := s.set (F.LANE_RXEQ_CTLE_SNAP l) (s.get (F.LANE_RXEQ_CTLE_CUR l))
  let s := s.set (R.LANE_DFE_SNAP l) (s.get (R.LANE_DFE l))
  (s.setLane l { s.lane l with snap := true }).setLst l .hello

theorem trainDone_eq (hst : s.lst l = .train) (hsync : s.on (F.LANE_STAT_SYNC l) = true) :
    s.trainDone l = (s.trained l).sendHello l := by
  rw [trainDone, if_pos (by simp [hst, hsync])]
  rfl

theorem trained_laneOnly (hl : l < 48) (s : State) : LaneOnly l s (s.trained l) :=
  (LaneOnly.setLane (.set (.set (.refl l s) hl (f := F.LANE_RXEQ_CTLE_SNAP) (by decide)) hl
    (f := R.LANE_DFE_SNAP) (by decide)) _).trans (setLst_laneOnly hl _ _)

theorem trained_get (hl : l < 48) (s : State) {g : Nat → Fld} (h : LaneClear
    [F.LANE_RXEQ_CTLE_SNAP, R.LANE_DFE_SNAP, F.LANE_STAT_STATE, F.LANE_CTRL_TRAIN] g) :
    (s.trained l).get (g l) = s.get (g l) := by
  have hctle := h F.LANE_RXEQ_CTLE_SNAP (by simp)
  have hdfe := h R.LANE_DFE_SNAP (by simp)
  rw [trained, setLst_get hl _ _ (h.mono (by simp)), get_setLane,
    get_set_lane hl _ _ hdfe, get_set_lane hl _ _ hctle]

theorem trained_out (s : State) (l : Nat) : (s.trained l).out = s.out := by
  simp only [trained, setLst, set_out, setLane_out]

theorem trained_snap (s : State) (l : Nat) : ((s.trained l).lane l).snap = true := by
  rw [trained, setLst, lane_set, lane_set, lane_setLane]

theorem trained_ctleSnap (hl : l < 48) (s : State) :
    (s.trained l).get (F.LANE_RXEQ_CTLE_SNAP l) = s.get (F.LANE_RXEQ_CTLE_CUR l) := by
  rw [trained, setLst_get hl _ _ (by decide), get_setLane, get_set_lane hl _ _ (by decide),
    get_set_lane_get hl s s (g := F.LANE_RXEQ_CTLE_CUR) (by decide)]

/-- The adaptation step ends with the snapshot, HELLO and a HELLO (R83, R90). -/
theorem trainDone_spec (hl : l < 48) (hst : s.lst l = .train)
    (hsync : s.on (F.LANE_STAT_SYNC l) = true) (hrole : s.lrole l = .string) :
    (s.trainDone l).lst l = .hello ∧ ((s.trainDone l).lane l).snap = true ∧
      (s.trainDone l).get (F.LANE_RXEQ_CTLE_SNAP l) = s.get (F.LANE_RXEQ_CTLE_CUR l) ∧
      (s.trainDone l).out = s.out ++ s.fillBefore l ++
        [.lane l (helloFrame 0 s.sideBit (s.lidx l) ((s.trainDone l).lane l).nonce), .skp l] ∧
      LaneOnly l s (s.trainDone l) := by
  have hrole' : (s.trained l).lrole l = .string :=
    (lrole_congr (trained_get hl s (by decide))).trans hrole
  have hfill : (s.trained l).fillBefore l = s.fillBefore l := by
    refine fillBefore_string hrole hrole' (trained_get hl s (by decide))
      (trained_laneOnly hl s).elapsed ?_
    rw [trained, setLst, lane_set, lane_set, lane_setLane]
    rfl
  have hidx : (s.trained l).lidx l = s.lidx l := trained_get hl s (by decide)
  obtain ⟨hregs, hsnap, hout, honly⟩ := sendHello_spec hrole'
  rw [trainDone_eq hst hsync]
  refine ⟨?_, hsnap.trans (trained_snap s l), ?_, ?_, (trained_laneOnly hl s).trans honly⟩
  · rw [lst_congr (get_congr_regs _ hregs), trained, lst_setLst hl]
  · rw [get_congr_regs _ hregs, trained_ctleSnap hl]
  · rw [hout, hfill, hidx, trained_out, (trained_laneOnly hl s).sideBit]

/-- An attempt that has lasted 2 ms ends in BACKOFF, the ninth in ABSENT (R90). -/
theorem attemptTimeout_spec (hl : l < 48) (hst : s.lst l = .train ∨ s.lst l = .hello) :
    (s.get (F.LANE_STAT_ATTEMPT l) < 8 → (s.attemptTimeout l).lst l = .backoff ∧
      (s.attemptTimeout l).get (F.LANE_STAT_ATTEMPT l) = s.get (F.LANE_STAT_ATTEMPT l) + 1 ∧
      ((s.attemptTimeout l).lane l).backoff = 2 ^ s.get (F.LANE_STAT_ATTEMPT l)) ∧
    (8 ≤ s.get (F.LANE_STAT_ATTEMPT l) → (s.attemptTimeout l).lst l = .absent ∧
      (s.attemptTimeout l).on (F.LANE_STAT_ABSENT_SEEN l) = true) ∧
    LaneOnly l s (s.attemptTimeout l) := by
  rw [attemptTimeout, if_pos (by simpa using hst)]
  by_cases h : s.get (F.LANE_STAT_ATTEMPT l) < 8
  · simp only [if_pos h]
    refine ⟨fun _ => ⟨lst_setLst hl _ _, ?_, ?_⟩, fun h' => absurd h (by omega), ?_⟩
    · rw [setLst_get hl _ _ (by decide), get_set_lane_same hl _ _ (by decide)]
      exact Nat.mod_eq_of_lt (show _ < 16 by omega)
    · rw [setLst, lane_set, lane_set, lane_set, lane_setLane]
    · exact (LaneOnly.set (.setLane (.refl l s) _) hl (by decide)).trans (setLst_laneOnly hl _ _)
  · simp only [if_neg h]
    refine ⟨fun h' => absurd h' h, fun _ => ⟨lst_setLst hl _ _, ?_⟩, ?_⟩
    · rw [on_congr (setLst_get hl _ _ (by decide))]
      exact on_flag_lane hl s (by decide) (by decide)
    · exact (LaneOnly.set (.refl l s) hl (by decide)).trans (setLst_laneOnly hl _ _)

/-- The registers of the strings lie behind those of the lanes. -/
theorem blkTx_behind (hl : l < 48) (n : Nat) : 0x101000 + 0x1000 * l ≤ (F.STR_BLK_G_TX n).addr := by
  change _ ≤ 0x200034 + 0x2000 * n
  omega

/-- Where UP is left, what is injected on the lane's string is withdrawn from its register. -/
def blkGone (s : State) (l : Nat) : State :=
  s.when (s.lrole l = .string && s.strLane? (s.lidx l) = some l) (fun s =>
    s.set (F.STR_BLK_G_TX (s.lidx l)) 0)

theorem blkGone_cases (s : State) (l : Nat) :
    s.blkGone l = s ∨ s.blkGone l = s.set (F.STR_BLK_G_TX (s.lidx l)) 0 :=
  when_of s _ _ (fun t => t = s ∨ t = s.set (F.STR_BLK_G_TX (s.lidx l)) 0) (.inl rfl) (.inr rfl)

theorem blkGone_get (hl : l < 48) (s : State) {g : Nat → Fld} (hg : LaneReg g) :
    (s.blkGone l).get (g l) = s.get (g l) := by
  have := blkTx_behind hl (s.lidx l)
  have := hg l hl
  exact when_of s _ _ (fun t => t.get (g l) = s.get (g l)) rfl (get_set_ne s _ _ _ (by omega))

/-- The state of an UP lane at its fall, before it enters TRAIN. -/
def fallen (s : State) (l : Nat) : State :=
  (((s.flag (F.LANE_STAT_LOS l)).inc (F.LANE_ADAPT_CNT_RETRAINS l)).blkGone l).set
    (F.LANE_STAT_ATTEMPT l) 0

theorem laneDrop_eq (hst : s.lst l = .up) : s.laneDrop l = (s.fallen l).toTrain l := by
  rw [laneDrop, if_pos hst]
  rfl

theorem fallen_get (hl : l < 48) (s : State) {g : Nat → Fld} (hg : LaneReg g)
    (h : LaneClear [F.LANE_STAT_LOS, F.LANE_ADAPT_CNT_RETRAINS, F.LANE_STAT_ATTEMPT] g) :
    (s.fallen l).get (g l) = s.get (g l) := by
  rw [fallen, get_set_lane hl _ _ (h F.LANE_STAT_ATTEMPT (by simp)), blkGone_get hl _ hg, inc,
    get_set_lane hl _ _ (h F.LANE_ADAPT_CNT_RETRAINS (by simp)), flag,
    get_set_lane hl _ _ (h F.LANE_STAT_LOS (by simp))]

theorem fallen_retrains (hl : l < 48) (s : State) : (s.fallen l).get (F.LANE_ADAPT_CNT_RETRAINS l) =
    satInc 16 (s.get (F.LANE_ADAPT_CNT_RETRAINS l)) := by
  have hsat (n : Nat) : satInc 16 n % 2 ^ 16 = satInc 16 n := by
    unfold satInc
    split <;> omega
  rw [fallen, get_set_lane hl _ _ (by decide), blkGone_get hl _ (by decide), inc,
    get_set_lane_same hl _ _ (by decide), flag, get_set_lane hl _ _ (by decide)]
  exact hsat _

theorem fallen_los (hl : l < 48) (s : State) : (s.fallen l).on (F.LANE_STAT_LOS l) = true := by
  have hlos : (s.fallen l).get (F.LANE_STAT_LOS l) =
      (s.flag (F.LANE_STAT_LOS l)).get (F.LANE_STAT_LOS l) := by
    rw [fallen, get_set_lane hl _ _ (by decide), blkGone_get hl _ (by decide), inc,
      get_set_lane hl _ _ (by decide)]
  rw [on_congr hlos]
  exact on_flag_lane hl s (by decide) (by decide)

/-- The fall changes the lane, and the register of its string's injected BLK bits. -/
theorem fallen_laneOnly (hl : l < 48) (s : State) :
    ∃ v, LaneOnly l v (s.fallen l) ∧ (v = s ∨ v = s.set (F.STR_BLK_G_TX (s.lidx l)) 0) := by
  have honly : LaneOnly l s ((s.flag (F.LANE_STAT_LOS l)).inc (F.LANE_ADAPT_CNT_RETRAINS l)) :=
    .set (.set (.refl l s) hl (by decide)) hl (by decide)
  have hidx :
      ((s.flag (F.LANE_STAT_LOS l)).inc (F.LANE_ADAPT_CNT_RETRAINS l)).lidx l = s.lidx l := by
    rw [lidx, inc, get_set_lane hl _ _ (by decide), flag, get_set_lane hl _ _ (by decide)]
    rfl
  rw [fallen]
  generalize (s.flag (F.LANE_STAT_LOS l)).inc (F.LANE_ADAPT_CNT_RETRAINS l) = u at *
  rcases blkGone_cases u l with h | h
  · rw [h]
    exact ⟨s, honly.set hl (by decide), .inl rfl⟩
  · rw [h, hidx]
    exact ⟨_, (honly.set_both _ 0 (.inr (blkTx_behind hl _))).set hl (by decide), .inr rfl⟩

theorem sigLost_laneOnly (hl : l < 48) (s : State) : LaneOnly l s (s.sigLost l) :=
  .set (.set (.set (.refl l s) hl (f := F.LANE_STAT_SIG_DET) (by decide)) hl
    (f := F.LANE_STAT_CDR_LOCK) (by decide)) hl (by decide)

theorem sigLost_get (hl : l < 48) (s : State) {g : Nat → Fld}
    (h : LaneClear [F.LANE_STAT_SIG_DET, F.LANE_STAT_CDR_LOCK, F.LANE_STAT_SYNC] g) :
    (s.sigLost l).get (g l) = s.get (g l) := by
  rw [sigLost, get_set_lane hl _ _ (h F.LANE_STAT_SYNC (by simp)),
    get_set_lane hl _ _ (h F.LANE_STAT_CDR_LOCK (by simp)),
    get_set_lane hl _ _ (h F.LANE_STAT_SIG_DET (by simp))]

theorem sigLost_sync (hl : l < 48) (s : State) : (s.sigLost l).on (F.LANE_STAT_SYNC l) = false := by
  rw [on, sigLost, get_set_lane_same hl _ _ (by decide)]
  rfl

/-- A string lane without its signal leaves UP (R90). -/
theorem laneLos_eq (hl : l < 48) (hrole : s.lrole l = .string) :
    s.laneLos l true = (s.sigLost l).laneDrop l := by
  have hnear : s.nearEnd l = false := by simp [nearEnd, hrole]
  have hrole' : (s.sigLost l).lrole l = .string :=
    (lrole_congr (sigLost_get hl s (by decide))).trans hrole
  simp [laneLos, hnear, sigLost_sync hl s, hrole']

/-- The lane of a string that is UP falls back to TRAIN without its signal (R90); its string's mask
of injected BLK bits goes with it (R141). -/
theorem laneLos_spec (hl : l < 48) (hrole : s.lrole l = .string) (hst : s.lst l = .up) :
    (s.laneLos l true).lst l = .train ∧ (s.laneLos l true).on (F.LANE_STAT_LOS l) = true ∧
      (s.laneLos l true).on (F.LANE_STAT_SYNC l) = false ∧
      (s.laneLos l true).get (F.LANE_STAT_ATTEMPT l) = 0 ∧
      (s.laneLos l true).get (F.LANE_ADAPT_CNT_RETRAINS l) =
        satInc 16 (s.get (F.LANE_ADAPT_CNT_RETRAINS l)) ∧
      ∃ v, LaneOnly l v (s.laneLos l true) ∧ (v = s ∨ v = s.set (F.STR_BLK_G_TX (s.lidx l)) 0) := by
  have hst' : (s.sigLost l).lst l = .up := (lst_congr (sigLost_get hl s (by decide))).trans hst
  have hidx : (s.sigLost l).lidx l = s.lidx l := sigLost_get hl s (by decide)
  have hlost := sigLost_laneOnly hl s
  rw [laneLos_eq hl hrole, laneDrop_eq hst']
  refine ⟨toTrain_lst hl _, ?_, ?_, ?_, ?_, ?_⟩
  · rw [on_congr (toTrain_get hl _ (by decide)), fallen_los hl]
  · rw [on_congr (toTrain_get hl _ (by decide)), on_congr (fallen_get hl _ (by decide) (by decide)),
      sigLost_sync hl]
  · rw [toTrain_get hl _ (by decide), fallen, get_set_lane_same hl _ _ (by decide)]
    rfl
  · rw [toTrain_get hl _ (by decide), fallen_retrains hl, sigLost_get hl s (by decide)]
  · obtain ⟨v, honly, hv⟩ := fallen_laneOnly hl (s.sigLost l)
    have htrain := honly.trans (toTrain_laneOnly hl _)
    rw [hidx] at hv
    obtain rfl | rfl := hv
    · exact ⟨s, hlost.trans htrain, .inl rfl⟩
    · exact ⟨_, (hlost.set_both _ 0 (.inr (blkTx_behind hl _))).trans htrain, .inr rfl⟩

end State

/-! ## What leaves the lanes' registers and the memories -/

/-- A register outside the blocks of the lanes. -/
abbrev OffLanes (f : Fld) : Prop := f.addr < 0x100000 ∨ 0x200000 ≤ f.addr

/-- A register of a family that begins behind the lanes. -/
theorem offLanes_family {base : Nat} (k : Nat) (h : 0x200000 ≤ base) :
    base + k < 0x100000 ∨ 0x200000 ≤ base + k := .inr (Nat.le_add_right_of_le h)

/-- t holds the memories and the lanes' registers as s does. -/
structure State.LanesKept (s t : State) : Prop where
  mem : t.mem = s.mem
  regs : ∀ a, 0x100000 ≤ a → a < 0x200000 → ∀ d, sget t.regs d a = sget s.regs d a

namespace State

variable {s t u : State} {l : Nat}

namespace LanesKept

theorem refl (s : State) : LanesKept s s := ⟨rfl, fun _ _ _ _ => rfl⟩

theorem trans (h : LanesKept s t) (k : LanesKept t u) : LanesKept s u :=
  ⟨k.mem.trans h.mem, fun a h1 h2 d => (k.regs a h1 h2 d).trans (h.regs a h1 h2 d)⟩

theorem same (h : LanesKept s t) (hr : u.regs = t.regs) (hm : u.mem = t.mem) : LanesKept s u :=
  h.trans ⟨hm, fun _ _ _ _ => by rw [hr]⟩

theorem set (h : LanesKept s t) {f : Fld} {v : Nat} (hf : OffLanes f) : LanesKept s (t.set f v) :=
  h.trans ⟨rfl, fun _ h1 h2 d => sget_sput_ne t.regs _ d _ (by omega)⟩

theorem when (h : LanesKept s t) {c : Bool} {f : State → State} (hf : LanesKept t (f t)) :
    LanesKept s (t.when c f) :=
  when_of t c f (LanesKept s) h (h.trans hf)

theorem ite {c : Prop} [Decidable c] (ht : LanesKept s t) (hu : LanesKept s u) :
    LanesKept s (if c then t else u) := by
  split
  · exact ht
  · exact hu

theorem foldl {α : Type} {f : State → α → State} (xs : List α) (hf : ∀ t x, LanesKept t (f t x))
    (h : LanesKept s t) : LanesKept s (xs.foldl f t) := by
  induction xs generalizing t with
  | nil => exact h
  | cons x xs ih => exact ih (h.trans (hf t x))

/-- A lane's fields read the same. -/
theorem get (h : LanesKept s t) (hl : l < 48) {g : Nat → Fld} (hg : LaneReg g) :
    t.get (g l) = s.get (g l) := by
  obtain ⟨hlo, hhi⟩ := hg l hl
  rw [State.get, State.get, word, word, h.regs _ (by omega) (by omega)]

end LanesKept

/-! ### Messages, and the mirror link -/

theorem msi_lanesKept (s : State) (v : Nat) : LanesKept s (s.msi v) :=
  .ite (.same (.refl s) rfl rfl) (.ite (.refl s) (.same (.refl s) rfl rfl))

theorem evt_lanesKept (s : State) (e : Evt) : LanesKept s (s.evt e) := by
  have hset : LanesKept s (s.set R.HOST_EVT_CAUSE (setBit (s.word R.HOST_EVT_CAUSE) e.bit true)) :=
    .set (.refl s) (by decide)
  exact .ite (hset.trans (msi_lanesKept _ _)) hset

theorem pr_lanesKept (s : State) (f : PairS → PairS) : LanesKept s (s.pr f) :=
  .same (.refl s) rfl rfl

theorem setRole_lanesKept (s : State) (r : Role) : LanesKept s (s.setRole r) := by
  have hrole : LanesKept s (s.set F.PAIR_STAT_ROLE r.code) := .set (.refl s) (by decide)
  exact .ite (.refl s) (hrole.trans (evt_lanesKept _ _))

theorem relaysEnd_lanesKept (s : State) : LanesKept s s.relaysEnd := by
  refine .foldl _ (fun t n => .ite (.set ?_ ?_) (.refl t)) (.refl s)
  · exact .same (.refl t) rfl rfl
  · exact offLanes_family (base := 0x200010) _ (by decide)

theorem claimAssert_lanesKept (s : State) : LanesKept s s.claimAssert := by
  have hout : LanesKept s ((s.set F.PAIR_STAT_ACT_OUT 1).emit (.pin "PAIR_ACT_OUT" true)) :=
    .same (.set (f := F.PAIR_STAT_ACT_OUT) (v := 1) (.refl s) (by decide)) rfl rfl
  unfold claimAssert
  extract_lets s1 s2
  have hepoch : LanesKept s s2 := (hout.set (by decide)).set (by decide)
  exact (hepoch.trans (pr_lanesKept _ _)).trans (setRole_lanesKept _ _)

theorem vetoEnd_lanesKept (s : State) : LanesKept s s.vetoEnd :=
  .ite (claimAssert_lanesKept s) (.refl s)

theorem linkCome_lanesKept (s : State) : LanesKept s s.linkCome := by
  unfold linkCome
  extract_lets s1 s2
  have hlink : LanesKept s s1 :=
    .set (.set (.refl s) (f := F.PAIR_STAT_LINK) (by decide)) (by decide)
  have hrest : LanesKept s s2 := (hlink.set (f := F.PAIR_STAT_ALIGNED) (by decide)).set (by decide)
  exact hrest.trans (pr_lanesKept _ _)

theorem linkGo_lanesKept (s : State) (code : Nat) : LanesKept s (s.linkGo code) := by
  unfold linkGo
  extract_lets s1 s2 s3 s4
  have hlink : LanesKept s s1 :=
    .set (.set (.refl s) (f := F.PAIR_STAT_LINK) (by decide)) (by decide)
  have hdelay : LanesKept s s2 := (hlink.set (f := F.PAIR_DLY_RLAG) (by decide)).set (by decide)
  have hrelay : LanesKept s s3 := (hdelay.trans (relaysEnd_lanesKept _)).trans (pr_lanesKept _ _)
  have hrole : LanesKept s s4 := hrelay.when (setRole_lanesKept _ _)
  exact hrole.trans (vetoEnd_lanesKept _)

/-- The mirror link brought up to date leaves the lanes (R390). -/
theorem linkUpd_lanesKept (s : State) : LanesKept s s.linkUpd := by
  unfold linkUpd
  extract_lets s1 w
  have hpeers : LanesKept s s1 := pr_lanesKept _ _
  exact .ite (.ite hpeers (hpeers.trans (linkGo_lanesKept _ _)))
    (.ite (hpeers.trans (linkCome_lanesKept _)) (hpeers.set (by decide)))

/-! ### Strings -/

theorem strFlags_lanesKept (s : State) (n : Nat) : LanesKept s (s.strFlags n) := by
  have henum : OffLanes (R.STR_ENUM n) := offLanes_family (base := 0x200014) _ (by decide)
  have hstat : OffLanes (R.STR_STAT n) := offLanes_family (base := 0x200010) _ (by decide)
  unfold strFlags
  extract_lets x e s1 s2 s3 s4 s5
  have h3 : LanesKept s s3 := by
    refine .set (.set (.set (.refl s) ?_) ?_) ?_
    exacts [henum, henum, henum]
  clear_value s3
  refine .set (.set (.set h3 ?_) ?_) ?_
  exacts [hstat, hstat, hstat]

theorem setSst_lanesKept (s : State) (n : Nat) (x : SState) : LanesKept s (s.setSst n x) :=
  .trans (.set (.set (.refl s) (f := F.STR_STAT_STATE n)
    (offLanes_family (base := 0x200010) _ (by decide))) (f := F.STR_CTRL_ENUM n)
    (offLanes_family (base := 0x20000c) _ (by decide))) (strFlags_lanesKept _ _)

theorem strStop_lanesKept (s : State) (n : Nat) (x : SState) : LanesKept s (s.strStop n x) := by
  unfold strStop
  extract_lets y s1
  have hstr : LanesKept s s1 := .same (.refl s) rfl rfl
  have hreenum : LanesKept s (s1.set (F.STR_CTRL_REENUM n) 0) :=
    hstr.set (offLanes_family (base := 0x20000c) _ (by decide))
  exact hreenum.trans (setSst_lanesKept _ _ _)

theorem emit_lanesKept (s : State) (o : Out) : LanesKept s (s.emit o) := .same (.refl s) rfl rfl

theorem blkOut_lanesKept (s : State) (l g : Nat) : LanesKept s (s.blkOut l g) :=
  ((((emit_lanesKept s _).trans (emit_lanesKept _ _)).trans (emit_lanesKept _ _)).trans
    (emit_lanesKept _ _))

theorem holdLane_lanesKept (s : State) (l : Nat) : LanesKept s (s.holdLane l) := by
  have hmask : LanesKept s (s.set (F.STR_BLK_G_TX (s.lidx l)) 0xFF) :=
    .set (.refl s) (offLanes_family (base := 0x200034) _ (by decide))
  unfold holdLane
  extract_lets s1
  have h1 : LanesKept s s1 := .when (.refl s) hmask
  exact .ite (h1.trans (blkOut_lanesKept _ _ _)) (.refl s)

/-! ### UP -/

theorem laneUp_mem (s : State) (l : Nat) : (s.laneUp l).mem = s.mem := by
  rw [laneUp, setLst, set_mem, set_mem, set_mem]

/-- What follows when the lane of a string comes UP, its BLK in SAFE_HOLD and the string's own
state, leaves the lanes' registers and the memories (R90, R93, R154). -/
theorem laneReply_lanesKept (hrole : s.lrole l = .string) {f : Bytes}
    (h : s.linkReplyOk l f = true) : LanesKept (s.laneUp l) (s.laneReply l f) := by
  have hmirror : ¬ s.lrole l = .mirror := by
    rw [hrole]
    decide
  rw [laneReply, if_neg hmirror, if_pos h]
  extract_lets s1 s2 n
  have hhold : LanesKept s1 s2 := .when (.refl _) (holdLane_lanesKept _ _)
  exact .ite (.ite (hhold.trans (strStop_lanesKept _ _ _)) (hhold.trans (strFlags_lanesKept _ _)))
    hhold

/-- A valid reply brings the lane of a string UP with ATTEMPT 0 (R90). -/
theorem laneReply_spec (hl : l < 48) (hrole : s.lrole l = .string) {f : Bytes}
    (h : s.linkReplyOk l f = true) :
    (s.laneReply l f).lst l = .up ∧ (s.laneReply l f).get (F.LANE_STAT_ATTEMPT l) = 0 ∧
      (s.laneReply l f).mem = s.mem := by
  have hkept := laneReply_lanesKept hrole h
  refine ⟨?_, ?_, hkept.mem.trans (laneUp_mem s l)⟩
  · rw [lst_congr (hkept.get hl (by decide)), laneUp, lst_setLst hl]
  · rw [hkept.get hl (by decide), laneUp, setLst_get hl _ _ (by decide),
      get_set_lane_same hl _ _ (by decide)]
    rfl

theorem onFrame_unhurt (h : (s.lane l).hurt = []) (f : Bytes) (k : State → Bytes → State) :
    s.onFrame l f k = k s f := by
  simp [onFrame, h]

/-- A synchronised string lane answers a HELLO without ENUM (R91, R106). -/
theorem helloReceive_eq {f : Bytes} (hrole : s.lrole l = .string)
    (hsync : s.on (F.LANE_STAT_SYNC l) = true) (hst : s.lst l ≠ .disabled)
    (hok : strFrameOk 2 12 f = true) (henum : (fieldLE f 1 1).testBit 0 = false) :
    s.helloReceive l f = s.sendLane l (devReply 4 (fieldLE f 4 4)) :=
  if_pos (by simp [hrole, hsync, hst, hok, bit, henum])

end State

/-! ## Writes of the host that reach a lane -/

/-- A command of a lane that the part has answers the state that it makes. -/
theorem State.gives_of_lane {s t : State} {i : Instr} {l : Nat} {P : State → Prop} (hl : l < 48)
    (hexec : exec i s = gate (okLane l) t) (h : P t) : s.Gives i P :=
  ⟨t, hexec.trans (if_pos (decide_eq_true hl)), h⟩

/-- A field of a register reads the bits that a write of the whole register puts there. -/
theorem bits_setBits_inside (x n v lo w : Nat) (h : lo + w ≤ n) :
    bits (setBits x 0 n v) lo w = bits v lo w := by
  refine Nat.eq_of_testBit_eq fun i => ?_
  rw [testBit_bits, testBit_bits, testBit_setBits]
  by_cases hi : i < w
  · rw [if_pos (by omega), Nat.sub_zero]
  · rw [decide_eq_false hi, Bool.false_and, Bool.false_and]

/-- The bits that a whole write brings into a register whose low n bits are defined. -/
theorem merge_whole (old data n : Nat) (h : 0xFFFFFFFF &&& (2 ^ n - 1) = 2 ^ n - 1) :
    (old &&& ((0xFFFFFFFF &&& (2 ^ n - 1)) ^^^ (2 ^ n - 1))) |||
      (data &&& (0xFFFFFFFF &&& (2 ^ n - 1))) = data % 2 ^ n := by
  rw [h, Nat.xor_self, Nat.and_zero, Nat.zero_or, Nat.and_two_pow_sub_one_eq_mod]

namespace State

variable {s t u : State} {l : Nat}

/-- A host's write of a register of a lane reaches the lane. -/
theorem hostW_lane (hs : s.Awake) (hl : l < 48) {a : Nat} (k : Nat) {data : Nat}
    (ha : a = 0x100000 + k + 0x1000 * l) (hk : k < 0x1000 ∧ k % 4 = 0) (hd : data < 2 ^ 32) :
    s.hostW a data = s.wrLane l (wholeWrite a data) := by
  have hstep : a ≠ R.ETH_STEP_CMD.addr := by
    have : R.ETH_STEP_CMD.addr = 0xb0024 := rfl
    omega
  have hplace : ¬ a ≥ 0x1000000 ∧ ¬ a ≥ 0x200000 ∧ a ≥ 0x100000 := by omega
  have hlane : (a - 0x100000) / 0x1000 = l := by omega
  rw [hostW_awake s hs (by omega) hd, busW_eq_busW1 s _ hstep]
  simp [busW1, hplace, hlane, Config.lanes, hl]

/-- A field handle's data fit a word. -/
theorem fieldData_lt (s : State) (f : Fld) (v : Nat) (h : f.lo + f.w ≤ 32) :
    setBits (s.word f) f.lo f.w v < 2 ^ 32 :=
  setBits_lt _ _ _ _ 32 h (BitVec.isLt _)

/-- A register of a lane at its offset in the lane's block. -/
theorem laneOfs {a l : Nat} (k : Nat) (ha : a = 0x100000 + k + 0x1000 * l) (hk : k < 0x1000) :
    (a - 0x100000) % 0x1000 = k := by
  omega

theorem wrLane_cfg (s : State) (l data : Nat) :
    s.wrLane l (wholeWrite (R.LANE_CFG l).addr data) =
      ((s.laneCfgWrite l 0xFFFFFFFF data).testIgn l).linkUpd := by
  unfold wrLane
  rw [wholeWrite_a, laneOfs 0x08 (rfl : (R.LANE_CFG l).addr = _) (by decide)]
  rfl

theorem wrLane_ctrl (s : State) (l data : Nat) :
    s.wrLane l (wholeWrite (R.LANE_CTRL l).addr data) =
      ((s.plain ((wholeWrite (R.LANE_CTRL l).addr data).without 1)).testIgn l).when
        (bit (wholeWrite (R.LANE_CTRL l).addr data).cmd 0) (·.laneTrain l) := by
  unfold wrLane
  rw [wholeWrite_a, laneOfs 0x0C (rfl : (R.LANE_CTRL l).addr = _) (by decide)]
  rfl

theorem wrLane_txeq (s : State) (l data : Nat) :
    s.wrLane l (wholeWrite (R.LANE_TXEQ l).addr data) = s.txeqWrite l 0xFFFFFFFF data := by
  unfold wrLane
  rw [wholeWrite_a, laneOfs 0x10 (rfl : (R.LANE_TXEQ l).addr = _) (by decide)]
  rfl

theorem wrLane_prbsCtrl (s : State) (l data : Nat) :
    s.wrLane l (wholeWrite (R.LANE_PRBS_CTRL l).addr data) =
      (((s.plain (wholeWrite (R.LANE_PRBS_CTRL l).addr data)).testIgn l).genStart l
        (s.word (R.LANE_PRBS_CTRL l))).when
        (bit (wholeWrite (R.LANE_PRBS_CTRL l).addr data).cmd 8) (·.prbsClr l) := by
  unfold wrLane
  rw [wholeWrite_a, laneOfs 0x40 (rfl : (R.LANE_PRBS_CTRL l).addr = _) (by decide)]
  rfl

theorem testIgn_laneOnly (hl : l < 48) (s : State) : LaneOnly l s (s.testIgn l) :=
  .when (.refl l s) (.set (.refl l s) hl (by decide))

theorem testIgn_get (hl : l < 48) (s : State) {g : Nat → Fld}
    (h : ∀ k < 48, (F.LANE_STAT_CFG_IGN k).Clear (g k)) : (s.testIgn l).get (g l) = s.get (g l) :=
  when_of s _ _ (fun t => t.get (g l) = s.get (g l)) rfl (get_set_lane hl s 1 h)

theorem testIgn_lane (s : State) (l : Nat) : (s.testIgn l).lane l = s.lane l :=
  when_of s _ _ (fun t => t.lane l = s.lane l) rfl (lane_set s _ 1 l)

/-- What a write of LANE_CTRL does before it looks at TRAIN: the fields of LANE_CTRL by their access
codes, and CFG_IGN (R88). -/
def ctrlWritten (s : State) (l data : Nat) : State :=
  (s.plain ((wholeWrite (R.LANE_CTRL l).addr data).without 1)).testIgn l

theorem ctrlWritten_laneOnly (hl : l < 48) (s : State) (data : Nat) :
    LaneOnly l s (s.ctrlWritten l data) :=
  (LaneOnly.of_regsOnly hl (f := R.LANE_CTRL) (by decide) (plain_regsOnly s _ rfl)).trans
    (testIgn_laneOnly hl _)

theorem ctrlWritten_lane (s : State) (l data : Nat) : (s.ctrlWritten l data).lane l = s.lane l := by
  obtain ⟨hrest, -⟩ := plain_regsOnly s ((wholeWrite (R.LANE_CTRL l).addr data).without 1) rfl
  rw [ctrlWritten, testIgn_lane, lane, lane, hrest]

theorem ctrlWritten_get (hl : l < 48) (s : State) (data : Nat) {g : Nat → Fld}
    (hctrl : ∀ k < 48, (g k).addr ≠ (R.LANE_CTRL k).addr)
    (hign : ∀ k < 48, (F.LANE_STAT_CFG_IGN k).Clear (g k)) :
    (s.ctrlWritten l data).get (g l) = s.get (g l) := by
  rw [ctrlWritten, testIgn_get hl _ hign]
  exact (plain_regsOnly s _ rfl).get (mt List.mem_singleton.1 (hctrl l hl))

/-- TRAIN written with 1 leaves DISABLED (R89). -/
theorem hostF_train (hs : s.Awake) (hl : l < 48) : s.hostF (F.LANE_CTRL_TRAIN l) 1 =
    (s.ctrlWritten l (setBits (s.word (F.LANE_CTRL_TRAIN l)) 0 1 1)).laneTrain l := by
  have hd : setBits (s.word (F.LANE_CTRL_TRAIN l)) 0 1 1 < 2 ^ 32 :=
    fieldData_lt s (F.LANE_CTRL_TRAIN l) 1 (by decide : (1 : Nat) ≤ 32)
  have hbit : bit (setBits (s.word (F.LANE_CTRL_TRAIN l)) 0 1 1) 0 = true := by
    rw [bit, testBit_setBits]
    rfl
  refine (hostW_lane hs hl 0xC rfl (by decide) hd).trans ((wrLane_ctrl s l _).trans ?_)
  rw [wholeWrite_cmd _ hd, hbit]
  rfl

end State

/-- The host's TRAIN takes a STRING or MIRROR lane out of DISABLED (R89, R90). -/
theorem State.hostTrain_spec {s : State} {l : Nat} (hs : s.Awake) (hl : l < 48)
    (hrole : s.lrole l = .string ∨ s.lrole l = .mirror) (hst : s.lst l = .disabled) : ∀ t,
    t = s.hostF (F.LANE_CTRL_TRAIN l) 1 → t.lst l = .train ∧ t.get (F.LANE_STAT_ATTEMPT l) = 0 ∧
      t.get (F.LANE_RXEQ_CTLE_CUR l) =
        (if (s.lane l).snap = true ∧ s.on (F.LANE_RXEQ_CTLE_FIX l) = false then
          s.get (F.LANE_RXEQ_CTLE_SNAP l) else s.get (F.LANE_RXEQ_CTLE_SET l)) ∧
      LaneOnly l s t := by
  rintro t rfl
  rw [hostF_train hs hl]
  generalize setBits (s.word (F.LANE_CTRL_TRAIN l)) 0 1 1 = data
  have hrole' : (s.ctrlWritten l data).lrole l = s.lrole l :=
    lrole_congr (ctrlWritten_get hl s _ (by decide) (by decide))
  have hst' : (s.ctrlWritten l data).lst l = s.lst l :=
    lst_congr (ctrlWritten_get hl s _ (by decide) (by decide))
  obtain ⟨htrain, hattempt, hctle, honly⟩ := laneTrain_spec hl (hrole' ▸ hrole) (hst'.trans hst)
  refine ⟨htrain, hattempt, ?_, (ctrlWritten_laneOnly hl s _).trans honly⟩
  have hfix := on_congr
    (ctrlWritten_get hl s data (g := F.LANE_RXEQ_CTLE_FIX) (by decide) (by decide))
  rw [hctle, ctrlWritten_lane, hfix,
    ctrlWritten_get hl s _ (g := F.LANE_RXEQ_CTLE_SNAP) (by decide) (by decide),
    ctrlWritten_get hl s _ (g := F.LANE_RXEQ_CTLE_SET) (by decide) (by decide)]

/-! ## The set-up of a lane -/

namespace State

variable {s t u : State} {l : Nat}

/-- A field of a register of a lane reads its bits of what was written to the whole register. -/
theorem get_set_lane_whole (hl : l < 48) (s : State) {r f : Nat → Fld} (v : Nat)
    (h : ∀ k < 48, (r k).lo = 0 ∧ (r k).w = 32 ∧ (r k).addr = (f k).addr ∧ (r k).rst = (f k).rst ∧
      (f k).lo + (f k).w ≤ 32) :
    (s.set (r l) v).get (f l) = bits v (f l).lo (f l).w := by
  obtain ⟨hlo, hw, haddr, hrst, hfit⟩ := h l hl
  rw [get, ← word_congr _ haddr hrst, word_set s _ v (by omega), hlo, hw,
    bits_setBits_inside _ _ _ _ _ hfit]

/-- The receiver's findings on the old setting are dropped (R81, R89). -/
def cfgForgotten (s : State) (l : Nat) : State :=
  let s := s.setLane l {}
  let s := s.set (F.LANE_RXEQ_CTLE_CUR l) 0
  let s := (s.set (F.LANE_RXEQ_CTLE_SNAP l) 0).zero [R.LANE_DFE l, R.LANE_DFE_SNAP l]
  let s := s.set (F.LANE_STAT_FROZEN l) 0
  (s.sigLost l).set (F.LANE_STAT_ATTEMPT l) 0

/-- In CONFIG a write that changes ROLE or RATE takes the lane to DISABLED, or to TEST (R89). -/
theorem laneCfgWrite_eq (hc : s.gst = .config) {data : Nat}
    (hne : bits data 0 4 ≠ bits (s.word (R.LANE_CFG l)) 0 4) :
    s.laneCfgWrite l 0xFFFFFFFF data =
      ((s.set (R.LANE_CFG l) (data % 1024)).cfgForgotten l).setLst l
        (if data % 4 = 3 then .test else .disabled) := by
  have hmerge := merge_whole (s.word (R.LANE_CFG l)) data 10 (by decide)
  have hlow : bits (data % 2 ^ 10) 0 4 = bits data 0 4 := by
    simp only [bits, Nat.shiftRight_zero]
    omega
  have hrole : bits (data % 2 ^ 10) 0 2 = data % 4 := by
    simp only [bits, Nat.shiftRight_zero]
    omega
  rw [laneCfgWrite, if_pos hc]
  simp only [show (0x3FF : Nat) = 2 ^ 10 - 1 from rfl, hmerge, hlow, hrole, if_pos hne]
  rfl

theorem cfgForgotten_get (hl : l < 48) (s : State) {g : Nat → Fld} (h : LaneClear
    [F.LANE_RXEQ_CTLE_CUR, F.LANE_RXEQ_CTLE_SNAP, R.LANE_DFE, R.LANE_DFE_SNAP, F.LANE_STAT_FROZEN,
      F.LANE_STAT_SIG_DET, F.LANE_STAT_CDR_LOCK, F.LANE_STAT_SYNC, F.LANE_STAT_ATTEMPT] g) :
    (s.cfgForgotten l).get (g l) = s.get (g l) := by
  simp only [List.forall_mem_cons] at h
  obtain ⟨hctle, hsnap, hdfe, hdfeSnap, hfrozen, hsig, hcdr, hsync, hattempt, -⟩ := h
  simp only [cfgForgotten, zero, List.foldl, sigLost]
  rw [get_set_lane hl _ _ hattempt, get_set_lane hl _ _ hsync, get_set_lane hl _ _ hcdr,
    get_set_lane hl _ _ hsig, get_set_lane hl _ _ hfrozen, get_set_lane hl _ _ hdfeSnap,
    get_set_lane hl _ _ hdfe, get_set_lane hl _ _ hsnap, get_set_lane hl _ _ hctle, get_setLane]

theorem cfgForgotten_ctle (hl : l < 48) (s : State) :
    (s.cfgForgotten l).get (F.LANE_RXEQ_CTLE_CUR l) = 0 := by
  simp only [cfgForgotten, zero, List.foldl]
  rw [get_set_lane hl _ _ (by decide), sigLost_get hl _ (by decide),
    get_set_lane hl _ _ (by decide), get_set_lane hl _ _ (by decide),
    get_set_lane hl _ _ (by decide), get_set_lane hl _ _ (by decide),
    get_set_lane_same hl _ _ (by decide), Nat.zero_mod]

theorem cfgForgotten_dfe (hl : l < 48) (s : State) : (s.cfgForgotten l).get (R.LANE_DFE l) = 0 := by
  simp only [cfgForgotten, zero, List.foldl]
  rw [get_set_lane hl _ _ (by decide), sigLost_get hl _ (by decide),
    get_set_lane hl _ _ (by decide), get_set_lane hl _ _ (by decide),
    get_set_lane_same hl _ _ (by decide), Nat.zero_mod]

theorem cfgForgotten_sync (hl : l < 48) (s : State) :
    (s.cfgForgotten l).on (F.LANE_STAT_SYNC l) = false := by
  rw [cfgForgotten, on_congr (get_set_lane hl _ _ (by decide)), sigLost_sync hl]

/-- The host's change of ROLE or RATE in CONFIG, with the mirror link brought up to date (R88, R89,
R390). -/
theorem hostCfg_spec (hs : s.Awake) (hl : l < 48) (hc : s.gst = .config) {data : Nat}
    (hd : data < 2 ^ 32) (hne : bits data 0 4 ≠ bits (s.word (R.LANE_CFG l)) 0 4) : ∀ t,
    t = s.hostW (R.LANE_CFG l).addr data → t.get (F.LANE_CFG_ROLE l) = data % 4 ∧
      t.lst l = (if data % 4 = 3 then .test else .disabled) ∧ t.get (F.LANE_RXEQ_CTLE_CUR l) = 0 ∧
      t.get (R.LANE_DFE l) = 0 ∧ t.on (F.LANE_STAT_SYNC l) = false := by
  rintro t rfl
  rw [hostW_lane hs hl (a := (R.LANE_CFG l).addr) 8 rfl (by decide) hd, wrLane_cfg,
    laneCfgWrite_eq hc hne]
  generalize hx : (if data % 4 = 3 then LState.test else .disabled) = x
  have hkeep (v : State) {g : Nat → Fld} (hg : LaneReg g)
      (hign : ∀ k < 48, (F.LANE_STAT_CFG_IGN k).Clear (g k)) :
      ((v.testIgn l).linkUpd).get (g l) = v.get (g l) :=
    ((linkUpd_lanesKept _).get hl hg).trans (testIgn_get hl v hign)
  refine ⟨?_, ?_, ?_, ?_, ?_⟩
  · rw [hkeep _ (by decide) (by decide), setLst_get hl _ _ (by decide),
      cfgForgotten_get hl _ (by decide), get_set_lane_whole hl s (r := R.LANE_CFG) _ (by decide)]
    change (data % 1024) >>> 0 % 4 = _
    rw [Nat.shiftRight_zero]
    omega
  · rw [lst_congr (hkeep _ (by decide) (by decide)), lst_setLst hl]
  · rw [hkeep _ (by decide) (by decide), setLst_get hl _ _ (by decide), cfgForgotten_ctle hl]
  · rw [hkeep _ (by decide) (by decide), setLst_get hl _ _ (by decide), cfgForgotten_dfe hl]
  · rw [on_congr (hkeep _ (by decide) (by decide)), on_congr (setLst_get hl _ _ (by decide)),
      cfgForgotten_sync hl]

/-- The host's write of LANE_TXEQ in CONFIG: taken inside the limits of R78, else refused. -/
theorem hostTxeq_eq (hs : s.Awake) (hl : l < 48) (hc : s.gst = .config) {data : Nat}
    (hd : data < 2 ^ 14) : s.hostW (R.LANE_TXEQ l).addr data =
      if bits data 4 5 ≤ 16 ∧ bits data 9 5 ≤ 24 ∧ bits data 4 5 + bits data 9 5 ≤ 32 then
        s.set (R.LANE_TXEQ l) data
      else s.set (F.LANE_STAT_EQ_REJ l) 1 := by
  have hmerge := merge_whole (s.word (R.LANE_TXEQ l)) data 14 (by decide)
  rw [Nat.mod_eq_of_lt hd] at hmerge
  rw [hostW_lane hs hl (a := (R.LANE_TXEQ l).addr) 0x10 rfl (by decide) (by omega), wrLane_txeq,
    txeqWrite, if_pos hc]
  simp only [show (0x3FFF : Nat) = 2 ^ 14 - 1 from rfl, hmerge, Bool.and_eq_true, decide_eq_true_eq,
    and_assoc]
  rfl

/-! ## Adaptation -/

/-- Without a snapshot to guard, an update moves the CTLE by one step and the taps by theirs (R81,
R84). -/
theorem adapt_eq (ha : s.adapting l = true) (hfix : s.on (F.LANE_RXEQ_CTLE_FIX l) = false)
    (hsnap : (s.lane l).snap = false) (ctle : Int) (taps : List Int) : s.adapt l ctle taps =
      (s.set (F.LANE_RXEQ_CTLE_CUR l)
        (clampI 0 15 ((s.get (F.LANE_RXEQ_CTLE_CUR l) : Int) + ctle.sign)).toNat).set
        (R.LANE_DFE l) (dfeStep (s.word (R.LANE_DFE l)) taps) := by
  rw [adapt, if_pos ha]
  extract_lets cur c t
  have hunguarded : (t.lane l).snap = false := by rw [lane_set, lane_set, hsnap]
  have hc : c = (clampI 0 15 (cur + ctle.sign)).toNat := if_neg (by simp [hfix])
  rw [hunguarded, Bool.false_and, when_false, ← hc]

theorem clampI_eq (i : Int) : clampI 0 15 i = max 0 (min 15 i) := by
  unfold clampI
  split
  · omega
  · split <;> omega

/-- One update moves the CTLE one step toward its sign, inside 0 to 15 (R80, R81). -/
theorem adapt_spec (hl : l < 48) (ha : s.adapting l = true)
    (hfix : s.on (F.LANE_RXEQ_CTLE_FIX l) = false) (hsnap : (s.lane l).snap = false) (ctle : Int)
    (taps : List Int) : LaneOnly l s (s.adapt l ctle taps) ∧
      ((s.adapt l ctle taps).get (F.LANE_RXEQ_CTLE_CUR l) : Int) =
        max 0 (min 15 ((s.get (F.LANE_RXEQ_CTLE_CUR l) : Int) + ctle.sign)) := by
  rw [adapt_eq ha hfix hsnap]
  refine ⟨.set (.set (.refl l s) hl (by decide)) hl (by decide), ?_⟩
  rw [get_set_lane hl _ _ (by decide), get_set_lane_same hl _ _ (by decide), clampI_eq]
  change ((_ % 16 : Nat) : Int) = _
  omega

/-- 64 IDLE sets freeze the adaptation of a synchronised lane (R82). -/
theorem adaptFreeze_spec (hl : l < 48) (hrole : s.lrole l ≠ .none)
    (hsync : s.on (F.LANE_STAT_SYNC l) = true) (hst : s.lst l ≠ .disabled) :
    (s.adaptFreeze l).on (F.LANE_STAT_FROZEN l) = true ∧ LaneOnly l s (s.adaptFreeze l) := by
  have hgo : (s.laneOn l && s.on (F.LANE_STAT_SYNC l) && s.lst l ≠ .disabled) = true := by
    simp [laneOn, hrole, hsync, hst]
  rw [adaptFreeze, if_pos hgo]
  exact ⟨on_flag_lane hl _ (by decide) (by decide),
    (LaneOnly.setLane (.refl l s) _).set hl (by decide)⟩

/-- 256 frame characters resume it, unless the guard froze it (R82, R84). -/
theorem adaptResume_spec (hl : l < 48) (hfrozen : s.on (F.LANE_STAT_FROZEN l) = true)
    (hguard : (s.lane l).guard = false) :
    (s.adaptResume l).on (F.LANE_STAT_FROZEN l) = false ∧ LaneOnly l s (s.adaptResume l) := by
  rw [adaptResume, if_pos (by simp [hfrozen, hguard])]
  refine ⟨?_, (LaneOnly.setLane (.refl l s) _).set hl (by decide)⟩
  rw [on, get_set_lane_same hl _ _ (by decide)]
  rfl

/-! ## The PRBS checker -/

/-- What far-end loopback sends on changes nothing that the checker compares (R98). -/
theorem farEnd_chk (s : State) (l : Nat) (b : List Bool) :
    (s.farEnd l b).chkOn l = s.chkOn l ∧ (s.farEnd l b).chkRun l b = s.chkRun l b :=
  when_of s _ _ (fun t => t.chkOn l = s.chkOn l ∧ t.chkRun l b = s.chkRun l b) ⟨rfl, rfl⟩ ⟨rfl, rfl⟩

theorem prbsLock_eq (h : s.chkOn l = true) (rx : Bytes) : s.prbsLock l rx =
    if s.chkRun l (bitsOf rx) then (s.farEnd l (bitsOf rx)).set (F.LANE_PRBS_STAT_LOCK l) 1
    else s.farEnd l (bitsOf rx) := by
  obtain ⟨hon, hrun⟩ := s.farEnd_chk l (bitsOf rx)
  simp only [prbsLock, hon, hrun, h, Bool.true_and]
  rfl

/-- While LOCK is set, errors and bits are counted (R95, R96). -/
theorem prbsCount_eq (hchk : s.chkOn l = true) (hlock : s.on (F.LANE_PRBS_STAT_LOCK l) = true)
    (hnear : s.nearEnd l = false) (n errs : Nat) : s.prbsCount l n errs =
      (s.addSat (R.LANE_PRBS_ERR l) errs).setLane l
        { s.lane l with bits := ((s.lane l).bits + n) % 2 ^ 64 } := by
  rw [prbsCount, if_pos (by simp [hchk, hlock])]
  simp only [hnear, Bool.false_and]
  rfl

theorem prbsCount_laneOnly (hl : l < 48) (s : State) (n errs : Nat) :
    LaneOnly l s (s.prbsCount l n errs) :=
  .ite (.setLane (.set (.refl l s) hl (f := R.LANE_PRBS_ERR) (by decide)) _) (.refl l s)

theorem addSat_get (hl : l < 48) (s : State) (n : Nat) :
    (s.addSat (R.LANE_PRBS_ERR l) n).get (R.LANE_PRBS_ERR l) =
      min (s.get (R.LANE_PRBS_ERR l) + n) (2 ^ 32 - 1) := by
  rw [addSat, get_set_lane_same hl _ _ (by decide)]
  change min _ (2 ^ 32 - 1) % 2 ^ 32 = _
  omega

/-- 64 errors or more in the bits compared take the lock (R95). -/
theorem prbsLost_spec (hl : l < 48) (hchk : s.chkOn l = true)
    (hlock : s.on (F.LANE_PRBS_STAT_LOCK l) = true) (hnear : s.nearEnd l = false) {n errs : Nat}
    (h64 : 64 ≤ errs) (hn : errs ≤ n) :
    (s.prbsLost l n errs).on (F.LANE_PRBS_STAT_LOCK l) = false ∧
      (s.prbsLost l n errs).on (F.LANE_PRBS_STAT_LOCK_LOST l) = true ∧
      LaneOnly l s (s.prbsLost l n errs) ∧
      (s.prbsLost l n errs).get (R.LANE_PRBS_ERR l) =
        min (s.get (R.LANE_PRBS_ERR l) + errs) (2 ^ 32 - 1) := by
  rw [prbsLost, if_pos (by simp [hchk, hlock, h64, hn])]
  refine ⟨?_, on_flag_lane hl _ (by decide) (by decide), ?_, ?_⟩
  · rw [flag, on_congr (get_set_lane hl _ _ (by decide)), on, get_set_lane_same hl _ _ (by decide)]
    rfl
  · exact ((prbsCount_laneOnly hl s n errs).set hl (f := F.LANE_PRBS_STAT_LOCK) (by decide)).set hl
      (by decide)
  · rw [flag, get_set_lane hl _ _ (by decide), get_set_lane hl _ _ (by decide),
      prbsCount_eq hchk hlock hnear, get_setLane, addSat_get hl]

/-- LANE_PRBS_ERR is a register of every lane, which resets to 0. -/
theorem regRow?_prbsErr : ∀ l < 48, (regRow? (R.LANE_PRBS_ERR l).addr).map RegRow.rst = some 0 := by
  decide +kernel

/-- The stored word of LANE_PRBS_ERR is its value. -/
theorem word_prbsErr (s : State) {r : RegRow} (hr : r.rst = 0) :
    s.word (rawFld (R.LANE_PRBS_ERR l).addr (orgOf (R.LANE_PRBS_ERR l).addr 0) r) =
      s.get (R.LANE_PRBS_ERR l) := by
  have hword : s.word (R.LANE_PRBS_ERR l) < 2 ^ 32 := BitVec.isLt _
  have hget : s.get (R.LANE_PRBS_ERR l) = s.word (R.LANE_PRBS_ERR l) := Nat.mod_eq_of_lt hword
  rw [hget]
  exact s.word_congr (by simp [rawFld, orgOf]) hr

/-- An offset behind the last register of an array is none of its. -/
theorem ix_behind {a base stride n : Nat} (hs : 0 < stride) (h : base + stride * n ≤ a) :
    ix a base stride n = none := by
  have hle : n ≤ (a - base) / stride := by
    rw [Nat.le_div_iff_mul_le hs, Nat.mul_comm]
    omega
  refine if_neg ?_
  simp [Nat.not_lt.2 hle]

/-- What a read of LANE_PRBS_ERR answers, and its latch (R96): of the offsets whose read does more
than show the register only this one is at a lane. -/
theorem regRead_prbsErr (hl : l < 48) (s : State) : s.regRead (R.LANE_PRBS_ERR l).addr 0 =
    (s.get (R.LANE_PRBS_ERR l), false, s.prbsLatch l) := by
  obtain ⟨r, hrow, hrst⟩ := Option.map_eq_some_iff.1 (regRow?_prbsErr l hl)
  have haddr : (R.LANE_PRBS_ERR l).addr = 0x100048 + 0x1000 * l := rfl
  have hne (f : Fld) (hf : f.addr < 0x100000) : ¬ (R.LANE_PRBS_ERR l).addr = f.addr := by omega
  have htrim : ix (R.LANE_PRBS_ERR l).addr 0x50700 4 48 = none := ix_behind (by decide) (by omega)
  have htsq : ix (R.LANE_PRBS_ERR l).addr 0xB0110 0x80 4 = none := ix_behind (by decide) (by omega)
  have hself : ix (R.LANE_PRBS_ERR l).addr 0x100048 0x1000 48 = some l := by
    rw [haddr, ix]
    simp [hl]
  rw [regRead, if_neg (hne R.TIME_TW_STAT (by decide)), if_neg (hne R.PAIR_HO_STAT (by decide)),
    if_neg (hne R.ETH_PPSIN_SEC (by decide)), if_neg (hne R.LOGIC_MEM_DATA (by decide)), htrim,
    htsq, hself, hrow, ← word_prbsErr s hrst]

/-- A read of LANE_PRBS_ERR shows the register and latches the bit count (R96). -/
theorem hostR_prbsErr (hs : s.Awake) (hl : l < 48) : s.hostR (R.LANE_PRBS_ERR l).addr =
    (s.prbsLatch l).emit (.bar0 (s.get (R.LANE_PRBS_ERR l)) false false) := by
  have hreg : (R.LANE_PRBS_ERR l).addr < 0x1000000 := by
    change 0x100048 + 0x1000 * l < _
    omega
  have hread : s.busR (R.LANE_PRBS_ERR l).addr 0 0x38 =
      (s.get (R.LANE_PRBS_ERR l), false, s.prbsLatch l) :=
    (if_pos hreg).trans (regRead_prbsErr hl s)
  rw [hostR, hs, hread]
  rfl

/-- What a read of LANE_PRBS_ERR shows after the bits and errors counted up to it (R95, R96). -/
theorem prbsRead_spec (hs : s.Awake) (hl : l < 48) (hchk : s.chkOn l = true)
    (hlock : s.on (F.LANE_PRBS_STAT_LOCK l) = true) (hnear : s.nearEnd l = false) {n errs : Nat}
    (hn : (s.lane l).bits + n < 2 ^ 64) : ∀ t,
    t = (s.prbsCount l n errs).hostR (R.LANE_PRBS_ERR l).addr →
      t.get (R.LANE_PRBS_ERR l) = min (s.get (R.LANE_PRBS_ERR l) + errs) (2 ^ 32 - 1) ∧
      t.get (R.LANE_PRBS_BITS_LO l) = ((s.lane l).bits + n) % 2 ^ 32 ∧
      t.get (R.LANE_PRBS_BITS_HI l) = ((s.lane l).bits + n) / 2 ^ 32 ∧
      t.out = s.out ++ [.bar0 (t.get (R.LANE_PRBS_ERR l)) false false] := by
  have hawake : (s.prbsCount l n errs).Awake := by
    rw [prbsCount_eq hchk hlock hnear]
    exact hs
  have herr : (s.prbsCount l n errs).get (R.LANE_PRBS_ERR l) =
      min (s.get (R.LANE_PRBS_ERR l) + errs) (2 ^ 32 - 1) := by
    rw [prbsCount_eq hchk hlock hnear, get_setLane, addSat_get hl]
  have hbits : ((s.prbsCount l n errs).lane l).bits = (s.lane l).bits + n := by
    rw [prbsCount_eq hchk hlock hnear, lane_setLane]
    exact Nat.mod_eq_of_lt hn
  have hout : (s.prbsCount l n errs).out = s.out := by
    rw [prbsCount_eq hchk hlock hnear, setLane_out, addSat, set_out]
  generalize s.prbsCount l n errs = c at *
  rintro t rfl
  have hkeep : (c.prbsLatch l).get (R.LANE_PRBS_ERR l) = c.get (R.LANE_PRBS_ERR l) := by
    rw [prbsLatch, get_set_lane hl _ _ (by decide), get_set_lane hl _ _ (by decide)]
  rw [hostR_prbsErr hawake hl, get_emit, get_emit, get_emit, hkeep, emit_out]
  refine ⟨herr, ?_, ?_, ?_⟩
  · rw [prbsLatch, get_set_lane hl _ _ (by decide), get_set_lane_same hl _ _ (by decide), hbits]
    exact Nat.mod_mod _ _
  · rw [prbsLatch, get_set_lane_same hl _ _ (by decide), hbits]
    exact Nat.mod_eq_of_lt (show _ < 2 ^ 32 by omega)
  · rw [prbsLatch, set_out, set_out, hout]

/-- The registers that a write of LANE_PRBS_CTRL leaves before CLR is looked at (R94). -/
def prbsWritten (s : State) (l data : Nat) : State :=
  ((s.plain (wholeWrite (R.LANE_PRBS_CTRL l).addr data)).testIgn l).genStart l
    (s.word (R.LANE_PRBS_CTRL l))

theorem genStart_laneOnly (s : State) (l old : Nat) : LaneOnly l s (s.genStart l old) := by
  refine .ite (LaneOnly.setLane ⟨rfl, fun _ _ _ => rfl, fun _ _ => rfl⟩ _) (.refl l s)

theorem prbsWritten_laneOnly (hl : l < 48) (s : State) (data : Nat) :
    LaneOnly l s (s.prbsWritten l data) :=
  ((LaneOnly.of_regsOnly hl (f := R.LANE_PRBS_CTRL) (by decide) (plain_regsOnly s _ rfl)).trans
    (testIgn_laneOnly hl _)).trans (genStart_laneOnly _ _ _)

/-- CLR written with 1 clears the counts (R96). -/
theorem hostF_prbsClr (hs : s.Awake) (hl : l < 48) : s.hostF (F.LANE_PRBS_CTRL_CLR l) 1 =
    (s.prbsWritten l (setBits (s.word (F.LANE_PRBS_CTRL_CLR l)) 8 1 1)).prbsClr l := by
  have hd : setBits (s.word (F.LANE_PRBS_CTRL_CLR l)) 8 1 1 < 2 ^ 32 :=
    fieldData_lt s (F.LANE_PRBS_CTRL_CLR l) 1 (by decide : 8 + 1 ≤ 32)
  have hbit : bit (setBits (s.word (F.LANE_PRBS_CTRL_CLR l)) 8 1 1) 8 = true := by
    rw [bit, testBit_setBits]
    rfl
  refine (hostW_lane hs hl 0x40 rfl (by decide) hd).trans ((wrLane_prbsCtrl s l _).trans ?_)
  rw [wholeWrite_cmd _ hd, hbit]
  rfl

theorem prbsClr_spec (hl : l < 48) (s : State) : (s.prbsClr l).get (R.LANE_PRBS_ERR l) = 0 ∧
    ((s.prbsClr l).lane l).bits = 0 ∧ LaneOnly l s (s.prbsClr l) := by
  refine ⟨?_, ?_, (LaneOnly.set (.refl l s) hl (f := R.LANE_PRBS_ERR) (by decide)).setLane _⟩
  · rw [prbsClr, get_setLane, get_set_lane_same hl _ _ (by decide), Nat.zero_mod]
  · rw [prbsClr, lane_setLane]

end State

/-! ## The statements -/

/-- Settles O35, one lemma for each way into, through and out of training. -/
theorem laneTrainingStates : Obligations.LaneTrainingStates := by
  refine ⟨?train, ?done, ?resend, ?timeout, ?backoff, ?absent, ?reply, ?hello, ?los, ?keep⟩
  case train =>
    exact fun s l hl hs hrole hst =>
      State.gives_of_lane hl rfl (State.hostTrain_spec hs hl hrole hst _ rfl)
  case done =>
    exact fun s l hl hst hsync hrole =>
      State.gives_of_lane hl rfl (State.trainDone_spec hl hst hsync hrole)
  case resend =>
    intro s l hl hst hrole
    obtain ⟨hregs, -, hout, honly⟩ := State.sendHello_spec hrole
    have hsend : s.helloResend l = s.sendHello l := if_pos hst
    refine State.gives_of_lane hl rfl ?_
    rw [hsend]
    exact ⟨(State.lst_congr (State.get_congr_regs _ hregs)).trans hst, hout, honly⟩
  case timeout =>
    exact fun s l hl hst => State.gives_of_lane hl rfl (State.attemptTimeout_spec hl hst)
  case backoff =>
    intro s l hl hst
    have hgo : s.backoffExpiry l = s.toTrain l := if_pos hst
    refine State.gives_of_lane hl rfl ?_
    rw [hgo]
    exact ⟨State.toTrain_lst hl s, State.toTrain_get hl s (by decide), State.toTrain_laneOnly hl s⟩
  case absent =>
    intro s l hl hst
    have hgo : s.absentRetry l = s.toTrain l := if_pos hst
    refine State.gives_of_lane hl rfl ?_
    rw [hgo]
    exact ⟨State.toTrain_lst hl s, State.toTrain_laneOnly hl s⟩
  case reply =>
    intro s l f hl hrole hhurt hok
    refine State.gives_of_lane hl rfl ?_
    rw [State.onFrame_unhurt hhurt]
    exact State.laneReply_spec hl hrole hok
  case hello =>
    intro s l f hl hrole hhurt hsync hst hok henum
    refine State.gives_of_lane hl rfl ?_
    rw [State.onFrame_unhurt hhurt, State.helloReceive_eq hrole hsync hst hok henum]
    exact ⟨State.sendLane_laneOnly _ _ _, State.sendLane_regs _ _ _, State.sendLane_out _ _ _⟩
  case los =>
    exact fun s l hl hrole hst => State.gives_of_lane hl rfl (State.laneLos_spec hl hrole hst)
  case keep =>
    intro s l hl _ _ hsync
    have hstay : s.laneLos l false = s := by simp [State.laneLos, hsync]
    exact (if_pos (decide_eq_true hl)).trans (congrArg Host.Outcome.next hstay)

/-- Settles O37, one lemma for each event. -/
theorem laneAdaptationAndTests : Obligations.LaneAdaptationAndTests := by
  refine ⟨?cfg, ?txeq, ?adapt, ?freeze, ?resume, ?lock, ?lost, ?read, ?clr⟩
  case cfg =>
    intro s l data hl hs hc hd hne
    have hok : (okLane l && okU32 data) = true :=
      Bool.and_eq_true_iff.2 ⟨decide_eq_true hl, decide_eq_true hd⟩
    exact ⟨_, if_pos hok, State.hostCfg_spec hs hl hc hd hne _ rfl⟩
  case txeq =>
    intro s l data hl hs hc hd
    have hok : (okLane l && okU32 data) = true :=
      Bool.and_eq_true_iff.2 ⟨decide_eq_true hl, decide_eq_true (by omega)⟩
    have hexec : exec (.laneTxeqWrite l data) s = .next (s.hostW (R.LANE_TXEQ l).addr data) :=
      if_pos hok
    rw [State.hostTxeq_eq hs hl hc hd] at hexec
    refine ⟨fun hin => ⟨_, hexec, ?_⟩, fun hout => hexec.trans (by rw [if_neg hout])⟩
    rw [if_pos hin]
    refine ⟨?_, State.set_regsOnly s _ _⟩
    rw [State.get_set_lane_same hl _ _ (by decide)]
    change data % 2 ^ 32 % 2 ^ 14 = data
    omega
  case adapt =>
    exact fun s l ctle taps hl ha hfix hsnap =>
      State.gives_of_lane hl rfl (State.adapt_spec hl ha hfix hsnap ctle taps)
  case freeze =>
    exact fun s l hl hrole hsync hst =>
      State.gives_of_lane hl rfl (State.adaptFreeze_spec hl hrole hsync hst)
  case resume =>
    intro s l hl hfrozen
    refine ⟨fun hguard => State.gives_of_lane hl rfl (State.adaptResume_spec hl hfrozen hguard),
      fun hguard => ?_⟩
    have hstay : s.adaptResume l = s := if_neg (by simp [hguard])
    exact (if_pos (decide_eq_true hl)).trans (congrArg Host.Outcome.next hstay)
  case lock =>
    intro s l rx hl hchk
    have hexec : exec (.prbsLock ⟨l, rx⟩) s = .next (s.prbsLock l rx) := if_pos (decide_eq_true hl)
    rw [State.prbsLock_eq hchk] at hexec
    exact ⟨fun hrun => hexec.trans (by rw [if_pos hrun]),
      fun hrun => hexec.trans (by rw [if_neg (by simp [hrun])])⟩
  case lost =>
    exact fun s l n errs hl hchk hlock hnear h64 hn =>
      State.gives_of_lane hl rfl (State.prbsLost_spec hl hchk hlock hnear h64 hn)
  case read =>
    exact fun s l n errs hl hs hchk hlock hnear hn =>
      State.gives_of_lane hl rfl (State.prbsRead_spec hs hl hchk hlock hnear hn _ rfl)
  case clr =>
    intro s l hl hs
    refine State.gives_of_lane hl rfl ?_
    rw [State.hostF_prbsClr hs hl]
    obtain ⟨herr, hbits, honly⟩ := State.prbsClr_spec hl (s.prbsWritten l _)
    exact ⟨herr, hbits, (State.prbsWritten_laneOnly hl s _).trans honly⟩

end Sys2Proof.Machine
end

section
/-! SUPPORT. The CRC-32 and the fields of a frame; what the frames of an enumeration leave of the
part; the flags and the state of a string; what a start of enumeration looks at, and what it makes; the
replies, ACKs and ECHOs; the writes of the host that reach a string. Then what 04_strings.md has
proved: StringEnumeration. -/

namespace Sys2Proof.Machine

open Sys2Proof

/-! ## Fields of frames -/

theorem crc32Bit_lt {c : Nat} (h : c < 2 ^ 32) : crc32Bit c < 2 ^ 32 := by
  have hhalf : c / 2 < 2 ^ 32 := by omega
  unfold crc32Bit
  split
  · exact Nat.xor_lt_two_pow hhalf (by decide)
  · exact hhalf

theorem crc32Byte_lt {c : Nat} (h : c < 2 ^ 32) (b : Byte) : crc32Byte c b < 2 ^ 32 := by
  have hbyte : b.toNat < 2 ^ 32 := Nat.lt_trans b.isLt (by decide)
  have hin : c ^^^ b.toNat < 2 ^ 32 := Nat.xor_lt_two_pow h hbyte
  exact crc32Bit_lt (crc32Bit_lt (crc32Bit_lt (crc32Bit_lt (crc32Bit_lt (crc32Bit_lt
    (crc32Bit_lt (crc32Bit_lt hin)))))))

/-- A CRC-32 fits its four bytes (R104). -/
theorem crc32_lt (b : Bytes) : crc32 b < 2 ^ 32 :=
  Nat.xor_lt_two_pow
    (List.foldlRecOn (motive := fun c : Nat => c < 2 ^ 32) b crc32Byte (by decide)
      (fun _ h x _ => crc32Byte_lt h x)) (by decide)

/-- A field reads the number whose bytes stand in its place, in its width. -/
theorem fieldLE_toLE (a c : Bytes) (k v : Nat) :
    fieldLE (a ++ toLE k v ++ c) a.length k = v % 2 ^ (8 * k) := by
  have hslice : slice (a ++ toLE k v ++ c) a.length k = toLE k v := by
    rw [slice, List.append_assoc, List.drop_left, List.take_left' (length_toLE k v), length_toLE,
      Nat.sub_self, List.replicate_zero, List.append_nil]
  rw [fieldLE, hslice, leNat_toLE]

/-- The same in a frame with its CRC-32. -/
theorem fieldLE_withCrc32 (a c : Bytes) (k v : Nat) :
    fieldLE (withCrc32 (a ++ toLE k v ++ c)) a.length k = v % 2 ^ (8 * k) := by
  rw [withCrc32, List.append_assoc (a ++ toLE k v), fieldLE_toLE]

theorem length_withCrc32 (b : Bytes) : (withCrc32 b).length = b.length + 4 := by
  rw [withCrc32, List.length_append, length_toLE]

/-- A frame whose CRC-32 has been appended passes its check (R104). -/
theorem crc32Ok_withCrc32 (b : Bytes) : crc32Ok (withCrc32 b) = true := by
  have hcrc : fieldLE (withCrc32 b) b.length 4 = crc32 b := by
    have h := fieldLE_toLE b [] 4 (crc32 b)
    rw [List.append_nil] at h
    exact h.trans (Nat.mod_eq_of_lt (crc32_lt b))
  have hbody : (withCrc32 b).take b.length = b := List.take_left
  simp [crc32Ok, length_withCrc32, hcrc, hbody]

/-- A body that begins with its TYPE is a string frame once its CRC-32 stands behind it (R104). -/
theorem strFrameOk_withCrc32 {type : Nat} (ht : type < 256) (b : Bytes) :
    strFrameOk type (b.length + 5) (withCrc32 (toLE 1 type ++ b)) = true := by
  have htype : fieldLE (withCrc32 (toLE 1 type ++ b)) 0 1 = type :=
    (fieldLE_withCrc32 [] b 1 type).trans (Nat.mod_eq_of_lt ht)
  have hlen : (withCrc32 (toLE 1 type ++ b)).length = b.length + 5 := by
    rw [length_withCrc32, List.length_append, length_toLE]
    omega
  simp [strFrameOk, htype, hlen, crc32Ok_withCrc32]

/-- The device's ECHO to a fret passes the checks of its own return (R112, R115). -/
theorem State.echoFrame_fields (s : State) {k v : Nat} (hk : k < 256) (hv : v < 2 ^ 32) :
    strFrameOk 6 12 (s.echoFrame k v) = true ∧
      bit (fieldLE (s.echoFrame k v) 1 1) 1 = s.straps.side ∧
      fieldLE (s.echoFrame k v) 2 1 = k ∧ fieldLE (s.echoFrame k v) 4 4 = v := by
  have hok := strFrameOk_withCrc32 (type := 6) (by decide)
    (toLE 1 (2 * s.sideBit) ++ toLE 1 k ++ [0] ++ toLE 4 v)
  have hside := fieldLE_withCrc32 (toLE 1 6) (toLE 1 k ++ [0] ++ toLE 4 v) 1 (2 * s.sideBit)
  have hfret := (fieldLE_withCrc32 (toLE 1 6 ++ toLE 1 (2 * s.sideBit)) ([0] ++ toLE 4 v) 1 k).trans
    (Nat.mod_eq_of_lt hk)
  have hnonce := (fieldLE_withCrc32 (toLE 1 6 ++ toLE 1 (2 * s.sideBit) ++ toLE 1 k ++ [0]) [] 4
    v).trans (Nat.mod_eq_of_lt hv)
  simp only [List.append_assoc, List.append_nil, List.length_append, length_toLE, List.length_cons,
    List.length_nil] at hok hside hfret hnonce
  simp only [echoFrame, List.append_assoc]
  refine ⟨hok, ?_, hfret, hnonce⟩
  rw [hside, sideBit]
  cases s.straps.side <;> rfl

/-! ## The hidden state of a string -/

namespace State

variable {s t u : State} {n m : Nat}

@[simp] theorem str_set (s : State) (f : Fld) (v k : Nat) : (s.set f v).str k = s.str k := rfl

@[simp] theorem str_setStr (s : State) (n : Nat) (x : StrS) : (s.setStr n x).str n = x :=
  sget_sput_same _ _ _ _

@[simp] theorem str_setPhase (s : State) (n : Nat) (p : EnumPhase) :
    (s.setPhase n p).str n = { s.str n with phase := p } := str_setStr _ _ _

@[simp] theorem get_setPhase (s : State) (n : Nat) (p : EnumPhase) (f : Fld) :
    (s.setPhase n p).get f = s.get f := rfl

theorem sst_congr (h : t.get (F.STR_STAT_STATE n) = s.get (F.STR_STAT_STATE n)) :
    t.sst n = s.sst n := by rw [sst, sst, h]

/-! ### Frames of an enumeration -/

/-- t is s after frames of string n's enumeration: no register has changed, and of the string only
the latest nonce and the frames that wait for the gap after the stroke (R114, R122). -/
structure Sent (n : Nat) (s t : State) : Prop where
  regs : t.regs = s.regs
  dev : t.dev = s.dev
  str : ∃ v h, t.str n = { s.str n with nonce := v, held := h }

theorem Sent.trans (h : Sent n s t) (k : Sent n t u) : Sent n s u := by
  obtain ⟨v, q, hstr⟩ := h.str
  obtain ⟨v', q', hstr'⟩ := k.str
  exact ⟨k.regs.trans h.regs, k.dev.trans h.dev, v', q', by rw [hstr', hstr]⟩

theorem Sent.get (h : Sent n s t) (f : Fld) : t.get f = s.get f := get_congr_regs f h.regs

/-- What the frames leave of the string's enumeration. -/
theorem Sent.enumeration (h : Sent n s t) : (t.str n).phase = (s.str n).phase ∧
    (t.str n).frets = (s.str n).frets ∧ (t.str n).k = (s.str n).k := by
  obtain ⟨v, q, hstr⟩ := h.str
  rw [hstr]
  exact ⟨rfl, rfl, rfl⟩

theorem strSend_sent (s : State) (n : Nat) (f : Bytes) : Sent n s (s.strSend n f) := by
  have hstay : Sent n s s := ⟨rfl, rfl, _, _, rfl⟩
  unfold strSend
  split
  next l _ =>
    have hout : Sent n s (s.sendLane l f) := by
      rw [sendLane_eq]
      exact ⟨rfl, rfl, _, _, rfl⟩
    split
    · exact ⟨rfl, rfl, _, _, str_setStr _ _ _⟩
    · exact when_of s _ _ (Sent n s) hstay hout
  next => exact hstay

theorem strNonce_sent (s : State) (n : Nat) : Sent n s (s.strNonce n) :=
  ⟨rfl, rfl, _, _, str_setStr _ _ _⟩

theorem sendEnumHello_sent (s : State) (n : Nat) : Sent n s (s.sendEnumHello n) :=
  (strNonce_sent s n).trans (strSend_sent _ _ _)

theorem sendEcho_sent (s : State) (n k : Nat) : Sent n s (s.sendEcho n k) :=
  (strNonce_sent s n).trans (strSend_sent _ _ _)

/-- The end of the cell search turns to the ECHOs, the string end's where there is no fret
(R114). -/
theorem searchEnd_spec (s : State) (n : Nat) : (s.searchEnd n).regs = s.regs ∧
    ((s.searchEnd n).str n).frets = (s.str n).frets ∧
    ((s.searchEnd n).str n).phase = if (s.str n).frets = [] then .echoEnd 1 else .echo 1 := by
  unfold searchEnd
  by_cases h : (s.str n).frets = []
  · have hsent := sendEcho_sent (s.setPhase n (.echoEnd 1)) n 0xFF
    obtain ⟨hphase, hfrets, -⟩ := hsent.enumeration
    rw [str_setPhase] at hphase hfrets
    rw [if_pos (by rw [h]; rfl), if_pos h]
    exact ⟨hsent.regs, hfrets, hphase⟩
  · have hsent := sendEcho_sent (s.setStr n { s.str n with k := 0, phase := .echo 1 }) n 0
    obtain ⟨hphase, hfrets, -⟩ := hsent.enumeration
    rw [str_setStr] at hphase hfrets
    rw [if_neg (mt List.length_eq_zero_iff.1 h), if_neg h]
    exact ⟨hsent.regs, hfrets, hphase⟩

/-! ### Registers of a string

The lemmas on families of 48 fields, one of each lane, speak of the strings' too. -/

theorem lt_48_of_str (hn : n < 44) : n < 48 := Nat.lt_trans hn (by decide)

/-- A field of every string, inside the string's own block of registers. -/
abbrev StrReg (f : Nat → Fld) : Prop :=
  ∀ n < 44, 0x200000 + 0x2000 * n ≤ (f n).addr ∧ (f n).addr < 0x202000 + 0x2000 * n

/-- The fields that follow from a string's map (R118, R120). -/
def strFlagFlds : List (Nat → Fld) :=
  [F.STR_ENUM_FRETS, F.STR_ENUM_HMIN, F.STR_ENUM_INCOMPAT, F.STR_STAT_EXPECT_MET,
    F.STR_STAT_B_TIMED, F.STR_STAT_ARM_HOLD]

section
variable (hn : n < 48)
include hn

theorem strFlags_get (s : State) {g : Nat → Fld} (h : LaneClear strFlagFlds g) :
    (s.strFlags n).get (g n) = s.get (g n) := by
  simp only [strFlagFlds, List.forall_mem_cons] at h
  obtain ⟨hfrets, hmin, hincompat, hmet, htimed, hhold, -⟩ := h
  simp only [strFlags]
  rw [get_set_lane hn _ _ hhold, get_set_lane hn _ _ htimed, get_set_lane hn _ _ hmet,
    get_set_lane hn _ _ hincompat, get_set_lane hn _ _ hmin, get_set_lane hn _ _ hfrets]

/-- The fields that an entry of a string into a state writes. -/
theorem setSst_get (s : State) (x : SState) {g : Nat → Fld}
    (h : LaneClear (F.STR_STAT_STATE :: F.STR_CTRL_ENUM :: strFlagFlds) g) :
    (s.setSst n x).get (g n) = s.get (g n) := by
  simp only [List.forall_mem_cons] at h
  obtain ⟨hstate, henum, hflags⟩ := h
  rw [setSst, strFlags_get hn _ hflags, get_set_lane hn _ _ henum, get_set_lane hn _ _ hstate]

theorem sst_setSst (s : State) (x : SState) : (s.setSst n x).sst n = x := by
  have hstate : (s.setSst n x).get (F.STR_STAT_STATE n) = x.code % 8 := by
    rw [setSst, strFlags_get hn _ (by decide), get_set_lane hn _ _ (by decide),
      get_set_lane_same hn _ _ (by decide)]
    rfl
  rw [sst, hstate]
  cases x <;> rfl

end

theorem strFlags_strs (s : State) (n : Nat) : (s.strFlags n).strs = s.strs := by
  unfold strFlags
  extract_lets x e s1 s2 s3 s4 s5
  calc (s5.set (F.STR_STAT_ARM_HOLD n) _).strs = s5.strs := set_strs _ _ _
    _ = s4.strs := set_strs _ _ _
    _ = s3.strs := set_strs _ _ _
    _ = s2.strs := set_strs _ _ _
    _ = s1.strs := set_strs _ _ _
    _ = s.strs := set_strs _ _ _

theorem setSst_str (s : State) (n : Nat) (x : SState) : (s.setSst n x).str n = s.str n := by
  rw [str, setSst, strFlags_strs, set_strs, set_strs, str]

/-- A failed check leaves its code and its fret (R150). -/
theorem strFail_spec (hn : n < 48) (s : State) {code : Nat} (hc : code < 16) (fret : Nat) :
    (s.strFail n code fret).sst n = .failed ∧
      (s.strFail n code fret).get (F.STR_CHK_CODE n) = code ∧
      (s.strFail n code fret).get (F.STR_CHK_FRET n) = fret % 256 := by
  refine ⟨sst_setSst hn _ _, ?_, ?_⟩
  · rw [strFail, setSst_get hn _ _ (by decide), get_setPhase, get_set_lane hn _ _ (by decide),
      get_set_lane_same hn _ _ (by decide)]
    exact Nat.mod_eq_of_lt hc
  · rw [strFail, setSst_get hn _ _ (by decide), get_setPhase,
      get_set_lane_same hn _ _ (by decide)]
    rfl

/-! ### What a start of enumeration looks at -/

/-- Of the registers that a start of string m's enumeration looks at (R114) t shows what s does:
those below the strings and the string's own status. -/
structure StartSeen (m : Nat) (s t : State) : Prop where
  reset : t.dev.inReset = s.dev.inReset
  regs : ∀ a, (a < 0x200000 ∧ a ≠ R.MEM_INJ.addr) ∨ a = (R.STR_STAT m).addr →
    ∀ d, sget t.regs d a = sget s.regs d a

namespace StartSeen

theorem refl (m : Nat) (s : State) : StartSeen m s s := ⟨rfl, fun _ _ _ => rfl⟩

theorem trans (h : StartSeen m s t) (k : StartSeen m t u) : StartSeen m s u :=
  ⟨k.reset.trans h.reset, fun a ha d => (k.regs a ha d).trans (h.regs a ha d)⟩

theorem same (h : StartSeen m s t) (hr : u.regs = t.regs) (hd : u.dev = t.dev) :
    StartSeen m s u :=
  h.trans ⟨by rw [hd], fun _ _ _ => by rw [hr]⟩

/-- A write of a field of another string. -/
theorem set (h : StartSeen m s t) (hn : n < 44) (hne : n ≠ m) {f : Nat → Fld} {v : Nat}
    (hf : StrReg f) : StartSeen m s (t.set (f n) v) := by
  refine h.trans ⟨rfl, fun a ha d => sget_sput_ne t.regs _ d _ ?_⟩
  have hin := hf n hn
  have hstat : (R.STR_STAT m).addr = 0x200010 + 0x2000 * m := rfl
  omega

theorem get (h : StartSeen m s t) {f : Fld}
    (hf : (f.addr < 0x200000 ∧ f.addr ≠ R.MEM_INJ.addr) ∨ f.addr = (R.STR_STAT m).addr) :
    t.get f = s.get f := by
  rw [State.get, State.get, State.word, State.word, h.regs _ hf]

theorem sst (h : StartSeen m s t) : t.sst m = s.sst m := sst_congr (h.get (.inr rfl))

/-- A field of one of the 48 lanes. -/
theorem getLane (h : StartSeen m s t) {l : Nat} (hl : l < 48) {f : Nat → Fld} (hf : LaneReg f) :
    t.get (f l) = s.get (f l) := by
  have hin := hf l hl
  have hinj : R.MEM_INJ.addr = 0xe0018 := rfl
  exact h.get (.inl (by omega))

/-- The lane of a string, and whether it is UP. -/
theorem strUp (h : StartSeen m s t) (n : Nat) : t.strUp n = s.strUp n := by
  have hlane : t.strLane? n = s.strLane? n := by
    refine List.find?_congr fun l hl => ?_
    have hl : l < 48 := List.mem_range.1 hl
    rw [lrole_congr (h.getLane hl (by decide)), State.lidx, State.lidx, h.getLane hl (by decide)]
  have hbelow (l : Nat) (hl : s.strLane? n = some l) : l < 48 :=
    List.mem_range.1 (List.mem_of_find?_eq_some hl)
  rw [State.strUp, State.strUp, hlane]
  split
  next l hl => rw [lst_congr (h.getLane (hbelow l hl) (by decide))]
  next => rfl

theorem gst (h : StartSeen m s t) : t.gst = s.gst := by
  rw [State.gst, State.gst, h.reset, h.get (f := F.DEV_STATE_STATE) (.inl (by decide))]

theorem live (h : StartSeen m s t) : t.live = s.live := by rw [State.live, State.live, h.gst]

/-- The conditions of a start (R114). -/
theorem enumReady (h : StartSeen m s t) (n : Nat) : t.enumReady n = s.enumReady n := by
  have hrole : t.role = s.role := by
    rw [State.role, State.role, h.get (f := F.PAIR_STAT_ROLE) (.inl (by decide))]
  rw [State.enumReady, State.enumReady, h.gst, State.holder, State.holder, hrole, h.strUp n]

/-- The lock group of a string (R50). -/
theorem strGrp? (h : StartSeen m s t) (n : Nat) : t.strGrp? n = s.strGrp? n := by
  have hgrp (f : Nat → Fld) (hf : ∀ g < 8, (f g).addr < 0xe0000) {g : Nat} (hg : g < 8) :
      t.get (f g) = s.get (f g) := by
    have hin := hf g hg
    have hinj : R.MEM_INJ.addr = 0xe0018 := rfl
    exact h.get (.inl (by omega))
  refine List.find?_congr fun g hg => ?_
  have hg : g < 8 := List.mem_range.1 hg
  rw [lgEn, lgEn, on_congr (hgrp F.TIME_LG_CFG_EN (by decide) hg), lgHas, lgHas,
    hgrp F.TIME_LG_STRA_STR (by decide) hg, hgrp F.TIME_LG_STRB_STR (by decide) hg]

end StartSeen

/-! ### The start of an enumeration -/

/-- A word stored in memory changes no string; of the registers at most the injection of errors
(R364). -/
theorem wr32_seen (m : Nat) (s : State) (a v : Nat) :
    StartSeen m s (s.wr32 a v) ∧ (s.wr32 a v).strs = s.strs := by
  have hmark : (s.mark a).regs = s.regs ∧ (s.mark a).dev = s.dev ∧ (s.mark a).strs = s.strs := by
    unfold mark
    split <;> exact ⟨rfl, rfl, rfl⟩
  obtain ⟨hregs, hdev, hstrs⟩ := hmark
  have hseen : StartSeen m s (s.mark a) := (StartSeen.refl m s).same hregs hdev
  have hinj : R.MEM_INJ.addr ≠ (R.STR_STAT m).addr := by
    change 0xe0018 ≠ 0x200010 + 0x2000 * m
    omega
  unfold wr32
  extract_lets s1 s2 md i j flip v' s3
  split
  · refine ⟨hseen.trans ⟨rfl, fun b hb d => sget_sput_ne s3.regs _ d _ ?_⟩, hstrs⟩
    rintro rfl
    exact hb.elim (fun h => h.2 rfl) hinj
  · exact ⟨hseen.same rfl rfl, hstrs⟩

/-- A RELEASE clears INSVC in the cell table (R159). -/
theorem ctRelease_seen (m : Nat) (s : State) (n : Nat) :
    StartSeen m s (s.ctRelease n) ∧ (s.ctRelease n).strs = s.strs := by
  refine List.foldlRecOn (motive := fun t => StartSeen m s t ∧ t.strs = s.strs) _ _
    ⟨.refl m s, rfl⟩ fun t ⟨hseen, hstrs⟩ f _ => ?_
  dsimp only
  split
  · obtain ⟨hput, hsame⟩ := wr32_seen m t (t.ctAt f.cid + 8) (setBit (t.ct f.cid 8) 24 false)
    exact ⟨hseen.trans hput, hsame.trans hstrs⟩
  · exact ⟨hseen, hstrs⟩

/-- The fields that a start of enumeration clears. -/
def enumZeroed : List (Nat → Fld) :=
  [F.STR_STAT_FAR, F.STR_STAT_SHORT, F.STR_STAT_RELAY_OK, F.STR_STAT_BROKEN, F.STR_STAT_RELAY,
    F.STR_CTRL_REENUM]

theorem zero_get (hn : n < 48) (s : State) {fs : List (Nat → Fld)} {g : Nat → Fld}
    (h : LaneClear fs g) : (s.zero (fs.map (· n))).get (g n) = s.get (g n) := by
  refine List.foldlRecOn (motive := fun t : State => t.get (g n) = s.get (g n)) _ _ rfl
    fun t ht f hf => ?_
  obtain ⟨f, hmem, rfl⟩ := List.mem_map.1 hf
  rw [get_set_lane hn t 0 (h f hmem), ht]

theorem zero_seen (s : State) (hn : n < 44) (hne : n ≠ m) {fs : List (Nat → Fld)}
    (h : ∀ f ∈ fs, StrReg f) : StartSeen m s (s.zero (fs.map (· n))) := by
  refine List.foldlRecOn (motive := StartSeen m s) _ _ (.refl m s) fun t ht f hf => ?_
  obtain ⟨f, hmem, rfl⟩ := List.mem_map.1 hf
  exact ht.set hn hne (h f hmem)

theorem zero_str (s : State) (fs : List Fld) (n : Nat) : (s.zero fs).str n = s.str n :=
  List.foldlRecOn (motive := fun t : State => t.str n = s.str n) fs _ rfl fun _ ht _ _ => ht

/-- The string's record as an enumeration begins with it: a new MAP_ID and no fret; what is in
flight and the BLK requests stay (R114). -/
def enumRecord (x : StrS) : StrS :=
  { lastMap := x.lastMap % 255 + 1, flights := x.flights, blkTrip := x.blkTrip,
    blkSvb := x.blkSvb, blkHold := x.blkHold, phase := .hello }

/-- The string with that record; what the observer keeps of its old frets is forgotten. -/
def enumRecorded (s : State) (n : Nat) : State :=
  { s.setStr n (enumRecord (s.str n)) with modu := { s.modu with
    prev := s.modu.prev.filter (fun p => decide (p.1 / 256 ≠ n)) } }

/-- The string as an enumeration begins with it, before it stands in ENUM (R114). -/
def enumFresh (s : State) (n : Nat) : State :=
  (((s.enumRecorded n).set (F.STR_ENUM_MAP_ID n) (enumRecord (s.str n)).lastMap).set
    (R.STR_CHK n) 0).zero (enumZeroed.map (· n))

/-- The string in ENUM, its old map released (R114, R159). -/
def enumBegun (s : State) (n : Nat) : State := ((s.ctRelease n).enumFresh n).setSst n .enum

theorem enumBegin_eq (s : State) (n : Nat) : s.enumBegin n =
    ((s.enumBegun n).strSend n ((s.enumBegun n).releaseFrame n)).sendEnumHello n := rfl

theorem enumBegin_sent (s : State) (n : Nat) : Sent n (s.enumBegun n) (s.enumBegin n) := by
  rw [enumBegin_eq]
  exact (strSend_sent _ _ _).trans (sendEnumHello_sent _ _)

theorem enumFresh_str (s : State) (n : Nat) : (s.enumFresh n).str n = enumRecord (s.str n) := by
  rw [enumFresh, zero_str, str_set, str_set]
  exact str_setStr s n (enumRecord (s.str n))

theorem enumFresh_mapId (hn : n < 48) (s : State) :
    (s.enumFresh n).get (F.STR_ENUM_MAP_ID n) = (s.str n).lastMap % 255 + 1 := by
  rw [enumFresh, zero_get hn _ (by decide), get_set_lane hn _ _ (by decide),
    get_set_lane_same hn _ _ (by decide)]
  exact Nat.mod_eq_of_lt (show (s.str n).lastMap % 255 + 1 < 256 by omega)

/-- An enumeration begins in ENUM with the next MAP_ID, before the first HELLO's reply and without
frets (R114, R154). -/
theorem enumBegin_spec (hn : n < 48) (s : State) :
    (s.enumBegin n).sst n = .enum ∧ ((s.enumBegin n).str n).phase = .hello ∧
      ((s.enumBegin n).str n).frets = [] ∧
      (s.enumBegin n).get (F.STR_ENUM_MAP_ID n) = (s.str n).lastMap % 255 + 1 := by
  have hsent := enumBegin_sent s n
  have hrelease : (s.ctRelease n).str n = s.str n := by
    rw [State.str, State.str, (ctRelease_seen n s n).2]
  have hstr : (s.enumBegun n).str n = enumRecord (s.str n) := by
    rw [enumBegun, setSst_str, enumFresh_str, hrelease]
  obtain ⟨hphase, hfrets, -⟩ := hsent.enumeration
  rw [hstr] at hphase hfrets
  refine ⟨?_, hphase, hfrets, ?_⟩
  · rw [sst_congr (hsent.get _), enumBegun, sst_setSst hn]
  · rw [hsent.get, enumBegun, setSst_get hn _ _ (by decide), enumFresh_mapId hn, hrelease]

theorem strFlags_seen (s : State) (hn : n < 44) (hne : n ≠ m) : StartSeen m s (s.strFlags n) := by
  unfold strFlags
  extract_lets x e s1 s2 s3 s4 s5
  have henum : StartSeen m s s3 :=
    (((StartSeen.refl m s).set hn hne (f := F.STR_ENUM_FRETS) (by decide)).set hn hne
      (f := F.STR_ENUM_HMIN) (by decide)).set hn hne (f := F.STR_ENUM_INCOMPAT) (by decide)
  clear_value s3
  exact ((henum.set hn hne (f := F.STR_STAT_EXPECT_MET) (by decide)).set hn hne
    (f := F.STR_STAT_B_TIMED) (by decide)).set hn hne (f := F.STR_STAT_ARM_HOLD) (by decide)

theorem setSst_seen (s : State) (hn : n < 44) (hne : n ≠ m) (x : SState) :
    StartSeen m s (s.setSst n x) :=
  (((StartSeen.refl m s).set hn hne (f := F.STR_STAT_STATE) (by decide)).set hn hne
    (f := F.STR_CTRL_ENUM) (by decide)).trans (strFlags_seen _ hn hne)

theorem enumFresh_seen (s : State) (hn : n < 44) (hne : n ≠ m) :
    StartSeen m s (s.enumFresh n) := by
  have hrecord : StartSeen m s (s.enumRecorded n) := (StartSeen.refl m s).same rfl rfl
  have hmap := (hrecord.set hn hne (f := F.STR_ENUM_MAP_ID) (v := (enumRecord (s.str n)).lastMap)
    (by decide)).set hn hne (f := R.STR_CHK) (v := 0) (by decide)
  exact hmap.trans (zero_seen _ hn hne (fs := enumZeroed) (by decide))

/-- An enumeration that begins leaves what the start of another string's looks at. -/
theorem enumBegin_seen (s : State) (hn : n < 44) (hne : n ≠ m) :
    StartSeen m s (s.enumBegin n) := by
  have hbegun : StartSeen m s (s.enumBegun n) :=
    ((ctRelease_seen m s n).1.trans (enumFresh_seen _ hn hne)).trans (setSst_seen _ hn hne _)
  exact hbegun.same (enumBegin_sent s n).regs (enumBegin_sent s n).dev

theorem enumStart_seen (s : State) (hn : n < 44) (hne : n ≠ m) :
    StartSeen m s (s.enumStart n) :=
  when_of s _ _ (StartSeen m s) (.refl m s) (enumBegin_seen s hn hne)

theorem enumStart_foldl_seen (s : State) {l : List Nat} (hl : ∀ n ∈ l, n < 44 ∧ n ≠ m) :
    StartSeen m s (l.foldl enumStart s) :=
  List.foldlRecOn (motive := StartSeen m s) l _ (.refl m s) fun t ht n hn =>
    ht.trans (enumStart_seen t (hl n hn).1 (hl n hn).2)

/-- ENUM_START does with each string what its own start does, from a state that shows of the string
what the first did. -/
theorem each_enumStart (s : State) (hm : m < 44) :
    ∃ u, StartSeen m s u ∧ StartSeen m (u.enumStart m) (s.each 44 enumStart) := by
  obtain ⟨before, after, hsplit⟩ := List.append_of_mem (List.mem_range.2 hm)
  have hother : ∀ n ∈ before ++ after, n < 44 ∧ n ≠ m := by
    have hnodup : (before ++ m :: after).Nodup := hsplit ▸ List.nodup_range
    have hbelow (n : Nat) (hn : n ∈ before ++ m :: after) : n < 44 :=
      List.mem_range.1 (hsplit ▸ hn)
    intro n hn
    refine ⟨hbelow n (((List.sublist_cons_self m after).append_left before).subset hn), ?_⟩
    rintro rfl
    exact (List.nodup_middle.1 hnodup).notMem hn
  refine ⟨before.foldl enumStart s, enumStart_foldl_seen s fun n hn => ?_, ?_⟩
  · exact hother n (List.mem_append_left _ hn)
  · rw [each, hsplit, List.foldl_append, List.foldl_cons]
    exact enumStart_foldl_seen _ fun n hn => hother n (List.mem_append_right _ hn)

/-- Of ENUM_START: an IDLE string in a lock group whose conditions hold enters ENUM, any other keeps
its state (R114). -/
theorem enumStart_sst (s : State) (hm : m < 44) :
    (s.sst m = .idle → (s.strGrp? m).isSome = true → s.enumReady m = true →
      (s.each 44 enumStart).sst m = .enum) ∧
    (s.sst m ≠ .idle → (s.each 44 enumStart).sst m = s.sst m) := by
  obtain ⟨u, hbefore, hafter⟩ := each_enumStart s hm
  refine ⟨fun hidle hgrp hready => ?_, fun hbusy => ?_⟩
  · have hgo : u.enumStart m = u.enumBegin m := by
      have hcond : (u.sst m = .idle && (u.strGrp? m).isSome && u.enumReady m) = true := by
        simp [hbefore.sst, hbefore.strGrp?, hbefore.enumReady, hidle, hgrp, hready]
      rw [enumStart, hcond, when_true]
    obtain ⟨henum, -⟩ := enumBegin_spec (lt_48_of_str hm) u
    rw [hafter.sst, hgo, henum]
  · have hstay : u.enumStart m = u := by
      have hcond : (u.sst m = .idle && (u.strGrp? m).isSome && u.enumReady m) = false := by
        simp [hbefore.sst, hbusy]
      rw [enumStart, hcond, when_false]
    rw [hafter.sst, hstay, hbefore.sst]

/-! ### Replies, ACKs and ECHOs -/

theorem onString_unhurt (h : s.Unhurt n) (f : Bytes) (k : State → Bytes → State) :
    s.onString n f k = k s f := by
  unfold onString
  split
  next l hl => exact onFrame_unhurt (h l hl) f k
  next => rfl

/-- A reply that is not valid has no effect (R114). -/
theorem enumReply_bad {f : Bytes} (h : s.enumReplyOk n f = false) : s.enumReply n f = s := by
  simp [enumReply, h]

/-- The string with the fret that a cell's reply declares, before its provisional ASSIGN goes out
(R109, R114). -/
def fretAdded (s : State) (n : Nat) (f : Bytes) : State :=
  (s.when (s.newFret n f).2 (·.flag (F.STR_STAT_DECL_BAD n))).setStr n { s.str n with
    frets := (s.str n).frets ++ [(s.newFret n f).1], k := (s.str n).frets.length, phase := .prov }

/-- A cell's reply adds its fret, to which the provisional ASSIGN goes (R114). -/
theorem enumReply_cell {f : Bytes} (hphase : (s.str n).phase = .hello)
    (hok : s.enumReplyOk n f = true) (hkind : fieldLE f 1 1 = 1)
    (hroom : (s.str n).frets.length < s.fmax) :
    ((s.enumReply n f).str n).phase = .prov ∧
      ((s.enumReply n f).str n).frets = (s.str n).frets ++ [(s.newFret n f).1] ∧
      ((s.enumReply n f).str n).k = (s.str n).frets.length := by
  have hnext : s.enumReply n f = (s.fretAdded n f).strSend n
      ((s.fretAdded n f).provFrame n (s.str n).frets.length (s.newFret n f).1.uid) := by
    simp [enumReply, fretAdded, hok, hkind, hphase, Nat.ne_of_lt hroom]
  obtain ⟨hsent, hfrets, hat⟩ := (strSend_sent (s.fretAdded n f) n
    ((s.fretAdded n f).provFrame n (s.str n).frets.length (s.newFret n f).1.uid)).enumeration
  rw [hnext, hsent, hfrets, hat, fretAdded, str_setStr]
  exact ⟨rfl, rfl, rfl⟩

/-- The partner's reply shows a far end of type 1 and ends the search (R114). -/
theorem enumReply_partner (hn : n < 48) {f : Bytes} (hphase : (s.str n).phase = .hello)
    (hok : s.enumReplyOk n f = true) (hkind : fieldLE f 1 1 = 2) :
    (s.enumReply n f).get (F.STR_STAT_FAR n) = 1 ∧
      ((s.enumReply n f).str n).frets = (s.str n).frets := by
  have hend : s.enumReply n f = (s.set (F.STR_STAT_FAR n) 1).searchEnd n := by
    simp [enumReply, hok, hkind, hphase]
  obtain ⟨hregs, hfrets, -⟩ := searchEnd_spec (s.set (F.STR_STAT_FAR n) 1) n
  rw [hend]
  refine ⟨?_, hfrets⟩
  rw [get_congr_regs _ hregs, get_set_lane_same hn _ _ (by decide)]
  rfl

/-- Without a reply the string is SHORT and the search over (R114). -/
theorem enumReplyTimeout_spec (hn : n < 48) (hphase : (s.str n).phase = .hello) :
    (s.enumReplyTimeout n).on (F.STR_STAT_SHORT n) = true ∧
      ((s.enumReplyTimeout n).str n).phase =
        (if (s.str n).frets = [] then .echoEnd 1 else .echo 1) := by
  have hend : s.enumReplyTimeout n = (s.flag (F.STR_STAT_SHORT n)).searchEnd n := by
    simp [enumReplyTimeout, hphase]
  obtain ⟨hregs, -, hnext⟩ := searchEnd_spec (s.flag (F.STR_STAT_SHORT n)) n
  rw [hend]
  refine ⟨?_, hnext⟩
  rw [on_congr (get_congr_regs _ hregs)]
  exact on_flag_lane hn s (by decide) (by decide)

/-- A good ACK of the provisional ASSIGN sends the next HELLO (R114, R117). -/
theorem ackReceive_prov {f : Bytes} (hphase : (s.str n).phase = .prov)
    (hfor : s.ackFor n (s.str n).k 0 f = true) (hstatus : fieldLE f 3 1 = 0) :
    ((s.ackReceive n f).str n).phase = .hello ∧
      ((s.ackReceive n f).str n).frets = (s.str n).frets := by
  have hnext : s.ackReceive n f = (s.setPhase n .hello).sendEnumHello n := by
    simp [ackReceive, hphase, hfor, hstatus]
  obtain ⟨hsent, hfrets, -⟩ := (sendEnumHello_sent (s.setPhase n .hello) n).enumeration
  rw [str_setPhase] at hsent hfrets
  rw [hnext]
  exact ⟨hsent, hfrets⟩

/-- A final ASSIGN without its ACK goes out three times, then the string fails with the fret
(R117, R150). -/
theorem ackTimeout_final (hn : n < 48) {i : Nat} (hphase : (s.str n).phase = .final i) :
    (i < 3 → ((s.ackTimeout n).str n).phase = .final (i + 1)) ∧
    (3 ≤ i → (s.ackTimeout n).sst n = .failed ∧ (s.ackTimeout n).get (F.STR_CHK_CODE n) = 5 ∧
      (s.ackTimeout n).get (F.STR_CHK_FRET n) = (s.str n).k % 256) := by
  refine ⟨fun hi => ?_, fun hi => ?_⟩
  · have hagain : s.ackTimeout n =
        (s.setPhase n (.final (i + 1))).strSend n (s.finalFrame n (s.str n).k true) := by
      simp [ackTimeout, hphase, hi]
    obtain ⟨hsent, -⟩ := (strSend_sent (s.setPhase n (.final (i + 1))) n
      (s.finalFrame n (s.str n).k true)).enumeration
    rw [hagain, hsent, str_setPhase]
  · have hfail : s.ackTimeout n = s.strFail n 5 (s.str n).k := by
      simp [ackTimeout, hphase, Nat.not_lt.2 hi]
    rw [hfail]
    exact strFail_spec hn s (by decide) _

/-- A returned ECHO leaves its round trip with the fret and the next fret has its ECHO (R114,
R115). -/
theorem echoReturn_next {i : Nat} (half : Nat) (hphase : (s.str n).phase = .echo i)
    (hk : (s.str n).k < 256) (hv : (s.str n).nonce < 2 ^ 32)
    (hmore : (s.str n).k + 1 < (s.str n).frets.length) : ∀ t,
    t = s.echoReturn n (s.echoFrame (s.str n).k (s.str n).nonce) half →
      (t.str n).phase = .echo 1 ∧ (t.str n).k = (s.str n).k + 1 ∧
        (nth (t.str n).frets {} (s.str n).k).rt = 2 * half := by
  obtain ⟨hframe, hside, hfret, hnonce⟩ := s.echoFrame_fields hk hv
  generalize s.echoFrame (s.str n).k (s.str n).nonce = f at *
  rintro t rfl
  have hnext : s.echoReturn n f half =
      ((s.updFret n (s.str n).k (fun g => { g with rt := 2 * half })).setStr n
        { (s.updFret n (s.str n).k (fun g => { g with rt := 2 * half })).str n with
          k := (s.str n).k + 1, phase := .echo 1 }).sendEcho n ((s.str n).k + 1) := by
    simp [echoReturn, hphase, hframe, hside, hfret, hnonce, hmore]
  obtain ⟨hsent, hfrets, hat⟩ := (sendEcho_sent ((s.updFret n (s.str n).k
    (fun g => { g with rt := 2 * half })).setStr n
      { (s.updFret n (s.str n).k (fun g => { g with rt := 2 * half })).str n with
        k := (s.str n).k + 1, phase := .echo 1 }) n ((s.str n).k + 1)).enumeration
  rw [hnext, hsent, hfrets, hat, str_setStr]
  refine ⟨rfl, rfl, ?_⟩
  simp [updFret, nth, setNth, Nat.lt_of_succ_lt hmore]

/-- An ECHO that does not return goes out three times, then the string ends before its fret
(R114). -/
theorem echoTimeout_fret (hn : n < 48) {i : Nat} (hphase : (s.str n).phase = .echo i) :
    (i < 3 → ((s.echoTimeout n).str n).phase = .echo (i + 1)) ∧
    (3 ≤ i → ((s.echoTimeout n).str n).phase = .echoEnd 1 ∧
      (s.echoTimeout n).on (F.STR_STAT_SHORT n) = true ∧
      ((s.echoTimeout n).str n).frets = (s.str n).frets.take (s.str n).k) := by
  refine ⟨fun hi => ?_, fun hi => ?_⟩
  · have hagain : s.echoTimeout n =
        (s.setPhase n (.echo (i + 1))).sendEcho n (s.str n).k := by
      simp [echoTimeout, hphase, hi]
    obtain ⟨hsent, -⟩ :=
      (sendEcho_sent (s.setPhase n (.echo (i + 1))) n (s.str n).k).enumeration
    rw [hagain, hsent, str_setPhase]
  · have hend : s.echoTimeout n = ((s.setStr n { s.str n with
        frets := (s.str n).frets.take (s.str n).k, phase := .echoEnd 1 }).flag
        (F.STR_STAT_SHORT n)).sendEcho n 0xFF := by
      simp [echoTimeout, hphase, Nat.not_lt.2 hi]
    have hsent := sendEcho_sent ((s.setStr n { s.str n with
      frets := (s.str n).frets.take (s.str n).k, phase := .echoEnd 1 }).flag
      (F.STR_STAT_SHORT n)) n 0xFF
    obtain ⟨hnext, hfrets, -⟩ := hsent.enumeration
    rw [flag, str_set, str_setStr] at hnext hfrets
    rw [hend]
    exact ⟨hnext, (on_congr (hsent.get _)).trans (on_flag_lane hn _ (by decide) (by decide)),
      hfrets⟩

/-! ### Writes of the host that reach a string -/

/-- A host's write of a register of a string reaches the string. -/
theorem hostW_str (hs : s.Awake) (hn : n < 44) {a : Nat} (k : Nat) {data : Nat}
    (ha : a = 0x200000 + k + 0x2000 * n) (hk : k < 0x2000 ∧ k % 4 = 0) (hd : data < 2 ^ 32) :
    s.hostW a data = s.wrStr n (wholeWrite a data) := by
  have hstep : a ≠ R.ETH_STEP_CMD.addr := by
    have : R.ETH_STEP_CMD.addr = 0xb0024 := rfl
    omega
  have hplace : ¬ a ≥ 0x1000000 ∧ a ≥ 0x200000 := by omega
  have hstr : (a - 0x200000) / 0x2000 = n := by omega
  rw [hostW_awake s hs (by omega) hd, busW_eq_busW1 s _ hstep]
  simp [busW1, hplace, hstr, Config.strings, hn]

/-- What a write of STR_CTRL does before it looks at ENUM and REENUM: its other fields by their
access codes. -/
def strCtrlWritten (s : State) (n data : Nat) : State :=
  s.plain ((wholeWrite (R.STR_CTRL n).addr data).without 3)

theorem hostW_strCtrl (hs : s.Awake) (hn : n < 44) {data : Nat} (hd : data < 2 ^ 32) :
    s.hostW (R.STR_CTRL n).addr data =
      ((s.strCtrlWritten n data).when (bit data 0) (·.enumWrite n)).when (bit data 1)
        (·.reenumWrite n) := by
  have hofs : ((R.STR_CTRL n).addr - 0x200000) % 0x2000 = 0x0C := by
    change (0x20000c + 0x2000 * n - 0x200000) % 0x2000 = 0x0C
    omega
  rw [hostW_str hs hn (a := (R.STR_CTRL n).addr) 0xC rfl (by decide) hd]
  unfold wrStr
  rw [wholeWrite_a, hofs, wholeWrite_cmd _ hd]
  rfl

theorem strCtrlWritten_regsOnly (s : State) (n data : Nat) :
    RegsOnly [(R.STR_CTRL n).addr] s (s.strCtrlWritten n data) := plain_regsOnly s _ rfl

theorem strCtrlWritten_str (s : State) (n data : Nat) :
    (s.strCtrlWritten n data).str n = s.str n := by
  obtain ⟨hrest, -⟩ := strCtrlWritten_regsOnly s n data
  rw [State.str, State.str, hrest]

theorem strCtrlWritten_seen (s : State) (n data : Nat) :
    StartSeen n s (s.strCtrlWritten n data) := by
  obtain ⟨hrest, hregs⟩ := strCtrlWritten_regsOnly s n data
  have hctrl : (R.STR_CTRL n).addr = 0x20000c + 0x2000 * n := rfl
  have hstat : (R.STR_STAT n).addr = 0x200010 + 0x2000 * n := rfl
  refine ⟨by rw [hrest], fun a ha d => hregs a (mt List.mem_singleton.1 ?_) d⟩
  omega

/-- The host's ENUM. -/
theorem exec_enum (hs : s.Awake) (hn : n < 44) :
    exec (.enum n) s = .next ((s.strCtrlWritten n 1).enumWrite n) :=
  (if_pos (decide_eq_true hn)).trans (congrArg _ (hostW_strCtrl hs hn (by decide)))

/-- The host's REENUM. -/
theorem exec_reenum (hs : s.Awake) (hn : n < 44) :
    exec (.reenum n) s = .next ((s.strCtrlWritten n 2).reenumWrite n) :=
  (if_pos (decide_eq_true hn)).trans (congrArg _ (hostW_strCtrl hs hn (by decide)))

/-- ENUM of a LIVE or FAILED string whose conditions hold begins an enumeration (R114, R154). -/
theorem enumWrite_begin (hst : s.sst n = .live ∨ s.sst n = .failed)
    (hready : s.enumReady n = true) : s.enumWrite n = s.enumBegin n := by
  rcases hst with hst | hst <;> simp [enumWrite, hst, hready]

/-- ENUM of an IDLE or a WATCH string sets CMD_IGN (R154). -/
theorem enumWrite_ignored (hst : s.sst n = .idle ∨ s.sst n = .watch) :
    s.enumWrite n = s.flag (F.STR_STAT_CMD_IGN n) := by
  rcases hst with hst | hst <;> simp [enumWrite, hst]

/-- REENUM of a LIVE string in READY or RUN that is not at work sends a HELLO (R121). -/
theorem reenumWrite_spec (hn : n < 48) (hst : s.sst n = .live) (hlive : s.live = true)
    (hphase : (s.str n).phase = .none) :
    (s.reenumWrite n).on (F.STR_CTRL_REENUM n) = true ∧
      ((s.reenumWrite n).str n).phase = .reHello ∧ (s.reenumWrite n).sst n = .live := by
  have hgo : s.reenumWrite n =
      ((s.flag (F.STR_CTRL_REENUM n)).setPhase n .reHello).sendEnumHello n := by
    simp [reenumWrite, hst, hlive, hphase]
  have hsent := sendEnumHello_sent ((s.flag (F.STR_CTRL_REENUM n)).setPhase n .reHello) n
  obtain ⟨hnext, -⟩ := hsent.enumeration
  rw [hgo]
  refine ⟨?_, ?_, ?_⟩
  · rw [on_congr (hsent.get _)]
    exact on_flag_lane hn s (by decide) (by decide)
  · rw [hnext, str_setPhase]
  · rw [sst_congr (hsent.get _), sst_congr (get_setPhase _ _ _ _), flag,
      sst_congr (get_set_lane hn s 1 (by decide)), hst]

end State

/-! ## The statement -/

/-- A command of a string that the part has answers the state that it makes. -/
theorem State.gives_of_str {s t : State} {i : Instr} {n : Nat} {P : State → Prop} (hn : n < 44)
    (hexec : exec i s = gate (okStr n) t) (h : P t) : s.Gives i P :=
  ⟨t, hexec.trans (if_pos (decide_eq_true hn)), h⟩

/-- A frame that reaches a string unhurt answers what the string does with it. -/
theorem State.gives_of_frame {s : State} {i : Instr} {n : Nat} {P : State → Prop} (hn : n < 44)
    (hunhurt : s.Unhurt n) {f : Bytes} {k : State → Bytes → State}
    (hexec : exec i s = gate (okStr n) (s.onString n f k)) (h : P (k s f)) : s.Gives i P :=
  State.gives_of_str hn hexec (by rwa [State.onString_unhurt hunhurt])

/-- Settles O38, one lemma for each command, reply and time-out. -/
theorem stringEnumeration : Obligations.StringEnumeration := by
  refine ⟨?enum, ?ignored, ?start, ?reenum, ?reply, ?noReply, ?ack, ?noAck, ?echo, ?noEcho⟩
  case enum =>
    intro s n hn hs hst hready
    have hseen := s.strCtrlWritten_seen n 1
    have hbegin := State.enumWrite_begin (hseen.sst ▸ hst) ((hseen.enumReady n).trans hready)
    have hspec := State.enumBegin_spec (State.lt_48_of_str hn) (s.strCtrlWritten n 1)
    rw [State.strCtrlWritten_str] at hspec
    exact ⟨_, State.exec_enum hs hn, by rwa [hbegin]⟩
  case ignored =>
    intro s n hn hs hst
    have hn48 : n < 48 := State.lt_48_of_str hn
    have hseen := s.strCtrlWritten_seen n 1
    refine ⟨_, State.exec_enum hs hn, ?_⟩
    rw [State.enumWrite_ignored (hseen.sst ▸ hst)]
    refine ⟨State.on_flag_lane hn48 _ (by decide) (by decide), ?_⟩
    rw [State.flag, State.sst_congr (State.get_set_lane hn48 _ _ (by decide)), hseen.sst]
  case start => exact fun s => ⟨_, rfl, fun n hn => State.enumStart_sst s hn⟩
  case reenum =>
    intro s n hn hs hst hlive hphase
    have hseen := s.strCtrlWritten_seen n 2
    refine ⟨_, State.exec_reenum hs hn, ?_⟩
    refine State.reenumWrite_spec (State.lt_48_of_str hn) (hseen.sst.trans hst) ?_ ?_
    · exact hseen.live.trans hlive
    · rw [State.strCtrlWritten_str, hphase]
  case reply =>
    intro s n f hn hunhurt hphase
    refine ⟨fun hbad => ?_, fun hok hkind hroom => ?_, fun hok hkind => ?_⟩
    · have hexec : exec (.enumReplyReceive n f) s =
          .next (s.onString n f (fun s f => s.enumReply n f)) := if_pos (decide_eq_true hn)
      rw [hexec, State.onString_unhurt hunhurt, State.enumReply_bad hbad]
    · exact State.gives_of_frame hn hunhurt rfl (State.enumReply_cell hphase hok hkind hroom)
    · exact State.gives_of_frame hn hunhurt rfl
        (State.enumReply_partner (State.lt_48_of_str hn) hphase hok hkind)
  case noReply =>
    exact fun s n hn hphase => State.gives_of_str hn rfl
      (State.enumReplyTimeout_spec (State.lt_48_of_str hn) hphase)
  case ack =>
    exact fun s n f hn hunhurt hphase hfor hstatus =>
      State.gives_of_frame hn hunhurt rfl (State.ackReceive_prov hphase hfor hstatus)
  case noAck =>
    intro s n i hn hphase
    obtain ⟨hagain, hfail⟩ := State.ackTimeout_final (State.lt_48_of_str hn) hphase
    exact ⟨fun hi => State.gives_of_str hn rfl (hagain hi),
      fun hi => State.gives_of_str hn rfl (hfail hi)⟩
  case echo =>
    exact fun s n i half hn hunhurt hphase hk hv hmore => State.gives_of_frame hn hunhurt rfl
      (State.echoReturn_next half hphase hk hv hmore _ rfl)
  case noEcho =>
    intro s n i hn hphase
    obtain ⟨hagain, hend⟩ := State.echoTimeout_fret (State.lt_48_of_str hn) hphase
    exact ⟨fun hi => State.gives_of_str hn rfl (hagain hi),
      fun hi => State.gives_of_str hn rfl (hend hi)⟩

end Sys2Proof.Machine
end

section
/-! SUPPORT. The refutation of ObserverVectorsAndTables of 05_cell_table_and_observer.md: the core
time of a source that no part has, counted while time passes up to OBS. -/

namespace Sys2Proof.Machine

open Sys2Proof

/-- The source whose SCHED_QTUSE would lie at MOD_ARM_ISRC of arm 2. No submitter has this number
(R267, R292), but the statement speaks of every state. -/
def straySource : Nat := 0x1FD4

theorem straySource_addr : (R.SCHED_QTUSE straySource).addr = (R.MOD_ARM_ISRC 2).addr := rfl

/-- A part in READY at the start of its first period. Core 0 runs an item of the stray source, which
has used 8 x 1,024 cycles; arm 2 has read a current of 5, and its ISRC is off. -/
def strayWork : State :=
  { (State.reset.set F.DEV_STATE_STATE 3).set F.TIME_STATUS_PE_RUN 1 with
    dev := { State.reset.dev with inReset := false }
    modu := { arms := [(2, { iu := 5, seen := true })] }
    cores := [(0, { stack := [{ item := { src := straySource } }] })]
    sched := { qcyc := [(straySource, 0x2000)] } }

theorem strayWork_isrcOff : strayWork.on (F.MOD_ARM_ISRC_EN 2) = false := by decide

/-- On the way to OBS the 8 that is written as the source's core time sets EN of arm 2's ISRC. -/
theorem strayWork_isrcOn_atObs :
    (strayWork.toOfs (strayWork.get F.TIME_MOD_OFS_OBS)).on (F.MOD_ARM_ISRC_EN 2) = true := by
  decide +kernel

/-- The update finds the arm's ISRC on and no valid sample, so it holds the current. -/
theorem strayWork_current_held : (strayWork.obsTick.arm 2).iu = 5 := by decide +kernel

/-- Refutes O43: the update moves time on to OBS before it reads the currents, and the statement does
not keep the items on the cores to the sources that a part has, so the core time of a stray one turns
on an arm's ISRC that was off, and the arm's current is not 0. -/
theorem not_observerVectorsAndTables : ¬ Obligations.ObserverVectorsAndTables := by
  rintro ⟨hupdate, -⟩
  obtain ⟨t, hexec, -, -, harms⟩ := hupdate strayWork (by decide) (by decide) (by decide)
  have ht : t = strayWork.obsTick := (Host.Outcome.next.inj hexec).symm
  obtain ⟨-, -, hoff, -⟩ := harms 2 (by decide)
  obtain ⟨hzero, -⟩ := hoff strayWork_isrcOff
  rw [ht, strayWork_current_held] at hzero
  exact absurd hzero (by decide)

end Sys2Proof.Machine
end

section
/-! SUPPORT. The refutation of ArmCutsAndTrimChannels of 06_arm_modulation.md: the core time of a source
that no part has, counted while time passes up to the cut, puts a string into another arm. -/

namespace Sys2Proof.Machine

open Sys2Proof

/-- The source whose SCHED_QTUSE would lie at STR_CFG of string 0. No submitter has this number
(R267, R292), but the statement speaks of every state. -/
def strayArmSource : Nat := 0x1CFC0

theorem strayArmSource_addr : (R.SCHED_QTUSE strayArmSource).addr = (R.STR_CFG 0).addr := rfl

/-- An ALONE part in READY at the start of its first period. String 0 belongs to arm 0 and to lock
group 0, and no arm has a commit. Core 0 runs an item of the stray source, which has used 1,024
cycles. -/
def strayCut : State :=
  { (((((State.reset.set F.DEV_STATE_STATE 3).set F.TIME_STATUS_PE_RUN 1).set F.PAIR_STAT_ROLE 3).set
      (F.TIME_LG_CFG_EN 0) 1).set (F.TIME_LG_STRA_STR 0) 1).set (F.STR_CFG_ARM 0) 0 with
    dev := { State.reset.dev with inReset := false }
    cores := [(0, { stack := [{ item := { src := strayArmSource } }] })]
    sched := { qcyc := [(strayArmSource, 1024)] } }

/-- Arm 0 is the arm of the group that the statement looks at. -/
theorem strayCut_arms : strayCut.grpArms 0 = [0] := by decide

/-- On the way to CUT_OFS the 1 that is written as the source's core time moves string 0 to arm 1. -/
theorem strayCut_arms_atCut :
    (strayCut.toOfs (strayCut.get (F.TIME_LG_OFS1_CUT_OFS 0))).grpArms 0 = [1] := by
  decide +kernel

/-- So the cut has no arm 0, and does not mark it LATE. -/
theorem strayCut_notLate : (strayCut.cutAt 0).bitOf F.TIME_LATE_ARM_LATE 0 = false := by
  decide +kernel

/-- Refutes O44: a cut moves time on to CUT_OFS before it looks for the arms of its group, and the
statement does not keep the items on the cores to the sources that a part has, so the core time of a
stray one takes the arm out of the group, and an arm with no commit is not LATE. -/
theorem not_armCutsAndTrimChannels : ¬ Obligations.ArmCutsAndTrimChannels := by
  rintro ⟨-, -, hcut, -⟩
  have harm : 0 ∈ strayCut.grpArms 0 := strayCut_arms ▸ List.mem_singleton_self 0
  obtain ⟨hnoCommit, -⟩ := hcut strayCut 0 0 (by decide) (by decide) (by decide) (by decide) harm
    (by decide) (by decide)
  obtain ⟨t, hexec, hlate, -⟩ := hnoCommit rfl
  have ht : t = strayCut.cutAt 0 := (Host.Outcome.next.inj hexec).symm
  rw [ht, strayCut_notLate] at hlate
  exact absurd hlate (by decide)

end Sys2Proof.Machine
end

section
/-! SUPPORT. Bits of a field under the operations that write some of them; what a template's submission
and a trigger of the recorder leave of TRIP. -/

namespace Sys2Proof.Machine

open Sys2Proof

/-! ## Bits of numbers and of fields -/

theorem ofBits_succ (w : Nat) (p : Nat → Bool) :
    ofBits (w + 1) p = if p w then ofBits w p + 2 ^ w else ofBits w p := by
  rw [ofBits, List.range_succ, List.foldl_append]
  rfl

theorem ofBits_lt (w : Nat) (p : Nat → Bool) : ofBits w p < 2 ^ w := by
  induction w with
  | zero => exact Nat.one_pos
  | succ w ih =>
    rw [ofBits_succ, Nat.pow_succ]
    split <;> omega

/-- Bit i of the number made of p's bits is p i, below its width. -/
theorem testBit_ofBits (w : Nat) (p : Nat → Bool) (i : Nat) :
    (ofBits w p).testBit i = (decide (i < w) && p i) := by
  induction w with
  | zero => simp [ofBits]
  | succ w ih =>
    have hlt := ofBits_lt w p
    have hsplit : ofBits (w + 1) p = 2 ^ w * b2n (p w) + ofBits w p := by
      rw [ofBits_succ, b2n]
      split <;> omega
    rw [hsplit, Nat.testBit_two_pow_mul_add _ hlt]
    rcases Nat.lt_trichotomy i w with h | rfl | h
    · rw [if_pos h, ih, decide_eq_true h, decide_eq_true (Nat.lt_succ_of_lt h)]
    · cases hp : p i <;> simp [b2n]
    · have hpast : ¬ i < w := by omega
      have hbit : (b2n (p w)).testBit (i - w) = false := by
        refine Nat.testBit_lt_two_pow (Nat.lt_of_le_of_lt (m := 1) ?_ ?_)
        · unfold b2n
          split <;> omega
        · exact Nat.one_lt_two_pow (by omega)
      rw [if_neg hpast, hbit, decide_eq_false (by omega), Bool.false_and]

theorem testBit_setBit (x i j : Nat) (b : Bool) :
    (setBit x i b).testBit j = if j = i then b else x.testBit j := by
  rw [setBit, testBit_setBits]
  by_cases h : j = i
  · subst h
    rw [if_pos (by omega), if_pos rfl, Nat.sub_self]
    cases b <;> rfl
  · rw [if_neg (by omega), if_neg h]

theorem bitList_zero (w : Nat) : bitList w 0 = [] := by
  simp [bitList]

namespace State

variable {s t u : State} {f g : Fld} {i : Nat}

theorem bitOf_congr (h : t.get f = s.get f) (i : Nat) : t.bitOf f i = s.bitOf f i := by
  rw [bitOf, bitOf, h]

/-- A field has no bit past its width. -/
theorem lt_of_bitOf (h : s.bitOf f i = true) : i < f.w := by
  by_contra hi
  have hlt : s.get f < 2 ^ i :=
    Nat.lt_of_lt_of_le (get_lt s f) (Nat.pow_le_pow_right Nat.two_pos (Nat.not_lt.1 hi))
  rw [bitOf, Nat.testBit_lt_two_pow hlt] at h
  cases h

theorem bitOf_set (s : State) (hf : f.lo + f.w ≤ 32) (v i : Nat) :
    (s.set f v).bitOf f i = (decide (i < f.w) && v.testBit i) := by
  rw [bitOf, get_set s f v hf, Nat.testBit_mod_two_pow]

theorem bitOf_orF (s : State) (hf : f.lo + f.w ≤ 32) (v i : Nat) :
    (s.orF f v).bitOf f i = (s.bitOf f i || (decide (i < f.w) && v.testBit i)) := by
  rw [orF, bitOf_set s hf, Nat.testBit_or, Bool.and_or_distrib_left]
  congr 1
  cases h : s.bitOf f i with
  | false => rw [bitOf] at h; rw [h, Bool.and_false]
  | true => rw [decide_eq_true (lt_of_bitOf h), Bool.true_and]; exact h

theorem bitOf_clrF (s : State) (hf : f.lo + f.w ≤ 32) (v i : Nat) :
    (s.clrF f v).bitOf f i = (s.bitOf f i && !v.testBit i) := by
  rw [clrF, bitOf_set s hf, Nat.testBit_and, Nat.testBit_xor, Nat.testBit_two_pow_sub_one]
  change (_ && (s.bitOf f i && _)) = _
  by_cases hi : i < f.w
  · simp [hi]
  · have hoff : s.bitOf f i = false := by
      rw [← Bool.not_eq_true]
      exact mt lt_of_bitOf hi
    simp [hoff]

end State

/-! ## What a trigger of the recorder leaves of TRIP -/

/-- The registers of TRIP, and the one that says whether a closed record submits a template. -/
abbrev TripReg (a : Nat) : Prop := (0x60000 ≤ a ∧ a < 0x70000) ∨ a = R.VSP_DONE_TPL.addr

/-- A register that is none of these, nor the event causes. -/
abbrev OffTrips (a : Nat) : Prop := ¬ TripReg a ∧ a ≠ R.HOST_EVT_CAUSE.addr

/-- t holds the registers of TRIP as s does, and the TRIP event where s has it. -/
structure State.TripsKept (s t : State) : Prop where
  regs : ∀ a, TripReg a → ∀ d, sget t.regs d a = sget s.regs d a
  cause : bit (s.word R.HOST_EVT_CAUSE) 1 = true → bit (t.word R.HOST_EVT_CAUSE) 1 = true

/-- A register of a family of the recorder's segments, or of a block behind it, is none of TRIP's. -/
theorem offTrips_family {base : Nat} (k : Nat) (h : 0x90200 ≤ base) : OffTrips (base + k) := by
  have hdone : R.VSP_DONE_TPL.addr = 0x90014 := rfl
  have hcause : R.HOST_EVT_CAUSE.addr = 0x2001c := rfl
  omega

/-- The registers of the eight levels of the scheduler are none of TRIP's. -/
theorem offTrips_level {base l : Nat} (h : 0x30000 ≤ base ∧ base < 0x40000) (hl : l < 8) :
    OffTrips (base + 0x20 * l) := by
  have hdone : R.VSP_DONE_TPL.addr = 0x90014 := rfl
  have hcause : R.HOST_EVT_CAUSE.addr = 0x2001c := rfl
  omega

namespace State

variable {s t u : State}

namespace TripsKept

theorem refl (s : State) : TripsKept s s := ⟨fun _ _ _ => rfl, id⟩

theorem trans (h : TripsKept s t) (k : TripsKept t u) : TripsKept s u :=
  ⟨fun a ha d => (k.regs a ha d).trans (h.regs a ha d), k.cause ∘ h.cause⟩

theorem same (h : TripsKept s t) (hr : u.regs = t.regs) : TripsKept s u :=
  h.trans ⟨fun _ _ _ => by rw [hr], by rw [word, word, hr]; exact id⟩

theorem set (h : TripsKept s t) {f : Fld} {v : Nat} (hf : OffTrips f.addr) :
    TripsKept s (t.set f v) := by
  refine h.trans ⟨fun a ha d => sget_sput_ne t.regs _ d _ ?_, ?_⟩
  · rintro rfl
    exact hf.1 ha
  · rw [word_set_ne t f _ v hf.2.symm]
    exact id

theorem ite {c : Prop} [Decidable c] (ht : TripsKept s t) (hu : TripsKept s u) :
    TripsKept s (if c then t else u) := by
  split
  · exact ht
  · exact hu

theorem when (h : TripsKept s t) {c : Bool} {f : State → State} (hf : TripsKept t (f t)) :
    TripsKept s (t.when c f) :=
  when_of t c f (TripsKept s) h (h.trans hf)

theorem word (h : TripsKept s t) {f : Fld} (hf : TripReg f.addr) : t.word f = s.word f := by
  rw [State.word, State.word, h.regs _ hf]

theorem get (h : TripsKept s t) {f : Fld} (hf : TripReg f.addr) : t.get f = s.get f := by
  rw [State.get, State.get, h.word hf]

end TripsKept

/-! ### Messages, events, fault records, memory -/

theorem msi_regs (s : State) (v : Nat) : (s.msi v).regs = s.regs := by
  unfold msi
  split
  · rfl
  · split <;> rfl

/-- The register write of an event. -/
def evtSet (s : State) (e : Evt) : State :=
  s.set R.HOST_EVT_CAUSE (setBit (s.word R.HOST_EVT_CAUSE) e.bit true)

/-- An event writes its cause and no other register. -/
theorem evt_regs (s : State) (e : Evt) : (s.evt e).regs = (s.evtSet e).regs := by
  unfold evt
  simp only
  split
  · exact msi_regs _ _
  · rfl

theorem evtSet_cause (s : State) (e : Evt) (i : Nat) (hi : i < 32) :
    bit ((s.evtSet e).word R.HOST_EVT_CAUSE) i =
      if i = e.bit then true else bit (s.word R.HOST_EVT_CAUSE) i := by
  rw [evtSet, word_set s R.HOST_EVT_CAUSE _ (by decide), bit, testBit_setBits, if_pos (by
    exact ⟨Nat.zero_le _, by simpa [R.HOST_EVT_CAUSE] using hi⟩)]
  exact testBit_setBit _ _ _ _

/-- An event sets its own cause and leaves the others (R346). -/
theorem evt_cause (s : State) (e : Evt) (i : Nat) (hi : i < 32) :
    bit ((s.evt e).word R.HOST_EVT_CAUSE) i =
      if i = e.bit then true else bit (s.word R.HOST_EVT_CAUSE) i := by
  rw [word, evt_regs]
  exact evtSet_cause s e i hi

theorem evt_tripsKept (s : State) (e : Evt) : TripsKept s (s.evt e) := by
  refine ⟨fun a ha d => ?_, fun h => ?_⟩
  · rw [evt_regs]
    refine sget_sput_ne s.regs _ d _ ?_
    rintro rfl
    exact absurd ha (by decide)
  · rw [evt_cause s e 1 (by decide), h, ite_self]

theorem faultRec_tripsKept (s : State) (kind cls req detail addr aux : Nat) :
    TripsKept s (s.faultRec kind cls req detail addr aux) := by
  have hlog (e k : Nat) : OffTrips (R.MEM_FLOG e k).addr := by
    have haddr : (R.MEM_FLOG e k).addr = 0xe0400 + (0x10 * e + 0x4 * k) := Nat.add_assoc _ _ _
    rw [haddr]
    exact offTrips_family _ (by decide)
  unfold faultRec
  extract_lets e s1 s2 s3 s4 s5 s6 s7
  have hovf : TripsKept s s1 := .when (.refl s) (.set (.refl s) (by decide))
  have hwords : TripsKept s s5 :=
    (((hovf.set (hlog e 0)).set (hlog e 1)).set (hlog e 2)).set (hlog e 3)
  have hidx : TripsKept s s6 := (hwords.set (by decide)).set (by decide)
  clear_value s6
  refine .trans ?_ (evt_tripsKept _ _)
  exact hidx.same rfl

theorem orFree_tripsKept (s : State) (w : Nat) (o : Option Nat) : TripsKept s (s.orFree w o).2 := by
  cases o <;> exact .same (.refl s) rfl

theorem faultLog_tripsKept (s : State) (kind : Nat) (cls req detail addr aux : Option Nat) :
    TripsKept s (s.faultLog kind cls req detail addr aux) :=
  ((((orFree_tripsKept s 3 cls).trans (orFree_tripsKept _ 8 req)).trans
    (orFree_tripsKept _ 8 detail)).trans (orFree_tripsKept _ 32 addr)).trans
    ((orFree_tripsKept _ 32 aux).trans (faultRec_tripsKept _ _ _ _ _ _ _))

theorem ceCount_tripsKept (s : State) (cls : Nat) : TripsKept s (s.ceCount cls) := by
  unfold ceCount
  extract_lets s1 n m s2 lim m' s3
  have hinc : TripsKept s s1 := .set (.refl s) (offTrips_family _ (by decide))
  clear_value s1
  have hwin : TripsKept s s2 := hinc.same rfl
  clear_value s2
  have hhit : TripsKept s s3 := hwin.same rfl
  refine .ite (.trans ?_ (faultLog_tripsKept _ _ _ _ _ _ _)) hwin
  exact hhit.set (by decide)

theorem faultAddr_tripsKept (s : State) (x : Nat) : TripsKept s (s.faultAddr x).2 := by
  unfold faultAddr
  split <;> exact .same (.refl s) rfl

theorem poisonLog_tripsKept (s : State) (x req : Nat) : TripsKept s (s.poisonLog x req) := by
  unfold poisonLog
  exact (faultAddr_tripsKept s x).trans (faultLog_tripsKept _ _ _ _ _ _ _)

theorem eccRd_tripsKept (s : State) (x req : Nat) : TripsKept s (s.eccRd x req).2.2 := by
  unfold eccRd
  extract_lets d y cls
  split
  case h_1 => exact .refl s
  case h_2 =>
    refine .trans ?_ (ceCount_tripsKept _ _)
    exact .same (.refl s) rfl
  case h_3 =>
    refine .trans ?_ (ceCount_tripsKept _ _)
    exact .same (.refl s) rfl
  case h_4 => exact .set (.refl s) (offTrips_family _ (by decide))
  case h_5 =>
    rename_i s1 s2 _ _
    have hpoison : TripsKept s s1 := .same (.refl s) rfl
    have hnote : TripsKept s s2 := hpoison.when (.same (.refl s1) rfl)
    have haddr := hnote.trans (faultAddr_tripsKept s2 x)
    rcases hf : s2.faultAddr x with ⟨p, s3⟩
    simp only [hf] at haddr ⊢
    refine .trans ?_ (faultLog_tripsKept _ _ _ _ _ _ _)
    refine .set ?_ (offTrips_family _ (by decide))
    exact haddr.same rfl

theorem eccRdF_tripsKept (s : State) (x req : Nat) : TripsKept s (s.eccRdF x req).2.2 := by
  rw [eccRdF_state]
  exact .when (eccRd_tripsKept s x req) (poisonLog_tripsKept _ _ _)

theorem eccRds_tripsKept (n : Nat) (s : State) (x req : Nat) :
    TripsKept s (s.eccRds x req n).2.2 := by
  induction n generalizing s x with
  | zero => exact .refl s
  | succ n ih =>
    have hrd := eccRdF_tripsKept s x req
    unfold eccRds
    simp only
    split
    · exact hrd
    · exact hrd.trans (ih _ _)

theorem wr32_tripsKept (s : State) (x v : Nat) : TripsKept s (s.wr32 x v) := by
  have hmark : TripsKept s (s.mark x) := .same (.refl s) (mark_frame s x).1
  refine .ite (.set ?_ ?_) (.same hmark rfl)
  · exact .same hmark rfl
  · decide

theorem wrWords_tripsKept (l : List Nat) (s : State) (x : Nat) : TripsKept s (s.wrWords x l) := by
  induction l generalizing s x with
  | nil => exact .refl s
  | cons v r ih => exact (wr32_tripsKept s x v).trans (ih _ _)

/-! ### Submissions to the scheduler that no ring has made -/

theorem cqPut_tripsKept (s : State) (rcd : Bytes) : TripsKept s (s.cqPut rcd) := by
  unfold cqPut
  split
  · exact .set (.set (.refl s) (by decide)) (by decide)
  · extract_lets pi s1 s2
    have hrec : TripsKept s s1 := wrWords_tripsKept _ _ _
    have hpi : TripsKept s s2 := hrec.set (by decide)
    exact hpi.same rfl

theorem itemReport_tripsKept (s : State) {i : Item} (hi : i.ring = none) (status result flags : Nat) :
    TripsKept s (s.itemReport i status result flags) := by
  rw [itemReport, hi]
  exact .ite (wrWords_tripsKept _ _ _) (cqPut_tripsKept _ _)

theorem setQueue_tripsKept (s : State) {l : Nat} (hl : l < 8) (x : List Item) :
    TripsKept s (s.setQueue l x) := by
  have hreg : OffTrips (R.SCHED_LVL_DEPTH l).addr := offTrips_level (base := 0x30100) (by decide) hl
  refine .set (.set ?_ ?_) ?_
  exacts [.same (.refl s) rfl, hreg, hreg]

theorem setSpill_tripsKept (s : State) {l : Nat} (hl : l < 8) (x : List Item) :
    TripsKept s (s.setSpill l x) := by
  have hstat : OffTrips (R.SCHED_SPILL_STAT l).addr :=
    offTrips_level (base := 0x30108) (by decide) hl
  have hmax : OffTrips (R.SCHED_SPILL_MAX l).addr := offTrips_level (base := 0x3010c) (by decide) hl
  refine .set (.set ?_ ?_) ?_
  exacts [.same (.refl s) rfl, hstat, hmax]

theorem spillPut_tripsKept (s : State) {l : Nat} (hl : l < 8) (i : Item) :
    TripsKept s (s.spillPut l i) := by
  unfold spillPut
  extract_lets n w0 w1 w b s1
  have hput : TripsKept s s1 := wrWords_tripsKept _ _ _
  refine .trans ?_ (setSpill_tripsKept _ hl _)
  exact hput.same rfl

/-- The 32 sources of the scheduler have their registers in SCHED. -/
theorem submit_tripsKept (s : State) {src : Nat} (hsrc : src < 32) (b : Bytes) (pt : Option Nat) :
    TripsKept s (s.submit src b none pt) := by
  have hsource {base : Nat} (h : 0x30000 ≤ base ∧ base < 0x40000) : OffTrips (base + 0x10 * src) := by
    have hdone : R.VSP_DONE_TPL.addr = 0x90014 := rfl
    have hcause : R.HOST_EVT_CAUSE.addr = 0x2001c := rfl
    omega
  have hinc : TripsKept s (s.inc (R.SCHED_QREJ src)) :=
    .set (.refl s) (hsource (base := 0x3040c) (by decide))
  have hlevel : fieldLE b 8 1 % 8 < 8 := Nat.mod_lt _ (by decide)
  unfold submit
  split
  · exact .refl s
  extract_lets i0 i1 l dl i size toSpill sched s1 s2
  have hring : i.ring = none := rfl
  have hl : l < 8 := hlevel
  clear_value i l
  split
  · exact itemReport_tripsKept _ hring _ _ _
  split
  · exact hinc.trans (itemReport_tripsKept _ hring _ _ _)
  split
  · exact itemReport_tripsKept _ hring _ _ _
  split
  · exact .trans (hinc.set (by decide)) (itemReport_tripsKept _ hring _ _ _)
  have huid : TripsKept s s1 := .same (.refl s) rfl
  clear_value s1
  have hacc : TripsKept s s2 :=
    .set (huid.set (hsource (base := 0x30404) (by decide))) (by decide)
  exact .ite (hacc.trans (spillPut_tripsKept _ hl _)) (hacc.trans (setQueue_tripsKept _ hl _))

theorem submitTpl_tripsKept (s : State) {src : Nat} (hsrc : src < 32) (ofs : Nat) (pt : Option Nat) :
    TripsKept s (s.submitTpl src ofs pt) := by
  have hrd := eccRds_tripsKept 8 s (sramBase + ofs) 0x31
  unfold submitTpl
  split
  · exact .refl s
  split
  next hf =>
    rw [hf] at hrd
    exact .set (hrd.set (by decide)) (by decide)
  next hf =>
    rw [hf] at hrd
    exact hrd.trans (submit_tripsKept _ hsrc _ _)

/-! ### Triggers -/

/-- t keeps what TripsKept says, and the memories unless a closed record submits a template. -/
structure TriggerKept (s t : State) : Prop extends TripsKept s t where
  mem : s.on F.VSP_DONE_TPL_EN = false → t.mem = s.mem

namespace TriggerKept

theorem refl (s : State) : TriggerKept s s := ⟨.refl s, fun _ => rfl⟩

theorem tplOff (h : TripsKept s t) (hs : s.on F.VSP_DONE_TPL_EN = false) :
    t.on F.VSP_DONE_TPL_EN = false := by
  rw [on_congr (h.get (f := F.VSP_DONE_TPL_EN) (.inr rfl)), hs]

theorem trans (h : TriggerKept s t) (k : TriggerKept t u) : TriggerKept s u :=
  ⟨h.toTripsKept.trans k.toTripsKept,
    fun hs => (k.mem (tplOff h.toTripsKept hs)).trans (h.mem hs)⟩

theorem same (h : TriggerKept s t) (hr : u.regs = t.regs) (hm : u.mem = t.mem) : TriggerKept s u :=
  h.trans ⟨.same (.refl t) hr, fun _ => hm⟩

theorem set (h : TriggerKept s t) {f : Fld} {v : Nat} (hf : OffTrips f.addr) :
    TriggerKept s (t.set f v) :=
  h.trans ⟨.set (.refl t) hf, fun _ => rfl⟩

theorem ite {c : Prop} [Decidable c] (ht : TriggerKept s t) (hu : TriggerKept s u) :
    TriggerKept s (if c then t else u) := by
  split
  · exact ht
  · exact hu

theorem foldl {α : Type} {f : State → α → State} (xs : List α) (hf : ∀ t x, TriggerKept t (f t x))
    (h : TriggerKept s t) : TriggerKept s (xs.foldl f t) := by
  induction xs generalizing t with
  | nil => exact h
  | cons x xs ih => exact ih (h.trans (hf t x))

end TriggerKept

theorem segGoto_triggerKept (s : State) (g st : Nat) : TriggerKept s (s.segGoto g st) := by
  have hst : OffTrips (F.VSP_SEG_STAT_STATE g).addr := offTrips_family (base := 0x9021c) _ (by decide)
  refine .set (.set (.set (.refl s) ?_) ?_) ?_
  exacts [hst, by decide, by decide]

theorem segLatch_triggerKept (s : State) (g inst tsrc : Nat) (interp : Bool) :
    TriggerKept s (s.segLatch g inst tsrc interp) := by
  unfold segLatch
  refine .trans ?_ (segGoto_triggerKept _ _ _)
  exact .same (.refl s) rfl rfl

/-- Only the template that a closed record submits reaches memory (R487). -/
theorem segClose_triggerKept (s : State) (g post : Nat) (trunc : Bool) :
    TriggerKept s (s.segClose g post trunc) := by
  unfold segClose
  extract_lets x n
  split
  · exact .refl s
  extract_lets data inv short t0 sec h s1 s2
  have hseg : TriggerKept s s1 := .same (.refl s) rfl rfl
  have hdone : TriggerKept s s2 := hseg.trans (segGoto_triggerKept _ _ _)
  split
  next hon =>
    refine ⟨hdone.toTripsKept.trans (submitTpl_tripsKept _ (by decide) _ _), fun hs => ?_⟩
    rw [TriggerKept.tplOff hdone.toTripsKept hs] at hon
    cases hon
  next => exact hdone

theorem segCheckDone_triggerKept (s : State) (g : Nat) : TriggerKept s (s.segCheckDone g) := by
  unfold segCheckDone
  split
  · exact .ite (segClose_triggerKept _ _ _ _) (.refl s)
  · exact .refl s

theorem segMiss_triggerKept (s : State) (g inst : Nat) : TriggerKept s (s.segMiss g inst) := by
  have hreg {base : Nat} (h : 0x90200 ≤ base) : OffTrips (base + 0x40 * g) := offTrips_family _ h
  have hinc : TriggerKept s (s.inc (R.VSP_SEG_MISSED g)) :=
    .set (.refl s) (hreg (base := 0x90220) (by decide))
  unfold segMiss
  extract_lets s1 ns
  refine .ite hinc (.set (.set (.set hinc ?_) ?_) ?_)
  exacts [hreg (base := 0x90228) (by decide), hreg (base := 0x9022c) (by decide),
    hreg (base := 0x9021c) (by decide)]

theorem segTrig_triggerKept (s : State) (g inst tsrc : Nat) (interp : Bool) :
    TriggerKept s (s.segTrig g inst tsrc interp) := by
  have htaken (t : State) : TriggerKept t ((t.segLatch g inst tsrc interp).segCheckDone g) :=
    (segLatch_triggerKept _ _ _ _ _).trans (segCheckDone_triggerKept _ _)
  unfold segTrig
  extract_lets x room
  split
  · refine .ite (.refl s) (.ite (.set (.refl s) ?_) (htaken s))
    exact offTrips_family (base := 0x90224) _ (by decide)
  · split
    · exact .ite ((segMiss_triggerKept _ _ _).trans (htaken _)) (segMiss_triggerKept _ _ _)
    · exact .refl s
  · exact .refl s
  · exact segMiss_triggerKept _ _ _

/-- The triggers that follow a latch leave TRIP as it is (R479). -/
theorem vspTrips_triggerKept (s : State) (before : Nat) : TriggerKept s (s.vspTrips before) :=
  .foldl _ (fun t _ => .foldl _ (fun t _ => .ite (segTrig_triggerKept _ _ _ _ _) (.refl t)) (.refl t))
    (.refl s)

end State

end Sys2Proof.Machine
end

section
/-! SUPPORT. What the latch of one trip group writes and what it leaves; the latches of one update of a
part in which no group has latched or been cleared; a level at a pin. -/

namespace Sys2Proof.Machine

open Sys2Proof

/-! ## The latch of one group -/

/-- The registers that hold the cause, the time and the count of group g's latches (R208). -/
def groupRegs (g : Nat) : List Nat :=
  [(R.TRIP_FIRST_SRC g).addr, (R.TRIP_FIRST_NS g).addr, (R.TRIP_FIRST_SEC g).addr, (R.TRIP_CNT g).addr]

theorem le_of_mem_groupRegs {a g : Nat} (h : a ∈ groupRegs g) : 0x60200 ≤ a := by
  simp only [groupRegs, R.TRIP_FIRST_SRC, R.TRIP_FIRST_NS, R.TRIP_FIRST_SEC, R.TRIP_CNT, List.mem_cons,
    List.not_mem_nil, or_false] at h
  omega

theorem lt_of_mem_groupRegs {a g : Nat} (hg : g < 8) (h : a ∈ groupRegs g) : a < 0x60320 := by
  simp only [groupRegs, R.TRIP_FIRST_SRC, R.TRIP_FIRST_NS, R.TRIP_FIRST_SEC, R.TRIP_CNT, List.mem_cons,
    List.not_mem_nil, or_false] at h
  omega

/-- The groups have registers of their own. -/
theorem not_mem_groupRegs {a g k : Nat} (hg : g < 8) (hk : k < 8) (hne : g ≠ k)
    (h : a ∈ groupRegs g) : a ∉ groupRegs k := by
  simp only [groupRegs, R.TRIP_FIRST_SRC, R.TRIP_FIRST_NS, R.TRIP_FIRST_SEC, R.TRIP_CNT, List.mem_cons,
    List.not_mem_nil, or_false] at h ⊢
  omega

/-- The registers that every latch of a group writes. -/
def sharedRegs : List Nat := [R.TRIP_STAT.addr, R.TRIP_ARM.addr, R.HOST_EVT_CAUSE.addr]

theorem not_mem_sharedRegs_of_group {a g : Nat} (h : a ∈ groupRegs g) : a ∉ sharedRegs := by
  have hle := le_of_mem_groupRegs h
  simp only [sharedRegs, R.TRIP_STAT, R.TRIP_ARM, R.HOST_EVT_CAUSE, List.mem_cons, List.not_mem_nil,
    or_false]
  omega

/-- t holds what the inputs of the groups depend on as s does: the masks, the filtered levels, the
settings of the inputs, and the arms of the groups. -/
def State.SettingsKept (s t : State) : Prop :=
  ∀ a, 0x60020 ≤ a → a < 0x60200 → a ≠ R.TRIP_IN_HIT.addr → ∀ d, sget t.regs d a = sget s.regs d a

namespace State.SettingsKept

variable {s t u : State}

theorem trans (h : SettingsKept s t) (k : SettingsKept t u) : SettingsKept s u :=
  fun a hlo hhi hne d => (k a hlo hhi hne d).trans (h a hlo hhi hne d)

theorem of_tripsKept (h : TripsKept s t) : SettingsKept s t := fun a hlo hhi _ d =>
  h.regs a (.inl ⟨Nat.le_trans (by decide) hlo, Nat.lt_trans hhi (by decide)⟩) d

theorem set {f : Fld} (h : f.addr < 0x60020 ∨ 0x60200 ≤ f.addr ∨ f.addr = R.TRIP_IN_HIT.addr)
    (v : Nat) : SettingsKept s (s.set f v) := fun a hlo hhi hne d =>
  sget_sput_ne s.regs _ d _ (by omega)

theorem word (h : SettingsKept s t) {f : Fld} (hlo : 0x60020 ≤ f.addr) (hhi : f.addr < 0x60200)
    (hne : f.addr ≠ R.TRIP_IN_HIT.addr) : t.word f = s.word f := by
  rw [State.word, State.word, h _ hlo hhi hne]

theorem get (h : SettingsKept s t) {f : Fld} (hlo : 0x60020 ≤ f.addr) (hhi : f.addr < 0x60200)
    (hne : f.addr ≠ R.TRIP_IN_HIT.addr) : t.get f = s.get f := by
  rw [State.get, State.get, h.word hlo hhi hne]

/-- An input's settings stay. -/
theorem input (h : SettingsKept s t) {i : Nat} (hi : i < 24) {f : Fld}
    (hf : f.addr = (R.TRIP_IN_CFG i).addr) : t.get f = s.get f := by
  have haddr : (R.TRIP_IN_CFG i).addr = 0x60100 + 0x4 * i := rfl
  have hhit : R.TRIP_IN_HIT.addr = 0x60028 := rfl
  exact h.get (by omega) (by omega) (by omega)

/-- The arms of a group stay. -/
theorem arms (h : SettingsKept s t) {g : Nat} (hg : g < 8) :
    t.get (F.TRIP_GRP_ARMS g) = s.get (F.TRIP_GRP_ARMS g) := by
  have haddr : (F.TRIP_GRP_ARMS g).addr = 0x60180 + 0x4 * g := rfl
  have hhit : R.TRIP_IN_HIT.addr = 0x60028 := rfl
  exact h.get (by omega) (by omega) (by omega)

/-- The same inputs call each group. -/
theorem tripHits (h : SettingsKept s t) (g : Nat) : t.tripHits g = s.tripHits g := by
  rw [State.tripHits, State.tripHits,
    h.get (f := F.TRIP_IN_LVL_LVL) (by decide) (by decide) (by decide)]
  refine List.filter_congr fun i hi => ?_
  have hi : i < 24 := List.mem_range.1 hi
  rw [tripCounts, tripCounts, on, on, h.input hi (f := F.TRIP_IN_CFG_EN i) rfl,
    h.input hi (f := F.TRIP_IN_CFG_MAP i) rfl,
    h.get (f := F.TRIP_IN_MASK_MASK) (by decide) (by decide) (by decide)]

end State.SettingsKept

/-- What latches of the groups ks may do (R207, R208, R212): nothing outside the shared registers and
the groups' own; no latch ends, no other one sets, and no bit of ARM_RUN and no event cause is
undone. -/
structure State.Latching (ks : List Nat) (s t : State) : Prop where
  rest : t = { s with regs := t.regs, trip := t.trip, host := t.host, out := t.out }
  trip : t.trip = { s.trip with latchAt := t.trip.latchAt }
  latchAt : ∀ g ∉ ks, sget t.trip.latchAt 0 g = sget s.trip.latchAt 0 g
  regs : ∀ a ∉ sharedRegs, (∀ k ∈ ks, a ∉ groupRegs k) → ∀ d, sget t.regs d a = sget s.regs d a
  active : t.get F.TRIP_STAT_ACTIVE = s.get F.TRIP_STAT_ACTIVE
  others : ∀ g ∉ ks, t.latched g = s.latched g
  stays : ∀ g, s.latched g = true → t.latched g = true
  armRun : ∀ a, s.bitOf F.TRIP_ARM_ARM_RUN a = false → t.bitOf F.TRIP_ARM_ARM_RUN a = false
  cause : bit (s.word R.HOST_EVT_CAUSE) 1 = true → bit (t.word R.HOST_EVT_CAUSE) 1 = true

namespace State

variable {s t u : State} {ks : List Nat} {g k : Nat}

namespace Latching

theorem refl (ks : List Nat) (s : State) : Latching ks s s :=
  ⟨rfl, rfl, fun _ _ => rfl, fun _ _ _ _ => rfl, rfl, fun _ _ => rfl, fun _ => id, fun _ => id, id⟩

theorem trans (h : Latching ks s t) (k : Latching ks t u) : Latching ks s u where
  rest := by rw [k.rest, h.rest]
  trip := by rw [k.trip, h.trip]
  latchAt g hg := (k.latchAt g hg).trans (h.latchAt g hg)
  regs a hs hg d := (k.regs a hs hg d).trans (h.regs a hs hg d)
  active := k.active.trans h.active
  others g hg := (k.others g hg).trans (h.others g hg)
  stays g hg := k.stays g (h.stays g hg)
  armRun a ha := k.armRun a (h.armRun a ha)
  cause hc := k.cause (h.cause hc)

theorem mono {js : List Nat} (h : Latching ks s t) (hsub : ks ⊆ js) : Latching js s t :=
  { h with
    latchAt := fun g hg => h.latchAt g fun hk => hg (hsub hk)
    regs := fun a hs hg => h.regs a hs fun k hk => hg k (hsub hk)
    others := fun g hg => h.others g fun hk => hg (hsub hk) }

theorem time (h : Latching ks s t) : t.time = s.time := by rw [h.rest]
theorem elapsed (h : Latching ks s t) : t.elapsed = s.elapsed := by rw [h.rest]
theorem mem (h : Latching ks s t) : t.mem = s.mem := by rw [h.rest]

/-- A field outside the shared registers and the groups' own reads the same. -/
theorem get (h : Latching ks s t) {f : Fld} (hs : f.addr ∉ sharedRegs)
    (hg : ∀ k ∈ ks, f.addr ∉ groupRegs k) : t.get f = s.get f := by
  rw [State.get, State.get, word, word, h.regs _ hs hg]

/-- The settings lie between the shared registers and the groups' causes. -/
theorem settings (h : Latching ks s t) : SettingsKept s t := by
  intro a hlo hhi _
  refine h.regs a ?_ fun _ _ hk => absurd (le_of_mem_groupRegs hk) (Nat.not_le.2 hhi)
  simp only [sharedRegs, R.TRIP_STAT, R.TRIP_ARM, R.HOST_EVT_CAUSE, List.mem_cons, List.not_mem_nil,
    or_false]
  omega

/-- A write of one of the group's own registers. -/
theorem setGroup (h : Latching [k] s t) {f : Fld} (v : Nat) (hf : f.addr ∈ groupRegs k) :
    Latching [k] s (t.set f v) := by
  have hshared := not_mem_sharedRegs_of_group hf
  have hother (g : Fld) (hg : g.addr ∈ sharedRegs) : (t.set f v).word g = t.word g :=
    word_set_ne t f g v fun he => hshared (he ▸ hg)
  have hget (g : Fld) (hg : g.addr ∈ sharedRegs) : (t.set f v).get g = t.get g := by
    rw [State.get, State.get, hother g hg]
  refine h.trans ⟨rfl, rfl, fun _ _ => rfl, fun a _ ha d => sget_sput_ne t.regs _ d _ ?_,
    ?_, ?_, ?_, ?_, ?_⟩
  · rintro rfl
    exact ha k (List.mem_singleton_self k) hf
  · exact hget _ (by decide)
  · intro g _
    rw [latched, latched, hget _ (by decide)]
  · intro g
    rw [latched, latched, hget _ (by decide)]
    exact id
  · intro a
    rw [bitOf, bitOf, hget _ (by decide)]
    exact id
  · rw [hother _ (by decide)]
    exact id

end Latching

/-- What group g records of the cause of its latch (R208). -/
def latchCause (s : State) (g : Nat) (soft : Bool) : State :=
  (s.tripFirst g).set (F.TRIP_FIRST_SRC_SOFT g) (b2n soft)

/-- The note of the time-base cycle of a latch (R215). -/
def latchMark (s : State) (g : Nat) : State :=
  { s with trip := { s.trip with latchAt := sput s.trip.latchAt 0 g (s.elapsed + 1) } }

/-- The time and the count of a latch (R208). -/
def latchStamp (s : State) (g : Nat) : State :=
  ((s.set (R.TRIP_FIRST_NS g) s.time.ns).set (R.TRIP_FIRST_SEC g) (s.time.sec % 2 ^ 32)).inc
    (R.TRIP_CNT g)

/-- The latch itself, the end of ARM_RUN for its arms, and the event (R207, R212, R346). -/
def latchEnd (s : State) (g : Nat) : State :=
  ((s.orF F.TRIP_STAT_LATCH (2 ^ g)).armRunClr
    ((s.orF F.TRIP_STAT_LATCH (2 ^ g)).get (F.TRIP_GRP_ARMS g))).evt .trip

/-- With no DEBLOCK waiting a latch has these four parts. -/
theorem tripLatch_eq (h : s.trip.db = none) (g : Nat) (soft : Bool) :
    s.tripLatch g soft = (((s.latchCause g soft).latchMark g).latchStamp g).latchEnd g := by
  have hdb : s.dbTrip g = s := by
    rw [dbTrip, h]
  rw [tripLatch, hdb]
  rfl

theorem latchCause_latching (s : State) (g : Nat) (soft : Bool) :
    Latching [g] s (s.latchCause g soft) := by
  have hsrc : (R.TRIP_FIRST_SRC g).addr ∈ groupRegs g := List.mem_cons_self ..
  unfold latchCause tripFirst
  refine .setGroup (.setGroup ?_ _ ?_) _ ?_
  · cases s.tripHits g with
    | nil => exact .refl _ s
    | cons i r => exact (Latching.refl _ s).setGroup _ hsrc
  · exact hsrc
  · exact hsrc

theorem latchMark_latching (s : State) (g : Nat) : Latching [g] s (s.latchMark g) where
  rest := rfl
  trip := rfl
  latchAt _ hj := by
    rw [latchMark]
    exact sget_sput_ne s.trip.latchAt 0 0 (s.elapsed + 1) (List.ne_of_not_mem_cons hj)
  regs _ _ _ _ := rfl
  active := rfl
  others _ _ := rfl
  stays _ := id
  armRun _ := id
  cause := id

theorem latchStamp_latching (s : State) (g : Nat) : Latching [g] s (s.latchStamp g) := by
  unfold latchStamp inc
  refine .setGroup (.setGroup (.setGroup (.refl _ s) _ ?_) _ ?_) _ ?_ <;> simp [groupRegs]

/-- An event changes registers and host alone, and what is sent. -/
theorem evt_rest (s : State) (e : Evt) :
    ∃ r h o, s.evt e = { s with regs := r, host := h, out := o } := by
  unfold evt msi
  simp only
  repeat' split
  all_goals exact ⟨_, _, _, rfl⟩

theorem get_evt (s : State) (e : Evt) {f : Fld} (h : f.addr ≠ R.HOST_EVT_CAUSE.addr) :
    (s.evt e).get f = s.get f :=
  (get_congr_regs f (evt_regs s e)).trans (get_set_ne s _ f _ h)

/-- A field of TRIP_STAT below ARM_BLK and the fields of other registers stay when ARM_RUN bits are
cleared. -/
theorem get_armRunClr (s : State) (m : Nat) {f : Fld} (harm : F.TRIP_ARM_ARM_RUN.Clear f)
    (hblk : F.TRIP_STAT_ARM_BLK.Clear f) : (s.armRunClr m).get f = s.get f := by
  rw [armRunClr, armBlkUpd, get_set_clear _ _ hblk, clrF, get_set_clear _ _ harm]

theorem latchEnd_latched (s : State) (g j : Nat) :
    (s.latchEnd g).latched j = (s.latched j || (decide (j < 8) && decide (g = j))) := by
  have hget : (s.latchEnd g).get F.TRIP_STAT_LATCH =
      (s.orF F.TRIP_STAT_LATCH (2 ^ g)).get F.TRIP_STAT_LATCH := by
    rw [latchEnd, get_evt _ _ (by decide), get_armRunClr _ _ (by decide) (by decide)]
  have hbit := bitOf_orF s (f := F.TRIP_STAT_LATCH) (by decide) (2 ^ g) j
  rw [Nat.testBit_two_pow] at hbit
  rw [latched, hget]
  exact hbit

theorem latchEnd_active (s : State) (g : Nat) :
    (s.latchEnd g).get F.TRIP_STAT_ACTIVE = s.get F.TRIP_STAT_ACTIVE := by
  rw [latchEnd, get_evt _ _ (by decide), get_armRunClr _ _ (by decide) (by decide), orF,
    get_set_clear _ _ (by decide)]

theorem latchEnd_armRun (s : State) (g a : Nat) : (s.latchEnd g).bitOf F.TRIP_ARM_ARM_RUN a =
    (s.bitOf F.TRIP_ARM_ARM_RUN a && !s.bitOf (F.TRIP_GRP_ARMS g) a) := by
  have hstat : (F.TRIP_GRP_ARMS g).addr ≠ F.TRIP_STAT_LATCH.addr := by
    simp only [F.TRIP_GRP_ARMS, F.TRIP_STAT_LATCH]
    omega
  rw [latchEnd, bitOf_congr (get_evt _ _ (by decide)), armRunClr, armBlkUpd,
    bitOf_congr (get_set_clear _ _ (by decide)), bitOf_clrF _ (by decide), orF,
    bitOf_congr (get_set_clear _ _ (by decide)), get_set_ne _ _ _ _ hstat]
  rfl

theorem latchEnd_cause (s : State) (g i : Nat) (hi : i < 32) :
    bit ((s.latchEnd g).word R.HOST_EVT_CAUSE) i =
      if i = 1 then true else bit (s.word R.HOST_EVT_CAUSE) i := by
  have hword : ((s.orF F.TRIP_STAT_LATCH (2 ^ g)).armRunClr
      ((s.orF F.TRIP_STAT_LATCH (2 ^ g)).get (F.TRIP_GRP_ARMS g))).word R.HOST_EVT_CAUSE =
      s.word R.HOST_EVT_CAUSE := by
    rw [armRunClr, armBlkUpd, word_set_ne _ _ _ _ (by decide), clrF, word_set_ne _ _ _ _ (by decide),
      orF, word_set_ne _ _ _ _ (by decide)]
  rw [latchEnd, evt_cause _ _ _ hi, hword]
  rfl

theorem latchEnd_regs (s : State) (g : Nat) {a : Nat} (ha : a ∉ sharedRegs) (d : Word) :
    sget (s.latchEnd g).regs d a = sget s.regs d a := by
  simp only [sharedRegs, List.mem_cons, List.not_mem_nil, or_false, not_or] at ha
  obtain ⟨hstat, harm, hcause⟩ := ha
  rw [latchEnd, evt_regs]
  exact (sget_sput_ne _ _ d _ hcause).trans ((sget_sput_ne _ _ d _ hstat).trans
    ((sget_sput_ne _ _ d _ harm).trans (sget_sput_ne _ _ d _ hstat)))

theorem latchEnd_rest (s : State) (g : Nat) :
    ∃ r h o, s.latchEnd g = { s with regs := r, host := h, out := o } := by
  obtain ⟨r, h, o, he⟩ := evt_rest ((s.orF F.TRIP_STAT_LATCH (2 ^ g)).armRunClr
    ((s.orF F.TRIP_STAT_LATCH (2 ^ g)).get (F.TRIP_GRP_ARMS g))) .trip
  refine ⟨r, h, o, ?_⟩
  rw [latchEnd, he, armRunClr, armBlkUpd, set, clrF, set, orF, set]

theorem latchEnd_latching (s : State) (g : Nat) : Latching [g] s (s.latchEnd g) := by
  obtain ⟨r, h, o, he⟩ := latchEnd_rest s g
  refine ⟨by rw [he], by rw [he], fun _ _ => by rw [he], fun a ha _ d => latchEnd_regs s g ha d,
    latchEnd_active s g, fun j hj => ?_, fun j hj => ?_, fun a ha => ?_, fun hc => ?_⟩
  · have hne : g ≠ j := fun h => hj (h ▸ List.mem_singleton_self g)
    rw [latchEnd_latched, decide_eq_false hne, Bool.and_false, Bool.or_false]
  · rw [latchEnd_latched, hj, Bool.true_or]
  · rw [latchEnd_armRun, ha, Bool.false_and]
  · rw [latchEnd_cause s g 1 (by decide), if_pos rfl]

theorem tripLatch_latching (h : s.trip.db = none) (g : Nat) (soft : Bool) :
    Latching [g] s (s.tripLatch g soft) := by
  rw [tripLatch_eq h]
  exact (((latchCause_latching s g soft).trans (latchMark_latching _ g)).trans
    (latchStamp_latching _ g)).trans (latchEnd_latching _ g)

/-- Group g has latched between s and t: its cause, its time and its count are taken, its arms have
lost ARM_RUN, and the TRIP event has set (R207, R208, R212, R346). -/
structure Tripped (g : Nat) (soft : Bool) (s t : State) : Prop where
  latched : t.latched g = true
  input : ∀ i r, s.tripHits g = i :: r → t.get (F.TRIP_FIRST_SRC_INPUT g) = i
  multi : t.get (F.TRIP_FIRST_SRC_MULTI g) = b2n (decide ((s.tripHits g).length > 1))
  soft : t.get (F.TRIP_FIRST_SRC_SOFT g) = b2n soft
  ns : t.get (R.TRIP_FIRST_NS g) = s.time.ns % 2 ^ 32
  sec : t.get (R.TRIP_FIRST_SEC g) = s.time.sec % 2 ^ 32
  cnt : t.get (R.TRIP_CNT g) = satInc 32 (s.get (R.TRIP_CNT g))
  armRun : ∀ a, s.bitOf (F.TRIP_GRP_ARMS g) a = true → t.bitOf F.TRIP_ARM_ARM_RUN a = false
  cause : bit (t.word R.HOST_EVT_CAUSE) 1 = true

/-- What does not undo a latch: the group's registers stay, and so do the latch, the end of ARM_RUN
and the event. -/
theorem Tripped.keep {soft : Bool} (h : Tripped g soft s t)
    (hregs : ∀ a ∈ groupRegs g, ∀ d, sget u.regs d a = sget t.regs d a)
    (hlatch : t.latched g = true → u.latched g = true)
    (harm : ∀ a, t.bitOf F.TRIP_ARM_ARM_RUN a = false → u.bitOf F.TRIP_ARM_ARM_RUN a = false)
    (hcause : bit (t.word R.HOST_EVT_CAUSE) 1 = true → bit (u.word R.HOST_EVT_CAUSE) 1 = true) :
    Tripped g soft s u := by
  have hget (f : Fld) (hf : f.addr ∈ groupRegs g) : u.get f = t.get f := by
    rw [get, get, word, word, hregs _ hf]
  have hsrc : (R.TRIP_FIRST_SRC g).addr ∈ groupRegs g := List.mem_cons_self ..
  refine ⟨hlatch h.latched, fun i r hi => ?_, ?_, ?_, ?_, ?_, ?_, fun a ha => harm a (h.armRun a ha),
    hcause h.cause⟩
  · rw [hget (F.TRIP_FIRST_SRC_INPUT g) hsrc, h.input i r hi]
  · rw [hget (F.TRIP_FIRST_SRC_MULTI g) hsrc, h.multi]
  · rw [hget (F.TRIP_FIRST_SRC_SOFT g) hsrc, h.soft]
  · rw [hget (R.TRIP_FIRST_NS g) (by simp [groupRegs]), h.ns]
  · rw [hget (R.TRIP_FIRST_SEC g) (by simp [groupRegs]), h.sec]
  · rw [hget (R.TRIP_CNT g) (by simp [groupRegs]), h.cnt]

/-- Latches of other groups do not undo one. -/
theorem Tripped.later {soft : Bool} (h : Tripped g soft s t) (k : Latching ks t u) (hg : g < 8)
    (hks : ∀ k ∈ ks, k < 8) (hmem : g ∉ ks) : Tripped g soft s u := by
  refine h.keep (fun a ha => k.regs a (not_mem_sharedRegs_of_group ha) fun j hj => ?_) (k.stays g)
    k.armRun k.cause
  exact not_mem_groupRegs hg (hks j hj) (fun he => hmem (he ▸ hj)) ha

/-- A state that the group's latch sees as another one does. -/
theorem Tripped.of_same {soft : Bool} (k : Tripped g soft t u) (hg : g < 8) (h : SettingsKept s t)
    (htime : t.time = s.time) (hcnt : t.get (R.TRIP_CNT g) = s.get (R.TRIP_CNT g)) :
    Tripped g soft s u := by
  have hhits := h.tripHits g
  refine ⟨k.latched, fun i r hi => k.input i r (hhits ▸ hi), hhits ▸ k.multi, k.soft,
    htime ▸ k.ns, htime ▸ k.sec, hcnt ▸ k.cnt, fun a ha => k.armRun a ?_, k.cause⟩
  rw [bitOf_congr (h.arms hg), ha]

/-- What other groups' latches leave for this one to latch with. -/
theorem Tripped.earlier {soft : Bool} (h : Latching ks s t) (k : Tripped g soft t u) (hg : g < 8)
    (hks : ∀ k ∈ ks, k < 8) (hmem : g ∉ ks) : Tripped g soft s u := by
  have hown : (R.TRIP_CNT g).addr ∈ groupRegs g := by simp [groupRegs]
  refine k.of_same hg h.settings h.time (h.get (not_mem_sharedRegs_of_group hown) fun j hj => ?_)
  exact not_mem_groupRegs hg (hks j hj) (fun he => hmem (he ▸ hj)) hown

theorem tripFirst_input (s : State) {g i : Nat} {r : List Nat} (h : s.tripHits g = i :: r) :
    (s.tripFirst g).get (F.TRIP_FIRST_SRC_INPUT g) = i := by
  have hi : i ∈ List.range tripInputs := by
    have hmem : i ∈ s.tripHits g := h ▸ List.mem_cons_self ..
    exact (List.mem_filter.1 hmem).1
  have hlt : i < 2 ^ 5 := Nat.lt_trans (List.mem_range.1 hi) (by decide)
  rw [tripFirst, h]
  have hbeside : (F.TRIP_FIRST_SRC_MULTI g).Apart (F.TRIP_FIRST_SRC_INPUT g) :=
    ⟨rfl, rfl, .inr (Nat.le_refl 5)⟩
  rw [get_set_apart _ _ _ _ (show 5 + 1 ≤ 32 by decide) hbeside,
    get_set _ _ _ (show 0 + 5 ≤ 32 by decide)]
  exact Nat.mod_eq_of_lt hlt

theorem tripFirst_multi (s : State) (g : Nat) : (s.tripFirst g).get (F.TRIP_FIRST_SRC_MULTI g) =
    b2n (decide ((s.tripHits g).length > 1)) := by
  rw [tripFirst, get_set _ _ _ (show 5 + 1 ≤ 32 by decide)]
  cases decide ((s.tripHits g).length > 1) <;> rfl

theorem latchCause_soft (s : State) (g : Nat) (soft : Bool) :
    (s.latchCause g soft).get (F.TRIP_FIRST_SRC_SOFT g) = b2n soft := by
  rw [latchCause, get_set _ _ _ (show 6 + 1 ≤ 32 by decide)]
  cases soft <;> rfl

theorem latchStamp_ns (s : State) (hg : g < 8) :
    (s.latchStamp g).get (R.TRIP_FIRST_NS g) = s.time.ns % 2 ^ 32 := by
  have hsec : (R.TRIP_FIRST_NS g).addr ≠ (R.TRIP_FIRST_SEC g).addr := by
    simp only [R.TRIP_FIRST_NS, R.TRIP_FIRST_SEC]
    omega
  have hcnt : (R.TRIP_FIRST_NS g).addr ≠ (R.TRIP_CNT g).addr := by
    simp only [R.TRIP_FIRST_NS, R.TRIP_CNT]
    omega
  rw [latchStamp, inc, get_set_ne _ _ _ _ hcnt, get_set_ne _ _ _ _ hsec]
  exact get_set _ _ _ (show 0 + 32 ≤ 32 by decide)

theorem latchStamp_sec (s : State) (hg : g < 8) :
    (s.latchStamp g).get (R.TRIP_FIRST_SEC g) = s.time.sec % 2 ^ 32 := by
  have hcnt : (R.TRIP_FIRST_SEC g).addr ≠ (R.TRIP_CNT g).addr := by
    simp only [R.TRIP_FIRST_SEC, R.TRIP_CNT]
    omega
  rw [latchStamp, inc, get_set_ne _ _ _ _ hcnt]
  exact (get_set _ _ _ (show 0 + 32 ≤ 32 by decide)).trans (Nat.mod_mod _ _)

theorem latchStamp_cnt (s : State) (hg : g < 8) :
    (s.latchStamp g).get (R.TRIP_CNT g) = satInc 32 (s.get (R.TRIP_CNT g)) := by
  have hns : (R.TRIP_CNT g).addr ≠ (R.TRIP_FIRST_NS g).addr := by
    simp only [R.TRIP_FIRST_NS, R.TRIP_CNT]
    omega
  have hsec : (R.TRIP_CNT g).addr ≠ (R.TRIP_FIRST_SEC g).addr := by
    simp only [R.TRIP_FIRST_SEC, R.TRIP_CNT]
    omega
  have hsat (n : Nat) : satInc 32 n < 2 ^ 32 := by
    unfold satInc
    split <;> omega
  rw [latchStamp, inc, get_set _ _ _ (show 0 + 32 ≤ 32 by decide), get_set_ne _ _ _ _ hsec,
    get_set_ne _ _ _ _ hns]
  exact Nat.mod_eq_of_lt (hsat _)

/-- The stamp leaves the cause. -/
theorem latchStamp_src (s : State) {f : Fld} (h : f.addr = (R.TRIP_FIRST_SRC g).addr) :
    (s.latchStamp g).get f = s.get f := by
  have hne : f.addr ≠ (R.TRIP_CNT g).addr ∧ f.addr ≠ (R.TRIP_FIRST_SEC g).addr ∧
      f.addr ≠ (R.TRIP_FIRST_NS g).addr := by
    rw [h]
    simp only [R.TRIP_FIRST_SRC, R.TRIP_FIRST_NS, R.TRIP_FIRST_SEC, R.TRIP_CNT]
    omega
  obtain ⟨hcnt, hsec, hns⟩ := hne
  rw [latchStamp, inc, get_set_ne _ _ _ _ hcnt, get_set_ne _ _ _ _ hsec, get_set_ne _ _ _ _ hns]

/-- The cause is all that the first part writes. -/
theorem latchCause_get (s : State) (soft : Bool) {f : Fld} (h : f.addr ≠ (R.TRIP_FIRST_SRC g).addr) :
    (s.latchCause g soft).get f = s.get f := by
  rw [latchCause, get_set_ne _ (F.TRIP_FIRST_SRC_SOFT g) _ _ h, tripFirst,
    get_set_ne _ (F.TRIP_FIRST_SRC_MULTI g) _ _ h]
  cases s.tripHits g with
  | nil => rfl
  | cons i r => exact get_set_ne _ (F.TRIP_FIRST_SRC_INPUT g) _ _ h

theorem latchEnd_get (s : State) {f : Fld} (hf : f.addr ∈ groupRegs g) :
    (s.latchEnd g).get f = s.get f := by
  rw [get, get, word, word, latchEnd_regs s g (not_mem_sharedRegs_of_group hf)]

/-- A latch with no DEBLOCK waiting takes its cause, its time and its count, and blocks the group's
arms. -/
theorem tripLatch_tripped (hdb : s.trip.db = none) (hg : g < 8) (soft : Bool) :
    Tripped g soft s (s.tripLatch g soft) := by
  have hmarked := (latchCause_latching s g soft).trans (latchMark_latching _ g)
  have hstamped := hmarked.trans (latchStamp_latching _ g)
  have hsrc {f : Fld} (hf : f.addr = (R.TRIP_FIRST_SRC g).addr) :
      ((((s.latchCause g soft).latchMark g).latchStamp g).latchEnd g).get f =
        (s.latchCause g soft).get f := by
    rw [latchEnd_get _ (by simp [groupRegs, hf]), latchStamp_src _ hf]
    rfl
  have hbelow {f : Fld} (hf : f.addr = (R.TRIP_FIRST_SRC g).addr) (hrst : f.rst = 0)
      (hlo : f.lo + f.w ≤ 6) : (s.latchCause g soft).get f = (s.tripFirst g).get f :=
    get_set_apart _ _ _ _ (show 6 + 1 ≤ 32 by decide) ⟨hf.symm, hrst.symm, .inr hlo⟩
  have hcnt : (s.latchCause g soft).get (R.TRIP_CNT g) = s.get (R.TRIP_CNT g) := by
    refine latchCause_get s soft ?_
    simp only [R.TRIP_FIRST_SRC, R.TRIP_CNT]
    omega
  rw [tripLatch_eq hdb]
  refine ⟨?_, fun i r hi => ?_, ?_, ?_, ?_, ?_, ?_, fun a ha => ?_, ?_⟩
  · rw [latchEnd_latched, decide_eq_true hg, decide_eq_true rfl, Bool.and_self, Bool.or_true]
  · rw [hsrc (f := F.TRIP_FIRST_SRC_INPUT g) rfl,
      hbelow (f := F.TRIP_FIRST_SRC_INPUT g) rfl rfl (Nat.le_succ 5), tripFirst_input s hi]
  · rw [hsrc (f := F.TRIP_FIRST_SRC_MULTI g) rfl,
      hbelow (f := F.TRIP_FIRST_SRC_MULTI g) rfl rfl (Nat.le_refl 6), tripFirst_multi]
  · rw [hsrc (f := F.TRIP_FIRST_SRC_SOFT g) rfl, latchCause_soft]
  · rw [latchEnd_get _ (by simp [groupRegs]), latchStamp_ns _ hg, hmarked.time]
  · rw [latchEnd_get _ (by simp [groupRegs]), latchStamp_sec _ hg, hmarked.time]
  · rw [latchEnd_get _ (by simp [groupRegs]), latchStamp_cnt _ hg]
    exact congrArg (satInc 32) hcnt
  · rw [latchEnd_armRun, bitOf_congr (hstamped.settings.arms hg), ha, Bool.not_true, Bool.and_false]
  · rw [latchEnd_cause _ g 1 (by decide), if_pos rfl]

/-! ## The latches of one update -/

/-- Group g is quiet: no DEBLOCK waits, and the group has neither been cleared nor latched in this
time-base cycle. -/
def QuietAt (s : State) (g : Nat) : Prop :=
  s.trip.db = none ∧ (sget s.trip.clrAt (0, false) g).1 ≠ s.elapsed + 1 ∧
    sget s.trip.latchAt 0 g ≠ s.elapsed + 1

/-- What an update does for one group (R207, R208). -/
def tripStep (act soft : Nat) (t : State) (g : Nat) : State :=
  if !(bit act g || bit soft g) then t
  else if !t.latched g then t.tripSet g (bit soft g)
  else if sget t.trip.latchAt 0 g = t.elapsed + 1 then t.tripJoin g (bit soft g)
  else t

/-- The groups that are ACTIVE. -/
def activeMask (s : State) : Nat := ofBits Config.groups (fun g => !(s.tripHits g).isEmpty)

/-- An update before its groups: ACTIVE and HIT (R206). -/
def tripShown (s : State) : State :=
  let s := s.set F.TRIP_STAT_ACTIVE s.activeMask
  s.orF F.TRIP_IN_HIT_HIT (ofBits tripInputs (fun i => (List.range Config.groups).any (fun g =>
    (s.tripHits g).contains i)))

theorem tripUpd_eq (s : State) (soft : Nat) : s.tripUpd soft =
    ((List.range Config.groups).foldl (tripStep s.activeMask soft) s.tripShown).armBlkUpd.blkTrips := rfl

theorem tripStep_quiet (h : s.QuietAt g) (act soft : Nat) : tripStep act soft s g =
    if (bit act g || bit soft g) && !s.latched g then s.tripLatch g (bit soft g) else s := by
  obtain ⟨-, hclr, hlatch⟩ := h
  have hset : s.tripSet g (bit soft g) = s.tripLatch g (bit soft g) := by
    simp only [tripSet, if_neg hclr]
  rw [tripStep, hset, if_neg hlatch]
  cases bit act g || bit soft g <;> cases s.latched g <;> simp

theorem QuietAt.later (h : s.QuietAt g) (k : Latching ks s t) (hg : g ∉ ks) : t.QuietAt g := by
  obtain ⟨hdb, hclr, hlatch⟩ := h
  have htrip := k.trip
  refine ⟨?_, ?_, ?_⟩
  · rw [htrip, hdb]
  · rw [htrip, k.elapsed]
    exact hclr
  · rw [k.latchAt g hg, k.elapsed]
    exact hlatch

theorem tripStep_latching (h : s.QuietAt g) (act soft : Nat) :
    Latching [g] s (tripStep act soft s g) := by
  rw [tripStep_quiet h]
  split
  · exact tripLatch_latching h.1 _ _
  · exact .refl _ s

theorem tripFold_latching {act soft : Nat} {l : List Nat} (hl : l.Nodup) (h : ∀ g ∈ l, s.QuietAt g) :
    Latching l s (l.foldl (tripStep act soft) s) := by
  induction l generalizing s with
  | nil => exact .refl _ s
  | cons g r ih =>
    obtain ⟨hg, hr⟩ := List.nodup_cons.1 hl
    have hstep := tripStep_latching (h g (List.mem_cons_self ..)) act soft
    have hrest := ih hr (s := tripStep act soft s g) fun k hk => by
      refine (h k (List.mem_cons_of_mem g hk)).later hstep fun he => hg ?_
      exact List.mem_singleton.1 he ▸ hk
    exact (hstep.mono (List.cons_subset.2 ⟨List.mem_cons_self .., List.nil_subset _⟩)).trans
      (hrest.mono (List.subset_cons_self g r))

/-- Each group that is ACTIVE or named by software, and not latched yet, latches in its turn. -/
theorem tripFold_tripped {act soft : Nat} {l : List Nat} (hl : l.Nodup) (hlt : ∀ k ∈ l, k < 8)
    (h : ∀ k ∈ l, s.QuietAt k) (hg : g ∈ l) (hcall : (bit act g || bit soft g) = true)
    (hoff : s.latched g = false) :
    Tripped g (bit soft g) s (l.foldl (tripStep act soft) s) := by
  induction l generalizing s with
  | nil => cases hg
  | cons k r ih =>
    obtain ⟨hk, hr⟩ := List.nodup_cons.1 hl
    have hg8 := hlt g hg
    have hr8 (j : Nat) (hj : j ∈ r) : j < 8 := hlt j (List.mem_cons_of_mem k hj)
    have hquiet := h k (List.mem_cons_self ..)
    have hstep := tripStep_latching hquiet act soft
    have hlater (j : Nat) (hj : j ∈ r) : (tripStep act soft s k).QuietAt j :=
      (h j (List.mem_cons_of_mem k hj)).later hstep fun he => hk (List.mem_singleton.1 he ▸ hj)
    rw [List.foldl_cons]
    rcases List.mem_cons.1 hg with rfl | hgr
    · have htaken : tripStep act soft s g = s.tripLatch g (bit soft g) := by
        rw [tripStep_quiet hquiet, hcall, hoff]
        exact if_pos rfl
      have htripped := tripLatch_tripped hquiet.1 hg8 (bit soft g)
      rw [← htaken] at htripped
      exact htripped.later (tripFold_latching hr hlater) hg8 hr8 hk
    · have hne : g ∉ [k] := fun he => hk (List.mem_singleton.1 he ▸ hgr)
      refine .earlier hstep (ih hr hr8 hlater hgr ?_) hg8 ?_ hne
      · rw [hstep.others g hne, hoff]
      · exact fun j hj => List.mem_singleton.1 hj ▸ hlt k (List.mem_cons_self ..)

/-! ## An update -/

/-- t differs from s at most in the strings and the registers behind the lanes. -/
def StringsOnly (s t : State) : Prop :=
  t = { s with regs := t.regs, strs := t.strs } ∧
    ∀ a < 0x200000, ∀ d, sget t.regs d a = sget s.regs d a

/-- The requests of the strings go to the strings and their injectors alone (R210). -/
theorem blkTrips_stringsOnly (s : State) : StringsOnly s s.blkTrips := by
  refine List.foldlRecOn _ _ ⟨rfl, fun _ _ _ => rfl⟩ fun t ht n _ => ?_
  obtain ⟨hrest, hregs⟩ := ht
  dsimp only
  split
  · exact ⟨hrest, hregs⟩
  · refine ⟨?_, fun a ha d => (sget_sput_ne _ _ d _ ?_).trans (hregs a ha d)⟩
    · rw [blkTrim, hrest]
      rfl
    · have haddr : (F.STR_BLK_G_TX n).addr = 0x200034 + 0x2000 * n := rfl
      omega

theorem blkTrips_mem (s : State) : s.blkTrips.mem = s.mem := by
  rw [(blkTrips_stringsOnly s).1]

theorem blkTrips_get (s : State) {f : Fld} (h : f.addr < 0x200000) : s.blkTrips.get f = s.get f := by
  rw [get, get, word, word, (blkTrips_stringsOnly s).2 _ h]

/-- What an update leaves and makes of a quiet part: no latch ends, each group that an input or
software calls is latched after it, those that were not latched before take their cause and their
time, and every arm without ARM_RUN shows as blocked (R206 to R208, R211). -/
structure Updated (soft : Nat) (s t : State) : Prop where
  mem : s.on F.VSP_DONE_TPL_EN = false → t.mem = s.mem
  tpl : t.get F.VSP_DONE_TPL_EN = s.get F.VSP_DONE_TPL_EN
  settings : SettingsKept s t
  active : ∀ g < 8, t.bitOf F.TRIP_STAT_ACTIVE g = !(s.tripHits g).isEmpty
  hit : ∀ g < 8, ∀ i ∈ s.tripHits g, t.bitOf F.TRIP_IN_HIT_HIT i = true
  stays : ∀ g, s.latched g = true → t.latched g = true
  tripped : ∀ g < 8, (!(s.tripHits g).isEmpty || bit soft g) = true → s.latched g = false →
    Tripped g (bit soft g) s t
  blocked : ∀ a < 6, t.bitOf F.TRIP_ARM_ARM_RUN a = false → t.bitOf F.TRIP_STAT_ARM_BLK a = true

/-- Every group that is called is latched after an update. -/
theorem Updated.latched {soft : Nat} (h : Updated soft s t) (hg : g < 8)
    (hcall : (!(s.tripHits g).isEmpty || bit soft g) = true) : t.latched g = true := by
  cases hwas : s.latched g with
  | true => exact h.stays g hwas
  | false => exact (h.tripped g hg hcall hwas).latched

/-- The registers that say so stay when the triggers follow. -/
theorem Updated.keep {soft : Nat} (h : Updated soft s t) (k : TriggerKept t u) :
    Updated soft s u := by
  have hget {f : Fld} (hf : TripReg f.addr) := k.toTripsKept.get hf
  have hlatched (g : Nat) (hg : t.latched g = true) : u.latched g = true := by
    rw [State.latched, hget (f := F.TRIP_STAT_LATCH) (by decide)]
    exact hg
  refine ⟨fun hs => (k.mem ((on_congr h.tpl).trans hs)).trans (h.mem hs),
    (hget (f := F.VSP_DONE_TPL_EN) (.inr rfl)).trans h.tpl, h.settings.trans (.of_tripsKept k.toTripsKept),
    fun g hg => ?_, fun g hg i hi => ?_, fun g hg => hlatched g (h.stays g hg),
    fun g hg hcall hoff => ?_, fun a ha hrun => ?_⟩
  · rw [bitOf_congr (hget (by decide)), h.active g hg]
  · rw [bitOf_congr (hget (by decide)), h.hit g hg i hi]
  · refine (h.tripped g hg hcall hoff).keep (fun a ha => k.regs a ?_) (hlatched g) (fun a ha => ?_) k.cause
    · have hle := le_of_mem_groupRegs ha
      have hlt := lt_of_mem_groupRegs hg ha
      exact .inl (by omega)
    · rw [bitOf_congr (hget (by decide)), ha]
  · rw [bitOf_congr (hget (by decide))] at hrun ⊢
    exact h.blocked a ha hrun

theorem tripShown_settings (s : State) : SettingsKept s s.tripShown :=
  SettingsKept.trans (.set (by decide) _) (.set (by decide) _)

theorem tripShown_latched (s : State) (g : Nat) : s.tripShown.latched g = s.latched g := by
  rw [latched, tripShown, orF, get_set_ne _ _ _ _ (by decide), get_set_clear _ _ (by decide)]
  rfl

theorem tripShown_active (s : State) (hg : g < 8) :
    s.tripShown.bitOf F.TRIP_STAT_ACTIVE g = !(s.tripHits g).isEmpty := by
  rw [tripShown, orF, bitOf_congr (get_set_ne _ _ _ _ (by decide)), bitOf_set _ (by decide),
    activeMask, testBit_ofBits]
  simp [Config.groups, F.TRIP_STAT_ACTIVE, hg]

theorem tripShown_hit (s : State) (hg : g < 8) {i : Nat} (hi : i ∈ s.tripHits g) :
    s.tripShown.bitOf F.TRIP_IN_HIT_HIT i = true := by
  have hlt : i < 24 := List.mem_range.1 (List.mem_filter.1 hi).1
  have hany : (List.range Config.groups).any (fun g =>
      ((s.set F.TRIP_STAT_ACTIVE s.activeMask).tripHits g).contains i) = true := by
    refine List.any_eq_true.2 ⟨g, List.mem_range.2 hg, ?_⟩
    rw [SettingsKept.tripHits (.set (by decide) _) g]
    exact List.contains_iff_mem.2 hi
  rw [tripShown, bitOf_orF _ (by decide), testBit_ofBits, hany]
  simp [tripInputs, F.TRIP_IN_HIT_HIT, hlt]

theorem armBlkUpd_blkTrips_get (s : State) {f : Fld} (hblk : F.TRIP_STAT_ARM_BLK.Clear f)
    (hlt : f.addr < 0x200000) : s.armBlkUpd.blkTrips.get f = s.get f := by
  rw [blkTrips_get _ hlt, armBlkUpd, get_set_clear _ _ hblk]

theorem armBlkUpd_blkTrips_regs (s : State) {a : Nat} (hstat : a ≠ R.TRIP_STAT.addr)
    (hlt : a < 0x200000) (d : Word) : sget s.armBlkUpd.blkTrips.regs d a = sget s.regs d a :=
  ((blkTrips_stringsOnly _).2 a hlt d).trans (sget_sput_ne s.regs _ d _ hstat)

/-- An arm without ARM_RUN is blocked (R211). -/
theorem armBlocked_of_armRun {a : Nat} (h : s.bitOf F.TRIP_ARM_ARM_RUN a = false) :
    s.armBlocked a = true := by
  rw [bitOf] at h
  rw [armBlocked, bit, h]
  rfl

/-- ARM_BLK shows an arm without ARM_RUN (R211). -/
theorem armBlkUpd_blkTrips_blocked (s : State) {a : Nat} (ha : a < 6)
    (hrun : s.bitOf F.TRIP_ARM_ARM_RUN a = false) :
    s.armBlkUpd.blkTrips.bitOf F.TRIP_STAT_ARM_BLK a = true := by
  rw [bitOf_congr (blkTrips_get _ (by decide)), armBlkUpd, bitOf_set _ (by decide), testBit_ofBits,
    armBlocked_of_armRun hrun]
  simp [Config.arms, F.TRIP_STAT_ARM_BLK, ha]

theorem armBlkUpd_blkTrips_latched (s : State) (g : Nat) :
    s.armBlkUpd.blkTrips.latched g = s.latched g := by
  rw [latched, latched, armBlkUpd_blkTrips_get _ (by decide) (by decide)]

/-- The arms shown as blocked and the requests of the strings do not undo a latch. -/
theorem Tripped.armBlkUpd_blkTrips {soft : Bool} (h : Tripped g soft s t) (hg : g < 8) :
    Tripped g soft s t.armBlkUpd.blkTrips := by
  refine h.keep (fun a ha => armBlkUpd_blkTrips_regs t ?_ ?_)
    (fun hl => (armBlkUpd_blkTrips_latched t g).trans hl) (fun a ha => ?_) fun hc => ?_
  · have hstat : R.TRIP_STAT.addr = 0x60008 := rfl
    have hle := le_of_mem_groupRegs ha
    omega
  · exact Nat.lt_trans (lt_of_mem_groupRegs hg ha) (by decide)
  · rw [bitOf_congr (armBlkUpd_blkTrips_get _ (by decide) (by decide)), ha]
  · rw [word, armBlkUpd_blkTrips_regs t (by decide) (by decide)]
    exact hc

theorem tripShown_cnt (s : State) (g : Nat) :
    s.tripShown.get (R.TRIP_CNT g) = s.get (R.TRIP_CNT g) := by
  have haddr : (R.TRIP_CNT g).addr ≠ F.TRIP_IN_HIT_HIT.addr ∧
      (R.TRIP_CNT g).addr ≠ F.TRIP_STAT_ACTIVE.addr := by
    simp only [R.TRIP_CNT, F.TRIP_IN_HIT_HIT, F.TRIP_STAT_ACTIVE]
    omega
  rw [tripShown, orF, get_set_ne _ _ _ _ haddr.1, get_set_ne _ _ _ _ haddr.2]

theorem tripShown_tpl (s : State) :
    s.tripShown.get F.VSP_DONE_TPL_EN = s.get F.VSP_DONE_TPL_EN := by
  rw [tripShown, orF, get_set_ne _ _ _ _ (by decide), get_set_ne _ _ _ _ (by decide)]

theorem bit_activeMask (s : State) (hg : g < 8) : bit s.activeMask g = !(s.tripHits g).isEmpty := by
  rw [bit, activeMask, testBit_ofBits]
  simp [Config.groups, hg]

/-- An update of a quiet part (R206 to R212). -/
theorem tripUpd_updated (h : s.QuietTrips) (soft : Nat) : Updated soft s (s.tripUpd soft) := by
  obtain ⟨hdb, hgroups⟩ := h
  have hquiet : ∀ g ∈ List.range Config.groups, s.tripShown.QuietAt g := fun g _ => ⟨hdb, hgroups g⟩
  have hlt (k : Nat) (hk : k ∈ List.range Config.groups) : k < 8 := List.mem_range.1 hk
  have hlatching := tripFold_latching (act := s.activeMask) (soft := soft) List.nodup_range hquiet
  have htripped (g : Nat) := tripFold_tripped (g := g) (act := s.activeMask) (soft := soft)
    List.nodup_range hlt hquiet
  rw [tripUpd_eq]
  generalize (List.range Config.groups).foldl (tripStep s.activeMask soft) s.tripShown = u at *
  refine ⟨fun _ => ?_, ?_, ?_, fun g hg => ?_, fun g hg i hi => ?_, fun g hg => ?_,
    fun g hg hcall hoff => ?_, fun a ha hrun => ?_⟩
  · rw [blkTrips_mem, armBlkUpd, set_mem, hlatching.mem]
    rfl
  · rw [armBlkUpd_blkTrips_get _ (by decide) (by decide), ← tripShown_tpl s]
    exact hlatching.get (by decide) fun k hk hm => absurd (lt_of_mem_groupRegs (hlt k hk) hm) (by decide)
  · refine ((tripShown_settings s).trans hlatching.settings).trans fun a hlo hhi _ d => ?_
    have hstat : R.TRIP_STAT.addr = 0x60008 := rfl
    exact armBlkUpd_blkTrips_regs u (by omega) (by omega) d
  · rw [bitOf_congr (armBlkUpd_blkTrips_get _ (by decide) (by decide)), bitOf_congr hlatching.active,
      tripShown_active s hg]
  · have hhit : u.get F.TRIP_IN_HIT_HIT = s.tripShown.get F.TRIP_IN_HIT_HIT :=
      hlatching.get (by decide) fun _ _ hm => absurd (le_of_mem_groupRegs hm) (by decide)
    rw [bitOf_congr (armBlkUpd_blkTrips_get _ (by decide) (by decide)), bitOf_congr hhit,
      tripShown_hit s hg hi]
  · rw [armBlkUpd_blkTrips_latched]
    exact hlatching.stays g ((tripShown_latched s g).trans hg)
  · have hlatch := htripped g (List.mem_range.2 hg) (by rw [bit_activeMask s hg]; exact hcall)
      ((tripShown_latched s g).trans hoff)
    exact (hlatch.of_same hg (tripShown_settings s) rfl (tripShown_cnt s g)).armBlkUpd_blkTrips hg
  · rw [bitOf_congr (armBlkUpd_blkTrips_get _ (by decide) (by decide))] at hrun
    exact armBlkUpd_blkTrips_blocked u ha hrun

/-- An update of a quiet part, with the triggers that follow its latches. -/
theorem vspTrips_updated (h : s.QuietTrips) (soft before : Nat) :
    Updated soft s ((s.tripUpd soft).vspTrips before) :=
  (tripUpd_updated h soft).keep (vspTrips_triggerKept _ _)

/-! ## A level at a pin -/

/-- Where nothing happens no group latches, and no trigger follows. -/
theorem withTrips_none (s : State) : (s.withTrips fun t => t) = s := by
  have hnone : s.get F.TRIP_STAT_LATCH &&& (s.get F.TRIP_STAT_LATCH ^^^ 0xFF) = 0 := by
    refine Nat.eq_of_testBit_eq fun i => ?_
    rw [Nat.testBit_and, Nat.testBit_xor, show 0xFF = 2 ^ 8 - 1 from rfl,
      Nat.testBit_two_pow_sub_one, Nat.zero_testBit]
    cases hl : (s.get F.TRIP_STAT_LATCH).testBit i with
    | false => rfl
    | true =>
      rw [decide_eq_true (show i < 8 from lt_of_bitOf (f := F.TRIP_STAT_LATCH) hl)]
      rfl
  rw [withTrips, vspTrips, hnone, bitList_zero]
  rfl

/-- The filtered level of input i takes a value. -/
def levelTaken (s : State) (i : Nat) (active : Bool) : State :=
  s.set F.TRIP_IN_LVL_LVL (setBit (s.get F.TRIP_IN_LVL_LVL) i active)

theorem exec_tripFilterPass {n : Nat} (hn : n < 24) (p : PinLevel) :
    exec (.tripFilterPass n p) s = .next (s.withTrips (·.tripPin n p.level p.held)) :=
  if_pos (decide_eq_true hn)

/-- A level that has not held for FILT changes nothing (R204). -/
theorem withTrips_tripPin_short {n held : Nat} (h : held < s.get (F.TRIP_IN_CFG_FILT n)) (level : Bool) :
    s.withTrips (·.tripPin n level held) = s := by
  have hpin : s.tripPin n level held = s := if_pos h
  rw [withTrips, hpin]
  exact withTrips_none s

/-- A level that has held for FILT passes, after polarity, and the groups are judged anew (R204). -/
theorem withTrips_tripPin_held {n held : Nat} (hs : s.Awake)
    (h : s.get (F.TRIP_IN_CFG_FILT n) ≤ held) (level : Bool) :
    s.withTrips (·.tripPin n level held) =
      ((s.levelTaken n (level != s.on (F.TRIP_IN_CFG_POL n))).tripUpd 0).vspTrips
        (s.get F.TRIP_STAT_LATCH) := by
  have hawake : ¬ s.dev.inReset = true := by
    rw [hs]
    exact Bool.false_ne_true
  have hpin : s.tripPin n level held =
      (s.levelTaken n (level != s.on (F.TRIP_IN_CFG_POL n))).tripUpd 0 :=
    (if_neg (Nat.not_lt.2 h)).trans (if_neg hawake)
  rw [withTrips, hpin]

end State

end Sys2Proof.Machine
end

section
/-! SUPPORT. The filtered level that becomes active; a write of the host that reaches TRIP; a clear; a
write of an input's configuration. Then what 07_trips_and_blocking.md has proved: TripsLatchAndClear. -/

namespace Sys2Proof.Machine

open Sys2Proof

namespace State

variable {s t u : State} {g n : Nat}

theorem levelTaken_get (s : State) (n : Nat) (active : Bool) {f : Fld}
    (h : f.addr ≠ R.TRIP_IN_LVL.addr) : (s.levelTaken n active).get f = s.get f := get_set_ne s F.TRIP_IN_LVL_LVL f _ h

theorem levelTaken_input (s : State) (n : Nat) (active : Bool) {i : Nat} {f : Fld}
    (hf : f.addr = (R.TRIP_IN_CFG i).addr) : (s.levelTaken n active).get f = s.get f := by
  have haddr : (R.TRIP_IN_CFG i).addr = 0x60100 + 0x4 * i := rfl
  have hlvl : R.TRIP_IN_LVL.addr = 0x60024 := rfl
  exact levelTaken_get s n active (by omega)

theorem levelTaken_level (s : State) (active : Bool) {i : Nat} (hi : i < 24) :
    (s.levelTaken n active).bitOf F.TRIP_IN_LVL_LVL i =
      if i = n then active else s.bitOf F.TRIP_IN_LVL_LVL i := by
  rw [levelTaken, bitOf_set _ (by decide), testBit_setBit,
    decide_eq_true (show i < F.TRIP_IN_LVL_LVL.w from hi), Bool.true_and]
  rfl

/-- Where no level is active one that becomes active is the only one. -/
theorem levelTaken_only (h : s.get F.TRIP_IN_LVL_LVL = 0) (hn : n < 24) :
    (s.levelTaken n true).get F.TRIP_IN_LVL_LVL = 2 ^ n := by
  have hset : setBit 0 n true = 2 ^ n := by
    refine Nat.eq_of_testBit_eq fun i => ?_
    rw [testBit_setBit, Nat.zero_testBit, Nat.testBit_two_pow]
    by_cases hi : i = n
    · simp [hi]
    · rw [if_neg hi, decide_eq_false (Ne.symm hi)]
  rw [levelTaken, h, hset, get_set _ _ _ (by decide)]
  exact Nat.mod_eq_of_lt (Nat.pow_lt_pow_right (by decide) hn)

/-- Then it is the only one that calls a group for which it counts (R206). -/
theorem levelTaken_hits (h : s.get F.TRIP_IN_LVL_LVL = 0) (hn : n < 24) (hc : s.tripCounts n g = true) :
    (s.levelTaken n true).tripHits g = [n] := by
  have hcounts : (s.levelTaken n true).tripCounts n g = s.tripCounts n g := by
    rw [tripCounts, tripCounts, on, on, levelTaken_input s n true (f := F.TRIP_IN_CFG_EN n) rfl,
      levelTaken_input s n true (f := F.TRIP_IN_CFG_MAP n) rfl, levelTaken_get s n true (by decide)]
  have hpick : ∀ i ∈ List.range tripInputs, ((s.levelTaken n true).tripCounts i g &&
      bit ((s.levelTaken n true).get F.TRIP_IN_LVL_LVL) i) = (i == n) := by
    intro i _
    rw [levelTaken_only h hn, bit, Nat.testBit_two_pow]
    by_cases hi : i = n
    · subst hi
      rw [hcounts, hc]
      simp
    · rw [decide_eq_false (Ne.symm hi), Bool.and_false, beq_false_of_ne hi]
  have hcount : List.count n (List.range tripInputs) = 1 :=
    List.count_eq_one_of_mem List.nodup_range (List.mem_range.2 hn)
  rw [tripHits, List.filter_congr hpick, List.filter_beq, hcount]
  rfl

/-- Where an input becomes active that counts for a group, with no other level active, the group that was
not latched latches with this input as its one cause, and its arms are blocked (R204 to R212). -/
theorem levelTaken_trips (h0 : s.get F.TRIP_IN_LVL_LVL = 0) (hn : n < 24) (hg : g < 8)
    (hc : s.tripCounts n g = true) (hoff : s.latched g = false) (hns : s.time.ns < 2 ^ 32)
    (hu : Updated 0 (s.levelTaken n true) t) :
    t.get F.TRIP_IN_LVL_LVL = 2 ^ n ∧ t.latched g = true ∧ t.bitOf F.TRIP_STAT_ACTIVE g = true ∧
      t.bitOf F.TRIP_IN_HIT_HIT n = true ∧ t.get (F.TRIP_FIRST_SRC_INPUT g) = n ∧
      t.get (F.TRIP_FIRST_SRC_MULTI g) = 0 ∧ t.get (F.TRIP_FIRST_SRC_SOFT g) = 0 ∧
      t.get (R.TRIP_FIRST_NS g) = s.time.ns ∧ t.get (R.TRIP_FIRST_SEC g) = s.time.sec % 2 ^ 32 ∧
      t.get (R.TRIP_CNT g) = satInc 32 (s.get (R.TRIP_CNT g)) ∧
      bit (t.word R.HOST_EVT_CAUSE) 1 = true ∧
      (∀ a, a < 6 → s.bitOf (F.TRIP_GRP_ARMS g) a = true → t.bitOf F.TRIP_ARM_ARM_RUN a = false ∧
        t.armBlocked a = true ∧ t.bitOf F.TRIP_STAT_ARM_BLK a = true) ∧
      (s.on F.VSP_DONE_TPL_EN = false → t.mem = s.mem) := by
  have hhits := levelTaken_hits h0 hn hc
  have hlatch : Tripped g false (s.levelTaken n true) t := by
    have hoff' : (s.levelTaken n true).latched g = false := by
      rw [latched, levelTaken_get _ _ _ (by decide)]
      exact hoff
    have h := hu.tripped g hg (by rw [hhits]; rfl) hoff'
    rwa [bit, Nat.zero_testBit] at h
  have hother {f : Fld} (h : f.addr ≠ R.TRIP_IN_LVL.addr) := levelTaken_get s n true h
  have hcnt : (R.TRIP_CNT g).addr ≠ R.TRIP_IN_LVL.addr := by
    simp only [R.TRIP_CNT, R.TRIP_IN_LVL]
    omega
  have harms : (F.TRIP_GRP_ARMS g).addr ≠ R.TRIP_IN_LVL.addr := by
    simp only [F.TRIP_GRP_ARMS, R.TRIP_IN_LVL]
    omega
  refine ⟨?_, hlatch.latched, ?_, hu.hit g hg n (by rw [hhits]; exact List.mem_singleton_self n),
    hlatch.input n [] hhits, ?_, hlatch.soft, hlatch.ns.trans (Nat.mod_eq_of_lt hns), hlatch.sec, ?_,
    hlatch.cause, fun a ha hcovers => ?_, fun htpl => hu.mem ?_⟩
  · rw [hu.settings.get (by decide) (by decide) (by decide), levelTaken_only h0 hn]
  · rw [hu.active g hg, hhits]
    rfl
  · rw [hlatch.multi, hhits]
    rfl
  · rw [hlatch.cnt, hother hcnt]
  · have hrun := hlatch.armRun a (by rw [bitOf_congr (hother harms), hcovers])
    exact ⟨hrun, armBlocked_of_armRun hrun, hu.blocked a ha hrun⟩
  · rw [on_congr (hother (by decide)), htpl]

/-! ## A write of the host -/

/-- A write of TRIP. -/
theorem busW1_trip (s : State) {a : Nat} (data : Nat) (h : a / 0x10000 = 6) :
    s.busW1 (wholeWrite a data) = s.wrTrip (wholeWrite a data) := by
  simp [busW1, h, below_lanes_of_block h (by decide)]

theorem hostW_trip (hs : s.Awake) {a data : Nat} (ha : a % 4 = 0) (hb : a / 0x10000 = 6)
    (hd : data < 2 ^ 32) : s.hostW a data = s.wrTrip (wholeWrite a data) := by
  have hstep : a ≠ R.ETH_STEP_CMD.addr := by
    have : R.ETH_STEP_CMD.addr = 0xb0024 := rfl
    omega
  rw [hostW_awake s hs ha hd, busW_eq_busW1 s _ hstep, busW1_trip s data hb]

theorem wholeWrite_byte (a : Nat) {m : Nat} (hm : m < 256) : (wholeWrite a m).cmd % 256 = m := by
  rw [wholeWrite_cmd a (Nat.lt_trans hm (by decide)), Nat.mod_eq_of_lt hm]

theorem exec_tripSoft (hs : s.Awake) {m : Nat} (hm : m < 256) :
    exec (.tripSoft m) s = .next ((s.tripUpd m).vspTrips (s.get F.TRIP_STAT_LATCH)) := by
  have hwrite : s.hostW R.TRIP_SOFT.addr m = s.withTrips (·.tripSoft m) := by
    rw [hostW_trip hs (by decide) (by decide) (Nat.lt_trans hm (by decide)), wrTrip, wholeWrite_a,
      if_neg (by decide), if_pos rfl, wholeWrite_byte _ hm]
  have hsoft : s.tripSoft m = s.tripUpd m := by rw [tripSoft, Nat.mod_eq_of_lt hm]
  have hexec : exec (.tripSoft m) s = gate (okU8 m) (s.hostW R.TRIP_SOFT.addr m) := rfl
  rw [hexec, hwrite, withTrips, hsoft]
  exact if_pos (decide_eq_true hm)

theorem exec_tripClr (hs : s.Awake) {m : Nat} (hm : m < 256) :
    exec (.tripClr m) s = .next (s.tripClr m) := by
  have hwrite : s.hostW R.TRIP_CLR.addr m = s.tripClr m := by
    rw [hostW_trip hs (by decide) (by decide) (Nat.lt_trans hm (by decide)), wrTrip, wholeWrite_a,
      if_pos rfl, wholeWrite_byte _ hm]
  have hexec : exec (.tripClr m) s = gate (okU8 m) (s.hostW R.TRIP_CLR.addr m) := rfl
  rw [hexec, hwrite]
  exact if_pos (decide_eq_true hm)

/-! ## A clear -/

/-- The groups whose clear is refused: ACTIVE, or latched in this time-base cycle (R214, R215). -/
def clrStuck (s : State) : Nat := s.get F.TRIP_STAT_ACTIVE ||| s.latchedNow

/-- A clear after its refusals: the note of what it clears, and the latches that end. -/
def clrTaken (s : State) (m : Nat) (at' : Sparse (Nat × Bool)) : State :=
  { s with trip := { s.trip with clrAt := at' } }.clrF F.TRIP_STAT_LATCH m

theorem tripClr_eq (s : State) {m : Nat} (hm : m < 256) : ∃ at', s.tripClr m =
    ((s.clrRefuse (m &&& s.clrStuck)).clrTaken (m &&& (s.clrStuck ^^^ 0xFF)) at').armBlkUpd.blkTrips := by
  rw [tripClr, Nat.mod_eq_of_lt hm]
  exact ⟨_, rfl⟩

theorem testBit_clrStuck (s : State) (hg : g < 8) : s.clrStuck.testBit g =
    (s.bitOf F.TRIP_STAT_ACTIVE g || decide (sget s.trip.latchAt 0 g = s.elapsed + 1)) := by
  rw [clrStuck, Nat.testBit_or, latchedNow, testBit_ofBits,
    decide_eq_true (show g < Config.groups from hg), Bool.true_and]
  rfl

/-- The refusal of a clear writes TRIP_FLAG alone. -/
theorem clrRefuse_get (s : State) (m : Nat) {f : Fld} (h : f.addr ≠ R.TRIP_FLAG.addr) :
    (s.clrRefuse m).get f = s.get f := by
  refine when_of s _ _ (fun t => t.get f = s.get f) rfl ?_
  rw [orF, get_set_ne _ F.TRIP_FLAG_CLR_REJ_G f _ h]
  exact get_set_ne _ F.TRIP_FLAG_TRIP_CLR_REJ f _ h

theorem clrRefuse_mem (s : State) (m : Nat) : (s.clrRefuse m).mem = s.mem :=
  when_of s _ _ (fun t => t.mem = s.mem) rfl rfl

/-- A clear that is refused for some group shows so (R214). -/
theorem clrRefuse_rej (s : State) {m : Nat} (h : m ≠ 0) :
    (s.clrRefuse m).on F.TRIP_FLAG_TRIP_CLR_REJ = true := by
  rw [clrRefuse, decide_eq_true h, when_true, on, orF, get_set_clear _ _ (by decide), flag,
    get_set _ _ _ (by decide)]
  rfl

theorem tripClr_mem (s : State) {m : Nat} (hm : m < 256) : (s.tripClr m).mem = s.mem := by
  obtain ⟨at', h⟩ := tripClr_eq s hm
  rw [h, blkTrips_mem, armBlkUpd, set_mem, clrTaken, clrF, set_mem]
  exact clrRefuse_mem s _

/-- A clear ends the latches that it names and that are not stuck, and no other (R214 to R216). -/
theorem tripClr_latched (s : State) {m : Nat} (hm : m < 256) (hg : g < 8) :
    (s.tripClr m).latched g = (s.latched g && !(bit m g && !s.clrStuck.testBit g)) := by
  obtain ⟨at', h⟩ := tripClr_eq s hm
  have hmask : (m &&& (s.clrStuck ^^^ 0xFF)).testBit g = (bit m g && !s.clrStuck.testBit g) := by
    rw [Nat.testBit_and, Nat.testBit_xor, show 0xFF = 2 ^ 8 - 1 from rfl, Nat.testBit_two_pow_sub_one,
      decide_eq_true hg, Bool.xor_true]
    rfl
  have hbit := bitOf_clrF { s.clrRefuse (m &&& s.clrStuck) with
    trip := { (s.clrRefuse (m &&& s.clrStuck)).trip with clrAt := at' } }
    (f := F.TRIP_STAT_LATCH) (by decide) (m &&& (s.clrStuck ^^^ 0xFF)) g
  rw [hmask] at hbit
  rw [h, armBlkUpd_blkTrips_latched]
  refine hbit.trans (congrArg (· && _) ?_)
  exact bitOf_congr (clrRefuse_get s _ (by decide)) g

theorem tripClr_rej (s : State) {m : Nat} (hm : m < 256) (h : m &&& s.clrStuck ≠ 0) :
    (s.tripClr m).on F.TRIP_FLAG_TRIP_CLR_REJ = true := by
  obtain ⟨at', ht⟩ := tripClr_eq s hm
  have hflag : (s.tripClr m).get F.TRIP_FLAG_TRIP_CLR_REJ =
      (s.clrRefuse (m &&& s.clrStuck)).get F.TRIP_FLAG_TRIP_CLR_REJ := by
    rw [ht, armBlkUpd_blkTrips_get _ (by decide) (by decide), clrTaken, clrF,
      get_set_ne _ _ _ _ (by decide)]
    rfl
  rw [on_congr hflag, clrRefuse_rej s h]

/-! ## A write of an input's configuration -/

/-- The row of the registers TRIP_IN_CFG (R205). -/
def tripInRow : RegRow :=
  ⟨0x60100, 0x190, [(0x4, 24)],
    [⟨0, 1, .RWL, 0, 1⟩, ⟨1, 1, .RWL, 0, 1⟩, ⟨2, 9, .RWL, 20, 0x1f4⟩, ⟨16, 8, .RWL, 0, 0xff⟩]⟩

theorem regRow?_tripIn : ∀ n < 24, regRow? (R.TRIP_IN_CFG n).addr = some tripInRow := by
  decide +kernel

/-- Outside CONFIG a direct write leaves the fields that CONFIG alone takes (R6). -/
theorem tripInRow_locked (data old : Nat) : tripInRow.write false .direct 0xFFFFFFFF data old = old := rfl

/-- A direct write of a whole word in CONFIG brings a field's bits into the word, where they are in
its range (R6). -/
theorem write_open {f : FAcc} (hacc : f.acc = .RWL) (hfit : f.lo + f.w ≤ 32) (data old : Nat) :
    f.write true .direct 0xFFFFFFFF data old =
      if f.min ≤ bits data f.lo f.w ∧ bits data f.lo f.w ≤ f.max then
        setBits old f.lo f.w (bits data f.lo f.w) else old := by
  have hmask : bits 0xFFFFFFFF f.lo f.w = 2 ^ f.w - 1 := by
    refine Nat.eq_of_testBit_eq fun i => ?_
    rw [testBit_bits, show 0xFFFFFFFF = 2 ^ 32 - 1 from rfl, Nat.testBit_two_pow_sub_one,
      Nat.testBit_two_pow_sub_one]
    by_cases hi : i < f.w
    · rw [decide_eq_true (show f.lo + i < 32 by omega), Bool.and_true]
    · rw [decide_eq_false hi, Bool.false_and]
  have htakes : f.takes true .direct = true := by rw [FAcc.takes, hacc]
  have hdata : bits data f.lo f.w &&& (2 ^ f.w - 1) = bits data f.lo f.w := by
    rw [Nat.and_two_pow_sub_one_eq_mod, bits, Nat.mod_mod]
  rw [FAcc.write, htakes, hmask]
  simp only [Nat.xor_self, Nat.and_zero, Nat.zero_or, hdata, if_true, Bool.and_eq_true,
    decide_eq_true_eq]

/-- The written field reads the data where they are in its range. -/
theorem bits_write_open {f : FAcc} (hacc : f.acc = .RWL) (hfit : f.lo + f.w ≤ 32) (data old : Nat)
    (hmin : f.min = 0) (hmax : f.max = 2 ^ f.w - 1) :
    bits (f.write true .direct 0xFFFFFFFF data old) f.lo f.w = bits data f.lo f.w := by
  have hlt : bits data f.lo f.w < 2 ^ f.w := Nat.mod_lt _ (Nat.two_pow_pos _)
  rw [write_open hacc hfit, if_pos (by omega), bits_setBits_same, Nat.mod_eq_of_lt hlt]

/-- A field beside the written one stays. -/
theorem bits_write_apart {f : FAcc} (hacc : f.acc = .RWL) (hfit : f.lo + f.w ≤ 32) (data old : Nat)
    {lo w : Nat} (h : f.lo + f.w ≤ lo ∨ lo + w ≤ f.lo) :
    bits (f.write true .direct 0xFFFFFFFF data old) lo w = bits old lo w := by
  rw [write_open hacc hfit]
  split
  · exact bits_setBits_apart _ _ _ _ _ _ h
  · rfl

/-- In CONFIG a whole write brings EN, POL and MAP into the word; FILT has its own range (R205). -/
theorem tripInRow_open (data old : Nat) :
    bits (tripInRow.write true .direct 0xFFFFFFFF data old) 0 1 = bits data 0 1 ∧
    bits (tripInRow.write true .direct 0xFFFFFFFF data old) 1 1 = bits data 1 1 ∧
    bits (tripInRow.write true .direct 0xFFFFFFFF data old) 16 8 = bits data 16 8 := by
  have hfold : tripInRow.write true .direct 0xFFFFFFFF data old =
      FAcc.write ⟨16, 8, .RWL, 0, 0xff⟩ true .direct 0xFFFFFFFF data
        (FAcc.write ⟨2, 9, .RWL, 20, 0x1f4⟩ true .direct 0xFFFFFFFF data
          (FAcc.write ⟨1, 1, .RWL, 0, 1⟩ true .direct 0xFFFFFFFF data
            (FAcc.write ⟨0, 1, .RWL, 0, 1⟩ true .direct 0xFFFFFFFF data old))) := rfl
  rw [hfold]
  refine ⟨?_, ?_, ?_⟩
  · rw [bits_write_apart rfl (by decide) _ _ (by decide),
      bits_write_apart rfl (by decide) _ _ (by decide), bits_write_apart rfl (by decide) _ _ (by decide)]
    exact bits_write_open rfl (by decide) _ _ rfl rfl
  · rw [bits_write_apart rfl (by decide) _ _ (by decide),
      bits_write_apart rfl (by decide) _ _ (by decide)]
    exact bits_write_open rfl (by decide) _ _ rfl rfl
  · exact bits_write_open rfl (by decide) _ _ rfl rfl

/-- A write of an input's configuration before the groups are judged anew. -/
def inputWritten (s : State) (n data : Nat) : State := s.plain (wholeWrite (R.TRIP_IN_CFG n).addr data)

theorem inputWritten_eq (s : State) (hn : n < 24) (data : Nat) : s.inputWritten n data =
    s.set (R.TRIP_IN_CFG n) (tripInRow.write (s.gst = .config) .direct 0xFFFFFFFF data
      (s.word (R.TRIP_IN_CFG n))) := by
  have horg : orgOf (R.TRIP_IN_CFG n).addr 0 = 0 := by rw [orgOf, ite_self]
  have hraw : rawFld (R.TRIP_IN_CFG n).addr 0 tripInRow = R.TRIP_IN_CFG n := rfl
  rw [inputWritten, plain, wholeWrite_a, regRow?_tripIn n hn]
  change s.set (rawFld _ (orgOf _ 0) _) _ = _
  rw [horg, hraw]
  exact congrArg (fun f => s.set _ (tripInRow.write _ _ _ _ (s.word f))) (horg ▸ hraw)

theorem inputWritten_word (s : State) (hn : n < 24) (data : Nat) :
    (s.inputWritten n data).word (R.TRIP_IN_CFG n) = setBits (s.word (R.TRIP_IN_CFG n)) 0 32
      (tripInRow.write (s.gst = .config) .direct 0xFFFFFFFF data (s.word (R.TRIP_IN_CFG n))) := by
  rw [inputWritten_eq s hn, word_set _ _ _ (show 0 + 32 ≤ 32 by decide)]
  rfl

/-- A field of an input's configuration reads the bits that the write puts into the word. -/
theorem inputWritten_get (s : State) (hn : n < 24) (data : Nat) {f : Fld}
    (haddr : f.addr = (R.TRIP_IN_CFG n).addr) (hrst : f.rst = 0x190) (hfit : f.lo + f.w ≤ 32) :
    (s.inputWritten n data).get f = bits (tripInRow.write (s.gst = .config) .direct 0xFFFFFFFF data
      (s.word (R.TRIP_IN_CFG n))) f.lo f.w := by
  rw [get, word_congr _ haddr (hrst.trans (show 0x190 = (R.TRIP_IN_CFG n).rst from rfl)),
    inputWritten_word s hn, bits_setBits_inside _ _ _ _ _ hfit]

theorem inputWritten_open (s : State) (hn : n < 24) (data : Nat) (h : s.gst = .config) :
    (s.inputWritten n data).get (F.TRIP_IN_CFG_EN n) = bits data 0 1 ∧
    (s.inputWritten n data).get (F.TRIP_IN_CFG_MAP n) = bits data 16 8 ∧
    (s.inputWritten n data).get (F.TRIP_IN_CFG_POL n) = bits data 1 1 := by
  obtain ⟨hen, hpol, hmap⟩ := tripInRow_open data (s.word (R.TRIP_IN_CFG n))
  have hget {f : Fld} := inputWritten_get s hn data (f := f)
  rw [decide_eq_true h] at hget
  exact ⟨(hget (f := F.TRIP_IN_CFG_EN n) rfl rfl (show 0 + 1 ≤ 32 by decide)).trans hen,
    (hget (f := F.TRIP_IN_CFG_MAP n) rfl rfl (show 16 + 8 ≤ 32 by decide)).trans hmap,
    (hget (f := F.TRIP_IN_CFG_POL n) rfl rfl (show 1 + 1 ≤ 32 by decide)).trans hpol⟩

theorem inputWritten_locked (s : State) (hn : n < 24) (data : Nat) (h : s.gst ≠ .config) :
    (s.inputWritten n data).word (R.TRIP_IN_CFG n) = s.word (R.TRIP_IN_CFG n) := by
  rw [inputWritten_word s hn, decide_eq_false h, tripInRow_locked]
  refine Nat.eq_of_testBit_eq fun i => ?_
  rw [testBit_setBits, Nat.sub_zero, ite_self]

theorem inputWritten_quiet (h : s.QuietTrips) (n data : Nat) : (s.inputWritten n data).QuietTrips := by
  rw [QuietTrips, inputWritten, (plain_regsOnly s _ rfl).1]
  exact h

theorem exec_tripInCfgWrite (hs : s.Awake) (hn : n < 24) {data : Nat} (hd : data < 2 ^ 32) :
    exec (.tripInCfgWrite n data) s = .next (((s.inputWritten n data).tripUpd 0).vspTrips
      ((s.inputWritten n data).get F.TRIP_STAT_LATCH)) := by
  have haddr : (R.TRIP_IN_CFG n).addr = 0x60100 + 0x4 * n := rfl
  have hwrite : s.hostW (R.TRIP_IN_CFG n).addr data =
      (s.inputWritten n data).withTrips (·.tripUpd 0) := by
    have hclr : R.TRIP_CLR.addr = 0x6000c := rfl
    have hsoft : R.TRIP_SOFT.addr = 0x60010 := rfl
    have hcnt : R.TRIP_CNT_CLR.addr = 0x6002c := rfl
    have harm : R.TRIP_ARM.addr = 0x60018 := rfl
    have hcfg : 0x60100 ≤ (R.TRIP_IN_CFG n).addr := by omega
    rw [hostW_trip hs (by omega) (by omega) hd, wrTrip, wholeWrite_a, if_neg (by omega),
      if_neg (by omega), if_neg (by omega), if_neg (by omega), decide_eq_true hcfg, Bool.or_true,
      if_pos rfl]
    rfl
  have hexec : exec (.tripInCfgWrite n data) s =
      gate (okTripIn n && okU32 data) (s.hostW (R.TRIP_IN_CFG n).addr data) := rfl
  have hok : (okTripIn n && okU32 data) = true := by
    rw [okTripIn, okU32, decide_eq_true hn, decide_eq_true (show data < 4294967296 from hd)]
    rfl
  rw [hexec, hwrite, withTrips, hok]
  rfl

end State

/-! ## The statement -/

/-- Settles O45: a level, TRIP_SOFT and a write of an input's configuration are updates of a quiet part,
whose groups latch each in its turn; the recorder's triggers that follow leave the registers of TRIP; and
a clear ends the latches that are neither ACTIVE nor new. -/
theorem tripsLatchAndClear : Obligations.TripsLatchAndClear := by
  refine ⟨fun s n g held hn hg hs hq hheld h0 hns hc hoff => ?_, fun s n level held hn hheld => ?_,
    fun s n held hn hs hq hheld => ?_, fun s m hm hs hq => ?_, fun s m g hm hg hs hbit hnow => ?_,
    fun s m hm hs hq => ?_, fun s n data hn hd hs hq => ?_⟩
  · refine ⟨_, State.exec_tripFilterPass hn _, ?_⟩
    have hactive : ((!s.on (F.TRIP_IN_CFG_POL n)) != s.on (F.TRIP_IN_CFG_POL n)) = true := by
      cases s.on (F.TRIP_IN_CFG_POL n) <;> rfl
    rw [State.withTrips_tripPin_held hs hheld, hactive]
    exact State.levelTaken_trips h0 hn hg hc hoff hns
      (State.vspTrips_updated (s := s.levelTaken n true) hq 0 _)
  · rw [State.exec_tripFilterPass hn, State.withTrips_tripPin_short hheld]
  · have hu := State.vspTrips_updated (s := s.levelTaken n false) hq 0 (s.get F.TRIP_STAT_LATCH)
    refine ⟨_, State.exec_tripFilterPass hn _, ?_⟩
    rw [State.withTrips_tripPin_held hs hheld, bne_self_eq_false]
    refine ⟨?_, fun g hg => hu.stays g ?_, fun htpl => hu.mem ?_⟩
    · rw [State.bitOf_congr (hu.settings.get (by decide) (by decide) (by decide)),
        State.levelTaken_level s false hn, if_pos rfl]
    · rw [State.latched, State.levelTaken_get s n false (by decide)]
      exact hg
    · rw [State.on_congr (State.levelTaken_get s n false (by decide)), htpl]
  · have hu := State.vspTrips_updated hq m (s.get F.TRIP_STAT_LATCH)
    refine ⟨_, State.exec_tripSoft hs hm, hu.mem, fun g hg hbit => ?_, hu.stays⟩
    have hcall : (!(s.tripHits g).isEmpty || bit m g) = true := by rw [hbit, Bool.or_true]
    refine ⟨hu.latched hg hcall, fun hoff => ?_⟩
    rw [(hu.tripped g hg hcall hoff).soft, hbit]
    rfl
  · have hstuck : s.clrStuck.testBit g = true := by
      rw [State.testBit_clrStuck s hg, decide_eq_true hnow, Bool.or_true]
    refine ⟨_, State.exec_tripClr hs hm, ?_, State.tripClr_rej s hm fun h => ?_⟩
    · rw [State.tripClr_latched s hm hg, hstuck, Bool.not_true, Bool.and_false, Bool.not_false,
        Bool.and_true]
    · have hzero : (m &&& s.clrStuck).testBit g = true := by
        rw [Nat.testBit_and, hstuck, Bool.and_true]
        exact hbit
      rw [h, Nat.zero_testBit] at hzero
      cases hzero
  · refine ⟨_, State.exec_tripClr hs hm, State.tripClr_mem s hm, fun g hg => ?_,
      fun h => State.tripClr_rej s hm fun hnone => h ?_⟩
    · rw [State.tripClr_latched s hm hg, State.testBit_clrStuck s hg,
        decide_eq_false (hq.2 g).2, Bool.or_false]
    · rw [State.clrStuck, Nat.and_or_distrib_left] at hnone
      exact (Nat.or_eq_zero_iff.1 hnone).1
  · have hu := State.vspTrips_updated (State.inputWritten_quiet hq n data) 0
      ((s.inputWritten n data).get F.TRIP_STAT_LATCH)
    refine ⟨_, State.exec_tripInCfgWrite hs hn hd, fun hconfig => ?_, fun hlocked => ?_⟩
    · rw [hu.settings.input hn (f := F.TRIP_IN_CFG_EN n) rfl,
        hu.settings.input hn (f := F.TRIP_IN_CFG_MAP n) rfl,
        hu.settings.input hn (f := F.TRIP_IN_CFG_POL n) rfl]
      exact State.inputWritten_open s hn data hconfig
    · have haddr : (R.TRIP_IN_CFG n).addr = 0x60100 + 0x4 * n := rfl
      have hhit : R.TRIP_IN_HIT.addr = 0x60028 := rfl
      rw [hu.settings.word (by omega) (by omega) (by omega), State.inputWritten_locked s hn data hlocked]

end Sys2Proof.Machine
end

section
/-! SUPPORT. The fields of an instruction word of a core and of the station logic engine: what a sum
of fields reads, and a word as the sum of its fields. Then what 08_dsp_cores.md has proved of them:
InstructionWordsRoundTrip. -/

namespace Sys2Proof.Machine

open Sys2Proof

/-! ## Fields of words -/

/-- Of a number in three parts the middle one is a field, where it fits its width. -/
theorem bits_of_parts {x hi v low lo w : Nat} (hx : x = hi * 2 ^ (lo + w) + v * 2 ^ lo + low)
    (hv : v < 2 ^ w) (hlow : low < 2 ^ lo) : bits x lo w = v := by
  have hsum : x = 2 ^ lo * (2 ^ w * hi + v) + low := by rw [hx]; ring
  rw [bits, Nat.shiftRight_eq_div_pow, hsum, Nat.mul_add_div (Nat.two_pow_pos lo),
    Nat.div_eq_of_lt hlow, Nat.add_zero, Nat.mul_add_mod, Nat.mod_eq_of_lt hv]

/-- The low bits of a word up to the end of a field: the field above what lies below it. -/
theorem mod_eq_bits_add (x lo w : Nat) : x % 2 ^ (lo + w) = bits x lo w * 2 ^ lo + x % 2 ^ lo := by
  rw [bits, Nat.shiftRight_eq_div_pow, Nat.pow_add, Nat.mod_mul, Nat.mul_comm, Nat.add_comm]

theorem bits_lt (x lo w : Nat) : bits x lo w < 2 ^ w := Nat.mod_lt _ (Nat.two_pow_pos w)

/-! ## Words of the cores (R236) -/

/-- The word of some fields has each of them back. -/
theorem cwEncode_fields {op d a b c opt imm : Nat} (hop : op < 256) (hd : d < 32) (ha : a < 32)
    (hb : b < 32) (hc : c < 32) (hopt : opt < 16) (himm : imm < 2 ^ 32) :
    cwOp (cwEncode op d a b c opt imm) = op ∧ cwD (cwEncode op d a b c opt imm) = d ∧
      cwA (cwEncode op d a b c opt imm) = a ∧ cwB (cwEncode op d a b c opt imm) = b ∧
      cwC (cwEncode op d a b c opt imm) = c ∧ cwOpt (cwEncode op d a b c opt imm) = opt ∧
      cwImm (cwEncode op d a b c opt imm) = imm ∧ cwEncode op d a b c opt imm < 2 ^ 64 := by
  generalize hw : cwEncode op d a b c opt imm = w
  rw [cwEncode] at hw
  refine ⟨bits_of_parts (hi := 0)
      (low := d * 2 ^ 51 + a * 2 ^ 46 + b * 2 ^ 41 + c * 2 ^ 36 + opt * 2 ^ 32 + imm) ?_ hop ?_,
    bits_of_parts (hi := op) (low := a * 2 ^ 46 + b * 2 ^ 41 + c * 2 ^ 36 + opt * 2 ^ 32 + imm)
      ?_ hd ?_,
    bits_of_parts (hi := op * 2 ^ 5 + d) (low := b * 2 ^ 41 + c * 2 ^ 36 + opt * 2 ^ 32 + imm)
      ?_ ha ?_,
    bits_of_parts (hi := op * 2 ^ 10 + d * 2 ^ 5 + a) (low := c * 2 ^ 36 + opt * 2 ^ 32 + imm)
      ?_ hb ?_,
    bits_of_parts (hi := op * 2 ^ 15 + d * 2 ^ 10 + a * 2 ^ 5 + b) (low := opt * 2 ^ 32 + imm)
      ?_ hc ?_,
    bits_of_parts (hi := op * 2 ^ 20 + d * 2 ^ 15 + a * 2 ^ 10 + b * 2 ^ 5 + c) (low := imm)
      ?_ hopt himm,
    bits_of_parts (hi := op * 2 ^ 24 + d * 2 ^ 19 + a * 2 ^ 14 + b * 2 ^ 9 + c * 2 ^ 4 + opt)
      (low := 0) ?_ himm Nat.one_pos, ?_⟩
  all_goals omega

/-- A word of 64 bits is the word of its own fields: from the lowest field on, each stands above what
lies below it. -/
theorem cwEncode_own {w : Nat} (hw : w < 2 ^ 64) :
    cwEncode (cwOp w) (cwD w) (cwA w) (cwB w) (cwC w) (cwOpt w) (cwImm w) = w := by
  have himm : w % 2 ^ 32 = cwImm w * 2 ^ 0 + w % 2 ^ 0 := mod_eq_bits_add w 0 32
  have hopt : w % 2 ^ 36 = cwOpt w * 2 ^ 32 + w % 2 ^ 32 := mod_eq_bits_add w 32 4
  have hc : w % 2 ^ 41 = cwC w * 2 ^ 36 + w % 2 ^ 36 := mod_eq_bits_add w 36 5
  have hb : w % 2 ^ 46 = cwB w * 2 ^ 41 + w % 2 ^ 41 := mod_eq_bits_add w 41 5
  have ha : w % 2 ^ 51 = cwA w * 2 ^ 46 + w % 2 ^ 46 := mod_eq_bits_add w 46 5
  have hd : w % 2 ^ 56 = cwD w * 2 ^ 51 + w % 2 ^ 51 := mod_eq_bits_add w 51 5
  have hop : w % 2 ^ 64 = cwOp w * 2 ^ 56 + w % 2 ^ 56 := mod_eq_bits_add w 56 8
  rw [Nat.mod_eq_of_lt hw] at hop
  unfold cwEncode
  omega

/-! ## Words of the station logic engine (R451) -/

/-- The word of an instruction of form O has its parts back, and 0 in the bits that the form does not
name. -/
theorem lEncode_fields {op area idx : Nat} (hop : op < 64) (harea : area < 16) (hidx : idx < 65536) :
    lOp (lEncode op area idx) = op ∧ lArea (lEncode op area idx) = area ∧
      lIdx (lEncode op area idx) = idx ∧ lRest .O (lEncode op area idx) = true ∧
      lEncode op area idx < 2 ^ 32 := by
  generalize hw : lEncode op area idx = w
  rw [lEncode] at hw
  refine ⟨bits_of_parts (hi := 0) (low := area * 2 ^ 16 + idx) ?_ hop ?_,
    bits_of_parts (hi := op * 2 ^ 6) (low := idx) ?_ harea hidx,
    bits_of_parts (hi := op * 2 ^ 10 + area) (low := 0) ?_ hidx Nat.one_pos,
    decide_eq_true (bits_of_parts (hi := op) (low := area * 2 ^ 16 + idx) ?_ (Nat.two_pow_pos 6) ?_),
    ?_⟩
  all_goals omega

/-- A word of 32 bits with 0 in the bits that form O does not name is the word of its own parts. -/
theorem lEncode_own {w : Nat} (hw : w < 2 ^ 32) (hrest : lRest .O w = true) :
    lEncode (lOp w) (lArea w) (lIdx w) = w := by
  have hnone : bits w 20 6 = 0 := of_decide_eq_true hrest
  have hidx : w % 2 ^ 16 = lIdx w * 2 ^ 0 + w % 2 ^ 0 := mod_eq_bits_add w 0 16
  have harea : w % 2 ^ 20 = lArea w * 2 ^ 16 + w % 2 ^ 16 := mod_eq_bits_add w 16 4
  have hgap : w % 2 ^ 26 = bits w 20 6 * 2 ^ 20 + w % 2 ^ 20 := mod_eq_bits_add w 20 6
  have hop : w % 2 ^ 32 = lOp w * 2 ^ 26 + w % 2 ^ 26 := mod_eq_bits_add w 26 6
  rw [Nat.mod_eq_of_lt hw] at hop
  unfold lEncode
  omega

/-- Settles O11: each field of a word is the middle one of three parts, and the low bits of a word grow
by a field at a time. -/
theorem instructionWordsRoundTrip : Obligations.InstructionWordsRoundTrip :=
  ⟨fun _ _ _ _ _ _ _ hop hd ha hb hc hopt himm => cwEncode_fields hop hd ha hb hc hopt himm,
    fun _ hw => cwEncode_own hw,
    fun _ _ _ hop harea hidx => lEncode_fields hop harea hidx,
    fun _ hw hrest => lEncode_own hw hrest⟩

end Sys2Proof.Machine
end

section
/-! SUPPORT. The frame in which an instruction of a core runs, and the registers and flags of an item's
context under the writes that instructions make. Then what 08_dsp_cores.md has proved of the integer
instructions: CoreIntegerInstructions. -/

namespace Sys2Proof.Machine

open Sys2Proof

/-! ## Running one instruction -/

theorem gate_core {c : Nat} (hc : c < 16) (t : State) : gate (okCore c) t = .next t :=
  if_pos (decide_eq_true hc)

/-- The instruction that core c issues: its end where its fields are legal, else ILLEGAL. -/
theorem State.CoreAt.runs {s t : State} {c w : Nat} {x : Ctx} (h : s.CoreAt c w x t)
    {isOp : Nat → Bool} (hop : isOp (cwOp w) = true) (legal : Nat → Ctx → Bool)
    (f : State → Nat → Ctx → CoreEnd) :
    gate (okCore c) (s.coreRun c isOp legal f) =
      .next (if legal w x then s.coreEnd c (f t w x) else t.coreExc c .illegal 0 0) := by
  obtain ⟨hc, hissue, hfetch⟩ := h
  rw [gate_core hc, State.coreRun, hissue]
  cases hlegal : legal w x <;> simp [hfetch, hop, hlegal]

/-- One OP of the table, at a word of that OP. -/
theorem State.CoreAt.runsOp {s t : State} {c w op : Nat} {x : Ctx} (h : s.CoreAt c w x t)
    (hop : cwOp w = op) (legal : Nat → Ctx → Bool) (f : State → Nat → Ctx → CoreEnd) :
    gate (okCore c) (s.coreOp c op legal f) =
      .next (if legal w x then s.coreEnd c (f t w x) else t.coreExc c .illegal 0 0) :=
  h.runs (decide_eq_true hop) legal f

/-- An instruction that makes a context of the present one, and does nothing else, has its row. -/
theorem coreRow_done {i : Nat → Instr} {op : Nat} {legal : Nat → Ctx → Bool} {g : Nat → Ctx → Ctx}
    {P : Nat → Ctx → Ctx → Prop}
    (hexec : ∀ c s, exec (i c) s =
      gate (okCore c) (s.coreOp c op legal (fun t w x => .done t (g w x))))
    (hP : ∀ w x, legal w x = true → P w x (g w x)) : CoreRow i op legal P := by
  intro s c w x t hat hop
  rw [hexec, hat.runsOp hop]
  refine ⟨fun hlegal => ⟨g w x, ?_, hP w x hlegal⟩, fun hlegal => ?_⟩
  · rw [if_pos hlegal]
    rfl
  · rw [if_neg (Bool.eq_false_iff.1 hlegal)]

/-! ## Registers and flags of a context -/

namespace Ctx

variable (x : Ctx)

/-- z is x but for STATUS. -/
def StatusOnly (z : Ctx) : Prop := ∃ v, z = { x with status := v }

theorem statusOnly_refl : x.StatusOnly x := ⟨x.status, rfl⟩

variable {x} in
theorem StatusOnly.eq {z : Ctx} (h : x.StatusOnly z) : z = { x with status := z.status } := by
  obtain ⟨v, rfl⟩ := h
  rfl

variable {x} in
theorem StatusOnly.setSt {z : Ctx} (h : x.StatusOnly z) (i : Nat) (b : Bool) :
    x.StatusOnly (Ctx.setSt z i b) := by
  obtain ⟨v, rfl⟩ := h
  exact ⟨_, rfl⟩

variable {x} in
theorem StatusOnly.stick {z : Ctx} (h : x.StatusOnly z) (i : Nat) (b : Bool) :
    x.StatusOnly (Ctx.stick z i b) := by
  cases b
  · exact h
  · exact h.setSt i true

/-- A bit of STATUS that is written takes its value, and every other bit stays. -/
theorem st_setSt {i : Nat} (hi : i < 32) (b : Bool) (j : Nat) :
    (x.setSt i b).st j = if j = i then b else x.st j := by
  have hfit : setBit x.status.toNat i b < 2 ^ 32 := setBits_lt _ _ _ _ 32 hi x.status.isLt
  rw [st, setSt, BitVec.toNat_ofNat, Nat.mod_eq_of_lt hfit]
  exact testBit_setBit _ _ _ _

/-- A sticky bit is set by its condition, and every other bit stays. -/
theorem st_stick {i : Nat} (hi : i < 32) (b : Bool) (j : Nat) :
    (x.stick i b).st j = if j = i then x.st i || b else x.st j := by
  cases b
  · by_cases h : j = i <;> simp [stick, h]
  · simp [stick, st_setSt x hi]

/-- Z and N of a result as the instructions of ADD to MUL set them. -/
theorem flagsZN_setZN {r : Nat} {R : BitVec 32} (hr : BitVec.ofNat 32 r = R) :
    x.FlagsZN (x.setZN r) (decide (R = 0)) R.msb := by
  have hz : decide (r % 2 ^ 32 = 0) = decide (R = 0) := by
    rw [← hr, decide_eq_decide, ← BitVec.toNat_inj]
    exact Iff.rfl
  have hn : bit r 31 = R.msb := by
    rw [← hr, BitVec.msb_eq_getLsbD_last, BitVec.getLsbD_ofNat]
    rfl
  rw [FlagsZN, setZN, hz, hn]
  refine ⟨by rw [st_setSt _ (by decide)]; exact st_setSt _ (by decide) _ 0,
    st_setSt _ (by decide) _ 1, fun i hi => ?_⟩
  rw [st_setSt _ (by decide), st_setSt _ (by decide), if_neg (by omega), if_neg (by omega)]

/-- Z, N, C and V as ADD, SUB and CMP set them. -/
theorem flagsZNCV_setCV {r : Nat} {R : BitVec 32} (hr : BitVec.ofNat 32 r = R) (c v : Bool) :
    x.FlagsZNCV ((x.setZN r).setCV c v) (decide (R = 0)) R.msb c v := by
  obtain ⟨hz, hn, hrest⟩ := x.flagsZN_setZN hr
  have hst (i : Nat) : ((x.setZN r).setCV c v).st i =
      if i = 3 then v else if i = 2 then c else (x.setZN r).st i := by
    rw [setCV, st_setSt _ (by decide), st_setSt _ (by decide)]
  refine ⟨by rw [hst]; exact hz, by rw [hst]; exact hn, hst 2, hst 3, fun i hi => ?_⟩
  rw [hst, if_neg (by omega), if_neg (by omega), hrest i (by omega)]

theorem statusOnly_setZN (r : Nat) : x.StatusOnly (x.setZN r) :=
  (x.statusOnly_refl.setSt 0 _).setSt 1 _

theorem statusOnly_setCV (r : Nat) (c v : Bool) : x.StatusOnly ((x.setZN r).setCV c v) :=
  ((x.statusOnly_setZN r).setSt 2 c).setSt 3 v

/-- A register written reads the written value, modulo 2^32. -/
theorem bv_wg_same (n v : Nat) : (x.wg n v).bv n = BitVec.ofNat 32 v := sget_sput_same _ _ _ _

theorem bv_wg_ne {n m : Nat} (v : Nat) (h : m ≠ n) : (x.wg n v).bv m = x.bv m :=
  sget_sput_ne _ _ _ _ h

/-- A register written beside flags. -/
theorem writesG_wg {x z : Ctx} (h : x.StatusOnly z) (d : Nat) {r : Nat} {R : BitVec 32}
    (hr : BitVec.ofNat 32 r = R) : x.WritesG (z.wg d r) d R.toNat := by
  obtain ⟨v, rfl⟩ := h
  exact ⟨rfl, congrArg BitVec.toNat ((bv_wg_same _ d r).trans hr),
    fun n hn => congrArg BitVec.toNat (bv_wg_ne _ r hn)⟩

/-- Operand B of ADD to MOV, in both formats. -/
theorem opB_eq {w : Nat} (h : fmtRI w = true) : x.opB w = (x.bvB w).toNat := by
  have hopt : cwOpt w = 0 ∨ cwOpt w = 1 := by
    by_contra hn
    rw [fmtRI, if_neg (by omega), if_neg (by omega)] at h
    cases h
  rw [opB, bvB]
  rcases hopt with h0 | h1
  · rw [h0]
    rfl
  · have himm : cwImm w < 2 ^ 32 := bits_lt w 0 32
    rw [h1, if_pos rfl, BitVec.toNat_ofNat, Nat.mod_eq_of_lt himm]
    rfl

end Ctx

/-! ## Integer results as bit vectors -/

/-- The signed reading of a bit vector. -/
theorem sx_toNat {w : Nat} (a : BitVec (w + 1)) : sx (w + 1) a.toNat = a.toInt := by
  rw [sx, Nat.mod_eq_of_lt a.isLt, BitVec.toInt_eq_toNat_cond, Nat.add_sub_cancel, Nat.pow_succ]
  by_cases h : a.toNat < 2 ^ w
  · rw [if_pos (by exact_mod_cast h), if_pos (by omega)]
  · rw [if_neg (by exact_mod_cast h), if_neg (by omega)]
    push_cast
    rfl

/-- Two's complement of an integer as a bit vector. -/
theorem ofNat_us (w : Nat) (i : Int) : BitVec.ofNat w (us w i) = BitVec.ofInt w i := by
  refine BitVec.eq_of_toNat_eq ?_
  rw [BitVec.toNat_ofInt, BitVec.toNat_ofNat, us]
  refine Nat.mod_eq_of_lt ?_
  have hpos : ((2 ^ w : Nat) : Int) ≠ 0 := by exact_mod_cast (Nat.two_pow_pos w).ne'
  have := Int.emod_lt_of_pos i (b := ((2 ^ w : Nat) : Int)) (by exact_mod_cast Nat.two_pow_pos w)
  have := Int.emod_nonneg i hpos
  omega

section
variable (a b : BitVec 32)

theorem ofNat_add_toNat : BitVec.ofNat 32 (a.toNat + b.toNat) = a + b :=
  BitVec.eq_of_toNat_eq (by rw [BitVec.toNat_ofNat, BitVec.toNat_add])

theorem ofNat_us_sub : BitVec.ofNat 32 (us 32 ((a.toNat : Int) - b.toNat)) = a - b := by
  refine BitVec.eq_of_toNat_eq ?_
  rw [BitVec.toNat_ofNat, BitVec.toNat_sub, us]
  omega

theorem ofNat_and_toNat : BitVec.ofNat 32 (a.toNat &&& b.toNat) = a &&& b := by
  rw [← BitVec.toNat_and, BitVec.ofNat_toNat, BitVec.setWidth_eq]

theorem ofNat_or_toNat : BitVec.ofNat 32 (a.toNat ||| b.toNat) = a ||| b := by
  rw [← BitVec.toNat_or, BitVec.ofNat_toNat, BitVec.setWidth_eq]

theorem ofNat_xor_toNat : BitVec.ofNat 32 (a.toNat ^^^ b.toNat) = a ^^^ b := by
  rw [← BitVec.toNat_xor, BitVec.ofNat_toNat, BitVec.setWidth_eq]

theorem ofNat_andn : BitVec.ofNat 32 (andn a.toNat b.toNat) = a &&& ~~~ b := by
  have hones : (0xFFFFFFFF : Nat) = (BitVec.allOnes 32).toNat := rfl
  rw [andn, hones, ← BitVec.toNat_xor, ofNat_and_toNat, BitVec.xor_allOnes]

theorem ofNat_shl32 : BitVec.ofNat 32 (shl32 a.toNat b.toNat) = a <<< (b.toNat % 32) :=
  BitVec.eq_of_toNat_eq (by rw [shl32, BitVec.toNat_ofNat, BitVec.toNat_shiftLeft, Nat.mod_mod])

theorem ofNat_shr32 : BitVec.ofNat 32 (shr32 a.toNat b.toNat) = a >>> (b.toNat % 32) := by
  rw [shr32, ← BitVec.toNat_ushiftRight, BitVec.ofNat_toNat, BitVec.setWidth_eq]

theorem ofNat_sar32 : BitVec.ofNat 32 (sar32 a.toNat b.toNat) = a.sshiftRight (b.toNat % 32) := by
  rw [sar32, ofNat_us, sx_toNat a, ← Int.shiftRight_eq_div_pow, ← BitVec.toInt_sshiftRight,
    BitVec.ofInt_toInt]

theorem ofNat_mul32 : BitVec.ofNat 32 (mul32 a.toNat b.toNat) = a * b :=
  BitVec.eq_of_toNat_eq (by rw [mul32, BitVec.toNat_ofNat, BitVec.toNat_mul, Nat.mod_mod])

theorem ovf32_add : ovf32 (sx 32 a.toNat + sx 32 b.toNat) = BitVec.saddOverflow a b := by
  rw [ovf32, sx_toNat a, sx_toNat b, BitVec.saddOverflow, Bool.or_comm]
  rfl

theorem ovf32_sub : ovf32 (sx 32 a.toNat - sx 32 b.toNat) = BitVec.ssubOverflow a b := by
  rw [ovf32, sx_toNat a, sx_toNat b, BitVec.ssubOverflow, Bool.or_comm]
  rfl

theorem sub_eq_zero_iff : decide (a - b = 0) = decide (a = b) := by
  rw [decide_eq_decide]
  exact sub_eq_zero

end

/-! ## Rows of the integer instructions -/

/-- ADD to MUL: what the row says of the result and the flags of its two operands. -/
theorem aluRow {i : Nat → Instr} {op : Nat} {f : Nat → Nat → Nat} {fl : Ctx → Nat → Nat → Ctx}
    {P : Nat → Ctx → Ctx → Prop} (hexec : ∀ c s, exec (i c) s = gate (okCore c) (s.coAlu c op f fl))
    (hP : ∀ w x a b, a = x.bv (cwA w) → b = x.bvB w →
      P w x ((fl x a.toNat b.toNat).wg (cwD w) (f a.toNat b.toNat))) :
    CoreRow i op (fun w _ => fmtRI w) P := by
  refine coreRow_done hexec fun w x hlegal => ?_
  rw [x.opB_eq hlegal]
  exact hP w x _ _ rfl rfl

/-- The instructions that set Z and N alone. -/
theorem znRow {i : Nat → Instr} {op : Nat} {f : Nat → Nat → Nat}
    {F : BitVec 32 → BitVec 32 → BitVec 32}
    (hexec : ∀ c s, exec (i c) s = gate (okCore c) (s.coAlu c op f (znOf f)))
    (hf : ∀ a b, BitVec.ofNat 32 (f a.toNat b.toNat) = F a b) :
    CoreRow i op (fun w _ => fmtRI w) (fun w x y =>
      x.WritesG y (cwD w) (F (x.bv (cwA w)) (x.bvB w)).toNat ∧
      x.FlagsZN y (decide (F (x.bv (cwA w)) (x.bvB w) = 0)) (F (x.bv (cwA w)) (x.bvB w)).msb) := by
  refine aluRow hexec ?_
  rintro w x _ _ rfl rfl
  exact ⟨Ctx.writesG_wg (x.statusOnly_setZN _) _ (hf _ _), x.flagsZN_setZN (hf _ _)⟩

/-- POPC and CLZ: the count goes to gD, and Z says whether it is 0. -/
theorem countRow {i : Nat → Instr} {op : Nat} {f : Nat → Nat} {P : Nat → Ctx → Ctx → Prop}
    (hexec : ∀ c s, exec (i c) s = gate (okCore c) (s.coCount c op f)) (hf : ∀ a, f a ≤ 32)
    (hP : ∀ w x y, x.WritesG y (cwD w) (f (x.rg (cwA w))) →
      y.st 0 = decide (f (x.rg (cwA w)) = 0) → (∀ i, 1 ≤ i → y.st i = x.st i) → P w x y) :
    CoreRow i op (fun w _ => fmtR w) P := by
  refine coreRow_done hexec fun w x _ => hP w x _ ?_ ?_ fun i hi => ?_
  · have hr : f (x.rg (cwA w)) = (BitVec.ofNat 32 (f (x.rg (cwA w)))).toNat := by
      rw [BitVec.toNat_ofNat, Nat.mod_eq_of_lt (Nat.lt_of_le_of_lt (hf _) (by decide))]
    have hwrite := Ctx.writesG_wg (x.statusOnly_refl.setSt 0 (decide (f (x.rg (cwA w)) = 0)))
      (cwD w) (r := f (x.rg (cwA w))) rfl
    rwa [← hr] at hwrite
  · exact x.st_setSt (by decide) _ 0
  · exact (x.st_setSt (by decide) _ i).trans (if_neg (by omega))

theorem popc_eq_countP (a : BitVec 32) :
    popc 32 a.toNat = (List.range 32).countP (fun i => a.getLsbD i) :=
  List.countP_eq_length_filter.symm

theorem popc_le (w n : Nat) : popc w n ≤ w := by
  have := List.length_filter_le (fun i => n.testBit i) (List.range w)
  rwa [List.length_range] at this

theorem popc_eq_zero (a : BitVec 32) : popc 32 a.toNat = 0 ↔ a = 0 := by
  rw [popc_eq_countP, List.countP_eq_zero]
  refine ⟨fun h => BitVec.eq_of_getLsbD_eq fun i hi => ?_, fun h => by simp [h]⟩
  rw [Bool.eq_false_iff.2 (h i (List.mem_range.2 hi))]
  simp

/-- The leading zeros of a word: above them no bit is set, and the bit below them is, if there is one. -/
theorem clz32_spec (a : BitVec 32) : clz32 a.toNat ≤ 32 ∧
    (∀ i, i < clz32 a.toNat → a.getLsbD (31 - i) = false) ∧
    (clz32 a.toNat < 32 → a.getLsbD (31 - clz32 a.toNat) = true) := by
  rw [clz32]
  cases hfind : (List.range 32).find? (fun i => bit a.toNat (31 - i)) with
  | none =>
    rw [List.find?_range_eq_none] at hfind
    exact ⟨Nat.le_refl 32, fun i hi => Bool.not_eq_eq_eq_not.mp (hfind i hi), fun h => absurd h (Nat.lt_irrefl 32)⟩
  | some k =>
    obtain ⟨hset, hk, hbefore⟩ := List.find?_range_eq_some.1 hfind
    exact ⟨Nat.le_of_lt (List.mem_range.1 hk), fun i hi => Bool.not_eq_eq_eq_not.mp (hbefore i hi), fun _ => hset⟩

/-- Settles O12: each instruction makes a context of the present one, and its result and flags are those
of the bit vectors. -/
theorem coreIntegerInstructions : Obligations.CoreIntegerInstructions := by
  refine ⟨aluRow (fun _ _ => rfl) ?add, aluRow (fun _ _ => rfl) ?sub,
    znRow (F := (· &&& ·)) (fun _ _ => rfl) ofNat_and_toNat,
    znRow (F := (· ||| ·)) (fun _ _ => rfl) ofNat_or_toNat,
    znRow (F := (· ^^^ ·)) (fun _ _ => rfl) ofNat_xor_toNat,
    znRow (F := fun a b => a &&& ~~~ b) (fun _ _ => rfl) ofNat_andn,
    znRow (F := fun a b => a <<< (b.toNat % 32)) (fun _ _ => rfl) ofNat_shl32,
    znRow (F := fun a b => a >>> (b.toNat % 32)) (fun _ _ => rfl) ofNat_shr32,
    znRow (F := fun a b => a.sshiftRight (b.toNat % 32)) (fun _ _ => rfl) ofNat_sar32,
    znRow (F := (· * ·)) (fun _ _ => rfl) ofNat_mul32,
    coreRow_done (fun _ _ => rfl) fun w x hlegal => ?cmp,
    coreRow_done (fun _ _ => rfl) fun w x hlegal => ?mov,
    countRow (fun _ _ => rfl) (popc_le 32) fun w x y hwrite hz hrest => ?popc,
    countRow (fun _ _ => rfl) ?clzle fun w x y hwrite hz hrest => ?clz⟩
  case add =>
    rintro w x a b rfl rfl
    have hr : BitVec.ofNat 32 (((x.bv (cwA w)).toNat + (x.bvB w).toNat) % 2 ^ 32) =
        x.bv (cwA w) + x.bvB w := by
      rw [← BitVec.toNat_add, BitVec.ofNat_toNat, BitVec.setWidth_eq]
    refine ⟨Ctx.writesG_wg (x.statusOnly_setCV _ _ _) _ (ofNat_add_toNat _ _), ?_⟩
    rw [← ovf32_add]
    exact x.flagsZNCV_setCV hr _ _
  case sub =>
    rintro w x a b rfl rfl
    refine ⟨Ctx.writesG_wg (x.statusOnly_setCV _ _ _) _ (ofNat_us_sub _ _), ?_⟩
    rw [← ovf32_sub, ← sub_eq_zero_iff]
    exact x.flagsZNCV_setCV (ofNat_us_sub _ _) _ _
  case cmp =>
    obtain ⟨hfmt, -⟩ := Bool.and_eq_true_iff.1 hlegal
    rw [x.opB_eq hfmt]
    refine ⟨(x.statusOnly_setCV _ _ _).eq, ?_⟩
    rw [← ovf32_sub, ← sub_eq_zero_iff]
    exact x.flagsZNCV_setCV (ofNat_us_sub _ _) _ _
  case mov =>
    rw [x.opB_eq hlegal]
    refine ⟨Ctx.writesG_wg x.statusOnly_refl _ ?_, rfl⟩
    rw [BitVec.ofNat_toNat, BitVec.setWidth_eq]
  case popc =>
    have hcount := popc_eq_countP (x.bv (cwA w))
    refine ⟨hcount ▸ hwrite, hz.trans ?_, hrest⟩
    rw [decide_eq_decide, ← popc_eq_zero]
    rfl
  case clzle =>
    intro n
    rw [clz32]
    split
    next hfind => exact Nat.le_of_lt (List.mem_range.1 (List.mem_of_find?_eq_some hfind))
    next => exact Nat.le_refl 32
  case clz =>
    obtain ⟨hle, hbefore, hset⟩ := clz32_spec (x.bv (cwA w))
    exact ⟨_, hwrite, hle, hbefore, hset, hz, hrest⟩

end Sys2Proof.Machine
end

section
/-! SUPPORT. The vector registers lane by lane, and the accumulators under the sums of the cores'
instructions. Then what 08_dsp_cores.md has proved of them: CoreVectorMoves, CoreAccumulators. -/

namespace Sys2Proof.Machine

open Sys2Proof

/-! ## Parts of vector registers -/

/-- A field of a number is that part of it as a bit vector. -/
theorem extractLsb'_ofNat {n v : Nat} (h : v < 2 ^ n) (lo w : Nat) :
    (BitVec.ofNat n v).extractLsb' lo w = BitVec.ofNat w (bits v lo w) := by
  refine BitVec.eq_of_toNat_eq ?_
  rw [BitVec.extractLsb'_toNat, BitVec.toNat_ofNat, BitVec.toNat_ofNat, Nat.mod_eq_of_lt h,
    Nat.mod_eq_of_lt (bits_lt v lo w), bits]

/-- A part of a bit vector is the field of its number. -/
theorem ofNat_bits_toNat {n : Nat} (v : BitVec n) (lo w : Nat) :
    BitVec.ofNat w (bits v.toNat lo w) = v.extractLsb' lo w := by
  rw [← extractLsb'_ofNat v.isLt, BitVec.ofNat_toNat, BitVec.setWidth_eq]

/-- The first n lanes of a sum of lanes: each is its value modulo 2^16, and nothing lies above them. -/
theorem lanes_fold (f : Nat → Nat) (n : Nat) :
    (List.range n).foldl (fun a l => a + f l % 2 ^ 16 * 2 ^ (16 * l)) 0 < 2 ^ (16 * n) ∧
    ∀ l, l < n → bits ((List.range n).foldl (fun a l => a + f l % 2 ^ 16 * 2 ^ (16 * l)) 0)
      (16 * l) 16 = f l % 2 ^ 16 := by
  induction n with
  | zero => exact ⟨Nat.one_pos, fun l hl => absurd hl (Nat.not_lt_zero l)⟩
  | succ n ih =>
    obtain ⟨hlt, hlane⟩ := ih
    rw [List.range_succ, List.foldl_append]
    generalize (List.range n).foldl (fun a l => a + f l % 2 ^ 16 * 2 ^ (16 * l)) 0 = S at *
    have hv : f n % 2 ^ 16 < 2 ^ 16 := Nat.mod_lt _ (Nat.two_pow_pos 16)
    change S + f n % 2 ^ 16 * 2 ^ (16 * n) < _ ∧ ∀ l, l < n + 1 →
      bits (S + f n % 2 ^ 16 * 2 ^ (16 * n)) (16 * l) 16 = _
    rw [Nat.add_comm S, Nat.mul_comm _ (2 ^ (16 * n))]
    refine ⟨?_, fun l hl => ?_⟩
    · rw [Nat.mul_succ, Nat.pow_add]
      calc 2 ^ (16 * n) * (f n % 2 ^ 16) + S < 2 ^ (16 * n) * (f n % 2 ^ 16 + 1) := by
            rw [Nat.mul_succ]; omega
        _ ≤ 2 ^ (16 * n) * 2 ^ 16 := Nat.mul_le_mul_left _ hv
    · rcases Nat.lt_succ_iff_lt_or_eq.1 hl with hl | rfl
      · rw [← hlane l hl]
        refine Nat.eq_of_testBit_eq fun i => ?_
        rw [testBit_bits, testBit_bits, Nat.testBit_two_pow_mul_add _ hlt]
        by_cases hi : i < 16
        · rw [if_pos (by omega)]
        · rw [decide_eq_false hi, Bool.false_and, Bool.false_and]
      · refine bits_of_parts (hi := 0) (low := S) ?_ hv hlt
        rw [Nat.zero_mul, Nat.zero_add, Nat.mul_comm]

/-! ## Registers of a context -/

namespace Ctx

variable (x : Ctx)

theorem v_wv_same (n v : Nat) : sget (x.wv n v).v 0 n = BitVec.ofNat 128 v := sget_sput_same _ _ _ _

@[simp] theorem st_wg (n v i : Nat) : (x.wg n v).st i = x.st i := rfl
@[simp] theorem st_wv (n v i : Nat) : (x.wv n v).st i = x.st i := rfl
@[simp] theorem st_wva (n l : Nat) (v : Int) (i : Nat) : (x.wva n l v).st i = x.st i := rfl
@[simp] theorem st_wsa (n : Nat) (v : Int) (i : Nat) : (x.wsa n v).st i = x.st i := rfl

theorem rv_wv_ne {n m : Nat} (v : Nat) (h : m ≠ n) : (x.wv n v).rv m = x.rv m :=
  congrArg BitVec.toNat (sget_sput_ne _ _ _ _ h)

/-- A vector register written from eight lanes. -/
theorem vl_wv_lanesOf (n : Nat) (f : Nat → Nat) {l : Nat} (hl : l < 8) :
    (x.wv n (lanesOf f)).vl n l = BitVec.ofNat 16 (f l) := by
  obtain ⟨hlt, hlane⟩ := lanes_fold f 8
  rw [vl, v_wv_same, lanesOf, extractLsb'_ofNat hlt, hlane l hl]
  exact BitVec.eq_of_toNat_eq (by rw [BitVec.toNat_ofNat, BitVec.toNat_ofNat, Nat.mod_mod])

/-- A lane as the sums read it. -/
theorem laneS_rv (n l : Nat) : laneS (x.rv n) l = (x.vl n l).toInt := by
  rw [← sx_toNat, vl, BitVec.extractLsb'_toNat]
  rfl

/-- A vector register written beside flags. -/
theorem writesV_wv (d : Nat) {r : Nat} {R : BitVec 128} (hr : BitVec.ofNat 128 r = R) :
    (x.wv d r).status = x.status ∧ x.WritesV (x.wv d r) d R.toNat :=
  ⟨rfl, rfl, congrArg BitVec.toNat ((x.v_wv_same d r).trans hr), fun _ hn => x.rv_wv_ne r hn⟩

theorem st_stick_ne {i j : Nat} (hi : i < 32) (b : Bool) (h : j ≠ i) : (x.stick i b).st j = x.st j := by
  rw [x.st_stick hi, if_neg h]

theorem st_stick_iff {i : Nat} (hi : i < 32) (b : Bool) :
    (x.stick i b).st i = true ↔ x.st i = true ∨ b = true := by
  rw [x.st_stick hi, if_pos rfl, Bool.or_eq_true]

theorem statusOnly_stick (i : Nat) (b : Bool) : x.StatusOnly (x.stick i b) :=
  x.statusOnly_refl.stick i b

end Ctx

/-! ## Rows of the vector moves -/

/-- OPT as the SAT flag of an instruction whose OPT has no other bit. -/
theorem bit_opt {w : Nat} (h : cwOpt w < 2) : bit (cwOpt w) 0 = decide (cwOpt w = 1) := by
  obtain h0 | h1 : cwOpt w = 0 ∨ cwOpt w = 1 := by omega
  · rw [h0]; rfl
  · rw [h1]; rfl

theorem clampI_eq_max_min {lo hi : Int} (h : lo ≤ hi) (i : Int) :
    clampI lo hi i = max lo (min hi i) := by
  unfold clampI
  omega

/-- VAND to VANDN: all 128 bits at once. -/
theorem vlogRow {i : Nat → Instr} {op : Nat} {f : Nat → Nat → Nat}
    {F : BitVec 128 → BitVec 128 → BitVec 128}
    (hexec : ∀ c s, exec (i c) s = gate (okCore c) (s.coVlog c op f))
    (hf : ∀ a b, BitVec.ofNat 128 (f a.toNat b.toNat) = F a b) :
    CoreRow i op (fun w _ => fmtR w && vOk w) (fun w x y => y.status = x.status ∧
      x.WritesV y (cwD w) (F (sget x.v 0 (cwA w)) (sget x.v 0 (cwB w))).toNat) :=
  coreRow_done hexec fun _ x _ => x.writesV_wv _ (hf _ _)

/-- VADD and VSUB: the lanes wrap or clamp, and SAT says whether one clamped. -/
theorem vsumRow {i : Nat → Instr} {op : Nat} {f : Int → Int → Int}
    {F : BitVec 16 → BitVec 16 → BitVec 16} {ovf : BitVec 16 → BitVec 16 → Bool}
    (hexec : ∀ c s, exec (i c) s = gate (okCore c) (s.coVsum c op f))
    (hF : ∀ a b, BitVec.ofInt 16 (f a.toInt b.toInt) = F a b)
    (hovf : ∀ a b : BitVec 16, ovf a b =
      (decide (f a.toInt b.toInt < -32768) || decide (f a.toInt b.toInt > 32767))) :
    CoreRow i op (fun w _ => decide (cwImm w = 0) && decide (cwOpt w < 2) && vOk w)
      (fun w x y => y = { x with v := y.v, status := y.status } ∧
        (∀ n, n ≠ cwD w → y.rv n = x.rv n) ∧
        (∀ l, l < 8 → y.vl (cwD w) l =
          if cwOpt w = 0 then F (x.vl (cwA w) l) (x.vl (cwB w) l)
          else BitVec.ofInt 16 (max (-32768) (min 32767
            (f (x.vl (cwA w) l).toInt (x.vl (cwB w) l).toInt)))) ∧
        (∀ i, i ≠ stSat → y.st i = x.st i) ∧
        (y.st stSat = true ↔ x.st stSat = true ∨ (cwOpt w = 1 ∧ ∃ l, l < 8 ∧
          ovf (x.vl (cwA w) l) (x.vl (cwB w) l) = true))) := by
  refine coreRow_done hexec fun w x hlegal => ?_
  simp only [Bool.and_eq_true, decide_eq_true_eq] at hlegal
  obtain ⟨⟨-, hopt⟩, -⟩ := hlegal
  simp only [x.laneS_rv, bit_opt hopt, ← hovf]
  obtain ⟨v, hz⟩ := x.statusOnly_stick stSat (decide (cwOpt w = 1) &&
    (List.range 8).any (fun l => ovf (x.vl (cwA w) l) (x.vl (cwB w) l)))
  refine ⟨?_, fun n hn => ?_, fun l hl => ?_, fun i hi => ?_, ?_⟩
  · rw [hz]
    rfl
  · rw [hz]
    exact Ctx.rv_wv_ne _ _ hn
  · rw [Ctx.vl_wv_lanesOf _ _ _ hl, ofNat_us, clampI_eq_max_min (by decide)]
    by_cases h0 : cwOpt w = 0
    · rw [if_pos h0, if_neg (by simp [h0]), hF]
    · rw [if_neg h0, if_pos (decide_eq_true (by omega))]
  · rw [Ctx.st_wv, x.st_stick_ne (by decide) _ hi]
  · rw [Ctx.st_wv, x.st_stick_iff (by decide)]
    simp

/-- Settles O15: the lanes of a number made of eight lanes, and the logic on all bits. -/
theorem coreVectorMoves : Obligations.CoreVectorMoves := by
  refine ⟨coreRow_done (fun _ _ => rfl) fun w x _ => ?vget,
    coreRow_done (fun _ _ => rfl) fun w x hlegal => ?vput,
    coreRow_done (fun _ _ => rfl) fun w x _ => ?vbc,
    vlogRow (F := (· &&& ·)) (fun _ _ => rfl) fun a b => ?vand,
    vlogRow (F := (· ||| ·)) (fun _ _ => rfl) fun a b => ?vor,
    vlogRow (F := (· ^^^ ·)) (fun _ _ => rfl) fun a b => ?vxor,
    vlogRow (F := fun a b => a &&& ~~~ b) (fun _ _ => rfl) fun a b => ?vandn,
    vsumRow (F := (· + ·)) (fun _ _ => rfl) (fun a b => ?add) fun a b => Bool.or_comm _ _,
    vsumRow (F := (· - ·)) (fun _ _ => rfl) (fun a b => ?sub) fun a b => Bool.or_comm _ _⟩
  case vget =>
    exact ⟨rfl, Ctx.writesG_wg x.statusOnly_refl _ (ofNat_bits_toNat _ _ _)⟩
  case vput =>
    simp only [Bool.and_eq_true, decide_eq_true_eq] at hlegal
    obtain ⟨-, himm⟩ := hlegal
    refine ⟨rfl, fun n hn => x.rv_wv_ne _ hn, fun k hk => ?_⟩
    have hfit : setBits (x.rv (cwD w)) (32 * cwImm w) 32 (x.rg (cwA w)) < 2 ^ 128 :=
      setBits_lt _ _ _ _ 128 (by omega) (sget x.v 0 (cwD w)).isLt
    rw [x.v_wv_same, extractLsb'_ofNat hfit]
    have hg : x.rg (cwA w) < 2 ^ 32 := (x.bv (cwA w)).isLt
    by_cases h : k = cwImm w
    · rw [if_pos h, h, bits_setBits_same, Nat.mod_eq_of_lt hg]
      exact (BitVec.ofNat_toNat 32 _).trans (BitVec.setWidth_eq _)
    · rw [if_neg h, bits_setBits_apart _ _ _ _ _ _ (by omega)]
      exact ofNat_bits_toNat _ _ _
  case vbc =>
    refine ⟨rfl, fun n hn => x.rv_wv_ne _ hn, fun l hl => ?_⟩
    rw [x.vl_wv_lanesOf _ _ hl, ← ofNat_bits_toNat]
    refine BitVec.eq_of_toNat_eq ?_
    rw [BitVec.toNat_ofNat, BitVec.toNat_ofNat, bits, Nat.shiftRight_zero, Nat.mod_mod]
    rfl
  case vand => rw [← BitVec.toNat_and, BitVec.ofNat_toNat, BitVec.setWidth_eq]
  case vor => rw [← BitVec.toNat_or, BitVec.ofNat_toNat, BitVec.setWidth_eq]
  case vxor => rw [← BitVec.toNat_xor, BitVec.ofNat_toNat, BitVec.setWidth_eq]
  case vandn =>
    have hones : 2 ^ 128 - 1 = (BitVec.allOnes 128).toNat := rfl
    rw [hones, ← BitVec.toNat_xor, ← BitVec.toNat_and, BitVec.ofNat_toNat, BitVec.setWidth_eq,
      BitVec.xor_allOnes]
  case add => exact BitVec.eq_of_toInt_eq (by rw [BitVec.toInt_ofInt, BitVec.toInt_add])
  case sub => exact BitVec.eq_of_toInt_eq (by rw [BitVec.toInt_ofInt, BitVec.toInt_sub])

/-! ## Accumulators -/

namespace Ctx

variable (x : Ctx)

/-- A lane of an accumulator written keeps every other lane. -/
theorem rva_wva {n l : Nat} (hl : l < 8) (v : Int) (m : Nat) {k : Nat} (hk : k < 8) :
    (x.wva n l v).rva m k = if m = n ∧ k = l then (BitVec.ofInt 40 v).toInt else x.rva m k := by
  by_cases h : m = n ∧ k = l
  · obtain ⟨rfl, rfl⟩ := h
    rw [if_pos ⟨rfl, rfl⟩]
    exact congrArg BitVec.toInt (sget_sput_same _ _ _ _)
  · rw [if_neg h]
    exact congrArg BitVec.toInt (sget_sput_ne _ _ _ _ (by omega))

theorem rsa_wsa (n : Nat) (v : Int) (m : Nat) :
    (x.wsa n v).rsa m = if m = n then (BitVec.ofInt 72 v).toInt else x.rsa m := by
  by_cases h : m = n
  · subst h
    rw [if_pos rfl]
    exact congrArg BitVec.toInt (sget_sput_same _ _ _ _)
  · rw [if_neg h]
    exact congrArg BitVec.toInt (sget_sput_ne _ _ _ _ h)

/-- y is x with lanes below n of accumulator vad at r, wrapped, and AOV where one of these left its
range. -/
structure Summed (d : Nat) (r : Nat → Int) (n : Nat) (y : Ctx) : Prop where
  frame : y = { x with va := y.va, status := y.status }
  lane : ∀ m l, l < 8 →
    y.rva m l = if m = d ∧ l < n then (BitVec.ofInt 40 (r l)).toInt else x.rva m l
  rest : ∀ i, i ≠ stAov → y.st i = x.st i
  aov : y.st stAov = true ↔ x.st stAov = true ∨ ∃ l, l < n ∧ outOf 40 (r l) = true

variable {x} in
/-- The next lane summed. -/
theorem Summed.next {d : Nat} {r : Nat → Int} {n : Nat} {y : Ctx} (h : x.Summed d r n y) (hn : n < 8) :
    x.Summed d r (n + 1) ((y.stick stAov (outOf 40 (r n))).wva d n (r n)) := by
  obtain ⟨hframe, hlane, hrest, haov⟩ := h
  obtain ⟨v, hz⟩ := y.statusOnly_stick stAov (outOf 40 (r n))
  refine ⟨?_, fun m l hl => ?_, fun i hi => ?_, ?_⟩
  · rw [hz, hframe]
    rfl
  · have hkept : (y.stick stAov (outOf 40 (r n))).rva m l = y.rva m l := by rw [hz]; rfl
    rw [rva_wva _ hn _ _ hl, hkept, hlane m l hl]
    by_cases h1 : m = d ∧ l = n
    · rw [if_pos h1, if_pos ⟨h1.1, by omega⟩, h1.2]
    · rw [if_neg h1]
      congr 1
      rw [eq_iff_iff]
      omega
  · exact (y.st_stick_ne (by decide) _ hi).trans (hrest i hi)
  · refine (y.st_stick_iff (by decide) _).trans ?_
    rw [haov, or_assoc]
    refine or_congr_right ⟨?_, ?_⟩
    · rintro (⟨l, hl, ho⟩ | ho)
      · exact ⟨l, by omega, ho⟩
      · exact ⟨n, by omega, ho⟩
    · rintro ⟨l, hl, ho⟩
      rcases Nat.lt_succ_iff_lt_or_eq.1 hl with hl | rfl
      · exact .inl ⟨l, hl, ho⟩
      · exact .inr ho

/-- The products of the lanes added into an accumulator: each lane's sum is that of the lane as it stood
before the instruction. -/
theorem summed_vmac (d : Nat) (sgn : Int) (a b : Nat) :
    x.Summed d (fun l => x.rva d l + sgn * (laneS a l * laneS b l)) 8 (x.vmac d sgn a b) := by
  suffices h : ∀ n, n ≤ 8 → x.Summed d (fun l => x.rva d l + sgn * (laneS a l * laneS b l)) n
      ((List.range n).foldl (fun y l =>
        (y.stick stAov (outOf 40 (y.rva d l + sgn * (laneS a l * laneS b l)))).wva d l
          (y.rva d l + sgn * (laneS a l * laneS b l))) x) from h 8 (Nat.le_refl 8)
  intro n hn
  induction n with
  | zero => exact ⟨rfl, fun m l _ => (if_neg (by omega)).symm, fun _ _ => rfl, by simp⟩
  | succ n ih =>
    have hsum := ih (by omega)
    rw [List.range_succ, List.foldl_append]
    generalize (List.range n).foldl _ x = y at *
    have hkept : y.rva d n = x.rva d n := by rw [hsum.lane d n (by omega), if_neg (by omega)]
    rw [List.foldl_cons, List.foldl_nil, hkept]
    exact hsum.next (by omega)

/-- The lanes of an accumulator cleared one after another. -/
theorem lanes_cleared (d n : Nat) (hn : n ≤ 8) :
    let y := (List.range n).foldl (fun y l => y.wva d l 0) x
    y = { x with va := y.va } ∧
      ∀ m l, l < 8 → y.rva m l = if m = d ∧ l < n then 0 else x.rva m l := by
  induction n with
  | zero => exact ⟨rfl, fun m l _ => (if_neg (by omega)).symm⟩
  | succ n ih =>
    obtain ⟨hframe, hlane⟩ := ih (by omega)
    rw [List.range_succ, List.foldl_append, List.foldl_cons, List.foldl_nil]
    generalize (List.range n).foldl _ x = y at *
    refine ⟨?_, fun m l hl => ?_⟩
    · rw [hframe]
      rfl
    · rw [y.rva_wva (by omega) _ _ hl, hlane m l hl]
      by_cases h : m = d ∧ l = n
      · rw [if_pos h, if_pos ⟨h.1, by omega⟩]
        rfl
      · rw [if_neg h]
        congr 1
        rw [eq_iff_iff]
        omega

/-- A product added into an accumulator: the accumulator and AOV, and nothing else. -/
theorem smac_spec (n : Nat) (sgn : Int) (a b : BitVec 32) :
    x.smac n sgn a.toNat b.toNat =
        { x with sa := (x.smac n sgn a.toNat b.toNat).sa,
                 status := (x.smac n sgn a.toNat b.toNat).status } ∧
      (∀ m, (x.smac n sgn a.toNat b.toNat).rsa m = if m = n then
        (BitVec.ofInt 72 (x.rsa n + sgn * (a.toInt * b.toInt))).toInt else x.rsa m) ∧
      (∀ i, (x.smac n sgn a.toNat b.toNat).st i = if i = stAov then
        x.st i || outOf 72 (x.rsa n + sgn * (a.toInt * b.toInt)) else x.st i) := by
  rw [smac, sx_toNat a, sx_toNat b]
  generalize hr : x.rsa n + sgn * (a.toInt * b.toInt) = r
  obtain ⟨v, hz⟩ := x.statusOnly_stick stAov (outOf 72 r)
  refine ⟨?_, fun m => ?_, fun i => ?_⟩
  · rw [hz]
    rfl
  · rw [rsa_wsa, hz]
    rfl
  · rw [st_wsa, x.st_stick (by decide)]
    by_cases hi : i = stAov
    · rw [if_pos hi, if_pos hi, hi]
    · rw [if_neg hi, if_neg hi]

/-- One product added into sa0 and one into sa1. -/
theorem smac_smac_spec (a b c d : BitVec 32) :
    let y := (x.smac 0 1 a.toNat b.toNat).smac 1 1 c.toNat d.toNat
    y = { x with sa := y.sa, status := y.status } ∧
      (∀ m, y.rsa m = if m = 1 then (BitVec.ofInt 72 (x.rsa 1 + c.toInt * d.toInt)).toInt
        else if m = 0 then (BitVec.ofInt 72 (x.rsa 0 + a.toInt * b.toInt)).toInt else x.rsa m) ∧
      (∀ i, y.st i = if i = stAov then x.st i || outOf 72 (x.rsa 0 + a.toInt * b.toInt) ||
        outOf 72 (x.rsa 1 + c.toInt * d.toInt) else x.st i) := by
  obtain ⟨hframe0, hsum0, hst0⟩ := x.smac_spec 0 1 a b
  generalize x.smac 0 1 a.toNat b.toNat = z at *
  obtain ⟨hframe, hsum, hst⟩ := z.smac_spec 1 1 c d
  generalize z.smac 1 1 c.toNat d.toNat = y at *
  have hkept : z.rsa 1 = x.rsa 1 := hsum0 1
  rw [hkept] at hsum hst
  simp only [Int.one_mul, hsum0, hst0] at hsum hst
  refine ⟨?_, hsum, fun i => (hst i).trans ?_⟩
  · rw [hframe, hframe0]
  · by_cases hi : i = stAov
    · rw [if_pos hi, if_pos hi, if_pos hi]
    · rw [if_neg hi, if_neg hi, if_neg hi]

end Ctx

/-! ## Rows of the accumulators -/

theorem outOf_iff (w : Nat) (i : Int) :
    outOf (w + 1) i = true ↔ i < -2 ^ w ∨ 2 ^ w ≤ i := by
  simp [outOf]

/-- VMAC and VMSU. -/
theorem vmulRow {i : Nat → Instr} {op : Nat} {sgn : Int}
    (hexec : ∀ c s, exec (i c) s = gate (okCore c) (s.coVmul c op sgn)) :
    CoreRow i op (fun w _ => fmtR w && decide (cwD w < 4) && decide (cwA w < 16) && decide (cwB w < 16))
      (fun w x y => y = { x with va := y.va, status := y.status } ∧
        (∀ n l, l < 8 → n ≠ cwD w → y.rva n l = x.rva n l) ∧
        (∀ l, l < 8 → y.rva (cwD w) l = (BitVec.ofInt 40 (x.rva (cwD w) l +
          sgn * ((x.vl (cwA w) l).toInt * (x.vl (cwB w) l).toInt))).toInt) ∧
        (∀ i, i ≠ stAov → y.st i = x.st i) ∧
        (y.st stAov = true ↔ x.st stAov = true ∨ (∃ l, l < 8 ∧ (x.rva (cwD w) l +
          sgn * ((x.vl (cwA w) l).toInt * (x.vl (cwB w) l).toInt) < -2 ^ 39 ∨
          2 ^ 39 ≤ x.rva (cwD w) l +
            sgn * ((x.vl (cwA w) l).toInt * (x.vl (cwB w) l).toInt))))) := by
  refine coreRow_done hexec fun w x _ => ?_
  obtain ⟨hframe, hlane, hrest, haov⟩ := x.summed_vmac (cwD w) sgn (x.rv (cwA w)) (x.rv (cwB w))
  simp only [x.laneS_rv, outOf_iff] at hlane haov
  refine ⟨hframe, fun n l hl hn => ?_, fun l hl => ?_, hrest, haov⟩
  · rw [hlane n l hl, if_neg (fun h => hn h.1)]
  · rw [hlane _ l hl, if_pos ⟨rfl, hl⟩]

/-- SMAC and SMSU. -/
theorem smulRow {i : Nat → Instr} {op : Nat} {sgn : Int}
    (hexec : ∀ c s, exec (i c) s = gate (okCore c) (s.coSmul c op sgn)) :
    CoreRow i op (fun w _ => fmtR w && decide (cwD w < 2)) (fun w x y =>
      y = { x with sa := y.sa, status := y.status } ∧
      (∀ n, n ≠ cwD w → y.rsa n = x.rsa n) ∧
      y.rsa (cwD w) = (BitVec.ofInt 72 (x.rsa (cwD w) +
        sgn * ((x.bv (cwA w)).toInt * (x.bv (cwB w)).toInt))).toInt ∧
      (∀ i, i ≠ stAov → y.st i = x.st i) ∧
      (y.st stAov = true ↔ x.st stAov = true ∨ (x.rsa (cwD w) +
        sgn * ((x.bv (cwA w)).toInt * (x.bv (cwB w)).toInt) < -2 ^ 71 ∨
        2 ^ 71 ≤ x.rsa (cwD w) + sgn * ((x.bv (cwA w)).toInt * (x.bv (cwB w)).toInt)))) := by
  refine coreRow_done hexec fun w x _ => ?_
  obtain ⟨hframe, hsum, hst⟩ := x.smac_spec (cwD w) sgn (x.bv (cwA w)) (x.bv (cwB w))
  refine ⟨hframe, fun n hn => (hsum n).trans (if_neg hn), (hsum _).trans (if_pos rfl),
    fun i hi => (hst i).trans (if_neg hi), ?_⟩
  rw [← outOf_iff, ← Bool.or_eq_true]
  exact iff_of_eq (congrArg (· = true) (hst stAov))

/-- Settles O16: each lane's sum is that of the lane before the instruction, and the sums of the scalar
accumulators are one product each. -/
theorem coreAccumulators : Obligations.CoreAccumulators := by
  refine ⟨fun r hr => ?vmul, coreRow_done (fun _ _ => rfl) fun w x _ => ?vaclr, fun r hr => ?smul,
    coreRow_done (fun _ _ => rfl) fun w x _ => ?smac2, coreRow_done (fun _ _ => rfl) fun w x _ => ?saclr⟩
  case vmul =>
    simp only [List.mem_cons, List.not_mem_nil, or_false] at hr
    rcases hr with rfl | rfl
    · exact vmulRow fun _ _ => rfl
    · exact vmulRow fun _ _ => rfl
  case vaclr =>
    obtain ⟨hframe, hlane⟩ := x.lanes_cleared (cwD w) 8 (Nat.le_refl 8)
    refine ⟨hframe, fun n l hl => (hlane n l hl).trans ?_⟩
    simp only [hl, and_true]
  case smul =>
    simp only [List.mem_cons, List.not_mem_nil, or_false] at hr
    rcases hr with rfl | rfl
    · exact smulRow fun _ _ => rfl
    · exact smulRow fun _ _ => rfl
  case smac2 =>
    obtain ⟨hframe, hsum, hst⟩ :=
      x.smac_smac_spec (x.bv (cwA w)) (x.bv (cwB w)) (x.bv (cwC w)) (x.bv (cwD w))
    refine ⟨hframe, hsum 0, hsum 1, fun n hn => (hsum n).trans ?_, fun i hi => (hst i).trans (if_neg hi),
      (hst stAov).trans (if_pos rfl)⟩
    rw [if_neg (by omega), if_neg (by omega)]
  case saclr =>
    refine ⟨rfl, fun n => (x.rsa_wsa _ _ n).trans ?_⟩
    rfl

end Sys2Proof.Machine
end

section
/-! SUPPORT. Operands of the cores' instructions that lie in memory, with the order of their checks;
the extraction of an accumulator. Then what 08_dsp_cores.md has proved of them: CoreLoadsAndStores,
CoreExtractionAndSearch. -/

namespace Sys2Proof.Machine

open Sys2Proof

/-! ## Operands in memory (R263) -/

namespace State

variable {s t : State} {c opnd align a : Nat} {own : Bool} {rs : List (Nat × Nat)}

/-- A misaligned read raises ALIGN. -/
theorem operandRd_misaligned (h : a % align ≠ 0) (k : State → Bytes → CoreEnd) :
    s.operandRd c opnd align own a rs k = .exc s .align opnd a := if_pos h

/-- An aligned read that the map or the protection bars raises what bars it. -/
theorem operandRd_barred (h : a % align = 0) {e : Exc} (he : s.coreAccess c false own rs = some e)
    (k : State → Bytes → CoreEnd) : s.operandRd c opnd align own a rs k = .exc s e opnd a := by
  rw [operandRd, if_neg (not_not_intro h), he]

/-- An aligned read that nothing bars reads its bytes, or raises DECC. -/
theorem operandRd_open (h : a % align = 0) (hfree : s.coreAccess c false own rs = none) {b : Bytes}
    {bad : Bool} (hread : s.coreRdRuns c rs = (b, bad, t)) (k : State → Bytes → CoreEnd) :
    s.operandRd c opnd align own a rs k = if bad then .exc t .decc opnd a else k t b := by
  rw [operandRd, if_neg (not_not_intro h), hfree, hread]

theorem operandWr_misaligned (h : a % align ≠ 0) (b : Bytes) (k : State → CoreEnd) :
    s.operandWr c align a rs b k = .exc s .align 1 a := if_pos h

theorem operandWr_barred (h : a % align = 0) {e : Exc} (he : s.coreAccess c true false rs = some e)
    (b : Bytes) (k : State → CoreEnd) : s.operandWr c align a rs b k = .exc s e 1 a := by
  rw [operandWr, if_neg (not_not_intro h), he]

/-- An aligned store that nothing bars is performed, or raises DECC. -/
theorem operandWr_open (h : a % align = 0) (hfree : s.coreAccess c true false rs = none) {b : Bytes}
    {bad : Bool} (hstore : s.coreStore c (storeRuns c rs b) = (bad, t)) (k : State → CoreEnd) :
    s.operandWr c align a rs b k = if bad then .exc t .decc 1 a else k t := by
  rw [operandWr, if_neg (not_not_intro h), hfree, hstore]

end State

/-- An instruction that reads one operand and makes a context of its bytes has the row of a load. -/
theorem coreLoad_of {i : Nat → Instr} {op : Nat} {legal : Nat → Ctx → Bool} {own : Bool}
    {addr align : Nat → Ctx → Nat} {runs : Nat → Ctx → List (Nat × Nat)} {fin : Nat → Ctx → Bytes → Ctx}
    {f : Nat → State → Nat → Ctx → CoreEnd}
    (hexec : ∀ c s, exec (i c) s = gate (okCore c) (s.coreOp c op legal (f c)))
    (hf : ∀ c t w x, legal w x = true → f c t w x =
      t.operandRd c 1 (align w x) own (addr w x) (runs w x) (fun t b => .done t (fin w x b))) :
    CoreLoad i op legal own addr align runs fin := by
  intro s c w x t hat hop
  rw [hexec, hat.runsOp hop]
  refine ⟨fun hlegal => by rw [if_neg (Bool.eq_false_iff.1 hlegal)], fun hlegal => ?_⟩
  rw [if_pos hlegal, hf c t w x hlegal]
  refine ⟨fun hodd => ?_, fun hflat => ⟨fun e he => ?_, fun hfree b bad u hread => ?_⟩⟩
  · rw [State.operandRd_misaligned hodd]
    rfl
  · rw [State.operandRd_barred hflat he]
    rfl
  · rw [State.operandRd_open hflat hfree hread]
    cases bad <;> rfl

/-- An instruction that stores one operand has the row of a store. -/
theorem coreStore_of {i : Nat → Instr} {op : Nat} {legal : Nat → Ctx → Bool}
    {addr align : Nat → Ctx → Nat} {runs : Nat → Ctx → List (Nat × Nat)} {data : Nat → Ctx → Bytes}
    {fin : Nat → Ctx → Ctx} {f : Nat → State → Nat → Ctx → CoreEnd}
    (hexec : ∀ c s, exec (i c) s = gate (okCore c) (s.coreOp c op legal (f c)))
    (hf : ∀ c t w x, f c t w x = t.operandWr c (align w x) (addr w x) (runs w x) (data w x)
      (fun t => .done t (fin w x))) :
    CoreStore i op legal addr align runs data fin := by
  intro s c w x t hat hop
  rw [hexec, hat.runsOp hop]
  refine ⟨fun hlegal => by rw [if_neg (Bool.eq_false_iff.1 hlegal)], fun hlegal => ?_⟩
  rw [if_pos hlegal, hf]
  refine ⟨fun hodd => ?_, fun hflat => ⟨fun e he => ?_, fun hfree bad u hstore => ?_⟩⟩
  · rw [State.operandWr_misaligned hodd]
    rfl
  · rw [State.operandWr_barred hflat he]
    rfl
  · rw [State.operandWr_open hflat hfree hstore]
    cases bad <;> rfl

/-- The address gA + IMM, modulo 2^32. -/
theorem immAddr_eq (w : Nat) (x : Ctx) : immAddr w x = (x.rg (cwA w) + cwImm w) % 2 ^ 32 := by
  rw [immAddr, BitVec.toNat_add, BitVec.toNat_ofNat, Nat.add_mod_mod]
  rfl

/-- Settles O13: each instruction is one operand read or stored, under the checks of its own. -/
theorem coreLoadsAndStores : Obligations.CoreLoadsAndStores := by
  refine ⟨coreLoad_of (fun _ _ => rfl) fun _ _ _ _ _ => rfl,
    coreStore_of (fun _ _ => rfl) fun _ _ _ _ => rfl,
    coreLoad_of (fun _ _ => rfl) fun c t w x _ => ?ldx,
    coreStore_of (fun _ _ => rfl) fun c t w x => ?stx,
    coreLoad_of (fun _ _ => rfl) fun _ _ _ _ _ => rfl,
    coreStore_of (fun _ _ => rfl) fun _ _ _ _ => rfl⟩
  case ldx =>
    rw [immAddr_eq]
    rfl
  case stx =>
    rw [immAddr_eq]
    rfl

/-! ## Extraction (R248) -/

theorem outOf_iff_lt (w : Nat) (i : Int) :
    outOf (w + 1) i = true ↔ i < -2 ^ w ∨ 2 ^ w - 1 < i := by
  rw [outOf_iff, Int.sub_one_lt_iff]

/-- An extraction takes the low bits of the rounded value, or with SAT of that value clamped to the signed
range of the bits; it has clamped where the value lay outside that range. -/
theorem extract_eq (n : Nat) {w : Nat} (hopt : cwOpt w < 2) (v : Int) (k : Nat) :
    extract (n + 1) (bit (cwOpt w) 0) v k =
      (us (n + 1) (if cwOpt w = 0 then rs v k else max (-2 ^ n) (min (2 ^ n - 1) (rs v k))),
        decide (cwOpt w = 1) && outOf (n + 1) (rs v k)) := by
  have hpow : ((2 ^ n : Nat) : Int) = 2 ^ n := by push_cast; rfl
  have hpos : (0 : Int) < 2 ^ n := Int.pow_pos (by decide)
  rw [extract, bit_opt hopt]
  by_cases h0 : cwOpt w = 0
  · rw [if_pos h0, h0]
    rfl
  · rw [if_neg h0, decide_eq_true (by omega), Bool.true_and]
    cases hout : outOf (n + 1) (rs v k)
    · have hin := mt (outOf_iff n (rs v k)).2 (Bool.eq_false_iff.1 hout)
      rw [not_or, Int.not_lt, Int.not_le] at hin
      rw [min_eq_right (by omega), max_eq_right hin.1]
      rfl
    · rw [if_pos rfl, Nat.add_sub_cancel, hpow, clampI_eq_max_min (by omega)]

/-- Settles O17: an extraction is a value of each accumulator with a flag, and SRCH and VMACM are what they
make of their operands' bytes. -/
theorem coreExtractionAndSearch : Obligations.CoreExtractionAndSearch := by
  refine ⟨coreRow_done (fun _ _ => rfl) fun w x hlegal => ?vext,
    coreRow_done (g := fun w x => (x.stick stSat (extract 32 (bit (cwOpt w) 0) (x.rsa (cwA w))
      (cwImm w)).2).wg (cwD w) (extract 32 (bit (cwOpt w) 0) (x.rsa (cwA w)) (cwImm w)).1)
      (fun _ _ => rfl) fun w x hlegal => ?sext,
    coreRow_done (fun _ _ => rfl) fun w x _ => ?sclr, coreRow_done (fun _ _ => rfl) fun w x hlegal => ?sget,
    coreLoad_of (fun _ _ => rfl) fun c t w x hlegal => ?srch,
    fun s c w x t hat hop hlegal p q y b1 b2 u v hp hy hq hflat1 hflat2 hfree1 hread1 hfree2 hread2 =>
      ?vmacm⟩
  case vext =>
    simp only [Bool.and_eq_true, decide_eq_true_eq] at hlegal
    obtain ⟨⟨⟨⟨-, hopt⟩, -⟩, -⟩, -⟩ := hlegal
    simp only [extract_eq 15 hopt]
    obtain ⟨v, hz⟩ := x.statusOnly_stick stSat ((List.range 8).any (fun l =>
      decide (cwOpt w = 1) && outOf (15 + 1) (rs (x.rva (cwA w) l) (cwImm w))))
    refine ⟨?_, fun n hn => ?_, fun l hl => ?_, fun i hi => ?_, ?_⟩
    · rw [hz]
      rfl
    · rw [hz]
      exact Ctx.rv_wv_ne _ _ hn
    · rw [Ctx.vl_wv_lanesOf _ _ _ hl, ofNat_us]
      rfl
    · rw [Ctx.st_wv, x.st_stick_ne (by decide) _ hi]
    · rw [Ctx.st_wv, x.st_stick_iff (by decide)]
      simp only [List.any_eq_true, List.mem_range, Bool.and_eq_true, decide_eq_true_eq, outOf_iff_lt]
      refine or_congr_right ⟨?_, ?_⟩
      · rintro ⟨l, hl, hsat, hout⟩
        exact ⟨hsat, l, hl, hout⟩
      · rintro ⟨hsat, l, hl, hout⟩
        exact ⟨l, hl, hsat, hout⟩
  case sext =>
    simp only [Bool.and_eq_true, decide_eq_true_eq] at hlegal
    obtain ⟨⟨⟨-, hopt⟩, -⟩, -⟩ := hlegal
    simp only [extract_eq 31 hopt]
    refine ⟨Ctx.writesG_wg (x.statusOnly_stick _ _) _ (ofNat_us 32 _), fun i hi => ?_, ?_⟩
    · rw [Ctx.st_wg, x.st_stick_ne (by decide) _ hi]
    · rw [Ctx.st_wg, x.st_stick_iff (by decide)]
      simp only [Bool.and_eq_true, decide_eq_true_eq, outOf_iff_lt]
      exact Iff.rfl
  case sclr =>
    refine ⟨rfl, ?_, fun i hi => ?_⟩
    · exact (Ctx.st_setSt _ (by decide) true stNone).trans (if_pos rfl)
    · exact (Ctx.st_setSt _ (by decide) true i).trans (if_neg hi)
  case sget =>
    rw [← BitVec.toNat_ofNat]
    refine ⟨rfl, Ctx.writesG_wg x.statusOnly_refl _ (congrArg _ ?_)⟩
    split
    next h => rw [if_pos h]
    next h => rw [h]; rfl
    next h => rw [h]; rfl
    next h0 h1 h2 => rw [if_neg h0, if_neg h1, if_neg h2]
  case srch =>
    simp only [Bool.and_eq_true, decide_eq_true_eq] at hlegal
    obtain ⟨⟨⟨⟨-, hopt⟩, -⟩, -⟩, -⟩ := hlegal
    rw [bit_opt hopt, Ctx.vl, BitVec.extractLsb'_toNat]
    rfl
  case vmacm =>
    have hexec : exec (.coreVmacm c) s = gate (okCore c) (s.coVmacm c) := rfl
    rw [hexec, State.coVmacm, hat.runsOp hop, if_pos hlegal]
    subst hp hy hq
    simp only [State.operandRd_open hflat1 hfree1 hread1, State.operandRd_open hflat2 hfree2 hread2]
    rfl

end Sys2Proof.Machine
end

section
/-! SUPPORT. What 08_dsp_cores.md has proved of the cores' branches and loops, of their transfers and of
the end of an item: CoreBranchesAndLoops, CoreTransfersAndItemEnd. -/

namespace Sys2Proof.Machine

open Sys2Proof

section
variable {s t : State} {c w op : Nat} {x : Ctx} {i : Nat → Instr} {legal : Nat → Ctx → Bool}
  {f : State → Nat → Ctx → CoreEnd}

/-- An instruction with legal fields ends as it says. -/
theorem State.CoreAt.exec_legal (h : s.CoreAt c w x t) (hop : cwOp w = op)
    (hexec : exec (i c) s = gate (okCore c) (s.coreOp c op legal f)) (hlegal : legal w x = true) :
    exec (i c) s = .next (s.coreEnd c (f t w x)) := by
  rw [hexec, h.runsOp hop, if_pos hlegal]

/-- An instruction whose fields break its format raises ILLEGAL. -/
theorem State.CoreAt.exec_illegal (h : s.CoreAt c w x t) (hop : cwOp w = op)
    (hexec : exec (i c) s = gate (okCore c) (s.coreOp c op legal f)) (hlegal : legal w x = false) :
    exec (i c) s = .next (t.coreExc c .illegal 0 0) := by
  rw [hexec, h.runsOp hop, if_neg (Bool.eq_false_iff.1 hlegal)]

end

/-! ## Branches and loops -/

/-- Settles O20, by the cases of each instruction. -/
theorem coreBranchesAndLoops : Obligations.CoreBranchesAndLoops := by
  refine ⟨fun s c w x t hat hop hfmt => ⟨fun l r htaken hloops ls hls => ?inLoop,
      fun htaken hloops => ?noLoop, fun hnot => ?notTaken⟩,
    fun s c w x t hat hop hfmt => hat.exec_legal (i := .coreBr) hop rfl hfmt,
    fun s c w x t hat hop hfmt => hat.exec_legal (i := .coreCall) hop rfl hfmt,
    fun s c w x t hat hop => ⟨fun hbad => ?badLoop, fun hfmt hend => ⟨fun hdeep => ?deep,
      fun hroom hzero => ?none, fun hroom hpass => ?start⟩⟩,
    fun s c w x t hat hop hfmt => ?illegal⟩
  case inLoop =>
    rw [hat.exec_legal (i := .coreB) hop rfl hfmt]
    simp only [htaken, hloops, hls, State.coreEnd, if_true, Bool.and_eq_true, decide_eq_true_eq]
  case noLoop =>
    rw [hat.exec_legal (i := .coreB) hop rfl hfmt]
    simp only [htaken, hloops, State.coreEnd, if_true]
  case notTaken =>
    rw [hat.exec_legal (i := .coreB) hop rfl hfmt]
    simp only [hnot]
    rfl
  case badLoop =>
    refine hat.exec_illegal (i := .coreLoop) hop rfl (Bool.eq_false_iff.2 fun hlegal => ?_)
    simp only [Bool.and_eq_true, decide_eq_true_eq] at hlegal
    obtain ⟨hfmt, hend⟩ := hlegal
    rcases hbad with hbad | hbad
    · rw [hfmt] at hbad
      cases hbad
    · omega
  case deep =>
    rw [hat.exec_legal (i := .coreLoop) hop rfl (by rw [hfmt, decide_eq_true hend]; rfl),
      if_pos hdeep]
    rfl
  case none =>
    rw [hat.exec_legal (i := .coreLoop) hop rfl (by rw [hfmt, decide_eq_true hend]; rfl),
      if_neg (by omega)]
    simp only [hzero, if_true]
    rfl
  case start =>
    rw [hat.exec_legal (i := .coreLoop) hop rfl (by rw [hfmt, decide_eq_true hend]; rfl),
      if_neg (by omega)]
    simp only [hpass, if_false]
    rfl
  case illegal =>
    simp only [List.mem_cons, List.not_mem_nil, or_false] at hop
    rcases hop with hop | hop | hop
    · rw [hop]
      exact hat.exec_illegal (i := .coreB) hop rfl hfmt
    · rw [hop]
      exact hat.exec_illegal (i := .coreBr) hop rfl hfmt
    · rw [hop]
      exact hat.exec_illegal (i := .coreCall) hop rfl hfmt

/-! ## Transfers and the end of an item -/

theorem exec_coreDmaDone {c tag : Nat} (hc : c < 16) (htag : tag < 8) (hm : HostMem) (s : State) :
    exec (.coreDmaDone c tag hm) s = .next ((s.see hm).coreDmaDone c tag hm) := by
  have hok : (okCore c && okTag8 tag) = true := by
    rw [Bool.and_eq_true]
    exact ⟨decide_eq_true hc, decide_eq_true htag⟩
  have hexec : exec (.coreDmaDone c tag hm) s =
    gate (okCore c && okTag8 tag) ((s.see hm).coreDmaDone c tag hm) := rfl
  rw [hexec, hok]
  rfl

/-- In SAFE_HOLD a transfer stands (R26). -/
theorem State.coreDmaDone_held {s : State} (h : s.accepting = false) (c tag : Nat) (hm : HostMem) :
    s.coreDmaDone c tag hm = s := by
  rw [State.coreDmaDone, h]
  split <;> rfl

/-- The bytes of a transfer move, and its result waits (R256). -/
theorem State.coreDmaDone_moved {s u : State} {c tag k n : Nat} {d e : DmaTag} {hm : HostMem} {ok : Bool}
    (h : s.accepting = true) (hd : (s.core c).dmaTag? tag = some (k, d))
    (hmove : s.dmaMove c d hm = (n, ok, u)) (hkept : sget (u.core c).dma none k = some e) :
    s.coreDmaDone c tag hm = u.setCore c { u.core c with
      dma := sput (u.core c).dma none k (some { e with done := some (n, ok) }) } := by
  rw [State.coreDmaDone, hd]
  simp only [h, Bool.not_true, Bool.false_eq_true, if_false, hmove, hkept]

/-- Settles O21, by the cases of each instruction. -/
theorem coreTransfersAndItemEnd : Obligations.CoreTransfersAndItemEnd := by
  refine ⟨fun s c w x t hat hop hfmt r rest hstack => ⟨fun hfull => ?full,
      fun tag b u htag hflat hfree hread hgood hsrc hdst => ?started⟩,
    fun s c tag hm k d hc htag hd => ⟨fun hstill => ?held, fun hruns n ok u hmove hkept => ?done⟩,
    fun s c w x t hat hop hfmt r rest hstack =>
      ⟨fun d n ok htag hd => ⟨fun hopen => ?waits, fun hdone => ?result⟩, fun hnone => ?notOwn⟩,
    fun s c w x t hat hop hfmt hflat hfree b u hread => ?submit,
    coreRow_done (fun _ _ => rfl) fun _ _ _ => rfl, coreRow_done (fun _ _ => rfl) fun _ _ _ => rfl,
    fun s c w x t hat hop hfmt hidle => ?itemEnd, fun s c w x t hat hop => ?undefined⟩
  case full =>
    rw [hat.exec_legal (i := .coreDma) hop rfl hfmt]
    simp only [hstack, List.head?_cons, Option.map_some, Option.getD_some, hfull]
    rfl
  case started =>
    rw [hat.exec_legal (i := .coreDma) hop rfl hfmt]
    simp only [hstack, List.head?_cons, Option.map_some, Option.getD_some, htag,
      State.operandRd_open hflat hfree hread, hgood, hsrc, hdst]
    rfl
  case held =>
    rw [exec_coreDmaDone hc htag, State.coreDmaDone_held (s := s.see hm) hstill]
  case done =>
    rw [exec_coreDmaDone hc htag, State.coreDmaDone_moved (s := s.see hm) hruns hd hmove hkept]
  case waits =>
    rw [hat.exec_legal (i := .coreDmaw) hop rfl hfmt]
    simp only [hstack, List.head?_cons, Option.map_some, Option.getD_some, hd, htag, decide_true,
      Option.filter_some, if_true, hopen]
    rfl
  case result =>
    rw [hat.exec_legal (i := .coreDmaw) hop rfl hfmt]
    simp only [hstack, List.head?_cons, Option.map_some, Option.getD_some, hd, htag, decide_true,
      Option.filter_some, if_true, hdone]
    rfl
  case notOwn =>
    have hfilter : (sget (t.core c).dma none (8 * r.item.uid + x.rg (cwA w))).filter
        (fun _ => decide (x.rg (cwA w) < 8)) = none := by
      rcases hnone with hbig | hnone
      · rw [decide_eq_false (Nat.not_lt.2 hbig)]
        exact Option.filter_eq_none_iff.2 fun _ _ => Bool.false_ne_true
      · rw [hnone, Option.filter_none]
    rw [hat.exec_legal (i := .coreDmaw) hop rfl hfmt]
    simp only [hstack, List.head?_cons, Option.map_some, Option.getD_some, hfilter]
    rfl
  case submit =>
    rw [hat.exec_legal (i := .coreSubmit) hop rfl hfmt, State.operandRd_open hflat hfree hread]
    rfl
  case itemEnd =>
    rw [hat.exec_legal (i := .coreEnd) hop rfl hfmt, if_neg (not_not_intro hidle)]
    rfl
  case undefined =>
    have hexec : exec (.undefinedInstruction c) s = gate (okCore c) (s.coUndef c) := rfl
    have hundef : (!coreOps.contains (cwOp w)) = true := by simpa using hop
    rw [hexec, State.coUndef, hat.runs hundef]
    rfl

end Sys2Proof.Machine
end

section
/-! SUPPORT. The bits of little-endian numbers; part of a word of a core's data memory stored. Then what
08_dsp_cores.md has proved of a store: CoreStoreChangesItsBytesOnly. -/

namespace Sys2Proof.Machine

open Sys2Proof

/-! ## Bits of little-endian numbers (R5) -/

/-- Bit i of byte k is bit 8 k + i of the number. -/
theorem testBit_leNat (b : Bytes) (k : Nat) {i : Nat} (hi : i < 8) :
    (leNat b).testBit (8 * k + i) = (nth b 0 k).getLsbD i := by
  induction b generalizing k with
  | nil => simp [leNat, nth]
  | cons x r ih =>
    have hx : x.toNat < 2 ^ 8 := x.isLt
    rw [leNat, Nat.add_comm, show (256 : Nat) = 2 ^ 8 from rfl, Nat.testBit_two_pow_mul_add _ hx]
    cases k with
    | zero =>
      rw [if_pos (by omega), Nat.mul_zero, Nat.zero_add]
      rfl
    | succ k =>
      rw [if_neg (by omega), show 8 * (k + 1) + i - 8 = 8 * k + i by omega, ih]
      rfl

/-- Bit i of byte k of the bytes of a number. -/
theorem getLsbD_toLE (n v : Nat) {k i : Nat} (hk : k < n) (hi : i < 8) :
    (nth (toLE n v) 0 k).getLsbD i = v.testBit (8 * k + i) := by
  rw [← testBit_leNat _ _ hi, leNat_toLE, Nat.testBit_mod_two_pow, decide_eq_true (by omega),
    Bool.true_and]

/-- Bit i of byte k of a stored word. -/
theorem State.testBit_rd32 (s : State) (a : Nat) {k i : Nat} (hk : k < 4) (hi : i < 8) :
    (s.rd32 a).testBit (8 * k + i) = (memGet s.mem (a + k)).getLsbD i := by
  rw [State.rd32, State.rdN, testBit_leNat _ _ hi, State.rdB, nth, List.getElem?_map,
    List.getElem?_range hk, Option.map_some, Option.getD_some]

/-- The mask of some bytes of a word has their bits. -/
theorem testBit_byteMask (lo n k : Nat) {i : Nat} (hi : i < 8) :
    (byteMask lo n).testBit (8 * k + i) = decide (lo ≤ k ∧ k < lo + n) := by
  rw [byteMask, Nat.testBit_shiftLeft, Nat.testBit_two_pow_sub_one, ← Bool.decide_and, decide_eq_decide]
  omega

/-! ## Words of memory -/

namespace State

variable {s t u : State} {a : Nat}

/-- With no injection armed a stored word has a fresh code, and the codes of the others stay. -/
theorem wr32_synd (s : State) (a v : Nat) (h : s.get F.MEM_INJ_MODE = 0) :
    (s.wr32 a v).synd = sput s.synd 0 (a / 4) 0 := by
  have hmark : (s.mark a).regs = s.regs ∧ (s.mark a).synd = s.synd := by
    unfold State.mark
    split <;> exact ⟨rfl, rfl⟩
  have hmode (m y) : ({ s.mark a with mem := m, synd := y } : State).get F.MEM_INJ_MODE = 0 :=
    (State.get_congr_regs F.MEM_INJ_MODE hmark.1).trans h
  simp only [State.wr32, hmode]
  exact congrArg (fun y => sput y 0 (a / 4) 0) hmark.2

/-- A word whose code fits its data reads as it stands, and the read changes nothing. -/
theorem eccRd_clean (h : sget s.synd 0 (a / 4) = 0) (req : Nat) :
    s.eccRd a req = (s.rd32 a, false, s) := by
  rw [eccRd, h]
  rfl

theorem eccRdF_clean (h : sget s.synd 0 (a / 4) = 0) (req : Nat) :
    s.eccRdF a req = (s.rd32 a, false, s) := by
  rw [eccRdF, eccRd_clean h, h]
  rfl

/-- t is s with the bytes b stored from offset o on, each register as it was, and no word spoilt. -/
structure Stored (s : State) (o : Nat) (b : Bytes) (t : State) : Prop where
  regs : t.regs = s.regs
  clean : ∀ k, sget s.synd 0 k = 0 → sget t.synd 0 k = 0
  inside : ∀ i, i < b.length → memGet t.mem (o + i) = nth b 0 i
  outside : ∀ q, q < o ∨ o + b.length ≤ q → memGet t.mem q = memGet s.mem q

theorem Stored.nil (s : State) (o : Nat) : Stored s o [] s :=
  ⟨rfl, fun _ h => h, fun i hi => absurd hi (Nat.not_lt_zero i), fun _ _ => rfl⟩

/-- Bytes stored after one another are the one string stored. -/
theorem Stored.append {o : Nat} {b d : Bytes} (h : Stored s o b t) (k : Stored t (o + b.length) d u) :
    Stored s o (b ++ d) u := by
  refine ⟨k.regs.trans h.regs, fun j hj => k.clean j (h.clean j hj), fun i hi => ?_, fun q hq => ?_⟩
  · rw [List.length_append] at hi
    by_cases hb : i < b.length
    · rw [k.outside _ (.inl (by omega)), h.inside i hb, nth, nth, List.getElem?_append_left hb]
    · have hd := k.inside (i - b.length) (by omega)
      rw [show o + b.length + (i - b.length) = o + i by omega] at hd
      rw [hd, nth, nth, List.getElem?_append_right (by omega)]
  · rw [List.length_append] at hq
    rw [k.outside q (by omega), h.outside q (by omega)]

/-- The bytes of a part of a word taken into the word. -/
def taken (old mask data : Nat) : Nat := (old &&& (mask ^^^ 0xFFFFFFFF)) ||| (data &&& mask)

/-- A bit of a word that takes a part is that of the part inside the mask, else as it was. -/
theorem testBit_taken (old mask data : Nat) {j : Nat} (hj : j < 32) :
    (taken old mask data).testBit j = if mask.testBit j then data.testBit j else old.testBit j := by
  have hones : (0xFFFFFFFF : Nat) = 2 ^ 32 - 1 := rfl
  rw [taken, hones, Nat.testBit_or, Nat.testBit_and, Nat.testBit_and, Nat.testBit_xor,
    Nat.testBit_two_pow_sub_one, decide_eq_true hj]
  cases mask.testBit j <;> simp

/-- Part of a word whose code fits its data goes into the word. -/
theorem mergeWr_clean (h : sget s.synd 0 (a / 4) = 0) {mask data : Nat} (hm : mask ≠ 0)
    (hfit : data < 2 ^ 32) (req : Nat) :
    (s.mergeWr a mask data req).2 = s.wr32 a (taken (s.rd32 a) mask data) := by
  rw [mergeWr, if_neg hm]
  by_cases hall : mask = 0xFFFFFFFF
  · have hdata : taken (s.rd32 a) mask data = data := by
      rw [taken, hall, Nat.xor_self, Nat.and_zero, Nat.zero_or]
      exact (Nat.and_two_pow_sub_one_eq_mod data 32).trans (Nat.mod_eq_of_lt hfit)
    rw [if_pos hall, hdata]
  · rw [if_neg hall, eccRd_clean h]
    rfl

/-- The word at an aligned offset with some of its bytes replaced. -/
theorem stored_wr32_taken {p lo : Nat} {d : Bytes} (hinj : s.get F.MEM_INJ_MODE = 0)
    (hfit : lo + d.length ≤ 4) :
    Stored s (p + lo) d
      (s.wr32 p (taken (s.rd32 p) (byteMask lo d.length) (leNat d <<< (8 * lo)))) := by
  obtain ⟨hregs, hmem⟩ := wr32_frame s p
    (taken (s.rd32 p) (byteMask lo d.length) (leNat d <<< (8 * lo))) hinj
  have hsynd := wr32_synd s p (taken (s.rd32 p) (byteMask lo d.length) (leNat d <<< (8 * lo))) hinj
  generalize hM : taken (s.rd32 p) (byteMask lo d.length) (leNat d <<< (8 * lo)) = M at *
  have hbit {k i : Nat} (hk : k < 4) (hi : i < 8) : (nth (toLE 4 M) 0 k).getLsbD i =
      if lo ≤ k ∧ k < lo + d.length then (nth d 0 (k - lo)).getLsbD i
      else (memGet s.mem (p + k)).getLsbD i := by
    rw [getLsbD_toLE 4 M hk hi, ← hM, testBit_taken _ _ _ (by omega), testBit_byteMask _ _ _ hi,
      testBit_rd32 s p hk hi]
    by_cases hin : lo ≤ k ∧ k < lo + d.length
    · rw [if_pos (decide_eq_true hin), if_pos hin, Nat.testBit_shiftLeft, decide_eq_true (by omega),
        show 8 * k + i - 8 * lo = 8 * (k - lo) + i by omega, testBit_leNat _ _ hi, Bool.true_and]
    · rw [if_neg (by simpa using hin), if_neg hin]
  have hword {k : Nat} (hk : k < 4) : memGet (s.wr32 p M).mem (p + k) = nth (toLE 4 M) 0 k := by
    rw [hmem]
    exact memGet_memPuts_in _ _ _ _ (by rwa [length_toLE])
  refine ⟨hregs, fun j hj => ?_, fun i hi => ?_, fun q hq => ?_⟩
  · rw [hsynd]
    by_cases h : j = p / 4
    · rw [h, sget_sput_same]
    · rw [sget_sput_ne _ _ _ _ h, hj]
  · rw [Nat.add_assoc, hword (by omega)]
    refine BitVec.eq_of_getLsbD_eq fun j hj => ?_
    rw [hbit (by omega) hj, if_pos (by omega), Nat.add_sub_cancel_left]
  · by_cases h : q < p ∨ p + 4 ≤ q
    · rw [hmem]
      exact memGet_memPuts_out _ _ _ _ (by rwa [length_toLE])
    · obtain ⟨k, rfl⟩ : ∃ k, q = p + k := ⟨q - p, by omega⟩
      rw [hword (by omega)]
      refine BitVec.eq_of_getLsbD_eq fun j hj => ?_
      rw [hbit (by omega) hj, if_neg (by omega)]

/-! ## Stores to a core's data memory (R241) -/

/-- The cell table and the dead-time table lie in shared SRAM. -/
theorem notTable_above_sram (s : State) (h : 0x02000000 ≤ a) : s.inCt a = false ∧ s.inDt a = false := by
  have hct : s.get F.MOD_CT_BASE_BASE < 2 ^ 5 := get_lt s F.MOD_CT_BASE_BASE
  have hdt : s.get F.MOD_DT_BASE_BASE < 2 ^ 9 := get_lt s F.MOD_DT_BASE_BASE
  rw [inCt, inDt, ctAt, ctAt, dtAt, dtAt, sramBase]
  constructor <;>
  · rw [Bool.and_eq_false_iff, decide_eq_false_iff_not, decide_eq_false_iff_not]
    omega

/-- The offset lies in the data memory of a core. -/
abbrev InCores (a : Nat) : Prop := 0x02000000 ≤ a ∧ a < 0x02400000

theorem memClass_cores (h : InCores a) : memClass a = some 1 := by
  rw [memClass, if_neg, if_pos]
  · simpa using h
  · simp
    omega

/-- A core's word write in a data memory is a part taken by the word. -/
theorem coreWrWord_cores (h : InCores a) (c mask v : Nat) :
    s.coreWrWord c a mask v = (s.mergeWr a mask v c).2 := by
  obtain ⟨hct, hdt⟩ := notTable_above_sram s h.1
  rw [coreWrWord, if_neg (by omega), hct, hdt, memClass_cores h]
  rfl

theorem leNat_lt (b : Bytes) : leNat b < 2 ^ (8 * b.length) := by
  induction b with
  | nil => exact Nat.one_pos
  | cons x r ih =>
    have hx : x.toNat < 256 := x.isLt
    rw [leNat, List.length_cons, Nat.mul_succ, Nat.pow_add]
    omega

/-- One word of a store, where its code fits its data. -/
theorem stored_coreWrWord {o : Nat} {d : Bytes} (h : InCores (o / 4 * 4))
    (hinj : s.get F.MEM_INJ_MODE = 0) (hclean : sget s.synd 0 (o / 4) = 0) (hd : d ≠ [])
    (hfit : o % 4 + d.length ≤ 4) (c : Nat) :
    Stored s o d (s.coreWrWord c (o / 4 * 4) (byteMask (o % 4) d.length)
      (leNat d <<< (8 * (o % 4)))) := by
  have hlen : 0 < d.length := List.length_pos_iff.2 hd
  have hmask : byteMask (o % 4) d.length ≠ 0 := by
    intro h0
    have hbit := testBit_byteMask (o % 4) d.length (o % 4) (i := 0) (by decide)
    rw [h0, Nat.zero_testBit, eq_comm, decide_eq_false_iff_not] at hbit
    omega
  have hdata : leNat d <<< (8 * (o % 4)) < 2 ^ 32 := by
    rw [Nat.shiftLeft_eq]
    calc leNat d * 2 ^ (8 * (o % 4)) < 2 ^ (8 * d.length) * 2 ^ (8 * (o % 4)) :=
          Nat.mul_lt_mul_of_pos_right (leNat_lt d) (Nat.two_pow_pos _)
      _ = 2 ^ (8 * d.length + 8 * (o % 4)) := (Nat.pow_add 2 _ _).symm
      _ ≤ 2 ^ 32 := Nat.pow_le_pow_right (by decide) (by omega)
  have hword : o / 4 * 4 / 4 = o / 4 := Nat.mul_div_cancel _ (by decide)
  rw [coreWrWord_cores h, mergeWr_clean (by rwa [hword]) hmask hdata]
  have hstored := stored_wr32_taken (p := o / 4 * 4) hinj hfit
  rwa [Nat.div_add_mod'] at hstored

/-- The words of a store of bytes that lie in a core's data memory, one after another. -/
theorem stored_storeWords (c : Nat) {fuel o : Nat} {b : Bytes} (hfuel : b.length < fuel)
    (hlo : 0x02000000 ≤ o) (hhi : o + b.length ≤ 0x02400000) (hinj : s.get F.MEM_INJ_MODE = 0)
    (hclean : ∀ i, i < b.length → sget s.synd 0 ((o + i) / 4) = 0) :
    Stored s o b ((storeWords fuel o b).foldl (fun t w => t.coreWrWord c w.1 w.2.1 w.2.2) s) := by
  induction fuel generalizing s o b with
  | zero => exact absurd hfuel (Nat.not_lt_zero _)
  | succ fuel ih =>
    rw [storeWords]
    by_cases hb : b = []
    · rw [hb]
      exact .nil s o
    · have hlen : 0 < b.length := List.length_pos_iff.2 hb
      rw [if_neg (by simpa using hb)]
      extract_lets n
      have hmin : 0 < n ∧ n ≤ b.length ∧ o % 4 + n ≤ 4 := by omega
      have hn : (b.take n).length = n := List.length_take_of_le hmin.2.1
      have hsplit : b.take n ++ b.drop n = b := List.take_append_drop n b
      clear_value n
      have hrest : (b.drop n).length = b.length - n := List.length_drop
      generalize b.take n = d at hn hsplit ⊢
      generalize b.drop n = r at hrest hsplit ⊢
      subst hn
      have hword := stored_coreWrWord (o := o) (d := d) ⟨by omega, by omega⟩ hinj (hclean 0 hlen)
        (List.length_pos_iff.1 hmin.1) hmin.2.2 c
      have hinj' := (get_congr_regs F.MEM_INJ_MODE hword.regs).trans hinj
      have htail := ih (o := o + d.length) (b := r) (by omega) (by omega) (by omega) hinj'
        (fun i hi => hword.clean _ (by rw [Nat.add_assoc]; exact hclean _ (by omega)))
      rw [List.foldl_cons, ← hsplit]
      exact hword.append htail

/-- Each word of a store holds one of its bytes. -/
theorem mem_storeWords {fuel o : Nat} {b : Bytes} {w : Nat × Nat × Nat} (h : w ∈ storeWords fuel o b) :
    ∃ i, i < b.length ∧ w.1 = (o + i) / 4 * 4 := by
  induction fuel generalizing o b with
  | zero => cases h
  | succ fuel ih =>
    rw [storeWords] at h
    split at h
    · cases h
    next hb =>
      have hlen : 0 < b.length := List.length_pos_iff.2 (by simpa using hb)
      rcases List.mem_cons.1 h with rfl | h
      · exact ⟨0, hlen, rfl⟩
      · obtain ⟨i, hi, hw⟩ := ih h
        rw [List.length_drop] at hi
        exact ⟨min b.length (4 - o % 4) + i, by omega, by rw [hw, Nat.add_assoc]⟩

/-- The read of a word whose code fits its data finds no bad one and changes nothing (R364). -/
theorem partRead_clean {p : Nat} (h : sget s.synd 0 (p / 4) = 0) (c mask : Nat) :
    s.partRead c p mask = (false, s) := by
  rw [partRead, eccRdF_clean h]
  split <;> rfl

/-- Steps that leave the value as it is leave it so together. -/
theorem foldl_fixed_of_mem {α β : Type} {f : α → β → α} {x : α} {l : List β} (h : ∀ w ∈ l, f x w = x) :
    l.foldl f x = x := by
  induction l with
  | nil => rfl
  | cons w r ih =>
    rw [List.foldl_cons, h w (List.mem_cons_self ..)]
    exact ih fun v hv => h v (List.mem_cons_of_mem w hv)

/-- A store whose words all have codes that fit their data is performed whole (R364). -/
theorem coreStore_clean {ws : List (Nat × Nat × Nat)} (h : ∀ w ∈ ws, sget s.synd 0 (w.1 / 4) = 0)
    (c : Nat) :
    s.coreStore c ws = (false, ws.foldl (fun t w => t.coreWrWord c w.1 w.2.1 w.2.2) s) := by
  -- The read is written as the fold writes it: to compare two spellings under the step's match the
  -- kernel would evaluate the read.
  have hread : ∀ w ∈ ws, ((false, s) : Bool × State).2.partRead c w.1 w.2.1 = (false, s) :=
    fun w hw => partRead_clean (h w hw) c _
  unfold coreStore
  split
  next bad t hfold =>
    rw [foldl_fixed_of_mem] at hfold
    · obtain ⟨rfl, rfl⟩ := Prod.mk.inj hfold
      rw [if_neg Bool.false_ne_true]
    · intro w hw
      rw [hread w hw]
      rfl

end State

/-- An address of the own data memory in the BAR0 map. -/
theorem coreOfs_own {c x : Nat} (hlo : 0x40000000 ≤ x) (hhi : x < 0x40040000) :
    coreOfs c x = dataBase c + (x - 0x40000000) := by
  have hown : inOwn x = true := by
    rw [inOwn, ownBase, Bool.and_eq_true]
    exact ⟨decide_eq_true hlo, decide_eq_true (by omega)⟩
  rw [coreOfs, if_pos hown, ownBase]

/-- Settles O14: no word is read bad, and the words of the store take its bytes one after another. -/
theorem coreStoreChangesItsBytesOnly : Obligations.CoreStoreChangesItsBytesOnly := by
  intro s c a b hc hb _ hlo hhi hinj hclean
  have hlen : 0 < b.length := List.length_pos_iff.2 hb
  have hruns : storeRuns c [(a, b.length)] b = storeWords (b.length + 1) (coreOfs c a) b := by
    rw [storeRuns, storeRuns, List.append_nil, List.take_length]
  have hofs := coreOfs_own (c := c) hlo (by omega)
  have hbase : dataBase c = 0x02000000 + 0x40000 * c := rfl
  have hstored := State.stored_storeWords c (Nat.lt_succ_self b.length) (o := coreOfs c a)
    (by omega) (by omega) hinj hclean
  have hwords : ∀ w ∈ storeWords (b.length + 1) (coreOfs c a) b, sget s.synd 0 (w.1 / 4) = 0 := by
    intro w hw
    obtain ⟨i, hi, hofs⟩ := State.mem_storeWords hw
    rw [hofs, Nat.mul_div_cancel _ (by decide)]
    exact hclean i hi
  rw [hruns, State.coreStore_clean hwords]
  rw [hofs] at hstored ⊢
  exact ⟨_, rfl, hstored.regs, hstored.inside, hstored.outside⟩

end Sys2Proof.Machine
end

section
/-! SUPPORT. What completions, fault records and corrected words leave of the cores, of the scheduler and
of memory. Then what 08_dsp_cores.md has proved of exceptions: CoreExceptionEndsItem. -/

namespace Sys2Proof.Machine

open Sys2Proof

/-- A word of which every byte is the same reads the same. -/
theorem State.rd32_congr {s t : State} {a : Nat}
    (h : ∀ k, k < 4 → memGet t.mem (a + k) = memGet s.mem (a + k)) : t.rd32 a = s.rd32 a := by
  rw [State.rd32, State.rd32, State.rdN, State.rdN, State.rdB, State.rdB,
    List.map_congr_left fun k hk => h k (List.mem_range.1 hk)]

/-! ## What completions leave alone -/

/-- t stands at the time of s, with its cores, its queues and spill rings, and every byte of memory at
an offset that P names. -/
structure State.Apart (P : Nat → Prop) (s t : State) : Prop where
  time : t.time = s.time
  cores : t.cores = s.cores
  queues : t.sched.queues = s.sched.queues
  spills : t.sched.spills = s.sched.spills
  mem : ∀ q, P q → memGet t.mem q = memGet s.mem q

namespace State

variable {P : Nat → Prop} {s t u : State}

namespace Apart

theorem refl (P : Nat → Prop) (s : State) : Apart P s s := ⟨rfl, rfl, rfl, rfl, fun _ _ => rfl⟩

theorem trans (h : Apart P s t) (k : Apart P t u) : Apart P s u :=
  ⟨k.time.trans h.time, k.cores.trans h.cores, k.queues.trans h.queues, k.spills.trans h.spills,
    fun q hq => (k.mem q hq).trans (h.mem q hq)⟩

/-- What shares the time, the cores, the scheduler and memory stands as well. -/
theorem same (h : Apart P s t) (ht : u.time = t.time) (hc : u.cores = t.cores) (hs : u.sched = t.sched)
    (hm : u.mem = t.mem) : Apart P s u :=
  h.trans ⟨ht, hc, by rw [hs], by rw [hs], fun _ _ => by rw [hm]⟩

/-- No register is among what stands. -/
theorem set (h : Apart P s t) (f : Fld) (v : Nat) : Apart P s (t.set f v) := h.same rfl rfl rfl rfl

theorem when (h : Apart P s t) {c : Bool} {f : State → State} (hf : Apart P t (f t)) :
    Apart P s (t.when c f) :=
  when_of t c f (Apart P s) h (h.trans hf)

theorem ite {c : Prop} [Decidable c] (ht : Apart P s t) (hu : Apart P s u) :
    Apart P s (if c then t else u) := by
  split
  · exact ht
  · exact hu

theorem foldl {α : Type} {f : State → α → State} (l : List α) (hf : ∀ t x, Apart P t (f t x))
    (h : Apart P s t) : Apart P s (l.foldl f t) := by
  induction l generalizing t with
  | nil => exact h
  | cons x r ih => exact ih (h.trans (hf t x))

theorem core (h : Apart P s t) (c : Nat) : t.core c = s.core c := by rw [State.core, State.core, h.cores]

theorem queue (h : Apart P s t) (l : Nat) : t.queue l = s.queue l := by
  rw [State.queue, State.queue, h.queues]

theorem spill (h : Apart P s t) (l : Nat) : t.spill l = s.spill l := by
  rw [State.spill, State.spill, h.spills]

end Apart

/-! ### Messages, events, fault records -/

theorem msi_apart (s : State) (v : Nat) : Apart P s (s.msi v) :=
  .ite (.same (.refl P s) rfl rfl rfl rfl) (.ite (.refl P s) (.same (.refl P s) rfl rfl rfl rfl))

theorem evt_apart (s : State) (e : Evt) : Apart P s (s.evt e) := by
  have hset := (Apart.refl P s).set R.HOST_EVT_CAUSE (setBit (s.word R.HOST_EVT_CAUSE) e.bit true)
  exact .ite (hset.trans (msi_apart _ _)) hset

theorem faultRec_apart (s : State) (kind cls req detail addr aux : Nat) :
    Apart P s (s.faultRec kind cls req detail addr aux) := by
  unfold faultRec
  extract_lets e s1 s2 s3 s4 s5 s6 s7
  have hovf : Apart P s s1 := .when (.refl P s) (.set (.refl P s) _ _)
  have hrec : Apart P s s6 := (((((hovf.set _ _).set _ _).set _ _).set _ _).set _ _).set _ _
  clear_value s6
  refine .trans ?_ (evt_apart _ _)
  exact hrec.same rfl rfl rfl rfl

theorem orFree_apart (s : State) (w : Nat) (o : Option Nat) : Apart P s (s.orFree w o).2 := by
  cases o <;> exact .same (.refl P s) rfl rfl rfl rfl

theorem faultLog_apart (s : State) (kind : Nat) (cls req detail addr aux : Option Nat) :
    Apart P s (s.faultLog kind cls req detail addr aux) :=
  ((((orFree_apart s 3 cls).trans (orFree_apart _ 8 req)).trans (orFree_apart _ 8 detail)).trans
    (orFree_apart _ 32 addr)).trans ((orFree_apart _ 32 aux).trans (faultRec_apart _ _ _ _ _ _ _))

/-! ### Memory -/

theorem ceCount_apart (s : State) (cls : Nat) : Apart P s (s.ceCount cls) := by
  unfold ceCount
  extract_lets s1 n m s2 lim m' s3
  have hwin : Apart P s s2 := .same (.refl P s) rfl rfl rfl rfl
  clear_value s2
  refine .ite (.trans (.set ?_ _ _) (faultLog_apart _ _ _ _ _ _ _)) hwin
  exact hwin.same rfl rfl rfl rfl

theorem faultAddr_apart (s : State) (x : Nat) : Apart P s (s.faultAddr x).2 := by
  unfold faultAddr
  split <;> exact .same (.refl P s) rfl rfl rfl rfl

theorem poisonLog_apart (s : State) (x req : Nat) : Apart P s (s.poisonLog x req) := by
  unfold poisonLog
  exact (faultAddr_apart s x).trans (faultLog_apart _ _ _ _ _ _ _)

/-- Bytes put into memory leave those outside them. -/
theorem Apart.put (h : Apart P s t) {x : Nat} {b : Bytes} (hx : ∀ q, P q → q < x ∨ x + b.length ≤ q)
    (y : Sparse Nat) : Apart P s { t with mem := memPuts t.mem x b, synd := y } :=
  h.trans ⟨rfl, rfl, rfl, rfl, fun q hq => memGet_memPuts_out b _ _ _ (hx q hq)⟩

section
variable {x : Nat} (hx : ∀ q, P q → q < x ∨ x + 4 ≤ q)
include hx

/-- A contained read writes the word it corrects, and no other. -/
theorem eccRd_apart (s : State) (req : Nat) : Apart P s (s.eccRd x req).2.2 := by
  unfold eccRd
  extract_lets d y cls
  split
  case h_1 => exact .refl P s
  case h_2 =>
    dsimp only
    refine .trans ?_ (ceCount_apart _ _)
    exact .put (.refl P s) (by simpa using hx) _
  case h_3 =>
    dsimp only
    refine .trans ?_ (ceCount_apart _ _)
    exact .same (.refl P s) rfl rfl rfl rfl
  case h_4 => exact .set (.refl P s) _ _
  case h_5 =>
    rename_i s1 s2 _ _
    have hpoison : Apart P s s1 := .same (.refl P s) rfl rfl rfl rfl
    have hnote : Apart P s s2 := hpoison.when (.same (.refl P s1) rfl rfl rfl rfl)
    have haddr := hnote.trans (faultAddr_apart s2 x)
    rcases hf : s2.faultAddr x with ⟨p, s3⟩
    simp only [hf] at haddr ⊢
    refine .trans (.set ?_ _ _) (faultLog_apart _ _ _ _ _ _ _)
    exact haddr.same rfl rfl rfl rfl

theorem eccRdF_apart (s : State) (req : Nat) : Apart P s (s.eccRdF x req).2.2 := by
  rw [eccRdF_state]
  exact .when (eccRd_apart hx s req) (poisonLog_apart _ _ _)

theorem wr32_apart (s : State) (v : Nat) : Apart P s (s.wr32 x v) := by
  have hmark : Apart P s (s.mark x) := by
    unfold mark
    split <;> exact .same (.refl P s) rfl rfl rfl rfl
  have hlen (n : Nat) : ∀ q, P q → q < x ∨ x + (toLE 4 n).length ≤ q := by simpa using hx
  exact .ite (.set ((hmark.put (hlen _) _).put (hlen _) _) _ _) (hmark.put (hlen _) _)

end

theorem eccRds_apart (n : Nat) (s : State) (x req : Nat) :
    Apart (fun _ => False) s (s.eccRds x req n).2.2 := by
  induction n generalizing s x with
  | zero => exact .refl _ s
  | succ n ih =>
    have hrd : Apart (fun _ => False) s (s.eccRdF x req).2.2 := eccRdF_apart (fun _ h => h.elim) s req
    unfold eccRds
    simp only
    split
    · exact hrd
    · exact hrd.trans (ih _ _)

theorem wrWords_apart {x : Nat} {l : List Nat} (hx : ∀ q, P q → q < x ∨ x + 4 * l.length ≤ q)
    (s : State) : Apart P s (s.wrWords x l) := by
  induction l generalizing s x with
  | nil => exact .refl P s
  | cons v r ih =>
    rw [List.length_cons] at hx
    exact (wr32_apart (fun q hq => by have := hx q hq; omega) s v).trans
      (ih (fun q hq => by have := hx q hq; omega) _)

/-! ### Completions of ring descriptors -/

theorem xfault_apart (s : State) (k : XFault) (write : Bool) (req iova : Nat) :
    Apart P s (s.xfault k write req iova) := by
  unfold xfault
  refine .trans (.set (.ite (.refl P s) ?_) _ _) (faultLog_apart _ _ _ _ _ _ _)
  exact .same (.refl P s) rfl rfl rfl rfl

theorem walk_apart (s : State) (hm : HostMem) (x : Nat) : Apart P s (s.walk hm x).2 := by
  have hmiss : Apart P s (s.inc R.IOMMU_CNT_MISS) := .set (.refl P s) _ _
  unfold walk
  extract_lets page s1 span dirAt de dir
  split
  · exact .refl P s
  have hdir : Apart P s dir.2 := by
    unfold dir
    split
    · exact hmiss
    · split
      · exact hmiss
      · split
        · exact hmiss
        · split
          · exact hmiss
          · exact hmiss.same rfl rfl rfl rfl
  clear_value dir
  obtain ⟨_ | de', s2⟩ := dir
  · exact hdir
  · dsimp only
    split
    · exact hdir
    · split
      · exact hdir
      · split
        · exact hdir
        · exact hdir.same rfl rfl rfl rfl

theorem xlate_apart (s : State) (hm : HostMem) (write : Bool) (req x : Nat) :
    Apart P s (s.xlate hm write req x).2 := by
  have hwalk : Apart P s (s.walk hm x).2 := walk_apart s hm x
  unfold xlate
  split
  · exact .refl P s
  split
  · exact xfault_apart _ _ _ _ _
  split
  next hw =>
    rw [hw] at hwalk
    exact hwalk.trans (xfault_apart _ _ _ _ _)
  next hw =>
    rw [hw] at hwalk
    split
    · exact hwalk
    · exact hwalk.trans (xfault_apart _ _ _ _ _)

theorem hostWr_apart (fuel : Nat) (s : State) (hm : HostMem) (req x : Nat) (d : Bytes) :
    Apart P s (s.hostWr hm req fuel x d).2.2 := by
  induction fuel generalizing s x d with
  | zero => exact .refl P s
  | succ fuel ih =>
    unfold hostWr
    split
    · exact .refl P s
    extract_lets n
    have hx : Apart P s (s.xlate hm true req x).2 := xlate_apart s hm true req x
    split
    next hf => rwa [hf] at hx
    next b s1 hf =>
      rw [hf] at hx
      exact .trans (t := s1.emit (.host b (d.take n))) (hx.same rfl rfl rfl rfl) (ih _ _ _)

theorem setRing_apart (s : State) (r : Nat) (x : RingS) : Apart P s (s.setRing r x) :=
  .same (.refl P s) rfl rfl rfl rfl

theorem ringIrq_apart (s : State) (r : Nat) : Apart P s (s.ringIrq r) :=
  .ite (msi_apart _ _) (.ite (.trans (setRing_apart _ _ _) (msi_apart _ _)) (setRing_apart _ _ _))

theorem cplWrite_apart (s : State) (r : Nat) (c : Cpl) : Apart P s (s.cplWrite r c) := by
  unfold cplWrite
  extract_lets area
  have hwr : Apart P s (s.hostWr s.iommu.view (ringReq r) 2 (s.slotAt r c.idx + 48) area).2.2 :=
    hostWr_apart 2 s s.iommu.view (ringReq r) (s.slotAt r c.idx + 48) area
  rcases hf : s.hostWr s.iommu.view (ringReq r) 2 (s.slotAt r c.idx + 48) area with ⟨n, ok, s1⟩
  rw [hf] at hwr
  dsimp only
  have hdone (x : RingS) (ci : Nat) :
      Apart P s ((((s1.setRing r x).set (R.HOST_RING_CI r) ci).ringCounts r).when c.irq
        (·.ringIrq r)) := by
    refine .when (.set (.set (.set ?_ _ _) _ _) _ _) (ringIrq_apart _ _)
    exact hwr.trans (setRing_apart _ _ _)
  exact .ite (.set (.set (hdone _ _) _ _) _ _) (hdone _ _)

theorem cplRelease_apart (fuel : Nat) (s : State) (r : Nat) : Apart P s (s.cplRelease r fuel) := by
  induction fuel generalizing s with
  | zero => exact .refl P s
  | succ fuel ih =>
    unfold cplRelease
    split
    · exact .refl P s
    · exact .trans (.trans (setRing_apart _ _ _) (cplWrite_apart _ _ _)) (ih _)

theorem complete_apart (s : State) (r idx status result flags : Nat) :
    Apart P s (s.complete r idx status result flags) := by
  unfold complete
  split
  · exact .refl P s
  · exact .ite (setRing_apart _ _ _) (.ite (setRing_apart _ _ _)
      ((cplWrite_apart s r _).trans (cplRelease_apart _ _ _)))

/-! ### Completions of items -/

/-- The offsets above shared SRAM, where the cores' memories begin (R226). -/
abbrev AboveSram (q : Nat) : Prop := 0x02000000 ≤ q

/-- A completion record has four words (R289). -/
theorem length_wordsOf_itemRecord (tag src status result pidx flags : Nat) :
    (wordsOf (itemRecord tag src status result pidx flags)).length = 4 := by
  simp [wordsOf, itemRecord]

/-- The default completion queue lies in shared SRAM (R291). -/
theorem cqPut_apart (s : State) {rcd : Bytes} (h : (wordsOf rcd).length = 4) :
    Apart AboveSram s (s.cqPut rcd) := by
  have hbase : s.get F.SCHED_CQ_BASE_BASE < 2 ^ 8 := get_lt s F.SCHED_CQ_BASE_BASE
  have hpi : s.get F.SCHED_CQ_PI_INDEX < 2 ^ 12 := get_lt s F.SCHED_CQ_PI_INDEX
  unfold cqPut
  split
  · exact .set (.set (.refl _ s) _ _) _ _
  · extract_lets pi s1 s2
    have hrec : Apart AboveSram s s1 := by
      refine wrWords_apart (fun q hq => .inr ?_) s
      rw [h, sramBase]
      omega
    exact hrec.trans ⟨rfl, rfl, rfl, rfl, fun _ _ => rfl⟩

/-- A record goes to host memory, or to a place in shared SRAM (R289). -/
theorem itemReport_apart (s : State) (i : Item) (status result flags : Nat) :
    Apart AboveSram s (s.itemReport i status result flags) := by
  unfold itemReport
  split
  · exact complete_apart _ _ _ _ _ _
  extract_lets rcd
  have hlen : (wordsOf rcd).length = 4 := length_wordsOf_itemRecord _ _ _ _ _ _
  split
  next hok =>
    refine wrWords_apart (fun q hq => .inr ?_) s
    simp only [cplOk, Bool.and_eq_true, decide_eq_true_eq] at hok
    rw [sramBase, sramSize] at hok
    rw [hlen]
    omega
  next => exact cqPut_apart s hlen

theorem itemDone_apart (s : State) (i : Item) (status result : Nat) (core : Option Nat) :
    Apart AboveSram s (s.itemDone i status result core) :=
  .set (.trans (.set (.refl _ s) _ _) (itemReport_apart _ _ _ _ _)) _ _

theorem itemsDone_apart (l : List Item) (s : State) (status : Nat) :
    Apart AboveSram s (s.itemsDone status l) := by
  induction l generalizing s with
  | nil => exact .refl _ s
  | cons i r ih => exact (itemDone_apart s i status 0 none).trans (ih _)

theorem coreStat_apart (s : State) (c : Nat) : Apart P s (s.coreStat c) := by
  unfold coreStat
  split <;> exact .same (.refl P s) rfl rfl rfl rfl

end State

/-! ## Cores and queues -/

namespace State

variable {s t u : State}

@[simp] theorem core_setCore_same (s : State) (c : Nat) (x : CoreS) : (s.setCore c x).core c = x :=
  sget_sput_same ..

@[simp] theorem queue_setQueue_same (s : State) (l : Nat) (x : List Item) : (s.setQueue l x).queue l = x :=
  sget_sput_same ..

theorem queue_setQueue_ne (s : State) {l m : Nat} (h : m ≠ l) (x : List Item) :
    (s.setQueue l x).queue m = s.queue m :=
  sget_sput_ne _ _ _ _ h

@[simp] theorem time_setQueue (s : State) (l : Nat) (x : List Item) : (s.setQueue l x).time = s.time := by
  rw [setQueue, set_time, set_time]

@[simp] theorem core_setQueue (s : State) (l c : Nat) (x : List Item) :
    (s.setQueue l x).core c = s.core c := by
  rw [setQueue, core, set_cores, set_cores, core]

@[simp] theorem spill_setQueue (s : State) (l m : Nat) (x : List Item) :
    (s.setQueue l x).spill m = s.spill m := by
  rw [setQueue, spill, set_sched, set_sched, spill]

@[simp] theorem spill_setSpill_same (s : State) (l : Nat) (x : List Item) : (s.setSpill l x).spill l = x :=
  sget_sput_same ..

theorem spill_setSpill_ne (s : State) {l m : Nat} (h : m ≠ l) (x : List Item) :
    (s.setSpill l x).spill m = s.spill m :=
  sget_sput_ne _ _ _ _ h

@[simp] theorem queue_setSpill (s : State) (l m : Nat) (x : List Item) :
    (s.setSpill l x).queue m = s.queue m := by
  rw [setSpill, queue, set_sched, set_sched, queue]

/-! ## The end of an item by an exception (R262, R265) -/

theorem evt_inj (s : State) (e : Evt) : Keeps F.MEM_INJ_MODE.addr s (s.evt e) := by
  have hset : Keeps F.MEM_INJ_MODE.addr s
      (s.set R.HOST_EVT_CAUSE (setBit (s.word R.HOST_EVT_CAUSE) e.bit true)) := .set (.refl _ s) (by decide)
  exact .ite (hset.trans (msi_keeps _ _)) hset

/-- A fault record leaves the error injection as it is armed. -/
theorem faultRec_inj (s : State) (kind cls req detail addr aux : Nat) :
    Keeps F.MEM_INJ_MODE.addr s (s.faultRec kind cls req detail addr aux) := by
  have hlog (e k : Nat) : (R.MEM_FLOG e k).addr ≠ F.MEM_INJ_MODE.addr := by
    show 0xe0400 + 0x10 * e + 0x4 * k ≠ 0xe0018
    omega
  unfold faultRec
  extract_lets e s1 s2 s3 s4 s5 s6 s7
  have hovf : Keeps F.MEM_INJ_MODE.addr s s1 := .when (.refl _ s) (.set (.refl _ s) (by decide))
  have hwords : Keeps F.MEM_INJ_MODE.addr s s5 :=
    (((hovf.set (hlog e 0)).set (hlog e 1)).set (hlog e 2)).set (hlog e 3)
  have hidx : Keeps F.MEM_INJ_MODE.addr s s6 := (hwords.set (by decide)).set (by decide)
  clear_value s6
  refine .trans ?_ (evt_inj _ _)
  exact hidx.same rfl rfl

theorem faultLog_inj (s : State) (kind : Nat) (cls req detail addr aux : Option Nat) :
    Keeps F.MEM_INJ_MODE.addr s (s.faultLog kind cls req detail addr aux) :=
  ((((orFree_keeps s 3 cls).trans (orFree_keeps _ 8 req)).trans (orFree_keeps _ 8 detail)).trans
    (orFree_keeps _ 32 addr)).trans ((orFree_keeps _ 32 aux).trans (faultRec_inj _ _ _ _ _ _ _))

theorem dmaCancel_inj (s : State) (c uid : Nat) : Keeps F.MEM_INJ_MODE.addr s (s.dmaCancel c uid) := by
  refine .foldl _ (fun t p _ => ?_) (.refl _ s)
  split
  · exact .ite (faultLog_inj _ _ _ _ _ _ _) (.refl _ t)
  · exact .refl _ t

/-- A transfer that stops leaves a fault record and nothing else. -/
theorem dmaCancel_apart {P : Nat → Prop} (s : State) (c uid : Nat) : Apart P s (s.dmaCancel c uid) := by
  refine .foldl _ (fun t p => ?_) (.refl P s)
  split
  · exact .ite (faultLog_apart _ _ _ _ _ _ _) (.refl P t)
  · exact .refl P t

/-- With no injection armed, each of the words stored reads back. -/
theorem rd32_wrWords (h : s.get F.MEM_INJ_MODE = 0) {a k v : Nat} {l : List Nat} (hk : l[k]? = some v) :
    (s.wrWords a l).rd32 (a + 4 * k) = v % 2 ^ 32 := by
  induction l generalizing s a k with
  | nil => cases hk
  | cons w r ih =>
    obtain ⟨hregs, hmem⟩ := wr32_frame s a w h
    rw [wrWords]
    cases k with
    | zero =>
      obtain rfl : w = v := Option.some.inj hk
      have hrest : Apart (· < a + 4) (s.wr32 a w) ((s.wr32 a w).wrWords (a + 4) r) :=
        wrWords_apart (fun q hq => .inl hq) _
      rw [show a + 4 * 0 = a from rfl, rd32_congr fun k hk => hrest.mem _ (Nat.add_lt_add_left hk a)]
      exact rd32_of_mem _ _ _ _ hmem
    | succ k =>
      have hrest := ih (s := s.wr32 a w) ((get_congr_regs _ hregs).trans h) (a := a + 4) hk
      rwa [show a + 4 + 4 * k = a + 4 * (k + 1) by omega] at hrest

/-- The last item of a core leaves it without one, and the memories above shared SRAM as they are. -/
theorem itemEnd_last {c : Nat} {r : Running} (h : (s.core c).stack = [r]) (status result : Nat) :
    ((s.itemEnd c status result).core c).stack = [] ∧
      ((s.itemEnd c status result).core c).excs = (s.core c).excs ∧
      ∀ q, AboveSram q → memGet (s.itemEnd c status result).mem q = memGet s.mem q := by
  unfold itemEnd
  simp only [h]
  generalize hdma : List.filter _ (s.core c).dma = dma
  have hdone := itemDone_apart (s.setCore c { s.core c with
    stack := [], phase := .run, dma := dma, items := (s.core c).items + 1 }) r.item status result (some c)
  have hcore := hdone.core c
  rw [core_setCore_same] at hcore
  unfold afterItem
  simp only [hcore]
  have hstat := hdone.trans (coreStat_apart _ c)
  refine ⟨?_, ?_, hstat.mem⟩
  · rw [hstat.core, core_setCore_same]
  · rw [hstat.core, core_setCore_same]

/-- The part with the transfers of core c's item stopped and its exception counted (R262). -/
def excCounted (s : State) (c : Nat) (r : Running) : State :=
  let t := s.dmaCancel c r.item.uid
  t.setCore c { t.core c with excs := satInc 32 (t.core c).excs }

/-- The words of an exception record (R265). -/
def excWords (s : State) (c : Nat) (e : Exc) (opnd addr : Nat) (r : Running) : List Nat :=
  [e.code + 0x100 * opnd, r.ctx.pc % 65536, addr, s.itemAddr c, s.pidx32, (s.core c).excs, 0, 0]

/-- An exception ends the item once its record is written, and its fault record where it has one. -/
theorem coreExc_eq {c : Nat} {r : Running} {rest : List Running} (h : (s.core c).stack = r :: rest)
    (e : Exc) (opnd addr : Nat) :
    s.coreExc c e opnd addr = (((s.excCounted c r).wrWords (dataBase c + 0x3DC00)
      ((s.excCounted c r).excWords c e opnd addr r)).when (e ≠ .decc && e ≠ .iecc) (·.faultLog 0x06 none c
        e.code (if opnd = 0 then none else some (coreOfs c addr)) none)).itemEnd c e.status 0 := by
  rw [coreExc, h, excWords, excCounted, core_setCore_same]

theorem excCounted_core (s : State) (c : Nat) (r : Running) :
    (s.excCounted c r).core c = { s.core c with excs := satInc 32 (s.core c).excs } := by
  have hcancel : Apart (fun _ => False) s (s.dmaCancel c r.item.uid) := dmaCancel_apart s c _
  rw [excCounted, core_setCore_same, hcancel.core]

theorem excCounted_injMode (s : State) (c : Nat) (r : Running) :
    (s.excCounted c r).get F.MEM_INJ_MODE = s.get F.MEM_INJ_MODE :=
  (dmaCancel_inj s c r.item.uid).get F.MEM_INJ_MODE rfl

end State

/-- A cause of an exception and the number of an operand fit their word of the record. -/
theorem Exc.code_lt (e : Exc) : e.code < 9 := by
  cases e <;> decide

/-- Settles O22: the record is written with no injection armed, and nothing behind it writes above
shared SRAM. -/
theorem coreExceptionEndsItem : Obligations.CoreExceptionEndsItem := by
  intro s c e opnd addr r hc hstack hopnd hinj
  have hcode := e.code_lt
  have hcount := State.excCounted_core s c r
  have hmode := (State.excCounted_injMode s c r).trans hinj
  rw [State.coreExc_eq hstack]
  generalize s.excCounted c r = u at hcount hmode ⊢
  generalize hl : u.excWords c e opnd addr r = l
  have hread {k v : Nat} (hk : l[k]? = some v) := State.rd32_wrWords (a := dataBase c + 0x3DC00) hmode hk
  have hwords : State.Apart (fun _ => False) u (u.wrWords (dataBase c + 0x3DC00) l) :=
    State.wrWords_apart (fun _ h => h.elim) u
  have hcore := hwords.core c
  generalize u.wrWords (dataBase c + 0x3DC00) l = w at hread hcore ⊢
  generalize hf : w.when (e ≠ .decc && e ≠ .iecc) _ = v
  have hlog : State.Apart (fun _ => True) w v := by
    rw [← hf]
    exact .when (.refl _ w) (State.faultLog_apart _ _ _ _ _ _ _)
  rw [hcount, ← hlog.core] at hcore
  obtain ⟨hstack', hexcs, hmem⟩ := State.itemEnd_last (c := c) (s := v) (r := r)
    (by rw [hcore, hstack]) e.status 0
  have hend {k x : Nat} (hk : l[k]? = some x) :
      (v.itemEnd c e.status 0).rd32 (dataBase c + 0x3DC00 + 4 * k) = x % 2 ^ 32 := by
    refine (State.rd32_congr fun j hj => ?_).trans (hread hk)
    rw [hmem _ (by rw [State.AboveSram, dataBase]; omega), hlog.mem _ trivial]
  subst hl
  refine ⟨?_, ?_, ?_, hstack', ?_⟩
  · exact (hend (k := 0) rfl).trans (Nat.mod_eq_of_lt (by omega))
  · exact (hend (k := 1) rfl).trans (Nat.mod_eq_of_lt (by omega))
  · exact hend (k := 2) rfl
  · rw [hexcs, hcore]

end Sys2Proof.Machine
end

section
/-! SUPPORT. Dispatch, pre-emption, saves and restores; steps that each change their own level of the
scheduler. Then what 08_dsp_cores.md has proved of the scheduler: SchedulerEvents. -/

namespace Sys2Proof.Machine

open Sys2Proof

/-! ## Dispatch, pre-emption, save and restore (R261, R278 to R283) -/

/-- The first of the numbers below n that has a value, where none before it has one. -/
theorem findSome?_range_eq_some {α : Type} {f : Nat → Option α} {n c : Nat} {v : α} (hc : c < n)
    (hf : f c = some v) (hlow : ∀ d, d < c → f d = none) : (List.range n).findSome? f = some v := by
  obtain ⟨k, rfl⟩ := Nat.exists_eq_add_of_lt hc
  refine List.findSome?_eq_some_iff.2 ⟨List.range c, c, (List.range k).map (c + 1 + ·), ?_, hf,
    fun d hd => hlow d (List.mem_range.1 hd)⟩
  rw [show c + k + 1 = c + 1 + k by omega, List.range_add, List.range_succ, List.append_assoc,
    List.singleton_append]

namespace State

variable {s t u : State} {c : Nat}

@[simp] theorem queues_setCore (s : State) (c : Nat) (x : CoreS) :
    (s.setCore c x).sched.queues = s.sched.queues := rfl

/-- A dispatch puts the item on top of the core's stack and leaves the queues. -/
theorem dispatchTo_spec (s : State) (c : Nat) (i : Item) :
    ∃ r : Running, r.item = i ∧ r.ctx = s.dispatchCtx i ∧
      (s.dispatchTo c i).core c = { s.core c with stack := r :: (s.core c).stack, phase := .run } ∧
      (s.dispatchTo c i).sched.queues = s.sched.queues := by
  unfold dispatchTo
  extract_lets x depth a s1 s2 s3 s4
  have hcopy : Apart (fun _ => False) s s1 := wrWords_apart (fun _ h => h.elim) s
  have hctx : s1.dispatchCtx i = s.dispatchCtx i := by
    rw [dispatchCtx, dispatchCtx, hcopy.time]
  have hmark : Apart (fun _ => False) s2 (s4.coreStat c) := by
    refine .trans (.set (.ite (.set (.set (.refl _ s2) _ _) _ _) (.refl _ s2)) _ _) (coreStat_apart _ c)
  refine ⟨⟨i, s1.dispatchCtx i, a, 0⟩, rfl, hctx, ?_, ?_⟩
  · rw [hmark.core, core_setCore_same]
  · rw [hmark.queues, queues_setCore, hcopy.queues]

/-- What a core that is given an item runs first (R233). -/
theorem dispatchCtx_regs (s : State) (i : Item) : (s.dispatchCtx i).pc = i.entry ∧
    (s.dispatchCtx i).rg 1 = i.arg % 2 ^ 32 ∧ (s.dispatchCtx i).rg 2 = s.time.pidx % 2 ^ 32 := by
  refine ⟨rfl, ?_, ?_⟩
  · rw [Ctx.rg, dispatchCtx, sget_sput_ne _ _ _ _ (by decide), sget_sput_same, BitVec.toNat_ofNat]
  · rw [Ctx.rg, dispatchCtx, sget_sput_same, BitVec.toNat_ofNat]

theorem time_unqueue (s : State) (i : Item) : (s.unqueue i).time = s.time := time_setQueue ..

theorem core_unqueue (s : State) (i : Item) (c : Nat) : (s.unqueue i).core c = s.core c :=
  core_setQueue ..

theorem queue_unqueue (s : State) (i : Item) :
    (s.unqueue i).queue i.prio = (s.queue i.prio).filter (fun j => j.uid ≠ i.uid) :=
  queue_setQueue_same ..

/-- The lowest idle core that has a candidate takes it. -/
theorem dispatch_eq {i : Item} (hc : c < 16) (hidle : s.coreIdle c = true) (hpick : s.pick c = some i)
    (hlow : ∀ d, d < c → s.coreIdle d = false ∨ s.pick d = none) :
    s.dispatch = (s.unqueue i).dispatchTo c i := by
  have hfirst : (List.range Config.cores).findSome? (fun c =>
      if s.coreIdle c then (s.pick c).map (fun i => (c, i)) else none) = some (c, i) := by
    refine findSome?_range_eq_some hc ?_ fun d hd => ?_
    · rw [hidle, if_pos rfl, hpick, Option.map_some]
    · rcases hlow d hd with h | h
      · rw [h, if_neg Bool.false_ne_true]
      · rw [h, Option.map_none, ite_self]
  rw [dispatch, hfirst]

/-- A pre-emption takes the next item out of its queue and has the running one's context saved for it. -/
theorem preempt_spec {i : Item} (h : s.preemptPick = some (i, c)) :
    (∃ stack, s.preempt.core c = { s.core c with
      stack := stack, phase := .saving (some i) i.src, preempts := (s.core c).preempts + 1 }) ∧
      s.preempt.sched.queues = (s.unqueue i).sched.queues := by
  rw [preempt, h]
  dsimp only
  rw [core_unqueue, core, set_cores, set_sched, queues_setCore]
  exact ⟨⟨_, sget_sput_same ..⟩, rfl⟩

/-- An idle core has nothing on its stack. -/
theorem stack_of_coreIdle (h : s.coreIdle c = true) : (s.core c).stack = [] := by
  rw [coreIdle, Bool.and_eq_true, Bool.and_eq_true] at h
  exact List.isEmpty_iff.1 h.1.1

end State

variable {c : Nat}

theorem schedDispatch_gives {s : State} {i : Item} (hc : c < 16) (hidle : s.coreIdle c = true)
    (hpick : s.pick c = some i) (hlow : ∀ d, d < c → s.coreIdle d = false ∨ s.pick d = none) :
    s.Gives .schedDispatch (fun t => (∃ r, (t.core c).stack = [r] ∧ r.item = i ∧ r.ctx.pc = i.entry ∧
      r.ctx.rg 1 = i.arg % 2 ^ 32 ∧ r.ctx.rg 2 = s.time.pidx % 2 ^ 32) ∧
      (t.core c).phase = .run ∧ t.queue i.prio = (s.queue i.prio).filter (fun j => j.uid ≠ i.uid)) := by
  obtain ⟨r, hitem, hctx, hcore, hqueues⟩ := (s.unqueue i).dispatchTo_spec c i
  have hstack : ((s.unqueue i).core c).stack = [] := by
    rw [State.core_unqueue, State.stack_of_coreIdle hidle]
  obtain ⟨hpc, hg1, hg2⟩ := (s.unqueue i).dispatchCtx_regs i
  rw [hstack] at hcore
  refine ⟨(s.unqueue i).dispatchTo c i, congrArg Host.Outcome.next (State.dispatch_eq hc hidle hpick hlow),
    ⟨r, by rw [hcore], hitem, ?_, ?_, ?_⟩, by rw [hcore], ?_⟩
  · rw [hctx, hpc]
  · rw [hctx, hg1]
  · rw [hctx, hg2, State.time_unqueue]
  · rw [State.queue, hqueues]
    exact s.queue_unqueue i

theorem schedPreempt_gives {s : State} {i : Item} (h : s.preemptPick = some (i, c)) :
    s.Gives .schedPreempt (fun t => (t.core c).phase = .saving (some i) i.src ∧
      (t.core c).preempts = (s.core c).preempts + 1 ∧
      t.queue i.prio = (s.queue i.prio).filter (fun j => j.uid ≠ i.uid)) := by
  obtain ⟨⟨stack, hcore⟩, hqueues⟩ := State.preempt_spec h
  refine ⟨s.preempt, rfl, by rw [hcore], by rw [hcore], ?_⟩
  rw [State.queue, hqueues]
  exact s.queue_unqueue i

theorem exec_contextSaveDone (hc : c < 16) (s : State) :
    exec (.contextSaveDone c) s = .next (s.saveDone c) := by
  have hexec : exec (.contextSaveDone c) s = gate (okCore c) (s.saveDone c) := rfl
  rw [hexec, gate_core hc]

theorem exec_contextRestoreDone (hc : c < 16) (s : State) :
    exec (.contextRestoreDone c) s = .next (s.restoreDone c) := by
  have hexec : exec (.contextRestoreDone c) s = gate (okCore c) (s.restoreDone c) := rfl
  rw [hexec, gate_core hc]

namespace State

variable {s u : State}

/-- In SAFE_HOLD a core that saves or restores stands (R26). -/
theorem saveDone_held (h : s.accepting = false) : s.saveDone c = s := by
  rw [saveDone, h]
  rfl

theorem restoreDone_held (h : s.accepting = false) : s.restoreDone c = s := by
  rw [restoreDone, h]
  rfl

theorem saveDone_next (h : s.accepting = true) {i : Item} {q : Nat}
    (hp : (s.core c).phase = .saving (some i) q) :
    s.saveDone c = (s.saveFrame (frameAt c ((s.core c).stack.length - 1))).dispatchTo c i := by
  rw [saveDone, h, hp]
  rfl

theorem saveDone_none (h : s.accepting = true) {q : Nat} (hp : (s.core c).phase = .saving none q)
    (hu : s.saveFrame (frameAt c ((s.core c).stack.length - 1)) = u) :
    s.saveDone c = (u.setCore c { u.core c with phase := .run }).afterItem c q := by
  rw [saveDone, h, hp]
  simp only [Bool.not_true, Bool.false_eq_true, if_false, hu]

section
variable {q : Nat} {r : Running} {rest : List Running} {b : Bytes}

theorem restoreDone_bad (h : s.accepting = true) (hp : (s.core c).phase = .restoring q)
    (hs : (s.core c).stack = r :: rest) {a : Nat}
    (hrd : s.eccRds (frameAt c rest.length) c 256 = (b, some a, u)) :
    s.restoreDone c =
      (u.setCore c { u.core c with phase := .run, cycHi := r.cycHi }).coreExc c .decc 3 a := by
  rw [restoreDone, h, hp, hs]
  simp only [Bool.not_true, Bool.false_eq_true, if_false, hrd]

theorem restoreDone_clean (h : s.accepting = true) (hp : (s.core c).phase = .restoring q)
    (hs : (s.core c).stack = r :: rest)
    (hrd : s.eccRds (frameAt c rest.length) c 256 = (b, none, u)) :
    s.restoreDone c = (u.setCore c { u.core c with phase := .run, cycHi := r.cycHi }).coreStat c := by
  rw [restoreDone, h, hp, hs]
  simp only [Bool.not_true, Bool.false_eq_true, if_false, hrd]

end

theorem saveFrame_apart (s : State) (a : Nat) : Apart (fun _ => False) s (s.saveFrame a) := by
  refine .trans (.same (.refl _ s) ?_ ?_ ?_ ?_) (wrWords_apart (fun _ h => h.elim) _)
  all_goals rfl

end State

theorem contextSaveDone_gives {s : State} (hc : c < 16) (ha : s.accepting = true) {i : Item} {q : Nat}
    (hp : (s.core c).phase = .saving (some i) q) :
    s.Gives (.contextSaveDone c) (fun t => (t.core c).phase = .run ∧
      ∃ r, (t.core c).stack = r :: (s.core c).stack ∧ r.item = i ∧ r.ctx.pc = i.entry) := by
  have hframe := s.saveFrame_apart (frameAt c ((s.core c).stack.length - 1))
  have hdone := State.saveDone_next ha hp
  generalize s.saveFrame (frameAt c ((s.core c).stack.length - 1)) = u at hframe hdone
  obtain ⟨r, hitem, hctx, hcore, -⟩ := u.dispatchTo_spec c i
  rw [hframe.core] at hcore
  refine ⟨_, (exec_contextSaveDone hc s).trans (congrArg _ hdone), by rw [hcore], r, by rw [hcore], hitem, ?_⟩
  rw [hctx]
  exact (u.dispatchCtx_regs i).1

theorem contextRestoreDone_gives {s u : State} (hc : c < 16) (ha : s.accepting = true) {q : Nat}
    {r : Running} {rest : List Running} {b : Bytes} (hp : (s.core c).phase = .restoring q)
    (hs : (s.core c).stack = r :: rest)
    (hrd : s.eccRds (frameAt c rest.length) c 256 = (b, none, u)) :
    s.Gives (.contextRestoreDone c) (fun t => (t.core c).phase = .run ∧
      (t.core c).stack = r :: rest) := by
  have hread := State.eccRds_apart 256 s (frameAt c rest.length) c
  rw [hrd] at hread
  refine ⟨_, (exec_contextRestoreDone hc s).trans (congrArg _ (State.restoreDone_clean ha hp hs hrd)), ?_⟩
  have hcore : ((u.setCore c { u.core c with phase := .run, cycHi := r.cycHi }).coreStat c).core c =
      { u.core c with phase := .run, cycHi := r.cycHi } := by
    rw [(State.coreStat_apart (P := fun _ => False) _ c).core, State.core_setCore_same]
  refine ⟨by rw [hcore], ?_⟩
  rw [hcore]
  exact (congrArg CoreS.stack (hread.core c)).trans hs

/-! ## Refill, deadlines, affinity (R275, R281, R285) -/

/-- Of a fold over the levels, a step changes what V shows of its own level alone: what V shows of level
l in the end is what the step of l made of it, in a state that shows of l what the first one did. -/
theorem foldl_levels {β : Type} {f : State → Nat → State} {I : State → Prop} {V : Nat → State → β}
    (hI : ∀ t l, I t → I (f t l)) (hV : ∀ t l m, I t → m ≠ l → V m (f t l) = V m t) {s : State} (hs : I s)
    {n l : Nat} (hl : l < n) :
    ∃ u, I u ∧ V l u = V l s ∧ V l ((List.range n).foldl f s) = V l (f u l) := by
  have hkept (n : Nat) : I ((List.range n).foldl f s) ∧
      ∀ m, n ≤ m → V m ((List.range n).foldl f s) = V m s := by
    induction n with
    | zero => exact ⟨hs, fun _ _ => rfl⟩
    | succ n ih =>
      rw [List.range_succ, List.foldl_append]
      exact ⟨hI _ n ih.1, fun m hm => (hV _ n m ih.1 (by omega)).trans (ih.2 m (by omega))⟩
  induction n with
  | zero => cases hl
  | succ n ih =>
    have hn := hkept n
    rw [List.range_succ, List.foldl_append]
    by_cases h : l = n
    · subst h
      exact ⟨_, hn.1, hn.2 l le_rfl, rfl⟩
    · obtain ⟨u, hu, hsame, hend⟩ := ih (by omega)
      exact ⟨u, hu, hsame, (hV _ n l hn.1 h).trans hend⟩

/-- The queue of a level after a fold over the levels. -/
theorem queue_foldl_levels {f : State → Nat → State} {I : State → Prop}
    (hI : ∀ t l, I t → I (f t l)) (hqueue : ∀ t l m, I t → m ≠ l → (f t l).queue m = t.queue m)
    {s : State} (hs : I s) {n l : Nat} (hl : l < n) :
    ∃ u : State, I u ∧ u.queue l = s.queue l ∧ ((List.range n).foldl f s).queue l = (f u l).queue l :=
  foldl_levels (V := fun m t => t.queue m) hI hqueue hs hl

namespace State

variable {s t u : State}

/-! ### Spill refill -/

theorem itemDone_keeps {a : Nat} (q : Quiet a) (s : State) (i : Item) (status result : Nat)
    (core : Option Nat) : Keeps a s (s.itemDone i status result core) := by
  have huse : Loud (F.SCHED_QUSE_OUT i.src).addr :=
    loud_stride 0x30404 0x10 i.src (by decide) (by decide)
  exact .put q (.trans (.put q (.refl a s) huse) (itemReport_keeps q _ _ _ _ _)) (by decide)

/-- What is kept at DEV_STATE leaves whether the device accepts submissions. -/
theorem Keeps.accepting (h : Keeps R.DEV_STATE.addr s t) : t.accepting = s.accepting := by
  rw [State.accepting, State.accepting, h.gst]

/-- t is s with the spill ring of level l left as the entries rest: nothing of the other levels has
moved, and the device accepts submissions as before. -/
structure Refilled (l : Nat) (rest : List Item) (s t : State) : Prop where
  queue : ∀ m, m ≠ l → t.queue m = s.queue m
  spill : ∀ m, m ≠ l → t.spill m = s.spill m
  own : t.spill l = rest
  accepting : t.accepting = s.accepting

namespace Refilled

variable {P : Nat → Prop} {l : Nat} {rest : List Item}

theorem apart (h : Refilled l rest s t) (k : Apart P t u) (hk : Keeps R.DEV_STATE.addr t u) :
    Refilled l rest s u :=
  ⟨fun m hm => (k.queue m).trans (h.queue m hm), fun m hm => (k.spill m).trans (h.spill m hm),
    (k.spill l).trans h.own, hk.accepting.trans h.accepting⟩

theorem setQueue (h : Refilled l rest s t) (q : Quiet R.DEV_STATE.addr) (x : List Item) :
    Refilled l rest s (t.setQueue l x) :=
  ⟨fun m hm => (queue_setQueue_ne t hm x).trans (h.queue m hm),
    fun m hm => (spill_setQueue t l m x).trans (h.spill m hm), (spill_setQueue t l l x).trans h.own,
    (setQueue_keeps q t l x).accepting.trans h.accepting⟩

end Refilled

/-- The oldest entry leaves the spill ring of a level whose queue has room, whatever becomes of it. -/
theorem spillRefill_taken {l : Nat} {i : Item} {rest : List Item} (ha : s.accepting = true)
    (hs : s.spill l = i :: rest) (hroom : (s.queue l).length < 256) :
    Refilled l rest s (s.spillRefill l) := by
  have q : Quiet R.DEV_STATE.addr := .inl (by decide)
  unfold spillRefill
  rw [hs]
  have hopen : (decide ((s.queue l).length ≥ 256) || !s.accepting) = false := by
    rw [ha, decide_eq_false (by omega)]
    rfl
  simp only [hopen, Bool.false_eq_true, if_false]
  generalize sramBase + s.get (F.SCHED_SPILL_CFG_BASE l) * 0x1000 + 32 * i.slot = a
  generalize (s.wordClean (a + 8) && s.wordClean (a + 16) || s.wordClean (a + 24)) = known
  have hread := eccRds_apart 8 s a 0x31
  have hkeep := eccRds_keeps q 8 s a 0x31
  generalize s.eccRds a 0x31 8 = r at hread hkeep ⊢
  obtain ⟨b, bad, u⟩ := r
  have hout : Refilled l rest s (u.setSpill l rest) :=
    ⟨fun m _ => (queue_setSpill u l m rest).trans (hread.queue m),
      fun m hm => (spill_setSpill_ne u hm rest).trans (hread.spill m),
      spill_setSpill_same .., (hkeep.trans (setSpill_keeps q u l rest)).accepting⟩
  dsimp only
  generalize u.setSpill l rest = v at hout ⊢
  split
  · split
    · exact hout.apart (itemDone_apart _ _ _ _ _) (itemDone_keeps q _ _ _ _ _)
    · refine hout.apart (.trans (.set (cqPut_apart v (length_wordsOf_itemRecord _ _ _ _ _ _)) _ _)
        (faultRec_apart _ _ _ _ _ _ _)) (.trans (.put q (cqPut_keeps q _ _) (by decide))
          (faultRec_keeps q _ _ _ _ _ _ _))
  · split
    · exact hout.apart (itemDone_apart _ _ _ _ _) (itemDone_keeps q _ _ _ _ _)
    · exact hout.setQueue q _

/-- A level with an empty spill ring, or without room, is left alone. -/
theorem spillRefill_stays {l : Nat} (h : s.spill l = [] ∨ 256 ≤ (s.queue l).length) :
    s.spillRefill l = s := by
  unfold spillRefill
  split
  next => rfl
  next i rest hs =>
    have hfull : 256 ≤ (s.queue l).length := h.resolve_left (by rw [hs]; exact List.cons_ne_nil _ _)
    rw [decide_eq_true hfull, Bool.true_or, if_pos rfl]

/-- The refill of a level leaves the other levels. -/
theorem spillRefill_level {l : Nat} (ha : s.accepting = true) :
    ∃ rest, Refilled l rest s (s.spillRefill l) := by
  by_cases h : s.spill l = [] ∨ 256 ≤ (s.queue l).length
  · rw [spillRefill_stays h]
    exact ⟨_, fun _ _ => rfl, fun _ _ => rfl, rfl, rfl⟩
  · obtain ⟨hne, hroom⟩ := not_or.1 h
    obtain ⟨i, rest, hs⟩ := List.exists_cons_of_ne_nil hne
    exact ⟨rest, spillRefill_taken ha hs (Nat.lt_of_not_le hroom)⟩

/-- The refill of level l, in a state that shows of the level what the first one did. -/
theorem spillRefill_levels (ha : s.accepting = true) {n l : Nat} (hl : l < n) :
    ∃ u : State, u.accepting = true ∧ (u.queue l, u.spill l) = (s.queue l, s.spill l) ∧
      (((List.range n).foldl spillRefill s).queue l, ((List.range n).foldl spillRefill s).spill l) =
        ((u.spillRefill l).queue l, (u.spillRefill l).spill l) := by
  refine foldl_levels (f := spillRefill) (I := fun t => t.accepting = true)
    (V := fun m t => (t.queue m, t.spill m)) (fun t l ht => ?_) (fun t l m ht hm => ?_) ha hl
  · obtain ⟨rest, h⟩ := spillRefill_level (l := l) ht
    exact h.accepting.trans ht
  · obtain ⟨rest, h⟩ := spillRefill_level (l := l) ht
    rw [h.queue m hm, h.spill m hm]

/-! ### Deadlines -/

theorem dlOpen_congr (h : t.time = s.time) (i : Item) : t.dlOpen i = s.dlOpen i := by
  rw [dlOpen, dlOpen, h]

/-- The items of a level whose deadline no longer holds complete. -/
def dlLevel (s : State) (l : Nat) : State :=
  if ((s.queue l).filter (fun i => !s.dlOpen i)).isEmpty then s
  else (s.setQueue l ((s.queue l).filter (fun i => s.dlOpen i))).itemsDone 7
    ((s.queue l).filter (fun i => !s.dlOpen i))

theorem deadlineExpiry_eq (h : s.accepting = true) :
    s.deadlineExpiry = ((List.range 8).foldl dlLevel s).saveDrop
      (fun i => !((List.range 8).foldl dlLevel s).dlOpen i) 7 := by
  rw [deadlineExpiry, h]
  rfl

theorem dlLevel_time (s : State) (l : Nat) : (s.dlLevel l).time = s.time := by
  unfold dlLevel
  split
  · rfl
  · rw [(itemsDone_apart _ _ _).time, time_setQueue]

theorem dlLevel_queue_ne (s : State) {l m : Nat} (h : m ≠ l) : (s.dlLevel l).queue m = s.queue m := by
  unfold dlLevel
  split
  · rfl
  · rw [(itemsDone_apart _ _ _).queue, queue_setQueue_ne _ h]

theorem dlLevel_queue_same (s : State) (l : Nat) :
    (s.dlLevel l).queue l = (s.queue l).filter (fun i => s.dlOpen i) := by
  unfold dlLevel
  split
  next h =>
    refine (List.filter_eq_self.2 fun i hi => ?_).symm
    have hnone := List.filter_eq_nil_iff.1 (List.isEmpty_iff.1 h) i hi
    simpa using hnone
  next => rw [(itemsDone_apart _ _ _).queue, queue_setQueue_same]

/-- An item that no longer waits for a save was in no queue. -/
theorem saveDrop_queue (s : State) (p : Item → Bool) (status l : Nat) :
    (s.saveDrop p status).queue l = s.queue l := by
  unfold saveDrop
  refine List.foldlRecOn (motive := fun t : State => t.queue l = s.queue l) _ _ rfl fun t ht c _ => ?_
  split
  · split
    · exact ((itemDone_apart _ _ _ _ _).queue l).trans ht
    · exact ht
  · exact ht

/-! ### Affinity -/

/-- The items of a level with a uid have waited long enough. -/
def affLevel (uid : Nat) (s : State) (l : Nat) : State :=
  if (s.queue l).any (fun i => i.uid = uid) then
    s.setQueue l ((s.queue l).map (fun i => if i.uid = uid then { i with affOver := true } else i))
  else s

theorem affExpire_eq (s : State) (uid : Nat) : s.affExpire uid = (List.range 8).foldl (affLevel uid) s :=
  rfl

theorem affLevel_queue_ne (uid : Nat) (s : State) {l m : Nat} (h : m ≠ l) :
    (affLevel uid s l).queue m = s.queue m := by
  unfold affLevel
  split
  · exact queue_setQueue_ne _ h _
  · rfl

theorem affLevel_queue_same (uid : Nat) (s : State) (l : Nat) : (affLevel uid s l).queue l =
    (s.queue l).map (fun i => if i.uid = uid then { i with affOver := true } else i) := by
  unfold affLevel
  split
  · exact queue_setQueue_same ..
  next h =>
    have hnone : ∀ i ∈ s.queue l, (if i.uid = uid then { i with affOver := true } else i) = i :=
      fun i hi => if_neg fun hu => h (List.any_eq_true.2 ⟨i, hi, decide_eq_true hu⟩)
    rw [List.map_congr_left hnone, List.map_id']

/-! ### Time -/

theorem slewPass_sched (s : State) (n : Nat) : (s.slewPass n).sched = s.sched := by
  unfold slewPass
  split <;> rfl

theorem trimsRun_apart {P : Nat → Prop} (s : State) (n : Nat) : Apart P s (s.trimsRun n) := by
  refine .foldl _ (fun t p => ?_) (.refl P s)
  have htrim (k : Nat) (x : TrimS) : Apart P t (t.setTrim k x) := .same (.refl P t) rfl rfl rfl rfl
  exact .ite (.ite (.refl P t) (.ite (.set (htrim _ _) _ _) (htrim _ _))) (.refl P t)

theorem coreTime_queues (s : State) (n : Nat) : (s.coreTime n).sched.queues = s.sched.queues := by
  unfold coreTime
  split
  · rfl
  refine List.foldlRecOn (motive := fun t : State => t.sched.queues = s.sched.queues) _ _ rfl
    fun t ht c _ => ?_
  dsimp only
  split
  · exact ht
  · rw [quotaUpd, set_sched, set_sched]
    exact ht

theorem dbDone_apart {P : Nat → Prop} (s : State) : Apart P s s.dbDone := by
  unfold dbDone
  split
  · refine .trans (.set (.same (.refl P s) ?_ ?_ ?_ ?_) _ _) (complete_apart _ _ _ _ _ _)
    all_goals rfl
  · exact .refl P s

/-- Nothing moves in the queues while time passes. -/
theorem pass_queue (s : State) (n l : Nat) : (s.pass n).queue l = s.queue l := by
  by_cases hn : n = 0
  · subst hn
    rfl
  · have hdb : Apart (fun _ => False) s s.dbDone := dbDone_apart s
    have htrims (t : State) : Apart (fun _ => False) t (t.trimsRun n) := trimsRun_apart t n
    rw [pass_eq hn, queue, queue, clocksRun, coreTime_queues, (htrims _).queues, slewPass_sched, hdb.queues]

end State

/-- Settles O23: a dispatch, a save and a restore touch their core alone, and each level of the scheduler
changes at its own step of an event only. -/
theorem schedulerEvents : Obligations.SchedulerEvents := by
  refine ⟨fun s c i hc hidle hpick hlow => schedDispatch_gives hc hidle hpick hlow,
    fun s i c h => schedPreempt_gives h, ?held, fun s c i q hc ha hp => contextSaveDone_gives hc ha hp,
    ?dropped, ?restore, ?refill, ?deadline, ?affinity⟩
  case held =>
    intro s c hc ha
    rw [exec_contextSaveDone hc, exec_contextRestoreDone hc, State.saveDone_held ha,
      State.restoreDone_held ha]
    exact ⟨rfl, rfl⟩
  case dropped =>
    intro s c q u hc ha hp hu
    rw [exec_contextSaveDone hc, State.saveDone_none ha hp hu]
  case restore =>
    intro s c q r rest b u hc ha hp hs
    refine ⟨contextRestoreDone_gives hc ha hp hs, fun a hrd => ?_⟩
    rw [exec_contextRestoreDone hc, State.restoreDone_bad ha hp hs hrd]
  case refill =>
    intro s ha
    refine ⟨_, rfl, fun l i rest hl hs hroom => ?_⟩
    obtain ⟨u, hu, hsame, hend⟩ := State.spillRefill_levels ha hl
    obtain ⟨hqueue, hspill⟩ := Prod.mk.inj hsame
    rw [← hqueue] at hroom
    rw [State.each, (Prod.mk.inj hend).2]
    exact (State.spillRefill_taken hu (hspill.trans hs) hroom).own
  case deadline =>
    intro s ha
    refine ⟨_, congrArg Host.Outcome.next (State.deadlineExpiry_eq ha), fun l hl => ?_⟩
    obtain ⟨u, hu, hsame, hend⟩ := queue_foldl_levels (f := State.dlLevel) (I := fun t => t.time = s.time)
      (fun t l ht => (t.dlLevel_time l).trans ht)
      (fun t l m _ hm => t.dlLevel_queue_ne hm) rfl hl
    rw [State.saveDrop_queue, hend, State.dlLevel_queue_same, hsame, funext (State.dlOpen_congr hu)]
  case affinity =>
    intro s i r hw
    have hnext : s.affNext = (s.pass (s.room ((r.foldl elder i).ready + s.get F.SCHED_CFG_AFF_WAIT -
        s.time.cyc))).affExpire (r.foldl elder i).uid := by
      rw [State.affNext, hw]
    refine ⟨_, congrArg Host.Outcome.next hnext, fun l hl => ?_⟩
    generalize s.room _ = n
    generalize r.foldl elder i = j
    rw [State.affExpire_eq]
    obtain ⟨u, -, hsame, hend⟩ := queue_foldl_levels (f := State.affLevel j.uid) (I := fun _ => True)
      (fun _ _ _ => trivial)
      (fun t l m _ hm => State.affLevel_queue_ne j.uid t hm) (s := s.pass n) trivial hl
    rw [hend, State.affLevel_queue_same, hsame, State.pass_queue]

end Sys2Proof.Machine
end

section
/-! SUPPORT. The refutation of ControlEngineEvaluates of 10_control_engine.md: the core time of a source
that no part has, counted while time passes up to the evaluation, moves the limit of the slot's
output. -/

namespace Sys2Proof.Machine

open Sys2Proof

/-- The source whose SCHED_QTUSE would lie at CENG_UMAX of slot 0. No submitter has this number
(R267, R292), but the statement speaks of every state. -/
def strayLimitSource : Nat := 0xFD2

theorem strayLimitSource_addr : (R.SCHED_QTUSE strayLimitSource).addr = (R.CENG_UMAX 0).addr := rfl

/-- An ALONE part in READY at the start of its first period. Slot 0 of lock group 0 is in MANUAL at 1.0,
with both limits of its output 0. Core 0 runs an item of the stray source, which has used 1,024
cycles. -/
def strayLimit : State :=
  { (((((((State.reset.set F.DEV_STATE_STATE 3).set F.TIME_STATUS_PE_RUN 1).set F.PAIR_STAT_ROLE 3).set
      (F.TIME_LG_CFG_EN 0) 1).set (F.CENG_SLOT_CFG_EN 0) 1).set (F.CENG_MODE_MODE 0) 2).set
      (R.CENG_MAN 0) eOne) with
    dev := { State.reset.dev with inReset := false }
    cores := [(0, { stack := [{ item := { src := strayLimitSource } }] })]
    sched := { qcyc := [(strayLimitSource, 1024)] } }

/-- Slot 0 is the only one that the group evaluates. -/
theorem strayLimit_slots : ∀ j < 32, j ≠ 0 → strayLimit.slotIn 0 j = false := by decide

/-- With the limits that stand when the command is given, the law of MANUAL puts out 0. -/
theorem strayLimit_lawManual (kp ff t : Nat) :
    (lawManual kp (strayLimit.get (R.CENG_UMIN 0)) (strayLimit.get (R.CENG_UMAX 0))
      (strayLimit.get (R.CENG_MAN 0)) ff t).u = 0 := by
  have hclamp : eclamp (strayLimit.get (R.CENG_UMIN 0)) (strayLimit.get (R.CENG_UMAX 0))
      (strayLimit.get (R.CENG_MAN 0)) = 0 := by decide
  exact hclamp

/-- On the way to EVAL_OFS the 1 that is written as the source's core time becomes the upper limit. -/
theorem strayLimit_umax_atEval :
    (strayLimit.toOfs (strayLimit.get (F.TIME_LG_OFS0_EVAL_OFS 0))).get (R.CENG_UMAX 0) = 1 := by
  decide +kernel

/-- So the output is clamped to the least subnormal number. -/
theorem strayLimit_out : (strayLimit.evalAt 0).get (R.CENG_OUT 0) = 1 := by decide +kernel

/-- Refutes O46: an evaluation moves time on to EVAL_OFS before it reads its slots, and the statement
does not keep the items on the cores to the sources that a part has, so the core time of a stray one
moves UMAX, and the output is not what the law gives with the UMAX before. -/
theorem not_controlEngineEvaluates : ¬ Obligations.ControlEngineEvaluates := by
  rintro ⟨heval, -⟩
  obtain ⟨t, hexec, -, -, hout, -⟩ := heval strayLimit 0 0 _ _ _ (by decide) (by decide) (by decide)
    (by decide) (by decide) (by decide) (by decide) (by decide)
    (fun j hne hlt => strayLimit_slots j hlt hne) rfl (by decide) (by decide) (by decide) (by decide)
    (by decide) rfl rfl rfl
  have ht : t = strayLimit.evalAt 0 := (Host.Outcome.next.inj hexec).symm
  have hmanual : strayLimit.slotMode 0 = 2 := by decide
  rw [ht, strayLimit_out, if_pos hmanual, strayLimit_lawManual] at hout
  exact absurd hout (by decide)

end Sys2Proof.Machine
end

section
/-! SUPPORT. The rings of the host: their hidden state and their states, the fetch of a descriptor, and
what stays sent while a completion is written. -/

namespace Sys2Proof.Machine

open Sys2Proof

namespace State

variable {s t u : State} {r : Nat}

/-! ## The hidden state of a ring -/

@[simp] theorem ring_setRing_same (s : State) (r : Nat) (x : RingS) : (s.setRing r x).ring r = x :=
  sget_sput_same ..

theorem ring_setRing_ne (s : State) {r q : Nat} (x : RingS) (h : q ≠ r) :
    (s.setRing r x).ring q = s.ring q :=
  sget_sput_ne _ _ _ _ h

@[simp] theorem get_setRing (s : State) (r : Nat) (x : RingS) (f : Fld) :
    (s.setRing r x).get f = s.get f := rfl

@[simp] theorem rst_setRing (s : State) (r q : Nat) (x : RingS) : (s.setRing r x).rst q = s.rst q := rfl

@[simp] theorem abi_setRing (s : State) (r : Nat) (x : RingS) : (s.setRing r x).abi = s.abi := rfl

/-- The type of one of the 32 rings is in its register. -/
theorem rtype_setRing (s : State) (r : Nat) (x : RingS) {q : Nat} (hq : q < 32) :
    (s.setRing r x).rtype q = s.rtype q := by
  have hq : q < Config.rings := hq
  simp only [rtype, rtypeCode, if_pos hq, get_setRing]

@[simp] theorem ring_set (s : State) (f : Fld) (v q : Nat) : (s.set f v).ring q = s.ring q := rfl

@[simp] theorem ring_ringCounts (s : State) (r q : Nat) : (s.ringCounts r).ring q = s.ring q := rfl

/-- The registers of the ring show how many descriptors are outstanding (R342). -/
theorem ringCounts_out (s : State) (r : Nat) :
    (s.ringCounts r).get (F.HOST_RING_OUT_OUT r) = (s.ring r).outs.length % 2 ^ 17 := by
  have hfit : (F.HOST_RING_OUT_OUT r).lo + (F.HOST_RING_OUT_OUT r).w ≤ 32 := by
    change 0 + 17 ≤ 32
    omega
  have hne : (F.HOST_RING_OUT_OUT r).addr ≠ (F.HOST_RING_STAT_OVER_CREDIT r).addr := by
    change 0x2101c + 0x40 * r ≠ 0x21018 + 0x40 * r
    omega
  rw [ringCounts, get_set_ne _ _ _ _ hne, get_set _ _ _ hfit]
  rfl

/-! ## Fetches -/

/-- The descriptor at the fetch index, as a fetch hands it to its engine. -/
def fetched (s : State) (r : Nat) (b : Bytes) : Desc :=
  { idx := (s.ring r).fetch, bytes := b, started := true }

/-- The fetch index past the descriptor in turn. -/
def fetchNext (s : State) (r : Nat) : State :=
  s.setRing r { s.ring r with fetch := ((s.ring r).fetch + 1) % 2 ^ 32 }

/-- The descriptor fetched on a ring with nothing outstanding. -/
def fetchFirst (s : State) (r : Nat) (b : Bytes) : State :=
  ((s.fetchNext r).setRing r { (s.fetchNext r).ring r with outs := [s.fetched r b] }).ringCounts r

section
variable {hm : HostMem} {b : Bytes} {want : Bytes → Bool} (hr : r < 32) (hrun : s.rst r = .running)
  (hnone : (s.ring r).outs = []) (hpeek : s.peek r hm = some (b, none, s)) (hwant : want b = true)
include hr hrun hnone hpeek hwant

/-- An accepted descriptor on a ring without a credit starts at once where nothing is outstanding
(R328, R331). -/
theorem fetchEvent_first (hok : descBad (s.rtype r) s.abi b = none)
    (hcr : s.get (F.HOST_RING_CREDIT_CREDIT r) = 0) :
    s.fetchEvent r hm want = (.start (s.fetched r b), s.fetchFirst r b) := by
  simp [fetchEvent, hnone, hpeek, hwant, hrun, hcr, rtype_setRing _ _ _ hr, hok, fetched, fetchFirst,
    fetchNext]

/-- A descriptor that R332 refuses at byte o completes as FAILED with the byte in its reason. -/
theorem fetchEvent_bad {o : Nat} (hbad : descBad (s.rtype r) s.abi b = some o) :
    s.fetchEvent r hm want = (.nothing, (s.fetchNext r).cpl r
      ⟨(s.ring r).fetch, fieldLE b 2 2, bit (fieldLE b 1 1) 0, 1, 0xF0 + o * 0x100, 0, false⟩) := by
  simp [fetchEvent, hnone, hpeek, hwant, hrun, rtype_setRing _ _ _ hr, hbad, fetchNext]

end

/-- The ring after its first fetch; nothing is sent and no memory written (R328, R342). -/
theorem fetchFirst_shows (s : State) (r : Nat) (b : Bytes) :
    ((s.fetchFirst r b).ring r).fetch = ((s.ring r).fetch + 1) % 2 ^ 32 ∧
      ((s.fetchFirst r b).ring r).outs = [s.fetched r b] ∧
      (s.fetchFirst r b).get (F.HOST_RING_OUT_OUT r) = 1 ∧
      (s.fetchFirst r b).mem = s.mem ∧ (s.fetchFirst r b).out = s.out := by
  have hring : (s.fetchFirst r b).ring r =
      { s.ring r with fetch := ((s.ring r).fetch + 1) % 2 ^ 32, outs := [s.fetched r b] } := by
    simp [fetchFirst, fetchNext]
  refine ⟨by rw [hring], by rw [hring], ?_, ?_, ?_⟩
  · rw [fetchFirst, ringCounts_out, ring_setRing_same]
    rfl
  · rw [fetchFirst, ringCounts, set_mem, set_mem]
    rfl
  · rw [fetchFirst, ringCounts, set_out, set_out]
    rfl

/-! ## The state of a ring -/

theorem rst_congr {q : Nat} (h : t.get (F.HOST_RING_STAT_STATE q) = s.get (F.HOST_RING_STAT_STATE q)) :
    t.rst q = s.rst q := by rw [rst, rst, h]

/-- The state that a ring enters is the one that its register shows (R329). -/
@[simp] theorem rst_setRst_same (s : State) (r : Nat) (x : RState) : (s.setRst r x).rst r = x := by
  rw [rst, setRst, get_set _ _ _ (show 0 + 2 ≤ 32 by decide)]
  cases x <;> rfl

/-- A write of another register leaves a ring's state. -/
theorem rst_set_ne (s : State) {f : Fld} (v : Nat) {q : Nat} (h : f.addr ≠ (R.HOST_RING_STAT q).addr) :
    (s.set f v).rst q = s.rst q :=
  rst_congr (get_set_ne _ _ _ _ h.symm)

/-- A flag beside the state of a ring, at bit lo. -/
abbrev ringFlag (r lo : Nat) : Fld := ⟨0x21018 + 0x40 * r, 0, lo, 1⟩

/-- The flags beside a ring's state leave the states of all rings. -/
theorem rst_ringFlag (s : State) (r q : Nat) {lo : Nat} (h : 2 ≤ lo ∧ lo < 32) (v : Nat) :
    (s.set (ringFlag r lo) v).rst q = s.rst q := by
  obtain ⟨hlo, hhi⟩ := h
  by_cases hq : q = r
  · subst hq
    exact rst_congr (get_set_apart _ _ _ _ hhi ⟨rfl, rfl, .inr (show 0 + 2 ≤ lo by omega)⟩)
  · refine rst_set_ne s v ?_
    change 0x21018 + 0x40 * r ≠ 0x21018 + 0x40 * q
    omega

/-- A flag of a ring that has been set reads 1. -/
theorem on_ringFlag (s : State) (r : Nat) {lo : Nat} (h : lo < 32) :
    (s.flag (ringFlag r lo)).on (ringFlag r lo) = true := by
  rw [on, flag, get_set _ (ringFlag r lo) _ (show lo + 1 ≤ 32 from h)]
  rfl

/-- A fetch that fails halts the ring and says so (R329). -/
theorem fetchHalt_halted (s : State) (r : Nat) : (s.fetchHalt r).rst r = .halted ∧
    (s.fetchHalt r).on (F.HOST_RING_STAT_FETCH_HALT r) = true :=
  ⟨(rst_ringFlag _ r r (by decide) 1).trans (rst_setRst_same s r .halted),
    on_ringFlag _ r (by decide)⟩

theorem fetchHalt_host (s : State) (r : Nat) : (s.fetchHalt r).host = s.host := by
  rw [fetchHalt, flag, set_host, setRst, set_host]

/-! ## What is sent stays sent -/

/-- t has sent all that s has. -/
def Sends (s t : State) : Prop := s.out <+: t.out

namespace Sends

theorem refl (s : State) : Sends s s := List.prefix_rfl

theorem trans (h : Sends s t) (k : Sends t u) : Sends s u := List.IsPrefix.trans h k

theorem same (h : Sends s t) (ho : u.out = t.out) : Sends s u := by rwa [Sends, ho]

theorem set (h : Sends s t) (f : Fld) (v : Nat) : Sends s (t.set f v) := h.same rfl

theorem emit (h : Sends s t) (o : Out) : Sends s (t.emit o) := h.trans (List.prefix_append _ _)

theorem when (h : Sends s t) {c : Bool} {f : State → State} (hf : Sends t (f t)) :
    Sends s (t.when c f) :=
  when_of t c f (Sends s) h (h.trans hf)

theorem ite {c : Prop} [Decidable c] (ht : Sends s t) (hu : Sends s u) :
    Sends s (if c then t else u) := by
  split
  · exact ht
  · exact hu

theorem mem (h : Sends s t) {o : Out} (ho : o ∈ s.out) : o ∈ t.out := h.subset ho

end Sends

theorem msi_sends (s : State) (v : Nat) : Sends s (s.msi v) :=
  .ite (.emit (.refl s) _) (.ite (.refl s) (.refl s))

theorem evt_sends (s : State) (e : Evt) : Sends s (s.evt e) :=
  have hset := (Sends.refl s).set R.HOST_EVT_CAUSE (setBit (s.word R.HOST_EVT_CAUSE) e.bit true)
  .ite (hset.trans (msi_sends _ _)) hset

theorem faultRec_sends (s : State) (kind cls req detail addr aux : Nat) :
    Sends s (s.faultRec kind cls req detail addr aux) := by
  unfold faultRec
  extract_lets e s1 s2 s3 s4 s5 s6 s7
  have hovf : Sends s s1 := .when (.refl s) (.set (.refl s) _ _)
  have hrec : Sends s s6 := (((((hovf.set _ _).set _ _).set _ _).set _ _).set _ _).set _ _
  clear_value s6
  refine .trans ?_ (evt_sends _ _)
  exact hrec.same rfl

theorem orFree_sends (s : State) (w : Nat) (o : Option Nat) : Sends s (s.orFree w o).2 := by
  cases o <;> exact .refl s

theorem faultLog_sends (s : State) (kind : Nat) (cls req detail addr aux : Option Nat) :
    Sends s (s.faultLog kind cls req detail addr aux) :=
  ((((orFree_sends s 3 cls).trans (orFree_sends _ 8 req)).trans (orFree_sends _ 8 detail)).trans
    (orFree_sends _ 32 addr)).trans ((orFree_sends _ 32 aux).trans (faultRec_sends _ _ _ _ _ _ _))

theorem xfault_sends (s : State) (k : XFault) (write : Bool) (req iova : Nat) :
    Sends s (s.xfault k write req iova) := by
  unfold xfault
  refine .trans (.set (.ite (.refl s) ?_) _ _) (faultLog_sends _ _ _ _ _ _ _)
  exact (((((((Sends.refl s).set _ _).set _ _).set _ _).set _ _).set _ _).set _ _)

/-- The walk sends nothing. -/
theorem walk_out (s : State) (hm : HostMem) (x : Nat) : (s.walk hm x).2.out = s.out := by
  unfold walk
  extract_lets page s1 span dirAt de dir
  split
  · rfl
  have hdir : dir.2.out = s.out := by
    unfold dir
    repeat' split
    all_goals rfl
  clear_value dir
  obtain ⟨_ | de', s2⟩ := dir
  · exact hdir
  · dsimp only
    repeat' split
    all_goals exact hdir

theorem xlate_sends (s : State) (hm : HostMem) (write : Bool) (req x : Nat) :
    Sends s (s.xlate hm write req x).2 := by
  have hwalk : Sends s (s.walk hm x).2 := .same (.refl s) (walk_out s hm x)
  unfold xlate
  split
  · exact .refl s
  split
  · exact xfault_sends _ _ _ _ _
  split
  next hw =>
    rw [hw] at hwalk
    exact hwalk.trans (xfault_sends _ _ _ _ _)
  next hw =>
    rw [hw] at hwalk
    split
    · exact hwalk
    · exact hwalk.trans (xfault_sends _ _ _ _ _)

theorem hostWr_sends (fuel : Nat) (s : State) (hm : HostMem) (req x : Nat) (d : Bytes) :
    Sends s (s.hostWr hm req fuel x d).2.2 := by
  induction fuel generalizing s x d with
  | zero => exact .refl s
  | succ fuel ih =>
    unfold hostWr
    split
    · exact .refl s
    extract_lets n
    have hx := xlate_sends s hm true req x
    split
    next hf => rwa [hf] at hx
    next b s1 hf =>
      rw [hf] at hx
      exact .trans (hx.emit _) (ih _ _ _)

theorem setRing_sends (s : State) (r : Nat) (x : RingS) : Sends s (s.setRing r x) :=
  .same (.refl s) rfl

theorem ringIrq_sends (s : State) (r : Nat) : Sends s (s.ringIrq r) :=
  .ite (msi_sends _ _) (.ite (.trans (setRing_sends _ _ _) (msi_sends _ _)) (setRing_sends _ _ _))

/-- All that follows the write of a completion's area leaves what it sent. -/
theorem cplWrite_sends (s : State) (r : Nat) (c : Cpl) :
    Sends (s.hostWr s.iommu.view (ringReq r) 2 (s.slotAt r c.idx + 48)
      (s.cplArea r c.tag c.status c.result s.pidx32 c.flags)).2.2 (s.cplWrite r c) := by
  unfold cplWrite
  extract_lets area
  rcases s.hostWr s.iommu.view (ringReq r) 2 (s.slotAt r c.idx + 48) area with ⟨n, ok, s1⟩
  dsimp only
  have hdone (x : RingS) (ci : Nat) :
      Sends s1 ((((s1.setRing r x).set (R.HOST_RING_CI r) ci).ringCounts r).when c.irq
        (·.ringIrq r)) := by
    refine .when (.set (.set (.set ?_ _ _) _ _) _ _) (ringIrq_sends _ _)
    exact setRing_sends _ _ _
  exact .ite (.set (.set (hdone _ _) _ _) _ _) (hdone _ _)

theorem cplRelease_sends (fuel : Nat) (s : State) (r : Nat) : Sends s (s.cplRelease r fuel) := by
  induction fuel generalizing s with
  | zero => exact .refl s
  | succ fuel ih =>
    unfold cplRelease
    split
    · exact .refl s
    · exact .trans (.trans (setRing_sends _ _ _) (.trans (hostWr_sends ..) (cplWrite_sends ..))) (ih _)

/-- Bytes that lie in one page go out in one write where their translation lets them (R370). -/
theorem hostWr_page {hm : HostMem} {req x a : Nat} {d : Bytes} (h : x % 4096 + d.length ≤ 4096)
    (hd : d ≠ []) (hx : (s.xlate hm true req x).1 = some a) (fuel : Nat) :
    Out.host a d ∈ (s.hostWr hm req (fuel + 1) x d).2.2.out := by
  have hall : min d.length (4096 - x % 4096) = d.length := by omega
  rcases hxl : s.xlate hm true req x with ⟨_, s1⟩
  obtain rfl : _ = some a := by rw [← hx, hxl]
  have hsent : Out.host a d ∈ (s1.emit (.host a d)).out := by simp
  have hrest := hostWr_sends fuel (s1.emit (.host a d)) hm req (x + d.length) []
  simpa [hostWr, hd, hxl, hall] using hrest.mem hsent

theorem length_cplArea (s : State) (r tag status result pidx flags : Nat) :
    (s.cplArea r tag status result pidx flags).length = 16 := by
  simp [cplArea]

/-- The area of a completion that need not wait for its turn goes to host memory (R333). -/
theorem complete_writes_area {idx status a : Nat} {d : Desc} (result flags : Nat) (hr : r < 32)
    (hd : s.desc? r idx = some d) (horder : (s.rtype r).inOrder = false) (hlate : d.cancelLate = false)
    (hpage : (s.slotAt r idx + 48) % 4096 ≤ 4080)
    (hx : (s.xlate s.iommu.view true (ringReq r) (s.slotAt r idx + 48)).1 = some a) :
    Out.host a (s.cplArea r d.tag status result s.pidx32 flags) ∈
      (s.complete r idx status result flags).out := by
  have hring : ¬ Config.rings ≤ r := Nat.not_le.2 hr
  have hlen := s.length_cplArea r d.tag status result s.pidx32 flags
  have hgone := hostWr_page (d := s.cplArea r d.tag status result s.pidx32 flags)
    (by rw [hlen]; omega) (List.ne_nil_of_length_pos (by rw [hlen]; decide)) hx 1
  have hwritten := (cplWrite_sends s r ⟨idx, d.tag, d.irq, status, result, flags, true⟩).mem hgone
  have hcpl : s.complete r idx status result flags =
      let u := s.cplWrite r ⟨idx, d.tag, d.irq, status, result, flags, true⟩
      u.cplRelease r (u.ring r).held.length := by
    simp [complete, hd, hlate, cpl, hring, horder]
  rw [hcpl]
  exact (cplRelease_sends _ _ r).mem hwritten

end State

end Sys2Proof.Machine
end

section
/-! SUPPORT. Copies, transactions and the commands of the rings' descriptors. Then what
11_host_rings.md has proved of them: DescriptorsRunAndComplete. -/

namespace Sys2Proof.Machine

open Sys2Proof

namespace State

variable {s t u : State} {r : Nat}

/-! ## The read of a list -/

theorem hostErr_still (s : State) (e : HostErr) (req a : Nat) : Still s (s.hostErr e req a) := by
  unfold hostErr
  split
  · exact faultLog_still _ _ _ _ _ _ _
  · exact .trans (t := s.fresh.2) (.same (.refl s) rfl rfl rfl rfl) (faultLog_still _ _ _ _ _ _ _)

/-- A read of host memory leaves the staging memory. -/
theorem hostRd_still (fuel : Nat) (s : State) (hm : HostMem) (req a k : Nat) :
    Still s (s.hostRd hm req fuel a k).2.2 := by
  induction fuel generalizing s a k with
  | zero => exact .refl s
  | succ fuel ih =>
    unfold hostRd
    split
    · exact .refl s
    extract_lets n
    have hx := xlate_still s hm false req a
    split
    next hf => rwa [hf] at hx
    next b s1 hf =>
      rw [hf] at hx
      split
      · exact hx.trans (hostErr_still _ _ _ _)
      · exact hx.trans (ih _ _ _)

/-! ## Copies -/

/-- The COPY that runs on a ring is of the ring itself, not of what a link reset left (R360). -/
theorem workRing_copying {d : Desc} (hr : r < 32) (h : s.copyHead r = some d) (hbusy : d.busy = true) :
    s.workRing r = r := by
  have hmem : d ∈ (s.ring r).outs := by
    unfold copyHead at h
    split at h
    · exact List.mem_of_find?_eq_some h
    · cases h
  have hany : (s.ring r).outs.any (·.busy) = true := List.any_eq_true.2 ⟨d, hmem, hbusy⟩
  have hfind : (List.range 32).find? (fun q => q % Config.rings = r && (s.ring q).outs.any (·.busy)) =
      some r := by
    refine List.find?_range_eq_some.2 ⟨?_, List.mem_range.2 hr, fun q hq => ?_⟩
    · simp [Config.rings, Nat.mod_eq_of_lt hr, hany]
    · have hne : ¬ q % Config.rings = r := by
        change ¬ q % 32 = r
        omega
      simp [hne]
  rw [workRing, ringNos, List.find?_append]
  change (((List.range 32).find? _).or _).getD r = r
  rw [hfind]
  rfl

/-- A COPY into the device whose read met no fault stores what it read (R339). -/
theorem copyIn_done {h a n : Nat} {hm : HostMem} {b : Bytes} (hn : n % 4 = 0)
    (hrd : s.hostRd hm (ringReq r) (pagesOf h n) h n = (b, none, u)) (hlen : b.length = n) :
    s.copyIn r h a n hm = (0, n, u.memWrs a (ringReq r) (wordsOf b)) := by
  have hall : b.take (4 * (b.length / 4)) = b := List.take_of_length_le (by omega)
  simp [copyIn, hrd, hall]

/-- A COPY out of the device whose read and writes met no fault has moved all its bytes (R339). -/
theorem copyOut_done {h a n k : Nat} {hm : HostMem} {b : Bytes} {v : State}
    (hrd : s.eccRds a (ringReq r) (n / 4) = (b, none, u))
    (hwr : u.hostWr hm (ringReq r) (pagesOf h n) h b = (k, true, v)) :
    s.copyOut r h a n hm = (0, n, v) := by
  simp [copyOut, hrd, hwr]

/-- The COPY that runs ends with what its transfer gives, and the next in turn begins (R338, R339). -/
theorem copyDone_running {d : Desc} {h a n st k : Nat} {out : Bool} {hm : HostMem} (hr : r < 32)
    (hd : s.copyHead r = some d) (hbusy : d.busy = true) (hargs : copyArgs d.bytes = (h, a, n, out))
    (hmove : (if out then s.copyOut r h a n hm else s.copyIn r h a n hm) = (st, k, u)) :
    s.copyDone r hm = (u.complete r d.idx st k 0).copyTurn r := by
  simp [copyDone, workRing_copying hr hd hbusy, hd, hbusy, hargs, hmove]

/-! ## Transactions -/

/-- A list of no entries, or of more than 256, fails with reason 1 (R349). -/
theorem txnPend_count {d : Desc} (h : fieldLE d.bytes 16 2 = 0 ∨ 256 < fieldLE d.bytes 16 2) :
    s.txnPend r d = (false, s.complete r d.idx 1 1 0) := by
  have hbad : fieldLE d.bytes 16 2 < 1 ∨ 256 < fieldLE d.bytes 16 2 := by omega
  simp only [txnPend, Bool.or_eq_true, decide_eq_true_eq, if_pos hbad]

/-- With 16 transactions pending one more fails with reason 2 (R348, R349). -/
theorem txnPend_full {d : Desc} (hlo : 1 ≤ fieldLE d.bytes 16 2) (hhi : fieldLE d.bytes 16 2 ≤ 256)
    (h : 16 ≤ s.host.txns.length) : s.txnPend r d = (false, s.complete r d.idx 1 2 0) := by
  have hok : ¬ (fieldLE d.bytes 16 2 < 1 ∨ 256 < fieldLE d.bytes 16 2) := by omega
  simp only [txnPend, Bool.or_eq_true, decide_eq_true_eq, if_neg hok, ge_iff_le, if_pos h]

/-- What an accepted transaction of an instant holds before its list is read (R348). -/
def pendingTxn (r : Nat) (d : Desc) : Txn :=
  { ring := r, idx := d.idx, apply := some (fieldLE d.bytes 20 4) }

/-- With room in staging a transaction that names its instant is pending from its fetch (R348). -/
theorem txnPend_stands {d : Desc} (hlo : 1 ≤ fieldLE d.bytes 16 2) (hhi : fieldLE d.bytes 16 2 ≤ 256)
    (h : s.host.txns.length < 16) (himm : bit (fieldLE d.bytes 18 1) 0 = false) :
    s.txnPend r d = (true, s.setTxns (s.host.txns ++ [pendingTxn r d])) := by
  have hok : ¬ (fieldLE d.bytes 16 2 < 1 ∨ 256 < fieldLE d.bytes 16 2) := by omega
  simp only [txnPend, Bool.or_eq_true, decide_eq_true_eq, if_neg hok, ge_iff_le,
    if_neg (Nat.not_le.2 h), himm]
  rfl

/-- A transaction that has become pending is found. -/
theorem txn?_pending {r : Nat} (s : State) (d : Desc) :
    ∃ x, (s.setTxns (s.host.txns ++ [pendingTxn r d])).txn? r d.idx = some x := by
  refine Option.isSome_iff_exists.1 (List.find?_isSome.2 ⟨pendingTxn r d, ?_, ?_⟩)
  · exact List.mem_append_right _ (List.mem_singleton_self _)
  · simp [pendingTxn]

theorem txn?_congr (h : t.host.txns = s.host.txns) (r idx : Nat) : t.txn? r idx = s.txn? r idx := by
  rw [txn?, txn?, h]

section
variable {hm : HostMem} {d : Desc}
  (hfetch : s.fetchEvent r hm (wantOp s r .ctx 1) = (.start d, u)) (hnew : u.txn? r d.idx = none)
include hfetch hnew

/-- A transaction that fails at its fetch reads no list (R349). -/
theorem transact_refused (hpend : u.txnPend r d = (false, t)) : s.transact r hm = t := by
  simp [transact, hfetch, hnew, hpend]

/-- A pending transaction whose list is read without a fault stands in staging (R348). -/
theorem transact_staged {b : Bytes} {v : State}
    (hpend : u.txnPend r d = (true, u.setTxns (u.host.txns ++ [pendingTxn r d])))
    (hrd : (u.setTxns (u.host.txns ++ [pendingTxn r d])).hostRd hm (ringReq r)
      (pagesOf (fieldLE d.bytes 8 8) (16 * fieldLE d.bytes 16 2)) (fieldLE d.bytes 8 8)
      (16 * fieldLE d.bytes 16 2) = (b, none, v)) :
    s.transact r hm = v.updTxn r d.idx (fun x =>
      { x with staged := true, entries := (List.range (fieldLE d.bytes 16 2)).map (txnEntry b) }) := by
  obtain ⟨x, hx⟩ := txn?_pending (r := r) u d
  have hstill := hostRd_still (pagesOf (fieldLE d.bytes 8 8) (16 * fieldLE d.bytes 16 2))
    (u.setTxns (u.host.txns ++ [pendingTxn r d])) hm (ringReq r) (fieldLE d.bytes 8 8)
    (16 * fieldLE d.bytes 16 2)
  rw [hrd] at hstill
  have hfound : v.txn? r d.idx = some x := (txn?_congr hstill.txns r d.idx).trans hx
  simp [transact, hfetch, hnew, hpend, hrd, hfound]

end

section
variable {idx : Nat} {x : Txn} (hx : s.txnOf r idx (fun y => y.staged && !y.valid) = some x)
include hx

/-- A list whose instant cannot be kept fails with the reason (R349). -/
theorem txnValidated_late (h : s.txnWhen x ≠ 0) :
    s.txnValidated r idx = s.txnEnd x 1 (txnResult (s.txnWhen x) 0 0) := by
  simp [txnValidated, hx, h]

/-- A list that passes its checks waits for the instant that it names (R349, R353). -/
theorem txnValidated_passes (h : s.txnWhen x = 0) (himm : x.imm = false)
    (hok : s.entriesBad 0 x.entries = none) :
    s.txnValidated r idx = s.updTxn x.ring idx (fun y => { y with valid := true }) := by
  simp [txnValidated, hx, h, himm, hok]

end

/-- The next transaction to apply is committed 1 µs before its instant (R353). -/
theorem commitDue_commits {idx a : Nat} {x : Txn} (hnext : s.commitNext = some (r, idx, a))
    (hx : s.txn? r idx = some x) (hat : s.txnNext x = some a) :
    s.commitDue = (s.advTo (a - 1000)).updTxn r idx (fun y => { y with committed := true }) := by
  have hring : x.ring = r := by
    have := List.find?_some hx
    simp only [Bool.and_eq_true, decide_eq_true_eq] at this
    exact this.1
  simp [commitDue, hnext, txnCommit, hx, hat, hring]

end State

/-! ## The commands -/

section
variable {r : Nat} (hr : r < 32) (hm : HostMem) (s : State)
include hr

/-- A command of one of the 32 rings acts. -/
theorem gate_ring (t : State) : gate (okRing r) t = .next t := if_pos (decide_eq_true hr)

theorem exec_ringNop : exec (.ringNop r hm) s = .next ((s.see hm).ringNop r hm) := gate_ring hr _

theorem exec_undefinedOp :
    exec (.undefinedOpDescriptor r hm) s = .next ((s.see hm).ringUndef r hm) := gate_ring hr _

theorem exec_fetchFault : exec (.fetchFault r hm) s = .next ((s.see hm).ringFetchFault r hm) :=
  gate_ring hr _

theorem exec_workSubmit : exec (.workSubmit r hm) s = .next ((s.see hm).workSubmit r hm) :=
  gate_ring hr _

theorem exec_queue : exec (.queue r hm) s = .next ((s.see hm).twRing r hm) := gate_ring hr _

theorem exec_copy : exec (.copy r hm) s = .next ((s.see hm).copy r hm) := gate_ring hr _

theorem exec_copyDone : exec (.copyDone r hm) s = .next ((s.see hm).copyDone r hm) := gate_ring hr _

theorem exec_ringCancel : exec (.ringCancel r hm) s = .next ((s.see hm).ringCancel r hm) :=
  gate_ring hr _

theorem exec_transact : exec (.transact r hm) s = .next ((s.see hm).transact r hm) := gate_ring hr _

theorem exec_transactValidated (idx : Nat) :
    exec (.transactValidated r idx) s = .next (s.txnValidated r idx) := gate_ring hr _

end

/-- Settles O48, descriptor by descriptor. -/
theorem descriptorsRunAndComplete : Obligations.DescriptorsRunAndComplete := by
  refine ⟨?fetch, ?nop, ?area, ?undefined, ?fault, ?work, ?queue, ?copy, ?copyDone, ?cancel,
    ?transact, ?validated, ?commit⟩
  case fetch =>
    intro s r hm b want hr hrun hnone hpeek hwant hok hcr
    obtain ⟨hnext, houts, hcount, hmem, hsent⟩ := s.fetchFirst_shows r b
    exact ⟨_, State.fetchEvent_first hr hrun hnone hpeek hwant hok hcr, hnext, houts, hcount, hmem,
      hsent⟩
  case nop =>
    intro s r hm d u hr hfetch
    rw [exec_ringNop hr, State.ringNop, hfetch]
  case area =>
    exact fun s r idx d status result flags a hr hd horder hlate hpage hx =>
      State.complete_writes_area result flags hr hd horder hlate hpage hx
  case undefined =>
    rintro s _ r hm b rfl hr hrun hnone hpeek hbad
    have hfetch := State.fetchEvent_bad (s := s.see hm)
      (want := fun b => descBad ((s.see hm).rtype r) (s.see hm).abi b = some 0) hr hrun hnone hpeek
      (decide_eq_true hbad) hbad
    rw [exec_undefinedOp hr, State.ringUndef, hfetch]
    rfl
  case fault =>
    intro s r hm b e u hr hpeek
    obtain ⟨hst, hflag⟩ := State.fetchHalt_halted u r
    rw [State.Gives, exec_fetchFault hr, State.ringFetchFault, hpeek]
    exact ⟨_, rfl, rfl, hst, hflag, u.fetchHalt_host r⟩
  case work =>
    intro s r hm d u hr hfetch
    rw [exec_workSubmit hr, State.workSubmit, hfetch]
  case queue =>
    rintro s r hm d u _ hr hfetch rfl
    rw [exec_queue hr, State.twRing, hfetch]
    exact ⟨fun h => congrArg _ (if_pos h), fun h => congrArg _ (if_neg h)⟩
  case copy =>
    intro s r hm d u hr hfetch
    rw [exec_copy hr, State.copy, hfetch]
    exact ⟨fun h => congrArg _ (if_pos h), fun h => congrArg _ (if_neg (by rw [h]; decide))⟩
  case copyDone =>
    intro s r hm d h a n hr hd hbusy hn
    rw [exec_copyDone hr]
    exact ⟨fun b u hargs hrd hlen => congrArg _
        (State.copyDone_running (s := s.see hm) hr hd hbusy hargs (State.copyIn_done hn hrd hlen)),
      fun b u k v hargs hrd hwr => congrArg _
        (State.copyDone_running (s := s.see hm) hr hd hbusy hargs (State.copyOut_done hrd hwr))⟩
  case cancel =>
    rintro s r hm d u _ hr hfetch rfl
    rw [exec_ringCancel hr, State.ringCancel, hfetch]
  case transact =>
    rintro s r hm d u _ hr hfetch rfl hnew
    rw [exec_transact hr]
    refine ⟨fun h => ?_, fun hlo hhi h => ?_, ?_⟩
    · rw [State.transact_refused hfetch hnew (State.txnPend_count h)]
    · rw [State.transact_refused hfetch hnew (State.txnPend_full hlo hhi h)]
    · rintro hlo hhi h himm b _ v rfl hrd
      rw [State.transact_staged hfetch hnew (State.txnPend_stands hlo hhi h himm) hrd]
  case validated =>
    intro s r idx t hr ht
    rw [exec_transactValidated hr]
    exact ⟨fun h => congrArg _ (State.txnValidated_late ht h),
      fun h himm hok => congrArg _ (State.txnValidated_passes ht h himm hok)⟩
  case commit =>
    exact fun s r idx a t hnext ht hat =>
      congrArg Host.Outcome.next (State.commitDue_commits hnext ht hat)

end Sys2Proof.Machine
end

section
/-! SUPPORT. Writes of the host that reach HOST: the control bits of a ring and what EN, RESUME and the
end of a drain make of its state. -/

namespace Sys2Proof.Machine

open Sys2Proof

/-! ## The registers of the rings -/

/-- Registers of the rings at different places of their 0x40 bytes are different, whatever the rings. -/
theorem ringReg_ne {a b r q : Nat} (h : a % 0x40 ≠ b % 0x40) : a + 0x40 * r ≠ b + 0x40 * q := by omega

/-- A write under a mask that takes in none of the two lowest bits leaves a word that agrees with the
data above them. -/
theorem maskedWrite_same {old data m : Nat} (hold : old < 2 ^ 32)
    (hm : m.testBit 0 = false ∧ m.testBit 1 = false)
    (hdata : ∀ i, 2 ≤ i → data.testBit i = old.testBit i) :
    (old &&& ((0xFFFFFFFF &&& m) ^^^ 0xFFFFFFFF)) ||| (data &&& 0xFFFFFFFF &&& m) = old := by
  obtain ⟨hm0, hm1⟩ := hm
  refine Nat.eq_of_testBit_eq fun i => ?_
  have hones : (0xFFFFFFFF : Nat).testBit i = decide (i < 32) := Nat.testBit_two_pow_sub_one (n := 32) i
  simp only [Nat.testBit_or, Nat.testBit_and, Nat.testBit_xor, hones]
  by_cases hi : i < 32
  · cases hmi : m.testBit i with
    | false => simp [hi]
    | true =>
      have hi2 : 2 ≤ i := by
        rcases i with _ | _ | i
        · rw [hm0] at hmi
          cases hmi
        · rw [hm1] at hmi
          cases hmi
        · omega
      simp [hi, hdata i hi2]
  · have hhigh : old.testBit i = false :=
      Nat.testBit_lt_two_pow (Nat.lt_of_lt_of_le hold (Nat.pow_le_pow_right (by decide) (by omega)))
    simp [hi, hhigh]

/-- Words that agree above their two lowest bits differ in no bit of a mask that takes in neither. -/
theorem maskedDiff_zero {old data m : Nat} (hm : m.testBit 0 = false ∧ m.testBit 1 = false)
    (hdata : ∀ i, 2 ≤ i → data.testBit i = old.testBit i) :
    (old ^^^ data) &&& 0xFFFFFFFF &&& m = 0 := by
  obtain ⟨hm0, hm1⟩ := hm
  refine Nat.eq_of_testBit_eq fun i => ?_
  simp only [Nat.testBit_and, Nat.testBit_xor, Nat.zero_testBit]
  rcases i with _ | _ | i
  · simp [hm0]
  · simp [hm1]
  · simp [hdata (i + 1 + 1) (by omega)]

/-- A whole register written with its word. -/
theorem setBits_word (x : Word) : setBits x.toNat 0 32 x.toNat = x.toNat := by
  have hx : x.toNat % 2 ^ 32 = x.toNat := Nat.mod_eq_of_lt x.isLt
  simp only [setBits, bits, Nat.shiftRight_zero, hx, Nat.pow_zero, Nat.mul_one, Nat.sub_self,
    Nat.zero_add]

namespace State

variable {s t u : State} {r : Nat}

/-! ## Writes of the host that reach HOST -/

/-- A write of HOST. -/
theorem hostW_host (hs : s.Awake) {a data : Nat} (ha : a % 4 = 0) (hb : a / 0x10000 = 2)
    (hd : data < 2 ^ 32) : s.hostW a data = s.wrHost (wholeWrite a data) := by
  have hstep : a ≠ R.ETH_STEP_CMD.addr := by
    have : R.ETH_STEP_CMD.addr = 0xb0024 := rfl
    omega
  rw [hostW_awake s hs ha hd, busW_eq_busW1 s _ hstep]
  simp [busW1, hb, below_lanes_of_block hb (by decide)]

/-- A write of a register of a ring. -/
theorem hostW_ring (hs : s.Awake) (hr : r < 32) {a k data : Nat} (ha : a = 0x21000 + k + 0x40 * r)
    (hk : k < 0x40 ∧ k % 4 = 0) (hd : data < 2 ^ 32) :
    s.hostW a data = s.wrRing r (wholeWrite a data) := by
  have hsel : R.HOST_ABI_SEL.addr = 0x20010 := rfl
  have hclr : R.HOST_CNT_CLR.addr = 0x2002c := rfl
  have hmode : R.IOMMU_CTRL.addr = 0x20800 := rfl
  have hinv : R.IOMMU_INV.addr = 0x2080c := rfl
  have hzero : R.IOMMU_CNT_CLR.addr = 0x2082c := rfl
  have hdb : ix a 0x22000 8 32 = none := by
    rw [ix, if_neg]
    simp only [Bool.and_eq_true, decide_eq_true_eq]
    omega
  have hplace : (0x21000 ≤ a && a < 0x21800) = true := by
    simp only [Bool.and_eq_true, decide_eq_true_eq]
    omega
  have hring : (a - 0x21000) / 0x40 = r := by omega
  rw [hostW_host hs (by omega) (by omega) hd, wrHost, wholeWrite_a, if_neg (by omega),
    if_neg (by omega), if_neg (by omega), if_neg (by omega), if_neg (by omega), hdb]
  dsimp only
  rw [if_pos hplace, hring]

theorem hostW_ringCfg (hs : s.Awake) (hr : r < 32) {data : Nat} (hd : data < 2 ^ 32) :
    s.hostW (R.HOST_RING_CFG r).addr data = s.ringCfgWrite r 0xFFFFFFFF data := by
  have hofs : ((R.HOST_RING_CFG r).addr - 0x21000) % 0x40 = 0 := by
    change (0x21000 + 0x40 * r - 0x21000) % 0x40 = 0
    omega
  have hplace : (R.HOST_RING_CFG r).addr = 0x21000 + 0 + 0x40 * r := by
    rw [Nat.add_zero]
    rfl
  rw [hostW_ring hs hr hplace (by decide) hd]
  unfold wrRing
  rw [wholeWrite_a, hofs]
  simp [wholeWrite]

/-- A write of a ring's doorbell (R327). -/
theorem hostW_db (hs : s.Awake) (hr : r < 32) {data : Nat} (hd : data < 2 ^ 32) :
    s.hostW (R.HOST_DB r).addr data = s.doorbell r data := by
  have ha : (R.HOST_DB r).addr = 0x22000 + 0x8 * r := rfl
  have hsel : R.HOST_ABI_SEL.addr = 0x20010 := rfl
  have hclr : R.HOST_CNT_CLR.addr = 0x2002c := rfl
  have hmode : R.IOMMU_CTRL.addr = 0x20800 := rfl
  have hinv : R.IOMMU_INV.addr = 0x2080c := rfl
  have hzero : R.IOMMU_CNT_CLR.addr = 0x2082c := rfl
  have hdb : ix (0x22000 + 0x8 * r) 0x22000 8 32 = some r := by
    rw [ix, if_pos]
    · congr 1
      omega
    · simp only [Bool.and_eq_true, decide_eq_true_eq]
      omega
  rw [hostW_host hs (by omega) (by omega) hd, wrHost, wholeWrite_a, if_neg (by omega),
    if_neg (by omega), if_neg (by omega), if_neg (by omega), if_neg (by omega), ha, hdb]
  dsimp only
  rw [wholeWrite_cmd _ hd]

/-! ## The control bits of a ring -/

/-- HOST_RING_CFG written with what it holds. -/
def cfgSame (s : State) (r : Nat) : State := s.set (R.HOST_RING_CFG r) (s.word (R.HOST_RING_CFG r))

/-- What is written back reads as before. -/
theorem get_cfgSame (s : State) (r : Nat) {g : Fld}
    (h : g.addr = (R.HOST_RING_CFG r).addr → g.rst = 0x100) :
    (s.cfgSame r).get g = s.get g := by
  by_cases ha : g.addr = (R.HOST_RING_CFG r).addr
  · have hword : (s.cfgSame r).word (R.HOST_RING_CFG r) = s.word (R.HOST_RING_CFG r) := by
      rw [cfgSame, word_set _ _ _ (show 0 + 32 ≤ 32 by decide)]
      exact setBits_word (sget s.regs _ _)
    rw [get, get, word_congr _ ha (h ha), hword, ← word_congr _ ha (h ha)]
  · exact get_set_ne _ _ _ _ ha

theorem rst_cfgSame (s : State) (r q : Nat) : (s.cfgSame r).rst q = s.rst q :=
  rst_set_ne s _ (ringReg_ne (by decide))

theorem abi?_cfgSame (s : State) (r : Nat) : (s.cfgSame r).abi? = s.abi? := by
  have hsel (g : Fld) (ha : g.addr = R.HOST_ABI_SEL.addr) : (s.cfgSame r).get g = s.get g := by
    refine get_set_ne _ _ _ _ ?_
    rw [ha]
    change 0x20010 ≠ 0x21000 + 0x40 * r
    omega
  rw [abi?, abi?, on, on, hsel F.HOST_ABI_SEL_VALID rfl, hsel F.HOST_ABI_SEL_MINOR rfl]

/-- The checks of an EN do not depend on such a write. -/
theorem enableOk_cfgSame (s : State) (r : Nat) : (s.cfgSame r).enableOk r = s.enableOk r := by
  have htype (q : Nat) : (s.cfgSame r).rtype q = s.rtype q := by
    rw [rtype, rtype, rtypeCode, rtypeCode, get_cfgSame s r (fun _ => rfl)]
    rfl
  have hsub (q : Nat) : (s.cfgSame r).get (F.HOST_RING_CFG_SUB q) = s.get (F.HOST_RING_CFG_SUB q) :=
    get_cfgSame s r fun _ => rfl
  have hsize : (s.cfgSame r).get (F.HOST_RING_CFG_SIZE r) = s.get (F.HOST_RING_CFG_SIZE r) :=
    get_cfgSame s r fun _ => rfl
  have hbase : (s.cfgSame r).get (R.HOST_RING_BASE_LO r) = s.get (R.HOST_RING_BASE_LO r) :=
    get_set_ne _ _ _ _ (ringReg_ne (by decide))
  simp only [enableOk, abi?_cfgSame, htype, hsub, hsize, hbase, rst_cfgSame]

/-- A write of EN and RESUME beside which HOST_RING_CFG stays: RESUME first, then EN (R325, R329). -/
def control (s : State) (r : Nat) (en resume : Bool) : State :=
  let res := resume && decide (s.rst r = .halted)
  let u := (s.cfgSame r).when res (·.ringResume r)
  if en then u.ringEnable r
  else if res && !u.on (F.HOST_RING_CFG_EN r) then u else u.ringDisable r

theorem ringCfgWrite_control {data : Nat}
    (hdata : ∀ i, 2 ≤ i → data.testBit i = (s.word (R.HOST_RING_CFG r)).testBit i) :
    s.ringCfgWrite r 0xFFFFFFFF data = s.control r (bit data 0) (bit data 1) := by
  have hold : s.word (R.HOST_RING_CFG r) < 2 ^ 32 := BitVec.isLt _
  have hopen := maskedWrite_same (m := 0x1FFFFC) hold (by decide) hdata
  have hlocked := maskedWrite_same (m := 0x1F8000) hold (by decide) hdata
  have hkept := maskedDiff_zero (m := 0x00007FFC) (by decide) hdata
  have hmask0 : bit 0xFFFFFFFF 0 = true := by decide
  have hmask1 : bit 0xFFFFFFFF 1 = true := by decide
  have hwrite : (if s.rst r = .disabled then s.set (R.HOST_RING_CFG r) (s.word (R.HOST_RING_CFG r))
      else s.set (R.HOST_RING_CFG r) (s.word (R.HOST_RING_CFG r))) = s.cfgSame r := ite_self _
  simp only [ringCfgWrite, hopen, hlocked, hkept, hmask0, hmask1, ne_eq, not_true_eq_false, decide_false,
    when_false, Bool.true_and, Bool.not_true, Bool.false_eq_true, if_false, hwrite, rst_cfgSame, control]

/-- A one-bit field is a bit of its word. -/
theorem bit_word (s : State) {f : Fld} (hw : f.w = 1) : bit (s.word f) f.lo = s.on f := by
  have hbit : (s.get f).testBit 0 = bit (s.word f) f.lo := by
    rw [get, testBit_bits, hw]
    simp [bit]
  have hlt := get_lt s f
  rw [hw] at hlt
  rw [← hbit, on]
  interval_cases s.get f <;> rfl

/-- A host's write of one of the two control bits. -/
theorem hostW_control (hs : s.Awake) (hr : r < 32) {k : Nat} (hk : k < 2) (v : Nat) :
    s.hostW (R.HOST_RING_CFG r).addr (setBits (s.word (R.HOST_RING_CFG r)) k 1 v) =
      s.control r (if k = 0 then v.testBit 0 else s.on (F.HOST_RING_CFG_EN r))
        (if k = 1 then v.testBit 0 else s.on (F.HOST_RING_CFG_RESUME r)) := by
  have hd : setBits (s.word (R.HOST_RING_CFG r)) k 1 v < 2 ^ 32 :=
    setBits_lt _ _ _ _ 32 (by omega) (BitVec.isLt _)
  have hen : bit (s.word (R.HOST_RING_CFG r)) 0 = s.on (F.HOST_RING_CFG_EN r) :=
    bit_word s (f := F.HOST_RING_CFG_EN r) rfl
  have hres : bit (s.word (R.HOST_RING_CFG r)) 1 = s.on (F.HOST_RING_CFG_RESUME r) :=
    bit_word s (f := F.HOST_RING_CFG_RESUME r) rfl
  rw [hostW_ringCfg hs hr hd,
    ringCfgWrite_control fun i hi => by rw [testBit_setBits, if_neg (by omega)], ← hen, ← hres]
  simp only [bit, testBit_setBits]
  obtain rfl | rfl : k = 0 ∨ k = 1 := by omega
  all_goals rfl

/-! ## EN and RESUME -/

theorem control_enable (h : s.rst r = .disabled) (resume : Bool) :
    s.control r true resume = (s.cfgSame r).ringEnable r := by
  simp [control, h]

theorem control_disable (s : State) (r : Nat) :
    s.control r false false = (s.cfgSame r).ringDisable r := by
  simp [control]

/-- A resumed ring runs, with EN as it was (R329). -/
theorem ringResume_running (h : s.rst r = .halted) : (s.ringResume r).rst r = .running ∧
    (s.ringResume r).on (F.HOST_RING_CFG_EN r) = s.on (F.HOST_RING_CFG_EN r) := by
  have hen (u : State) {f : Fld} {a : Nat} (v : Nat) (hf : f.addr = a + 0x40 * r) (ha : a % 0x40 ≠ 0) :
      (u.set f v).get (F.HOST_RING_CFG_EN r) = u.get (F.HOST_RING_CFG_EN r) :=
    get_set_ne _ _ _ _ (hf ▸ ringReg_ne ha.symm)
  unfold ringResume
  rw [if_pos h]
  split
  · refine ⟨rst_setRst_same _ _ _, on_congr ?_⟩
    rw [setRst, hen _ _ rfl (by decide), ringCounts, hen _ _ rfl (by decide), hen _ _ rfl (by decide),
      get_setRing, hen _ _ rfl (by decide)]
  · exact ⟨rst_setRst_same _ _ _, on_congr (hen _ _ rfl (by decide))⟩

theorem control_resume (h : s.rst r = .halted) :
    s.control r (s.on (F.HOST_RING_CFG_EN r)) true = (s.cfgSame r).ringResume r := by
  obtain ⟨hrun, hon⟩ := ringResume_running ((rst_cfgSame s r r).trans h)
  have hen : (s.cfgSame r).on (F.HOST_RING_CFG_EN r) = s.on (F.HOST_RING_CFG_EN r) :=
    on_congr (get_cfgSame s r fun _ => rfl)
  have hkept : ((s.cfgSame r).ringResume r).ringEnable r = (s.cfgSame r).ringResume r := by
    rw [ringEnable, hrun]
  cases hv : s.on (F.HOST_RING_CFG_EN r) <;> simp [control, h, hon, hen, hv, hkept]

/-! ### EN written 1 -/

/-- EN written 1 on a DISABLED ring (R325). -/
theorem exec_ringEnable (hs : s.Awake) (hr : r < 32) (h : s.rst r = .disabled) :
    exec (.ringEnable r) s = .next ((s.cfgSame r).ringEnable r) := by
  have hexec : exec (.ringEnable r) s = .next (s.hostF (F.HOST_RING_CFG_EN r) 1) := gate_ring hr _
  exact hexec.trans (congrArg _ ((hostW_control hs hr (k := 0) (by decide) 1).trans
    (control_enable h _)))

/-- EN written 0 (R329). -/
theorem exec_ringDisable (hs : s.Awake) (hr : r < 32) (h : s.on (F.HOST_RING_CFG_RESUME r) = false) :
    exec (.ringDisable r) s = .next ((s.cfgSame r).ringDisable r) := by
  have hexec : exec (.ringDisable r) s = .next (s.hostF (F.HOST_RING_CFG_EN r) 0) := gate_ring hr _
  have hwrite := hostW_control hs hr (k := 0) (by decide) 0
  rw [h] at hwrite
  exact hexec.trans (congrArg _ (hwrite.trans (control_disable s r)))

/-- RESUME written on a HALTED ring (R329). -/
theorem exec_ringResume (hs : s.Awake) (hr : r < 32) (h : s.rst r = .halted) :
    exec (.ringResume r) s = .next ((s.cfgSame r).ringResume r) := by
  have hexec : exec (.ringResume r) s = .next (s.hostF (F.HOST_RING_CFG_RESUME r) 1) := gate_ring hr _
  exact hexec.trans (congrArg _ ((hostW_control hs hr (k := 1) (by decide) 1).trans
    (control_resume h)))

/-! ### What EN, RESUME and the end of a drain leave -/

theorem rst_setRst_ne (s : State) {r q : Nat} (x : RState) (h : q ≠ r) :
    (s.setRst r x).rst q = s.rst q := by
  refine rst_set_ne s _ ?_
  change 0x21018 + 0x40 * r ≠ 0x21018 + 0x40 * q
  omega

theorem rst_ringCounts (s : State) (r q : Nat) : (s.ringCounts r).rst q = s.rst q :=
  (rst_ringFlag _ r q (by decide) _).trans (rst_set_ne s _ (ringReg_ne (by decide)))

/-- The ring after an EN that its checks take: empty and RUNNING (R325, R326, R329). -/
theorem ringEnable_ok (h : s.rst r = .disabled) (hok : s.enableOk r = true) :
    (s.ringEnable r).rst r = .running ∧ (s.ringEnable r).ring r = {} ∧
      (s.ringEnable r).get (R.HOST_RING_PI r) = 0 ∧ (s.ringEnable r).get (R.HOST_RING_CI r) = 0 ∧
      (s.ringEnable r).on (F.HOST_RING_CFG_EN r) = true ∧
      (s.ringEnable r).get (F.HOST_RING_OUT_OUT r) = 0 ∧ (s.ringEnable r).mem = s.mem ∧
      ∀ q, q < 32 → q ≠ r → (s.ringEnable r).rst q = s.rst q ∧ (s.ringEnable r).ring q = s.ring q := by
  have hkept (u : State) {f g : Fld} {a b : Nat} (v : Nat) (hf : f.addr = a + 0x40 * r)
      (hg : g.addr = b + 0x40 * r) (hne : b % 0x40 ≠ a % 0x40) : (u.set f v).get g = u.get g :=
    get_set_ne _ _ _ _ (hf ▸ hg ▸ ringReg_ne hne)
  unfold ringEnable
  rw [h, if_pos hok]
  refine ⟨?_, ?_, ?_, ?_, ?_, ?_, ?_, fun q _ hq => ⟨?_, ?_⟩⟩
  · rw [rst_ringCounts, rst_setRst_same]
  · simp [setRst]
  · rw [ringCounts, hkept _ _ rfl rfl (by decide), hkept _ _ rfl rfl (by decide), setRst,
      hkept _ _ rfl rfl (by decide), hkept _ _ rfl rfl (by decide), get_setRing,
      hkept _ _ rfl rfl (by decide), get_set _ _ _ (show 0 + 32 ≤ 32 by decide), Nat.zero_mod]
  · rw [ringCounts, hkept _ _ rfl rfl (by decide), hkept _ _ rfl rfl (by decide), setRst,
      hkept _ _ rfl rfl (by decide), hkept _ _ rfl rfl (by decide), get_setRing,
      get_set _ _ _ (show 0 + 32 ≤ 32 by decide), Nat.zero_mod]
  · rw [on, ringCounts, hkept _ _ rfl rfl (by decide), hkept _ _ rfl rfl (by decide), setRst,
      hkept _ _ rfl rfl (by decide), get_set _ _ _ (show 0 + 1 ≤ 32 by decide)]
    rfl
  · rw [ringCounts_out]
    simp [setRst]
  · simp [ringCounts, setRst, setRing]
  · rw [rst_ringCounts, rst_setRst_ne _ _ hq, rst_set_ne _ _ (ringReg_ne (by decide)), rst_setRing,
      rst_set_ne _ _ (ringReg_ne (by decide)), rst_set_ne _ _ (ringReg_ne (by decide))]
  · simp [setRst, ring_setRing_ne _ _ hq]

/-- An EN that fails a check is refused (R325). -/
theorem ringEnable_refused (h : s.rst r = .disabled) (hok : s.enableOk r = false) :
    (s.ringEnable r).rst r = .disabled ∧ (s.ringEnable r).on (F.HOST_RING_STAT_EN_REJ r) = true ∧
      (s.ringEnable r).on (F.HOST_RING_CFG_EN r) = false ∧ (s.ringEnable r).host = s.host := by
  have hrej : s.ringEnable r = (s.set (F.HOST_RING_CFG_EN r) 0).flag (F.HOST_RING_STAT_EN_REJ r) := by
    simp [ringEnable, h, hok]
  rw [hrej]
  refine ⟨?_, on_ringFlag _ r (by decide), ?_, rfl⟩
  · exact (rst_ringFlag _ r r (by decide) 1).trans ((rst_set_ne s _ (ringReg_ne (by decide))).trans h)
  · rw [on, flag, get_set_ne _ _ _ _ (ringReg_ne (by decide)), get_set _ _ _ (show 0 + 1 ≤ 32 by decide)]
    rfl

/-- The ring after EN = 0 in RUNNING or HALTED: it drains (R329). -/
theorem ringDisable_drains (h : s.rst r = .running ∨ s.rst r = .halted) :
    (s.ringDisable r).rst r = .draining ∧ (s.ringDisable r).on (F.HOST_RING_CFG_EN r) = false ∧
      RegsOnly [(R.HOST_RING_CFG r).addr, (F.HOST_RING_STAT_STATE r).addr] s (s.ringDisable r) := by
  have hst : (s.set (F.HOST_RING_CFG_EN r) 0).rst r = s.rst r := rst_set_ne s _ (ringReg_ne (by decide))
  have hdrain : s.ringDisable r = (s.set (F.HOST_RING_CFG_EN r) 0).setRst r .draining := by
    rcases h with h | h <;> simp [ringDisable, hst, h]
  rw [hdrain]
  refine ⟨rst_setRst_same _ _ _, ?_, .set (.set (.refl _ s) _ ?_) _ ?_⟩
  · rw [on, setRst, get_set_ne _ _ _ _ (ringReg_ne (by decide)),
      get_set _ _ _ (show 0 + 1 ≤ 32 by decide)]
    rfl
  · exact List.mem_cons_self ..
  · exact List.mem_cons_of_mem _ (List.mem_singleton_self _)

/-- A ring without a walk fault keeps all of its hidden state over RESUME (R329). -/
theorem ringResume_plain (h : s.rst r = .halted) (hw : (s.ring r).walkPi = none) :
    (s.ringResume r).host = s.host := by
  simp [ringResume, h, hw, setRst]

/-- After a walk fault a ring goes on from the walk's PI, with nothing outstanding (R359). -/
theorem ringResume_walked {p : Nat} (h : s.rst r = .halted) (hw : (s.ring r).walkPi = some p)
    (hp : p < 2 ^ 32) : (s.ringResume r).get (R.HOST_RING_CI r) = p ∧
      ((s.ringResume r).ring r).outs = [] ∧ ((s.ringResume r).ring r).fetch = p ∧
      ((s.ringResume r).ring r).walkPi = none := by
  have hgo : s.ringResume r = (((s.set (R.HOST_RING_CI r) p).setRing r { s.ring r with
      walkPi := none, outs := [], doneIdx := [], held := [], fetch := p }).ringCounts r).setRst r
        .running := by
    simp [ringResume, h, hw]
  have hring : (s.ringResume r).ring r = { s.ring r with
      walkPi := none, outs := [], doneIdx := [], held := [], fetch := p } := by
    simp [hgo, setRst]
  refine ⟨?_, by rw [hring], by rw [hring], by rw [hring]⟩
  rw [hgo, setRst, get_set_ne _ _ _ _ (ringReg_ne (by decide)), ringCounts,
    get_set_ne _ _ _ _ (ringReg_ne (by decide)), get_set_ne _ _ _ _ (ringReg_ne (by decide)),
    get_setRing, get_set _ _ _ (show 0 + 32 ≤ 32 by decide)]
  exact Nat.mod_eq_of_lt hp

/-- t has the hidden state of HOST and the indices of the rings as s has them. -/
def RingsAt (s t : State) : Prop := t.host = s.host ∧
  ∀ q, t.get (R.HOST_RING_CI q) = s.get (R.HOST_RING_CI q) ∧
    t.get (R.HOST_RING_PI q) = s.get (R.HOST_RING_PI q)

theorem drainDone_ringsAt (h : RingsAt s t) (q : Nat) : RingsAt s (t.drainDone q) := by
  obtain ⟨hhost, hidx⟩ := h
  unfold drainDone
  split
  · refine ⟨hhost, fun p => ⟨?_, ?_⟩⟩
    · exact (get_set_ne _ _ _ _ (ringReg_ne (by decide))).trans (hidx p).1
    · exact (get_set_ne _ _ _ _ (ringReg_ne (by decide))).trans (hidx p).2
  · exact ⟨hhost, hidx⟩

/-- Rings that drain and have completed all they held become DISABLED, the others stay (R329). -/
theorem drainDone_each (s : State) : (s.each 32 drainDone).host = s.host ∧ ∀ r, r < 32 →
    (s.each 32 drainDone).rst r =
      if s.rst r = .draining ∧ s.get (R.HOST_RING_CI r) = s.get (R.HOST_RING_PI r) then .disabled
      else s.rst r := by
  have hstay : RingsAt s s := ⟨rfl, fun _ => ⟨rfl, rfl⟩⟩
  refine ⟨(List.foldlRecOn _ _ hstay fun _ h q _ => drainDone_ringsAt h q).1, fun r hr => ?_⟩
  have hother (t : State) (l m : Nat) (_ : RingsAt s t) (hm : m ≠ l) :
      (t.drainDone l).rst m = t.rst m := by
    unfold drainDone
    split
    · exact rst_setRst_ne t _ hm
    · rfl
  obtain ⟨u, ⟨-, hidx⟩, hsame, hend⟩ := foldl_levels (V := fun m t => t.rst m)
    (fun t l h => drainDone_ringsAt h l) hother hstay hr
  obtain ⟨hci, hpi⟩ := hidx r
  refine hend.trans ?_
  simp only [drainDone, hsame, hci, hpi, Bool.and_eq_true, decide_eq_true_eq]
  split
  · exact rst_setRst_same _ _ _
  · exact hsame

end State
end Sys2Proof.Machine
end

section
/-! SUPPORT. Doorbells, the ABI selection, interrupt messages and the link. Then what
11_host_rings.md has proved of the rings: RingsEnableRunAndDrain. -/

namespace Sys2Proof.Machine

open Sys2Proof

namespace State

variable {s t u : State} {r : Nat}

/-! ## Doorbells (R327) -/

theorem exec_hostDb (hs : s.Awake) (hr : r < 32) {pi : Nat} (hpi : pi < 2 ^ 32) :
    exec (.hostDb r pi) s = .next (s.doorbell r pi) := by
  have hok : (okRing r && okU32 pi) = true :=
    Bool.and_eq_true_iff.2 ⟨decide_eq_true hr, decide_eq_true hpi⟩
  have hexec : exec (.hostDb r pi) s = .next (s.hostW (R.HOST_DB r).addr pi) := if_pos hok
  rw [hexec, hostW_db hs hr hpi]

theorem doorbell_dropped (h : s.rst r = .disabled ∨ s.rst r = .draining) (pi : Nat) :
    s.doorbell r pi = s.set (F.HOST_RING_STAT_DB_DROP r) 1 := by
  rw [doorbell, if_pos (by simpa using h), flag]

/-- On a RUNNING or HALTED ring the doorbell's place among the ring's slots decides. -/
theorem doorbell_judged (h : s.rst r = .running ∨ s.rst r = .halted) {pi span last : Nat}
    (hspan : span = (pi + 2 ^ 32 - s.get (R.HOST_RING_CI r)) % 2 ^ 32)
    (hlast : last = (s.get (R.HOST_RING_PI r) + 2 ^ 32 - s.get (R.HOST_RING_CI r)) % 2 ^ 32) :
    s.doorbell r pi = if 2 ^ s.get (F.HOST_RING_CFG_SIZE r) < span ∨ span < last then
      s.set (F.HOST_RING_STAT_DB_BAD r) 1 else s.set (R.HOST_RING_PI r) pi := by
  have hlive : ¬ (s.rst r = .disabled || s.rst r = .draining) = true := by
    rcases h with h | h <;> simp [h]
  rw [doorbell, if_neg hlive]
  simp only [← hspan, ← hlast, Bool.or_eq_true, decide_eq_true_eq, gt_iff_lt, flag]

/-! ## The ABI selection (R344) -/

theorem exec_hostAbiSelWrite (hs : s.Awake) {data : Nat} (hd : data < 2 ^ 32) :
    exec (.hostAbiSelWrite data) s = .next (s.abiSel 0xFFFFFFFF data) := by
  have hexec : exec (.hostAbiSelWrite data) s = .next (s.hostW R.HOST_ABI_SEL.addr data) :=
    if_pos (decide_eq_true hd)
  rw [hexec, hostW_host hs (by decide) (by decide) hd, wrHost, wholeWrite_a, if_pos rfl, wholeWrite_data]
  rfl

/-- A field of a register reads its bits of what was written to the whole register. -/
theorem get_set_whole (s : State) {f g : Fld} (v : Nat) (hf : f.lo = 0 ∧ f.w = 32)
    (hg : f.addr = g.addr ∧ f.rst = g.rst ∧ g.lo + g.w ≤ 32) : (s.set f v).get g = bits v g.lo g.w := by
  obtain ⟨hlo, hw⟩ := hf
  obtain ⟨haddr, hrst, hfit⟩ := hg
  rw [get, ← word_congr _ haddr hrst, word_set s _ v (by omega), hlo, hw,
    bits_setBits_inside _ _ _ _ _ hfit]

/-- The selection that is valid: major version 1, minor 0 to 2. -/
def abiValid (v : Nat) : Bool := v / 256 = 1 && v % 256 ≤ 2

/-- HOST_ABI_SEL after a write of its low half. -/
def abiTaken (s : State) (v : Nat) : State :=
  (s.set R.HOST_ABI_SEL (v + 0x10000 * b2n (abiValid v))).when (!abiValid v) (·.flag F.HOST_STAT_ABI_REJ)

/-- With every ring DISABLED the low half of the data is taken. -/
theorem abiSel_taken (h : ∀ r, r < 32 → s.rst r = .disabled) (data : Nat) :
    s.abiSel 0xFFFFFFFF data = s.abiTaken (data % 2 ^ 16) := by
  have hall : ((List.range Config.rings).all fun r => s.rst r = .disabled) = true :=
    List.all_eq_true.2 fun r hr => decide_eq_true (h r (List.mem_range.1 hr))
  have hlow : (s.word R.HOST_ABI_SEL &&& 0xFFFF &&& ((0xFFFFFFFF &&& 0xFFFF) ^^^ 0xFFFF)) |||
      (data &&& (0xFFFFFFFF &&& 0xFFFF)) = data % 2 ^ 16 :=
    merge_whole _ data 16 (by decide)
  rw [abiSel, if_pos hall]
  simp only [hlow]
  rfl

/-- With a ring that is not DISABLED the write is refused. -/
theorem abiSel_refused (h : ∃ r, r < 32 ∧ s.rst r ≠ .disabled) (mask data : Nat) :
    s.abiSel mask data = s.set F.HOST_STAT_ABI_REJ 1 := by
  obtain ⟨r, hr, hne⟩ := h
  have hnot : ¬ ((List.range Config.rings).all fun r => s.rst r = .disabled) = true := by
    rw [List.all_eq_true]
    exact fun hall => hne (of_decide_eq_true (hall r (List.mem_range.2 hr)))
  rw [abiSel, if_neg hnot, flag]

/-- The selection shows its versions, and whether they are valid; one that is not is reported. -/
theorem abiTaken_shows (s : State) {v : Nat} (hv : v < 2 ^ 16) :
    (s.abiTaken v).get F.HOST_ABI_SEL_MINOR = v % 256 ∧
      (s.abiTaken v).get F.HOST_ABI_SEL_MAJOR = v / 256 ∧
      (s.abiTaken v).on F.HOST_ABI_SEL_VALID = abiValid v ∧
      (abiValid v = false → (s.abiTaken v).on F.HOST_STAT_ABI_REJ = true) ∧
      RegsOnly [R.HOST_ABI_SEL.addr, R.HOST_STAT.addr] s (s.abiTaken v) := by
  have hsel (g : Fld)
      (hg : R.HOST_ABI_SEL.addr = g.addr ∧ R.HOST_ABI_SEL.rst = g.rst ∧ g.lo + g.w ≤ 32) :
      (s.abiTaken v).get g = bits (v + 0x10000 * b2n (abiValid v)) g.lo g.w := by
    refine when_of _ _ _ (fun t => t.get g = _) (get_set_whole s _ ⟨rfl, rfl⟩ hg) ?_
    refine (get_set_ne _ _ _ _ ?_).trans (get_set_whole s _ ⟨rfl, rfl⟩ hg)
    rw [← hg.1]
    decide
  have hb : b2n (abiValid v) < 2 := by
    unfold b2n
    split <;> decide
  refine ⟨?_, ?_, ?_, fun h => ?_, ?_⟩
  · rw [hsel F.HOST_ABI_SEL_MINOR (by decide)]
    change (v + 0x10000 * b2n (abiValid v)) >>> 0 % 2 ^ 8 = _
    rw [Nat.shiftRight_zero]
    omega
  · rw [hsel F.HOST_ABI_SEL_MAJOR (by decide)]
    change (v + 0x10000 * b2n (abiValid v)) >>> 8 % 2 ^ 8 = _
    rw [Nat.shiftRight_eq_div_pow]
    omega
  · have hflag : (s.abiTaken v).get F.HOST_ABI_SEL_VALID = b2n (abiValid v) := by
      rw [hsel F.HOST_ABI_SEL_VALID (by decide)]
      change (v + 0x10000 * b2n (abiValid v)) >>> 16 % 2 ^ 1 = _
      rw [Nat.shiftRight_eq_div_pow]
      omega
    rw [on, hflag]
    cases abiValid v <;> rfl
  · rw [abiTaken, h, Bool.not_false, when_true, on, flag, get_set _ _ _ (by decide)]
    rfl
  · have hset : RegsOnly [R.HOST_ABI_SEL.addr, R.HOST_STAT.addr] s
        (s.set R.HOST_ABI_SEL (v + 0x10000 * b2n (abiValid v))) := .set (.refl _ s) _ (by decide)
    exact when_of _ _ _ _ hset (hset.set _ (by decide))

/-! ## Messages (R345) -/

/-- The ring whose coalescing time ends next has completions gathered. -/
theorem irqNext_gathered {e : Nat} (h : s.irqNext = some (r, e)) : (s.ring r).gathered ≠ 0 := by
  suffices hall : ∀ p, s.irqNext = some p → (s.ring p.1).gathered ≠ 0 from hall _ h
  unfold irqNext
  refine List.foldlRecOn (motive := fun m => ∀ p : Nat × Nat, m = some p → (s.ring p.1).gathered ≠ 0)
    _ _ (fun p hp => nomatch hp) fun m hm q _ p hp => ?_
  dsimp only at hp
  split at hp
  · exact hm p hp
  next hq =>
    split at hp
    · cases hp
      exact hq
    next q' t' =>
      split at hp
      · cases hp
        exact hq
      · exact hm p hp

/-- The gathered message goes when its time ends. -/
theorem irqDue_sends {e : Nat} (h : s.irqNext = some (r, e)) :
    s.irqDue = (s.setRing r { s.ring r with gathered := 0 }).msi (s.get (F.HOST_RING_CFG_VEC r)) := by
  rw [irqDue, h]
  exact if_neg (irqNext_gathered h)

theorem irqDue_none (h : s.irqNext = none) : s.irqDue = s := by
  rw [irqDue, h]

/-- The MSI-X table with a vector unmasked and its pending bit clear. -/
def vectorOpen (s : State) (v : Nat) : State :=
  { s with host := { s.host with
      unmasked := if s.host.unmasked.contains v then s.host.unmasked else v :: s.host.unmasked,
      pendingV := s.host.pendingV.filter (· ≠ v) } }

/-- Unmasking a vector sends its pending message. -/
theorem msixUnmask_shows (s : State) (v : Nat) : v ∈ (s.msixUnmask v).host.unmasked ∧
    v ∉ (s.msixUnmask v).host.pendingV ∧ (s.msixUnmask v).regs = s.regs ∧
    (s.msixUnmask v).mem = s.mem ∧
    (s.msixUnmask v).out = s.out ++ (if s.host.pendingV.contains v then [.msix v] else []) := by
  have hopen : v ∈ (s.vectorOpen v).host.unmasked := by
    change v ∈ (if s.host.unmasked.contains v then s.host.unmasked else v :: s.host.unmasked)
    split
    next h => exact List.contains_iff_mem.1 h
    next => exact List.mem_cons_self ..
  have hnone : v ∉ (s.vectorOpen v).host.pendingV := by simp [vectorOpen]
  have heq : s.msixUnmask v =
      (s.vectorOpen v).when (s.host.pendingV.contains v) (·.emit (.msix v)) := rfl
  rw [heq]
  cases s.host.pendingV.contains v
  · exact ⟨hopen, hnone, rfl, rfl, (List.append_nil _).symm⟩
  · exact ⟨hopen, hnone, rfl, rfl, rfl⟩

/-! ## The link (R360) -/

theorem exec_linkTrained (s : State) {speed width : Nat} (hlo : 0 < speed) (hhi : speed < 4)
    (hw : width = 1 ∨ width = 2 ∨ width = 4) :
    exec (.linkTrained speed width) s = .next (s.linkTrained speed width) := by
  refine if_pos ?_
  simpa [okLink, hlo, hhi, or_assoc] using hw

/-- The low bits of HOST_LINK after a write of them. -/
theorem link_written (s : State) (v : Nat) :
    bits ((s.set R.HOST_LINK (setBits (s.word R.HOST_LINK) 0 6 v)).word R.HOST_LINK) 0 6 =
      v % 2 ^ 6 := by
  rw [word_set _ _ _ (by decide), show R.HOST_LINK.lo = 0 from rfl, show R.HOST_LINK.w = 32 from rfl,
    bits_setBits_inside _ _ _ _ _ (by decide), bits_setBits_same]

/-- The link that has trained shows its speed and width (R360). -/
theorem linkTrained_shows (s : State) {speed width : Nat} (hlo : 0 < speed) (hhi : speed < 4)
    (hw : width = 1 ∨ width = 2 ∨ width = 4) :
    (s.linkTrained speed width).host = { s.host with trained := true } ∧
      bits ((s.linkTrained speed width).word R.HOST_LINK) 0 6 = speed + 4 * width + 32 ∧
      RegsOnly [R.HOST_LINK.addr] { s with host := (s.linkTrained speed width).host }
        (s.linkTrained speed width) := by
  unfold linkTrained
  generalize hv : speed % 4 + width % 8 * 4 + 32 = v
  have hregs := (s.set_regsOnly R.HOST_LINK (setBits (s.word R.HOST_LINK) 0 6 v)).2
  exact ⟨rfl, (s.link_written v).trans (by omega), rfl, hregs⟩

/-- The link as it is lost: HOST_LINK shows no speed, no width and no UP. -/
def linkDown (s : State) : State := s.set R.HOST_LINK (setBits (s.word R.HOST_LINK) 0 6 0)

theorem linkReset_untrained (h : s.host.trained = false) : s.linkReset = s.linkDown := by
  have hdown : s.linkDown.host.trained = false := h
  unfold linkReset
  exact if_pos (by rw [Bool.not_eq_true']; exact hdown)

/-- What a link reset makes of the part before it counts itself, with what is lost of the rings. -/
def linkCut (s : State) (lost : Sparse RingS) : State :=
  { s with
    regs := s.regs.filter (fun p => !linkRegs p.1)
    host := { s.host with rings := lost, unmasked := [], pendingV := [], pcie := {} }
    iommu := { view := s.iommu.view } }

theorem linkReset_trained (h : s.host.trained = true) : s.linkReset =
    (s.linkDown.orphan.linkCut s.linkDown.lostRings).inc F.HOST_LINK_LRESETS := by
  have hdown : s.linkDown.host.trained = true := h
  unfold linkReset
  exact if_neg (by rw [Bool.not_eq_true']; exact fun hoff => absurd (hdown.symm.trans hoff) (by decide))

/-- An entry whose key is dropped reads the default. -/
theorem sget_filter_dropped {α : Type} (m : Sparse α) (d : α) (p : Nat → Bool) {k : Nat}
    (hk : p k = false) : sget (m.filter (fun e => p e.1)) d k = d := by
  induction m with
  | nil => rfl
  | cons e r ih =>
    obtain ⟨j, v⟩ := e
    by_cases hj : p j = true
    · have hne : ¬ j = k := by
        rintro rfl
        rw [hk] at hj
        cases hj
      rw [List.filter_cons_of_pos (by exact hj), sget, if_neg hne, ih]
    · rw [List.filter_cons_of_neg (by exact hj), ih]

/-- The registers of the rings read their reset values after the cut. -/
theorem rst_linkCut (s : State) (lost : Sparse RingS) (hr : r < 32) :
    (s.linkCut lost).rst r = .disabled := by
  have hdrop : linkRegs (R.HOST_RING_STAT r).addr = true := by
    have ha : (R.HOST_RING_STAT r).addr = 0x21018 + 0x40 * r := rfl
    simp only [linkRegs, ha, Bool.or_eq_true, Bool.and_eq_true, decide_eq_true_eq]
    omega
  have hword : (s.linkCut lost).word (F.HOST_RING_STAT_STATE r) = 0 := by
    change (sget (s.regs.filter fun p => !linkRegs p.1) 0 (R.HOST_RING_STAT r).addr).toNat = 0
    rw [sget_filter_dropped _ _ (fun a => !linkRegs a) (by rw [hdrop]; rfl)]
    rfl
  rw [rst, get, hword]
  rfl

/-- HOST_LINK stays through the cut. -/
theorem link_linkCut (s : State) (lost : Sparse RingS) :
    (s.linkCut lost).word R.HOST_LINK = s.word R.HOST_LINK := by
  rw [word, word]
  exact congrArg BitVec.toNat (sget_filter_key _ _ (fun a => !linkRegs a) (by decide))

/-- Orphaned work leaves HOST_LINK. -/
theorem link_orphan (s : State) : s.orphan.word R.HOST_LINK = s.word R.HOST_LINK := by
  unfold orphan
  exact word_set_ne _ _ _ _ (by decide)

/-- What goes on of each listed ring stands 32 places on, and nothing at the 32 rings themselves. -/
theorem sget_lost (g : Nat → RingS) (m : Sparse RingS) (k : Nat) :
    sget ((m.map fun p => (p.1 + 32, g p.1)).filter fun p => p.2 ≠ {}) {} k =
      if 32 ≤ k ∧ k - 32 ∈ m.map (·.1) then g (k - 32) else {} := by
  induction m with
  | nil => simp [sget]
  | cons p m ih =>
    obtain ⟨j, x⟩ := p
    rw [List.map_cons, List.map_cons]
    by_cases hj : j + 32 = k
    · subst hj
      by_cases hg : g j = {}
      · rw [List.filter_cons_of_neg (by simp [hg]), ih]
        simp [hg]
      · rw [List.filter_cons_of_pos (by simp [hg])]
        simp [sget]
    · have hne : ¬ k - 32 = j ∨ ¬ 32 ≤ k := by omega
      have hmem : (32 ≤ k ∧ k - 32 ∈ j :: m.map (·.1)) ↔ (32 ≤ k ∧ k - 32 ∈ m.map (·.1)) := by
        rw [List.mem_cons]
        constructor
        · rintro ⟨hk, rfl | h⟩
          · omega
          · exact ⟨hk, h⟩
        · exact fun ⟨hk, h⟩ => ⟨hk, .inr h⟩
      rw [if_congr hmem rfl rfl, ← ih]
      by_cases hg : g j = {}
      · rw [List.filter_cons_of_neg (by simp [hg])]
      · rw [List.filter_cons_of_pos (by simp [hg]), sget, if_neg hj]

/-- The lost link changes nothing of what goes on of a ring. -/
theorem lostRing_linkDown (s : State) (hr : r < 32) : s.linkDown.lostRing r = s.lostRing r := by
  have hr' : r < Config.rings := hr
  have hcode : s.linkDown.rtypeCode r = s.rtypeCode r := by
    rw [rtypeCode, rtypeCode, if_pos hr', if_pos hr']
    refine get_set_ne _ _ _ _ ?_
    change 0x21000 + 0x40 * r ≠ 0x20024
    omega
  have hring : s.linkDown.ring r = s.ring r := rfl
  rw [lostRing, lostRing, rtype, rtype, hcode, hring]

/-- A ring that has nothing outstanding leaves nothing behind. -/
theorem lostRing_empty (h : (s.ring r).outs = []) : s.lostRing r = {} := by
  simp [lostRing, h]

/-- A key that is not listed reads the default. -/
theorem sget_unlisted {α : Type} {m : Sparse α} {k : Nat} (d : α) (h : k ∉ m.map (·.1)) :
    sget m d k = d := by
  induction m with
  | nil => rfl
  | cons p m ih =>
    rw [List.map_cons, List.mem_cons, not_or] at h
    rw [sget, if_neg (Ne.symm h.1), ih h.2]

/-- The 32 rings hold nothing after a link reset. -/
theorem lostRings_low (s : State) (hr : r < 32) : sget s.lostRings {} r = {} :=
  (sget_lost s.lostRing s.host.rings r).trans (if_neg (by omega))

/-- What goes on of ring r stands at r + 32 (R360). -/
theorem lostRings_high (s : State) (r : Nat) : sget s.lostRings {} (r + 32) = s.lostRing r := by
  refine (sget_lost s.lostRing s.host.rings (r + 32)).trans ?_
  rw [Nat.add_sub_cancel]
  by_cases h : r ∈ s.host.rings.map (·.1)
  · exact if_pos ⟨Nat.le_add_left 32 r, h⟩
  · have hnone : s.ring r = {} := sget_unlisted _ h
    rw [if_neg (fun hk => h hk.2), lostRing_empty (by rw [hnone])]

/-- A link reset once the link has trained (R360). -/
theorem linkReset_shows (h : s.host.trained = true) :
    (∀ r, r < 32 → s.linkReset.rst r = .disabled ∧ s.linkReset.ring r = {} ∧
      s.linkReset.ring (r + 32) = s.lostRing r) ∧
    s.linkReset.host.unmasked = [] ∧ s.linkReset.host.pendingV = [] ∧ s.linkReset.host.pcie = {} ∧
    s.linkReset.iommu = { view := s.iommu.view } ∧ bits (s.linkReset.word R.HOST_LINK) 0 6 = 0 := by
  rw [linkReset_trained h]
  refine ⟨fun r hr => ⟨?_, ?_, ?_⟩, rfl, rfl, rfl, rfl, ?_⟩
  · rw [inc, rst_set_ne, rst_linkCut _ _ hr]
    change 0x20024 ≠ 0x21018 + 0x40 * r
    omega
  · exact lostRings_low s.linkDown hr
  · exact (lostRings_high s.linkDown r).trans (lostRing_linkDown s hr)
  · have hcount (u : State) : bits ((u.inc F.HOST_LINK_LRESETS).word R.HOST_LINK) 0 6 =
        bits (u.word R.HOST_LINK) 0 6 := by
      rw [inc, word_congr _ (f := R.HOST_LINK) (g := F.HOST_LINK_LRESETS) rfl rfl,
        word_set _ _ _ (by decide)]
      exact bits_setBits_apart _ _ _ _ _ _ (.inr (by decide))
    rw [hcount, link_linkCut, link_orphan, linkDown, link_written]
    rfl

end State

/-- Settles O47, command by command. -/
theorem ringsEnableRunAndDrain : Obligations.RingsEnableRunAndDrain := by
  refine ⟨?enable, ?disable, ?drained, ?resume, ?doorbell, ?abi, ?irq, ?unmask, ?trained, ?reset,
    ?untrained⟩
  case enable =>
    intro s r hr hs hst
    rw [State.Gives, State.Gives, State.exec_ringEnable hs hr hst]
    have hst' := (State.rst_cfgSame s r r).trans hst
    have hok' := State.enableOk_cfgSame s r
    refine ⟨fun hok => ?_, fun hok => ⟨_, rfl, State.ringEnable_refused hst' (hok'.trans hok)⟩⟩
    obtain ⟨hrun, hring, hpi, hci, hen, hout, hmem, hother⟩ := State.ringEnable_ok hst' (hok'.trans hok)
    refine ⟨_, rfl, hrun, hring, hpi, hci, hen, hout, hmem, fun q hq hne => ?_⟩
    obtain ⟨hrst, hkept⟩ := hother q hq hne
    exact ⟨hrst.trans (State.rst_cfgSame s r q), hkept⟩
  case disable =>
    intro s r hr hs hst hres
    rw [State.Gives, State.exec_ringDisable hs hr hres]
    have hst' : (s.cfgSame r).rst r = .running ∨ (s.cfgSame r).rst r = .halted := by
      rwa [State.rst_cfgSame]
    obtain ⟨hdrain, hen, hrest, hregs⟩ := State.ringDisable_drains hst'
    refine ⟨_, rfl, hdrain, hen, hrest, fun a ha d => (hregs a ha d).trans ?_⟩
    have hcfg : a ∉ [(R.HOST_RING_CFG r).addr] := fun hm => ha (by simp [List.mem_singleton.mp hm])
    exact (s.set_regsOnly (R.HOST_RING_CFG r) _).2 a hcfg d
  case drained => exact fun s => ⟨_, rfl, s.drainDone_each⟩
  case resume =>
    intro s r hr hs hst
    have hst' := (State.rst_cfgSame s r r).trans hst
    rw [State.Gives, State.exec_ringResume hs hr hst]
    exact ⟨_, rfl, (State.ringResume_running hst').1, fun hw => State.ringResume_plain hst' hw,
      fun p hw hp => State.ringResume_walked hst' hw hp⟩
  case doorbell =>
    intro s r pi hr hpi hs
    rw [State.exec_hostDb hs hr hpi]
    refine ⟨fun h => by rw [State.doorbell_dropped h], fun span last h hspan hlast => ?_⟩
    rw [State.doorbell_judged h hspan hlast]
    exact ⟨fun hlo hhi => by rw [if_neg (by omega)], fun hbad => by rw [if_pos hbad.symm]⟩
  case abi =>
    intro s data hd hs
    rw [State.Gives, State.exec_hostAbiSelWrite hs hd]
    refine ⟨fun hall => ⟨_, rfl, ?_⟩, fun hany => by rw [State.abiSel_refused hany]⟩
    rw [State.abiSel_taken hall]
    obtain ⟨hminor, hmajor, hvalid, hrej, hregs⟩ := s.abiTaken_shows (Nat.mod_lt data (by decide))
    have hlow : data % 2 ^ 16 % 256 = data % 256 := by omega
    have hhigh : data % 2 ^ 16 / 256 = data / 256 % 256 := by omega
    rw [hlow] at hminor
    rw [hhigh] at hmajor
    refine ⟨hminor, hmajor, ?_, fun hoff => hrej (hvalid.symm.trans hoff), hregs⟩
    rw [hvalid, State.abiValid, hlow, hhigh, ← Bool.decide_and]
  case irq =>
    exact fun s => ⟨fun r e h => congrArg Host.Outcome.next (State.irqDue_sends h),
      fun h => congrArg Host.Outcome.next (State.irqDue_none h)⟩
  case unmask =>
    exact fun s v hv => ⟨_, if_pos (decide_eq_true hv), s.msixUnmask_shows v⟩
  case trained =>
    intro s speed width hlo hhi hw
    exact ⟨_, State.exec_linkTrained s hlo hhi hw, s.linkTrained_shows hlo hhi hw⟩
  case reset => exact fun s h => ⟨_, rfl, State.linkReset_shows h⟩
  case untrained =>
    intro s h
    exact ⟨_, rfl, s.linkReset_untrained h ▸ ⟨State.set_host _ _ _, s.set_regsOnly R.HOST_LINK _⟩⟩

end Sys2Proof.Machine
end

section
/-! SUPPORT. What a reset cuts off, keeps and writes; the release from RESET. Then what
11_host_rings.md has proved of them: ResetsAndTheirRelease. -/

namespace Sys2Proof.Machine

open Sys2Proof

namespace State

variable {s t u : State} {a : Nat}

/-! ## What a reset cuts off -/

/-- t differs from s in no memory, in no waiting command, and in no register but PAIR_STAT and
DEV_IMG. -/
structure Cut (s t : State) : Prop where
  mem : t.mem = s.mem
  pending : t.pending = s.pending
  regs : ∀ a, a ≠ R.PAIR_STAT.addr → a ≠ R.DEV_IMG.addr → ∀ d, sget t.regs d a = sget s.regs d a

namespace Cut

theorem refl (s : State) : Cut s s := ⟨rfl, rfl, fun _ _ _ _ => rfl⟩

theorem trans (h : Cut s t) (k : Cut t u) : Cut s u :=
  ⟨k.mem.trans h.mem, k.pending.trans h.pending,
    fun a hp hi d => (k.regs a hp hi d).trans (h.regs a hp hi d)⟩

theorem when (h : Cut s t) {c : Bool} {f : State → State} (hf : Cut t (f t)) : Cut s (t.when c f) :=
  when_of t c f (Cut s) h (h.trans hf)

theorem word (h : Cut s t) {f : Fld} (hp : f.addr ≠ R.PAIR_STAT.addr) (hi : f.addr ≠ R.DEV_IMG.addr) :
    t.word f = s.word f := by
  rw [State.word, State.word, h.regs _ hp hi]

end Cut

theorem dropAct_cut (s : State) : Cut s s.dropAct := by
  unfold dropAct
  split
  · exact ⟨rfl, rfl, fun a hp _ d => sget_sput_ne s.regs _ d _ hp⟩
  · exact .refl s

theorem otpCut_cut (s : State) : Cut s s.otpCut := by
  unfold otpCut
  split
  · exact .refl s
  · exact ⟨rfl, rfl, fun _ _ _ _ => rfl⟩

theorem retCut_cut (s : State) : Cut s s.retCut := by
  unfold retCut
  split
  · exact .refl s
  · exact ⟨rfl, rfl, fun _ _ _ _ => rfl⟩

theorem commitRec_cut (s : State) (k : Nat) : Cut s (s.commitRec k) := by
  have hregs (a : Nat) (hi : a ≠ R.DEV_IMG.addr) := (commitRec_keeps hi.symm s k).2
  refine ⟨?_, ?_, fun a _ hi => hregs a hi⟩
  · unfold commitRec writeRec
    rfl
  · unfold commitRec writeRec
    rfl

theorem fresh_cut (s : State) : Cut s s.fresh.2 := ⟨rfl, rfl, fun _ _ _ _ => rfl⟩

theorem imgCut_cut (s : State) : Cut s s.imgCut := by
  unfold imgCut
  refine List.foldlRecOn (motive := Cut s) _ _ (.refl s) fun t h r _ => h.trans ?_
  split
  · exact (fresh_cut t).when (commitRec_cut _ _)
  · exact .refl t

/-- What a reset stops is cut off. -/
def resetCut (s : State) : State := (((s.dropAct).otpCut).retCut).imgCut

theorem resetCut_cut (s : State) : Cut s s.resetCut :=
  (((dropAct_cut s).trans (otpCut_cut _)).trans (retCut_cut _)).trans (imgCut_cut _)

/-! ## Power-on (R356, R544) -/

/-- The registers of the safety island. -/
abbrev IslandReg (a : Nat) : Prop := 0x70000 ≤ a ∧ a < 0x80000

/-- A power-on reset starts everything again but the island's registers; then ISTATE is written at
most. -/
theorem powerOn_split (s : State) (fit : Option Fitted) : ∃ t : State,
    t.regs = s.resetCut.regs.filter (fun p => 0x70000 ≤ p.1 && p.1 < 0x80000) ∧
    t.mem = [] ∧ t.synd = [] ∧ t.dev = {} ∧ t.pending = s.resetCut.pending ∧ t.time = {} ∧
    s.powerOn fit =
      if !t.straps.es then t.set F.SAFE_STAT_ISTATE 4
      else t.when (t.get F.SAFE_STAT_ISTATE = 4) (·.set F.SAFE_STAT_ISTATE 0) := by
  unfold powerOn
  extract_lets s1 es img st t
  exact ⟨t, rfl, rfl, rfl, rfl, rfl, rfl, rfl⟩

section
variable {t : State} (h : t.regs = s.resetCut.regs.filter (fun p => 0x70000 ≤ p.1 && p.1 < 0x80000))
include h

theorem word_powerOn_island {f : Fld} (hf : IslandReg f.addr) : t.word f = s.word f := by
  obtain ⟨hlo, hhi⟩ := hf
  have hp : R.PAIR_STAT.addr = 0xd000c := rfl
  have hi : R.DEV_IMG.addr = 0x20 := rfl
  rw [← (resetCut_cut s).word (by omega) (by omega), word, word, h,
    sget_filter_key _ _ (fun a => 0x70000 ≤ a && a < 0x80000) (by simp [hlo, hhi])]

theorem word_powerOn_other {f : Fld} (hrst : f.rst < 2 ^ 32) (hf : ¬ IslandReg f.addr) :
    t.word f = f.rst := by
  rw [word, h, sget_filter_dropped _ _ (fun a => 0x70000 ≤ a && a < 0x80000) (by simpa using hf),
    BitVec.toNat_ofNat, Nat.mod_eq_of_lt hrst]

end

/-- A power-on reset is what it starts with, then ISTATE at most. -/
theorem powerOn_only (s : State) (fit : Option Fitted) : ∃ t : State,
    t.regs = s.resetCut.regs.filter (fun p => 0x70000 ≤ p.1 && p.1 < 0x80000) ∧
    t.mem = [] ∧ t.synd = [] ∧ t.dev = {} ∧ t.pending = s.resetCut.pending ∧ t.time = {} ∧
    RegsOnly [R.SAFE_STAT.addr] t (s.powerOn fit) := by
  obtain ⟨t, hregs, hmem, hsynd, hdev, hpending, htime, hon⟩ := powerOn_split s fit
  have hset (v : Nat) : RegsOnly [R.SAFE_STAT.addr] t (t.set F.SAFE_STAT_ISTATE v) :=
    set_regsOnly t F.SAFE_STAT_ISTATE v
  refine ⟨t, hregs, hmem, hsynd, hdev, hpending, htime, ?_⟩
  rw [hon]
  exact .ite (hset 4) (when_of t _ _ _ (.refl _ t) (hset 0))

/-- What a power-on reset leaves (R356, R418). -/
theorem powerOn_shows (s : State) (fit : Option Fitted) :
    (s.powerOn fit).mem = [] ∧ (s.powerOn fit).synd = [] ∧ (s.powerOn fit).gst = .reset ∧
    (s.powerOn fit).pending = s.pending ∧ (s.powerOn fit).time = {} ∧ ∀ f : Fld, f.rst < 2 ^ 32 →
      (IslandReg f.addr → f.addr ≠ R.SAFE_STAT.addr → (s.powerOn fit).word f = s.word f) ∧
      (¬ IslandReg f.addr → (s.powerOn fit).word f = f.rst) := by
  obtain ⟨t, hregs, hmem, hsynd, hdev, hpending, htime, hrest, honly⟩ := powerOn_only s fit
  have hword {f : Fld} (hf : f.addr ≠ R.SAFE_STAT.addr) : (s.powerOn fit).word f = t.word f := by
    rw [word, word, honly _ (by simpa using hf)]
  refine ⟨?_, ?_, ?_, ?_, ?_, fun f hrst => ⟨fun hi hne => ?_, fun hi => ?_⟩⟩
  · rw [hrest]
    exact hmem
  · rw [hrest]
    exact hsynd
  · have hd : (s.powerOn fit).dev = {} := by
      rw [hrest]
      exact hdev
    rw [gst, hd]
    rfl
  · rw [hrest]
    exact hpending.trans (resetCut_cut s).pending
  · rw [hrest]
    exact htime
  · rw [hword hne, word_powerOn_island hregs hi]
  · have hne : f.addr ≠ R.SAFE_STAT.addr := fun h => hi (by rw [h]; decide)
    rw [hword hne, word_powerOn_other hregs hrst hi]

/-- ISTATE is DISABLED where the code has no island, and stays what it was with one (R417). -/
theorem powerOn_istate (s : State) (fit : Option Fitted) :
    ((s.powerOn fit).straps.es = false → (s.powerOn fit).get F.SAFE_STAT_ISTATE = 4) ∧
    ((s.powerOn fit).straps.es = true → s.get F.SAFE_STAT_ISTATE ≠ 4 →
      (s.powerOn fit).get F.SAFE_STAT_ISTATE = s.get F.SAFE_STAT_ISTATE) := by
  obtain ⟨t, hregs, -, -, -, -, -, hon⟩ := powerOn_split s fit
  have hkept : t.get F.SAFE_STAT_ISTATE = s.get F.SAFE_STAT_ISTATE := by
    rw [get, get, word_powerOn_island hregs (by decide)]
  rw [hon]
  cases hes : t.straps.es with
  | false =>
    refine ⟨fun _ => get_set t F.SAFE_STAT_ISTATE 4 (by decide), fun h => ?_⟩
    exact absurd (hes.symm.trans h) Bool.false_ne_true
  | true =>
    refine ⟨fun h => ?_, fun _ hne => ?_⟩
    · have hsame := when_of t (decide (t.get F.SAFE_STAT_ISTATE = 4)) (·.set F.SAFE_STAT_ISTATE 0)
        (fun u => u.straps = t.straps) rfl rfl
      exact absurd ((congrArg Straps.es hsame).symm.trans h) (by simp [hes])
    · simp [when, hkept, hne]

/-! ## Entry to RESET (R356, R358, R418, R544) -/

/-- The status registers that the entry to RESET writes: of the rings that halt, and of the
converters whose calibration it aborts. -/
def resetStat : List Nat :=
  (List.range 32).map (fun r => (R.HOST_RING_STAT r).addr) ++
    (List.range 8).map (fun c => (R.ADC_STAT c).addr)

theorem resetStat_lies (h : a ∈ resetStat) :
    (0x21000 ≤ a ∧ a < 0x22000) ∨ (0xa0000 ≤ a ∧ a < 0xa1000) := by
  have hring (r : Nat) : (R.HOST_RING_STAT r).addr = 0x21018 + 0x40 * r := rfl
  have hadc (c : Nat) : (R.ADC_STAT c).addr = 0xa010c + 0x40 * c := rfl
  simp only [resetStat, List.mem_append, List.mem_map, List.mem_range, hring, hadc] at h
  rcases h with ⟨r, hr, rfl⟩ | ⟨c, hc, rfl⟩
  · exact .inl (by omega)
  · exact .inr (by omega)

theorem ring_mem_resetStat {r : Nat} (h : r < 32) : (R.HOST_RING_STAT r).addr ∈ resetStat :=
  List.mem_append_left _ (List.mem_map.mpr ⟨r, List.mem_range.mpr h, rfl⟩)

theorem adc_mem_resetStat {c : Nat} (h : c < 8) : (R.ADC_STAT c).addr ∈ resetStat :=
  List.mem_append_right _ (List.mem_map.mpr ⟨c, List.mem_range.mpr h, rfl⟩)

/-- The registers that the entry keeps are those of keepReg; then it writes the cause, and what halts
or is aborted shows. -/
theorem enterReset_split (s : State) (cause : Nat) (dawn : Bool) : ∃ t : State,
    t.mem = s.resetCut.mem ∧ t.pending = s.resetCut.pending ∧
    t.regs = s.resetCut.regs.filter (fun p => keepReg p.1) ∧
    RegsOnly resetStat ((t.set F.DEV_RST_CAUSE_CAUSE cause).set F.DEV_RST_CAUSE_DAWN_REQ (b2n dawn))
      (s.enterReset cause dawn) := by
  unfold enterReset
  extract_lets s1 cal meas h l d t0 t1 t2
  refine ⟨t0, rfl, rfl, rfl, ?_⟩
  clear_value t0
  have hrings : RegsOnly resetStat t1 t2 := by
    refine List.foldlRecOn (motive := RegsOnly resetStat t1) _ _ (.refl _ t1) fun u hu r hr => ?_
    have hmem := ring_mem_resetStat (List.mem_range.mp hr)
    refine .ite hu (.set (.set hu _ ?_) _ ?_)
    exacts [hmem, hmem]
  refine List.foldlRecOn (motive := RegsOnly resetStat t1) _ _ hrings fun u hu c hc => ?_
  have hmem := adc_mem_resetStat (List.mem_range.mp (List.mem_of_mem_filter hc))
  refine .set hu _ ?_
  exact hmem

theorem enterReset_mem (s : State) (cause : Nat) (dawn : Bool) :
    (s.enterReset cause dawn).mem = s.mem := by
  obtain ⟨t, hmem, -, -, honly⟩ := enterReset_split s cause dawn
  exact honly.mem.trans (hmem.trans (resetCut_cut s).mem)

theorem enterReset_pending (s : State) (cause : Nat) (dawn : Bool) :
    (s.enterReset cause dawn).pending = s.pending := by
  obtain ⟨t, -, hpending, -, hrest, -⟩ := enterReset_split s cause dawn
  rw [hrest]
  exact hpending.trans (resetCut_cut s).pending

theorem enterReset_dawn (s : State) (cause : Nat) (dawn : Bool) :
    (s.enterReset cause dawn).get F.DEV_RST_CAUSE_DAWN_REQ = b2n dawn := by
  obtain ⟨t, -, -, -, honly⟩ := enterReset_split s cause dawn
  have hout : R.DEV_RST_CAUSE.addr ∉ resetStat := fun h => absurd (resetStat_lies h) (by decide)
  rw [honly.get (f := F.DEV_RST_CAUSE_DAWN_REQ) hout, get_set _ F.DEV_RST_CAUSE_DAWN_REQ _ (by decide)]
  cases dawn <;> rfl

/-- A register that the entry to RESET does not write holds what was left of it. -/
theorem word_enterReset (s : State) (cause : Nat) (dawn : Bool) {f : Fld} (hst : f.addr ∉ resetStat)
    (hf : f.addr ≠ R.DEV_RST_CAUSE.addr) : (s.enterReset cause dawn).word f =
      (sget (s.resetCut.regs.filter (fun p => keepReg p.1)) (BitVec.ofNat 32 f.rst) f.addr).toNat := by
  obtain ⟨t, -, -, hregs, -, honly⟩ := enterReset_split s cause dawn
  rw [word, honly _ hst, ← hregs]
  exact (word_set_ne _ F.DEV_RST_CAUSE_DAWN_REQ f _ hf).trans
    (word_set_ne t F.DEV_RST_CAUSE_CAUSE f _ hf)

/-- No register of the strings is kept. -/
theorem keepReg_strings (h : 0x200000 ≤ a) : keepReg a = false := by
  have hlink : linkRegs a = false := by
    have habi : R.HOST_ABI_SEL.addr = 0x20010 := rfl
    simp only [linkRegs, habi, Bool.or_eq_false_iff, Bool.and_eq_false_iff, decide_eq_false_iff_not]
    omega
  have hfact : (List.range 8).any (fun c => (List.range 5).any (fun k => a = (R.ADC_FACT c k).addr)) =
      false := by
    refine List.any_eq_false.mpr fun c hc => ?_
    rw [Bool.not_eq_true]
    refine List.any_eq_false.mpr fun k hk => ?_
    have haddr : (R.ADC_FACT c k).addr = 0xa0110 + 0x40 * c + 0x4 * k := rfl
    rw [List.mem_range] at hc hk
    simp only [haddr, decide_eq_true_eq]
    omega
  have h1 : R.HOST_EPOCH.addr = 0x20008 := rfl
  have h2 : R.HOST_LINK.addr = 0x20024 := rfl
  have h3 : R.DEV_START.addr = 0x1c := rfl
  have h4 : R.DEV_RST_CAUSE.addr = 0x14 := rfl
  have h5 : R.PAIR_EPOCH.addr = 0xd0018 := rfl
  simp only [keepReg, hlink, hfact, h1, h2, h3, h4, h5, Bool.or_eq_false_iff, Bool.and_eq_false_iff,
    decide_eq_false_iff_not, true_and, and_true]
  omega

/-- A register of the strings is at its reset value in RESET. -/
theorem word_enterReset_strCfg (s : State) (cause : Nat) (dawn : Bool) (n : Nat) :
    (s.enterReset cause dawn).word (R.STR_CFG n) = (R.STR_CFG n).rst := by
  have haddr : (R.STR_CFG n).addr = 0x200008 + 0x2000 * n := rfl
  have hcause : R.DEV_RST_CAUSE.addr = 0x14 := rfl
  rw [word_enterReset s cause dawn (fun h => by have := resetStat_lies h; omega) (by omega),
    sget_filter_dropped _ _ keepReg (keepReg_strings (by omega))]
  rfl

/-- A register of the safety island stays in RESET (R418). -/
theorem word_enterReset_safeWd (s : State) (cause : Nat) (dawn : Bool) :
    (s.enterReset cause dawn).word R.SAFE_WD = s.word R.SAFE_WD := by
  rw [word_enterReset s cause dawn (fun h => absurd (resetStat_lies h) (by decide)) (by decide),
    sget_filter_key _ _ keepReg (by decide)]
  exact (resetCut_cut s).word (by decide) (by decide)

/-- The write of a key to DEV_RESET reaches the reset of the device. -/
theorem hostW_devReset (hs : s.Awake) {key : Nat} (hk : key < 65536) (dawn : Bool) :
    s.hostW R.DEV_RESET.addr (key + 65536 * b2n dawn) = s.devReset key dawn := by
  have hb : b2n dawn < 2 := by cases dawn <;> decide
  have hd : key + 65536 * b2n dawn < 2 ^ 32 := by omega
  have hkey : (key + 65536 * b2n dawn) % 65536 = key := by omega
  have hdawn : bit (key + 65536 * b2n dawn) 16 = dawn := by
    rw [bit, Nat.testBit_eq_decide_div_mod_eq,
      show (key + 65536 * b2n dawn) / 2 ^ 16 = b2n dawn by omega]
    cases dawn <;> rfl
  have hbus : R.DEV_RESET.addr ≠ R.ETH_STEP_CMD.addr := by decide
  rw [hostW_awake s hs rfl hd, busW_eq_busW1 s (wholeWrite R.DEV_RESET.addr _) hbus,
    busW1_dev s _ (by decide), wrDev, wholeWrite_a, if_neg (by decide), if_pos rfl,
    wholeWrite_cmd _ hd, hkey, hdawn]

theorem exec_devReset (hs : s.Awake) {key : Nat} (hk : key < 65536) (dawn : Bool) :
    exec (.devReset key dawn) s = .next (s.devReset key dawn) := by
  rw [← hostW_devReset hs hk dawn]
  exact if_pos (decide_eq_true hk)

theorem devReset_key (hs : s.Awake) (dawn : Bool) : s.devReset 0x5EB7 dawn = s.enterReset 4 dawn := by
  rw [devReset, if_neg (by simp [hs])]
  rfl

theorem devReset_wrongKey (hs : s.Awake) {key : Nat} (hk : key < 65536) (h : key ≠ 0x5EB7)
    (dawn : Bool) : s.devReset key dawn = s.devRej 1 := by
  rw [devReset, if_neg (by simp [hs]), if_neg (by omega)]

/-! ## The release (R545 to R547) -/

theorem otpShow_keeps (ha : R.DEV_OTP_STAT.addr ≠ a) (s : State) : Keeps a s s.otpShow := by
  refine .set (.set (.refl a s) ?_) ?_
  exacts [ha, ha]

/-- The permit lines show in TRIP_ARM, TRIP_STAT and the BLK registers of the strings alone. -/
theorem svbLines_keeps (harm : R.TRIP_ARM.addr ≠ a ∧ R.TRIP_STAT.addr ≠ a) (hlo : a < 0x200000)
    (s : State) : Keeps a s s.svbLines := by
  unfold svbLines
  extract_lets on dem new s1 g
  have hs1 : Keeps a s s1 :=
    (Keeps.set (f := F.TRIP_STAT_SVB_DEM) (.refl a s) harm.2).trans (armRunClr_keeps harm _ _)
  refine .foldl _ (fun u n _ => .ite (.refl a u) ?_) hs1
  have hblk : (F.STR_BLK_G_TX n).addr = 0x200034 + 0x2000 * n := rfl
  exact .set (.same (.refl a u) rfl rfl) (by omega)

theorem armRunClr_straps (s : State) (m : Nat) : (s.armRunClr m).straps = s.straps := by
  rw [armRunClr, armBlkUpd, set_straps, clrF, set_straps]

theorem svbLines_straps (s : State) : s.svbLines.straps = s.straps := by
  unfold svbLines
  extract_lets on dem new s1 g
  have hs1 : s1.straps = s.straps :=
    (armRunClr_straps _ new).trans (set_straps s F.TRIP_STAT_SVB_DEM dem)
  have hite {c : Prop} [Decidable c] {u v : State} (hu : u.straps = s.straps)
      (hv : v.straps = s.straps) : (if c then u else v).straps = s.straps := by
    split
    · exact hu
    · exact hv
  exact List.foldlRecOn (motive := fun t : State => t.straps = s.straps) _ _ hs1 fun u hu n _ =>
    hite hu hu

theorem evt_straps (s : State) (e : Evt) : (s.evt e).straps = s.straps := by
  obtain ⟨r, h, o, hevt⟩ := evt_rest s e
  rw [hevt]

/-- What follows the samples at the end of RESET: the key slots, the permit lines, the event. -/
def releaseShow (s : State) : State := s.otpShow.svbLines.evt .state

theorem releaseShow_dev (s : State) :
    s.releaseShow.dev.inReset = s.dev.inReset ∧ s.releaseShow.dev.step = s.dev.step := by
  have hkeep : Keeps R.DEV_START.addr s s.releaseShow :=
    ((otpShow_keeps (by decide) s).trans (svbLines_keeps (by decide) (by decide) _)).trans
      (evt_keeps (.inl (by decide)) _ _)
  rw [hkeep.1]
  exact ⟨rfl, rfl⟩

theorem releaseShow_straps (s : State) : s.releaseShow.straps = s.straps :=
  (evt_straps _ _).trans (svbLines_straps _)

theorem get_releaseShow (s : State) {f : Fld}
    (h : f.addr = R.HOST_EPOCH.addr ∨ f.addr = R.DEV_START.addr ∨ f.addr = R.TIME_STATUS.addr) :
    s.releaseShow.get f = s.get f := by
  have ⟨hotp, harm, hstat, hlo, hevt⟩ : R.DEV_OTP_STAT.addr ≠ f.addr ∧ R.TRIP_ARM.addr ≠ f.addr ∧
      R.TRIP_STAT.addr ≠ f.addr ∧ f.addr < 0x200000 ∧ f.addr ≠ R.HOST_EVT_CAUSE.addr := by
    rcases h with h | h | h <;> rw [h] <;> decide
  rw [releaseShow, get_evt _ _ hevt, (svbLines_keeps ⟨harm, hstat⟩ hlo _).get f rfl,
    (otpShow_keeps hotp s).get f rfl]

/-- The choice of a noon start (R546). -/
def noonStart (s : State) : Bool :=
  s.get F.DEV_RST_CAUSE_CAUSE = 4 && s.get F.DEV_RST_CAUSE_DAWN_REQ = 0 &&
    s.dev.prevDone && !s.dev.committed && !s.dev.ue25

theorem noonStart_iff (s : State) : s.noonStart = true ↔ s.get F.DEV_RST_CAUSE_CAUSE = 4 ∧
    s.get F.DEV_RST_CAUSE_DAWN_REQ = 0 ∧ s.dev.prevDone = true ∧ s.dev.committed = false ∧
    s.dev.ue25 = false := by
  simp [noonStart, and_assoc]

/-- The epoch counted and the kind of start chosen. -/
def releaseEpoch (s : State) (side home : Bool) : State :=
  let t : State := { s with dev := { inReset := false, step := 1, meas := s.dev.meas }, time := {},
                            straps := { s.straps with side := side, home := home } }
  (t.inc R.HOST_EPOCH).set F.DEV_START_KIND (b2n s.noonStart)

/-- The references, the lock of the PLL, and the straps shown. -/
def releaseSample (s : State) (refA refB side home : Bool) : State :=
  (((((s.setRef 0 refA).setRef 1 refB).set F.TIME_STATUS_REF_ACT (b2n (!refA))).flag
    F.TIME_STATUS_PLL_LOCK).set F.PAIR_STAT_SIDE (b2n side)).set F.PAIR_STAT_HOME (b2n home)

theorem release_eq (hr : s.dev.inReset = true) {refA refB : Bool} (href : (refA || refB) = true)
    (side home : Bool) : s.release refA refB side home =
      ((s.releaseEpoch side home).releaseSample refA refB side home).releaseShow := by
  unfold release
  exact if_neg (by simp [hr, href])

section
variable (s) (refA refB side home : Bool)

theorem get_releaseEpoch_epoch :
    (s.releaseEpoch side home).get R.HOST_EPOCH = satInc 32 (s.get R.HOST_EPOCH) := by
  have hlt (n : Nat) : satInc 32 n < 2 ^ 32 := by
    unfold satInc
    split <;> omega
  rw [releaseEpoch, get_set_ne _ F.DEV_START_KIND R.HOST_EPOCH _ (by decide), inc,
    get_set _ R.HOST_EPOCH _ (by decide)]
  exact Nat.mod_eq_of_lt (hlt _)

theorem on_releaseEpoch_kind : (s.releaseEpoch side home).on F.DEV_START_KIND = s.noonStart := by
  rw [releaseEpoch, on, get_set _ F.DEV_START_KIND _ (by decide)]
  cases s.noonStart <;> rfl

/-- The samples show in TIME_STATUS and PAIR_STAT alone. -/
theorem get_releaseSample {f : Fld} (ht : f.addr ≠ R.TIME_STATUS.addr) (hp : f.addr ≠ R.PAIR_STAT.addr) :
    (s.releaseSample refA refB side home).get f = s.get f := by
  have hsample : Keeps f.addr s (s.releaseSample refA refB side home) := by
    refine .set (.set (.set (.set (.set (.set (.refl _ s) ?_) ?_) ?_) ?_) ?_) ?_
    exacts [ht.symm, ht.symm, ht.symm, ht.symm, hp.symm, hp.symm]
  exact hsample.get f rfl

theorem on_releaseSample_lock :
    (s.releaseSample refA refB side home).on F.TIME_STATUS_PLL_LOCK = true := by
  rw [releaseSample, on, get_set_ne _ _ F.TIME_STATUS_PLL_LOCK _ (by decide),
    get_set_ne _ _ F.TIME_STATUS_PLL_LOCK _ (by decide), flag,
    get_set _ F.TIME_STATUS_PLL_LOCK _ (by decide)]
  rfl

theorem get_releaseSample_act :
    (s.releaseSample refA refB side home).get F.TIME_STATUS_REF_ACT = if refA then 0 else 1 := by
  rw [releaseSample, get_set_ne _ _ F.TIME_STATUS_REF_ACT _ (by decide),
    get_set_ne _ _ F.TIME_STATUS_REF_ACT _ (by decide), flag,
    get_set_apart _ F.TIME_STATUS_PLL_LOCK F.TIME_STATUS_REF_ACT _ (by decide) ⟨rfl, rfl, by decide⟩,
    get_set _ F.TIME_STATUS_REF_ACT _ (by decide)]
  cases refA <;> rfl

end

end State

theorem exec_powerOnReset (s : State) (fit : Option Fitted) :
    exec (.powerOnReset fit) s = .next (s.powerOn fit) := rfl

theorem exec_resetNLow (s : State) : exec .resetNLow s = .next s.resetN := rfl

theorem exec_resetRelease (s : State) (refA refB side home : Bool) :
    exec (.resetRelease refA refB side home) s = .next (s.release refA refB side home) := rfl

/-- Settles O27: the power-on reset, RESET_N, DEV_RESET and the release. -/
theorem resetsAndTheirRelease : Obligations.ResetsAndTheirRelease := by
  refine ⟨?powerOn, ?resetN, ?lower, ?devReset, ?wrongKey, ?release⟩
  case powerOn =>
    exact fun s fit => ⟨⟨_, exec_powerOnReset s fit, State.powerOn_shows s fit⟩, fun fit =>
      ⟨_, exec_powerOnReset s fit, State.powerOn_istate s fit⟩⟩
  case resetN =>
    intro s hs
    have hreset : s.resetN = s.enterReset 2 false := if_neg (by simp [hs])
    obtain ⟨hgst, hcause, -⟩ := State.enterReset_shows s (cause := 2) (by decide) false
    refine ⟨_, (exec_resetNLow s).trans (congrArg _ hreset), hgst, hcause, State.enterReset_mem ..,
      State.enterReset_pending .., fun n _ => State.word_enterReset_strCfg ..,
      State.word_enterReset_safeWd ..⟩
  case lower => exact fun s hr => congrArg Host.Outcome.next (if_pos hr)
  case devReset =>
    intro s dawn hs
    obtain ⟨hgst, hcause, -⟩ := State.enterReset_shows s (cause := 4) (by decide) dawn
    exact ⟨_, (State.exec_devReset hs (by decide) dawn).trans (congrArg _ (State.devReset_key hs dawn)),
      hgst, hcause, State.enterReset_dawn .., State.enterReset_mem ..⟩
  case wrongKey =>
    intro s key dawn hs hk hne
    rw [State.exec_devReset hs hk, State.devReset_wrongKey hs hk hne]
  case release =>
    intro s refA refB side home hr href
    refine ⟨_, (exec_resetRelease ..).trans (congrArg _ (State.release_eq hr href side home)), ?_⟩
    obtain ⟨hawake, hstep⟩ := State.releaseShow_dev
      ((s.releaseEpoch side home).releaseSample refA refB side home)
    have hstraps := State.releaseShow_straps
      ((s.releaseEpoch side home).releaseSample refA refB side home)
    refine ⟨hawake, hstep, ?_, ?_, ?_, ?_, ?_, ?_⟩
    · rw [hstraps]
      rfl
    · rw [hstraps]
      rfl
    · have hlock := State.get_releaseShow (f := F.TIME_STATUS_PLL_LOCK)
        ((s.releaseEpoch side home).releaseSample refA refB side home) (.inr (.inr rfl))
      exact (State.on_congr hlock).trans (State.on_releaseSample_lock ..)
    · have hact := State.get_releaseShow (f := F.TIME_STATUS_REF_ACT)
        ((s.releaseEpoch side home).releaseSample refA refB side home) (.inr (.inr rfl))
      exact hact.trans (State.get_releaseSample_act ..)
    · rw [State.get_releaseShow _ (.inl rfl), State.get_releaseSample _ _ _ _ _ (by decide) (by decide),
        State.get_releaseEpoch_epoch]
    · have hkind := State.get_releaseShow (f := F.DEV_START_KIND)
        ((s.releaseEpoch side home).releaseSample refA refB side home) (.inr (.inl rfl))
      rw [State.on_congr (hkind.trans (State.get_releaseSample _ _ _ _ _ (by decide) (by decide))),
        State.on_releaseEpoch_kind, State.noonStart_iff]

end Sys2Proof.Machine
end

section
/-! SUPPORT. The canonical form of memory under every operation of the machine, in the order of the
model: an operation keeps it because the operations that it is built of do. Each proof follows its
definition; only the few operations that store, copy, clear or filter memory look at the memory itself.
Then what 12_memory_and_faults.md has proved: MemoryStaysCanonical, ResetMemoryIsCanonical. -/

namespace Sys2Proof.Machine

open Sys2Proof

variable {s t : State}

/-! ## Branches, folds, pairs -/

/-- A state of the same memory. -/
theorem State.Canonical.same (h : s.Canonical) (hm : t.mem = s.mem) : t.Canonical := by
  unfold State.Canonical
  rw [hm]
  exact h

/-- A state in which anything but memory has been replaced. -/
theorem State.Canonical.upd {regs : Sparse Word} {synd : Sparse Nat} {straps : Straps} {dev : DevS}
    {time : TimeS} {lanes : Sparse LaneS} {strs : Sparse StrS} {cells : Sparse CellS} {modu : ModS}
    {ceng : CengS} {logic : LogicS} {trip : TripS} {safe : SafeS} {adc : Sparse AdcS} {vsp : VspS}
    {eth : EthS} {cans : Sparse CanS} {cores : Sparse CoreS} {sched : SchedS} {host : HostS}
    {iommu : IommuS} {pair : PairS} {img : ImgS} {memc : MemS} {out : List Out} {elapsed free : Nat}
    {pending : List Instr} (h : s.Canonical) :
    (State.mk regs s.mem synd straps dev time lanes strs cells modu ceng logic trip safe adc vsp eth
      cans cores sched host iommu pair img memc out elapsed free pending).Canonical := h

theorem State.Canonical.ite {c : Prop} [Decidable c] (hs : s.Canonical) (ht : t.Canonical) :
    (if c then s else t).Canonical := by
  split
  · exact hs
  · exact ht

theorem State.Canonical.foldl_of {α β : Type} {P : β → Prop} {f : β → α → β} {b : β} {l : List α} (h : P b)
    (hf : ∀ b x, P b → P (f b x)) : P (l.foldl f b) := by
  induction l generalizing b with
  | nil => exact h
  | cons x l ih => exact ih (hf b x h)

theorem State.Canonical.foldl {α : Type} {f : State → α → State} {l : List α} (h : s.Canonical)
    (hf : ∀ u x, u.Canonical → (f u x).Canonical) : (l.foldl f s).Canonical :=
  .foldl_of h hf

/-- A fold that carries a state beside what it gathers. -/
theorem State.Canonical.foldl_snd {α β : Type} {f : β × State → α → β × State} {p : β × State} {l : List α}
    (h : p.2.Canonical) (hf : ∀ p x, p.2.Canonical → (f p x).2.Canonical) : (l.foldl f p).2.Canonical :=
  State.Canonical.foldl_of (P := fun p : β × State => p.2.Canonical) h hf

theorem State.Canonical.foldr {α : Type} {f : α → State → State} {l : List α} (h : s.Canonical)
    (hf : ∀ x u, u.Canonical → (f x u).Canonical) : (l.foldr f s).Canonical := by
  induction l with
  | nil => exact h
  | cons x l ih => exact hf x _ ih

theorem State.Canonical.snd {α : Type} {p : α × State} {x : α} (h : p.2.Canonical) (hq : p = (x, t)) :
    t.Canonical := by
  rwa [hq] at h

theorem State.Canonical.snd2 {α β : Type} {p : α × β × State} {x : α} {y : β} (h : p.2.2.Canonical)
    (hq : p = (x, y, t)) : t.Canonical := by
  rwa [hq] at h

/-- Cells changed one by one, or taken out, at the places they have, none of them to 0. -/
theorem filterMap_wf (m : List Host.Cell) (f : Host.Cell → Option Host.Cell) (h : Memory.wf m)
    (hf : ∀ c d, f c = some d → d.1 = c.1 ∧ (c.2 ≠ 0 → d.2 ≠ 0)) : Memory.wf (m.filterMap f) := by
  obtain ⟨hrise, hne⟩ := h
  refine ⟨?_, fun d hd => ?_⟩
  · rw [List.pairwise_map] at hrise ⊢
    refine List.Pairwise.filterMap f ?_ hrise
    intro c c' hlt d hd d' hd'
    rw [(hf c d hd).1, (hf c' d' hd').1]
    exact hlt
  · obtain ⟨c, hc, hcd⟩ := List.mem_filterMap.mp hd
    exact (hf c d hcd).2 (hne c hc)


/-! ## Operations: registers -/

theorem State.Canonical.set {f : Fld} {v : Nat} (h : s.Canonical) : (s.set f v).Canonical := h

theorem State.Canonical.flag {f : Fld} (h : s.Canonical) : (s.flag f).Canonical := .set h

theorem State.Canonical.orF {f : Fld} {v : Nat} (h : s.Canonical) : (s.orF f v).Canonical := .set h

theorem State.Canonical.clrF {f : Fld} {v : Nat} (h : s.Canonical) : (s.clrF f v).Canonical := .set h

theorem State.Canonical.inc {f : Fld} (h : s.Canonical) : (s.inc f).Canonical := .set h

theorem State.Canonical.addSat {f : Fld} {n : Nat} (h : s.Canonical) : (s.addSat f n).Canonical := .set h

theorem State.Canonical.zero {fs : List Fld} (h : s.Canonical) : (s.zero fs).Canonical :=
  .foldl h (fun _ _ h1 => .set h1)

theorem State.Canonical.when {c : Bool} {f : State → State} (h : s.Canonical)
    (hf : ∀ u, u.Canonical → (f u).Canonical) : (s.when c f).Canonical :=
  .ite (hf _ h) h

theorem State.Canonical.fresh (h : s.Canonical) : s.fresh.2.Canonical := h

theorem State.Canonical.emit {o : Out} (h : s.Canonical) : (s.emit o).Canonical := h

/-! ## Operations: interrupts and device events -/

theorem State.Canonical.msi {v : Nat} (h : s.Canonical) : (s.msi v).Canonical := .ite (.emit h) (.ite h h)

theorem State.Canonical.evt {e : Evt} (h : s.Canonical) : (s.evt e).Canonical :=
  .ite (.msi (.set h)) (.set h)

theorem State.Canonical.late {f : Fld} {m : Nat} (h : s.Canonical) : (s.late f m).Canonical :=
  .ite h (.evt (.orF h))

/-! ## Operations: global state -/

theorem State.Canonical.goto {g : GState} {reason : Nat} (h : s.Canonical) :
    (s.goto g reason).Canonical :=
  .evt (.set (.set (.set h)))

theorem State.Canonical.devRej {rej : Nat} (h : s.Canonical) : (s.devRej rej).Canonical := .set (.flag h)

/-! ## Operations: memories -/

theorem State.Canonical.freshCode {a k : Nat} (h : s.Canonical) : (s.freshCode a k).Canonical := h

theorem State.Canonical.faultRec {kind cls req detail addr aux : Nat} (h : s.Canonical) :
    (s.faultRec kind cls req detail addr aux).Canonical :=
  .evt (.upd (.inc (.set (.set (.set (.set (.set (.when h (fun _ h1 => .flag h1)))))))))

theorem State.Canonical.orFree {w : Nat} {a : Option Nat} (h : s.Canonical) :
    (s.orFree w a).2.Canonical := by
  unfold State.orFree
  split
  · exact h
  · exact .fresh h

theorem State.Canonical.faultLog {kind : Nat} {cls req detail addr aux : Option Nat} (h : s.Canonical) :
    (s.faultLog kind cls req detail addr aux).Canonical :=
  .faultRec (.orFree (.orFree (.orFree (.orFree (.orFree h)))))

theorem State.Canonical.ceCount {cls : Nat} (h : s.Canonical) : (s.ceCount cls).Canonical := by
  unfold State.ceCount
  dsimp only
  exact .ite (.faultLog (.flag (.upd (.inc h)))) (.upd (.inc h))

theorem State.Canonical.faultAddr {a : Nat} (h : s.Canonical) : (s.faultAddr a).2.Canonical := by
  unfold State.faultAddr
  split
  · exact h
  · exact .fresh h

theorem State.Canonical.eccRd {a req : Nat} (h : s.Canonical) : (s.eccRd a req).2.2.Canonical :=
  State.eccRd_wf s a req h

theorem State.Canonical.poisonLog {a req : Nat} (h : s.Canonical) : (s.poisonLog a req).Canonical := by
  unfold State.poisonLog
  exact .faultLog (.faultAddr h)

theorem State.Canonical.eccRdF {a req : Nat} (h : s.Canonical) : (s.eccRdF a req).2.2.Canonical :=
  .when (.eccRd h) (fun _ h1 => .poisonLog h1)

theorem State.Canonical.eccRds {a req n : Nat} (h : s.Canonical) : (s.eccRds a req n).2.2.Canonical :=
  State.eccRds_wf n s a req h

theorem State.Canonical.eccRdB {a k req : Nat} (h : s.Canonical) : (s.eccRdB a k req).2.2.Canonical :=
  .eccRds h

theorem State.Canonical.eccTouch {as : List Nat} {req : Nat} (h : s.Canonical) :
    (s.eccTouch as req).Canonical :=
  .foldl h (fun _ _ h1 => .eccRd h1)

theorem State.Canonical.eccTouchIn {a n req : Nat} (h : s.Canonical) : (s.eccTouchIn a n req).Canonical :=
  .eccTouch h

theorem State.Canonical.mark {a : Nat} (h : s.Canonical) : (s.mark a).Canonical := .ite h h

theorem State.Canonical.wr32 {a v : Nat} (h : s.Canonical) : (s.wr32 a v).Canonical :=
  State.wr32_wf s a v h

theorem State.Canonical.wrWords {a : Nat} {l : List Nat} (h : s.Canonical) : (s.wrWords a l).Canonical :=
  State.wrWords_wf l s a h

theorem State.Canonical.wrB {a : Nat} {b : Bytes} (h : s.Canonical) : (s.wrB a b).Canonical := .wrWords h

theorem State.Canonical.wrPart {a k v req : Nat} (h : s.Canonical) :
    (s.wrPart a k v req).2.Canonical := by
  unfold State.wrPart
  dsimp only
  split
  · exact .eccRd h
  · exact .wr32 (.eccRd h)

theorem State.Canonical.mergeWr {a mask data req : Nat} (h : s.Canonical) :
    (s.mergeWr a mask data req).2.Canonical := by
  unfold State.mergeWr
  split
  · exact h
  · split
    · exact .wr32 h
    · dsimp only
      split
      · exact .eccRd h
      · exact .wr32 (.eccRd h)

theorem State.Canonical.wrBits {a lo w v : Nat} (h : s.Canonical) : (s.wrBits a lo w v).Canonical :=
  .wr32 h

/-! ## Host interface: the endpoint -/

theorem State.Canonical.aer {i : Nat} (h : s.Canonical) : (s.aer i).Canonical := h

/-! ## Host interface: translation -/

theorem State.Canonical.xfault {k : XFault} {write : Bool} {req iova : Nat} (h : s.Canonical) :
    (s.xfault k write req iova).Canonical := by
  unfold State.xfault
  exact .faultLog (.inc (.ite h (.flag (.set (.set (.set (.set (.set h))))))))

theorem State.Canonical.walk {hm : HostMem} {a : Nat} (h : s.Canonical) : (s.walk hm a).2.Canonical := by
  unfold State.walk
  extract_lets page
  split
  · exact h
  next u span dirAt _ dir _ _ =>
    have hu : u.Canonical := .inc h
    have hd : dir.2.Canonical := by
      unfold dir
      split
      · exact hu
      · split
        · exact hu
        · split
          · exact hu
          · split
            · exact hu
            · exact hu
    clear_value dir
    split
    · exact hd
    next u =>
      have hv : u.Canonical := hd
      dsimp only
      split
      · exact hv
      · split
        · exact hv
        · split
          · exact hv
          · exact hv

theorem State.Canonical.xlate {hm : HostMem} {write : Bool} {req a : Nat} (h : s.Canonical) :
    (s.xlate hm write req a).2.Canonical := by
  unfold State.xlate
  split
  · exact h
  · split
    · exact .xfault h
    · split
      next hq => exact .xfault (.snd (.walk h) hq)
      next hq =>
        split
        · exact .snd (.walk h) hq
        · exact .xfault (.snd (.walk h) hq)

theorem State.Canonical.hostErr {e : HostErr} {req a : Nat} (h : s.Canonical) :
    (s.hostErr e req a).Canonical := by
  unfold State.hostErr
  split
  · exact .faultLog h
  · exact .faultLog (.fresh h)

theorem State.Canonical.hostRd {hm : HostMem} {req fuel a k : Nat} (h : s.Canonical) :
    (s.hostRd hm req fuel a k).2.2.Canonical := by
  induction fuel generalizing s a k with
  | zero => exact h
  | succ fuel ih =>
    unfold State.hostRd
    split
    · exact h
    · dsimp only
      split
      next hq => exact .snd (.xlate h) hq
      next hq =>
        split
        · exact .hostErr (.snd (.xlate h) hq)
        · exact ih (.snd (.xlate h) hq)

theorem State.Canonical.hostWr {hm : HostMem} {req fuel a : Nat} {d : Bytes} (h : s.Canonical) :
    (s.hostWr hm req fuel a d).2.2.Canonical := by
  induction fuel generalizing s a d with
  | zero => exact h
  | succ fuel ih =>
    unfold State.hostWr
    split
    · exact h
    · split
      next hq => exact .snd (.xlate h) hq
      next hq => exact ih (.emit (.snd (.xlate h) hq))

/-! ## Host interface: rings -/

theorem State.Canonical.setRing {r : Nat} {x : RingS} (h : s.Canonical) : (s.setRing r x).Canonical := h

theorem State.Canonical.setRst {r : Nat} {x : RState} (h : s.Canonical) : (s.setRst r x).Canonical :=
  .set h

theorem State.Canonical.ringCounts {r : Nat} (h : s.Canonical) : (s.ringCounts r).Canonical :=
  .set (.set h)

theorem State.Canonical.ringIrq {r : Nat} (h : s.Canonical) : (s.ringIrq r).Canonical :=
  .ite (.msi h) (.ite (.msi (.setRing h)) (.setRing h))

theorem State.Canonical.see {hm : HostMem} (h : s.Canonical) : (s.see hm).Canonical := h

theorem State.Canonical.cplWrite {r : Nat} {c : Cpl} (h : s.Canonical) :
    (s.cplWrite r c).Canonical := by
  obtain ⟨wr, hwr⟩ : ∃ f, State.hostWr = f := ⟨_, rfl⟩
  have hw {q k a : Nat} {hm : HostMem} {b : Bytes} : (wr s hm q k a b).2.2.Canonical := hwr ▸ .hostWr h
  unfold State.cplWrite
  rw [hwr]
  dsimp only
  split
  · exact .flag (.setRst (.when (.ringCounts (.set (.setRing hw))) fun _ h1 => .ringIrq h1))
  · exact .when (.ringCounts (.set (.setRing hw))) fun _ h1 => .ringIrq h1

theorem State.Canonical.cplRelease {r fuel : Nat} (h : s.Canonical) : (s.cplRelease r fuel).Canonical := by
  induction fuel generalizing s with
  | zero => exact h
  | succ fuel ih =>
    unfold State.cplRelease
    split
    · exact h
    · exact ih (.cplWrite (.setRing h))

theorem State.Canonical.cpl {r : Nat} {c : Cpl} (h : s.Canonical) : (s.cpl r c).Canonical :=
  .ite (.setRing h) (.ite (.setRing h) (.cplRelease (.cplWrite h)))

theorem State.Canonical.complete {r idx status result flags : Nat} (h : s.Canonical) :
    (s.complete r idx status result flags).Canonical := by
  unfold State.complete
  split
  · exact h
  · exact .cpl h

theorem State.Canonical.updDesc {r idx : Nat} {f : Desc → Desc} (h : s.Canonical) :
    (s.updDesc r idx f).Canonical :=
  .setRing h

/-! ## Host interface: the staging memory -/

theorem State.Canonical.setTxns {l : List Txn} (h : s.Canonical) : (s.setTxns l).Canonical := .set h

theorem State.Canonical.updTxn {r idx : Nat} {f : Txn → Txn} (h : s.Canonical) :
    (s.updTxn r idx f).Canonical :=
  .setTxns h

theorem State.Canonical.txnEnd {t : Txn} {status result : Nat} (h : s.Canonical) :
    (s.txnEnd t status result).Canonical :=
  .complete (.setTxns h)

theorem State.Canonical.dbDone (h : s.Canonical) : s.dbDone.Canonical := by
  unfold State.dbDone
  split
  · exact .txnEnd h
  · exact h

theorem State.Canonical.txnPend {r : Nat} {d : Desc} (h : s.Canonical) : (s.txnPend r d).2.Canonical := by
  unfold State.txnPend
  dsimp only
  split
  · exact .complete h
  · split
    · exact .complete h
    · exact .setTxns h

theorem State.Canonical.peek {r : Nat} {hm : HostMem} {b : Bytes} {e : Option HFault} (h : s.Canonical)
    (hq : s.peek r hm = some (b, e, t)) : t.Canonical := by
  unfold State.peek at hq
  dsimp only at hq
  split at hq
  · exact .snd2 (.hostRd h) (Option.some.inj hq)
  · cases hq

theorem State.Canonical.fetchHalt {r : Nat} (h : s.Canonical) : (s.fetchHalt r).Canonical :=
  .flag (.setRst h)

theorem State.Canonical.fetchEvent {r : Nat} {hm : HostMem} {want : Bytes → Bool} (h : s.Canonical) :
    (s.fetchEvent r hm want).2.Canonical := by
  unfold State.fetchEvent
  dsimp only
  split
  · split
    · exact .updDesc h
    · exact h
  · split
    · exact h
    next hq => exact .fetchHalt (.peek h hq)
    next hq =>
      have hp := State.Canonical.peek h hq
      split
      · exact h
      · split
        · exact .cpl (.setRing hp)
        · split
          · exact .cpl (.setRing hp)
          · split
            · exact .cpl (.inc (.setRing hp))
            · split
              · exact .when (.ringCounts (.setRing (.setRing hp))) fun _ h1 => .txnPend h1
              · exact .ringCounts (.setRing (.setRing hp))

/-! ## Host interface: requests that only the rings themselves answer -/

theorem State.Canonical.ringNop {r : Nat} {hm : HostMem} (h : s.Canonical) :
    (s.ringNop r hm).Canonical := by
  unfold State.ringNop
  split
  next hq =>
    exact .complete (.snd (.fetchEvent h) hq)
  next hq =>
    exact .snd (.fetchEvent h) hq

theorem State.Canonical.ringUndef {r : Nat} {hm : HostMem} (h : s.Canonical) :
    (s.ringUndef r hm).Canonical :=
  .fetchEvent h

theorem State.Canonical.ringFetchFault {r : Nat} {hm : HostMem} (h : s.Canonical) :
    (s.ringFetchFault r hm).Canonical := by
  unfold State.ringFetchFault
  split
  next hq => exact .fetchHalt (.peek h hq)
  · exact h

theorem State.Canonical.doorbell {r pi : Nat} (h : s.Canonical) : (s.doorbell r pi).Canonical :=
  .ite (.flag h) (.ite (.flag h) (.set h))

theorem State.Canonical.ringEnable {r : Nat} (h : s.Canonical) : (s.ringEnable r).Canonical := by
  unfold State.ringEnable
  split
  · exact .ite (.ringCounts (.setRst (.set (.setRing (.set (.set h)))))) (.flag (.set h))
  · exact .flag (.set h)
  · exact h
  · exact h

theorem State.Canonical.ringDisable {r : Nat} (h : s.Canonical) : (s.ringDisable r).Canonical := by
  unfold State.ringDisable
  dsimp only
  split
  · exact .setRst (.set h)
  · exact .setRst (.set h)
  · exact .set h

theorem State.Canonical.drainDone {r : Nat} (h : s.Canonical) : (s.drainDone r).Canonical :=
  .ite (.setRst h) h

theorem State.Canonical.ringResume {r : Nat} (h : s.Canonical) : (s.ringResume r).Canonical := by
  unfold State.ringResume
  refine .ite ?_ h
  split
  · exact .setRst (.ringCounts (.setRing (.set h)))
  · exact .setRst h

theorem State.Canonical.ringCfgWrite {r mask data : Nat} (h : s.Canonical) :
    (s.ringCfgWrite r mask data).Canonical :=
  .ite (.when (.ite (.set h) (.set (.when h (fun _ h1 => .flag h1)))) (fun _ h1 => .ringResume h1))
    (.ite (.ringEnable (.when (.ite (.set h) (.set (.when h (fun _ h1 => .flag h1))))
    (fun _ h1 => .ringResume h1))) (.ite (.when (.ite (.set h)
    (.set (.when h (fun _ h1 => .flag h1)))) (fun _ h1 => .ringResume h1))
    (.ringDisable (.when (.ite (.set h) (.set (.when h (fun _ h1 => .flag h1))))
    (fun _ h1 => .ringResume h1)))))

theorem State.Canonical.abiSel {mask data : Nat} (h : s.Canonical) : (s.abiSel mask data).Canonical :=
  .ite (.when (.set h) (fun _ h1 => .flag h1)) (.flag h)

theorem State.Canonical.irqTimeout {r : Nat} (h : s.Canonical) : (s.irqTimeout r).Canonical :=
  .ite h (.msi (.setRing h))

theorem State.Canonical.msixUnmask {v : Nat} (h : s.Canonical) : (s.msixUnmask v).Canonical :=
  .when h (fun _ h1 => .emit h1)

/-! ## Host interface: IOMMU registers -/

theorem State.Canonical.iommuCtrl {mask data : Nat} (h : s.Canonical) :
    (s.iommuCtrl mask data).Canonical :=
  .ite h (.ite (.set h) (.flag h))

theorem State.Canonical.iommuInv {scope : Nat} (h : s.Canonical) : (s.iommuInv scope).Canonical :=
  .ite h (.flag h)

theorem State.Canonical.iommuInvDone (h : s.Canonical) : s.iommuInvDone.Canonical := .ite h (.set h)

/-! ## Scheduler -/

theorem State.Canonical.setCore {c : Nat} {x : CoreS} (h : s.Canonical) : (s.setCore c x).Canonical := h

theorem State.Canonical.setQueue {l : Nat} {q : List Item} (h : s.Canonical) :
    (s.setQueue l q).Canonical :=
  .set (.set h)

theorem State.Canonical.setSpill {l : Nat} {q : List Item} (h : s.Canonical) :
    (s.setSpill l q).Canonical :=
  .set (.set h)

theorem State.Canonical.quotaUpd {q : Nat} (h : s.Canonical) : (s.quotaUpd q).Canonical := .set h

theorem State.Canonical.cqPut {rcd : Bytes} (h : s.Canonical) : (s.cqPut rcd).Canonical :=
  .ite (.inc (.flag h)) (.upd (.set (.wrB h)))

theorem State.Canonical.itemReport {i : Item} {status result flags : Nat} (h : s.Canonical) :
    (s.itemReport i status result flags).Canonical := by
  unfold State.itemReport
  split
  · exact .complete h
  · exact .ite (.wrB h) (.cqPut h)

theorem State.Canonical.itemDone {i : Item} {status result : Nat} {core : Option Nat} (h : s.Canonical) :
    (s.itemDone i status result core).Canonical :=
  .quotaUpd (.itemReport (.set h))

theorem State.Canonical.spillPut {l : Nat} {i : Item} (h : s.Canonical) : (s.spillPut l i).Canonical :=
  .setSpill (.upd (.wrB h))

theorem State.Canonical.submit {src : Nat} {b : Bytes} {ring : Option (Nat × Nat)} {pt : Option Nat}
    (h : s.Canonical) : (s.submit src b ring pt).Canonical :=
  .ite h (.ite (.itemReport h) (.ite (.itemReport (.inc h))
    (.ite (.itemReport h) (.ite (.itemReport (.flag (.inc h)))
    (.ite (.spillPut (.quotaUpd (.addSat h))) (.setQueue (.quotaUpd (.addSat h))))))))

theorem State.Canonical.submitTpl {src ofs : Nat} {pt : Option Nat} (h : s.Canonical) :
    (s.submitTpl src ofs pt).Canonical := by
  unfold State.submitTpl
  refine .ite h ?_
  split
  next hq =>
    exact .inc (.flag (.snd2 (.eccRds h) hq))
  next hq =>
    exact .submit (.snd2 (.eccRds h) hq)

/-! ## Scheduler: refill, deadlines, cancel -/

theorem State.Canonical.spillRefill {l : Nat} (h : s.Canonical) : (s.spillRefill l).Canonical := by
  unfold State.spillRefill
  split
  · exact h
  · refine .ite h ?_
    extract_lets at' a known
    have hr : (s.eccRds a 0x31 8).2.2.Canonical := .eccRds h
    dsimp only
    split
    · exact .ite (.itemDone (.setSpill hr)) (.faultRec (.flag (.cqPut (.setSpill hr))))
    · exact .ite (.itemDone (.setSpill hr)) (.setQueue (.setSpill hr))

theorem State.Canonical.itemsDone {status : Nat} {l : List Item} (h : s.Canonical) :
    (s.itemsDone status l).Canonical := by
  induction l generalizing s with
  | nil => exact h
  | cons i l ih => exact ih (.itemDone h)

theorem State.Canonical.saveDrop {p : Item → Bool} {status : Nat} (h : s.Canonical) :
    (s.saveDrop p status).Canonical := by
  unfold State.saveDrop
  refine .foldl h (fun _ _ h1 => ?_)
  split
  · exact .ite (.itemDone (.setCore h1)) h1
  · exact h1

theorem State.Canonical.deadlineExpiry (h : s.Canonical) : s.deadlineExpiry.Canonical :=
  .ite h (.saveDrop (.foldl h (fun _ _ h1 => .ite h1 (.itemsDone (.setQueue h1)))))

theorem State.Canonical.cancelItems {src tag : Nat} (h : s.Canonical) :
    (s.cancelItems src tag).2.Canonical := by
  unfold State.cancelItems
  split
  next n t hq =>
    have hd : t.Canonical := by
      refine .snd (.foldl_snd (p := ((0 : Nat), s)) h fun p _ hp => ?_) hq
      dsimp only
      split
      · exact hp
      · exact .itemsDone (.itemsDone (.ite (.ite hp (.setQueue hp))
          (.setSpill (.ite hp (.setQueue hp)))))
    dsimp only
    exact .ite (.saveDrop hd) (.foldl (.saveDrop hd) fun _ _ h1 => .ite h1 (.setCore h1))

theorem State.Canonical.schedCancel {src tag : Nat} (h : s.Canonical) :
    (s.schedCancel src tag).Canonical := by
  unfold State.schedCancel
  dsimp only
  exact .ite (.flag (.cancelItems h)) (.ite (.cancelItems h) h)

/-! ## Scheduler: dispatch -/

theorem State.Canonical.unqueue {i : Item} (h : s.Canonical) : (s.unqueue i).Canonical := .setQueue h

theorem State.Canonical.coreStat {c : Nat} (h : s.Canonical) : (s.coreStat c).Canonical := by
  unfold State.coreStat
  split
  · exact .set h
  · exact .set (.set (.set (.set h)))

theorem State.Canonical.dispatchTo {c : Nat} {i : Item} (h : s.Canonical) :
    (s.dispatchTo c i).Canonical :=
  .coreStat (.inc (.ite (.set (.set (.setCore (.wrB h)))) (.setCore (.wrB h))))

theorem State.Canonical.dispatch (h : s.Canonical) : s.dispatch.Canonical := by
  unfold State.dispatch
  split
  · exact .dispatchTo (.unqueue h)
  · exact h

theorem State.Canonical.preempt (h : s.Canonical) : s.preempt.Canonical := by
  unfold State.preempt
  split
  · exact h
  · exact .set (.setCore (.unqueue h))

theorem State.Canonical.saveFrame {a : Nat} (h : s.Canonical) : (s.saveFrame a).Canonical := .wrWords h

theorem State.Canonical.afterItem {c src : Nat} (h : s.Canonical) : (s.afterItem c src).Canonical := by
  unfold State.afterItem
  split
  · exact .coreStat h
  · dsimp only
    split
    · exact .dispatchTo (.unqueue h)
    · exact .coreStat (.setCore h)

theorem State.Canonical.saveDone {c : Nat} (h : s.Canonical) : (s.saveDone c).Canonical := by
  unfold State.saveDone
  refine .ite h ?_
  split
  · dsimp only
    split
    · exact .dispatchTo (.saveFrame h)
    · exact .afterItem (.setCore (.saveFrame h))
  · exact h

theorem State.Canonical.itemEnd {c status result : Nat} (h : s.Canonical) :
    (s.itemEnd c status result).Canonical := by
  unfold State.itemEnd
  dsimp only
  split
  · exact h
  · exact .afterItem (.itemDone (.setCore h))

theorem State.Canonical.dmaCancel {c uid : Nat} (h : s.Canonical) : (s.dmaCancel c uid).Canonical := by
  unfold State.dmaCancel
  refine .foldl h (fun _ _ h1 => ?_)
  split
  · exact .ite (.faultLog h1) h1
  · exact h1

theorem State.Canonical.coreExc {c : Nat} {e : Exc} {opnd addr : Nat} (h : s.Canonical) :
    (s.coreExc c e opnd addr).Canonical := by
  unfold State.coreExc
  split
  · exact h
  · exact .itemEnd (.when (.wrWords (.setCore (.dmaCancel h))) (fun _ h1 => .faultLog h1))

theorem State.Canonical.restoreDone {c : Nat} (h : s.Canonical) : (s.restoreDone c).Canonical := by
  unfold State.restoreDone
  refine .ite h ?_
  split
  · dsimp only
    split
    · exact .coreExc (.setCore (.eccRds h))
    · exact .coreStat (.setCore (.eccRds h))
  · exact h

theorem State.Canonical.affExpire {uid : Nat} (h : s.Canonical) : (s.affExpire uid).Canonical :=
  .foldl h (fun _ _ h1 => .ite (.setQueue h1) h1)

/-! ## Scheduler: period table, telemetry, windows -/

theorem State.Canonical.ptFire {e : Nat} (h : s.Canonical) : (s.ptFire e).Canonical :=
  .ite (.ite (.flag h) (.submitTpl h)) h

theorem State.Canonical.telItem {g n : Nat} (h : s.Canonical) : (s.telItem g n).Canonical :=
  .ite (.submitTpl h) h

theorem State.Canonical.windowEnd (h : s.Canonical) : s.windowEnd.Canonical :=
  .ite h (.set (.upd (.foldl (.foldl h (fun _ _ h1 => .setCore (.set (.set (.set h1)))))
    (fun _ _ h1 => .quotaUpd (.set h1)))))

theorem State.Canonical.coreTime {n : Nat} (h : s.Canonical) : (s.coreTime n).Canonical := by
  unfold State.coreTime
  refine .ite h (.foldl h (fun _ _ h1 => ?_))
  dsimp only
  split
  · exact h1
  · exact .quotaUpd (.set (.upd (.setCore h1)))

/-! ## Scheduler: configuration check -/

theorem State.Canonical.schedCntClr (h : s.Canonical) : s.schedCntClr.Canonical :=
  .foldl (.foldl (.foldl (.foldl (.zero h) (fun _ _ h1 => .zero h1)) (fun _ _ h1 => .zero h1))
    (fun _ _ h1 => .set (.set (.foldl h1 (fun _ _ h2 => .set h2))))) (fun _ _ h1 => .quotaUpd h1)

/-! ## Lanes -/

theorem State.Canonical.setLane {l : Nat} {x : LaneS} (h : s.Canonical) : (s.setLane l x).Canonical := h

theorem State.Canonical.setLst {l : Nat} {x : LState} (h : s.Canonical) : (s.setLst l x).Canonical :=
  .set (.set h)

/-! ## Lanes: what a lane transmits -/

theorem State.Canonical.fillOut {l : Nat} (h : s.Canonical) : (s.fillOut l).Canonical :=
  .when h (fun _ h1 => .emit h1)

theorem State.Canonical.sendFrame {l n g : Nat} {o : Out} (h : s.Canonical) :
    (s.sendFrame l n g o).Canonical :=
  .setLane (.emit (.emit (.when (.fillOut h) (fun _ h1 => .emit h1))))

theorem State.Canonical.sendLane {l : Nat} {f : Bytes} (h : s.Canonical) : (s.sendLane l f).Canonical :=
  .sendFrame h

theorem State.Canonical.sendStroke {l g : Nat} {f : Bytes} (h : s.Canonical) :
    (s.sendStroke l g f).Canonical :=
  .sendFrame h

theorem State.Canonical.sendMirror {l : Nat} {f : Bytes} (h : s.Canonical) :
    (s.sendMirror l f).Canonical :=
  .sendFrame h

/-! ## Lanes: what a lane delivers -/

theorem State.Canonical.onFrame {l : Nat} {f : Bytes} {k : State → Bytes → State} (h : s.Canonical)
    (hk : ∀ u x1, u.Canonical → (k u x1).Canonical) : (s.onFrame l f k).Canonical :=
  .ite (hk _ _ h) (hk _ _ (.setLane h))

theorem State.Canonical.hurtAt {l : Nat} {pos : Option Nat} {h : Hurt} (hs : s.Canonical) :
    (s.hurtAt l pos h).Canonical := by
  unfold State.hurtAt
  split
  · exact .setLane hs
  · exact hs

/-! ## Lanes: frames of the HELLO exchange -/

theorem State.Canonical.sendHello {l : Nat} (h : s.Canonical) : (s.sendHello l).Canonical := by
  unfold State.sendHello
  dsimp only
  split
  · exact .sendLane (.setLane (.fresh h))
  · exact .sendMirror (.setLane (.fresh h))
  · exact .setLane (.fresh h)

/-! ## Lanes: coding, synchronisation, rate matching -/

theorem State.Canonical.ctleHold {l : Nat} (h : s.Canonical) : (s.ctleHold l).Canonical :=
  .when h (fun _ h1 => .set h1)

theorem State.Canonical.toTrain {l : Nat} (h : s.Canonical) : (s.toTrain l).Canonical :=
  .ctleHold (.setLst (.ite (.set (.set (.set (.setLane h)))) (.set (.set (.set (.setLane h))))))

theorem State.Canonical.laneDrop {l : Nat} (h : s.Canonical) : (s.laneDrop l).Canonical :=
  .ite (.toTrain (.set (.when (.inc (.flag h)) (fun _ h1 => .set h1)))) h

theorem State.Canonical.syncAcquire {l rate : Nat} (h : s.Canonical) : (s.syncAcquire l rate).Canonical :=
  .ite (.flag (.flag (.flag (.setLane h)))) h

theorem State.Canonical.codeScore {l gap : Nat} (h : s.Canonical) : (s.codeScore l gap).Canonical :=
  .ite (.ite (.set (.setLane (.inc h))) (.setLane (.inc h))) (.setLane (.inc h))

theorem State.Canonical.codeError {l gap : Nat} {rd : Bool} {code : Nat} {pos : Option Nat}
    (h : s.Canonical) : (s.codeError l gap rd code pos).Canonical :=
  .ite (.hurtAt (.codeScore h)) h

theorem State.Canonical.sigLost {l : Nat} (h : s.Canonical) : (s.sigLost l).Canonical :=
  .set (.set (.set h))

theorem State.Canonical.skp {l n fill : Nat} (h : s.Canonical) : (s.skp l n fill).Canonical :=
  .ite h (.setLane h)

theorem State.Canonical.ebError {l : Nat} {ovf : Bool} {pos : Option Nat} (h : s.Canonical) :
    (s.ebError l ovf pos).Canonical :=
  .ite h (.hurtAt (.setLane (.ite (.inc (.flag h)) (.inc (.flag h)))))

/-! ## Lanes: adaptation -/

theorem State.Canonical.guardRevert {l : Nat} (h : s.Canonical) : (s.guardRevert l).Canonical :=
  .ite (.flag (.setLane (.inc (.flag (.ctleHold (.set (.set h)))))))
    (.inc (.flag (.ctleHold (.set (.set h)))))

theorem State.Canonical.adapt {l : Nat} {ctle : Int} {taps : List Int} (h : s.Canonical) :
    (s.adapt l ctle taps).Canonical :=
  .ite (.when (.set (.set h)) (fun _ h1 => .guardRevert h1)) h

theorem State.Canonical.adaptFreeze {l : Nat} (h : s.Canonical) : (s.adaptFreeze l).Canonical :=
  .ite (.flag (.setLane h)) h

theorem State.Canonical.adaptResume {l : Nat} (h : s.Canonical) : (s.adaptResume l).Canonical :=
  .ite (.set (.setLane h)) h

/-! ## Lanes: training -/

theorem State.Canonical.laneTrain {l : Nat} (h : s.Canonical) : (s.laneTrain l).Canonical :=
  .ite (.toTrain (.setLane (.set h))) h

theorem State.Canonical.trainDone {l : Nat} (h : s.Canonical) : (s.trainDone l).Canonical :=
  .ite (.sendHello (.setLst (.setLane (.set (.set h))))) h

theorem State.Canonical.helloResend {l : Nat} (h : s.Canonical) : (s.helloResend l).Canonical :=
  .ite (.sendHello h) h

theorem State.Canonical.attemptTimeout {l : Nat} (h : s.Canonical) : (s.attemptTimeout l).Canonical :=
  .ite (.ite (.setLst (.set (.setLane h))) (.setLst (.flag h))) h

theorem State.Canonical.backoffExpiry {l : Nat} (h : s.Canonical) : (s.backoffExpiry l).Canonical :=
  .ite (.toTrain h) h

theorem State.Canonical.absentRetry {l : Nat} (h : s.Canonical) : (s.absentRetry l).Canonical :=
  .ite (.toTrain h) h

theorem State.Canonical.laneUp {l : Nat} (h : s.Canonical) : (s.laneUp l).Canonical := .setLst (.set h)

theorem State.Canonical.helloReceive {l : Nat} {f : Bytes} (h : s.Canonical) :
    (s.helloReceive l f).Canonical :=
  .ite (.sendLane h) h

theorem State.Canonical.laneCfgWrite {l mask data : Nat} (h : s.Canonical) :
    (s.laneCfgWrite l mask data).Canonical :=
  .ite (.ite (.setLst (.set (.sigLost (.set (.zero (.set (.set (.setLane (.set h))))))))) (.set h))
    h

theorem State.Canonical.txeqWrite {l mask data : Nat} (h : s.Canonical) :
    (s.txeqWrite l mask data).Canonical :=
  .ite (.ite (.set h) (.flag h)) h

theorem State.Canonical.laneCntClr {l : Nat} (h : s.Canonical) : (s.laneCntClr l).Canonical := .zero h

theorem State.Canonical.testIgn {l : Nat} (h : s.Canonical) : (s.testIgn l).Canonical :=
  .when h (fun _ h1 => .flag h1)

/-! ## Lanes: PRBS and loopbacks -/

theorem State.Canonical.genStart {l old : Nat} (h : s.Canonical) : (s.genStart l old).Canonical :=
  .ite (.setLane (.fresh h)) h

theorem State.Canonical.farEnd {l : Nat} {rx : List Bool} (h : s.Canonical) : (s.farEnd l rx).Canonical :=
  .when h (fun _ h1 => .emit h1)

theorem State.Canonical.prbsLock {l : Nat} {rx : Bytes} (h : s.Canonical) : (s.prbsLock l rx).Canonical :=
  .ite (.flag (.farEnd h)) (.farEnd h)

theorem State.Canonical.prbsCount {l n errs : Nat} (h : s.Canonical) : (s.prbsCount l n errs).Canonical :=
  .ite (.setLane (.addSat h)) h

theorem State.Canonical.prbsLost {l n errs : Nat} (h : s.Canonical) : (s.prbsLost l n errs).Canonical :=
  .ite (.flag (.set (.prbsCount h))) h

theorem State.Canonical.prbsLatch {l : Nat} (h : s.Canonical) : (s.prbsLatch l).Canonical := .set (.set h)

theorem State.Canonical.prbsClr {l : Nat} (h : s.Canonical) : (s.prbsClr l).Canonical := .setLane (.set h)

/-! ## Strings: strings -/

theorem State.Canonical.setStr {n : Nat} {x : StrS} (h : s.Canonical) : (s.setStr n x).Canonical := h

theorem State.Canonical.strFlags {n : Nat} (h : s.Canonical) : (s.strFlags n).Canonical :=
  .set (.set (.set (.set (.set (.set h)))))

theorem State.Canonical.telSubmit {g : Nat} (h : s.Canonical) : (s.telSubmit g).Canonical :=
  .ite (.telItem h) h

theorem State.Canonical.strFrets {n : Nat} (h : s.Canonical) : (s.strFrets n).Canonical :=
  .foldl h (fun _ _ h1 => .set (.set h1))

theorem State.Canonical.setSst {n : Nat} {x : SState} (h : s.Canonical) : (s.setSst n x).Canonical :=
  .strFlags (.set (.set h))

theorem State.Canonical.updFret {n k : Nat} {f : FretS → FretS} (h : s.Canonical) :
    (s.updFret n k f).Canonical :=
  .setStr h

theorem State.Canonical.strSend {n : Nat} {f : Bytes} (h : s.Canonical) : (s.strSend n f).Canonical := by
  unfold State.strSend
  split
  · exact .ite (.setStr h) (.when h (fun _ h1 => .sendLane h1))
  · exact h

/-! ## Strings: the cell table and the dead-time table -/

theorem State.Canonical.ctPut {c ofs v : Nat} (h : s.Canonical) : (s.ctPut c ofs v).Canonical := .wr32 h

theorem State.Canonical.dtInit {c : Nat} (h : s.Canonical) : (s.dtInit c).Canonical := .wr32 (.wr32 h)

theorem State.Canonical.ctAssign {n k : Nat} {f : FretS} (h : s.Canonical) :
    (s.ctAssign n k f).Canonical :=
  .ite h (.upd (.when (.ctPut (.ctPut (.wrWords (.ctPut (.ctPut (.ctPut h))))))
    (fun _ h1 => .dtInit h1)))

theorem State.Canonical.ctRelease {n : Nat} (h : s.Canonical) : (s.ctRelease n).Canonical :=
  .foldl h (fun _ _ h1 => .ite (.ctPut h1) h1)

/-! ## Strings: enumeration frames -/

theorem State.Canonical.strNonce {n : Nat} (h : s.Canonical) : (s.strNonce n).Canonical :=
  .setStr (.fresh h)

theorem State.Canonical.sendEnumHello {n : Nat} (h : s.Canonical) : (s.sendEnumHello n).Canonical :=
  .strSend (.strNonce h)

theorem State.Canonical.sendEcho {n fret : Nat} (h : s.Canonical) : (s.sendEcho n fret).Canonical :=
  .strSend (.strNonce h)

theorem State.Canonical.setPhase {n : Nat} {p : EnumPhase} (h : s.Canonical) :
    (s.setPhase n p).Canonical :=
  .setStr h

/-! ## Strings: start and end of an enumeration -/

theorem State.Canonical.enumBegin {n : Nat} (h : s.Canonical) : (s.enumBegin n).Canonical := by
  unfold State.enumBegin
  exact .sendEnumHello (.strSend (.setSst (.zero (.set (.set (.upd (.setStr (.ctRelease h))))))))

theorem State.Canonical.enumStart {n : Nat} (h : s.Canonical) : (s.enumStart n).Canonical :=
  .when h (fun _ h1 => .enumBegin h1)

theorem State.Canonical.enumWrite {n : Nat} (h : s.Canonical) : (s.enumWrite n).Canonical :=
  .ite h (.ite (.enumBegin h) (.flag h))

theorem State.Canonical.reenumWrite {n : Nat} (h : s.Canonical) : (s.reenumWrite n).Canonical :=
  .ite (.sendEnumHello (.setPhase (.flag h))) (.flag h)

theorem State.Canonical.reenumEnd {n : Nat} {ok : Bool} (h : s.Canonical) :
    (s.reenumEnd n ok).Canonical :=
  .when (.strFlags (.setPhase (.set h))) (fun _ h1 => .flag h1)

theorem State.Canonical.strFail {n code fret : Nat} (h : s.Canonical) :
    (s.strFail n code fret).Canonical :=
  .setSst (.setPhase (.set (.set h)))

theorem State.Canonical.mirSend {i type : Nat} {body : Bytes} (h : s.Canonical) :
    (s.mirSend i type body).Canonical := by
  unfold State.mirSend
  split
  · exact .when h (fun _ h1 => .sendMirror h1)
  · exact h

theorem State.Canonical.strLive {n : Nat} (h : s.Canonical) : (s.strLive n).Canonical := by
  unfold State.strLive
  exact .ite (.mirSend (.setStr (.setSst (.setPhase h)))) (.setSst (.setPhase h))

theorem State.Canonical.finalNext {n k : Nat} (h : s.Canonical) : (s.finalNext n k).Canonical :=
  .ite (.strSend (.setStr h)) (.strLive h)

/-! ## Strings: delays, layout and checks -/

theorem State.Canonical.mapCompute {n : Nat} (h : s.Canonical) : (s.mapCompute n).Canonical :=
  .setStr (.when h (fun _ h1 => .flag h1))

theorem State.Canonical.strResult {n : Nat} (h : s.Canonical) : (s.strResult n).Canonical := by
  unfold State.strResult
  dsimp only
  split
  · exact .set (.set (.set (.set (.set (.set h)))))
  · exact .set (.set (.fresh (.set (.set (.set (.set h))))))

theorem State.Canonical.stringCheck {n : Nat} (h : s.Canonical) : (s.stringCheck n).Canonical := by
  unfold State.stringCheck
  dsimp only
  exact .ite (.strFail (.set (.strFrets (.strResult (.mapCompute h)))))
    (.finalNext (.set (.strFrets (.strResult (.mapCompute h)))))

theorem State.Canonical.searchEnd {n : Nat} (h : s.Canonical) : (s.searchEnd n).Canonical :=
  .ite (.sendEcho (.setPhase h)) (.sendEcho (.setStr h))

/-! ## Strings: replies, ACKs and ECHOs -/

theorem State.Canonical.enumReply {n : Nat} {f : Bytes} (h : s.Canonical) :
    (s.enumReply n f).Canonical := by
  unfold State.enumReply
  refine .ite h ?_
  dsimp only
  split
  · exact .ite (.searchEnd (.set h)) (.ite (.searchEnd (.set h))
      (.ite (.searchEnd (.setStr h)) (.strSend (.setStr (.when h (fun _ h1 => .flag h1))))))
  · split
    · exact .ite (.strSend (.setPhase h)) (.reenumEnd h)
    · exact .reenumEnd h
  · exact h

theorem State.Canonical.enumReplyTimeout {n : Nat} (h : s.Canonical) :
    (s.enumReplyTimeout n).Canonical := by
  unfold State.enumReplyTimeout
  split
  · exact .searchEnd (.flag h)
  · exact .reenumEnd h
  · exact h

theorem State.Canonical.fretIn {n k : Nat} (h : s.Canonical) : (s.fretIn n k).Canonical :=
  .ite h (.strFlags (.strFrets (.ctAssign (.updFret h))))

theorem State.Canonical.leadNext {n k : Nat} (h : s.Canonical) : (s.leadNext n k).Canonical :=
  .ite (.strSend (.setStr h)) (.setStr h)

theorem State.Canonical.ackReceive {n : Nat} {f : Bytes} (h : s.Canonical) :
    (s.ackReceive n f).Canonical := by
  unfold State.ackReceive
  dsimp only
  split
  · exact .ite h (.ite (.sendEnumHello (.setPhase h)) (.searchEnd (.flag (.setStr h))))
  · exact .ite h (.ite (.finalNext (.fretIn h)) (.ite (.finalNext h) (.strFail h)))
  · exact .ite h (.ite (.reenumEnd (.fretIn h)) (.reenumEnd h))
  · split
    · exact .ite h (.strFlags (.leadNext (.updFret h)))
    · exact h

theorem State.Canonical.ackTimeout {n : Nat} (h : s.Canonical) : (s.ackTimeout n).Canonical := by
  unfold State.ackTimeout
  dsimp only
  split
  · exact .searchEnd (.flag (.setStr h))
  · exact .ite (.strSend (.setPhase h)) (.strFail h)
  · exact .ite (.strSend (.setPhase h)) (.reenumEnd h)
  · split
    · exact .ite (.strSend (.setStr h)) (.leadNext h)
    · exact h

theorem State.Canonical.sendDly {n : Nat} (h : s.Canonical) : (s.sendDly n).Canonical := by
  unfold State.sendDly
  exact .mirSend (.strFlags (.strFrets (.setStr (.setPhase h))))

theorem State.Canonical.measNext {n k : Nat} (h : s.Canonical) : (s.measNext n k).Canonical :=
  .ite (.sendEcho (.setPhase h)) (.sendEcho (.setPhase h))

theorem State.Canonical.echoReturn {n : Nat} {f : Bytes} {half : Nat} (h : s.Canonical) :
    (s.echoReturn n f half).Canonical := by
  unfold State.echoReturn
  dsimp only
  split
  · exact .ite h (.ite (.sendEcho (.setStr (.updFret h))) (.sendEcho (.setPhase (.updFret h))))
  · exact .ite h (.stringCheck (.setStr h))
  · exact .ite h (.measNext (.updFret h))
  · exact .ite h (.sendDly (.setStr h))
  · exact h

theorem State.Canonical.echoTimeout {n : Nat} (h : s.Canonical) : (s.echoTimeout n).Canonical := by
  unfold State.echoTimeout
  dsimp only
  split
  · exact .ite (.sendEcho (.setPhase h)) (.sendEcho (.flag (.setStr h)))
  · exact .ite (.sendEcho (.setPhase h)) (.stringCheck (.setStr h))
  · exact .measNext (.updFret h)
  · exact .sendDly (.setStr h)
  · exact h

/-! ## Strings: what a lane returns -/

theorem State.Canonical.enumHelloReceive {l : Nat} {f : Bytes} (h : s.Canonical) :
    (s.enumHelloReceive l f).Canonical :=
  .ite (.sendLane h) h

theorem State.Canonical.laneEcho {l : Nat} {f : Bytes} (h : s.Canonical) : (s.laneEcho l f).Canonical :=
  .ite (.sendLane h) h

/-! ## Strings: BLK -/

theorem State.Canonical.blkReceive {l g fourth : Nat} (h : s.Canonical) :
    (s.blkReceive l g fourth).Canonical :=
  .ite (.ite (.orF h) (.inc h)) h

theorem State.Canonical.blkTrim {n : Nat} (h : s.Canonical) : (s.blkTrim n).Canonical := .set h

theorem State.Canonical.blkOut {l g : Nat} (h : s.Canonical) : (s.blkOut l g).Canonical :=
  .emit (.emit (.emit (.emit h)))

theorem State.Canonical.blkInject {n : Nat} (h : s.Canonical) : (s.blkInject n).Canonical := by
  unfold State.blkInject
  split
  · exact h
  · exact .ite (.blkOut (.set h)) h

theorem State.Canonical.holdLane {l : Nat} (h : s.Canonical) : (s.holdLane l).Canonical :=
  .ite (.blkOut (.when h (fun _ h1 => .set h1))) h

theorem State.Canonical.blkTrips (h : s.Canonical) : s.blkTrips.Canonical :=
  .foldl h (fun _ _ h1 => .ite h1 (.blkTrim (.setStr h1)))

theorem State.Canonical.blkHold (h : s.Canonical) : s.blkHold.Canonical :=
  .foldl (.foldl h (fun _ _ h1 => .ite (.setStr h1) h1)) (fun _ _ h1 => .holdLane h1)

/-! ## Strings: counters, transitions -/

theorem State.Canonical.strCntClr {n : Nat} (h : s.Canonical) : (s.strCntClr n).Canonical := .zero h

theorem State.Canonical.strStop {n : Nat} {x : SState} (h : s.Canonical) : (s.strStop n x).Canonical :=
  .setSst (.set (.setStr h))

theorem State.Canonical.strsIdle (h : s.Canonical) : s.strsIdle.Canonical :=
  .foldl h (fun _ _ h1 => .ite h1 (.strStop h1))

theorem State.Canonical.strsWatch (h : s.Canonical) : s.strsWatch.Canonical := by
  unfold State.strsWatch
  refine .foldl h (fun _ _ h1 => ?_)
  split
  · exact h1
  · exact .ite (.strStop h1) h1
  · exact .strStop h1

theorem State.Canonical.strsTake (h : s.Canonical) : s.strsTake.Canonical :=
  .foldl h (fun _ _ h1 => .ite (.ite (.strStop h1) (.strStop h1)) h1)

/-! ## Observer: numbers that may leave their format -/

theorem State.Canonical.fitU {w : Nat} {v : Int} (h : s.Canonical) : (s.fitU w v).2.Canonical := by
  unfold State.fitU
  split
  · exact h
  · exact .fresh h

theorem State.Canonical.fitS {w : Nat} {v : Int} (h : s.Canonical) : (s.fitS w v).2.Canonical := by
  unfold State.fitS
  split
  · exact h
  · exact .fresh h

/-! ## Observer: telemetry -/

theorem State.Canonical.telStore {cid code pidx arr : Nat} {slot : Bytes} (h : s.Canonical) :
    (s.telStore cid code pidx arr slot).Canonical :=
  .ite h (.upd (.when (.ite (.ctPut (.ctPut (.ctPut (.wrWords h)))) (.wrPart h))
    (fun _ h1 => .inc h1)))

theorem State.Canonical.telParse {n : Nat} {side whole : Bool} {pidx : Nat} {arr : FretS → Nat}
    {stroke : Bytes} (h : s.Canonical) : (s.telParse n side whole pidx arr stroke).Canonical :=
  .foldl h (fun _ _ h1 => .ite h1 (.telStore (.when (.when h1 (fun _ h2 => .inc h2))
    (fun _ h2 => .inc h2))))

/-! ## Observer: currents and charge -/

theorem State.Canonical.setArm {a : Nat} {x : ArmS} (h : s.Canonical) : (s.setArm a x).Canonical := h

theorem State.Canonical.obsCurrent {a : Nat} (h : s.Canonical) : (s.obsCurrent a).Canonical := by
  have hv : (if (s.arm a).seen then ((s.arm a).iu, s)
      else (sx 16 s.fresh.1, s.fresh.2)).2.Canonical := by
    split
    · exact h
    · exact .fresh h
  exact .ite (.setArm h) (.setArm (.when hv fun _ h1 => .orF h1))

/-! ## Observer: history in the entry -/

theorem State.Canonical.histPut {c m : Nat} {r : CmdRec} {fix : Bool} (h : s.Canonical) :
    (s.histPut c m r fix).Canonical :=
  .ctPut (.ctPut (.ctPut h))

theorem State.Canonical.qhPut {c m : Nat} {q : Int} (h : s.Canonical) : (s.qhPut c m q).Canonical :=
  .ctPut (.fitS h)

theorem State.Canonical.fixHeld {o : ObsIn} {n miss : Nat} (h : s.Canonical) :
    (s.fixHeld o n miss).2.Canonical := by
  unfold State.fixHeld
  split
  · exact h
  · split
    · dsimp only
      split
      · exact .qhPut (.qhPut (.histPut h))
      · exact .qhPut (.histPut h)
    · exact h

theorem State.Canonical.obsAdapt {gnom : Int} {v : ObsV} {vcap : Nat} {q : Int} (h : s.Canonical) :
    (s.obsAdapt gnom v vcap q).2.Canonical := by
  have hg : (if q = 0 then (sx 32 s.fresh.1, s.fresh.2)
      else (rdiv (((vcap : Int) - v.vprev) * 2 ^ 32) q, s)).2.Canonical := by
    split
    · exact .fresh h
    · exact h
  unfold State.obsAdapt
  dsimp only
  generalize (if q = 0 then _ else _) = g at hg ⊢
  split
  · exact h
  · split
    · exact hg
    · exact hg

theorem State.Canonical.obsUse {o : ObsIn} {gnom : Int} {st miss : Nat} {v : ObsV} {r : TelIn}
    (h : s.Canonical) : (s.obsUse o gnom st miss v r).2.Canonical := by
  have hd : (if telHeld r.data then s.fixHeld o (pidxNear o.u r.pidx) miss
      else (0, s)).2.Canonical := by
    split
    · exact .fixHeld h
    · exact h
  unfold State.obsUse
  generalize (if telHeld r.data then _ else _) = d at hd ⊢
  dsimp only
  split
  · exact hd
  · split
    · split
      · exact .inc (.inc hd)
      · exact .inc hd
    · exact .obsAdapt hd

theorem State.Canonical.cLow {gnom gam : Int} (h : s.Canonical) : (s.cLow gnom gam).2.Canonical := by
  unfold State.cLow
  dsimp only
  split
  · exact h
  · split
    · exact .fresh h
    · exact h

/-! ## Observer: adaptive dead time -/

theorem State.Canonical.dtRead {c : Nat} (h : s.Canonical) : (s.dtRead c).Canonical :=
  .when (.eccTouch h) (fun _ h1 => .dtInit h1)

theorem State.Canonical.deadTime {c tsw : Nat} (h : s.Canonical) : (s.deadTime c tsw).Canonical := by
  unfold State.deadTime
  refine .ite h ?_
  extract_lets a u w0 w1 tswf0 tswf1 tswf dreq req0 hi lo sat v req dtc upc dnc
  have hv : v.Canonical := .when (.dtRead h) fun _ h1 => .inc h1
  clear_value v
  generalize hd : (if dtc < lo then _ else _ : Nat × Nat × Nat × State) = d
  have hw : d.2.2.2.Canonical := by
    subst hd
    split
    · exact .inc hv
    · split
      · exact .inc hv
      · split
        · split
          · exact .inc hv
          · exact hv
        · split
          · split
            · exact .inc hv
            · exact hv
          · exact hv
  exact .wr32 (.wr32 hw)

/-! ## Observer: the update of one entry -/

theorem State.Canonical.telDue {c u miss : Nat} (h : s.Canonical) :
    (s.telDue c u miss).2.2.2.Canonical := by
  unfold State.telDue
  refine .foldl_of (P := fun p : Nat × Nat × Option (TelIn × Nat) × State => p.2.2.2.Canonical) h
    fun p _ hp => ?_
  dsimp only
  split
  · exact hp
  · split
    · exact hp
    · split
      · split
        · exact .inc (.ctPut hp)
        · exact hp
      · exact .inc hp

theorem State.Canonical.ctReset {a c : Nat} (h : s.Canonical) : (s.ctReset a c).Canonical :=
  .ctPut (.ctPut (.wrWords (.eccRd h)))

theorem State.Canonical.ctRead {a c : Nat} {offs : List Nat} (h : s.Canonical) :
    (s.ctRead a c offs).2.Canonical := by
  unfold State.ctRead
  dsimp only
  split
  · exact .eccTouch h
  · split
    · exact .wrBits (.eccTouch h)
    · exact .ctReset (.eccTouch h)

theorem State.Canonical.obsEntry {a c u : Nat} (h : s.Canonical) : (s.obsEntry a c u).Canonical := by
  unfold State.obsEntry
  split
  next good s1 h1 =>
  replace h1 : s1.Canonical := .snd (.ctRead h) h1
  refine .ite h1 ?_
  extract_lets _ w0C _ w38 _ _ _ gnom _ _ s2 gam st nocur
  have h2 : s2.Canonical := h1
  clear_value s2
  split
  next miss fl used s3 h3 =>
  replace h3 : s3.Canonical := by
    have := State.Canonical.telDue (c := c) (u := u) (miss := bits (s1.ct c 0x34) 16 4) h2
    rwa [h3] at this
  extract_lets byp o q1 s4 v
  have h4 : s4.Canonical := .ite h3 (.qhPut h3)
  clear_value s4
  dsimp only
  refine .ctPut (.ctPut (.ctPut (.ctPut (.ctPut (.ctPut (.ctPut (.when (.upd (.cLow (.fitU (.fitS
    (.fitU (.fitU (.qhPut ?_))))))) fun _ h1 => .ctPut h1)))))))
  split
  · dsimp only
    exact .deadTime (.obsUse h4)
  · exact h4

/-! ## Observer: arms -/

theorem State.Canonical.obsUpdate (h : s.Canonical) : s.obsUpdate.Canonical :=
  .upd (.foldl (.foldl (.foldl h (fun _ _ h1 => .obsCurrent h1))
    (fun _ _ h1 => .foldl h1 (fun _ _ h2 => .ite (.obsEntry h2) h2))) (fun _ _ h1 => .wrBits h1))

theorem State.Canonical.vectorDeliver {a : Nat} (h : s.Canonical) : (s.vectorDeliver a).Canonical :=
  .ite (.ite (.submitTpl (.setArm (.wrB (.foldl h (fun _ _ h1 => .ctRead h1)))))
    (.setArm (.wrB (.foldl h (fun _ _ h1 => .ctRead h1))))) h

/-! ## Observer: strokes that come home or pass -/

theorem State.Canonical.directSeen {n p : Nat} (h : s.Canonical) : (s.directSeen n p).Canonical :=
  .ite (.set (.setStr h)) (.setStr h)

theorem State.Canonical.strokeReturn {n : Nat} {f : Bytes} (h : s.Canonical) :
    (s.strokeReturn n f).Canonical := by
  unfold State.strokeReturn
  dsimp only
  split
  · exact .mirSend (.ite h (.directSeen h))
  · split
    · exact h
    · exact .telParse (.when (.setStr h) (fun _ h1 => .inc h1))

theorem State.Canonical.strokeNoHome {n : Nat} (h : s.Canonical) : (s.strokeNoHome n).Canonical := by
  unfold State.strokeNoHome
  split
  · exact h
  · exact .inc (.setStr h)

theorem State.Canonical.epochSee {side : Bool} {epoch : Nat} (h : s.Canonical) :
    (s.epochSee side epoch).Canonical :=
  .ite (.set (.set h)) h

theorem State.Canonical.strokeRecord {n l : Nat} {f : Bytes} (h : s.Canonical) :
    (s.strokeRecord n l f).Canonical :=
  .ite (.setStr h) (.upd (.telParse (.ite (.foldl (.when
    (.when (.setStr h) (fun _ h1 => .epochSee h1)) (fun _ h1 => .inc h1))
    (fun _ _ h1 => .ite h1 (.histPut h1))) (.when (.when (.setStr h) (fun _ h1 => .epochSee h1))
    (fun _ h1 => .inc h1)))))

theorem State.Canonical.strokeReflect {l : Nat} {f : Bytes} (h : s.Canonical) :
    (s.strokeReflect l f).Canonical :=
  .ite (.when (.sendStroke h) (fun _ h1 => .strokeRecord h1)) h

theorem State.Canonical.modCntClr (h : s.Canonical) : s.modCntClr.Canonical := .zero h

theorem State.Canonical.ctWrite {a mask data req : Nat} (h : s.Canonical) :
    (s.ctWrite a mask data req).Canonical :=
  .ite (.ite (.upd (.mergeWr h)) (.mergeWr h)) (.inc (.flag h))

theorem State.Canonical.dtWrite {a mask data req : Nat} (h : s.Canonical) :
    (s.dtWrite a mask data req).Canonical :=
  .ite (.inc (.flag (.ite (.mergeWr h) h))) (.ite (.mergeWr h) h)

/-! ## Cells -/

theorem State.Canonical.setCell {c : Nat} {x : CellS} (h : s.Canonical) : (s.setCell c x).Canonical := h

theorem State.Canonical.cellForward {c port : Nat} {f : Bytes} (h : s.Canonical) :
    (s.cellForward c port f).Canonical :=
  .when h (fun _ h1 => .emit h1)

theorem State.Canonical.cellHello {c port : Nat} {f : Bytes} (h : s.Canonical) :
    (s.cellHello c port f).Canonical :=
  .ite (.cellForward h) (.ite (.emit h) (.ite (.emit h) (.ite (.cellForward h) (.emit h))))

theorem State.Canonical.cellAssign {c port : Nat} {f : Bytes} (h : s.Canonical) :
    (s.cellAssign c port f).Canonical :=
  .ite (.cellForward h) (.ite (.emit (.setCell h)) (.ite (.cellForward h)
    (.ite (.emit (.fresh h)) (.emit (.when h (fun _ h1 => .setCell h1))))))

theorem State.Canonical.cellEcho {c port : Nat} {f : Bytes} (h : s.Canonical) :
    (s.cellEcho c port f).Canonical :=
  .ite (.emit h) (.cellForward h)

theorem State.Canonical.cellRelease {c port : Nat} {f : Bytes} (h : s.Canonical) :
    (s.cellRelease c port f).Canonical :=
  .cellForward (.ite (.setCell h) h)

/-! ## Cells: strokes -/

theorem State.Canonical.cellStroke {c port : Nat} {f : Bytes} {m : CellMeas} (h : s.Canonical) :
    (s.cellStroke c port f m).Canonical :=
  .ite (.emit (.setCell h)) (.emit h)

/-! ## Cells: apply instant, BLK, ports -/

theorem State.Canonical.cellApply {c : Nat} (h : s.Canonical) : (s.cellApply c).Canonical :=
  .ite h (.setCell h)

theorem State.Canonical.cellBlk {c port g fourth : Nat} (h : s.Canonical) :
    (s.cellBlk c port g fourth).Canonical :=
  .ite (.when (.setCell h) (fun _ h1 => .emit h1)) h

theorem State.Canonical.cellAuthTimeout {c : Nat} (h : s.Canonical) : (s.cellAuthTimeout c).Canonical :=
  .setCell h

theorem State.Canonical.cellPortUp {c port : Nat} (h : s.Canonical) : (s.cellPortUp c port).Canonical :=
  .setCell h

theorem State.Canonical.cellPortLoss {c port : Nat} (h : s.Canonical) :
    (s.cellPortLoss c port).Canonical :=
  .setCell h

/-! ## CAN -/

theorem State.Canonical.setCan {n : Nat} {x : CanS} (h : s.Canonical) : (s.setCan n x).Canonical := .set h

/-! ## CAN: completions -/

theorem State.Canonical.canComplete {e : CanTx} {status result : Nat} (h : s.Canonical) :
    (s.canComplete e status result).Canonical := by
  unfold State.canComplete
  split
  · exact .complete h
  · exact .ite (.inc h) (.inc h)

theorem State.Canonical.canCancelAll {l : List CanTx} (h : s.Canonical) : (s.canCancelAll l).Canonical :=
  .foldl h (fun _ _ h1 => .canComplete h1)

/-! ## CAN: enabling -/

theorem State.Canonical.canEnable {n : Nat} (h : s.Canonical) : (s.canEnable n).Canonical :=
  .ite h (.ite (.setCan (.set (.set (.set (.flag h))))) (.flag (.set h)))

theorem State.Canonical.canOff {n : Nat} (h : s.Canonical) : (s.canOff n).Canonical :=
  .canCancelAll (.zero (.setCan h))

theorem State.Canonical.canDisable {n : Nat} (h : s.Canonical) : (s.canDisable n).Canonical :=
  .ite h (.ite (.ite (.setCan (.fresh (.set h))) (.canOff (.fresh (.set h)))) (.canOff (.set h)))

theorem State.Canonical.canEnd {n : Nat} (h : s.Canonical) : (s.canEnd n).Canonical := .ite (.canOff h) h

/-! ## CAN: error states -/

theorem State.Canonical.canJudge {n tec rec' : Nat} (h : s.Canonical) :
    (s.canJudge n tec rec').Canonical :=
  .ite (.inc (.flag (.set (.set (.fresh h))))) (.set (.set (.set h)))

theorem State.Canonical.canTxGood {n : Nat} (h : s.Canonical) : (s.canTxGood n).Canonical :=
  .canJudge (.set (.setCan h))

theorem State.Canonical.canPop {n status result : Nat} (h : s.Canonical) :
    (s.canPop n status result).Canonical := by
  unfold State.canPop
  split
  · exact h
  · exact .canComplete (.setCan h)

theorem State.Canonical.canSent {n : Nat} {sync : Bool} {ago : Nat} (h : s.Canonical) :
    (s.canSent n sync ago).Canonical := by
  unfold State.canSent
  refine .ite (.ite ?_ ?_) h
  · dsimp only
    split
    · exact .canEnd (.canTxGood (.emit (.inc (.setCan h))))
    · exact h
  · dsimp only
    split
    · exact h
    · exact .canEnd (.canPop (.canTxGood (.emit (.inc h))))

theorem State.Canonical.canTxError {n : Nat} {e : CanTxErr} (h : s.Canonical) :
    (s.canTxError n e).Canonical := by
  unfold State.canTxError
  refine .ite (.canEnd ?_) h
  dsimp only
  split
  · refine .ite (.canPop ?_) ?_
    · split
      · exact h
      · exact .canJudge (.setCan h)
      · exact .ite (.setCan h) (.canJudge (.setCan h))
    · split
      · exact h
      · exact .canJudge (.setCan h)
      · exact .ite (.setCan h) (.canJudge (.setCan h))
  · split
    · exact h
    · exact .canJudge (.setCan h)
    · exact .ite (.setCan h) (.canJudge (.setCan h))

theorem State.Canonical.canAlone {n : Nat} (h : s.Canonical) : (s.canAlone n).Canonical :=
  .ite (.ite (.canPop (.flag h)) (.flag h)) h

theorem State.Canonical.canRxError {n : Nat} {dominant : Bool} (h : s.Canonical) :
    (s.canRxError n dominant).Canonical :=
  .ite (.canEnd (.canJudge h)) h

theorem State.Canonical.canRecover {n : Nat} (h : s.Canonical) : (s.canRecover n).Canonical :=
  .ite (.flag h) h

theorem State.Canonical.canRecovered {n : Nat} (h : s.Canonical) : (s.canRecovered n).Canonical :=
  .ite (.set (.zero h)) h

/-! ## CAN: transmit queue -/

theorem State.Canonical.canSend {r : Nat} {hm : HostMem} (h : s.Canonical) :
    (s.canSend r hm).Canonical := by
  unfold State.canSend
  refine .ite h ?_
  split
  next hq => exact .snd (.fetchEvent h) hq
  next u hq =>
    have hu : u.Canonical := .snd (.fetchEvent h) hq
    refine .ite (.complete hu) ?_
    extract_lets id fmt k a
    generalize hd : (if k = 0 then _ else _ : Bytes × Option HFault × State) = d
    have hw : d.2.2.Canonical := by
      subst hd
      split
      · exact hu
      · exact .hostRd hu
    dsimp only
    split
    · exact .complete hw
    · exact .setCan hw

theorem State.Canonical.canPublish {arg : Nat} {data : Bytes} (h : s.Canonical) :
    (s.canPublish arg data).Canonical :=
  .ite (.inc h) (.setCan h)

theorem State.Canonical.canSync {n : Nat} (h : s.Canonical) : (s.canSync n).Canonical :=
  .ite (.ite (.flag h) (.setCan h)) h

theorem State.Canonical.canCancel {n r idx : Nat} (h : s.Canonical) :
    (s.canCancel n r idx).2.Canonical := by
  unfold State.canCancel
  split
  · exact h
  · dsimp only
    split
    · split
      · exact .setCan (.fresh h)
      · exact .canPop (.fresh h)
    · split
      · exact .setCan h
      · exact .canPop h
  · exact .complete (.setCan h)

/-! ## CAN: reception -/

theorem State.Canonical.canRxGood {n : Nat} (h : s.Canonical) : (s.canRxGood n).Canonical := by
  unfold State.canRxGood
  refine .ite h ?_
  extract_lets r
  generalize hd : (if r > 127 then _ else _ : Nat × State) = d
  have hw : d.2.Canonical := by
    subst hd
    split
    · exact .fresh h
    · exact h
  exact .canJudge hw

theorem State.Canonical.canReceive {n id fmt : Nat} {data : Bytes} {ago : Nat} (h : s.Canonical) :
    (s.canReceive n id fmt data ago).Canonical := by
  unfold State.canReceive
  refine .ite (.canEnd ?_) h
  split
  · exact .inc (.setCan (.canRxGood (.set (.inc h))))
  · exact .ite (.setCan (.ite (.ite (.inc (.setCan (.canRxGood (.set (.inc h)))))
      (.setCan (.setCan (.canRxGood (.set (.inc h)))))) (.setCan (.canRxGood (.set (.inc h))))))
      (.ite (.ite (.inc (.setCan (.canRxGood (.set (.inc h)))))
      (.setCan (.setCan (.canRxGood (.set (.inc h)))))) (.setCan (.canRxGood (.set (.inc h)))))

theorem State.Canonical.canDrain {r : Nat} {hm : HostMem} (h : s.Canonical) :
    (s.canDrain r hm).Canonical := by
  simp only [State.canDrain]
  split
  next d f rest _ _ =>
    generalize hw : State.hostWr _ _ _ _ _ _ = w
    replace hw : w.2.2.Canonical := hw ▸ .hostWr (.setCan h)
    exact .ite (.complete hw) (.complete hw)
  · exact h

theorem State.Canonical.canBuf {r : Nat} {hm : HostMem} (h : s.Canonical) :
    (s.canBuf r hm).Canonical := by
  unfold State.canBuf
  refine .ite h (.ite (.canDrain h) ?_)
  split
  next hq =>
    exact .snd (.fetchEvent h) hq
  next hq =>
    exact .ite (.complete (.snd (.fetchEvent h) hq)) (.canDrain (.snd (.fetchEvent h) hq))

/-! ## CAN: correlation -/

theorem State.Canonical.canCorr (h : s.Canonical) : s.canCorr.Canonical := .set (.set (.set h))

theorem State.Canonical.canLatch (h : s.Canonical) : s.canLatch.Canonical := .set (.set (.set h))

theorem State.Canonical.canCntClr (h : s.Canonical) : s.canCntClr.Canonical := .zero h

/-! ## Station logic: states and memory -/

theorem State.Canonical.lg {f : LogicS → LogicS} (h : s.Canonical) : (s.lg f).Canonical := h

theorem State.Canonical.setLgst {x : LogState} (h : s.Canonical) : (s.setLgst x).Canonical :=
  .ite (.lg (.set (.ite (.set h) (.wr32 (.set h))))) (.ite (.set h) (.wr32 (.set h)))

theorem State.Canonical.lHalt {cause : Nat} (h : s.Canonical) : (s.lHalt cause).Canonical :=
  .setLgst (.set h)

theorem State.Canonical.lStack (h : s.Canonical) : s.lStack.Canonical := .lHalt (.faultLog (.fresh h))

theorem State.Canonical.lEcc {a : Nat} {poisoned : Bool} (h : s.Canonical) :
    (s.lEcc a poisoned).Canonical :=
  .lHalt (.when h (fun _ h1 => .poisonLog h1))

theorem State.Canonical.lRead {a : Nat} (h : s.Canonical) : (s.lRead a).2.Canonical := by
  have he : (s.eccRd a 0x34).2.2.Canonical := .eccRd h
  unfold State.lRead
  generalize s.eccRd a 0x34 = e at he ⊢
  obtain ⟨d, bad, u⟩ := e
  dsimp only
  split
  · dsimp only
    exact .lEcc he
  · exact he

theorem State.Canonical.lWord {ofs : Nat} (h : s.Canonical) : (s.lWord ofs).2.Canonical := .lRead h

theorem State.Canonical.lPut {ofs v : Nat} (h : s.Canonical) : (s.lPut ofs v).Canonical := .wr32 h

theorem State.Canonical.lPutBits {ofs lo w v : Nat} (h : s.Canonical) :
    (s.lPutBits ofs lo w v).Canonical := by
  unfold State.lPutBits
  split
  next hq =>
    exact .lPut (.snd (.lRead h) hq)
  next hq =>
    exact .snd (.lRead h) hq

theorem State.Canonical.lWords {ofs n : Nat} (h : s.Canonical) : (s.lWords ofs n).2.Canonical := by
  induction n generalizing s ofs with
  | zero => exact h
  | succ n ih =>
    unfold State.lWords
    split
    next hq => exact .snd (.lWord h) hq
    next hq =>
      have hd := State.Canonical.snd (.lWord h) hq
      split
      next hr => exact .snd (ih hd) hr
      next hr => exact .snd (ih hd) hr

theorem State.Canonical.lClear {lo hi : Nat} (h : s.Canonical) : (s.lClear lo hi).Canonical :=
  memClear_wf _ _ _ (State.Canonical.foldl h fun _ _ h1 => .mark h1)

theorem State.Canonical.lScan {lo len : Nat} (h : s.Canonical) : (s.lScan lo len).2.Canonical := by
  refine .foldl_snd h fun p _ hp => ?_
  split
  · exact hp
  · split
    next hq => exact .snd (.lRead hp) hq
    next hq => exact .snd (.lRead hp) hq

/-! ## Station logic: validation -/

theorem State.Canonical.lReject (h : s.Canonical) : s.lReject.Canonical := .flag h

theorem State.Canonical.validate (h : s.Canonical) : s.validate.Canonical := .set (.flag (.set h))

theorem State.Canonical.lBankRead {b : Nat} (h : s.Canonical) : (s.lBankRead b).Canonical :=
  .eccTouchIn (.eccTouchIn h)

theorem State.Canonical.validateDone (h : s.Canonical) : s.validateDone.Canonical := by
  unfold State.validateDone
  refine .ite ?_ h
  dsimp only
  split
  · exact .flag (.lBankRead (.set h))
  · exact .set (.set (.lBankRead (.set h)))

/-! ## Station logic: restart contents -/

theorem State.Canonical.lSetRecord {x : LInst} {ws : List Nat} (h : s.Canonical) :
    (s.lSetRecord x ws).Canonical :=
  .wrWords h

theorem State.Canonical.lColdData (h : s.Canonical) : s.lColdData.Canonical :=
  .foldl (.lClear h) (fun _ _ h1 => .lSetRecord h1)

/-! ## Station logic: the retain store -/

theorem State.Canonical.retStat (h : s.Canonical) : s.retStat.Canonical := .set (.set (.set h))

theorem State.Canonical.retPoint (h : s.Canonical) : s.retPoint.Canonical := by
  unfold State.retPoint
  dsimp only
  exact .ite (.ite (.ite (.flag (.lg h)) (.flag (.lg (.lg h)))) (.lg h)) h

theorem State.Canonical.retDone {back : Bytes} (h : s.Canonical) : (s.retDone back).Canonical := by
  unfold State.retDone
  split
  · exact h
  · exact .retStat (.ite (.inc (.set (.lg h))) (.inc (.flag (.set (.lg h)))))

theorem State.Canonical.retCut (h : s.Canonical) : s.retCut.Canonical := by
  unfold State.retCut
  split
  · exact h
  · exact .lg (.fresh (.fresh h))

theorem State.Canonical.lPutB {ofs : Nat} {b : Bytes} (h : s.Canonical) : (s.lPutB ofs b).Canonical :=
  .wrB h

theorem State.Canonical.retRestore (h : s.Canonical) : s.retRestore.Canonical := by
  have ht : (s.retStat.eccTouchIn (copyBase s.retStat.logic.copy + 0xC000) 4096 0x34).Canonical :=
    .eccTouchIn (.retStat h)
  unfold State.retRestore
  extract_lets
  split
  · exact .lPutB ht
  · split
    · exact .lPutB ht
    · exact .lg (.flag (.lClear ht))

theorem State.Canonical.lRestart {cold : Bool} (h : s.Canonical) : (s.lRestart cold).Canonical :=
  .lg (.ite (.lClear (.lColdData h)) (.retRestore (.lColdData h)))

/-! ## Station logic: exchange -/

theorem State.Canonical.forceJudge (h : s.Canonical) : s.forceJudge.Canonical :=
  .foldl h (fun _ _ h1 => .ite (.ite (.flag (.flag (.set h1))) (.ite (.flag (.flag h1)) (.set h1)))
    h1)

theorem State.Canonical.forceTake (h : s.Canonical) : s.forceTake.Canonical := .lg h

theorem State.Canonical.forceApply (h : s.Canonical) : s.forceApply.Canonical := by
  unfold State.forceApply
  refine .foldl h (fun _ _ h1 => ?_)
  split
  next hq =>
    exact .wr32 (.snd (.lRead h1) hq)
  next hq =>
    exact .snd (.lRead h1) hq

theorem State.Canonical.exchangeNow (h : s.Canonical) : s.exchangeNow.Canonical :=
  .inc (.forceJudge (.lg (.foldl (.foldl (.set (.set
    (.set (.eccTouchIn (.lBankRead (.lBankRead h)))))) (fun _ _ h1 => .wr32 h1))
    (fun _ _ h1 => .lSetRecord h1))))

theorem State.Canonical.exchange (h : s.Canonical) : s.exchange.Canonical :=
  .ite (.ite (.flag h) (.exchangeNow h)) (.lReject h)

/-! ## Station logic: starts and stops -/

theorem State.Canonical.lArm {cold : Bool} (h : s.Canonical) : (s.lArm cold).Canonical :=
  .lg (.setLgst (.set h))

theorem State.Canonical.lStart {cold : Bool} (h : s.Canonical) : (s.lStart cold).Canonical :=
  .ite (.lArm h) (.lReject h)

theorem State.Canonical.lStop (h : s.Canonical) : s.lStop.Canonical := .ite (.flag h) h

theorem State.Canonical.logicCntClr (h : s.Canonical) : s.logicCntClr.Canonical := .zero h

theorem State.Canonical.logicCmd {cmd : Nat} (h : s.Canonical) : (s.logicCmd cmd).Canonical := by
  unfold State.logicCmd
  split
  · exact .lStart h
  · exact .lStart h
  · exact .lStop h
  · exact .validate h
  · exact .exchange h
  · exact .logicCntClr h
  · exact .lReject h

theorem State.Canonical.logicReady (h : s.Canonical) : s.logicReady.Canonical := .ite (.lArm h) h

theorem State.Canonical.logicConfig (h : s.Canonical) : s.logicConfig.Canonical := .setLgst h

theorem State.Canonical.logicSafeHold (h : s.Canonical) : s.logicSafeHold.Canonical := .lHalt h

theorem State.Canonical.logicAway (h : s.Canonical) : s.logicAway.Canonical := .ite (.setLgst h) h

theorem State.Canonical.logicHold (h : s.Canonical) : s.logicHold.Canonical := .ite (.setLgst h) h

theorem State.Canonical.lCaptured {kind ofs : Nat} {b : Bytes} (h : s.Canonical) :
    (s.lCaptured kind ofs b).Canonical :=
  .ite (.ite (.lg (.lPutB h)) (.lg (.wrB (.lPutB h)))) h

/-! ## Station logic: the memory port -/

theorem State.Canonical.lPortNext {org : Nat} (h : s.Canonical) : (s.lPortNext org).Canonical :=
  .ite (.set h) h

theorem State.Canonical.lPortRead {org : Nat} (h : s.Canonical) : (s.lPortRead org).2.2.Canonical := by
  unfold State.lPortRead
  dsimp only
  split
  · exact .lPortNext (.eccRdF h)
  · exact .lPortNext (.fresh h)

theorem State.Canonical.lPortWrite {org v : Nat} (h : s.Canonical) : (s.lPortWrite org v).Canonical :=
  .lPortNext (.ite (.flag h) (.ite (.wr32 h) h))

/-! ## Station logic: instructions -/

theorem State.Canonical.lInstr {op n : Nat} {f : Nat → State → State} (h : s.Canonical)
    (hf : ∀ x0 u, u.Canonical → (f x0 u).Canonical) : (s.lInstr op n f).Canonical := by
  unfold State.lInstr
  refine .ite ?_ h
  split
  next hq =>
    exact .snd (.lRead h) hq
  next hq =>
    exact .ite (hf _ _ (.lg (.snd (.lRead h) hq))) h

theorem State.Canonical.setLa {b : Bool} (h : s.Canonical) : (s.setLa b).Canonical := .lg h

theorem State.Canonical.setAcc {v : Nat} (h : s.Canonical) : (s.setAcc v).Canonical := .lg h

theorem State.Canonical.lBitRd {w : Nat} {f : Bool → Bool → Bool} (h : s.Canonical) :
    (s.lBitRd w f).Canonical := by
  unfold State.lBitRd
  split
  · exact .setLa (.fresh h)
  next hq =>
    split
    next hq =>
      exact .snd (.lWord h) hq
    next hq =>
      exact .setLa (.snd (.lWord h) hq)

theorem State.Canonical.lBitWr {w : Nat} {v : Bool} (h : s.Canonical) : (s.lBitWr w v).Canonical := by
  unfold State.lBitWr
  split
  · exact h
  · exact .ite (.lPutBits h) h

theorem State.Canonical.lWordRd {w : Nat} {f : Nat → State → State} (h : s.Canonical)
    (hf : ∀ x0 u, u.Canonical → (f x0 u).Canonical) : (s.lWordRd w f).Canonical := by
  unfold State.lWordRd
  split
  · exact hf _ _ (.fresh h)
  next hq =>
    split
    next hq =>
      exact .snd (.lWord h) hq
    next hq =>
      exact hf _ _ (.snd (.lWord h) hq)

theorem State.Canonical.lWordWr {w v : Nat} (h : s.Canonical) : (s.lWordWr w v).Canonical := by
  unfold State.lWordWr
  split
  · exact h
  · exact .ite (.lPut h) h

theorem State.Canonical.lAcc {w : Nat} {f : Nat → Nat → Nat} (h : s.Canonical) : (s.lAcc w f).Canonical :=
  .lWordRd h (fun _ _ h1 => .setAcc h1)

theorem State.Canonical.lPush {isAnd : Bool} (h : s.Canonical) : (s.lPush isAnd).Canonical :=
  .ite (.lStack h) (.lg h)

theorem State.Canonical.lPop (h : s.Canonical) : s.lPop.Canonical := by
  unfold State.lPop
  split
  · exact .lStack h
  · exact .lg h

theorem State.Canonical.lTimer {w kind : Nat} (h : s.Canonical) : (s.lTimer w kind).Canonical := by
  unfold State.lTimer
  dsimp only
  split
  next hq =>
    exact .setLa (.lPut (.lPut (.lPut (.lPut (.snd (.lWords h) hq)))))
  next hq =>
    exact .snd (.lWords h) hq

theorem State.Canonical.lCounter {w : Nat} {up : Bool} (h : s.Canonical) :
    (s.lCounter w up).Canonical := by
  unfold State.lCounter
  dsimp only
  split
  next hq =>
    exact .setLa (.lPut (.lPut (.snd (.lWords h) hq)))
  next hq =>
    exact .snd (.lWords h) hq

theorem State.Canonical.lEdge {w : Nat} {falling : Bool} (h : s.Canonical) :
    (s.lEdge w falling).Canonical := by
  unfold State.lEdge
  dsimp only
  split
  next hq =>
    exact .setLa (.lPut (.snd (.lWord h) hq))
  next hq =>
    exact .snd (.lWord h) hq

theorem State.Canonical.lCrst {w : Nat} (h : s.Canonical) : (s.lCrst w).Canonical := by
  unfold State.lCrst
  refine .ite ?_ h
  split
  next hq =>
    exact .lPut (.snd (.lWords h) hq)
  next hq =>
    exact .snd (.lWords h) hq

theorem State.Canonical.lJump {w : Nat} {taken : Bool} (h : s.Canonical) : (s.lJump w taken).Canonical :=
  .ite (.lg h) h

theorem State.Canonical.lEndCopy (h : s.Canonical) : s.lEndCopy.Canonical := by
  have hl : (s.lScan logicBase 0xD000).2.Canonical := .lScan h
  unfold State.lEndCopy
  generalize s.lScan logicBase 0xD000 = l at hl ⊢
  dsimp only
  refine .ite hl (.lg (.upd (.wr32 (.freshCode ?_))))
  exact memCopy_wf _ _ _ _ hl

theorem State.Canonical.lEnd (h : s.Canonical) : s.lEnd.Canonical :=
  .ite (.lStack h) (.ite (.lEndCopy (.set (.set h)))
    (.when (.when (.retPoint (.lg (.lEndCopy (.set (.set h))))) (fun _ h1 => .exchangeNow h1))
    (fun _ h1 => .setLgst h1)))

/-! ## Control engine: slots -/

theorem State.Canonical.setSlot {k : Nat} {x : SlotS} (h : s.Canonical) : (s.setSlot k x).Canonical := h

/-! ## Control engine: inputs -/

theorem State.Canonical.slotSrc {type fmt index word scl : Nat} (h : s.Canonical) :
    (s.slotSrc type fmt index word scl).2.Canonical := by
  unfold State.slotSrc
  split
  · exact h
  · split
    · exact h
    · exact h
  · dsimp only
    split
    · exact .eccRd h
    · exact .eccRd h
  · exact h

theorem State.Canonical.slotInput {k j : Nat} (h : s.Canonical) : (s.slotInput k j).2.2.Canonical := by
  unfold State.slotInput
  dsimp only
  split
  next hq =>
    exact .setSlot (.snd (.slotSrc h) hq)
  next hq =>
    exact .flag (.snd (.slotSrc h) hq)

/-! ## Control engine: latches -/

theorem State.Canonical.slotPlace {k u : Nat} (h : s.Canonical) : (s.slotPlace k u).Canonical :=
  .setSlot (.when h (fun _ h1 => .flag h1))

theorem State.Canonical.slotMove {k : Nat} (h : s.Canonical) : (s.slotMove k).2.Canonical := by
  unfold State.slotMove
  extract_lets x
  split
  · exact h
  next g u v _ =>
    have hv : v.Canonical := .setSlot (.when h fun _ h1 => .inc (.late h1))
    split
    · exact hv
    · exact hv

theorem State.Canonical.slotsDue (h : s.Canonical) : s.slotsDue.Canonical :=
  .ite (.foldl h (fun _ _ h1 => .ite (.setSlot h1) h1)) h

theorem State.Canonical.slotsIdle (h : s.Canonical) : s.slotsIdle.Canonical :=
  .foldl h (fun _ _ h1 => .ite (.setSlot h1) h1)

/-! ## Control engine: auto-tune -/

theorem State.Canonical.tuneClear (h : s.Canonical) : s.tuneClear.Canonical := .zero h

theorem State.Canonical.tuneEnded (h : s.Canonical) : s.tuneEnded.Canonical :=
  .ite (.submitTpl (.flag h)) (.flag h)

theorem State.Canonical.tuneRefuse {k entry code : Nat} (h : s.Canonical) :
    (s.tuneRefuse k entry code).Canonical :=
  .flag (.set (.set (.set h)))

theorem State.Canonical.tuneStop {t : TuneS} {code : Nat} (h : s.Canonical) :
    (s.tuneStop t code).Canonical := by
  unfold State.tuneStop
  exact .tuneEnded (.setSlot (.set (.slotPlace (.set (.set (.upd h))))))

theorem State.Canonical.tuneAbort {t : TuneS} {code : Nat} (h : s.Canonical) :
    (s.tuneAbort t code).Canonical :=
  .tuneStop (.tuneClear h)

theorem State.Canonical.modeChange {k old : Nat} (h : s.Canonical) : (s.modeChange k old).Canonical := by
  unfold State.modeChange
  refine .ite h ?_
  dsimp only
  split
  · exact .ite (.tuneRefuse (.ite (.tuneEnded (.set (.tuneClear h))) h))
      (.ite (.tuneRefuse (.ite (.tuneEnded (.set (.tuneClear h))) h))
      (.set (.set (.set (.upd (.ite (.tuneEnded (.set (.tuneClear h))) h))))))
  · exact .set (.setSlot (.ite (.tuneEnded (.set (.tuneClear h))) h))
  · exact .setSlot (.ite (.tuneEnded (.set (.tuneClear h))) h)

theorem State.Canonical.tuneCheck (h : s.Canonical) : s.tuneCheck.Canonical := by
  unfold State.tuneCheck
  split
  · exact .ite (.tuneAbort h) h
  · exact h

theorem State.Canonical.tuneDone {t : TuneS} {tu a ts : Nat} (h : s.Canonical) :
    (s.tuneDone t tu a ts).Canonical := by
  unfold State.tuneDone
  dsimp only
  exact .tuneStop (.set (.set (.set (.set (.set h)))))

theorem State.Canonical.tuneEval {t : TuneS} {e : Nat} {bad : Bool} (h : s.Canonical) :
    (s.tuneEval t e bad).Canonical := by
  unfold State.tuneEval
  refine .ite (.tuneAbort h) (.ite (.tuneAbort h) (.ite (.tuneAbort h) ?_))
  dsimp only
  split
  · exact .ite (.tuneAbort (.when (.set h) (fun _ h1 => .flag h1)))
      (.tuneDone (.when (.set h) (fun _ h1 => .flag h1)))
  · exact .ite (.tuneAbort (.when (.set h) (fun _ h1 => .flag h1)))
      (.ite (.tuneAbort (.when (.set h) (fun _ h1 => .flag h1)))
      (.ite (.tuneAbort (.when (.set h) (fun _ h1 => .flag h1)))
      (.set (.slotPlace (.set (.set (.upd (.when (.set h) (fun _ h1 => .flag h1)))))))))

/-! ## Control engine: evaluation -/

theorem State.Canonical.slotEval {k : Nat} (h : s.Canonical) : (s.slotEval k).Canonical := by
  unfold State.slotEval
  extract_lets _ u
  split
  next ref b0 u1 hq1 =>
  split
  next meas b1 u2 hq2 =>
  split
  next ff b2 u3 hq3 =>
  have h3 : u3.Canonical :=
    .snd2 (.slotInput (.snd2 (.slotInput (.snd2 (.slotInput (.setSlot h)) hq1)) hq2)) hq3
  extract_lets e
  split
  next g gbad hq4 =>
  extract_lets v f p v1 inBad c v2
  have h1 : v1.Canonical := .set (.set (.when h3 fun _ h1 => .flag h1))
  have h2 : v2.Canonical := by
    unfold v2
    split
    · exact .ite (.tuneRefuse (.upd h1)) h1
    · exact h1
  clear_value v2
  split
  · exact .tuneEval (.when h2 fun _ h1 => .flag h1)
  · exact .ite (.set (.flag (.set (.when (.when h2 fun _ h1 => .flag h1) fun _ h1 => .flag h1))))
      (.slotPlace (.set (.setSlot (.set (.when (.when h2 fun _ h1 => .flag h1) fun _ h1 => .flag h1)))))

theorem State.Canonical.cengEvaluate {g : Nat} (h : s.Canonical) : (s.cengEvaluate g).Canonical :=
  .ite (.ite (.submitTpl (.foldl h (fun _ _ h1 => .ite (.slotEval h1) h1)))
    (.foldl h (fun _ _ h1 => .ite (.slotEval h1) h1))) h

/-! ## Trips -/

theorem State.Canonical.armBlkUpd (h : s.Canonical) : s.armBlkUpd.Canonical := .set h

theorem State.Canonical.armRunClr {m : Nat} (h : s.Canonical) : (s.armRunClr m).Canonical :=
  .armBlkUpd (.clrF h)

theorem State.Canonical.tripFirst {g : Nat} (h : s.Canonical) : (s.tripFirst g).Canonical := by
  unfold State.tripFirst
  refine .set ?_
  split
  · exact .set h
  · exact h

theorem State.Canonical.dbTrip {g : Nat} (h : s.Canonical) : (s.dbTrip g).Canonical := by
  unfold State.dbTrip
  split
  · dsimp only
    split
    · exact .ite (.txnEnd (.set (.set h))) h
    · exact h
  · exact h

theorem State.Canonical.clrRefuse {m : Nat} (h : s.Canonical) : (s.clrRefuse m).Canonical :=
  .when h (fun _ h1 => .orF (.flag h1))

theorem State.Canonical.tripLatch {g : Nat} {soft : Bool} (h : s.Canonical) :
    (s.tripLatch g soft).Canonical :=
  .evt (.armRunClr (.orF (.inc (.set (.set (.upd (.set (.tripFirst (.dbTrip h)))))))))

theorem State.Canonical.tripSet {g : Nat} {soft : Bool} (h : s.Canonical) :
    (s.tripSet g soft).Canonical :=
  .ite (.ite (.orF (.clrRefuse h)) (.tripLatch (.clrRefuse h))) (.tripLatch h)

theorem State.Canonical.tripJoin {g : Nat} {soft : Bool} (h : s.Canonical) :
    (s.tripJoin g soft).Canonical :=
  .when (.tripFirst h) (fun _ h1 => .flag h1)

theorem State.Canonical.tripUpd {soft : Nat} (h : s.Canonical) : (s.tripUpd soft).Canonical := by
  unfold State.tripUpd
  exact .blkTrips (.armBlkUpd (.foldl (.orF (.set h))
    (fun _ _ h1 => .ite h1 (.ite (.tripSet h1) (.ite (.tripJoin h1) h1)))))

theorem State.Canonical.tripLevel {i : Nat} {active : Bool} (h : s.Canonical) :
    (s.tripLevel i active).Canonical :=
  .ite h (.tripUpd (.set h))

theorem State.Canonical.tripPin {i : Nat} {level : Bool} {held : Nat} (h : s.Canonical) :
    (s.tripPin i level held).Canonical :=
  .ite h (.tripLevel h)

theorem State.Canonical.tripSoft {g : Nat} (h : s.Canonical) : (s.tripSoft g).Canonical := .tripUpd h

theorem State.Canonical.tripClr {w : Nat} (h : s.Canonical) : (s.tripClr w).Canonical := by
  unfold State.tripClr
  exact .blkTrips (.armBlkUpd (.clrF (.upd (.clrRefuse h))))

theorem State.Canonical.tripCntClr (h : s.Canonical) : s.tripCntClr.Canonical := .zero h

theorem State.Canonical.armRunSet {m : Nat} (h : s.Canonical) : (s.armRunSet m).Canonical :=
  .armBlkUpd (.set h)

theorem State.Canonical.armRunClaim (h : s.Canonical) : s.armRunClaim.Canonical := .armRunSet h

/-! ## Modulator: commit -/

theorem State.Canonical.armCommit {a tag : Nat} (h : s.Canonical) : (s.armCommit a tag).Canonical :=
  .set (.setArm (.when (.eccRdB h) (fun _ h1 => .flag h1)))

theorem State.Canonical.cutVector {a : Nat} (h : s.Canonical) : (s.cutVector a).2.Canonical := by
  simp only [State.cutVector]
  have hu : (s.set (F.MOD_ARM_VSTAT_PEND a)
      (b2n ((s.arm a).commit.isSome && (s.cutCommit a).isNone))).Canonical := .set h
  generalize s.set (F.MOD_ARM_VSTAT_PEND a) _ = u at hu ⊢
  split
  · exact .set (.inc (.late hu))
  · split
    · exact .set (.inc (.flag (.setArm hu)))
    · exact .set (.set (.setArm hu))

/-! ## Modulator: trim channels -/

theorem State.Canonical.setTrim {t : Nat} {x : TrimS} (h : s.Canonical) : (s.setTrim t x).Canonical := h

theorem State.Canonical.trimEn {t : Nat} {old : Bool} (h : s.Canonical) : (s.trimEn t old).Canonical :=
  .ite h (.setTrim h)

theorem State.Canonical.trimPer {t v : Nat} (h : s.Canonical) : (s.trimPer t v).Canonical :=
  .ite (.flag h) (.set h)

theorem State.Canonical.trimKeep {t : Nat} (h : s.Canonical) : (s.trimKeep t).Canonical :=
  .ite h (.setTrim h)

theorem State.Canonical.trimMin {t : Nat} (h : s.Canonical) : (s.trimMin t).Canonical := .ite (.set h) h

theorem State.Canonical.trimWritten {t : Nat} {byCeng : Bool} (h : s.Canonical) :
    (s.trimWritten t byCeng).Canonical :=
  .setTrim h

theorem State.Canonical.trimsRun {n : Nat} (h : s.Canonical) : (s.trimsRun n).Canonical :=
  .foldl h (fun _ _ h1 => .ite (.ite h1 (.ite (.flag (.setTrim h1)) (.setTrim h1))) h1)

theorem State.Canonical.trimsStart (h : s.Canonical) : s.trimsStart.Canonical :=
  .foldl h (fun _ _ h1 => .ite (.setTrim h1) h1)

theorem State.Canonical.trimsRestart (h : s.Canonical) : s.trimsRestart.Canonical :=
  .foldl h (fun _ _ h1 => .ite (.setTrim h1) h1)

theorem State.Canonical.trimFreeze {t : Nat} (h : s.Canonical) : (s.trimFreeze t).Canonical :=
  .setTrim (.when (.trimKeep h) (fun _ h1 => .flag h1))

theorem State.Canonical.trimJudge {a : Nat} {l : List TrimV} (h : s.Canonical) :
    (s.trimJudge a l).2.Canonical := by
  refine .foldl_snd h fun p _ hp => ?_
  dsimp only
  split
  · exact .set hp
  · split
    · exact .set hp
    · exact .when (.flag (.set hp)) fun _ h1 => .flag h1

/-! ## Modulator: encoding -/

theorem State.Canonical.cutDtc {c : Nat} (h : s.Canonical) : (s.cutDtc c).2.Canonical := by
  unfold State.cutDtc
  dsimp only
  split
  · exact .dtInit (.eccRd (.eccRd h))
  · exact .eccRd (.eccRd h)

theorem State.Canonical.cutCmd {a c j : Nat} {blocked : Bool} {vs : List TrimV} {prev : CmdRec}
    (h : s.Canonical) : (s.cutCmd a c j blocked vs prev).2.Canonical := by
  have hd : (s.cutDtc c).2.Canonical := .cutDtc h
  unfold State.cutCmd
  generalize s.cutDtc c = d at hd ⊢
  split
  next u =>
  extract_lets v dt ok fb x w y z
  have hy : y.Canonical := .foldl (.when hd fun _ h1 => .flag h1) fun _ _ h1 => .set h1
  have hz : z.Canonical := by
    unfold z
    clear_value v
    cases v with
    | some x => exact .when hy fun _ h1 => .flag h1
    | none => exact hy
  clear_value z
  split
  · exact hz
  · clear_value v
    dsimp only
    split
    · exact .set (.when (.addSat hz) fun _ h1 => .flag h1)
    · exact .when (.when hz fun _ h1 => .inc (.flag h1)) fun _ h1 => .set h1

theorem State.Canonical.cutFret {n k u a : Nat} {trims : List TrimV} {cells : List Nat} (h : s.Canonical)
    : (s.cutFret n k u a trims cells).2.Canonical := by
  unfold State.cutFret
  dsimp only
  split
  · exact h
  · split
    · exact h
    · exact .histPut (.upd (.cutCmd h))

theorem State.Canonical.cutString {n u a : Nat} {trims : List TrimV} (h : s.Canonical) :
    (s.cutString n u a trims).Canonical :=
  .setStr (.foldl_snd h fun _ _ h1 => .cutFret h1)

theorem State.Canonical.cutRead {a : Nat} (h : s.Canonical) : (s.cutRead a).Canonical :=
  .foldl h (fun _ _ h1 => .ctRead h1)

theorem State.Canonical.trimAltered {v : TrimV} (h : s.Canonical) : (s.trimAltered v).Canonical :=
  .ite (.addSat h) h

theorem State.Canonical.cutArm {g u a : Nat} (h : s.Canonical) : (s.cutArm g u a).Canonical :=
  .foldl (.foldl (.trimJudge (.foldl (.set (.cutVector (.cutRead h)))
    (fun _ _ h1 => .trimFreeze h1))) (fun _ _ h1 => .ite (.cutString h1) h1))
    (fun _ _ h1 => .trimAltered h1)

theorem State.Canonical.trimLatch {t d : Nat} (h : s.Canonical) : (s.trimLatch t d).Canonical :=
  .when (.setTrim (.trimKeep h)) (fun _ h1 => .set h1)

theorem State.Canonical.cutLatches {g : Nat} (h : s.Canonical) : (s.cutLatches g).Canonical := by
  unfold State.cutLatches
  refine .foldl h (fun _ _ h1 => .ite ?_ h1)
  dsimp only
  split
  · exact .ite (.trimWritten (.trimLatch (.slotMove h1))) (.slotMove h1)
  · exact .slotMove h1

theorem State.Canonical.launchCut {g : Nat} (h : s.Canonical) : (s.launchCut g).Canonical :=
  .ite (.ite (.foldl (.cutRead (.foldl (.when h (fun _ h1 => .cutLatches h1))
    (fun _ _ h1 => .cutArm h1))) (fun _ _ h1 => .ite (.cutString h1) h1))
    (.when (.when h (fun _ h1 => .cutLatches h1)) (fun _ h1 => .foldl h1
    (fun _ _ h2 => .foldl h2 (fun _ _ h3 => .trimFreeze h3))))) h

/-! ## Modulator: bow -/

theorem State.Canonical.strokeLaunch {n l : Nat} (h : s.Canonical) : (s.strokeLaunch n l).Canonical := by
  unfold State.strokeLaunch
  refine .setStr (.foldl ?_ (fun _ _ h1 => .sendLane h1))
  split
  · exact .inc (.mirSend (.inc (.sendStroke h)))
  · exact .inc (.sendStroke h)

theorem State.Canonical.bow {g : Nat} (h : s.Canonical) : (s.bow g).Canonical := by
  unfold State.bow
  refine .ite (.foldl h (fun _ _ h1 => ?_)) h
  split
  · exact .ite (.strokeLaunch h1) h1
  · exact h1

/-! ## Modulator: counters and checks -/

theorem State.Canonical.modMcntClr (h : s.Canonical) : s.modMcntClr.Canonical := .zero (.zero h)

/-! ## Registers -/

theorem State.Canonical.rawSet {a v : Nat} (h : s.Canonical) : (s.rawSet a v).Canonical := by
  unfold State.rawSet
  split
  · exact .set h
  · exact h

/-! ## Pair -/

theorem State.Canonical.pr {f : PairS → PairS} (h : s.Canonical) : (s.pr f).Canonical := h

/-! ## Pair: roles and ACT -/

theorem State.Canonical.setRole {r : Role} (h : s.Canonical) : (s.setRole r).Canonical :=
  .ite h (.evt (.set h))

theorem State.Canonical.dropAct (h : s.Canonical) : s.dropAct.Canonical := .ite (.emit (.set h)) h

theorem State.Canonical.relaysEnd (h : s.Canonical) : s.relaysEnd.Canonical :=
  .foldl h (fun _ _ h1 => .ite (.set (.setStr h1)) h1)

theorem State.Canonical.toWatch {r : Role} (h : s.Canonical) : (s.toWatch r).Canonical :=
  .logicAway (.tuneCheck (.slotsIdle (.strsWatch (.relaysEnd
    (.setRole (.when h (fun _ h1 => .pr h1)))))))

theorem State.Canonical.claimLost (h : s.Canonical) : s.claimLost.Canonical :=
  .toWatch (.pr (.flag (.dropAct h)))

theorem State.Canonical.claimAssert (h : s.Canonical) : s.claimAssert.Canonical :=
  .setRole (.pr (.set (.set (.emit (.set h)))))

theorem State.Canonical.guardStart (h : s.Canonical) : s.guardStart.Canonical := .pr h

theorem State.Canonical.actHigh (h : s.Canonical) : s.actHigh.Canonical := by
  unfold State.actHigh
  dsimp only
  split
  · exact .ite (.inc (.toWatch (.pr (.pr (.set h))))) (.pr (.pr (.set h)))
  · exact .ite (.inc (.toWatch (.pr (.pr (.set h))))) (.pr (.pr (.set h)))
  · exact .ite (.claimLost (.pr (.set h))) (.pr (.set h))
  · exact .ite (.ite (.claimLost (.pr (.set h))) (.pr (.set h)))
      (.ite (.inc (.toWatch (.pr (.set h)))) (.pr (.set h)))

theorem State.Canonical.actLow (h : s.Canonical) : s.actLow.Canonical :=
  .ite (.guardStart (.set h)) (.set h)

theorem State.Canonical.initialClaim (h : s.Canonical) : s.initialClaim.Canonical :=
  .ite (.guardStart h) h

theorem State.Canonical.guardEnd (h : s.Canonical) : s.guardEnd.Canonical :=
  .ite (.ite (.pr h) (.claimAssert h)) h

theorem State.Canonical.vetoEnd (h : s.Canonical) : s.vetoEnd.Canonical := .ite (.claimAssert h) h

theorem State.Canonical.claimConfirm (h : s.Canonical) : s.claimConfirm.Canonical := .ite (.inc (.pr h)) h

theorem State.Canonical.leavingReclaim (h : s.Canonical) : s.leavingReclaim.Canonical :=
  .ite (.guardStart h) h

theorem State.Canonical.pairReady (h : s.Canonical) : s.pairReady.Canonical :=
  .strsWatch (.setRole (.pr h))

theorem State.Canonical.pairLeave (h : s.Canonical) : s.pairLeave.Canonical :=
  .setRole (.set (.relaysEnd (.pr (.dropAct h))))

/-! ## Pair: the mirror link -/

theorem State.Canonical.linkCome (h : s.Canonical) : s.linkCome.Canonical :=
  .pr (.set (.set (.set (.set h))))

theorem State.Canonical.linkGo {code : Nat} (h : s.Canonical) : (s.linkGo code).Canonical :=
  .vetoEnd (.when (.pr (.relaysEnd (.set (.set (.set (.set h)))))) (fun _ h1 => .setRole h1))

theorem State.Canonical.linkUpd (h : s.Canonical) : s.linkUpd.Canonical :=
  .ite (.ite (.pr h) (.linkGo (.pr h))) (.ite (.linkCome (.pr h)) (.set (.pr h)))

theorem State.Canonical.pairJudge {l : Nat} {f : Bytes} (h : s.Canonical) : (s.pairJudge l f).Canonical :=
  .when (.when (.when (.when h (fun _ h1 => .flag h1)) (fun _ h1 => .flag h1))
    (fun _ h1 => .flag h1)) (fun _ h1 => .flag h1)

theorem State.Canonical.mhello {l : Nat} {f : Bytes} (h : s.Canonical) : (s.mhello l f).Canonical :=
  .ite (.sendMirror (.pairJudge h)) h

theorem State.Canonical.mreply {l : Nat} {f : Bytes} (h : s.Canonical) : (s.mreply l f).Canonical :=
  .ite (.ite (.pairJudge h) (.linkUpd (.laneUp (.pr (.pairJudge h))))) h

/-! ## Pair: time alignment -/

theorem State.Canonical.tsyncSend (h : s.Canonical) : s.tsyncSend.Canonical := .mirSend (.pr h)

theorem State.Canonical.alignUpd {dm theta : Int} (h : s.Canonical) : (s.alignUpd dm theta).Canonical :=
  .ite (.set (.pr h)) (.ite (.ite (.set (.flag (.pr h))) (.flag (.pr h))) (.pr h))

theorem State.Canonical.tsyncMeasure {f : Bytes} {ago : Nat} (h : s.Canonical) :
    (s.tsyncMeasure f ago).2.Canonical := by
  unfold State.tsyncMeasure
  extract_lets b t1 t2 u
  have hu : u.Canonical := .pr h
  clear_value u
  split
  · exact hu
  · dsimp only
    exact .alignUpd (.set (.set hu))

/-! ## Pair: HEALTH -/

theorem State.Canonical.healthSend (h : s.Canonical) : s.healthSend.Canonical := by
  unfold State.healthSend
  exact .mirSend (.foldl h (fun _ _ h1 => .set h1))

theorem State.Canonical.health' {l : Nat} {f : Bytes} (h : s.Canonical) : (s.health' l f).Canonical :=
  .ite (.ite (.setRole (.pr (.set (.foldl (.pr h) (fun _ _ h1 => .set h1)))))
    (.set (.foldl (.pr h) (fun _ _ h1 => .set h1)))) h

/-! ## Pair: readiness -/

theorem State.Canonical.wireCheck (h : s.Canonical) : s.wireCheck.Canonical :=
  .ite (.when (.pr h) (fun _ h1 => .flag h1)) h

theorem State.Canonical.readiness (h : s.Canonical) : s.readiness.Canonical :=
  .pr (.ite (.flag (.pr (.set (.set h)))) (.ite (.set (.pr (.set (.set h)))) (.pr (.set (.set h)))))

theorem State.Canonical.holdAgain (h : s.Canonical) : s.holdAgain.Canonical := .pr h

/-! ## Pair: checks -/

theorem State.Canonical.pairCntClr (h : s.Canonical) : s.pairCntClr.Canonical := .zero h

/-! ## Captures: the images of a capture -/

theorem State.Canonical.img1Put {o v : Nat} (h : s.Canonical) : (s.img1Put o v).Canonical := by
  unfold State.img1Put
  refine .ite (.ite (.rawSet h) ?_) (.ite ?_ (.ite (.rawSet h) h))
  · dsimp only
    split
    · exact .set h
    · exact .set (.setSlot h)
    · exact .setSlot h
    · exact .set (.setSlot h)
    · exact .setSlot h
    · exact .setSlot h
    · exact .setSlot h
    · exact h
  · split
    · exact .set h
    · exact .set h
    · exact .set h
    · exact .set h
    · exact .set h
    · exact h

theorem State.Canonical.capture {final : Bool} (h : s.Canonical) : (s.capture final).Canonical :=
  .foldl (.inc (.set (.set (.when (.pr h) (fun _ h1 => .flag h1))))) (fun _ _ h1 => .mirSend h1)

theorem State.Canonical.sendRun (h : s.Canonical) : s.sendRun.Canonical := .pr h

theorem State.Canonical.captureDue (h : s.Canonical) : s.captureDue.Canonical :=
  .ite (.ite (.capture h) (.flag h)) h

/-! ## Captures: receiving -/

theorem State.Canonical.ctrlSend {op cause h : Nat} (hs : s.Canonical) :
    (s.ctrlSend op cause h).Canonical :=
  .mirSend hs

theorem State.Canonical.captureBad {seq : Option Nat} (h : s.Canonical) : (s.captureBad seq).Canonical :=
  .ctrlSend (.pr (.inc (.flag h)))

theorem State.Canonical.ckpt {l : Nat} {f : Bytes} (h : s.Canonical) : (s.ckpt l f).Canonical := by
  unfold State.ckpt
  refine .ite (.ite (.ite (.inc h) (.captureBad (.inc h)))
    (.ite ?_ (.ite (.captureBad ?_) (.ite (.pr (.pr ?_)) (.pr (.pr ?_)))))) h
  · dsimp only
    split
    · exact .ite (.captureBad h) h
    · exact h
  · dsimp only
    split
    · exact .ite (.captureBad h) h
    · exact h
  · dsimp only
    split
    · exact .ite (.captureBad h) h
    · exact h
  · dsimp only
    split
    · exact .ite (.captureBad h) h
    · exact h

theorem State.Canonical.segApply {b : Bytes} (h : s.Canonical) : (s.segApply b).Canonical := by
  unfold State.segApply
  dsimp only
  split
  · exact .foldl h (fun _ _ h1 => .img1Put h1)
  · exact .epochSee (.armRunSet (.pr h))
  · exact .wrB h
  · exact .ite (.lCaptured h) h
  · exact .ite (.lCaptured h) h
  · exact h

theorem State.Canonical.captureApply (h : s.Canonical) : s.captureApply.Canonical :=
  .inc (.set (.set (.pr (.when (.foldl (.logicHold (.pr h)) (fun _ _ h1 => .segApply h1))
    (fun _ h1 => .flag h1)))))

theorem State.Canonical.captureInstant (h : s.Canonical) : s.captureInstant.Canonical :=
  .ite (.captureApply h) h

theorem State.Canonical.resync {l : Nat} {f : Bytes} (h : s.Canonical) : (s.resync l f).Canonical :=
  .ite (.pr h) h

/-! ## Captures: return and handover -/

theorem State.Canonical.hoRej {cause : Nat} (h : s.Canonical) : (s.hoRej cause).Canonical :=
  .set (.pr (.holdAgain (.flag (.set h))))

theorem State.Canonical.hoAck {h : Nat} (hs : s.Canonical) : (s.hoAck h).Canonical := .pr (.set (.set hs))

theorem State.Canonical.returnReq (h : s.Canonical) : s.returnReq.Canonical := .ite (.ctrlSend (.pr h)) h

theorem State.Canonical.returnReqIn {l : Nat} {f : Bytes} (h : s.Canonical) :
    (s.returnReqIn l f).Canonical :=
  .ite (.ite (.ctrlSend (.flag (.set h))) (.ite (.ctrlSend (.hoRej h)) (.ctrlSend (.hoAck h)))) h

theorem State.Canonical.handover (h : s.Canonical) : s.handover.Canonical :=
  .ite (.ctrlSend (.pr h)) (.flag h)

theorem State.Canonical.offerIn {l : Nat} {f : Bytes} (h : s.Canonical) : (s.offerIn l f).Canonical :=
  .ite (.ite (.ctrlSend (.flag (.set h))) (.ite (.ctrlSend (.hoRej h)) (.ctrlSend (.hoAck h)))) h

theorem State.Canonical.ctrlAck {l : Nat} {f : Bytes} (h : s.Canonical) : (s.ctrlAck l f).Canonical :=
  .ite (.hoAck h) h

theorem State.Canonical.ctrlRej {l : Nat} {f : Bytes} (h : s.Canonical) : (s.ctrlRej l f).Canonical :=
  .ite (.hoRej h) h

theorem State.Canonical.returnTimeout (h : s.Canonical) : s.returnTimeout.Canonical := .ite (.hoRej h) h

theorem State.Canonical.handoverInstant (h : s.Canonical) : s.handoverInstant.Canonical :=
  .ite (.ite (.ctrlSend (.hoRej h)) (.ite (.ctrlSend (.hoRej h))
    (.set (.pr (.toWatch (.capture h)))))) h

theorem State.Canonical.finalSent (h : s.Canonical) : s.finalSent.Canonical := .ite (.dropAct (.pr h)) h

theorem State.Canonical.finalApply (h : s.Canonical) : s.finalApply.Canonical :=
  .ite (.when (.pr (.set (.captureApply h))) (fun _ h1 => .guardStart h1)) h

theorem State.Canonical.finalTimeout (h : s.Canonical) : s.finalTimeout.Canonical :=
  .ite (.holdAgain (.set (.pr h))) h

/-! ## Captures: takeover -/

theorem State.Canonical.takeover (h : s.Canonical) : s.takeover.Canonical :=
  .ite (.trimsRestart (.armRunClaim (.strsTake (.when (.pr (.setRole h)) (fun _ h1 => .inc h1))))) h

/-! ## Captures: relay -/

theorem State.Canonical.relayStart (h : s.Canonical) : s.relayStart.Canonical := by
  unfold State.relayStart
  refine .ite (.foldl h (fun _ _ h1 => .ite ?_ h1)) h
  split
  · exact .flag (.setStr h1)
  · exact .flag h1

theorem State.Canonical.srepSend (h : s.Canonical) : s.srepSend.Canonical := .mirSend h

theorem State.Canonical.srepStr {n p : Nat} {rx : Bool} (h : s.Canonical) :
    (s.srepStr n p rx).Canonical :=
  .ite h (.ite (.when (.setStr h) (fun _ h1 => .flag h1))
    (.ite (.set (.set (.setStr h))) (.setStr h)))

theorem State.Canonical.srep {l : Nat} {f : Bytes} (h : s.Canonical) : (s.srep l f).Canonical :=
  .ite (.foldl h (fun _ _ h1 => .srepStr h1)) h

theorem State.Canonical.relay {l : Nat} {f : Bytes} (h : s.Canonical) : (s.relay l f).Canonical := by
  unfold State.relay
  extract_lets n t head x u
  have ht : t.Canonical := .when h fun _ h1 => .inc h1
  split
  · split
    · exact .when (.flag (.setStr ht)) fun _ h1 => .sendStroke h1
    · exact .flag (.setStr ht)
  · exact h

theorem State.Canonical.rtel {l : Nat} {f : Bytes} (h : s.Canonical) : (s.rtel l f).Canonical :=
  .ite (.telParse h) h

/-! ## Captures: maps and delays -/

theorem State.Canonical.mapFret {b : Bytes} {j : Nat} (h : s.Canonical) : (s.mapFret b j).2.Canonical :=
  .fresh (.fresh (.fresh h))

theorem State.Canonical.mapFrets {b : Bytes} {j : Nat} (h : s.Canonical) :
    (s.mapFrets b j).2.Canonical := by
  induction j generalizing s with
  | zero => exact h
  | succ j ih => exact ih (.mapFret (b := b) (j := j) h)

theorem State.Canonical.mapIn {l : Nat} {f : Bytes} (h : s.Canonical) : (s.mapIn l f).Canonical :=
  .ite (.measNext (.strFlags (.strFrets (.foldl (.setStr (.set (.mapFrets h)))
    (fun _ _ h1 => .ctAssign h1))))) h

theorem State.Canonical.dlyIn {l : Nat} {f : Bytes} (h : s.Canonical) : (s.dlyIn l f).Canonical :=
  .ite (.leadNext (.setStr h)) h

theorem State.Canonical.dlyTimeout {n : Nat} (h : s.Canonical) : (s.dlyTimeout n).Canonical := .setStr h

theorem State.Canonical.mirDiscard {l : Nat} {f : Bytes} (h : s.Canonical) :
    (s.mirDiscard l f).Canonical :=
  .ite (.when (.inc h) (fun _ h1 => .captureBad h1)) h

/-! ## Converters -/

theorem State.Canonical.setCv {c : Nat} {x : AdcS} (h : s.Canonical) : (s.setCv c x).Canonical := h

theorem State.Canonical.adcSample {c t : Nat} (h : s.Canonical) : (s.adcSample c t).Canonical := .setCv h

theorem State.Canonical.adcAhead (h : s.Canonical) : s.adcAhead.Canonical :=
  .foldl h (fun _ _ h1 => .ite (.setCv h1) h1)

theorem State.Canonical.adcShift {d : Int} (h : s.Canonical) : (s.adcShift d).Canonical := h

theorem State.Canonical.adcStart {c : Nat} (h : s.Canonical) : (s.adcStart c).Canonical := by
  unfold State.adcStart
  refine .ite h (.ite (.flag h) (.ite h ?_))
  dsimp only
  split
  · exact .ite (.adcSample (.flag (.setCv h))) (.adcSample (.setCv h))
  · exact .adcSample (.setCv h)

theorem State.Canonical.adcRun {c : Nat} {v : Bool} (h : s.Canonical) : (s.adcRun c v).Canonical :=
  .ite (.flag h) (.set h)

theorem State.Canonical.lgStart {g : Nat} (h : s.Canonical) : (s.lgStart g).Canonical :=
  .ite (.foldl h (fun _ _ h1 => .ite (.adcStart h1) h1)) h

theorem State.Canonical.freeSample {c : Nat} (h : s.Canonical) : (s.freeSample c).Canonical :=
  .ite (.adcSample h) h

theorem State.Canonical.adcPut {f cnt : Fld} {w : Nat} (h : s.Canonical) : (s.adcPut f cnt w).Canonical :=
  .set h

theorem State.Canonical.adcResult {c k : Nat} {r : Int} {beyond : Bool} (h : s.Canonical) :
    (s.adcResult c k r beyond).Canonical := by
  unfold State.adcResult
  split
  · exact h
  · exact .ite h (.ite (.setCv h) (.setCv (.ite (.adcPut
      (.adcPut (.when (.setCv h) (fun _ h1 => .inc h1))))
      (.adcPut (.when (.setCv h) (fun _ h1 => .inc h1))))))

theorem State.Canonical.adcMux {c : Nat} (h : s.Canonical) : (s.adcMux c).Canonical :=
  .adcAhead (.setCv h)

theorem State.Canonical.adcCal {m : Nat} (h : s.Canonical) : (s.adcCal m).Canonical :=
  .foldl h (fun _ _ h1 => .ite (.flag h1) (.set (.flag (.when h1 (fun _ h2 => .flag h2)))))

theorem State.Canonical.adcAccept {m : Nat} (h : s.Canonical) : (s.adcAccept m).Canonical :=
  .adcAhead (.foldl h (fun _ _ h1 => .set h1))

theorem State.Canonical.adcCntClr (h : s.Canonical) : s.adcCntClr.Canonical := .zero h

theorem State.Canonical.adcCmd {cmd m : Nat} (h : s.Canonical) : (s.adcCmd cmd m).Canonical := by
  unfold State.adcCmd
  split
  · exact .adcCal h
  · exact .adcAccept h
  · exact .adcCntClr h
  · exact .flag h

theorem State.Canonical.calComplete {c : Nat} {facts : List Nat} (h : s.Canonical) :
    (s.calComplete c facts).Canonical :=
  .ite (.flag (.set (.set (.foldl h (fun _ _ h1 => .set h1))))) h

theorem State.Canonical.calAbort {c : Nat} (h : s.Canonical) : (s.calAbort c).Canonical :=
  .flag (.flag (.set h))

theorem State.Canonical.calInterrupt {c : Nat} (h : s.Canonical) : (s.calInterrupt c).Canonical :=
  .ite (.calAbort h) h

theorem State.Canonical.calRotate {c f : Nat} (h : s.Canonical) : (s.calRotate c f).Canonical :=
  .ite h (.ite (.adcAhead (.set (.setCv (.set (.set h))))) (.setCv (.set (.set h))))

theorem State.Canonical.adcRefSel {sel : Nat} (h : s.Canonical) : (s.adcRefSel sel).Canonical :=
  .ite h (.adcAhead (.foldl (.foldl (.set (.set h)) (fun _ _ h1 => .calInterrupt h1))
    (fun _ _ h1 => .setCv (.flag h1))))

theorem State.Canonical.refSettled (h : s.Canonical) : s.refSettled.Canonical :=
  .ite h (.adcAhead (.flag h))

theorem State.Canonical.refOut (h : s.Canonical) : s.refOut.Canonical :=
  .adcAhead (.foldl (.set h) (fun _ _ h1 => .calInterrupt h1))

theorem State.Canonical.adcFact {c k mask data : Nat} (h : s.Canonical) :
    (s.adcFact c k mask data).Canonical :=
  .ite h (.adcAhead (.set h))

/-! ## Recorder -/

theorem State.Canonical.setSeg {g : Nat} {x : SegS} (h : s.Canonical) : (s.setSeg g x).Canonical := h

theorem State.Canonical.setTu {u : Nat} {x : TuS} (h : s.Canonical) : (s.setTu u x).Canonical := h

theorem State.Canonical.segGoto {g st : Nat} (h : s.Canonical) : (s.segGoto g st).Canonical :=
  .set (.set (.set h))

/-! ## Recorder: channel values -/

theorem State.Canonical.chValue {c tick : Nat} (h : s.Canonical) : (s.chValue c tick).2.Canonical := by
  unfold State.chValue
  dsimp only
  split
  · exact h
  · exact h
  · exact h
  · exact h
  · split
    · exact h
    · exact .fresh h
  · exact .fresh h

theorem State.Canonical.vspArm {a u : Nat} (h : s.Canonical) : (s.vspArm a u).Canonical :=
  .upd (.foldl h (fun _ _ h1 => .ctRead h1))

/-! ## Recorder: segment triggers and records -/

theorem State.Canonical.segClose {g post : Nat} {trunc : Bool} (h : s.Canonical) :
    (s.segClose g post trunc).Canonical := by
  unfold State.segClose
  dsimp only
  split
  · exact h
  · exact .ite (.submitTpl (.segGoto (.setSeg h))) (.segGoto (.setSeg h))

theorem State.Canonical.segCheckDone {g : Nat} (h : s.Canonical) : (s.segCheckDone g).Canonical := by
  unfold State.segCheckDone
  split
  · exact .ite (.segClose h) h
  · exact h

theorem State.Canonical.segLatch {g inst tsrc : Nat} {interp : Bool} (h : s.Canonical) :
    (s.segLatch g inst tsrc interp).Canonical :=
  .segGoto (.setSeg h)

theorem State.Canonical.segMiss {g inst : Nat} (h : s.Canonical) : (s.segMiss g inst).Canonical :=
  .ite (.inc h) (.flag (.set (.set (.inc h))))

theorem State.Canonical.segTrig {g inst tsrc : Nat} {interp : Bool} (h : s.Canonical) :
    (s.segTrig g inst tsrc interp).Canonical := by
  unfold State.segTrig
  dsimp only
  split
  · exact .ite h (.ite (.inc h) (.segCheckDone (.segLatch h)))
  · split
    · exact .ite (.segCheckDone (.segLatch (.segMiss h))) (.segMiss h)
    · exact h
  · exact h
  · exact .segMiss h

theorem State.Canonical.tuTrig {u inst : Nat} {interp : Bool} (h : s.Canonical) :
    (s.tuTrig u inst interp).Canonical :=
  .foldl h (fun _ _ h1 => .ite (.segTrig h1) h1)

theorem State.Canonical.vspTrips {before : Nat} (h : s.Canonical) : (s.vspTrips before).Canonical :=
  .foldl h (fun _ _ h1 => .foldl h1 (fun _ _ h2 => .ite (.segTrig h2) h2))

theorem State.Canonical.withTrips {f : State → State} (h : s.Canonical)
    (hf : ∀ u, u.Canonical → (f u).Canonical) : (s.withTrips f).Canonical :=
  .vspTrips (hf _ h)

theorem State.Canonical.segSoft {g : Nat} (h : s.Canonical) : (s.segSoft g).Canonical := .segTrig h

theorem State.Canonical.vspSoft {m : Nat} (h : s.Canonical) : (s.vspSoft m).Canonical :=
  .foldl h (fun _ _ h1 => .segSoft h1)

/-! ## Recorder: ticks -/

theorem State.Canonical.segSample {g tick : Nat} (h : s.Canonical) : (s.segSample g tick).Canonical :=
  .segCheckDone (.set (.setSeg (.foldl h (fun _ _ h1 => .wrPart (.chValue h1)))))

theorem State.Canonical.vspTick {g : Nat} (h : s.Canonical) : (s.vspTick g).Canonical := by
  unfold State.vspTick
  split
  · exact .ite (.segSample h) h
  · exact h

/-! ## Recorder: commands -/

theorem State.Canonical.segArm {g : Nat} (h : s.Canonical) : (s.segArm g).Canonical :=
  .segGoto (.set (.setSeg h))

theorem State.Canonical.arm' {g : Nat} (h : s.Canonical) : (s.arm' g).Canonical :=
  .ite (.segArm h) (.flag (.set h))

theorem State.Canonical.segDrop {g : Nat} (h : s.Canonical) : (s.segDrop g).Canonical := .setSeg h

theorem State.Canonical.disarm {g : Nat} (h : s.Canonical) : (s.disarm g).Canonical :=
  .ite h (.segGoto (.segDrop h))

theorem State.Canonical.segRelease {g : Nat} (h : s.Canonical) : (s.segRelease g).Canonical :=
  .ite (.segGoto (.segDrop h)) h

theorem State.Canonical.rearmDone {g : Nat} (h : s.Canonical) : (s.rearmDone g).Canonical :=
  .ite (.segArm h) h

theorem State.Canonical.segCmd {g cmd : Nat} (h : s.Canonical) : (s.segCmd g cmd).Canonical := by
  unfold State.segCmd
  split
  · exact .arm' h
  · exact .disarm h
  · exact .segRelease h
  · exact .segSoft h
  · exact h

theorem State.Canonical.vspSafeHold (h : s.Canonical) : s.vspSafeHold.Canonical := by
  unfold State.vspSafeHold
  refine .foldl h (fun _ _ h1 => ?_)
  split
  · exact .segClose (.setSeg (.segLatch h1))
  · exact .segClose h1
  · exact h1

theorem State.Canonical.vspCntClr (h : s.Canonical) : s.vspCntClr.Canonical := .zero h

/-! ## Recorder: trigger units -/

theorem State.Canonical.tuEvent {u t : Nat} {interp : Bool} {e : TuEvent} (h : s.Canonical) :
    (s.tuEvent u t interp e).Canonical := by
  unfold State.tuEvent
  dsimp only
  split
  · exact .setTu h
  · exact h
  · exact .setTu h
  · exact .setTu h

theorem State.Canonical.tuValue {u w t : Nat} (h : s.Canonical) : (s.tuValue u w t).Canonical := by
  unfold State.tuValue
  refine .ite h ?_
  dsimp only
  split
  · exact .setTu h
  · exact .foldl (.setTu h) (fun _ _ h1 => .tuEvent h1)

theorem State.Canonical.tuDeliver {typ idx t : Nat} (h : s.Canonical) :
    (s.tuDeliver typ idx t).Canonical :=
  .foldl h (fun _ _ h1 => .ite (.tuValue (.chValue h1)) h1)

theorem State.Canonical.vspAdc {c : Nat} (h : s.Canonical) : (s.vspAdc c).Canonical := by
  unfold State.vspAdc
  split
  · exact .tuDeliver (.tuDeliver h)
  · exact h

theorem State.Canonical.vspCeng {g : Nat} (h : s.Canonical) : (s.vspCeng g).Canonical :=
  .foldl h (fun _ _ h1 => .ite (.tuDeliver h1) h1)

theorem State.Canonical.vspObs (h : s.Canonical) : s.vspObs.Canonical :=
  .ite (.foldl h (fun _ _ h1 => .tuDeliver (.vspArm h1))) h

theorem State.Canonical.comparator {u : Nat} {hi up : Bool} {t64 : Nat} (h : s.Canonical) :
    (s.comparator u hi up t64).Canonical :=
  .ite (.tuEvent (.setTu h)) h

theorem State.Canonical.tuFire {u : Nat} (h : s.Canonical) : (s.tuFire u).Canonical := by
  unfold State.tuFire
  split
  · exact h
  · exact .tuTrig (.setTu h)

theorem State.Canonical.tuTimeout {u : Nat} (h : s.Canonical) : (s.tuTimeout u).Canonical := by
  unfold State.tuTimeout
  split
  · exact .ite (.tuTrig (.setTu h)) h
  · exact h

theorem State.Canonical.vspShift {d : Int} (h : s.Canonical) : (s.vspShift d).Canonical := h

/-! ## Recorder: readout -/

theorem State.Canonical.imageWord {g i : Nat} (h : s.Canonical) : (s.imageWord g i).2.Canonical := by
  obtain ⟨f, hf⟩ : ∃ f, State.eccRdB = f := ⟨_, rfl⟩
  have hr {u : State} {a n req : Nat} (hu : u.Canonical) : (f u a n req).2.2.Canonical :=
    hf ▸ .eccRdB hu
  unfold State.imageWord
  rw [hf]
  extract_lets x
  split
  · exact h
  next n j one _ =>
    have h1 (k : Nat) {u : State} (hu : u.Canonical) : (one k u).2.Canonical := hr hu
    clear_value one
    split
    next hq => exact .snd (h1 _ h) hq
    next hq =>
      split
      next hr => exact .snd (h1 _ (.snd (h1 _ h) hq)) hr
      next hr => exact .snd (h1 _ (.snd (h1 _ h) hq)) hr

theorem State.Canonical.imageRead {g i n : Nat} (h : s.Canonical) : (s.imageRead g i n).2.2.Canonical := by
  induction n generalizing s i with
  | zero => exact h
  | succ n ih =>
    unfold State.imageRead
    split
    next hq => exact .snd (.imageWord h) hq
    next hq => exact ih (.snd (.imageWord h) hq)

/-! ## Ethernet: ports and stamps -/

theorem State.Canonical.ethLinkUp {p : Nat} (h : s.Canonical) : (s.ethLinkUp p).Canonical :=
  .ite h (.set (.flag h))

theorem State.Canonical.setEthTx {p : Nat} {q : List EthTx} (h : s.Canonical) :
    (s.setEthTx p q).Canonical :=
  h

theorem State.Canonical.ethLinkDown {p : Nat} (h : s.Canonical) : (s.ethLinkDown p).Canonical :=
  .foldl (.setEthTx (.set (.set h))) (fun _ _ h1 => .complete h1)

/-! ## Ethernet: subscription records -/

theorem State.Canonical.subChg {sv : Bool} {i : Nat} (h : s.Canonical) : (s.subChg sv i).Canonical :=
  .ite (.submitTpl (.ite (.orF h) (.orF h))) (.ite (.orF h) (.orF h))

theorem State.Canonical.subGen {sv : Bool} {i : Nat} (h : s.Canonical) : (s.subGen sv i).Canonical :=
  .wr32 h

theorem State.Canonical.svVesper {i : Nat} {stale : Bool} (h : s.Canonical) :
    (s.svVesper i stale).Canonical := by
  unfold State.svVesper
  exact .upd h

theorem State.Canonical.subUpdate {sv : Bool} {i ts : Nat} {m : SubMsg} (h : s.Canonical) :
    (s.subUpdate sv i ts m).Canonical :=
  .ite (.subChg (.ite (.tuDeliver (.svVesper (.subGen
    (.wrWords (.ite (.wrWords (.wrWords h)) (.wrWords (.wrWords h)))))))
    (.subGen (.wrWords (.ite (.wrWords (.wrWords h)) (.wrWords (.wrWords h)))))))
    (.ite (.tuDeliver (.svVesper (.subGen (.wrWords
    (.ite (.wrWords (.wrWords h)) (.wrWords (.wrWords h)))))))
    (.subGen (.wrWords (.ite (.wrWords (.wrWords h)) (.wrWords (.wrWords h))))))

theorem State.Canonical.subFrame {sv : Bool} {i ts : Nat} {f : Bytes} (h : s.Canonical) :
    (s.subFrame sv i ts f).Canonical := by
  unfold State.subFrame
  dsimp only
  split
  · exact .inc h
  · exact .ite (.inc (.eccTouchIn h)) (.ite (.inc (.eccTouchIn h)) (.subUpdate (.eccTouchIn h)))

theorem State.Canonical.subStale {sv : Bool} {i : Nat} (h : s.Canonical) : (s.subStale sv i).Canonical :=
  .ite (.ite h (.eccTouchIn h)) (.subChg (.ite (.svVesper
    (.subGen (.wr32 (.ite h (.eccTouchIn h))))) (.subGen (.wr32 (.ite h (.eccTouchIn h))))))

/-! ## Ethernet: reception -/

theorem State.Canonical.ethToHost {p cls ts : Nat} {f : Bytes} {hm : HostMem} (h : s.Canonical) :
    (s.ethToHost p cls ts f hm).Canonical := by
  obtain ⟨wr, hwr⟩ : ∃ f, State.hostWr = f := ⟨_, rfl⟩
  have hw {q k a : Nat} {b : Bytes} : (wr s hm q k a b).2.2.Canonical := hwr ▸ .hostWr h
  unfold State.ethToHost
  rw [hwr]
  dsimp only
  split
  · exact .inc h
  · split
    · exact .inc h
    · exact .ite (.complete hw) (.complete hw)

theorem State.Canonical.ethReceive {p : Nat} {frame : Bytes} {ago : Nat} {hm : HostMem} (h : s.Canonical)
    : (s.ethReceive p frame ago hm).Canonical := by
  unfold State.ethReceive
  refine .ite h (.ite (.inc h) ?_)
  dsimp only
  split
  · exact .subFrame (.inc h)
  · exact .subFrame (.inc h)
  · exact .ethToHost (.inc h)

theorem State.Canonical.ethBuf {r : Nat} {hm : HostMem} (h : s.Canonical) :
    (s.ethBuf r hm).Canonical := by
  unfold State.ethBuf
  split
  next hq =>
    exact .snd (.fetchEvent h) hq
  next hq =>
    exact .ite (.complete (.snd (.fetchEvent h) hq)) (.snd (.fetchEvent h) hq)

/-! ## Ethernet: sending -/

theorem State.Canonical.ethSend {r : Nat} {hm : HostMem} (h : s.Canonical) :
    (s.ethSend r hm).Canonical := by
  simp only [State.ethSend]
  split
  next hq => exact .snd (.fetchEvent h) hq
  next u hq =>
    have hu : u.Canonical := .snd (.fetchEvent h) hq
    refine .ite (.complete hu) ?_
    generalize hw : State.hostRd _ _ _ _ _ _ = w
    replace hw : w.2.2.Canonical := hw ▸ .hostRd hu
    split
    · exact .complete hw
    · exact .setEthTx hw

theorem State.Canonical.tsqPush {p tsid ts : Nat} (h : s.Canonical) : (s.tsqPush p tsid ts).Canonical :=
  .ite (.upd (.inc (.flag h))) h

theorem State.Canonical.ethSent {p ago : Nat} (h : s.Canonical) : (s.ethSent p ago).Canonical := by
  unfold State.ethSent
  split
  · exact h
  · refine .ite h (.complete ?_)
    split
    · exact .tsqPush (.emit (.inc (.setEthTx h)))
    · exact .emit (.inc (.setEthTx h))

theorem State.Canonical.ethCancel {p r idx : Nat} (h : s.Canonical) :
    (s.ethCancel p r idx).2.Canonical := by
  unfold State.ethCancel
  split
  · exact h
  · dsimp only
    split
    · split
      · exact .updDesc (.fresh h)
      · exact .complete (.setEthTx (.fresh h))
    · split
      · exact .updDesc h
      · exact .complete (.setEthTx h)

theorem State.Canonical.tsqKeep {p : Nat} (h : s.Canonical) : (s.tsqKeep p).Canonical := by
  unfold State.tsqKeep
  split
  · exact .ite (.set (.set h)) h
  · exact h

theorem State.Canonical.tsqRead {p : Nat} (h : s.Canonical) : (s.tsqRead p).2.Canonical := by
  unfold State.tsqRead
  split
  · exact h
  · exact .tsqKeep (.set (.set (.set h)))

/-! ## Ethernet: adjustment registers -/

theorem State.Canonical.adjust {f : State → State} (h : s.Canonical)
    (hf : ∀ u, u.Canonical → (f u).Canonical) : (s.adjust f).Canonical :=
  .ite (.flag h) (hf _ (.set h))

theorem State.Canonical.ethFreq {v : Nat} (h : s.Canonical) : (s.ethFreq v).Canonical :=
  .adjust h (fun _ h1 => .set (.when h1 (fun _ h2 => .flag h2)))

theorem State.Canonical.ethSlew {v : Nat} (h : s.Canonical) : (s.ethSlew v).Canonical :=
  .adjust h (fun _ h1 => .upd (.flag (.set (.set h1))))

theorem State.Canonical.ethSlewRate {v : Nat} (h : s.Canonical) : (s.ethSlewRate v).Canonical :=
  .ite (.set h) h

theorem State.Canonical.slewDone (h : s.Canonical) : s.slewDone.Canonical := .ite (.upd (.set (.set h))) h

theorem State.Canonical.slewCancel (h : s.Canonical) : s.slewCancel.Canonical :=
  .ite (.flag (.slewDone h)) h

theorem State.Canonical.holdover (h : s.Canonical) : s.holdover.Canonical := .ite h (.flag h)

/-! ## Ethernet: 1PPS -/

theorem State.Canonical.ppsOut (h : s.Canonical) : s.ppsOut.Canonical := .ite (.emit h) h

theorem State.Canonical.ppsIn (h : s.Canonical) : s.ppsIn.Canonical :=
  .ite (.upd (.set (.set (.ite h (.set (.when h (fun _ h1 => .flag h1))))))) h

theorem State.Canonical.ppsRead (h : s.Canonical) : s.ppsRead.Canonical := h

theorem State.Canonical.ethCntClr (h : s.Canonical) : s.ethCntClr.Canonical := .zero h

/-! ## Images: flash -/

theorem State.Canonical.flWr {a : Nat} {d : Bytes} (h : s.Canonical) : (s.flWr a d).Canonical := h

theorem State.Canonical.flProg {a : Nat} {d : Bytes} (h : s.Canonical) : (s.flProg a d).Canonical :=
  .flWr h

theorem State.Canonical.flErase {k : Nat} (h : s.Canonical) : (s.flErase k).Canonical := h

/-! ## Images: commit records -/

theorem State.Canonical.showRec {r : CRec} (h : s.Canonical) : (s.showRec r).Canonical := .set (.set h)

theorem State.Canonical.writeRec {r : CRec} (h : s.Canonical) : (s.writeRec r).Canonical := by
  unfold State.writeRec
  dsimp only
  exact .upd (.showRec (.flWr h))

/-! ## Images: images -/

theorem State.Canonical.imgLoad {k : Nat} (h : s.Canonical) : (s.imgLoad k).Canonical :=
  .foldl h (fun _ _ h1 => .wrB h1)

theorem State.Canonical.imgShow {k : Nat} (h : s.Canonical) : (s.imgShow k).Canonical :=
  .set (.set (.set h))

theorem State.Canonical.pickImage {noon : Bool} (h : s.Canonical) : (s.pickImage noon).2.Canonical := by
  unfold State.pickImage
  split
  · split
    · exact .showRec h
    · split
      · exact .showRec h
      · exact h
  next r _ _ =>
    extract_lets t upd r' u a o
    have hu : u.Canonical := .ite (.showRec h) (.flag (.writeRec (.showRec h)))
    split
    · exact hu
    · split
      · exact .flag (.writeRec hu)
      · exact hu

/-! ## Images: OTP -/

theorem State.Canonical.otpShow (h : s.Canonical) : s.otpShow.Canonical := .set (.set h)

theorem State.Canonical.otpProgram {k : Nat} (h : s.Canonical) : (s.otpProgram k).Canonical :=
  .ite (.flag h) (.flag h)

theorem State.Canonical.otpRevoke {k : Nat} (h : s.Canonical) : (s.otpRevoke k).Canonical :=
  .ite (.flag h) (.otpShow h)

theorem State.Canonical.otpDone {back : Bytes} (h : s.Canonical) : (s.otpDone back).Canonical := by
  unfold State.otpDone
  split
  · exact h
  · exact .when (.set (.otpShow h)) (fun _ h1 => .flag h1)

theorem State.Canonical.otpCut (h : s.Canonical) : s.otpCut.Canonical := by
  unfold State.otpCut
  split
  · exact h
  · exact .upd (.fresh (.fresh h))

/-! ## Images: the operations of an IMG ring -/

theorem State.Canonical.imgBegin {r fuel : Nat} (h : s.Canonical) : (s.imgBegin r fuel).Canonical := by
  induction fuel generalizing s with
  | zero => exact h
  | succ fuel ih =>
    unfold State.imgBegin
    split
    · exact h
    · split
      · exact h
      · split
        · exact ih (.complete h)
        · exact .when (.when (.updDesc h) fun _ h1 => h1) fun _ h1 => .writeRec h1

theorem State.Canonical.imgStart {r op : Nat} {hm : HostMem} (h : s.Canonical) :
    (s.imgStart r op hm).Canonical := by
  unfold State.imgStart
  split
  next hq =>
    exact .imgBegin (.snd (.fetchEvent h) hq)
  next hq =>
    exact .snd (.fetchEvent h) hq

theorem State.Canonical.imgProgram {r : Nat} {d : Desc} {hm : HostMem} (h : s.Canonical) :
    (s.imgProgram r d hm).Canonical := by
  unfold State.imgProgram
  dsimp only
  split
  · exact .complete (.flProg (.hostRd h))
  · exact .ite (.complete (.flProg (.hostRd h))) (.complete (.flProg (.hostRd h)))

theorem State.Canonical.commitRec {k : Nat} (h : s.Canonical) : (s.commitRec k).Canonical := by
  unfold State.commitRec
  dsimp only
  exact .writeRec h

theorem State.Canonical.imgEffect {d : Desc} (h : s.Canonical) : (s.imgEffect d).2.2.Canonical := by
  unfold State.imgEffect
  extract_lets k
  split
  · exact .flErase h
  · split
    · exact h
    · exact .upd h
  next t _ _ _ _ =>
    have ht : t.Canonical := .commitRec h
    exact .upd ht

theorem State.Canonical.imgCut (h : s.Canonical) : s.imgCut.Canonical := by
  unfold State.imgCut
  refine .foldl h (fun _ _ h1 => ?_)
  split
  · exact .when (.fresh h1) (fun _ h2 => .commitRec h2)
  · exact h1

theorem State.Canonical.imgDone {r : Nat} {hm : HostMem} (h : s.Canonical) :
    (s.imgDone r hm).Canonical := by
  unfold State.imgDone
  dsimp only
  split
  · exact h
  · split
    · exact h
    · exact .foldr (.ite (.imgProgram h) (.complete (.imgEffect h))) fun _ _ h1 => .imgBegin h1

theorem State.Canonical.imgCancel {r idx : Nat} (h : s.Canonical) : (s.imgCancel r idx).Canonical := by
  unfold State.imgCancel
  split
  · exact h
  · exact .ite (.updDesc h) (.complete h)

/-! ## Time: the passage of time -/

theorem State.Canonical.slewPass {n : Nat} (h : s.Canonical) : (s.slewPass n).Canonical := .ite (.set h) h

theorem State.Canonical.pass {n : Nat} (h : s.Canonical) : (s.pass n).Canonical :=
  .ite h (.coreTime (.trimsRun (.slewPass (.upd (.dbDone h)))))

theorem State.Canonical.advTo {t : Nat} (h : s.Canonical) : (s.advTo t).Canonical := .pass h

theorem State.Canonical.tick (h : s.Canonical) : s.tick.Canonical := .ite h (.advTo h)

theorem State.Canonical.toOfs {o : Nat} (h : s.Canonical) : (s.toOfs o).Canonical := .ite (.pass h) h

theorem State.Canonical.onLine {x : Line} {g ofs : Nat} {f : State → State} (h : s.Canonical)
    (hf : ∀ u, u.Canonical → (f u).Canonical) : (s.onLine x g ofs f).Canonical :=
  .ite h (hf _ (.upd (.toOfs h)))

/-! ## Time: the period engine and the reference -/

theorem State.Canonical.peStart (h : s.Canonical) : s.peStart.Canonical := .flag h

theorem State.Canonical.setRef {r : Nat} {ok : Bool} (h : s.Canonical) : (s.setRef r ok).Canonical :=
  .set h

theorem State.Canonical.refAuto (h : s.Canonical) : s.refAuto.Canonical :=
  .ite (.set h) (.ite (.set (.set (.when h (fun _ h1 => .flag h1)))) (.flag h))

theorem State.Canonical.refFixed (h : s.Canonical) : s.refFixed.Canonical :=
  .ite (.set (.when h (fun _ h1 => .set h1))) (.flag h)

theorem State.Canonical.refUpd (h : s.Canonical) : s.refUpd.Canonical := .ite (.refAuto h) (.refFixed h)

theorem State.Canonical.refLoss {r : Nat} (h : s.Canonical) : (s.refLoss r).Canonical :=
  .ite h (.when (.setRef h) (fun _ h1 => .refUpd h1))

theorem State.Canonical.refReturn {r : Nat} (h : s.Canonical) : (s.refReturn r).Canonical :=
  .ite h (.when (.setRef h) (fun _ h1 => .refUpd h1))

theorem State.Canonical.refSelect {old : Nat} (h : s.Canonical) : (s.refSelect old).Canonical :=
  .when (.when h (fun _ h1 => .set h1)) (fun _ h1 => .refUpd h1)

theorem State.Canonical.periodUpd (h : s.Canonical) : s.periodUpd.Canonical := .ite h h

/-! ## Time: snapshots -/

theorem State.Canonical.snap {org : Nat} (h : s.Canonical) : (s.snap org).Canonical :=
  .set (.set (.set (.set (.set (.set (.set h))))))

theorem State.Canonical.timeCntClr (h : s.Canonical) : s.timeCntClr.Canonical := .zero h

/-! ## Time: timed writes -/

theorem State.Canonical.twQueue {e : TwEntry} (h : s.Canonical) : (s.twQueue e).Canonical := h

theorem State.Canonical.twPush {org tag : Nat} (h : s.Canonical) : (s.twPush org tag).Canonical :=
  .ite (.twQueue (.set h)) (.flag (.set h))

theorem State.Canonical.twComplete {e : TwEntry} {status : Nat} (h : s.Canonical) :
    (s.twComplete e status).Canonical := by
  unfold State.twComplete
  split
  · exact .complete h
  · exact h

theorem State.Canonical.twRemove {hit : TwEntry → Bool} (h : s.Canonical) : (s.twRemove hit).Canonical :=
  .foldl h (fun _ _ h1 => .twComplete h1)

theorem State.Canonical.twCancel {org tag : Nat} (h : s.Canonical) : (s.twCancel org tag).Canonical :=
  .ite (.flag (.twRemove h)) (.ite (.twRemove h) (.flag h))

theorem State.Canonical.twDrop {r idx : Nat} (h : s.Canonical) : (s.twDrop r idx).Canonical := .twRemove h

theorem State.Canonical.twWrite {e : TwEntry} {w : State → State} (h : s.Canonical)
    (hw : ∀ u, u.Canonical → (w u).Canonical) : (s.twWrite e w).Canonical :=
  .when (.twComplete (hw _ h)) (fun _ h1 => .flag h1)

/-! ## Time: steps of station time -/

theorem State.Canonical.stepNow {d : Int} (h : s.Canonical) : (s.stepNow d).Canonical :=
  .vspShift (.adcShift (.slewCancel (.set h)))

theorem State.Canonical.stepTake {d : Int} (h : s.Canonical) : (s.stepTake d).Canonical :=
  .ite (.flag h) (.stepNow h)

theorem State.Canonical.tsyncFollow {f : Bytes} {theta : Int} (h : s.Canonical) :
    (s.tsyncFollow f theta).Canonical :=
  .stepTake (.when h (fun _ h1 => h1))

theorem State.Canonical.stepGo (h : s.Canonical) : s.stepGo.Canonical :=
  .adjust h (fun _ h1 => .ite (.flag h1) (.stepTake h1))

/-! ## Rings of the context: memory writes from outside their owners -/

theorem State.Canonical.memWr {a mask v req : Nat} (h : s.Canonical) : (s.memWr a mask v req).Canonical :=
  .ite (.ctWrite h) (.ite (.dtWrite h) (.mergeWr h))

theorem State.Canonical.memWrs {a req : Nat} {l : List Nat} (h : s.Canonical) : (s.memWrs a req l).Canonical := by
  induction l generalizing s a with
  | nil => exact h
  | cons v l ih => exact ih (.memWr h)

/-! ## Rings of the context: WORK and TW -/

theorem State.Canonical.workSubmit {r : Nat} {hm : HostMem} (h : s.Canonical) :
    (s.workSubmit r hm).Canonical := by
  unfold State.workSubmit
  split
  next hq =>
    exact .submit (.snd (.fetchEvent h) hq)
  next hq =>
    exact .snd (.fetchEvent h) hq

theorem State.Canonical.twRing {r : Nat} {hm : HostMem} (h : s.Canonical) :
    (s.twRing r hm).Canonical := by
  unfold State.twRing
  split
  next hq =>
    exact .ite (.twQueue (.snd (.fetchEvent h) hq)) (.complete (.snd (.fetchEvent h) hq))
  next hq =>
    exact .snd (.fetchEvent h) hq

/-! ## Rings of the context: DMA COPY -/

theorem State.Canonical.copyTurn {last : Nat} (h : s.Canonical) : (s.copyTurn last).Canonical := by
  unfold State.copyTurn
  refine .ite h ?_
  dsimp only
  split
  · exact .updDesc h
  · exact h

theorem State.Canonical.copy {r : Nat} {hm : HostMem} (h : s.Canonical) : (s.copy r hm).Canonical := by
  unfold State.copy
  split
  next hq =>
    exact .ite (.copyTurn (.snd (.fetchEvent h) hq)) (.complete (.snd (.fetchEvent h) hq))
  next hq =>
    exact .snd (.fetchEvent h) hq

theorem State.Canonical.copyIn {r h a n : Nat} {hm : HostMem} (hs : s.Canonical) :
    (s.copyIn r h a n hm).2.2.Canonical := by
  unfold State.copyIn
  dsimp only
  split
  · exact .memWrs (.hostRd hs)
  · exact .memWrs (.hostRd hs)

theorem State.Canonical.copyOut {r h a n : Nat} {hm : HostMem} (hs : s.Canonical) :
    (s.copyOut r h a n hm).2.2.Canonical := by
  unfold State.copyOut
  dsimp only
  split
  · exact .hostWr (.eccRds hs)
  · split
    · exact .hostWr (.eccRds hs)
    · exact .hostWr (.eccRds hs)

theorem State.Canonical.copyDone {r : Nat} {hm : HostMem} (h : s.Canonical) :
    (s.copyDone r hm).Canonical := by
  unfold State.copyDone
  dsimp only
  split
  · exact h
  · refine .ite h ?_
    refine .copyTurn (.complete ?_)
    split
    · exact .copyOut h
    · exact .copyIn h

/-! ## Rings of the context: VSP READ -/

theorem State.Canonical.vspRead {r : Nat} {hm : HostMem} (h : s.Canonical) :
    (s.vspRead r hm).Canonical := by
  unfold State.vspRead
  split
  next hq =>
    exact .ite (.snd (.fetchEvent h) hq) (.updDesc (.snd (.fetchEvent h) hq))
  next hq =>
    exact .snd (.fetchEvent h) hq

theorem State.Canonical.vspReadDone {r : Nat} {hm : HostMem} (h : s.Canonical) :
    (s.vspReadDone r hm).Canonical := by
  unfold State.vspReadDone
  refine .ite h ?_
  split
  · exact h
  · dsimp only
    split
    · exact .updDesc (.ite (.complete h) (.ite (.complete (.hostWr (.imageRead h)))
        (.ite (.complete (.hostWr (.imageRead h))) (.when (.complete (.hostWr (.imageRead h)))
        (fun _ h1 => .segRelease h1)))))
    · exact .ite (.complete h) (.ite (.complete (.hostWr (.imageRead h)))
        (.ite (.complete (.hostWr (.imageRead h))) (.when (.complete (.hostWr (.imageRead h)))
        (fun _ h1 => .segRelease h1))))

/-! ## Rings of the context: transactions before their instant -/

theorem State.Canonical.transact {r : Nat} {hm : HostMem} (h : s.Canonical) :
    (s.transact r hm).Canonical := by
  unfold State.transact
  split
  next d u hq =>
    have hu : u.Canonical := .snd (.fetchEvent h) hq
    generalize hd : (if (u.txn? r d.idx).isSome then _ else _ : Bool × State) = p
    have hv : p.2.Canonical := by
      subst hd
      split
      · exact hu
      · exact .txnPend hu
    obtain ⟨stands, v⟩ := p
    refine .ite hv ?_
    extract_lets n a
    generalize hw : State.hostRd _ _ _ _ _ _ = w
    replace hw : w.2.2.Canonical := hw ▸ .hostRd hv
    obtain ⟨b, f, w⟩ := w
    dsimp only
    split
    · exact .txnEnd hw
    · exact .updTxn hw
    · exact hw
  next hq => exact .snd (.fetchEvent h) hq

theorem State.Canonical.txnCommit {r idx : Nat} (h : s.Canonical) : (s.txnCommit r idx).Canonical := by
  unfold State.txnCommit
  split
  · exact h
  · split
    · exact .updTxn (.advTo h)
    · exact h

theorem State.Canonical.txnsHold (h : s.Canonical) : s.txnsHold.Canonical :=
  .foldl (.dbDone h) (fun _ _ h1 => .txnEnd h1)

theorem State.Canonical.txnEcc {r idx : Nat} (h : s.Canonical) : (s.txnEcc r idx).Canonical := by
  unfold State.txnEcc
  split
  · exact h
  · exact .txnEnd (.fresh h)

/-! ## Rings of the context: CANCEL -/

theorem State.Canonical.workCancel {r idx : Nat} (h : s.Canonical) : (s.workCancel r idx).Canonical :=
  .foldl (.saveDrop (.foldl h (fun _ _ h1 => .itemsDone
    (.itemsDone (.ite (.ite h1 (.setQueue h1)) (.setSpill (.ite h1 (.setQueue h1))))))))
    (fun _ _ h1 => .ite (.setCore h1) h1)

theorem State.Canonical.cancelOne {r : Nat} {d : Desc} (h : s.Canonical) :
    (s.cancelOne r d).Canonical := by
  unfold State.cancelOne
  refine .ite ?_ ?_
  · dsimp only
    split
    · exact .txnEnd h
    · exact .complete h
  · dsimp only
    split
    · exact .workCancel h
    · split
      · exact .ite (.updTxn h) (.txnEnd h)
      · exact h
    · exact .twDrop h
    · exact .ite (.updDesc h) (.complete h)
    · exact .ite (.updDesc h) (.complete h)
    · exact .ethCancel h
    · exact .canCancel h
    · exact .complete h
    · exact .complete h
    · exact .imgCancel h
    · exact h

theorem State.Canonical.ringCancel {r : Nat} {hm : HostMem} (h : s.Canonical) :
    (s.ringCancel r hm).Canonical := by
  unfold State.ringCancel
  split
  next hq =>
    exact .complete (.foldl (.snd (.fetchEvent h) hq) (fun _ _ h1 => .cancelOne h1))
  next hq =>
    exact .snd (.fetchEvent h) hq

/-! ## Rings of the context: the reset walk and the link reset -/

theorem State.Canonical.walkRing {r : Nat} {hm : HostMem} {piW n i : Nat} (h : s.Canonical) :
    (s.walkRing r hm piW n i).Canonical := by
  obtain ⟨rd, hrd⟩ : ∃ f, State.hostRd = f := ⟨_, rfl⟩
  obtain ⟨wr, hwr⟩ : ∃ f, State.hostWr = f := ⟨_, rfl⟩
  have hr {u : State} {q k a n : Nat} (hu : u.Canonical) : (rd u hm q k a n).2.2.Canonical :=
    hrd ▸ .hostRd hu
  have hw {u : State} {q k a : Nat} {b : Bytes} (hu : u.Canonical) : (wr u hm q k a b).2.2.Canonical :=
    hwr ▸ .hostWr hu
  delta State.walkRing State.walkRing._f
  rw [hrd, hwr]
  induction n generalizing s i with
  | zero => exact .flag (.setRst (.ringCounts (.setRing (.set h))))
  | succ n ih =>
    have hfault {u : State} (hu : u.Canonical) : (((((((u.set (R.HOST_RING_CI r) i).setRing r
        { fetch := piW, walkPi := some piW }).flag (F.HOST_RING_STAT_WALK_FAULT r)).setRst r
        .halted).flag (F.HOST_RING_STAT_RESET_HALT r)).flag F.HOST_STAT_WALK_FAULT)).Canonical :=
      .flag (.flag (.setRst (.flag (.setRing (.set hu)))))
    exact .ite (hfault (hr h)) (.ite (ih (hr h)) (.ite (hfault (hw (hr h))) (ih (.inc (hw (hr h))))))

theorem State.Canonical.resetWalk {hm : HostMem} (h : s.Canonical) : (s.resetWalk hm).Canonical :=
  .evt (.upd (.foldl h (fun _ _ h1 => .ite h1 (.walkRing h1))))

theorem State.Canonical.orphan (h : s.Canonical) : s.orphan.Canonical := .upd (.setTxns h)

theorem State.Canonical.linkReset (h : s.Canonical) : s.linkReset.Canonical := by
  unfold State.linkReset
  dsimp only
  exact .ite (.set h) (.inc (.upd (.orphan (.set h))))

theorem State.Canonical.linkTrained {speed width : Nat} (h : s.Canonical) :
    (s.linkTrained speed width).Canonical :=
  .upd (.set h)

theorem State.Canonical.hostCntClr (h : s.Canonical) : s.hostCntClr.Canonical :=
  .foldl h (fun _ _ h1 => .zero h1)

theorem State.Canonical.iommuCntClr (h : s.Canonical) : s.iommuCntClr.Canonical := .zero h

/-! ## Safety island -/

theorem State.Canonical.safeStaged (h : s.Canonical) : s.safeStaged.Canonical := .set h

/-! ## Safety island: permit lines -/

theorem State.Canonical.svbLines (h : s.Canonical) : s.svbLines.Canonical :=
  .foldl (.armRunClr (.set h)) (fun _ _ h1 => .ite h1 (.blkTrim (.setStr h1)))

/-! ## Safety island: outputs -/

theorem State.Canonical.safeDrive (h : s.Canonical) : s.safeDrive.Canonical := .set h

theorem State.Canonical.outFault {o : Nat} (h : s.Canonical) : (s.outFault o).Canonical := .flag h

theorem State.Canonical.readbacks {rba rbb : Nat} (h : s.Canonical) : (s.readbacks rba rbb).Canonical :=
  .foldl h (fun _ _ h1 => .ite h1 (.ite (.outFault h1) h1))

theorem State.Canonical.offPulse {o bad : Nat} (h : s.Canonical) : (s.offPulse o bad).Canonical :=
  .ite (.ite (.safeDrive (.outFault (.inc h))) (.inc h)) h

/-! ## Safety island: states -/

theorem State.Canonical.setIst {x : IState} (h : s.Canonical) : (s.setIst x).Canonical := by
  unfold State.setIst
  exact .svbLines (.safeDrive (.ite (.set h) (.set (.upd (.set h)))))

theorem State.Canonical.islandFault {cause : Nat} (h : s.Canonical) : (s.islandFault cause).Canonical :=
  .ite (.setIst (.set h)) h

theorem State.Canonical.fnLatch {f : Fld} (h : s.Canonical) : (s.fnLatch f).Canonical :=
  .ite h (.inc (.flag h))

theorem State.Canonical.fnLatchAll (h : s.Canonical) : s.fnLatchAll.Canonical :=
  .upd (.fnLatch (.fnLatch h))

theorem State.Canonical.wdOff (h : s.Canonical) : s.wdOff.Canonical := .zero h

theorem State.Canonical.vddUp (h : s.Canonical) : s.vddUp.Canonical := .ite h (.ite h h)

theorem State.Canonical.vddLoss (h : s.Canonical) : s.vddLoss.Canonical := .ite h (.setIst h)

theorem State.Canonical.selftestDone {pass : Bool} {cause : Nat} (h : s.Canonical) :
    (s.selftestDone pass cause).Canonical := by
  unfold State.selftestDone
  refine .ite h ?_
  dsimp only
  split
  · exact .ite (.setIst h) (.setIst (.set h))
  · exact .ite (.set h) (.ite (.setIst (.fnLatchAll h)) (.setIst (.fnLatchAll h)))
  · exact h

/-! ## Safety island: commands -/

theorem State.Canonical.safeCommit (h : s.Canonical) : s.safeCommit.Canonical :=
  .ite (.ite (.flag (.set h)) (.setIst (.set (.fnLatchAll (.wdOff (.set (.set (.upd (.set h)))))))))
    h

theorem State.Canonical.safeReset (h : s.Canonical) : s.safeReset.Canonical := .ite h h

theorem State.Canonical.safeFreset (h : s.Canonical) : s.safeFreset.Canonical := .ite h (.ite h (.flag h))

theorem State.Canonical.safeCntClr (h : s.Canonical) : s.safeCntClr.Canonical := .zero h

theorem State.Canonical.safeCmd {cmd : Nat} (h : s.Canonical) : (s.safeCmd cmd).Canonical := by
  unfold State.safeCmd
  split
  · exact .safeCommit h
  · exact .safeReset h
  · exact .safeFreset h
  · exact .safeCntClr h
  · exact .flag h

/-! ## Safety island: inputs -/

theorem State.Canonical.contact {i : Nat} {b level : Bool} {held : Nat} (h : s.Canonical) :
    (s.contact i b level held).Canonical :=
  .ite h (.ite h (.ite h (.ite h h)))

theorem State.Canonical.inputDisc {i held : Nat} (h : s.Canonical) : (s.inputDisc i held).Canonical :=
  .ite (.flag h) h

/-! ## Safety island: evaluation -/

theorem State.Canonical.fnDemand (h : s.Canonical) : s.fnDemand.Canonical :=
  .ite (.when (.when h (fun _ h1 => .fnLatch h1)) (fun _ h1 => .fnLatch h1)) h

theorem State.Canonical.fnRequest (h : s.Canonical) : s.fnRequest.Canonical :=
  .ite h (.upd (.ite (.upd (.when (.when h (fun _ h1 => .inc (.set h1)))
    (fun _ h1 => .inc (.set h1)))) (.flag (.when (.when h (fun _ h1 => .inc (.set h1)))
    (fun _ h1 => .inc (.set h1))))))

theorem State.Canonical.sapTrack (h : s.Canonical) : s.sapTrack.Canonical := .ite (.ite h h) (.set h)

theorem State.Canonical.sapExpiry (h : s.Canonical) : s.sapExpiry.Canonical := by
  unfold State.sapExpiry
  split
  · exact h
  · exact .ite (.safeDrive (.flag h)) h

theorem State.Canonical.safeIn (h : s.Canonical) : s.safeIn.Canonical := .set h

theorem State.Canonical.islandEval {rba rbb permits : Nat} (h : s.Canonical) :
    (s.islandEval rba rbb permits).Canonical := by
  unfold State.islandEval
  split
  · exact h
  · exact h
  · exact .safeDrive (.upd (.safeIn h))
  · exact .ite (.islandFault h) (.svbLines (.safeDrive
      (.upd (.sapTrack (.fnRequest (.fnDemand (.readbacks (.safeIn h))))))))

/-! ## Safety island: watchdog -/

theorem State.Canonical.wdExpire {flag : Fld} (h : s.Canonical) : (s.wdExpire flag).Canonical := by
  unfold State.wdExpire
  exact .svbLines (.safeDrive (.fnDemand (.set (.flag (.flag h)))))

theorem State.Canonical.wdToken (h : s.Canonical) : s.wdToken.Canonical := by
  unfold State.wdToken
  refine .ite h ?_
  dsimp only
  split
  · exact .flag h
  · exact .ite (.wdExpire h) (.ite (.wdExpire h) (.ite (.ite (.flag (.set h)) h) h))

theorem State.Canonical.wdTimeout (h : s.Canonical) : s.wdTimeout.Canonical := by
  unfold State.wdTimeout
  split
  · exact h
  · exact .ite (.wdExpire h) h

/-! ## Safety island: diagnostics -/

theorem State.Canonical.crcCheck {w flip : Nat} (h : s.Canonical) : (s.crcCheck w flip).Canonical :=
  .ite (.islandFault (.ite h h)) (.ite h h)

theorem State.Canonical.rcCheck {err : Nat} (h : s.Canonical) : (s.rcCheck err).Canonical :=
  .when h (fun _ h1 => .islandFault h1)

theorem State.Canonical.marchTest {pass : Bool} (h : s.Canonical) : (s.marchTest pass).Canonical :=
  .when h (fun _ h1 => .islandFault h1)

theorem State.Canonical.patternTest {pass : Bool} (h : s.Canonical) : (s.patternTest pass).Canonical :=
  .when h (fun _ h1 => .islandFault h1)

theorem State.Canonical.vddRange (h : s.Canonical) : s.vddRange.Canonical := .ite h (.islandFault h)

/-! ## Device: SAFE_HOLD -/

theorem State.Canonical.cmdMark {t : State} (hs : s.Canonical) (ht : t.Canonical) :
    (s.cmdMark t).Canonical :=
  ht

theorem State.Canonical.cmdLost (h : s.Canonical) : s.cmdLost.Canonical := by
  unfold State.cmdLost
  split
  · exact .ite (.devRej h) h
  · exact h

theorem State.Canonical.safeHold {reason : Nat} (h : s.Canonical) : (s.safeHold reason).Canonical :=
  .txnsHold (.foldl (.vspSafeHold (.logicSafeHold (.tuneCheck
    (.slotsIdle (.blkHold (.strsIdle (.pairLeave (.armRunClr
    (.goto (.ite (.devRej (.set h)) h)))))))))) (fun _ _ h1 => .calInterrupt h1))

theorem State.Canonical.fatal {reason : Nat} (h : s.Canonical) : (s.fatal reason).Canonical :=
  .ite (.upd (.safeHold (.cmdLost h))) h

theorem State.Canonical.stall (h : s.Canonical) : s.stall.Canonical := .ite (.fatal h) h

theorem State.Canonical.refExpiry (h : s.Canonical) : s.refExpiry.Canonical := .ite (.fatal (.set h)) h

theorem State.Canonical.heartbeat (h : s.Canonical) : s.heartbeat.Canonical :=
  .ite (.fatal (.dropAct h)) h

/-! ## Device: GO_READY -/

theorem State.Canonical.chkClr (h : s.Canonical) : s.chkClr.Canonical := .zero h

theorem State.Canonical.chk2 {r : Option (Nat × Nat)} {code which : Fld} (h : s.Canonical)
    (hq : s.chk2 r code which = some t) : t.Canonical := by
  obtain ⟨_, _, rfl⟩ := Option.map_eq_some_iff.mp hq
  exact .set (.set h)

theorem State.Canonical.readyFails (h : s.Canonical) (hq : s.readyFails = some t) : t.Canonical := by
  have orElse {o : Option State} {k : Unit → Option State} (ho : o = some t → t.Canonical)
      (hk : k () = some t → t.Canonical) (hor : o.orElse k = some t) : t.Canonical := by
    cases o
    · exact hk hor
    · exact ho hor
  have mapped {α : Type} {o : Option α} {f : α → State} (hf : ∀ x, (f x).Canonical)
      (hmap : o.map f = some t) : t.Canonical := by
    obtain ⟨_, _, rfl⟩ := Option.map_eq_some_iff.mp hmap
    exact hf _
  refine orElse h.chk2 (orElse (mapped fun _ => .set h) (orElse h.chk2 (orElse h.chk2 (orElse
    (mapped fun _ => .set (.set h)) (orElse h.chk2 (orElse (mapped fun _ => .set h) (orElse h.chk2
      (mapped fun _ => .set (.set (.set h)))))))))) hq

theorem State.Canonical.readyEnter (h : s.Canonical) : s.readyEnter.Canonical :=
  .logicReady (.pairReady (.foldl (.goto h) (fun _ _ h1 => .ite (.laneTrain h1) h1)))

theorem State.Canonical.devGate {ok : Bool} {f : State → State} (h : s.Canonical)
    (hf : ∀ u, u.Canonical → (f u).Canonical) : (s.devGate ok f).Canonical :=
  .ite h (.ite (.devRej h) (.ite (.devRej h) (.ite (.devRej h) (hf _ h))))

theorem State.Canonical.goReady (h : s.Canonical) : s.goReady.Canonical := by
  refine .devGate h fun t ht => ?_
  dsimp only
  split
  next hq => exact .devRej (.readyFails (.chkClr ht) hq)
  · exact .readyEnter (.chkClr ht)

theorem State.Canonical.goRun (h : s.Canonical) : s.goRun.Canonical :=
  .devGate h (fun _ h1 => .ite (.upd (.flag h1)) (.devRej h1))

theorem State.Canonical.stop (h : s.Canonical) : s.stop.Canonical :=
  .ite h (.ite (.devRej h) (.ite (.set h) (.ite (.tuneCheck (.armRunClr (.goto h))) (.devRej h))))

theorem State.Canonical.goConfig (h : s.Canonical) : s.goConfig.Canonical :=
  .devGate h (fun _ h1 => .when (.logicConfig (.tuneCheck
    (.slotsIdle (.upd (.strsIdle (.pairLeave (.goto h1))))))) (fun _ h2 => .wdOff h2))

theorem State.Canonical.forceHold (h : s.Canonical) : s.forceHold.Canonical :=
  .ite h (.ite (.devRej h) (.ite (.fatal h) (.devRej h)))

theorem State.Canonical.devUndef (h : s.Canonical) : s.devUndef.Canonical :=
  .ite h (.ite (.devRej h) (.devRej h))

theorem State.Canonical.devCmd {cmd : Nat} (h : s.Canonical) : (s.devCmd cmd).Canonical := by
  unfold State.devCmd
  split
  · exact .cmdMark h (.goReady h)
  · exact .cmdMark h (.goRun h)
  · exact .cmdMark h (.stop h)
  · exact .cmdMark h (.goConfig h)
  · exact .forceHold h
  · exact .devUndef h

/-! ## Device: resets -/

theorem State.Canonical.enterReset {cause : Nat} {dawn : Bool} (h : s.Canonical) :
    (s.enterReset cause dawn).Canonical :=
  .foldl (.foldl (.set (.set (.upd (.imgCut (.retCut (.otpCut (.dropAct h)))))))
    (fun _ _ h1 => .ite h1 (.flag (.setRst h1)))) (fun _ _ h1 => .flag h1)

theorem State.Canonical.powerOn {fit : Option Fitted} : (s.powerOn fit).Canonical :=
  .ite (.set nil_wf) (.when nil_wf fun _ h1 => .set h1)

theorem State.Canonical.resetN (h : s.Canonical) : s.resetN.Canonical := .ite (.set h) (.enterReset h)

theorem State.Canonical.devReset {key : Nat} {dawn : Bool} (h : s.Canonical) :
    (s.devReset key dawn).Canonical :=
  .ite h (.ite (.enterReset h) (.devRej h))

theorem State.Canonical.release {refA refB side home : Bool} (h : s.Canonical) :
    (s.release refA refB side home).Canonical :=
  .ite h (.evt (.svbLines (.otpShow (.set (.set (.flag
    (.set (.setRef (.setRef (.set (.inc h)))))))))))

/-! ## Device: the start -/

theorem State.Canonical.startFail {code : Nat} (h : s.Canonical) : (s.startFail code).Canonical :=
  .ite (.safeHold (.upd (.set (.set h)))) (.enterReset (.set (.set h)))

theorem State.Canonical.startLimit (h : s.Canonical) : s.startLimit.Canonical := .ite (.startFail h) h

theorem State.Canonical.startClear {noon : Bool} (h : s.Canonical) : (s.startClear noon).Canonical :=
  .ite (filter_wf _ _ h) (.set nil_wf)

theorem State.Canonical.startImage {noon : Bool} (h : s.Canonical) : (s.startImage noon).Canonical := by
  unfold State.startImage
  split
  next hq => exact .startFail (.snd (.pickImage h) hq)
  next hq =>
    have hp := State.Canonical.snd (.pickImage h) hq
    exact .same (.ite (.imgLoad (.imgShow hp)) (.imgShow hp)) rfl

theorem State.Canonical.startAdc {noon : Bool} (h : s.Canonical) : (s.startAdc noon).Canonical :=
  .ite (.flag h) (.foldl (.flag h) (fun _ _ h1 => .ite (.flag h1)
    (.foldl h1 (fun _ _ h2 => .calRotate (.fresh h2)))))

theorem State.Canonical.ctNoon (h : s.Canonical) : s.ctNoon.Canonical := by
  refine filterMap_wf _ _ (filter_wf _ _ h) fun c d hd => ?_
  dsimp only at hd
  split at hd
  · split at hd
    · cases hd
    next hne =>
      cases hd
      exact ⟨rfl, fun _ => hne⟩
  · cases hd
    exact ⟨rfl, id⟩

theorem State.Canonical.startEnd (h : s.Canonical) : s.startEnd.Canonical :=
  .goto (.foldl (.when (.upd (.set (.set h))) (fun _ h1 => .ctNoon h1))
    (fun _ _ h1 => .strFlags h1))

/-! ## Device: scrubbing -/

theorem State.Canonical.scrubWord {a : Nat} (h : s.Canonical) : (s.scrubWord a).Canonical := by
  unfold State.scrubWord
  dsimp only
  split
  · exact .faultLog (.inc (.upd (.faultAddr (.when h (fun _ h1 => h1)))))
  · exact .eccRd h

theorem State.Canonical.scrub {m : Nat} (h : s.Canonical) : (s.scrub m).Canonical :=
  .ite h (.when (.upd (.foldl h (fun _ _ h1 => .scrubWord h1))) (fun _ h1 => .inc h1))

theorem State.Canonical.scrub5 {hit : ScrubHit} (h : s.Canonical) : (s.scrub5 hit).Canonical := by
  unfold State.scrub5
  dsimp only
  split
  · exact h
  · exact .ceCount h
  · exact .fatal (.faultLog (.inc h))
  · exact .ite (.txnEcc (.faultLog (.inc h))) h

theorem State.Canonical.scrubStep {m : Nat} {hit : ScrubHit} (h : s.Canonical) :
    (s.scrubStep m hit).Canonical :=
  .ite h (.ite (.scrub5 h) (.scrub h))

theorem State.Canonical.memCntClr (h : s.Canonical) : s.memCntClr.Canonical := .zero h

/-! ## Bus -/

theorem State.Canonical.plain {w : BusWr} (h : s.Canonical) : (s.plain w).Canonical := by
  unfold State.plain
  split
  · exact .set h
  · exact h

/-! ## Bus: what writes do, block by block -/

theorem State.Canonical.wrDev {w : BusWr} (h : s.Canonical) : (s.wrDev w).Canonical := by
  unfold State.wrDev
  refine .ite (.devCmd h) (.ite (.devReset h) (.ite ?_ (.plain h)))
  split
  · exact .otpProgram h
  · exact .otpRevoke h
  · exact .flag h

theorem State.Canonical.wrTime {w : BusWr} (h : s.Canonical) : (s.wrTime w).Canonical :=
  .ite (.when (.when (.plain h) (fun _ h1 => .peStart h1)) (fun _ h1 => .refSelect h1))
    (.ite (.periodUpd (.plain h)) (.ite (.when h (fun _ h1 => .snap h1))
    (.ite (.when h (fun _ h1 => .timeCntClr h1)) (.ite (.twPush h)
    (.ite (.twCancel h) (.plain h))))))

theorem State.Canonical.wrRing {r : Nat} {w : BusWr} (h : s.Canonical) : (s.wrRing r w).Canonical := by
  unfold State.wrRing
  split
  · exact .ringCfgWrite h
  · exact .when h fun _ h1 => .plain h1
  · exact .when h fun _ h1 => .plain h1
  · exact .ringCounts (.plain h)
  · exact .plain h

theorem State.Canonical.wrHost {w : BusWr} (h : s.Canonical) : (s.wrHost w).Canonical := by
  unfold State.wrHost
  refine .ite (.abiSel h) (.ite (.when h (fun _ h1 => .hostCntClr h1))
    (.ite (.iommuCtrl h) (.ite (.iommuInv h) (.ite (.when h (fun _ h1 => .iommuCntClr h1)) ?_))))
  split
  · exact .doorbell h
  · exact .ite (.wrRing h) (.plain h)

theorem State.Canonical.wrSched {w : BusWr} (h : s.Canonical) : (s.wrSched w).Canonical := by
  unfold State.wrSched
  refine .ite (.schedCancel h) (.ite (.when h (fun _ h1 => .schedCntClr h1))
    (.ite (.upd (.plain h)) ?_))
  split
  · exact .quotaUpd (.plain h)
  · exact .plain h

theorem State.Canonical.wrCeng {w : BusWr} (h : s.Canonical) : (s.wrCeng w).Canonical := by
  unfold State.wrCeng
  split
  · exact .modeChange (.plain h)
  · exact .ite (.pr (.plain h)) (.plain h)

theorem State.Canonical.wrMod {w : BusWr} (h : s.Canonical) : (s.wrMod w).Canonical := by
  refine .ite (.when h fun _ h1 => .modCntClr h1) (.ite (.when h fun _ h1 => .modMcntClr h1) ?_)
  split
  · exact .armCommit h
  · refine .ite ?_ (.plain h)
    dsimp only
    split
    · exact .trimEn (.plain (.trimKeep h))
    · exact .ite (.trimKeep h) (.trimPer (.trimKeep h))
    · exact .when (.plain (.trimKeep h)) fun _ h1 => .trimWritten h1
    · exact .trimMin (.plain (.trimKeep h))

theorem State.Canonical.wrTrip {w : BusWr} (h : s.Canonical) : (s.wrTrip w).Canonical :=
  .ite (.tripClr h) (.ite (.withTrips h (fun _ h1 => .tripSoft h1))
    (.ite (.when h (fun _ h1 => .tripCntClr h1)) (.ite (.armRunSet (.plain h))
    (.ite (.withTrips (.plain h) (fun _ h1 => .tripUpd h1)) (.plain h)))))

theorem State.Canonical.wrSafe {w : BusWr} (h : s.Canonical) : (s.wrSafe w).Canonical :=
  .ite (.safeCmd h) (.ite (.safeStaged (.plain h)) (.plain h))

theorem State.Canonical.wrLogic {w : BusWr} (h : s.Canonical) : (s.wrLogic w).Canonical := by
  unfold State.wrLogic
  refine .ite (.logicCmd h) (.ite (.ite (.lPortWrite h) (.ite (.eccRd h) (.lPortWrite (.eccRd h))))
    ?_)
  split
  · exact .when (.plain h) (fun _ h1 => .set h1)
  · exact .plain h

theorem State.Canonical.wrVsp {w : BusWr} (h : s.Canonical) : (s.wrVsp w).Canonical := by
  unfold State.wrVsp
  refine .ite (.vspSoft h) (.ite (.when h (fun _ h1 => .vspCntClr h1)) (.ite (.flag h) ?_))
  split
  · exact .segCmd h
  · exact .plain h

theorem State.Canonical.wrConv {c : Nat} {w : BusWr} (h : s.Canonical) : (s.wrConv c w).Canonical := by
  unfold State.wrConv
  split
  · exact .when (.plain h) fun _ h1 => .adcMux h1
  · exact .when (.when h fun _ h1 => .adcRun h1) fun _ h1 => .adcStart h1
  · exact .ite (.adcFact h) (.plain h)

theorem State.Canonical.wrAdc {w : BusWr} (h : s.Canonical) : (s.wrAdc w).Canonical :=
  .ite (.adcCmd h) (.ite (.ite (.adcRefSel h) h) (.ite (.wrConv h) (.plain h)))

theorem State.Canonical.wrEth {w : BusWr} (h : s.Canonical) : (s.wrEth w).Canonical := by
  unfold State.wrEth
  refine .ite (.ethFreq h) (.ite (.ethSlew h) (.ite (.ethSlewRate h)
    (.ite (.when h (fun _ h1 => .stepGo h1)) (.ite (.when h (fun _ h1 => .ethCntClr h1)) ?_))))
  split
  · exact .ite (.set (.when (.plain h) (fun _ h1 => .ethLinkDown h1)))
      (.when (.plain h) (fun _ h1 => .ethLinkDown h1))
  · exact .plain h

theorem State.Canonical.wrCan {w : BusWr} (h : s.Canonical) : (s.wrCan w).Canonical := by
  unfold State.wrCan
  refine .ite (.when h (fun _ h1 => .canCorr h1)) (.ite (.when h (fun _ h1 => .canCntClr h1)) ?_)
  split
  · exact .when (.ite (.canEnable (.plain h)) (.ite (.canDisable (.plain h)) (.plain h)))
      (fun _ h1 => .canRecover h1)
  · exact .plain h

theorem State.Canonical.wrPair {w : BusWr} (h : s.Canonical) : (s.wrPair w).Canonical :=
  .ite (.ite (.handover h) (.flag h)) (.ite (.when h (fun _ h1 => .pairCntClr h1)) (.plain h))

theorem State.Canonical.wrMem {w : BusWr} (h : s.Canonical) : (s.wrMem w).Canonical :=
  .ite (.when h (fun _ h1 => .memCntClr h1)) (.plain h)

theorem State.Canonical.wrLane {l : Nat} {w : BusWr} (h : s.Canonical) : (s.wrLane l w).Canonical := by
  unfold State.wrLane
  split
  · exact .linkUpd (.testIgn (.laneCfgWrite h))
  · exact .when (.testIgn (.plain h)) fun _ h1 => .laneTrain h1
  · exact .txeqWrite h
  · exact .ctleHold (.plain h)
  · exact .when h fun _ h1 => .laneCntClr h1
  · exact .when (.genStart (.testIgn (.plain h))) fun _ h1 => .prbsClr h1
  · exact .plain h

theorem State.Canonical.wrStr {n : Nat} {w : BusWr} (h : s.Canonical) : (s.wrStr n w).Canonical := by
  unfold State.wrStr
  split
  · exact .svbLines (.blkTrips (.strFlags (.ite (.set (.plain h)) (.plain h))))
  · exact .when (.when (.plain h) fun _ h1 => .enumWrite h1) fun _ h1 => .reenumWrite h1
  · exact .when h fun _ h1 => .strCntClr h1
  · exact .strFlags (.plain h)

theorem State.Canonical.wrMemory {w : BusWr} (h : s.Canonical) : (s.wrMemory w).Canonical := by
  unfold State.wrMemory
  dsimp only
  split
  · exact .memWr h
  · exact .memWr h
  · exact .ite (.memWr h) h
  · exact h

theorem State.Canonical.busW1 {w : BusWr} (h : s.Canonical) : (s.busW1 w).Canonical := by
  unfold State.busW1
  refine .ite (.wrMemory h) (.ite (.ite (.wrStr h) h) (.ite (.ite (.wrLane h) h) ?_))
  split
  · exact .wrDev h
  · exact .wrTime h
  · exact .wrHost h
  · exact .wrSched h
  · exact .wrCeng h
  · exact .wrMod h
  · exact .wrTrip h
  · exact .wrSafe h
  · exact .wrLogic h
  · exact .wrVsp h
  · exact .wrAdc h
  · exact .wrEth h
  · exact .wrCan h
  · exact .wrPair h
  · exact .wrMem h
  · exact h

/-! ## Bus: timed writes that fire -/

theorem State.Canonical.twPast {n : Nat} (h : s.Canonical) : (State.twPast n s).Canonical := by
  induction n generalizing s with
  | zero => exact h
  | succ n ih =>
    unfold State.twPast
    split
    · exact .ite (ih (.twWrite (.same h rfl) fun _ h1 => .busW1 h1)) h
    · exact h

theorem State.Canonical.stepFire {old : Int} (h : s.Canonical) : (s.stepFire old).Canonical :=
  .ite (.twPast h) h

theorem State.Canonical.busW {w : BusWr} (h : s.Canonical) : (s.busW w).Canonical :=
  .ite (.stepFire (.busW1 h)) (.busW1 h)

theorem State.Canonical.hostW {a data : Nat} (h : s.Canonical) : (s.hostW a data).Canonical :=
  .ite h (.busW h)

/-! ## Bus: reads -/

theorem State.Canonical.regRead {a org : Nat} (h : s.Canonical) : (s.regRead a org).2.2.Canonical := by
  unfold State.regRead
  dsimp only
  split
  · exact h
  · split
    · exact h
    · split
      · exact .ppsRead h
      · split
        · exact .lPortRead h
        · split
          · exact h
          · split
            · exact .tsqRead h
            · split
              · exact .prbsLatch h
              · split
                · exact h
                · exact h

theorem State.Canonical.busR {a org req : Nat} (h : s.Canonical) : (s.busR a org req).2.2.Canonical := by
  unfold State.busR
  split
  · exact .regRead h
  · split
    · exact h
    · exact .eccRdF h
    · exact h

/-! ## Apply instant: configuration transactions -/

theorem State.Canonical.txnApply {t : Txn} (h : s.Canonical) : (s.txnApply t).2.Canonical := by
  unfold State.txnApply
  split
  · exact .txnEnd h
  · split
    · exact .txnEnd (.set (.set h))
    · dsimp only
      split
      · exact .txnEnd (.foldl h (fun _ _ h1 => .busW h1))
      · exact .upd (.foldl h (fun _ _ h1 => .busW h1))

theorem State.Canonical.txnValidated {r idx : Nat} (h : s.Canonical) :
    (s.txnValidated r idx).Canonical := by
  unfold State.txnValidated
  split
  · exact h
  · refine .ite (.txnEnd h) ?_
    dsimp only
    split
    · exact .txnEnd h
    · exact .ite (.updTxn h) (.ite (.txnApply h) (.updTxn h))

theorem State.Canonical.txnsApply (h : s.Canonical) : s.txnsApply.2.Canonical :=
  .foldl_snd h fun _ _ h1 => .txnApply h1

/-! ## Apply instant: control-engine latches -/

theorem State.Canonical.latchesMove (h : s.Canonical) : s.latchesMove.2.Canonical := by
  unfold State.latchesMove
  split
  · exact h
  · refine .foldl_snd h fun p _ hp => ?_
    dsimp only
    split
    · split
      · exact .slotMove hp
      · split
        · exact .memWr (.slotMove hp)
        · split
          · exact .busW1 (.slotMove hp)
          · exact .slotMove hp
    · exact hp

/-! ## Apply instant: timed writes at the instant -/

theorem State.Canonical.overlapMark {before after : List (Nat × Nat)} (h : s.Canonical) :
    (s.overlapMark before after).Canonical :=
  .ite (.late h) h

theorem State.Canonical.twOverlap {e : TwEntry} (h : s.Canonical) : (s.twOverlap e).Canonical :=
  .when h (fun _ h1 => .overlapMark h1)

theorem State.Canonical.twStep4 {e : TwEntry} (h : s.Canonical) : (s.twStep4 e).Canonical :=
  .twWrite (.twOverlap h) (fun _ h1 => .busW1 h1)

theorem State.Canonical.twAtInstant {old : Int} (h : s.Canonical) : (s.twAtInstant old).Canonical := by
  unfold State.twAtInstant
  dsimp only
  split
  · exact .twStep4 (.upd (.foldl h (fun _ _ h1 => .twWrite h1 (fun _ h2 => .busW1 h2))))
  · exact .foldl h (fun _ _ h1 => .twWrite h1 (fun _ h2 => .busW1 h2))

theorem State.Canonical.twFire (h : s.Canonical) : s.twFire.Canonical := by
  unfold State.twFire
  split
  · exact h
  · exact .ite (.ite (.when (.advTo h) (fun _ h1 => .pass h1))
      (.twWrite (.twOverlap (.upd (.when (.advTo h) (fun _ h1 => .pass h1))))
      (fun _ h1 => .busW h1))) h

/-! ## Apply instant: the instant -/

theorem State.Canonical.periodOpen (h : s.Canonical) : s.periodOpen.Canonical := by
  unfold State.periodOpen
  dsimp only
  split
  · exact .stepNow (.upd (.flag h))
  · exact .upd (.flag h)

theorem State.Canonical.runDue (h : s.Canonical) : s.runDue.Canonical :=
  .ite (.armRunClr (.goto (.set h))) h

theorem State.Canonical.pairBefore (h : s.Canonical) : s.pairBefore.Canonical :=
  .takeover (.captureInstant h)

theorem State.Canonical.pairFrames (h : s.Canonical) : s.pairFrames.Canonical :=
  .when (.healthSend (.when h (fun _ h1 => .tsyncSend h1))) (fun _ h1 => .srepSend h1)

theorem State.Canonical.pairInstant (h : s.Canonical) : s.pairInstant.Canonical :=
  .relayStart (.captureDue (.handoverInstant (.sendRun
    (.when (.readiness (.wireCheck (.pr (.inc h)))) (fun _ h1 => .pairFrames h1)))))

theorem State.Canonical.applyInstant (h : s.Canonical) : s.applyInstant.Canonical := by
  unfold State.applyInstant
  split
  · exact h
  next k _ =>
    refine .ite h ?_
    extract_lets u old v w
    have hw : w.Canonical := .when (.runDue (.periodOpen (.pass h))) fun _ h1 => h1
    clear_value w
    have hx : w.txnsApply.2.Canonical := .txnsApply hw
    generalize w.txnsApply = x at hx ⊢
    obtain ⟨w2, x⟩ := x
    dsimp only at hx ⊢
    generalize hy : x.pairBefore = y
    replace hy : y.Canonical := hy ▸ .pairBefore hx
    have hz : y.latchesMove.2.Canonical := .latchesMove hy
    generalize y.latchesMove = z at hz ⊢
    exact .slotsDue (.trimsStart (.stepFire (.twAtInstant (.upd (.pairInstant (.overlapMark hz))))))

/-! ## Apply instant: TSYNC -/

theorem State.Canonical.tsync {l : Nat} {f : Bytes} {ago : Nat} (h : s.Canonical) :
    (s.tsync l f ago).Canonical := by
  unfold State.tsync
  refine .ite ?_ h
  dsimp only
  split
  · exact .ite (.pr (.tsyncFollow (.tsyncMeasure h))) (.tsyncMeasure h)
  · exact .tsyncMeasure h

/-! ## Apply instant: the steps of a start -/

theorem State.Canonical.regListApply {l : List (Nat × Nat × Nat)} (h : s.Canonical)
    (hq : s.regListApply l = some t) : t.Canonical := by
  induction l generalizing s with
  | nil =>
    cases hq
    exact h
  | cons e l ih =>
    unfold State.regListApply at hq
    dsimp only at hq
    split at hq
    · cases hq
    · exact ih (.set (.busW (.set h))) hq

theorem State.Canonical.startStep {ok : Bool} {hm : HostMem} (h : s.Canonical) :
    (s.startStep ok hm).Canonical := by
  refine .ite h ?_
  dsimp only
  split
  · exact .ite (.startFail h) h
  · exact .same (.startClear h) rfl
  · exact .ite (.startFail h) (.startImage h)
  · exact h
  · exact .same (.startAdc h) rfl
  · split
    next hq => exact .same (.regListApply h hq) rfl
    · exact .startFail h
  · exact .same (.resetWalk h) rfl
  · exact .startEnd h
  · exact h

/-! ## Station logic and the bus -/

theorem State.Canonical.lAccRej (h : s.Canonical) : s.lAccRej.Canonical := .inc (.flag h)

theorem State.Canonical.lBar0 {a : Nat} (h : s.Canonical) : (s.lBar0 a).2.Canonical := by
  unfold State.lBar0
  split
  · exact .lAccRej h
  · dsimp only
    split
    · exact .flag (.busR h)
    · exact .busR h

theorem State.Canonical.lWrr {a mask v : Nat} (h : s.Canonical) : (s.lWrr a mask v).Canonical :=
  .ite (.busW h) (.when (.lAccRej h) (fun _ h1 => .flag h1))

/-! ## Station logic and the bus: cycle start -/

theorem State.Canonical.lSystem {k : Nat} (h : s.Canonical) : (s.lSystem k).Canonical := by
  unfold State.lSystem
  exact .lg (.wrWords h)

theorem State.Canonical.lCells {c : Nat} {codes : List Nat} (h : s.Canonical) :
    (s.lCells c codes).2.Canonical :=
  .eccTouch h

theorem State.Canonical.lInput {w : Nat} (h : s.Canonical) : (s.lInput w).2.Canonical := by
  unfold State.lInput
  dsimp only
  split
  · exact .lBar0 h
  · exact .lCells h
  · exact .lCells h
  · exact h
  · exact h

theorem State.Canonical.lFreeze (h : s.Canonical) : s.lFreeze.Canonical :=
  .forceApply (.foldl h (fun _ _ h1 => .lPut (.lInput h1)))

theorem State.Canonical.lOutput {w v next : Nat} (h : s.Canonical) : (s.lOutput w v next).Canonical := by
  unfold State.lOutput
  dsimp only
  split
  · exact .lWrr h
  · exact .canPublish h
  · exact h

theorem State.Canonical.lPublish {q : Nat} (h : s.Canonical) : (s.lPublish q).Canonical :=
  .foldl (.lg h) (fun _ _ h1 => .lOutput h1)

theorem State.Canonical.lShare {k : Nat} (h : s.Canonical) : (s.lShare k).Canonical :=
  .ite (.wr32 (.wrWords (.wrB h))) h

theorem State.Canonical.lBegin (h : s.Canonical) : s.lBegin.Canonical := by
  unfold State.lBegin
  extract_lets k u v w
  have hw : w.Canonical := .lFreeze (.lSystem (.forceTake (.forceJudge (.canSync (.canSync h)))))
  split
  next bad x hq =>
    have hx : x.Canonical := .snd (.lScan hw) hq
    exact .ite hx (.lg (.inc (.lShare (.lPublish hx))))

theorem State.Canonical.lSkip (h : s.Canonical) : s.lSkip.Canonical := by
  unfold State.lSkip
  exact .when (.lg (.inc (.flag h))) (fun _ h1 => .lHalt h1)

theorem State.Canonical.lResume (h : s.Canonical) : s.lResume.Canonical :=
  .ite (.lScan h) (.ite (.lBegin (.setLgst (.ite (.lg (.lScan h)) (.flag (.lRestart (.lScan h))))))
    (.setLgst (.lScan h)))

theorem State.Canonical.cycleStart (h : s.Canonical) : s.cycleStart.Canonical := by
  unfold State.cycleStart
  refine .ite ?_ h
  dsimp only
  split
  · exact .ite (.lSkip (.lg (.toOfs h))) (.lBegin (.lg (.toOfs h)))
  · exact .lBegin (.setLgst (.lRestart (.lg (.toOfs h))))
  · exact .lResume (.lg (.toOfs h))
  · exact .ite (.lPublish (.lg (.lg (.toOfs h)))) (.lg (.toOfs h))

/-! ## Station logic and the bus: register access by the program -/

theorem State.Canonical.lWait {n : Nat} (h : s.Canonical) : (s.lWait n).Canonical := .lg (.fresh h)

theorem State.Canonical.lRdr {w : Nat} (h : s.Canonical) : (s.lRdr w).Canonical :=
  .lWordRd h (fun _ _ h1 => .setAcc (.lBar0 (.lWait h1)))

theorem State.Canonical.lWrrOp {w : Nat} (h : s.Canonical) : (s.lWrrOp w).Canonical :=
  .ite (.lWordRd h (fun _ _ h1 => .lWrr h1)) h

theorem State.Canonical.lSubm {w : Nat} (h : s.Canonical) : (s.lSubm w).Canonical :=
  .ite (.lWordRd h (fun _ _ h1 => .ite (.submitTpl (.lWait h1)) (.lAccRej (.lWait h1)))) h

/-! ## Operands of the cores: bytes of data -/

theorem State.Canonical.coreWords {c a n : Nat} (h : s.Canonical) : (s.coreWords c a n).2.2.Canonical := by
  induction n generalizing s a with
  | zero => exact h
  | succ n ih =>
    unfold State.coreWords
    dsimp only
    split
    · exact .busR h
    · exact ih (.busR h)

theorem State.Canonical.coreRd {c a k : Nat} (h : s.Canonical) : (s.coreRd c a k).2.2.Canonical :=
  .coreWords h

theorem State.Canonical.coreRdRuns {c : Nat} {l : List (Nat × Nat)} (h : s.Canonical) :
    (s.coreRdRuns c l).2.2.Canonical := by
  induction l generalizing s with
  | nil => exact h
  | cons e l ih =>
    unfold State.coreRdRuns
    dsimp only
    split
    · exact .coreRd h
    · exact ih (.coreRd h)

theorem State.Canonical.coreWrWord {c a mask v : Nat} (h : s.Canonical) :
    (s.coreWrWord c a mask v).Canonical := by
  unfold State.coreWrWord
  refine .ite (.busW h) (.ite (.ctWrite h) (.ite (.dtWrite h) ?_))
  split
  · exact .mergeWr h
  · exact .mergeWr h
  · exact h

theorem State.Canonical.partRead {c a mask : Nat} (h : s.Canonical) :
    (s.partRead c a mask).2.Canonical := by
  unfold State.partRead
  split
  · exact .eccRdF h
  · exact h

theorem State.Canonical.coreStore {c : Nat} {ws : List (Nat × Nat × Nat)} (h : s.Canonical) :
    (s.coreStore c ws).2.Canonical := by
  obtain ⟨rd, hrd⟩ : ∃ f, State.partRead = f := ⟨_, rfl⟩
  have hr {u : State} {a m : Nat} (hu : u.Canonical) : (rd u c a m).2.Canonical := hrd ▸ .partRead hu
  unfold State.coreStore
  rw [hrd]
  dsimp only
  split
  · exact .foldl_snd h fun _ _ h1 => hr h1
  · exact .foldl (.foldl_snd h fun _ _ h1 => hr h1) fun _ _ h1 => .coreWrWord h1

/-! ## Operands of the cores: running one instruction -/

theorem State.Canonical.setCtx {c : Nat} {x : Ctx} (h : s.Canonical) : (s.setCtx c x).Canonical := by
  unfold State.setCtx
  dsimp only
  split
  · exact h
  · exact .setCore h

/-- The state that an instruction of a core ends with is canonical. A stalled one names none: it leaves
the state as it was. -/
def CoreEnd.Canonical : CoreEnd → Prop
  | .done s _ | .jump s _ | .fin s _ | .exc s _ _ _ => s.Canonical
  | .stall => True

theorem CoreEnd.Canonical.done {x : Ctx} (h : s.Canonical) : (CoreEnd.done s x).Canonical := h

theorem CoreEnd.Canonical.jump {x : Ctx} (h : s.Canonical) : (CoreEnd.jump s x).Canonical := h

theorem CoreEnd.Canonical.fin {v : Nat} (h : s.Canonical) : (CoreEnd.fin s v).Canonical := h

theorem CoreEnd.Canonical.exc {e : Exc} {opnd a : Nat} (h : s.Canonical) :
    (CoreEnd.exc s e opnd a).Canonical := h

theorem CoreEnd.Canonical.stall : CoreEnd.stall.Canonical := trivial

theorem CoreEnd.Canonical.ite {c : Prop} [Decidable c] {e f : CoreEnd} (he : e.Canonical)
    (hf : f.Canonical) : (if c then e else f).Canonical := by
  split
  · exact he
  · exact hf

theorem State.Canonical.coreEnd {c : Nat} {e : CoreEnd} (h : s.Canonical) (he : e.Canonical) :
    (s.coreEnd c e).Canonical := by
  cases e with
  | done t x => exact .setCtx he
  | jump t x => exact .setCtx he
  | stall => exact h
  | fin t v => exact .itemEnd he
  | exc t e opnd addr => exact .coreExc he

theorem State.Canonical.coreFetch {c pc : Nat} (h : s.Canonical) : (s.coreFetch c pc).2.Canonical := by
  unfold State.coreFetch
  split
  · exact h
  · dsimp only
    split
    · exact .eccRds h
    · exact .eccRds h

theorem State.Canonical.coreRun {c : Nat} {isOp : Nat → Bool} {legal : Nat → Ctx → Bool}
    {f : State → Nat → Ctx → CoreEnd} (h : s.Canonical)
    (hf : ∀ u x1 x2, u.Canonical → (f u x1 x2).Canonical) : (s.coreRun c isOp legal f).Canonical := by
  unfold State.coreRun
  split
  · exact h
  · split
    next hq => exact .coreExc (.snd (.coreFetch h) hq)
    next hq =>
      have hu := State.Canonical.snd (.coreFetch h) hq
      exact .ite h (.ite (.coreExc hu) (.coreEnd h (hf _ _ _ hu)))

theorem State.Canonical.coreOp {c op : Nat} {legal : Nat → Ctx → Bool} {f : State → Nat → Ctx → CoreEnd}
    (h : s.Canonical) (hf : ∀ u x1 x2, u.Canonical → (f u x1 x2).Canonical) :
    (s.coreOp c op legal f).Canonical :=
  .coreRun h (fun _ _ _ h1 => hf _ _ _ h1)

/-! ## Cores: integer arithmetic and logic -/

theorem State.Canonical.coAlu {c op : Nat} {f : Nat → Nat → Nat} {fl : Ctx → Nat → Nat → Ctx}
    (h : s.Canonical) : (s.coAlu c op f fl).Canonical :=
  .coreOp h (fun _ _ _ h1 => .done h1)

theorem State.Canonical.coAdd {c : Nat} (h : s.Canonical) : (s.coAdd c).Canonical := .coAlu h

theorem State.Canonical.coSub {c : Nat} (h : s.Canonical) : (s.coSub c).Canonical := .coAlu h

theorem State.Canonical.coAnd {c : Nat} (h : s.Canonical) : (s.coAnd c).Canonical := .coAlu h

theorem State.Canonical.coOr {c : Nat} (h : s.Canonical) : (s.coOr c).Canonical := .coAlu h

theorem State.Canonical.coXor {c : Nat} (h : s.Canonical) : (s.coXor c).Canonical := .coAlu h

theorem State.Canonical.coAndn {c : Nat} (h : s.Canonical) : (s.coAndn c).Canonical := .coAlu h

theorem State.Canonical.coShl {c : Nat} (h : s.Canonical) : (s.coShl c).Canonical := .coAlu h

theorem State.Canonical.coShr {c : Nat} (h : s.Canonical) : (s.coShr c).Canonical := .coAlu h

theorem State.Canonical.coSar {c : Nat} (h : s.Canonical) : (s.coSar c).Canonical := .coAlu h

theorem State.Canonical.coMul {c : Nat} (h : s.Canonical) : (s.coMul c).Canonical := .coAlu h

theorem State.Canonical.coCmp {c : Nat} (h : s.Canonical) : (s.coCmp c).Canonical :=
  .coreOp h (fun _ _ _ h1 => .done h1)

theorem State.Canonical.coMov {c : Nat} (h : s.Canonical) : (s.coMov c).Canonical :=
  .coreOp h (fun _ _ _ h1 => .done h1)

theorem State.Canonical.coCount {c op : Nat} {f : Nat → Nat} (h : s.Canonical) :
    (s.coCount c op f).Canonical :=
  .coreOp h (fun _ _ _ h1 => .done h1)

theorem State.Canonical.coPopc {c : Nat} (h : s.Canonical) : (s.coPopc c).Canonical := .coCount h

theorem State.Canonical.coClz {c : Nat} (h : s.Canonical) : (s.coClz c).Canonical := .coCount h

/-! ## Cores: binary32 -/

theorem State.Canonical.coFp {c op : Nat} {f : Ctx → Nat → Nat × FFlags} (h : s.Canonical) :
    (s.coFp c op f).Canonical :=
  .coreOp h (fun _ _ _ h1 => .done h1)

theorem State.Canonical.coFadd {c : Nat} (h : s.Canonical) : (s.coFadd c).Canonical := .coFp h

theorem State.Canonical.coFsub {c : Nat} (h : s.Canonical) : (s.coFsub c).Canonical := .coFp h

theorem State.Canonical.coFmul {c : Nat} (h : s.Canonical) : (s.coFmul c).Canonical := .coFp h

theorem State.Canonical.coFma {c : Nat} (h : s.Canonical) : (s.coFma c).Canonical := .coFp h

theorem State.Canonical.coFdiv {c : Nat} (h : s.Canonical) : (s.coFdiv c).Canonical := .coFp h

theorem State.Canonical.coFsqrt {c : Nat} (h : s.Canonical) : (s.coFsqrt c).Canonical := .coFp h

theorem State.Canonical.coFmin {c : Nat} (h : s.Canonical) : (s.coFmin c).Canonical := .coFp h

theorem State.Canonical.coFmax {c : Nat} (h : s.Canonical) : (s.coFmax c).Canonical := .coFp h

theorem State.Canonical.coFcmp {c : Nat} (h : s.Canonical) : (s.coFcmp c).Canonical :=
  .coreOp h (fun _ _ _ h1 => .done h1)

theorem State.Canonical.coFcvti {c : Nat} (h : s.Canonical) : (s.coFcvti c).Canonical := .coFp h

theorem State.Canonical.coFcvtf {c : Nat} (h : s.Canonical) : (s.coFcvtf c).Canonical := .coFp h

theorem State.Canonical.coFabs {c : Nat} (h : s.Canonical) : (s.coFabs c).Canonical := .coFp h

theorem State.Canonical.coFneg {c : Nat} (h : s.Canonical) : (s.coFneg c).Canonical := .coFp h

/-! ## Cores: pointers -/

theorem State.Canonical.coPset {c : Nat} (h : s.Canonical) : (s.coPset c).Canonical :=
  .coreOp h (fun _ _ _ h1 => .done h1)

theorem State.Canonical.coPget {c : Nat} (h : s.Canonical) : (s.coPget c).Canonical :=
  .coreOp h (fun _ _ _ h1 => .done h1)

theorem State.Canonical.coPupd {c : Nat} (h : s.Canonical) : (s.coPupd c).Canonical :=
  .coreOp h (fun _ _ _ h1 => .done h1)

/-! ## Cores: special registers -/

theorem State.Canonical.coMfs {c : Nat} (h : s.Canonical) : (s.coMfs c).Canonical :=
  .coreOp h (fun _ _ _ h1 => .done (.when h1 (fun _ h2 => .setCore h2)))

theorem State.Canonical.coMts {c : Nat} (h : s.Canonical) : (s.coMts c).Canonical :=
  .coreOp h (fun _ _ _ h1 => .done h1)

/-! ## Core vectors: moves and logic -/

theorem State.Canonical.coVget {c : Nat} (h : s.Canonical) : (s.coVget c).Canonical :=
  .coreOp h (fun _ _ _ h1 => .done h1)

theorem State.Canonical.coVput {c : Nat} (h : s.Canonical) : (s.coVput c).Canonical :=
  .coreOp h (fun _ _ _ h1 => .done h1)

theorem State.Canonical.coVbc {c : Nat} (h : s.Canonical) : (s.coVbc c).Canonical :=
  .coreOp h (fun _ _ _ h1 => .done h1)

theorem State.Canonical.coVlog {c op : Nat} {f : Nat → Nat → Nat} (h : s.Canonical) :
    (s.coVlog c op f).Canonical :=
  .coreOp h (fun _ _ _ h1 => .done h1)

theorem State.Canonical.coVand {c : Nat} (h : s.Canonical) : (s.coVand c).Canonical := .coVlog h

theorem State.Canonical.coVor {c : Nat} (h : s.Canonical) : (s.coVor c).Canonical := .coVlog h

theorem State.Canonical.coVxor {c : Nat} (h : s.Canonical) : (s.coVxor c).Canonical := .coVlog h

theorem State.Canonical.coVandn {c : Nat} (h : s.Canonical) : (s.coVandn c).Canonical := .coVlog h

/-! ## Core vectors: lane sums -/

theorem State.Canonical.coVsum {c op : Nat} {f : Int → Int → Int} (h : s.Canonical) :
    (s.coVsum c op f).Canonical :=
  .coreOp h (fun _ _ _ h1 => .done h1)

theorem State.Canonical.coVadd {c : Nat} (h : s.Canonical) : (s.coVadd c).Canonical := .coVsum h

theorem State.Canonical.coVsub {c : Nat} (h : s.Canonical) : (s.coVsub c).Canonical := .coVsum h

/-! ## Core vectors: accumulators -/

theorem State.Canonical.coVmul {c op : Nat} {sgn : Int} (h : s.Canonical) :
    (s.coVmul c op sgn).Canonical :=
  .coreOp h (fun _ _ _ h1 => .done h1)

theorem State.Canonical.coVmac {c : Nat} (h : s.Canonical) : (s.coVmac c).Canonical := .coVmul h

theorem State.Canonical.coVmsu {c : Nat} (h : s.Canonical) : (s.coVmsu c).Canonical := .coVmul h

theorem State.Canonical.coVaclr {c : Nat} (h : s.Canonical) : (s.coVaclr c).Canonical :=
  .coreOp h (fun _ _ _ h1 => .done h1)

theorem State.Canonical.coVext {c : Nat} (h : s.Canonical) : (s.coVext c).Canonical :=
  .coreOp h (fun _ _ _ h1 => .done h1)

theorem State.Canonical.coSmul {c op : Nat} {sgn : Int} (h : s.Canonical) :
    (s.coSmul c op sgn).Canonical :=
  .coreOp h (fun _ _ _ h1 => .done h1)

theorem State.Canonical.coSmac {c : Nat} (h : s.Canonical) : (s.coSmac c).Canonical := .coSmul h

theorem State.Canonical.coSmsu {c : Nat} (h : s.Canonical) : (s.coSmsu c).Canonical := .coSmul h

theorem State.Canonical.coSmac2 {c : Nat} (h : s.Canonical) : (s.coSmac2 c).Canonical :=
  .coreOp h (fun _ _ _ h1 => .done h1)

theorem State.Canonical.coSaclr {c : Nat} (h : s.Canonical) : (s.coSaclr c).Canonical :=
  .coreOp h (fun _ _ _ h1 => .done h1)

theorem State.Canonical.coSext {c : Nat} (h : s.Canonical) : (s.coSext c).Canonical :=
  .coreOp h (fun _ _ _ h1 => .done h1)

/-! ## Core vectors: search -/

theorem State.Canonical.coSclr {c : Nat} (h : s.Canonical) : (s.coSclr c).Canonical :=
  .coreOp h (fun _ _ _ h1 => .done h1)

theorem State.Canonical.coSget {c : Nat} (h : s.Canonical) : (s.coSget c).Canonical :=
  .coreOp h (fun _ _ _ h1 => .done h1)

/-! ## Core memory -/

theorem CoreEnd.Canonical.operandRd {c opnd align : Nat} {own : Bool} {a : Nat}
    {rs : List (Nat × Nat)} {k : State → Bytes → CoreEnd} (h : s.Canonical)
    (hk : ∀ u x1, u.Canonical → (k u x1).Canonical) :
    (s.operandRd c opnd align own a rs k).Canonical := by
  unfold State.operandRd
  refine .ite (.exc h) ?_
  split
  · exact .exc h
  · exact .ite (.exc (.coreRdRuns h)) (hk _ _ (.coreRdRuns h))

theorem CoreEnd.Canonical.operandWr {c align a : Nat} {rs : List (Nat × Nat)} {b : Bytes}
    {k : State → CoreEnd} (h : s.Canonical) (hk : ∀ u, u.Canonical → (k u).Canonical) :
    (s.operandWr c align a rs b k).Canonical := by
  unfold State.operandWr
  refine .ite (.exc h) ?_
  split
  · exact .exc h
  · exact .ite (.exc (.coreStore h)) (hk _ (.coreStore h))

/-! ## Core memory: scalar loads and stores -/

theorem CoreEnd.Canonical.loadAt {c w a : Nat} {x : Ctx} (h : s.Canonical) :
    (Machine.loadAt s c w a x).Canonical :=
  CoreEnd.Canonical.operandRd h fun _ _ h1 => .done h1

theorem CoreEnd.Canonical.storeAt {c w a v : Nat} {x : Ctx} (h : s.Canonical) :
    (Machine.storeAt s c w a v x).Canonical := by
  unfold Machine.storeAt
  exact CoreEnd.Canonical.operandWr h fun _ h1 => .done h1

theorem State.Canonical.coLd {c : Nat} (h : s.Canonical) : (s.coLd c).Canonical :=
  .coreOp h (fun _ _ _ h1 => .loadAt h1)

theorem State.Canonical.coSt {c : Nat} (h : s.Canonical) : (s.coSt c).Canonical :=
  .coreOp h (fun _ _ _ h1 => .storeAt h1)

theorem State.Canonical.coLdx {c : Nat} (h : s.Canonical) : (s.coLdx c).Canonical :=
  .coreOp h (fun _ _ _ h1 => .loadAt h1)

theorem State.Canonical.coStx {c : Nat} (h : s.Canonical) : (s.coStx c).Canonical :=
  .coreOp h (fun _ _ _ h1 => .storeAt h1)

/-! ## Core memory: vector loads and stores -/

theorem State.Canonical.coVld {c : Nat} (h : s.Canonical) : (s.coVld c).Canonical :=
  .coreOp h (fun _ _ _ h1 => .operandRd h1 (fun _ _ h2 => .done h2))

theorem State.Canonical.coVst {c : Nat} (h : s.Canonical) : (s.coVst c).Canonical :=
  .coreOp h (fun _ _ _ h1 => .operandWr h1 (fun _ h2 => .done h2))

theorem State.Canonical.coVmacm {c : Nat} (h : s.Canonical) : (s.coVmacm c).Canonical :=
  .coreOp h (fun _ _ _ h1 => .operandRd h1 (fun _ _ h2 => .operandRd h2 (fun _ _ h3 => .done h3)))

theorem State.Canonical.coSrch {c : Nat} (h : s.Canonical) : (s.coSrch c).Canonical :=
  .coreOp h (fun _ _ _ h1 => .operandRd h1 (fun _ _ h2 => .done h2))

/-! ## Core memory: branches and loops -/

theorem State.Canonical.coB {c : Nat} (h : s.Canonical) : (s.coB c).Canonical := by
  unfold State.coB
  refine .coreOp h (fun _ _ _ h1 => .ite (.jump ?_) (.done ?_))
  · dsimp only
    split
    · exact h1
    · exact .fresh h1
  · dsimp only
    split
    · exact h1
    · exact .fresh h1

theorem State.Canonical.coBr {c : Nat} (h : s.Canonical) : (s.coBr c).Canonical :=
  .coreOp h (fun _ _ _ h1 => .jump h1)

theorem State.Canonical.coCall {c : Nat} (h : s.Canonical) : (s.coCall c).Canonical :=
  .coreOp h (fun _ _ _ h1 => .jump h1)

theorem State.Canonical.coLoop {c : Nat} (h : s.Canonical) : (s.coLoop c).Canonical :=
  .coreOp h (fun _ _ _ h1 => .ite (.exc h1) (.ite (.jump h1) (.jump h1)))

/-! ## Core memory: DMA -/

theorem State.Canonical.coDma {c : Nat} (h : s.Canonical) : (s.coDma c).Canonical := by
  unfold State.coDma
  refine .coreOp h fun _ _ _ h1 => ?_
  dsimp only
  split
  · exact .stall
  · refine .operandRd h1 fun _ _ h2 => .ite (.exc h2) ?_
    split
    · exact .exc h2
    · split
      · exact .exc h2
      · exact .done (.setCore h2)

theorem State.Canonical.coDmaw {c : Nat} (h : s.Canonical) : (s.coDmaw c).Canonical := by
  unfold State.coDmaw
  refine .coreOp h (fun _ _ _ h1 => ?_)
  dsimp only
  split
  · exact .done h1
  · split
    · exact .stall
    · exact .done (.setCore h1)

theorem State.Canonical.dmaStore {c : Nat} {l : List (Nat × Nat × Nat)} (h : s.Canonical) :
    (s.dmaStore c l).2.2.Canonical := by
  obtain ⟨wr, hwr⟩ : ∃ f, State.coreWrWord = f := ⟨_, rfl⟩
  obtain ⟨rd, hrd⟩ : ∃ f, State.partRead = f := ⟨_, rfl⟩
  have hr {u : State} {a m : Nat} (hu : u.Canonical) : (rd u c a m).2.Canonical := hrd ▸ .partRead hu
  have hw {u : State} {a m v : Nat} (hu : u.Canonical) : (wr u c a m v).Canonical :=
    hwr ▸ .coreWrWord hu
  delta State.dmaStore State.dmaStore._f
  rw [hrd, hwr]
  induction l generalizing s with
  | nil => exact h
  | cons e l ih =>
    dsimp only
    split
    · exact hr h
    · exact ih (hw (hr h))

theorem State.Canonical.dmaMove {c : Nat} {d : DmaTag} {hm : HostMem} (h : s.Canonical) :
    (s.dmaMove c d hm).2.2.Canonical := by
  obtain ⟨rd, hrd⟩ : ∃ f, State.hostRd = f := ⟨_, rfl⟩
  obtain ⟨wr, hwr⟩ : ∃ f, State.hostWr = f := ⟨_, rfl⟩
  have hr {u : State} {q k a n : Nat} (hu : u.Canonical) : (rd u hm q k a n).2.2.Canonical :=
    hrd ▸ .hostRd hu
  have hw {u : State} {q k a : Nat} {b : Bytes} (hu : u.Canonical) : (wr u hm q k a b).2.2.Canonical :=
    hwr ▸ .hostWr hu
  unfold State.dmaMove
  rw [hrd, hwr]
  dsimp only
  split
  · refine hw ?_
    split
    · exact hr h
    · exact .coreRd h
  · refine .dmaStore ?_
    split
    · exact hr h
    · exact .coreRd h

theorem State.Canonical.coreDmaDone {c tag : Nat} {hm : HostMem} (h : s.Canonical) :
    (s.coreDmaDone c tag hm).Canonical := by
  unfold State.coreDmaDone
  split
  · refine .ite h ?_
    dsimp only
    split
    · exact .setCore (.dmaMove h)
    · exact .dmaMove h
  · exact h

/-! ## Core memory: the rest -/

theorem State.Canonical.coSubmit {c : Nat} (h : s.Canonical) : (s.coSubmit c).Canonical :=
  .coreOp h (fun _ _ _ h1 => .operandRd h1 (fun _ _ h2 => .done (.submit h2)))

theorem State.Canonical.coFence {c : Nat} (h : s.Canonical) : (s.coFence c).Canonical :=
  .coreOp h (fun _ _ _ h1 => .done h1)

theorem State.Canonical.coEnd {c : Nat} (h : s.Canonical) : (s.coEnd c).Canonical :=
  .coreOp h (fun _ _ _ h1 => .ite .stall (.fin h1))

theorem State.Canonical.coNop {c : Nat} (h : s.Canonical) : (s.coNop c).Canonical :=
  .coreOp h (fun _ _ _ h1 => .done h1)

theorem State.Canonical.coUndef {c : Nat} (h : s.Canonical) : (s.coUndef c).Canonical :=
  .coreRun h (fun _ _ _ h1 => .stall)

/-! ## Commands: accesses to BAR0 -/

theorem State.Canonical.hostF {f : Fld} {v : Nat} (h : s.Canonical) : (s.hostF f v).Canonical := .hostW h

theorem State.Canonical.orgW {org a data : Nat} (h : s.Canonical) : (s.orgW org a data).Canonical :=
  .ite h (.busW h)

theorem State.Canonical.hostR {a : Nat} (h : s.Canonical) : (s.hostR a).Canonical :=
  .ite h (.emit (.busR h))

theorem State.Canonical.logicPort {wr : Option Nat} (h : s.Canonical) : (s.logicPort wr).Canonical := by
  unfold State.logicPort
  split
  · exact .hostW h
  · exact .hostR h

theorem State.Canonical.badAccess {a size : Nat} (h : s.Canonical) : (s.badAccess a size).Canonical :=
  .ite h (.ite (.hostR h) (.emit (.aer h)))

theorem State.Canonical.cmdUndef {a data : Nat} (h : s.Canonical) : (s.cmdUndef a data).Canonical :=
  .ite (.hostW h) h

/-! ## Commands: lanes and their blocks -/

theorem State.Canonical.onMirror {l : Nat} {f : Bytes} {k : State → Bytes → State} (h : s.Canonical)
    (hk : ∀ u x1, u.Canonical → (k u x1).Canonical) : (s.onMirror l f k).Canonical :=
  .ite (hk _ _ h) (.onFrame h (fun _ _ h1 => .mirDiscard h1))

theorem State.Canonical.onString {n : Nat} {f : Bytes} {k : State → Bytes → State} (h : s.Canonical)
    (hk : ∀ u x1, u.Canonical → (k u x1).Canonical) : (s.onString n f k).Canonical := by
  unfold State.onString
  split
  · exact .onFrame h (fun _ _ h1 => hk _ _ h1)
  · exact hk _ _ h

theorem State.Canonical.laneCode {l gap : Nat} {rd : Bool} {code : Nat} {pos : Option Nat}
    (h : s.Canonical) : (s.laneCode l gap rd code pos).Canonical :=
  .ite (.when (.laneDrop (.codeError h)) (fun _ h1 => .linkUpd h1)) (.codeError h)

theorem State.Canonical.toCell {c : Nat} (h : s.Canonical) : (s.toCell c).Canonical := by
  unfold State.toCell
  split
  · exact .pass h
  · exact h

theorem State.Canonical.laneReply {l : Nat} {f : Bytes} (h : s.Canonical) : (s.laneReply l f).Canonical :=
  .ite (.mreply h) (.ite (.ite (.ite (.strStop (.when (.laneUp h) (fun _ h1 => .holdLane h1)))
    (.strFlags (.when (.laneUp h) (fun _ h1 => .holdLane h1))))
    (.when (.laneUp h) (fun _ h1 => .holdLane h1))) h)

theorem State.Canonical.laneLos {l : Nat} {sig : Bool} (h : s.Canonical) : (s.laneLos l sig).Canonical :=
  .ite (.when h (fun _ h1 => .sigLost h1)) (.when (.laneDrop (.when h (fun _ h1 => .sigLost h1)))
    (fun _ h1 => .linkUpd h1))

/-! ## Commands: others -/

theorem State.Canonical.trimWrap (h : s.Canonical) : s.trimWrap.Canonical := by
  unfold State.trimWrap
  split
  · exact .ite (.pass h) h
  · exact h

theorem State.Canonical.vectorNext (h : s.Canonical) : s.vectorNext.Canonical := by
  unfold State.vectorNext
  split
  · exact .vectorDeliver (.toOfs h)
  · exact h

theorem State.Canonical.obsTick (h : s.Canonical) : s.obsTick.Canonical :=
  .when h (fun _ h1 => .onLine h1 (fun _ h2 => .wdToken (.vspObs (.obsUpdate h2))))

theorem State.Canonical.startAt {g : Nat} (h : s.Canonical) : (s.startAt g).Canonical :=
  .when h (fun _ h1 => .onLine h1 (fun _ h2 => .lgStart h2))

theorem State.Canonical.evalAt {g : Nat} (h : s.Canonical) : (s.evalAt g).Canonical :=
  .when h (fun _ h1 => .onLine h1 (fun _ h2 => .vspCeng (.cengEvaluate h2)))

theorem State.Canonical.cutAt {g : Nat} (h : s.Canonical) : (s.cutAt g).Canonical :=
  .when h (fun _ h1 => .onLine h1 (fun _ h2 => .launchCut h2))

theorem State.Canonical.bowAt {g : Nat} (h : s.Canonical) : (s.bowAt g).Canonical :=
  .when h (fun _ h1 => .onLine h1 (fun _ h2 => .bow h2))

theorem State.Canonical.toSample {c : Nat} (h : s.Canonical) : (s.toSample c).Canonical := by
  unfold State.toSample
  split
  · exact .advTo h
  · exact h

theorem State.Canonical.adcEnd {c k : Nat} {r : Int} {beyond : Bool} (h : s.Canonical) :
    (s.adcEnd c k r beyond).Canonical :=
  .when (.adcResult (.toSample h)) (fun _ h1 => .vspAdc h1)

theorem State.Canonical.slewEnd (h : s.Canonical) : s.slewEnd.Canonical :=
  .ite (.when (.pass h) (fun _ h1 => .slewDone h1)) h

theorem State.Canonical.ppsNext (h : s.Canonical) : s.ppsNext.Canonical := .ite (.ppsOut (.pass h)) h

theorem State.Canonical.staleNext {sv : Bool} {i : Nat} (h : s.Canonical) :
    (s.staleNext sv i).Canonical := by
  unfold State.staleNext
  split
  · exact .when (.when h (fun _ h1 => .pass h1)) (fun _ h1 => .subStale h1)
  · exact .subStale h

theorem State.Canonical.holdoverNext (h : s.Canonical) : s.holdoverNext.Canonical :=
  .ite h (.when (.pass h) (fun _ h1 => .holdover h1))

theorem State.Canonical.affNext (h : s.Canonical) : s.affNext.Canonical := by
  unfold State.affNext
  split
  · exact h
  · exact .affExpire (.pass h)

theorem State.Canonical.commitDue (h : s.Canonical) : s.commitDue.Canonical := by
  unfold State.commitDue
  split
  · exact .txnCommit h
  · exact h

theorem State.Canonical.fireDue (h : s.Canonical) : s.fireDue.Canonical := by
  unfold State.fireDue
  split
  · exact .tuFire h
  · exact h

theorem State.Canonical.irqDue (h : s.Canonical) : s.irqDue.Canonical := by
  unfold State.irqDue
  split
  · exact .irqTimeout h
  · exact h

theorem State.Canonical.each {n : Nat} {f : State → Nat → State} (h : s.Canonical)
    (hf : ∀ u x1, u.Canonical → (f u x1).Canonical) : (s.each n f).Canonical :=
  .foldl h (fun _ _ h1 => hf _ _ h1)

theorem State.Canonical.lCmp {w : Nat} {f : Int → Int → Bool} (h : s.Canonical) :
    (s.lCmp w f).Canonical :=
  .lWordRd h (fun _ _ h1 => .setLa h1)

/-! ## Every command and every step -/

/-- Every command acts through a gate on its operands, on a state that is canonical where the one
before it was. -/
theorem exec_gate (c : Instr) (s : State) :
    ∃ t, exec c s = gate c.wf t ∧ (s.Canonical → t.Canonical) := by
  cases c with
  | powerOnReset => exact ⟨_, rfl, fun _ => .powerOn⟩
  | devReset => exact ⟨_, rfl, .hostW⟩
  | resetRelease => exact ⟨_, rfl, .release⟩
  | startStepDone => exact ⟨_, rfl, fun h => .startStep (.see h)⟩
  | refLoss => exact ⟨_, rfl, .refLoss⟩
  | refReturn => exact ⟨_, rfl, .refReturn⟩
  | lgStart => exact ⟨_, rfl, .startAt⟩
  | timeSnap => exact ⟨_, rfl, .orgW⟩
  | timeTwPush => exact ⟨_, rfl, .orgW⟩
  | timeTwCancel => exact ⟨_, rfl, .orgW⟩
  | laneTrain => exact ⟨_, rfl, .hostF⟩
  | laneCfgWrite => exact ⟨_, rfl, .hostW⟩
  | laneTxeqWrite => exact ⟨_, rfl, .hostW⟩
  | laneSyncAcquire => exact ⟨_, rfl, .syncAcquire⟩
  | laneCodeError => exact ⟨_, rfl, .laneCode⟩
  | skpReceive => exact ⟨_, rfl, .skp⟩
  | elasticBufferError => exact ⟨_, rfl, .ebError⟩
  | adaptUpdate => exact ⟨_, rfl, .adapt⟩
  | adaptFreeze => exact ⟨_, rfl, .adaptFreeze⟩
  | adaptResume => exact ⟨_, rfl, .adaptResume⟩
  | trainAdaptDone => exact ⟨_, rfl, .trainDone⟩
  | helloResend => exact ⟨_, rfl, .helloResend⟩
  | trainAttemptTimeout => exact ⟨_, rfl, .attemptTimeout⟩
  | backoffExpiry => exact ⟨_, rfl, .backoffExpiry⟩
  | absentRetry => exact ⟨_, rfl, .absentRetry⟩
  | laneHelloReply => exact ⟨_, rfl, fun h => .onFrame h (fun _ _ h1 => .laneReply h1)⟩
  | laneHelloReceive => exact ⟨_, rfl, fun h => .onFrame h (fun _ _ h1 => .helloReceive h1)⟩
  | laneLos => exact ⟨_, rfl, .laneLos⟩
  | laneCntClr => exact ⟨_, rfl, .hostW⟩
  | prbsLock => exact ⟨_, rfl, .prbsLock⟩
  | prbsLockLost => exact ⟨_, rfl, .prbsLost⟩
  | prbsErrRead => exact ⟨_, rfl, fun h => .hostR (.prbsCount h)⟩
  | prbsClr => exact ⟨_, rfl, .hostF⟩
  | enum => exact ⟨_, rfl, .hostW⟩
  | enumReplyReceive => exact ⟨_, rfl, fun h => .onString h (fun _ _ h1 => .enumReply h1)⟩
  | enumReplyTimeout => exact ⟨_, rfl, .enumReplyTimeout⟩
  | ackReceive => exact ⟨_, rfl, fun h => .onString h (fun _ _ h1 => .ackReceive h1)⟩
  | ackTimeout => exact ⟨_, rfl, .ackTimeout⟩
  | enumEchoReturn => exact ⟨_, rfl, fun h => .onString h (fun _ _ h1 => .echoReturn h1)⟩
  | enumEchoTimeout => exact ⟨_, rfl, .echoTimeout⟩
  | reenum => exact ⟨_, rfl, .hostW⟩
  | strCntClr => exact ⟨_, rfl, .hostW⟩
  | bow => exact ⟨_, rfl, .bowAt⟩
  | strokeReturn => exact ⟨_, rfl, fun h => .onString h (fun _ _ h1 => .strokeReturn h1)⟩
  | strokeNohome => exact ⟨_, rfl, .strokeNoHome⟩
  | strokeReflect => exact ⟨_, rfl, fun h => .onFrame h (fun _ _ h1 => .strokeReflect h1)⟩
  | laneEchoReceive => exact ⟨_, rfl, fun h => .onFrame h (fun _ _ h1 => .laneEcho h1)⟩
  | laneEnumHelloReceive => exact ⟨_, rfl, fun h => .onFrame h (fun _ _ h1 => .enumHelloReceive h1)⟩
  | blkReceive => exact ⟨_, rfl, .blkReceive⟩
  | cellHello => exact ⟨_, rfl, .cellHello⟩
  | cellAssign => exact ⟨_, rfl, .cellAssign⟩
  | cellEcho => exact ⟨_, rfl, .cellEcho⟩
  | cellRelease => exact ⟨_, rfl, .cellRelease⟩
  | cellStroke => exact ⟨_, rfl, .cellStroke⟩
  | cellApplyInstant => exact ⟨_, rfl, fun h => .cellApply (.toCell h)⟩
  | cellBlk => exact ⟨_, rfl, .cellBlk⟩
  | cellAuthTimeout => exact ⟨_, rfl, .cellAuthTimeout⟩
  | cellTableWrite => exact ⟨_, rfl, .hostW⟩
  | modArmCommit => exact ⟨_, rfl, .hostW⟩
  | launchCut => exact ⟨_, rfl, .cutAt⟩
  | trimCtrlWrite => exact ⟨_, rfl, .hostW⟩
  | trimPerWrite => exact ⟨_, rfl, .hostW⟩
  | dtTableWrite => exact ⟨_, rfl, .hostW⟩
  | tripFilterPass => exact ⟨_, rfl, fun h => .withTrips h (fun _ h1 => .tripPin h1)⟩
  | tripSoft => exact ⟨_, rfl, .hostW⟩
  | tripClr => exact ⟨_, rfl, .hostW⟩
  | tripInCfgWrite => exact ⟨_, rfl, .hostW⟩
  | cengEvaluate => exact ⟨_, rfl, .evalAt⟩
  | coreAdd => exact ⟨_, rfl, .coAdd⟩
  | coreSub => exact ⟨_, rfl, .coSub⟩
  | coreAnd => exact ⟨_, rfl, .coAnd⟩
  | coreOr => exact ⟨_, rfl, .coOr⟩
  | coreXor => exact ⟨_, rfl, .coXor⟩
  | coreAndn => exact ⟨_, rfl, .coAndn⟩
  | coreShl => exact ⟨_, rfl, .coShl⟩
  | coreShr => exact ⟨_, rfl, .coShr⟩
  | coreSar => exact ⟨_, rfl, .coSar⟩
  | coreMul => exact ⟨_, rfl, .coMul⟩
  | coreCmp => exact ⟨_, rfl, .coCmp⟩
  | coreMov => exact ⟨_, rfl, .coMov⟩
  | corePopc => exact ⟨_, rfl, .coPopc⟩
  | coreClz => exact ⟨_, rfl, .coClz⟩
  | coreLd => exact ⟨_, rfl, .coLd⟩
  | coreSt => exact ⟨_, rfl, .coSt⟩
  | coreLdx => exact ⟨_, rfl, .coLdx⟩
  | coreStx => exact ⟨_, rfl, .coStx⟩
  | coreVld => exact ⟨_, rfl, .coVld⟩
  | coreVst => exact ⟨_, rfl, .coVst⟩
  | coreVget => exact ⟨_, rfl, .coVget⟩
  | coreVput => exact ⟨_, rfl, .coVput⟩
  | coreVbc => exact ⟨_, rfl, .coVbc⟩
  | coreVadd => exact ⟨_, rfl, .coVadd⟩
  | coreVsub => exact ⟨_, rfl, .coVsub⟩
  | coreVand => exact ⟨_, rfl, .coVand⟩
  | coreVor => exact ⟨_, rfl, .coVor⟩
  | coreVxor => exact ⟨_, rfl, .coVxor⟩
  | coreVandn => exact ⟨_, rfl, .coVandn⟩
  | coreVmac => exact ⟨_, rfl, .coVmac⟩
  | coreVmsu => exact ⟨_, rfl, .coVmsu⟩
  | coreVmacm => exact ⟨_, rfl, .coVmacm⟩
  | coreVaclr => exact ⟨_, rfl, .coVaclr⟩
  | coreVext => exact ⟨_, rfl, .coVext⟩
  | coreSclr => exact ⟨_, rfl, .coSclr⟩
  | coreSrch => exact ⟨_, rfl, .coSrch⟩
  | coreSget => exact ⟨_, rfl, .coSget⟩
  | coreSmac => exact ⟨_, rfl, .coSmac⟩
  | coreSmsu => exact ⟨_, rfl, .coSmsu⟩
  | coreSmac2 => exact ⟨_, rfl, .coSmac2⟩
  | coreSaclr => exact ⟨_, rfl, .coSaclr⟩
  | coreSext => exact ⟨_, rfl, .coSext⟩
  | coreFadd => exact ⟨_, rfl, .coFadd⟩
  | coreFsub => exact ⟨_, rfl, .coFsub⟩
  | coreFmul => exact ⟨_, rfl, .coFmul⟩
  | coreFma => exact ⟨_, rfl, .coFma⟩
  | coreFdiv => exact ⟨_, rfl, .coFdiv⟩
  | coreFsqrt => exact ⟨_, rfl, .coFsqrt⟩
  | coreFmin => exact ⟨_, rfl, .coFmin⟩
  | coreFmax => exact ⟨_, rfl, .coFmax⟩
  | coreFcmp => exact ⟨_, rfl, .coFcmp⟩
  | coreFcvti => exact ⟨_, rfl, .coFcvti⟩
  | coreFcvtf => exact ⟨_, rfl, .coFcvtf⟩
  | coreFabs => exact ⟨_, rfl, .coFabs⟩
  | coreFneg => exact ⟨_, rfl, .coFneg⟩
  | corePset => exact ⟨_, rfl, .coPset⟩
  | corePget => exact ⟨_, rfl, .coPget⟩
  | corePupd => exact ⟨_, rfl, .coPupd⟩
  | coreMfs => exact ⟨_, rfl, .coMfs⟩
  | coreMts => exact ⟨_, rfl, .coMts⟩
  | coreB => exact ⟨_, rfl, .coB⟩
  | coreBr => exact ⟨_, rfl, .coBr⟩
  | coreCall => exact ⟨_, rfl, .coCall⟩
  | coreLoop => exact ⟨_, rfl, .coLoop⟩
  | coreDma => exact ⟨_, rfl, .coDma⟩
  | coreDmaw => exact ⟨_, rfl, .coDmaw⟩
  | coreSubmit => exact ⟨_, rfl, .coSubmit⟩
  | coreFence => exact ⟨_, rfl, .coFence⟩
  | coreEnd => exact ⟨_, rfl, .coEnd⟩
  | coreNop => exact ⟨_, rfl, .coNop⟩
  | coreDmaDone => exact ⟨_, rfl, fun h => .coreDmaDone (.see h)⟩
  | contextSaveDone => exact ⟨_, rfl, .saveDone⟩
  | contextRestoreDone => exact ⟨_, rfl, .restoreDone⟩
  | periodTableFire => exact ⟨_, rfl, .ptFire⟩
  | telSubmit => exact ⟨_, rfl, .telSubmit⟩
  | schedCancel => exact ⟨_, rfl, .hostW⟩
  | ringEnable => exact ⟨_, rfl, .hostF⟩
  | ringDisable => exact ⟨_, rfl, .hostF⟩
  | ringResume => exact ⟨_, rfl, .hostF⟩
  | hostDb => exact ⟨_, rfl, .hostW⟩
  | fetchFault => exact ⟨_, rfl, fun h => .ringFetchFault (.see h)⟩
  | ringNop => exact ⟨_, rfl, fun h => .ringNop (.see h)⟩
  | workSubmit => exact ⟨_, rfl, fun h => .workSubmit (.see h)⟩
  | copy => exact ⟨_, rfl, fun h => .copy (.see h)⟩
  | copyDone => exact ⟨_, rfl, fun h => .copyDone (.see h)⟩
  | queue => exact ⟨_, rfl, fun h => .twRing (.see h)⟩
  | ringCancel => exact ⟨_, rfl, fun h => .ringCancel (.see h)⟩
  | transact => exact ⟨_, rfl, fun h => .transact (.see h)⟩
  | transactValidated => exact ⟨_, rfl, .txnValidated⟩
  | hostAbiSelWrite => exact ⟨_, rfl, .hostW⟩
  | msixUnmask => exact ⟨_, rfl, .msixUnmask⟩
  | bar0BadAccess => exact ⟨_, rfl, .badAccess⟩
  | registerWrite => exact ⟨_, rfl, .hostW⟩
  | scrubStep => exact ⟨_, rfl, .scrubStep⟩
  | iommuCtrlWrite => exact ⟨_, rfl, .hostW⟩
  | iommuInv => exact ⟨_, rfl, .hostW⟩
  | mhello => exact ⟨_, rfl, fun h => .onMirror h (fun _ _ h1 => .mhello h1)⟩
  | mreply => exact ⟨_, rfl, fun h => .onMirror h (fun _ _ h1 => .mreply h1)⟩
  | tsync => exact ⟨_, rfl, fun h => .onMirror h (fun _ _ h1 => .tsync h1)⟩
  | health => exact ⟨_, rfl, fun h => .onMirror h (fun _ _ h1 => .health' h1)⟩
  | ckpt => exact ⟨_, rfl, fun h => .onMirror h (fun _ _ h1 => .ckpt h1)⟩
  | map => exact ⟨_, rfl, fun h => .onMirror h (fun _ _ h1 => .mapIn h1)⟩
  | dly => exact ⟨_, rfl, fun h => .onMirror h (fun _ _ h1 => .dlyIn h1)⟩
  | dlyTimeout => exact ⟨_, rfl, .dlyTimeout⟩
  | srep => exact ⟨_, rfl, fun h => .onMirror h (fun _ _ h1 => .srep h1)⟩
  | relay => exact ⟨_, rfl, fun h => .onMirror h (fun _ _ h1 => .relay h1)⟩
  | rtel => exact ⟨_, rfl, fun h => .onMirror h (fun _ _ h1 => .rtel h1)⟩
  | returnReq => exact ⟨_, rfl, fun h => .onMirror h (fun _ _ h1 => .returnReqIn h1)⟩
  | offer => exact ⟨_, rfl, fun h => .onMirror h (fun _ _ h1 => .offerIn h1)⟩
  | ctrlAck => exact ⟨_, rfl, fun h => .onMirror h (fun _ _ h1 => .ctrlAck h1)⟩
  | ctrlRej => exact ⟨_, rfl, fun h => .onMirror h (fun _ _ h1 => .ctrlRej h1)⟩
  | resync => exact ⟨_, rfl, fun h => .onMirror h (fun _ _ h1 => .resync h1)⟩
  | islandSelftestDone => exact ⟨_, rfl, .selftestDone⟩
  | contactDebounce => exact ⟨_, rfl, .contact⟩
  | inputDiscrepancy => exact ⟨_, rfl, .inputDisc⟩
  | islandEvaluation => exact ⟨_, rfl, .islandEval⟩
  | offPulseTest => exact ⟨_, rfl, .offPulse⟩
  | configCrcCheck => exact ⟨_, rfl, .crcCheck⟩
  | rcMonitorCheck => exact ⟨_, rfl, .rcCheck⟩
  | marchTest => exact ⟨_, rfl, .marchTest⟩
  | patternTest => exact ⟨_, rfl, .patternTest⟩
  | logicMemAccess => exact ⟨_, rfl, .logicPort⟩
  | retainWriteDone => exact ⟨_, rfl, .retDone⟩
  | vspCmd => exact ⟨_, rfl, .hostW⟩
  | arm => exact ⟨_, rfl, .hostW⟩
  | disarm => exact ⟨_, rfl, .hostW⟩
  | release => exact ⟨_, rfl, .hostW⟩
  | soft => exact ⟨_, rfl, .hostW⟩
  | rearmDone => exact ⟨_, rfl, .rearmDone⟩
  | vspConfigWrite => exact ⟨_, rfl, .hostW⟩
  | vspRead => exact ⟨_, rfl, fun h => .vspRead (.see h)⟩
  | vspReadDone => exact ⟨_, rfl, fun h => .vspReadDone (.see h)⟩
  | adcStart => exact ⟨_, rfl, .hostF⟩
  | adcResult => exact ⟨_, rfl, .adcEnd⟩
  | cal => exact ⟨_, rfl, .hostW⟩
  | calComplete => exact ⟨_, rfl, .calComplete⟩
  | accept => exact ⟨_, rfl, .hostW⟩
  | protCalRotate => exact ⟨_, rfl, .calRotate⟩
  | adcRefSelect => exact ⟨_, rfl, .hostF⟩
  | ethFrameReceive => exact ⟨_, rfl, fun h => .ethReceive (.see h)⟩
  | subscriptionStale => exact ⟨_, rfl, .staleNext⟩
  | ethSend => exact ⟨_, rfl, fun h => .ethSend (.see h)⟩
  | ethSendDone => exact ⟨_, rfl, .ethSent⟩
  | ethBuf => exact ⟨_, rfl, fun h => .ethBuf (.see h)⟩
  | ethTsqHeadRead => exact ⟨_, rfl, .hostR⟩
  | ethFreqWrite => exact ⟨_, rfl, .hostW⟩
  | ethSlewWrite => exact ⟨_, rfl, .hostW⟩
  | ethSlewRateWrite => exact ⟨_, rfl, .hostW⟩
  | ppsInEdge => exact ⟨_, rfl, .ppsIn⟩
  | canEnable => exact ⟨_, rfl, .hostF⟩
  | canDisable => exact ⟨_, rfl, .hostF⟩
  | recover => exact ⟨_, rfl, .hostF⟩
  | canRecoveryDone => exact ⟨_, rfl, .canRecovered⟩
  | canSend => exact ⟨_, rfl, fun h => .canSend (.see h)⟩
  | canFrameSent => exact ⟨_, rfl, .canSent⟩
  | canTxError => exact ⟨_, rfl, .canTxError⟩
  | canFrameReceive => exact ⟨_, rfl, .canReceive⟩
  | canBuf => exact ⟨_, rfl, fun h => .canBuf (.see h)⟩
  | imgErase => exact ⟨_, rfl, fun h => .imgStart (.see h)⟩
  | imgProgram => exact ⟨_, rfl, fun h => .imgStart (.see h)⟩
  | imgVerify => exact ⟨_, rfl, fun h => .imgStart (.see h)⟩
  | imgCommit => exact ⟨_, rfl, fun h => .imgStart (.see h)⟩
  | imgStepDone => exact ⟨_, rfl, fun h => .imgDone (.see h)⟩
  | otpProgram => exact ⟨_, rfl, .hostW⟩
  | otpRevoke => exact ⟨_, rfl, .hostW⟩
  | otpProgramDone => exact ⟨_, rfl, .otpDone⟩
  | undefinedInstruction => exact ⟨_, rfl, .coUndef⟩
  | undefinedOpDescriptor => exact ⟨_, rfl, fun h => .ringUndef (.see h)⟩
  | mirrorFrameDiscarded => exact ⟨_, rfl, .mirDiscard⟩
  | cmdUndefined => exact ⟨_, rfl, .cmdUndef⟩
  | ainComparatorEdge => exact ⟨_, rfl, .comparator⟩
  | ethLinkUp => exact ⟨_, rfl, .ethLinkUp⟩
  | ethLinkDown => exact ⟨_, rfl, .ethLinkDown⟩
  | canRxError => exact ⟨_, rfl, .canRxError⟩
  | linkTrained => exact ⟨_, rfl, .linkTrained⟩
  | cellPortUp => exact ⟨_, rfl, .cellPortUp⟩
  | cellPortLoss => exact ⟨_, rfl, .cellPortLoss⟩
  | resetNLow => exact ⟨_, rfl, .resetN⟩
  | startTimeLimit => exact ⟨_, rfl, .startLimit⟩
  | goReady => exact ⟨_, rfl, .hostW⟩
  | goRun => exact ⟨_, rfl, .hostW⟩
  | stop => exact ⟨_, rfl, .hostW⟩
  | goConfig => exact ⟨_, rfl, .hostW⟩
  | forceSafeHold => exact ⟨_, rfl, .hostW⟩
  | periodEngineStart => exact ⟨_, rfl, .hostF⟩
  | applyInstant => exact ⟨_, rfl, .applyInstant⟩
  | periodEngineStall => exact ⟨_, rfl, .stall⟩
  | refHoldoverExpiry => exact ⟨_, rfl, .refExpiry⟩
  | timedWriteFire => exact ⟨_, rfl, .twFire⟩
  | timeCntClr => exact ⟨_, rfl, .hostW⟩
  | enumStart => exact ⟨_, rfl, fun h => .each h (fun _ _ h1 => .enumStart h1)⟩
  | blkInject => exact ⟨_, rfl, fun h => .each h (fun _ _ h1 => .blkInject h1)⟩
  | obsUpdate => exact ⟨_, rfl, .obsTick⟩
  | vectorDelivery => exact ⟨_, rfl, .vectorNext⟩
  | modCntClr => exact ⟨_, rfl, .hostW⟩
  | trimWrap => exact ⟨_, rfl, .trimWrap⟩
  | modMcntClr => exact ⟨_, rfl, .hostW⟩
  | tripCntClr => exact ⟨_, rfl, .hostW⟩
  | schedDispatch => exact ⟨_, rfl, .dispatch⟩
  | schedPreempt => exact ⟨_, rfl, .preempt⟩
  | spillRefill => exact ⟨_, rfl, fun h => .each h (fun _ _ h1 => .spillRefill h1)⟩
  | deadlineExpiry => exact ⟨_, rfl, .deadlineExpiry⟩
  | affWaitExpiry => exact ⟨_, rfl, .affNext⟩
  | quotaWindowEnd => exact ⟨_, rfl, .windowEnd⟩
  | schedCntClr => exact ⟨_, rfl, .hostW⟩
  | ringDrainDone => exact ⟨_, rfl, fun h => .each h (fun _ _ h1 => .drainDone h1)⟩
  | transactCommit => exact ⟨_, rfl, .commitDue⟩
  | irqCoalesceTimeout => exact ⟨_, rfl, .irqDue⟩
  | linkReset => exact ⟨_, rfl, .linkReset⟩
  | hostCntClr => exact ⟨_, rfl, .hostW⟩
  | memCntClr => exact ⟨_, rfl, .hostW⟩
  | iommuInvDone => exact ⟨_, rfl, .iommuInvDone⟩
  | iommuCntClr => exact ⟨_, rfl, .hostW⟩
  | actInHigh => exact ⟨_, rfl, .actHigh⟩
  | actInLow => exact ⟨_, rfl, .actLow⟩
  | initialClaimStart => exact ⟨_, rfl, .initialClaim⟩
  | claimGuardEnd => exact ⟨_, rfl, .guardEnd⟩
  | claimVetoEnd => exact ⟨_, rfl, fun h => .vetoEnd (.pass h)⟩
  | claimConfirm => exact ⟨_, rfl, .claimConfirm⟩
  | heartbeatExpiry => exact ⟨_, rfl, .heartbeat⟩
  | returnHoldoffExpiry => exact ⟨_, rfl, .returnReq⟩
  | returnTimeout => exact ⟨_, rfl, .returnTimeout⟩
  | handover => exact ⟨_, rfl, .hostW⟩
  | finalSegmentSent => exact ⟨_, rfl, .finalSent⟩
  | finalCaptureApply => exact ⟨_, rfl, .finalApply⟩
  | finalCaptureTimeout => exact ⟨_, rfl, .finalTimeout⟩
  | leavingReclaim => exact ⟨_, rfl, .leavingReclaim⟩
  | pairCntClr => exact ⟨_, rfl, .hostW⟩
  | vddsafeUp => exact ⟨_, rfl, .vddUp⟩
  | vddsafeLoss => exact ⟨_, rfl, .vddLoss⟩
  | commit => exact ⟨_, rfl, .hostW⟩
  | islandReset => exact ⟨_, rfl, .hostW⟩
  | freset => exact ⟨_, rfl, .hostW⟩
  | safeCntClr => exact ⟨_, rfl, .hostW⟩
  | sapDelayExpiry => exact ⟨_, rfl, .sapExpiry⟩
  | watchdogExpiry => exact ⟨_, rfl, .wdTimeout⟩
  | vddsafeOutOfRange => exact ⟨_, rfl, .vddRange⟩
  | logicCycleStart => exact ⟨_, rfl, .cycleStart⟩
  | startCold => exact ⟨_, rfl, .hostW⟩
  | startWarm => exact ⟨_, rfl, .hostW⟩
  | logicStop => exact ⟨_, rfl, .hostW⟩
  | validate => exact ⟨_, rfl, .hostW⟩
  | validateDone => exact ⟨_, rfl, .validateDone⟩
  | exchange => exact ⟨_, rfl, .hostW⟩
  | logicCntClr => exact ⟨_, rfl, .hostW⟩
  | logicLd => exact ⟨_, rfl, fun h => .lInstr h (fun _ _ h1 => .lBitRd h1)⟩
  | logicLdn => exact ⟨_, rfl, fun h => .lInstr h (fun _ _ h1 => .lBitRd h1)⟩
  | logicAnd => exact ⟨_, rfl, fun h => .lInstr h (fun _ _ h1 => .lBitRd h1)⟩
  | logicAndn => exact ⟨_, rfl, fun h => .lInstr h (fun _ _ h1 => .lBitRd h1)⟩
  | logicOr => exact ⟨_, rfl, fun h => .lInstr h (fun _ _ h1 => .lBitRd h1)⟩
  | logicOrn => exact ⟨_, rfl, fun h => .lInstr h (fun _ _ h1 => .lBitRd h1)⟩
  | logicXor => exact ⟨_, rfl, fun h => .lInstr h (fun _ _ h1 => .lBitRd h1)⟩
  | logicSt => exact ⟨_, rfl, fun h => .lInstr h (fun _ _ h1 => .lBitWr h1)⟩
  | logicStn => exact ⟨_, rfl, fun h => .lInstr h (fun _ _ h1 => .lBitWr h1)⟩
  | logicSet => exact ⟨_, rfl, fun h => .lInstr h (fun _ _ h1 => .when h1 (fun _ h2 => .lBitWr h2))⟩
  | logicRst => exact ⟨_, rfl, fun h => .lInstr h (fun _ _ h1 => .when h1 (fun _ h2 => .lBitWr h2))⟩
  | logicNot => exact ⟨_, rfl, fun h => .lInstr h (fun _ _ h1 => .setLa h1)⟩
  | pusha => exact ⟨_, rfl, fun h => .lInstr h (fun _ _ h1 => .lPush h1)⟩
  | pusho => exact ⟨_, rfl, fun h => .lInstr h (fun _ _ h1 => .lPush h1)⟩
  | pop => exact ⟨_, rfl, fun h => .lInstr h (fun _ _ h1 => .lPop h1)⟩
  | logicRe => exact ⟨_, rfl, fun h => .lInstr h (fun _ _ h1 => .lEdge h1)⟩
  | logicFe => exact ⟨_, rfl, fun h => .lInstr h (fun _ _ h1 => .lEdge h1)⟩
  | ton => exact ⟨_, rfl, fun h => .lInstr h (fun _ _ h1 => .lTimer h1)⟩
  | tof => exact ⟨_, rfl, fun h => .lInstr h (fun _ _ h1 => .lTimer h1)⟩
  | tp => exact ⟨_, rfl, fun h => .lInstr h (fun _ _ h1 => .lTimer h1)⟩
  | ctu => exact ⟨_, rfl, fun h => .lInstr h (fun _ _ h1 => .lCounter h1)⟩
  | ctd => exact ⟨_, rfl, fun h => .lInstr h (fun _ _ h1 => .lCounter h1)⟩
  | crst => exact ⟨_, rfl, fun h => .lInstr h (fun _ _ h1 => .lCrst h1)⟩
  | ldw => exact ⟨_, rfl, fun h => .lInstr h (fun _ _ h1 => .lWordRd h1 (fun _ _ h2 => .setAcc h2))⟩
  | ldi => exact ⟨_, rfl, fun h => .lInstr h (fun _ _ h1 => .setAcc h1)⟩
  | ldih => exact ⟨_, rfl, fun h => .lInstr h (fun _ _ h1 => .setAcc h1)⟩
  | stw => exact ⟨_, rfl, fun h => .lInstr h (fun _ _ h1 => .lWordWr h1)⟩
  | stwc => exact ⟨_, rfl, fun h => .lInstr h (fun _ _ h1 => .when h1 (fun _ h2 => .lWordWr h2))⟩
  | logicAdd => exact ⟨_, rfl, fun h => .lInstr h (fun _ _ h1 => .lAcc h1)⟩
  | logicSub => exact ⟨_, rfl, fun h => .lInstr h (fun _ _ h1 => .lAcc h1)⟩
  | logicMul => exact ⟨_, rfl, fun h => .lInstr h (fun _ _ h1 => .lAcc h1)⟩
  | andw => exact ⟨_, rfl, fun h => .lInstr h (fun _ _ h1 => .lAcc h1)⟩
  | orw => exact ⟨_, rfl, fun h => .lInstr h (fun _ _ h1 => .lAcc h1)⟩
  | xorw => exact ⟨_, rfl, fun h => .lInstr h (fun _ _ h1 => .lAcc h1)⟩
  | addi => exact ⟨_, rfl, fun h => .lInstr h (fun _ _ h1 => .setAcc h1)⟩
  | logicShl => exact ⟨_, rfl, fun h => .lInstr h (fun _ _ h1 => .setAcc h1)⟩
  | logicShr => exact ⟨_, rfl, fun h => .lInstr h (fun _ _ h1 => .setAcc h1)⟩
  | logicSar => exact ⟨_, rfl, fun h => .lInstr h (fun _ _ h1 => .setAcc h1)⟩
  | ceq => exact ⟨_, rfl, fun h => .lInstr h (fun _ _ h1 => .lCmp h1)⟩
  | cgt => exact ⟨_, rfl, fun h => .lInstr h (fun _ _ h1 => .lCmp h1)⟩
  | clt => exact ⟨_, rfl, fun h => .lInstr h (fun _ _ h1 => .lCmp h1)⟩
  | logicBit => exact ⟨_, rfl, fun h => .lInstr h (fun _ _ h1 => .setLa h1)⟩
  | jmp => exact ⟨_, rfl, fun h => .lInstr h (fun _ _ h1 => .lJump h1)⟩
  | jt => exact ⟨_, rfl, fun h => .lInstr h (fun _ _ h1 => .lJump h1)⟩
  | jf => exact ⟨_, rfl, fun h => .lInstr h (fun _ _ h1 => .lJump h1)⟩
  | logicEnd => exact ⟨_, rfl, fun h => .lInstr h (fun _ _ h1 => .lEnd h1)⟩
  | rdr => exact ⟨_, rfl, fun h => .lInstr h (fun _ _ h1 => .lRdr h1)⟩
  | wrr => exact ⟨_, rfl, fun h => .lInstr h (fun _ _ h1 => .lWrrOp h1)⟩
  | subm => exact ⟨_, rfl, fun h => .lInstr h (fun _ _ h1 => .lSubm h1)⟩
  | logicNop => exact ⟨_, rfl, fun h => .lInstr h (fun _ _ h1 => h1)⟩
  | vspTick => exact ⟨_, rfl, fun h => .each h (fun _ _ h1 => .vspTick h1)⟩
  | triggerUnitFire => exact ⟨_, rfl, .fireDue⟩
  | triggerTimeout => exact ⟨_, rfl, fun h => .each h (fun _ _ h1 => .tuTimeout h1)⟩
  | vspCntClr => exact ⟨_, rfl, .hostW⟩
  | freeRunSample => exact ⟨_, rfl, fun h => .each h (fun _ _ h1 => .freeSample h1)⟩
  | calInterrupt => exact ⟨_, rfl, fun h => .each h (fun _ _ h1 => .calInterrupt h1)⟩
  | adcCntClr => exact ⟨_, rfl, .hostW⟩
  | refSettled => exact ⟨_, rfl, .refSettled⟩
  | slewDone => exact ⟨_, rfl, .slewEnd⟩
  | stepGo => exact ⟨_, rfl, .hostW⟩
  | holdover => exact ⟨_, rfl, .holdoverNext⟩
  | ppsOutPulse => exact ⟨_, rfl, .ppsNext⟩
  | ethPpsinSecRead => exact ⟨_, rfl, .hostR⟩
  | ethCntClr => exact ⟨_, rfl, .hostW⟩
  | noAckAlone => exact ⟨_, rfl, fun h => .each h (fun _ _ h1 => .canAlone h1)⟩
  | take => exact ⟨_, rfl, .hostW⟩
  | canCorrLatch => exact ⟨_, rfl, .canLatch⟩
  | canCntClr => exact ⟨_, rfl, .hostW⟩
  | referenceOutOfTolerance => exact ⟨_, rfl, .refOut⟩

theorem exec_next_canonical {c : Instr} {s t : State} (h : s.Canonical) (hx : exec c s = .next t) :
    t.Canonical := by
  obtain ⟨u, hu, hc⟩ := exec_gate c s
  rw [hu, gate] at hx
  split at hx
  · cases hx
    exact hc h
  · cases hx

/-- Settles O9: the front command keeps the form, and so does the nanosecond of an empty queue. -/
theorem memoryStaysCanonical : Obligations.MemoryStaysCanonical := by
  intro s t h hs
  unfold step at hs
  split at hs
  · cases hs
    exact .tick h
  · exact exec_next_canonical (.upd h) hs

/-- Settles O10: no byte is listed. -/
theorem resetMemoryIsCanonical : Obligations.ResetMemoryIsCanonical := nil_wf

end Sys2Proof.Machine
end

section
/-! SUPPORT. What a completion of a ring leaves as it is, the queue under the passage of time, and the
error code of a word. Then what 12_memory_and_faults.md, 95_what_each_step_holds.md and
02_period_and_station_time.md have proved: StepRunsFrontCommand, EmptyQueueLetsTimePass,
WellFormedCommandsAnswer, StoredBytesReadBack, StoredWordReadsBackClean,
InjectedErrorsAreCorrectedOrDetected. -/

namespace Sys2Proof.Machine

open Sys2Proof

/-! ## What completions leave -/

/-- The state without its registers, what has been sent, and what the fault log, the translation, the
messages and the choice of free values keep beside the registers. -/
def State.unnoted (s : State) : State :=
  { s with regs := [], out := [], host := { s.host with pendingV := [] }, iommu := {}, memc := {}, free := 0 }

/-- A register outside those of HOST before the rings' and the log of MEM: what an event, a fault record
and an access to host memory write. -/
abbrev UnnotedReg (a : Nat) : Prop :=
  a < 0x20000 ∨ 0x21000 ≤ a ∧ a < 0xe0000 ∨ 0xe0100 ≤ a ∧ a < 0xe0400 ∨ 0xf0000 ≤ a

/-- From s to t nothing but that has changed. -/
structure State.Noted (s t : State) : Prop where
  unnoted : t.unnoted = s.unnoted
  regs : ∀ a, UnnotedReg a → ∀ d, sget t.regs d a = sget s.regs d a

/-- The state without all that, and without the rings. -/
def State.inward (s : State) : State := { s.unnoted with host := {} }

/-- A register outside HOST and the log of MEM. -/
abbrev OuterReg (a : Nat) : Prop :=
  a < 0x20000 ∨ 0x30000 ≤ a ∧ a < 0xe0000 ∨ 0xe0100 ≤ a ∧ a < 0xe0400 ∨ 0xf0000 ≤ a

/-- From s to t nothing but the rings, the registers of HOST and notes has changed: what the completion
of a descriptor changes. -/
structure State.Outward (s t : State) : Prop where
  inward : t.inward = s.inward
  regs : ∀ a, OuterReg a → ∀ d, sget t.regs d a = sget s.regs d a

namespace State

variable {s t u : State}

namespace Noted

theorem refl (s : State) : Noted s s := ⟨rfl, fun _ _ _ => rfl⟩

theorem trans (h : Noted s t) (k : Noted t u) : Noted s u :=
  ⟨k.unnoted.trans h.unnoted, fun a ha d => (k.regs a ha d).trans (h.regs a ha d)⟩

theorem same (h : Noted s t) (hu : u.unnoted = t.unnoted) (hr : u.regs = t.regs) : Noted s u :=
  h.trans ⟨hu, fun _ _ _ => by rw [hr]⟩

theorem set (h : Noted s t) {f : Fld} {v : Nat} (hf : ¬ UnnotedReg f.addr) : Noted s (t.set f v) :=
  h.trans ⟨rfl, fun _ ha d => sget_sput_ne t.regs _ d _ (fun he => hf (he ▸ ha))⟩

theorem when (h : Noted s t) {c : Bool} {f : State → State} (hf : Noted t (f t)) :
    Noted s (t.when c f) :=
  when_of t c f (Noted s) h (h.trans hf)

theorem ite {c : Prop} [Decidable c] (ht : Noted s t) (hu : Noted s u) :
    Noted s (if c then t else u) := by
  split
  · exact ht
  · exact hu

theorem rings (h : Noted s t) : t.host.rings = s.host.rings :=
  (congrArg (fun x => x.host.rings) h.unnoted : t.unnoted.host.rings = s.unnoted.host.rings)

theorem get (h : Noted s t) (f : Fld) (hf : UnnotedReg f.addr) : t.get f = s.get f := by
  rw [State.get, State.get, word, word, h.regs _ hf]

theorem outward (h : Noted s t) : Outward s t := by
  refine ⟨congrArg (fun x => ({ x with host := {} } : State)) h.unnoted, fun a ha => h.regs a ?_⟩
  unfold OuterReg at ha
  unfold UnnotedReg
  omega

end Noted

namespace Outward

theorem refl (s : State) : Outward s s := ⟨rfl, fun _ _ _ => rfl⟩

theorem trans (h : Outward s t) (k : Outward t u) : Outward s u :=
  ⟨k.inward.trans h.inward, fun a ha d => (k.regs a ha d).trans (h.regs a ha d)⟩

theorem same (h : Outward s t) (hu : u.inward = t.inward) (hr : u.regs = t.regs) : Outward s u :=
  h.trans ⟨hu, fun _ _ _ => by rw [hr]⟩

theorem set (h : Outward s t) {f : Fld} {v : Nat} (hf : ¬ OuterReg f.addr) : Outward s (t.set f v) :=
  h.trans ⟨rfl, fun _ ha d => sget_sput_ne t.regs _ d _ (fun he => hf (he ▸ ha))⟩

theorem when (h : Outward s t) {c : Bool} {f : State → State} (hf : Outward t (f t)) :
    Outward s (t.when c f) :=
  when_of t c f (Outward s) h (h.trans hf)

theorem ite {c : Prop} [Decidable c] (ht : Outward s t) (hu : Outward s u) :
    Outward s (if c then t else u) := by
  split
  · exact ht
  · exact hu

theorem mem (h : Outward s t) : t.mem = s.mem :=
  (congrArg State.mem h.inward : t.inward.mem = s.inward.mem)

theorem synd (h : Outward s t) : t.synd = s.synd :=
  (congrArg State.synd h.inward : t.inward.synd = s.inward.synd)

theorem time (h : Outward s t) : t.time = s.time :=
  (congrArg State.time h.inward : t.inward.time = s.inward.time)

theorem pending (h : Outward s t) : t.pending = s.pending :=
  (congrArg State.pending h.inward : t.inward.pending = s.inward.pending)

theorem get (h : Outward s t) (f : Fld) (hf : OuterReg f.addr) : t.get f = s.get f := by
  rw [State.get, State.get, word, word, h.regs _ hf]

end Outward

/-- The registers of HOST of the 32 rings are not outside. -/
theorem inner_ring {base r : Nat} (h : 0x20000 ≤ base ∧ base < 0x22000) (hr : r < 32) :
    ¬ OuterReg (base + 0x40 * r) := by
  intro hout
  unfold OuterReg at hout
  omega

/-! ### Messages, events, fault records -/

theorem msi_noted (s : State) (v : Nat) : Noted s (s.msi v) :=
  .ite (.same (.refl s) rfl rfl) (.ite (.refl s) (.same (.refl s) rfl rfl))

theorem evt_noted (s : State) (e : Evt) : Noted s (s.evt e) := by
  have hset : Noted s (s.set R.HOST_EVT_CAUSE (setBit (s.word R.HOST_EVT_CAUSE) e.bit true)) :=
    .set (.refl s) (by decide)
  exact .ite (hset.trans (msi_noted _ _)) hset

theorem memc_noted (s : State) (m : MemS) : Noted s { s with memc := m } :=
  .same (.refl s) rfl rfl

theorem faultRec_noted (s : State) (kind cls req detail addr aux : Nat) :
    Noted s (s.faultRec kind cls req detail addr aux) := by
  have hlog (k : Nat) (hk : k < 4) : ¬ UnnotedReg (R.MEM_FLOG (s.get F.MEM_FLOG_IDX_WR) k).addr := by
    have hwr : s.get F.MEM_FLOG_IDX_WR < 16 := s.get_lt F.MEM_FLOG_IDX_WR
    simp only [UnnotedReg, R.MEM_FLOG]
    omega
  unfold faultRec
  extract_lets e s1 s2 s3 s4 s5 s6 s7
  have h1 : Noted s s1 := .when (.refl s) (.set (.refl s) (by decide))
  have h3 : Noted s s3 := .set (.set h1 (hlog 0 (by decide))) (hlog 1 (by decide))
  have h5 : Noted s s5 := .set (.set h3 (hlog 2 (by decide))) (hlog 3 (by decide))
  have h6 : Noted s s6 := .set (.set h5 (by decide)) (by decide)
  clear_value s6
  refine .trans ?_ (evt_noted _ _)
  exact h6.trans (memc_noted _ _)

theorem orFree_noted (s : State) (w : Nat) (o : Option Nat) : Noted s (s.orFree w o).2 := by
  cases o <;> exact .same (.refl s) rfl rfl

theorem faultLog_noted (s : State) (kind : Nat) (cls req detail addr aux : Option Nat) :
    Noted s (s.faultLog kind cls req detail addr aux) :=
  ((((orFree_noted s 3 cls).trans (orFree_noted _ 8 req)).trans
    (orFree_noted _ 8 detail)).trans (orFree_noted _ 32 addr)).trans
      ((orFree_noted _ 32 aux).trans (faultRec_noted _ _ _ _ _ _ _))

/-! ### Writes to host memory -/

theorem xfault_noted (s : State) (k : XFault) (write : Bool) (req iova : Nat) :
    Noted s (s.xfault k write req iova) := by
  unfold xfault
  refine .trans (.set (.ite (.refl s) ?_) (by decide)) (faultLog_noted _ _ _ _ _ _ _)
  refine .set (.set (.set ?_ (by decide)) (by decide)) (by decide)
  exact .set (.set (.set (.refl s) (by decide)) (by decide)) (by decide)

theorem walk_noted (s : State) (hm : HostMem) (x : Nat) : Noted s (s.walk hm x).2 := by
  have hmiss : Noted s (s.inc R.IOMMU_CNT_MISS) := .set (.refl s) (by decide)
  unfold walk
  extract_lets page s1 span dirAt de dir
  split
  · exact .refl s
  have hdir : Noted s dir.2 := by
    unfold dir
    split
    · exact hmiss
    · split
      · exact hmiss
      · split
        · exact hmiss
        · split
          · exact hmiss
          · exact hmiss.same rfl rfl
  clear_value dir
  obtain ⟨_ | de', s2⟩ := dir
  · exact hdir
  · dsimp only
    split
    · exact hdir
    · split
      · exact hdir
      · split
        · exact hdir
        · exact hdir.same rfl rfl

theorem xlate_noted (s : State) (hm : HostMem) (write : Bool) (req x : Nat) :
    Noted s (s.xlate hm write req x).2 := by
  have hwalk := walk_noted s hm x
  unfold xlate
  split
  · exact .refl s
  split
  · exact xfault_noted _ _ _ _ _
  split
  next hw =>
    rw [hw] at hwalk
    exact hwalk.trans (xfault_noted _ _ _ _ _)
  next hw =>
    rw [hw] at hwalk
    split
    · exact hwalk
    · exact hwalk.trans (xfault_noted _ _ _ _ _)

theorem hostWr_noted (fuel : Nat) (s : State) (hm : HostMem) (req x : Nat) (d : Bytes) :
    Noted s (s.hostWr hm req fuel x d).2.2 := by
  induction fuel generalizing s x d with
  | zero => exact .refl s
  | succ fuel ih =>
    unfold hostWr
    split
    · exact .refl s
    extract_lets n
    have hx := xlate_noted s hm true req x
    split
    next hf => rwa [hf] at hx
    next b s1 hf =>
      rw [hf] at hx
      exact .trans (t := s1.emit (.host b (d.take n))) (hx.same rfl rfl) (ih _ _ _)

/-! ### Completions of ring descriptors -/

theorem setRing_outward (s : State) (r : Nat) (x : RingS) : Outward s (s.setRing r x) :=
  .same (.refl s) rfl rfl

theorem ringIrq_outward (s : State) (r : Nat) : Outward s (s.ringIrq r) :=
  .ite (msi_noted _ _).outward (.ite (.trans (setRing_outward _ _ _) (msi_noted _ _).outward)
    (setRing_outward _ _ _))

theorem ringCounts_outward (s : State) {r : Nat} (hr : r < 32) : Outward s (s.ringCounts r) :=
  .set (.set (.refl s) (inner_ring (by decide) hr)) (inner_ring (by decide) hr)

theorem cplWrite_outward (s : State) {r : Nat} (c : Cpl) (hr : r < 32) :
    Outward s (s.cplWrite r c) := by
  unfold cplWrite
  extract_lets area
  have hwr := hostWr_noted 2 s s.iommu.view (ringReq r) (s.slotAt r c.idx + 48) area
  rcases hf : s.hostWr s.iommu.view (ringReq r) 2 (s.slotAt r c.idx + 48) area with ⟨n, ok, s1⟩
  rw [hf] at hwr
  dsimp only
  have hdone (x : RingS) (ci : Nat) :
      Outward s ((((s1.setRing r x).set (R.HOST_RING_CI r) ci).ringCounts r).when c.irq
        (·.ringIrq r)) := by
    have hset := (hwr.outward.trans (setRing_outward s1 r x)).set (f := R.HOST_RING_CI r) (v := ci)
      (inner_ring (by decide) hr)
    exact .when (hset.trans (ringCounts_outward _ hr)) (ringIrq_outward _ _)
  refine .ite ?_ (hdone _ _)
  exact .set (.set (hdone _ _) (inner_ring (by decide) hr)) (inner_ring (by decide) hr)

theorem cplRelease_outward (fuel : Nat) (s : State) {r : Nat} (hr : r < 32) :
    Outward s (s.cplRelease r fuel) := by
  induction fuel generalizing s with
  | zero => exact .refl s
  | succ fuel ih =>
    unfold cplRelease
    split
    · exact .refl s
    · exact .trans (.trans (setRing_outward _ _ _) (cplWrite_outward _ _ hr)) (ih _)

theorem cpl_outward (s : State) (r : Nat) (c : Cpl) : Outward s (s.cpl r c) := by
  unfold cpl
  split
  · exact setRing_outward _ _ _
  next hr =>
    have hr : r < 32 := Nat.lt_of_not_le hr
    exact .ite (setRing_outward _ _ _) ((cplWrite_outward s c hr).trans (cplRelease_outward _ _ hr))

theorem complete_outward (s : State) (r idx status result flags : Nat) :
    Outward s (s.complete r idx status result flags) := by
  unfold complete
  split
  · exact .refl s
  · exact cpl_outward s r _

theorem setTxns_outward (s : State) (l : List Txn) : Outward s (s.setTxns l) :=
  .set (t := { s with host := { s.host with txns := l } }) (f := F.HOST_CTX_STAT_PENDING)
    (.same (.refl s) rfl rfl) (by decide)

theorem txnEnd_outward (s : State) (x : Txn) (status result : Nat) :
    Outward s (s.txnEnd x status result) :=
  (setTxns_outward s _).trans (complete_outward _ _ _ _ _ _)

/-- The end of a cycle completes the DEBLOCK that it held, which moves neither time nor the queue. -/
theorem dbDone_time (s : State) : s.dbDone.time = s.time ∧ s.dbDone.pending = s.pending := by
  unfold dbDone
  split
  next d _ =>
    have h := txnEnd_outward { s with trip := { s.trip with db := none } }
      ((s.txn? d.txn.ring d.txn.idx).getD d.txn) 0 0
    exact ⟨h.time, h.pending⟩
  · exact ⟨rfl, rfl⟩

/-! ### The passage of time -/

theorem foldl_pending {α : Type} {f : State → α → State} (hf : ∀ t x, (f t x).pending = t.pending)
    (l : List α) (s : State) : (l.foldl f s).pending = s.pending := by
  induction l generalizing s with
  | nil => rfl
  | cons x l ih => exact (ih _).trans (hf s x)

theorem slewPass_pending (s : State) (n : Nat) : (s.slewPass n).pending = s.pending := by
  unfold slewPass
  split <;> rfl

theorem trimsRun_pending (s : State) (n : Nat) : (s.trimsRun n).pending = s.pending := by
  refine foldl_pending (fun t p => ?_) _ _
  have hput (x : TrimS) : (t.setTrim p.1 x).pending = t.pending := rfl
  dsimp only
  split
  · split
    · rfl
    · split
      · rw [flag, set_pending, hput]
      · exact hput _
  · rfl

theorem coreTime_pending (s : State) (n : Nat) : (s.coreTime n).pending = s.pending := by
  unfold coreTime
  split
  · rfl
  · refine foldl_pending (fun t c => ?_) _ _
    extract_lets x
    split
    · rfl
    · simp only [quotaUpd, set_pending]
      rfl

theorem pass_pending (s : State) (n : Nat) : (s.pass n).pending = s.pending := by
  by_cases hn : n = 0
  · rw [hn]
    rfl
  · rw [pass_eq hn]
    exact ((coreTime_pending _ n).trans ((trimsRun_pending _ n).trans
      (slewPass_pending _ n))).trans (dbDone_time s).2

theorem pass_now {n : Nat} (s : State) (hn : n ≠ 0) (h : s.now + n < 2 ^ 64 * Config.nsPerSec) :
    (s.pass n).now = s.now + n := by
  have hdb : s.dbDone.time = s.time := (dbDone_time s).1
  obtain ⟨T, hrun, hlater⟩ := clocksRun_still s.dbDone n
  rw [pass_eq hn, now_eq, hrun.time]
  exact (hlater.stamp (hdb ▸ h)).trans (congrArg (·.stamp + n) hdb)

end State

/-- Settles O1. -/
theorem stepRunsFrontCommand : Obligations.StepRunsFrontCommand := by
  intro s c rest h
  rw [step, h]

/-- Settles O2: one nanosecond of the time that is left passes. -/
theorem emptyQueueLetsTimePass : Obligations.EmptyQueueLetsTimePass := by
  intro s hq hs hroom hlt
  have htick : s.tick = s.pass 1 := by
    rw [State.tick, if_neg (by rw [hs]; exact Bool.false_ne_true), State.advTo, Nat.add_sub_cancel_left, hroom]
  refine ⟨s.tick, by rw [step, hq], ?_, ?_⟩
  · rw [htick, s.pass_now Nat.one_ne_zero hlt]
  · rw [htick, s.pass_pending, hq]

/-- Settles O3: every command passes the gate of its operands. -/
theorem wellFormedCommandsAnswer : Obligations.WellFormedCommandsAnswer := by
  intro c s
  obtain ⟨t, ht, -⟩ := exec_gate c s
  rw [ht, gate]
  exact ⟨fun hw => ⟨t, if_pos hw⟩, fun hw => if_neg (by rw [hw]; exact Bool.false_ne_true)⟩

/-! ## The error code of a word -/

/-- The check bits of a word are exclusive-or sums: those of two words together are the sum of
theirs (R362). -/
theorem eccCheck_xor (x y : Nat) : eccCheck (x ^^^ y) = eccCheck x ^^^ eccCheck y := by
  have hfold (l : List Nat) (c d : Nat) :
      l.foldl (fun c i => if (x ^^^ y).testBit i then c ^^^ nth eccCols 0 i else c) (c ^^^ d) =
        l.foldl (fun c i => if x.testBit i then c ^^^ nth eccCols 0 i else c) c ^^^
          l.foldl (fun c i => if y.testBit i then c ^^^ nth eccCols 0 i else c) d := by
    induction l generalizing c d with
    | nil => rfl
    | cons i l ih =>
      have hstep : (if (x ^^^ y).testBit i then c ^^^ d ^^^ nth eccCols 0 i else c ^^^ d) =
          (if x.testBit i then c ^^^ nth eccCols 0 i else c) ^^^
            (if y.testBit i then d ^^^ nth eccCols 0 i else d) := by
        generalize nth eccCols 0 i = k
        rw [Nat.testBit_xor]
        cases x.testBit i <;> cases y.testBit i
        · rfl
        · exact Nat.xor_assoc c d k
        · exact Nat.xor_right_comm c d k
        · show c ^^^ d = (c ^^^ k) ^^^ (d ^^^ k)
          rw [Nat.xor_right_comm c k (d ^^^ k), ← Nat.xor_assoc, Nat.xor_assoc (c ^^^ d),
            Nat.xor_self, Nat.xor_zero]
      rw [List.foldl_cons, List.foldl_cons, List.foldl_cons, hstep]
      exact ih _ _
  exact hfold (List.range 32) 0 0

/-- The syndrome of a word of which some bits have flipped is that of these bits. -/
theorem eccCheck_flip (x e : Nat) : eccCheck x ^^^ eccCheck (x ^^^ e) = eccCheck e := by
  rw [eccCheck_xor, ← Nat.xor_assoc, Nat.xor_self, Nat.zero_xor]

/-- The syndrome of one flipped bit names that bit. -/
theorem synOf_bit : ∀ i, i < 32 → synOf (eccCheck (2 ^ i)) = .data i := by decide

/-- The columns of the code have three bits each, two of them together an even number: such a
syndrome is no column and no check bit. -/
theorem synOf_two_cols : ∀ i, i < 32 → ∀ j, j < 32 → i ≠ j →
    synOf (nth eccCols 0 i ^^^ nth eccCols 0 j) = .uncorrectable := by decide

theorem eccCheck_bit : ∀ i, i < 32 → eccCheck (2 ^ i) = nth eccCols 0 i := by decide

theorem synOf_two_bits {i j : Nat} (hi : i < 32) (hj : j < 32) (h : i ≠ j) :
    synOf (eccCheck (2 ^ i ^^^ 2 ^ j)) = .uncorrectable := by
  rw [eccCheck_xor, eccCheck_bit i hi, eccCheck_bit j hj]
  exact synOf_two_cols i hi j hj h

namespace State

/-! ### Stores -/

/-- A store with nothing armed leaves the code of its word clean (R362). -/
theorem wr32_clean {s : State} {a v : Nat} (h : s.get F.MEM_INJ_MODE = 0) :
    sget (s.wr32 a v).synd 0 (a / 4) = 0 := by
  obtain ⟨hregs, -⟩ := mark_frame s a
  have hmode (m y) : ({ s.mark a with mem := m, synd := y } : State).get F.MEM_INJ_MODE = 0 :=
    (get_congr_regs F.MEM_INJ_MODE hregs).trans h
  simp only [wr32, hmode]
  exact sget_sput_same (α := Nat) _ 0 _ 0

/-- The bits that an armed injection flips (R364). -/
def injected (s : State) : Nat :=
  if s.get F.MEM_INJ_MODE = 1 then 2 ^ s.get F.MEM_INJ_BIT_A
  else 2 ^ s.get F.MEM_INJ_BIT_A ^^^ 2 ^ s.get F.MEM_INJ_BIT_B

/-- What an armed store does: the word goes in with bits flipped, beside the code of the word as it
was meant, and the injection is disarmed (R364). -/
structure Injected (s : State) (a v e : Nat) (t : State) : Prop where
  word : t.rd32 a = v % 2 ^ 32 ^^^ e
  code : sget t.synd 0 (a / 4) = eccCheck e
  disarmed : t.get F.MEM_INJ_MODE = 0

theorem injBit_lt (s : State) : s.get F.MEM_INJ_BIT_A < 32 ∧ s.get F.MEM_INJ_BIT_B < 32 :=
  ⟨Nat.mod_lt _ (by decide), Nat.mod_lt _ (by decide)⟩

theorem injected_lt (s : State) : s.injected < 2 ^ 32 := by
  have hbit {i : Nat} (h : i < 32) : 2 ^ i < 2 ^ 32 := Nat.pow_lt_pow_right (by decide) h
  obtain ⟨ha, hb⟩ := injBit_lt s
  unfold injected
  split
  · exact hbit ha
  · exact Nat.xor_lt_two_pow (hbit ha) (hbit hb)

theorem wr32_injected (s : State) (a v : Nat)
    (hm : s.get F.MEM_INJ_MODE = 1 ∨ s.get F.MEM_INJ_MODE = 2)
    (hc : memClass a = some (s.get F.MEM_INJ_CLASS)) : Injected s a v s.injected (s.wr32 a v) := by
  obtain ⟨hregs, hmem⟩ := mark_frame s a
  have hget (f : Fld) (m y) : ({ s.mark a with mem := m, synd := y } : State).get f = s.get f :=
    get_congr_regs f hregs
  have harm : (decide (s.get F.MEM_INJ_MODE ≠ 0) && decide (s.get F.MEM_INJ_MODE ≠ 3) &&
      decide (memClass a = some (s.get F.MEM_INJ_CLASS))) = true := by
    rw [decide_eq_true hc, Bool.and_true]
    rcases hm with hm | hm <;> rw [hm] <;> rfl
  have hlt : v % 2 ^ 32 ^^^ s.injected < 2 ^ 32 :=
    Nat.xor_lt_two_pow (Nat.mod_lt _ (by decide)) s.injected_lt
  simp only [wr32, hget, harm, if_true]
  refine ⟨?_, ?_, get_set _ _ _ (by decide)⟩
  · exact (rd32_of_mem _ _ a _ rfl).trans (Nat.mod_eq_of_lt hlt)
  · rw [set_synd, sget_sput_same]
    exact eccCheck_flip _ _

/-! ### Reads through the code -/

/-- A corrected error counts in its class; what follows is kept beside the registers or logged. -/
theorem ceCount_outward (s : State) (cls : Nat) : Outward (s.inc (F.MEM_CE_COUNT cls)) (s.ceCount cls) := by
  unfold ceCount
  extract_lets u n m w lim m' x
  have hu : Outward (s.inc (F.MEM_CE_COUNT cls)) u := .refl _
  clear_value u
  have hw : Outward (s.inc (F.MEM_CE_COUNT cls)) w := hu.same rfl rfl
  clear_value w
  have hx : Outward w x := .same (.refl w) rfl rfl
  clear_value x
  refine .ite ?_ hw
  exact .trans (.set (hw.trans hx) (by decide)) (faultLog_noted _ _ _ _ _ _ _).outward

/-- A word with one bad bit is corrected and scrubbed (R363). -/
theorem eccRd_data {s : State} {a req i : Nat} (h : synOf (sget s.synd 0 (a / 4)) = .data i) :
    (s.eccRd a req).1 = s.rd32 a ^^^ 2 ^ i ∧ (s.eccRd a req).2.1 = false ∧
      (s.eccRd a req).2.2.rd32 a = (s.rd32 a ^^^ 2 ^ i) % 2 ^ 32 ∧
      sget (s.eccRd a req).2.2.synd 0 (a / 4) = 0 := by
  simp only [eccRd, h]
  have hce := ceCount_outward { s with
    mem := memPuts s.mem a (toLE 4 (s.rd32 a ^^^ 2 ^ i)), synd := sput s.synd 0 (a / 4) 0 } (memCls a)
  refine ⟨trivial, trivial, rd32_of_mem _ s.mem a _ hce.mem, ?_⟩
  rw [hce.synd]
  exact sget_sput_same (α := Nat) _ 0 _ 0

theorem faultAddr_outward (s : State) (a : Nat) : Outward s (s.faultAddr a).2 := by
  unfold faultAddr
  split
  · exact .refl s
  · exact .same (.refl s) rfl rfl

/-- A word that cannot be corrected is bad, and poisoned from then on (R363). -/
theorem eccRd_uncorrectable {s : State} {a req : Nat}
    (h : synOf (sget s.synd 0 (a / 4)) = .uncorrectable) :
    (s.eccRd a req).2.1 = true ∧
      synOf (sget (s.eccRd a req).2.2.synd 0 (a / 4)) = .poisoned := by
  simp only [eccRd, h]
  refine ⟨trivial, ?_⟩
  rw [(faultLog_noted _ _ _ _ _ _ _).outward.synd, inc, set_synd]
  refine (congrArg (fun y => synOf (sget y 0 (a / 4))) (faultAddr_outward _ a).synd).trans ?_
  have hpoisoned : synOf (sget (sput s.synd 0 (a / 4) 0x7F) 0 (a / 4)) = .poisoned := by
    rw [sget_sput_same]
    rfl
  cases decide (memCls a = 2)
  · exact hpoisoned
  · exact hpoisoned

end State

/-- Settles O6, by the facts about a stored byte string. -/
theorem storedBytesReadBack : Obligations.StoredBytesReadBack := fun m a b =>
  ⟨fun i hi => memGet_memPuts_in b m a i hi, fun c hc => memGet_memPuts_out b m a c hc,
    memPuts_wf b m a⟩

/-- Settles O7: the syndrome of a word just stored is 0. -/
theorem storedWordReadsBackClean : Obligations.StoredWordReadsBackClean := by
  intro s a v req h
  have hword : (s.wr32 a v).rd32 a = v % 2 ^ 32 := State.rd32_of_mem _ _ a v (State.wr32_frame s a v h).2
  simp only [State.eccRd, State.wr32_clean h, hword]
  rfl

/-- Settles O8: the syndrome of the stored word is the check bits of what has been flipped. -/
theorem injectedErrorsAreCorrectedOrDetected : Obligations.InjectedErrorsAreCorrectedOrDetected := by
  refine ⟨fun s a v req hm hc => ?_, fun s a v req hm hc hij => ?_⟩
  · have hinj : s.injected = 2 ^ s.get F.MEM_INJ_BIT_A := if_pos hm
    obtain ⟨hword, hcode, hoff⟩ := State.wr32_injected s a v (.inl hm) hc
    rw [hinj] at hword hcode
    have hsyn := synOf_bit _ (State.injBit_lt s).1
    rw [← hcode] at hsyn
    obtain ⟨hdata, hgood, hmend, hclean⟩ := State.eccRd_data (req := req) hsyn
    rw [hword, Nat.xor_assoc, Nat.xor_self, Nat.xor_zero] at hdata hmend
    exact ⟨hword, hoff, hdata, hgood, hmend.trans (Nat.mod_mod _ _), hclean⟩
  · have hinj : s.injected = 2 ^ s.get F.MEM_INJ_BIT_A ^^^ 2 ^ s.get F.MEM_INJ_BIT_B :=
      if_neg (by rw [hm]; decide)
    obtain ⟨-, hcode, -⟩ := State.wr32_injected s a v (.inr hm) hc
    rw [hinj] at hcode
    refine State.eccRd_uncorrectable ?_
    rw [hcode]
    exact synOf_two_bits (State.injBit_lt s).1 (State.injBit_lt s).2 hij

end Sys2Proof.Machine
end

section
/-! SUPPORT. Commands that the part takes, whole registers and their bits, and the CTRL register of a
converter. Then what 17_analogue_inputs.md has proved: StartsThatTheConverterIgnores. -/

namespace Sys2Proof.Machine

open Sys2Proof

/-! ## Commands that the part takes, whole registers -/

/-- A command whose operands pass its gate answers the state that it makes. -/
theorem State.gives_of {s t : State} {i : Instr} {c : Bool} {P : State → Prop}
    (hexec : exec i s = gate c t) (hc : c = true) (h : P t) : s.Gives i P :=
  ⟨t, hexec.trans (if_pos hc), h⟩

theorem setBits_bits (x lo w : Nat) : setBits x lo w (bits x lo w) = x := by
  refine Nat.eq_of_testBit_eq fun i => ?_
  rw [testBit_setBits]
  split
  next h => rw [testBit_bits, decide_eq_true (by omega : i - lo < w), Bool.true_and,
    Nat.add_sub_cancel' h.1]
  · rfl

/-- A one-bit field written with 1 is a bit set. -/
theorem setBits_one (x lo : Nat) : setBits x lo 1 1 = x ||| 2 ^ lo := by
  refine Nat.eq_of_testBit_eq fun i => ?_
  rw [testBit_setBits, Nat.testBit_or, Nat.testBit_two_pow]
  by_cases h : lo = i
  · subst h
    rw [if_pos ⟨Nat.le_refl _, Nat.lt_succ_self _⟩, Nat.sub_self, decide_eq_true rfl, Bool.or_true]
    rfl
  · rw [if_neg (by omega), decide_eq_false h, Bool.or_false]

theorem bits_one (x lo : Nat) : bits x lo 1 = b2n (x.testBit lo) := by
  rw [bits, Nat.shiftRight_eq_div_pow, Nat.pow_one, ← Nat.toNat_testBit]
  cases x.testBit lo <;> rfl

theorem or_or_self_right (x y : Nat) : x ||| y ||| y = x ||| y := by
  rw [Nat.or_assoc, Nat.or_self]

namespace State

variable {s t : State}

/-- A handle on a whole register reads its word. -/
theorem get_whole (s : State) {f : Fld} (hlo : f.lo = 0) (hw : f.w = 32) : s.get f = s.word f := by
  rw [get, bits, hlo, hw, Nat.shiftRight_zero]
  exact Nat.mod_eq_of_lt (BitVec.isLt _)

/-- A register in which a field has been written. -/
theorem get_whole_set (s : State) {r f : Fld} (v : Nat) (hlo : r.lo = 0) (hw : r.w = 32)
    (ha : f.addr = r.addr) (hr : f.rst = r.rst) (hfit : f.lo + f.w ≤ 32) :
    (s.set f v).get r = setBits (s.get r) f.lo f.w v := by
  rw [get_whole _ hlo hw, get_whole _ hlo hw, ← word_congr _ ha hr, ← word_congr _ ha hr,
    word_set s f v hfit]

/-- A register of which a flag has been set. -/
theorem get_whole_flag (s : State) {r f : Fld} (hlo : r.lo = 0) (hw : r.w = 32)
    (ha : f.addr = r.addr) (hr : f.rst = r.rst) (hw1 : f.w = 1) (hl : f.lo < 32) :
    (s.flag f).get r = s.get r ||| 2 ^ f.lo := by
  rw [flag, get_whole_set s 1 hlo hw ha hr (by omega), hw1, setBits_one]

/-- A flag reads the same where its register does. -/
theorem on_of_whole {r f : Fld} (hlo : r.lo = 0) (hw : r.w = 32) (ha : f.addr = r.addr)
    (hr : f.rst = r.rst) (hw1 : f.w = 1) (h : t.get r = s.get r) : t.on f = s.on f := by
  rw [← bit_word _ hw1, ← bit_word _ hw1, word_congr _ ha hr, word_congr _ ha hr,
    ← get_whole t hlo hw, ← get_whole s hlo hw, h]

theorem on_flag (s : State) {f : Fld} (hw : f.w = 1) (hl : f.lo < 32) : (s.flag f).on f = true := by
  rw [on, flag, get_set s f 1 (by omega), hw]
  rfl

/-! ## The CTRL register of a converter -/

section
variable {c : Nat}

/-- What a write of CTRL does with RUN (R492). -/
def ctrlRun (s : State) (c data : Nat) : State := s.adcRun c (bit data 1)

theorem wrConv_ctrl {w : BusWr} (hw : w.a = 0xA0104 + 0x40 * c) :
    s.wrConv c w = (s.when (bit w.mask 1) (·.ctrlRun c w.data)).when (bit w.cmd 0) (·.adcStart c) := by
  have hofs : (w.a - 0xA0100) % 0x40 = 4 := by omega
  unfold wrConv
  split
  next h => omega
  · rfl
  next h => exact absurd hofs h

theorem busW_adcCtrl (s : State) (hc : c < 8) {data : Nat} (hd : data < 2 ^ 32) :
    s.busW (wholeWrite (R.ADC_CTRL c).addr data) =
      (s.ctrlRun c data).when (bit data 0) (·.adcStart c) := by
  have ha : (R.ADC_CTRL c).addr = 0xA0104 + 0x40 * c := rfl
  have hstep : R.ETH_STEP_CMD.addr < 0xA0000 ∨ 0xB0000 ≤ R.ETH_STEP_CMD.addr := by decide
  have hcmd : R.ADC_CMD.addr < 0xA0100 ∧ R.ADC_REF.addr < 0xA0100 := by decide
  have hmask : bit (wholeWrite (R.ADC_CTRL c).addr data).mask 1 = true := by
    show Nat.testBit 0xFFFFFFFF 1 = true
    decide
  have hconv : s.wrAdc (wholeWrite (R.ADC_CTRL c).addr data) =
      s.wrConv c (wholeWrite (R.ADC_CTRL c).addr data) := by
    have hc' : ((R.ADC_CTRL c).addr - 0xA0100) / 0x40 = c := by omega
    have hin : (decide (0xA0100 ≤ (R.ADC_CTRL c).addr) && decide ((R.ADC_CTRL c).addr < 0xA0300)) =
        true := by
      rw [Bool.and_eq_true, decide_eq_true_eq, decide_eq_true_eq]
      omega
    rw [wrAdc, wholeWrite_a, if_neg (by omega), if_neg (by omega), if_pos hin, hc']
  rw [busW_eq_busW1 _ _ (by rw [wholeWrite_a]; omega), busW1_adc _ _ (by omega), hconv,
    wrConv_ctrl rfl, wholeWrite_cmd _ hd, wholeWrite_data, hmask, when_true]

/-- A START is ignored where its converter runs, is one of a pair, or calibrates (R492). -/
def StartIgnored (s : State) (c : Nat) : Prop :=
  s.on (F.ADC_CTRL_RUN c) = true ∨ s.ilv c = true ∨ s.on (F.ADC_STAT_CAL_BUSY c) = true

theorem adcStart_ignored (hs : s.Awake)
    (h : s.StartIgnored c) : s.adcStart c = s.flag (F.ADC_STAT_START_IGN c) := by
  rw [adcStart, if_neg (by rw [hs]; exact Bool.false_ne_true), if_pos]
  rcases h with h | h | h <;> simp [h]

theorem StartIgnored.congr (h : s.StartIgnored c)
    (hctrl : t.get (R.ADC_CTRL c) = s.get (R.ADC_CTRL c))
    (hcfg : ∀ k, t.get (F.ADC_CFG_ILV k) = s.get (F.ADC_CFG_ILV k))
    (hcal : t.get (F.ADC_STAT_CAL_BUSY c) = s.get (F.ADC_STAT_CAL_BUSY c)) : t.StartIgnored c := by
  have hrun : t.on (F.ADC_CTRL_RUN c) = s.on (F.ADC_CTRL_RUN c) :=
    on_of_whole (r := R.ADC_CTRL c) rfl rfl rfl rfl rfl hctrl
  have hilv : t.ilv c = s.ilv c := on_congr (hcfg _)
  rwa [StartIgnored, hrun, hilv, on_congr hcal]

/-- What START_IGN set leaves: the rest of STAT and every other register. -/
theorem startIgn_flag (s : State) (c : Nat) :
    (s.flag (F.ADC_STAT_START_IGN c)).on (F.ADC_STAT_START_IGN c) = true ∧
      (s.flag (F.ADC_STAT_START_IGN c)).get (R.ADC_STAT c) =
        s.get (R.ADC_STAT c) ||| 2 ^ (F.ADC_STAT_START_IGN c).lo ∧
      RegsOnly [(R.ADC_STAT c).addr] s (s.flag (F.ADC_STAT_START_IGN c)) :=
  ⟨on_flag s rfl (by decide : (8 : Nat) < 32),
    get_whole_flag s rfl rfl rfl rfl rfl (by decide : (8 : Nat) < 32), set_regsOnly s _ 1⟩

/-- A write of CTRL that leaves RUN as it reads: nothing but START_IGN can change. -/
theorem ctrlRun_same {data : Nat} (hrun : bit data 1 = s.on (F.ADC_CTRL_RUN c)) :
    (s.ctrlRun c data).get (R.ADC_CTRL c) = s.get (R.ADC_CTRL c) ∧
      ((s.ctrlRun c data).get (R.ADC_STAT c) = s.get (R.ADC_STAT c) ∨
        (s.ctrlRun c data).get (R.ADC_STAT c) =
          s.get (R.ADC_STAT c) ||| 2 ^ (F.ADC_STAT_START_IGN c).lo) ∧
      RegsOnly [(R.ADC_STAT c).addr, (R.ADC_CTRL c).addr] s (s.ctrlRun c data) ∧
      (s.StartIgnored c → (s.ctrlRun c data).StartIgnored c) := by
  have hne : (R.ADC_CTRL c).addr ≠ (R.ADC_STAT c).addr := by
    show 0xa0104 + 0x40 * c ≠ 0xa010c + 0x40 * c
    omega
  have hilv (f : Fld) (v : Nat) (hf : f.addr % 0x40 = 4 ∨ f.addr % 0x40 = 12) (k : Nat) :
      (s.set f v).get (F.ADC_CFG_ILV k) = s.get (F.ADC_CFG_ILV k) := by
    have ha : (F.ADC_CFG_ILV k).addr = 0xa0100 + 0x40 * k := rfl
    exact get_set_ne s _ _ v (by omega)
  unfold ctrlRun adcRun
  split
  · obtain ⟨-, hstat, -⟩ := startIgn_flag s c
    have hctrl : (s.flag (F.ADC_STAT_START_IGN c)).get (R.ADC_CTRL c) = s.get (R.ADC_CTRL c) :=
      get_set_ne s _ _ 1 hne
    refine ⟨hctrl, .inr hstat, .set (.refl _ s) 1 (List.mem_cons_self ..), fun h => ?_⟩
    refine h.congr hctrl (hilv _ _ (.inr ?_)) (get_set_apart s _ _ 1 (by decide : 8 + 1 ≤ 32) ?_)
    · show (0xa010c + 0x40 * c) % 0x40 = 12
      omega
    · exact ⟨rfl, rfl, .inr (by decide : 0 + 1 ≤ 8)⟩
  · have hval : b2n (bit data 1) = bits (s.get (R.ADC_CTRL c)) 1 1 := by
      have hbit : bit (s.word (R.ADC_CTRL c)) 1 = s.on (F.ADC_CTRL_RUN c) :=
        bit_word s (f := F.ADC_CTRL_RUN c) rfl
      rw [hrun, ← hbit, get_whole s rfl rfl, bits_one, bit]
    have hctrl : (s.set (F.ADC_CTRL_RUN c) (b2n (bit data 1))).get (R.ADC_CTRL c) =
        s.get (R.ADC_CTRL c) := by
      refine (get_whole_set s (r := R.ADC_CTRL c) (f := F.ADC_CTRL_RUN c) _ rfl rfl rfl rfl
        (by decide : (1 : Nat) + 1 ≤ 32)).trans ?_
      rw [hval]
      exact setBits_bits _ 1 1
    refine ⟨hctrl, .inl (get_set_ne s _ _ _ (Ne.symm hne)),
      .set (.refl _ s) _ (List.mem_cons_of_mem _ (List.mem_cons_self ..)), fun h => ?_⟩
    refine h.congr hctrl (hilv _ _ (.inl ?_)) (get_set_ne s _ _ _ (Ne.symm hne))
    show (0xa0104 + 0x40 * c) % 0x40 = 4
    omega

end

end State

/-- Settles O56: the write of CTRL that a START is leaves RUN as it reads, and START_IGN is set. -/
theorem startsThatTheConverterIgnores : Obligations.StartsThatTheConverterIgnores := by
  intro s c hc hs
  refine ⟨fun h => ?_, fun data hd hrun hstart hgroup => ?_⟩
  · have hd := State.fieldData_lt s (F.ADC_CTRL_START c) 1 (by decide : (1 : Nat) ≤ 32)
    have hrun : bit (setBits (s.word (F.ADC_CTRL_START c)) 0 1 1) 1 = s.on (F.ADC_CTRL_RUN c) := by
      rw [← s.bit_word (f := F.ADC_CTRL_RUN c) rfl, bit, testBit_setBits]
      rfl
    obtain ⟨hctrl, hstat, honly, hignored⟩ := State.ctrlRun_same hrun
    generalize hu : s.ctrlRun c (setBits (s.word (F.ADC_CTRL_START c)) 0 1 1) = u
      at hctrl hstat honly hignored
    have hwrite : s.hostF (F.ADC_CTRL_START c) 1 = u.flag (F.ADC_STAT_START_IGN c) := by
      have hbit : bit (setBits (s.word (F.ADC_CTRL_START c)) 0 1 1) 0 = true := by
        rw [bit, testBit_setBits]
        rfl
      have hsu : u.Awake := by
        obtain ⟨hrest, -⟩ := honly
        rw [hrest]
        exact hs
      rw [← State.adcStart_ignored hsu (hignored h), ← hu, State.hostF]
      refine (State.hostW_awake s hs (show (0xa0104 + 0x40 * c) % 4 = 0 by omega) hd).trans
        ((s.busW_adcCtrl hc hd).trans ?_)
      exact congrArg (fun b => State.when _ b _) hbit
    obtain ⟨hon, hflag, -⟩ := State.startIgn_flag u c
    refine State.gives_of (t := s.hostF (F.ADC_CTRL_START c) 1) rfl (decide_eq_true hc) ?_
    rw [hwrite]
    refine ⟨hon, hflag.trans ?_, ?_, honly.set 1 (List.mem_cons_self ..)⟩
    · rcases hstat with hstat | hstat <;> rw [hstat]
      exact or_or_self_right _ _
    · refine (State.get_set_ne u _ _ 1 ?_).trans (hctrl.trans ?_)
      · show 0xa0104 + 0x40 * c ≠ 0xa010c + 0x40 * c
        omega
      · rw [State.get_whole s rfl rfl]
        exact (setBits_bits _ 1 1).symm
  · have hin : s.ctrlRun c data = s.flag (F.ADC_STAT_START_IGN c) := by
      rw [State.ctrlRun, State.adcRun, hrun, hgroup]
      rfl
    obtain ⟨hon, hflag, hleft⟩ := State.startIgn_flag s c
    refine ⟨_, exec_registerWrite_awake s hs (show 0xa0104 + 0x40 * c < 0x4000000 by omega)
      (show (0xa0104 + 0x40 * c) % 4 = 0 by omega) hd, ?_⟩
    rw [s.busW_adcCtrl hc hd, hstart, State.when_false, hin]
    exact ⟨hon, hflag, hleft⟩

end Sys2Proof.Machine
end

section
/-! SUPPORT. The scrubbers of the error code, and the commands of the IOMMU. Then what
12_memory_and_faults.md has proved: MemoryScrubAndTranslation. -/

namespace Sys2Proof.Machine

open Sys2Proof

/-! ## The scrubbers (R363, R366) -/

theorem satInc_lt (w n : Nat) : satInc w n < 2 ^ w := by
  have hpos := Nat.two_pow_pos w
  unfold satInc
  split <;> omega

/-- The bit that the syndrome of a data bit names is one of the word's 32. -/
theorem synOf_data_lt {x i : Nat} (h : synOf x = .data i) : i < 32 := by
  unfold synOf at h
  split at h
  · cases h
  · split at h
    · cases h
    · split at h
      next j hj =>
        cases h
        exact List.mem_range.1 (List.mem_of_find?_eq_some hj)
      · split at h <;> cases h

/-- A map with no entry but one, which is written with its default, has no entry. -/
theorem sput_single_default {α : Type} [DecidableEq α] (d x : α) (k : Nat) :
    sput [(k, x)] d k d = [] := by
  rw [sput, if_pos rfl]
  simp [sdel]

namespace State

variable {s t : State} {m : Nat}

/-- Where the scrubber of class m stands. -/
def scrubRow (s : State) (m : Nat) : Nat := sget s.memc.row 0 m

/-- The row of class m that the scrubber reaches next: after the last one it is row 0. -/
def nextRow (s : State) (m : Nat) : Nat :=
  if bankBytes m / 16 ≤ s.scrubRow m + 1 then 0 else s.scrubRow m + 1

/-- The scrubber goes to its next row, and counts a pass where that is row 0. -/
def rowDone (s : State) (m row : Nat) : State :=
  ({ s with memc := { s.memc with row := sput s.memc.row 0 m (if bankBytes m / 16 ≤ row + 1 then 0
    else row + 1) } }).when (decide (bankBytes m / 16 ≤ row + 1)) (·.inc (F.MEM_PASS_COUNT m))

/-- The words with an error of the row in which the scrubber of class m stands. -/
def rowHits (s : State) (m : Nat) : List Nat :=
  (s.synd.map (fun p => 4 * p.1)).filter
    (fun a => memClass a = some m && rowOf m a = s.scrubRow m)

theorem exec_scrub (s : State) (hit : ScrubHit) (hok : okClass m = true) :
    exec (.scrubStep m hit) s = .next (s.scrubStep m hit) :=
  if_pos hok

theorem exec_scrubStep (hm : m < 5) (hs : s.Awake) (hon : s.on F.MEM_ECC_CTRL_SCRUB_EN = true) :
    exec (.scrubStep m .clean) s =
      .next (((s.rowHits m).foldl scrubWord s).rowDone m (s.scrubRow m)) := by
  rw [s.exec_scrub .clean (decide_eq_true (by omega)), scrubStep, hs, if_neg Bool.false_ne_true, if_neg (by omega), scrub, hon]
  rfl

theorem rowDone_fst (s : State) (m row : Nat) :
    (s.rowDone m row).mem = s.mem ∧ (s.rowDone m row).synd = s.synd ∧
      sget (s.rowDone m row).memc.row 0 m = if bankBytes m / 16 ≤ row + 1 then 0 else row + 1 := by
  unfold rowDone
  exact when_of _ _ _ (fun t => t.mem = s.mem ∧ t.synd = s.synd ∧
    sget t.memc.row 0 m = if bankBytes m / 16 ≤ row + 1 then 0 else row + 1)
    ⟨rfl, rfl, sget_sput_same ..⟩ ⟨rfl, rfl, sget_sput_same ..⟩

/-- The count of passes rises after the last row. -/
theorem rowDone_pass (s : State) (m row : Nat) : (s.rowDone m row).get (F.MEM_PASS_COUNT m) =
    if bankBytes m / 16 ≤ row + 1 then satInc (F.MEM_PASS_COUNT m).w (s.get (F.MEM_PASS_COUNT m))
    else s.get (F.MEM_PASS_COUNT m) := by
  have hlt := satInc_lt (F.MEM_PASS_COUNT m).w (s.get (F.MEM_PASS_COUNT m))
  unfold rowDone
  split
  next h =>
    rw [decide_eq_true h, when_true]
    exact (get_set _ _ _ (by decide : 0 + 32 ≤ 32)).trans (Nat.mod_eq_of_lt hlt)
  next h => rw [decide_eq_false h]; rfl

theorem rowDone_ce (s : State) (m row : Nat) :
    (s.rowDone m row).get (F.MEM_CE_COUNT m) = s.get (F.MEM_CE_COUNT m) := by
  unfold rowDone
  refine when_of _ _ _ (fun t => t.get (F.MEM_CE_COUNT m) = _) rfl ?_
  refine get_set_ne _ _ _ _ ?_
  show 0xe0108 + 0x20 * m ≠ 0xe0104 + 0x20 * m
  omega

/-- A corrected error is counted in its class (R363). -/
theorem ceCount_get (s : State) (hm : m < 6) : (s.ceCount m).get (F.MEM_CE_COUNT m) =
    satInc (F.MEM_CE_COUNT m).w (s.get (F.MEM_CE_COUNT m)) := by
  have hlt := satInc_lt (F.MEM_CE_COUNT m).w (s.get (F.MEM_CE_COUNT m))
  rw [(ceCount_outward s m).get _ (by simp only [OuterReg, F.MEM_CE_COUNT]; omega), inc,
    get_set _ _ _ (by exact Nat.le_refl 32 : (F.MEM_CE_COUNT m).lo + (F.MEM_CE_COUNT m).w ≤ 32)]
  exact Nat.mod_eq_of_lt hlt

/-- A word with one bad data bit, scrubbed: the bit is corrected, its syndrome goes, the error counts. -/
theorem scrubWord_data {a i : Nat} (hc : memClass a = some m) (hm : m < 6)
    (h : synOf (sget s.synd 0 (a / 4)) = .data i) :
    (s.scrubWord a).mem = memPuts s.mem a (toLE 4 (s.rd32 a ^^^ 2 ^ i)) ∧
      (s.scrubWord a).synd = sput s.synd 0 (a / 4) 0 ∧
      (s.scrubWord a).get (F.MEM_CE_COUNT m) =
        satInc (F.MEM_CE_COUNT m).w (s.get (F.MEM_CE_COUNT m)) := by
  have hcls : memCls a = m := by rw [memCls, hc]; rfl
  have hw : s.scrubWord a = ({ s with
      mem := memPuts s.mem a (toLE 4 (s.rd32 a ^^^ 2 ^ i)),
      synd := sput s.synd 0 (a / 4) 0 } : State).ceCount m := by
    simp only [scrubWord, eccRd, h, hcls]
  rw [hw]
  generalize hu : ({ s with
      mem := memPuts s.mem a (toLE 4 (s.rd32 a ^^^ 2 ^ i)),
      synd := sput s.synd 0 (a / 4) 0 } : State) = u
  have hce := ceCount_outward u m
  refine ⟨hce.mem.trans (hu ▸ rfl), hce.synd.trans (hu ▸ rfl), (ceCount_get u hm).trans ?_⟩
  rw [← hu]
  rfl

theorem rd32_lt (s : State) (a : Nat) : s.rd32 a < 2 ^ 32 := by
  have h := leNat_lt (s.rdB a 4)
  have hlen : (s.rdB a 4).length = 4 := by simp [rdB]
  rwa [hlen] at h

theorem on_cleared (s : State) {f : Fld} (hw : f.w = 1) (hl : f.lo < 32) : (s.set f 0).on f = false := by
  rw [on, get_set s f 0 (by omega), hw]
  rfl

/-! ## The commands of the IOMMU (R370, R373, R374) -/

/-- IOMMU_CTRL after a write of its defined bits. -/
theorem ctrl_merge {old : Nat} (data : Nat) (h : old < 2 ^ 32) :
    (old &&& ((0xFFFFFFFF &&& 0x3F) ^^^ 0xFFFFFFFF)) ||| (data &&& 0xFFFFFFFF &&& 0x3F) =
      setBits old 0 6 data := by
  have hlow (i : Nat) : Nat.testBit 0x3F i = decide (i < 6) := Nat.testBit_two_pow_sub_one 6 i
  have hall (i : Nat) : Nat.testBit 0xFFFFFFFF i = decide (i < 32) := Nat.testBit_two_pow_sub_one 32 i
  refine Nat.eq_of_testBit_eq fun i => ?_
  rw [testBit_setBits]
  simp only [Nat.testBit_or, Nat.testBit_and, Nat.testBit_xor, hlow, hall]
  by_cases hi : i < 6
  · have : i < 32 := by omega
    simp [hi, this]
  · by_cases h32 : i < 32
    · simp [hi, h32]
    · have hold : old.testBit i = false :=
        Nat.testBit_lt_two_pow (Nat.lt_of_lt_of_le h (Nat.pow_le_pow_right (by decide) (by omega)))
      simp [hi, h32, hold]

/-- Every ring is DISABLED, and no transfer of a core stands with an end in host memory. -/
def iommuIdle (s : State) : Bool :=
  (List.range Config.rings).all (fun r => s.rst r = .disabled) &&
    (List.range Config.cores).all (fun c => (sget s.cores {} c).dma.all (fun p =>
      match p.2 with
      | some t => !(t.srcHost || t.dstHost) || t.done.isSome
      | none => true))

/-- A write of IOMMU_CTRL with a DIRBITS that is defined. -/
theorem iommuCtrl_whole (s : State) {data : Nat} (hd : bits data 1 5 ≤ 18) :
    s.iommuCtrl 0xFFFFFFFF data =
      if setBits (s.word R.IOMMU_CTRL) 0 6 data = s.word R.IOMMU_CTRL then s
      else if s.iommuIdle then s.set R.IOMMU_CTRL (setBits (s.word R.IOMMU_CTRL) 0 6 data)
      else s.flag F.IOMMU_STAT_MODE_REJ := by
  have hdir : ¬ bits (setBits (s.word R.IOMMU_CTRL) 0 6 data) 1 5 > 18 := by
    rw [bits_setBits_inside _ _ _ _ _ (by decide)]
    omega
  have hold : s.word R.IOMMU_CTRL < 2 ^ 32 := BitVec.isLt _
  unfold iommuCtrl
  simp only [ctrl_merge data hold, if_neg hdir]
  rfl

theorem hostW_iommuCtrl (hs : s.Awake) {data : Nat} (hd : data < 2 ^ 32) :
    s.hostW R.IOMMU_CTRL.addr data = s.iommuCtrl 0xFFFFFFFF data := by
  rw [hostW_host hs (by decide) (by decide) hd]
  rfl

theorem hostW_iommuInv (hs : s.Awake) {k : Nat} (hk : k < 4) :
    s.hostW R.IOMMU_INV.addr k = s.iommuInv k := by
  have hk32 : k < 2 ^ 32 := by omega
  rw [hostW_host hs (by decide) (by decide) hk32]
  show s.iommuInv ((wholeWrite R.IOMMU_INV.addr k).cmd % 4) = _
  rw [wholeWrite_cmd _ hk32, Nat.mod_eq_of_lt hk]

/-- The bits that a write of IOMMU_CTRL brings, whether or not they are new. -/
theorem iommuCtrl_taken (hrings : ∀ r, r < 32 → s.rst r = .disabled) (hcores : s.cores = [])
    {data : Nat} (hd : bits data 1 5 ≤ 18) (f : Fld) (ha : f.addr = R.IOMMU_CTRL.addr)
    (hr : f.rst = 0) (hf : f.lo + f.w ≤ 6) :
    (s.iommuCtrl 0xFFFFFFFF data).get f = bits data f.lo f.w ∧
      RegsOnly [R.IOMMU_CTRL.addr] s (s.iommuCtrl 0xFFFFFFFF data) := by
  have hidle : s.iommuIdle = true := by
    rw [iommuIdle, Bool.and_eq_true, List.all_eq_true, List.all_eq_true]
    refine ⟨fun r hr => decide_eq_true (hrings r (List.mem_range.1 hr)), fun c _ => ?_⟩
    rw [hcores]
    rfl
  rw [iommuCtrl_whole s hd, hidle, if_pos rfl]
  split
  next hsame =>
    refine ⟨?_, .refl _ s⟩
    rw [get, word_congr (g := R.IOMMU_CTRL) s ha hr, ← hsame, bits_setBits_inside _ _ _ _ _ hf]
  · refine ⟨?_, set_regsOnly s _ _⟩
    rw [get_set_whole s _ ⟨rfl, rfl⟩ ⟨ha.symm, hr.symm, by omega⟩, bits_setBits_inside _ _ _ _ _ hf]

/-- A change is refused while a ring is not DISABLED. -/
theorem iommuCtrl_refused {data : Nat} (hd : bits data 1 5 ≤ 18)
    (hring : ∃ r, r < 32 ∧ s.rst r ≠ .disabled)
    (hnew : bits data 0 6 ≠ bits (s.word R.IOMMU_CTRL) 0 6) :
    s.iommuCtrl 0xFFFFFFFF data = s.set F.IOMMU_STAT_MODE_REJ 1 := by
  obtain ⟨r, hr, hne⟩ := hring
  have hbusy : ¬ s.iommuIdle = true := by
    rw [iommuIdle, Bool.and_eq_true, List.all_eq_true]
    exact fun h => hne (of_decide_eq_true (h.1 r (List.mem_range.2 hr)))
  rw [iommuCtrl_whole s hd, if_neg, if_neg hbusy, flag]
  intro hsame
  refine hnew ?_
  rw [← hsame, bits_setBits_inside _ _ _ _ _ (by decide)]

end State

/-! ### Invalidations -/

/-- What an invalidation of scope k for a page takes out of the caches. -/
def Dropped (c : IommuS) (k page : Nat) : Prop :=
  (k = 1 → ∀ p ∈ c.leaves, p.1 ≠ page) ∧
    (k = 2 → (∀ p ∈ c.leaves, p.1 / 512 ≠ page / 512) ∧ ∀ p ∈ c.dirs, p.1 ≠ page / 512) ∧
    (k = 3 → c.leaves = [] ∧ c.dirs = [])

/-- An invalidation adds no entry. -/
theorem drop_sub (c : IommuS) (q : Nat × Nat) :
    (∀ p ∈ (c.drop q).leaves, p ∈ c.leaves) ∧ ∀ p ∈ (c.drop q).dirs, p ∈ c.dirs := by
  unfold IommuS.drop
  split
  · exact ⟨fun p hp => List.mem_of_mem_filter hp, fun p hp => hp⟩
  · exact ⟨fun p hp => List.mem_of_mem_filter hp, fun p hp => List.mem_of_mem_filter hp⟩
  · exact ⟨fun p hp => absurd hp List.not_mem_nil, fun p hp => absurd hp List.not_mem_nil⟩

theorem Dropped.drop {c : IommuS} {k page : Nat} (h : Dropped c k page) (q : Nat × Nat) :
    Dropped (c.drop q) k page := by
  obtain ⟨hpage, hspan, hall⟩ := h
  obtain ⟨hleaves, hdirs⟩ := drop_sub c q
  refine ⟨fun hk p hp => hpage hk p (hleaves p hp), fun hk => ?_, fun hk => ?_⟩
  · exact ⟨fun p hp => (hspan hk).1 p (hleaves p hp), fun p hp => (hspan hk).2 p (hdirs p hp)⟩
  · refine ⟨List.eq_nil_iff_forall_not_mem.2 fun p hp => ?_,
      List.eq_nil_iff_forall_not_mem.2 fun p hp => ?_⟩
    · exact absurd ((hall hk).1 ▸ hleaves p hp) List.not_mem_nil
    · exact absurd ((hall hk).2 ▸ hdirs p hp) List.not_mem_nil

theorem drop_dropped (c : IommuS) {k page : Nat} (hk : 1 ≤ k ∧ k < 4) :
    Dropped (c.drop (k, page)) k page := by
  obtain rfl | rfl | rfl : k = 1 ∨ k = 2 ∨ k = 3 := by omega
  · refine ⟨fun _ p hp => ?_, fun h => absurd h (by decide), fun h => absurd h (by decide)⟩
    simpa using (List.mem_filter.1 hp).2
  · refine ⟨fun h => absurd h (by decide), fun _ => ⟨fun p hp => ?_, fun p hp => ?_⟩,
      fun h => absurd h (by decide)⟩
    · simpa using (List.mem_filter.1 hp).2
    · simpa using (List.mem_filter.1 hp).2
  · exact ⟨fun h => absurd h (by decide), fun h => absurd h (by decide), fun _ => ⟨rfl, rfl⟩⟩

/-- The end of the invalidations in progress has done each of them. -/
theorem foldl_drop {l : List (Nat × Nat)} {k page : Nat} (hk : 1 ≤ k ∧ k < 4) :
    ∀ c : IommuS, (k, page) ∈ l ∨ Dropped c k page → Dropped (l.foldl IommuS.drop c) k page := by
  induction l with
  | nil => exact fun c h => h.resolve_left List.not_mem_nil
  | cons q l ih =>
    refine fun c h => ih _ ?_
    rcases h with h | h
    · rcases List.mem_cons.1 h with rfl | h
      · exact .inr (drop_dropped c hk)
      · exact .inl h
    · exact .inr (h.drop q)

/-- Settles O49, by the facts about one scrubbed row, one write of IOMMU_CTRL and one invalidation. -/
theorem memoryScrubAndTranslation : Obligations.MemoryScrubAndTranslation := by
  refine ⟨fun s m hm hs hon hclean => ?_, fun s m k x i hm hs hon herr hc hrow hsyn => ?_,
    fun s m hm hs hoff => ?_, fun s hs => ?_, fun s data hd hs hdir => ?_, fun s k hk hs => ?_,
    fun s k page hk1 hk4 hin => ?_⟩
  · have hnone : s.rowHits m = [] := by rw [State.rowHits, hclean]; rfl
    refine ⟨_, State.exec_scrubStep hm hs hon, ?_⟩
    rw [hnone, List.foldl_nil]
    obtain ⟨hmem, hsynd, hnext⟩ := State.rowDone_fst s m (s.scrubRow m)
    exact ⟨hmem, hsynd.trans hclean, hnext, State.rowDone_pass s m _⟩
  · have hone : s.rowHits m = [4 * k] := by
      rw [State.rowHits, herr]
      simp [hc, hrow, State.scrubRow]
    have hk : 4 * k / 4 = k := Nat.mul_div_cancel_left k (by decide)
    have hat : sget s.synd 0 (4 * k / 4) = x := by rw [herr, hk]; exact if_pos rfl
    obtain ⟨hmem, hsynd, hce⟩ := State.scrubWord_data hc (by omega) (hat.symm ▸ hsyn)
    refine ⟨_, State.exec_scrubStep hm hs hon, ?_⟩
    rw [hone, List.foldl_cons, List.foldl_nil]
    generalize s.scrubWord (4 * k) = u at hmem hsynd hce
    obtain ⟨hmem', hsynd', -⟩ := State.rowDone_fst u m (s.scrubRow m)
    have hword : (u.rowDone m (s.scrubRow m)).rd32 (4 * k) = (s.rd32 (4 * k) ^^^ 2 ^ i) % 2 ^ 32 :=
      State.rd32_of_mem _ s.mem _ _ (hmem'.trans hmem)
    refine ⟨?_, hword.trans (Nat.mod_eq_of_lt ?_), (State.rowDone_ce u m _).trans hce,
      fun q hq => ?_⟩
    · rw [hsynd', hsynd, herr, hk, sput_single_default]
    · exact Nat.xor_lt_two_pow (State.rd32_lt s _)
        (Nat.pow_lt_pow_right (by decide) (synOf_data_lt hsyn))
    · rw [hmem', hmem]
      exact memGet_memPuts_out _ _ _ _ (by rwa [length_toLE])
  · rw [s.exec_scrub .clean (decide_eq_true (by omega)), State.scrubStep, hs, if_neg Bool.false_ne_true, if_neg (by omega), State.scrub, hoff]
    rfl
  · have hstep (hit : ScrubHit) : exec (.scrubStep 5 hit) s = .next (s.scrub5 hit) := by
      have hrun : s.scrubStep 5 hit = s.scrub5 hit := by
        rw [State.scrubStep, hs]
        rfl
      rw [← hrun]
      exact s.exec_scrub hit rfl
    exact ⟨hstep .clean, hstep .corrected⟩
  · have hexec : exec (.iommuCtrlWrite data) s = .next (s.iommuCtrl 0xFFFFFFFF data) := by
      rw [← State.hostW_iommuCtrl hs hd]
      exact if_pos (decide_eq_true hd)
    refine ⟨fun hrings hcores => ⟨_, hexec, ?_⟩, fun hring hnew => ?_⟩
    · obtain ⟨hmode, honly⟩ := State.iommuCtrl_taken hrings hcores hdir F.IOMMU_CTRL_MODE rfl rfl
        (by decide)
      obtain ⟨hbits, -⟩ := State.iommuCtrl_taken hrings hcores hdir F.IOMMU_CTRL_DIRBITS rfl rfl
        (by decide)
      exact ⟨hmode, hbits, honly⟩
    · rw [hexec, State.iommuCtrl_refused hdir hring hnew]
  · refine State.gives_of (t := s.iommuInv k) ?_ (decide_eq_true hk) ⟨fun h0 => ?_, fun hne => ?_⟩
    · rw [← State.hostW_iommuInv hs hk]
      rfl
    · rw [h0]
      rfl
    · rw [State.iommuInv, if_neg hne]
      exact ⟨rfl, State.on_flag _ rfl (by decide)⟩
  · have hsome : ¬ s.iommu.inv.isEmpty = true := by
      rw [List.isEmpty_iff]
      exact List.ne_nil_of_mem hin
    obtain ⟨hpage, hspan, hall⟩ := foldl_drop ⟨hk1, hk4⟩ s.iommu (.inl hin)
    refine ⟨_, rfl, ?_⟩
    rw [State.iommuInvDone, if_neg hsome]
    exact ⟨rfl, State.on_cleared _ rfl (by decide), hpage, hspan, hall⟩

end Sys2Proof.Machine
end

section
/-! SUPPORT. What a completion of one ring leaves of the rings, the flash, commit records, the turn of the
steps of the IMG rings, and the OTP key slots. Then what 20_software_images.md has proved:
ImageUpdatesAndKeySlots. -/

namespace Sys2Proof.Machine

open Sys2Proof

namespace State

variable {s t u : State} {r : Nat}

/-! ## The rings under a completion -/

theorem hostErr_noted (s : State) (e : HostErr) (req a : Nat) : Noted s (s.hostErr e req a) := by
  unfold hostErr
  split
  · exact faultLog_noted _ _ _ _ _ _ _
  · exact .trans (t := s.fresh.2) (.same (.refl s) rfl rfl) (faultLog_noted _ _ _ _ _ _ _)

theorem hostRd_noted (fuel : Nat) (s : State) (hm : HostMem) (req a k : Nat) :
    Noted s (s.hostRd hm req fuel a k).2.2 := by
  induction fuel generalizing s a k with
  | zero => exact .refl s
  | succ fuel ih =>
    unfold hostRd
    split
    · exact .refl s
    extract_lets n
    have hx := xlate_noted s hm false req a
    split
    next hf => rwa [hf] at hx
    next b s1 hf =>
      rw [hf] at hx
      split
      · exact hx.trans (hostErr_noted _ _ _ _)
      · exact hx.trans (ih _ _ _)

/-- From s to t no ring and no register of a ring has changed. -/
structure RingsKept (s t : State) : Prop where
  rings : t.host.rings = s.host.rings
  regs : ∀ f : Fld, 0x21000 ≤ f.addr → f.addr < 0x22000 → t.get f = s.get f

theorem Noted.ringsKept (h : Noted s t) : RingsKept s t :=
  ⟨h.rings, fun f _ _ => h.get f (by unfold UnnotedReg; omega)⟩

theorem RingsKept.set (h : RingsKept s t) {f : Fld} {v : Nat} (hf : f.addr < 0x21000) :
    RingsKept s (t.set f v) :=
  ⟨h.rings, fun g hlo hhi => (get_set_ne _ _ _ _ (by omega)).trans (h.regs g hlo hhi)⟩

theorem RingsKept.ring (h : RingsKept s t) (q : Nat) : t.ring q = s.ring q := by
  rw [State.ring, State.ring, h.rings]

/-- From s to t no ring has changed its type, ring r alone has changed, and none of its descriptors is
new. -/
structure OneRing (r : Nat) (s t : State) : Prop where
  others : ∀ q, q ≠ r → t.ring q = s.ring q
  cfg : ∀ q, q < 32 → t.get (F.HOST_RING_CFG_TYPE q) = s.get (F.HOST_RING_CFG_TYPE q)
  outs : ∀ d ∈ (t.ring r).outs, d ∈ (s.ring r).outs

namespace OneRing

theorem refl (r : Nat) (s : State) : OneRing r s s := ⟨fun _ _ => rfl, fun _ _ => rfl, fun _ h => h⟩

theorem trans (h : OneRing r s t) (k : OneRing r t u) : OneRing r s u :=
  ⟨fun q hq => (k.others q hq).trans (h.others q hq), fun q hq => (k.cfg q hq).trans (h.cfg q hq),
    fun d hd => h.outs d (k.outs d hd)⟩

/-- A register of a ring other than its CFG. -/
theorem set (h : OneRing r s t) {a : Nat} {f : Fld} {v q : Nat} (ha : f.addr = a + 0x40 * q)
    (hne : a % 0x40 ≠ 0) : OneRing r s (t.set f v) := by
  refine h.trans ⟨fun _ _ => rfl, fun p _ => get_set_ne _ _ _ _ ?_, fun _ h => h⟩
  rw [ha]
  exact ringReg_ne (Ne.symm hne)

theorem setRing (h : OneRing r s t) {x : RingS} (hx : ∀ d ∈ x.outs, d ∈ (t.ring r).outs) :
    OneRing r s (t.setRing r x) := by
  refine h.trans ⟨fun q hq => ring_setRing_ne t x hq, fun _ _ => rfl, fun d hd => hx d ?_⟩
  rwa [ring_setRing_same] at hd

theorem kept (h : OneRing r s t) (hu : RingsKept t u) : OneRing r s u := by
  refine h.trans ⟨fun q _ => hu.ring q, fun q hq => hu.regs _ ?_ ?_, fun d hd => hu.ring r ▸ hd⟩
  · exact Nat.le_add_right 0x21000 (0x40 * q)
  · show 0x21000 + 0x40 * q < 0x22000
    omega

theorem noted (h : OneRing r s t) (hu : Noted t u) : OneRing r s u := h.kept hu.ringsKept

theorem when (h : OneRing r s t) {c : Bool} {f : State → State} (hf : OneRing r t (f t)) :
    OneRing r s (t.when c f) :=
  when_of t c f (OneRing r s) h (h.trans hf)

theorem ite {c : Prop} [Decidable c] (ht : OneRing r s t) (hu : OneRing r s u) :
    OneRing r s (if c then t else u) := by
  split
  · exact ht
  · exact hu

theorem types (h : OneRing r s t) (hr : r < 32) (q : Nat) : t.rtype q = s.rtype q := by
  have hcode : t.rtypeCode q = s.rtypeCode q := by
    unfold rtypeCode
    split
    next hq => exact h.cfg q hq
    next hq =>
      have hne : q ≠ r := fun he => hq (he ▸ hr)
      rw [h.others q hne]
  rw [rtype, rtype, hcode]

end OneRing

theorem ringIrq_oneRing (s : State) (r : Nat) : OneRing r s (s.ringIrq r) :=
  .ite (.noted (.refl r s) (msi_noted _ _))
    (.ite (.noted (t := s.setRing r { s.ring r with gathered := 0 })
      (.setRing (.refl r s) fun _ h => h) (msi_noted _ _)) (.setRing (.refl r s) fun _ h => h))

/-- The write of a completion takes its descriptor out of the ring. -/
theorem cplWrite_oneRing (s : State) (r : Nat) (c : Cpl) : OneRing r s (s.cplWrite r c) ∧
    ∀ d ∈ ((s.cplWrite r c).ring r).outs, d.idx ≠ c.idx := by
  unfold cplWrite
  extract_lets area
  have hwr : OneRing r s (s.hostWr s.iommu.view (ringReq r) 2 (s.slotAt r c.idx + 48) area).2.2 :=
    .noted (.refl r s) (hostWr_noted _ _ _ _ _ _)
  rcases hf : s.hostWr s.iommu.view (ringReq r) 2 (s.slotAt r c.idx + 48) area with ⟨n, ok, s1⟩
  rw [hf] at hwr
  dsimp only at hwr ⊢
  generalize ciPass _ _ _ = p
  generalize hx : ({ s1.ring r with doneIdx := _, outs := _ } : RingS) = x
  have hgone : OneRing r s1 (s1.setRing r x) := by
    refine .setRing (.refl r s1) fun d hd => ?_
    rw [← hx] at hd
    exact List.mem_of_mem_filter hd
  have hout : ∀ d ∈ ((s1.setRing r x).ring r).outs, d.idx ≠ c.idx := by
    intro d hd
    rw [ring_setRing_same, ← hx] at hd
    simpa using (List.mem_filter.1 hd).2
  have hcounts : OneRing r (s1.setRing r x)
      ((((s1.setRing r x).set (R.HOST_RING_CI r) p.1).ringCounts r).when c.irq (·.ringIrq r)) := by
    refine .when (.set (a := 0x21018) (.set (a := 0x2101c) ?_ rfl (by decide)) rfl (by decide))
      (ringIrq_oneRing _ r)
    exact .set (a := 0x21014) (.refl r _) rfl (by decide)
  suffices hrest : OneRing r (s1.setRing r x) _ from
    ⟨hwr.trans (hgone.trans hrest), fun d hd => hout d (hrest.outs d hd)⟩
  refine .ite ?_ hcounts
  exact .set (a := 0x21018) (.set (a := 0x21018) hcounts rfl (by decide)) rfl (by decide)

theorem cplRelease_oneRing (fuel : Nat) (s : State) (r : Nat) : OneRing r s (s.cplRelease r fuel) := by
  induction fuel generalizing s with
  | zero => exact .refl r s
  | succ fuel ih =>
    unfold cplRelease
    split
    · exact .refl r s
    next c _ =>
      dsimp only
      have hset : OneRing r s
          (s.setRing r { s.ring r with held := (s.ring r).held.filter (·.idx ≠ c.idx) }) :=
        .setRing (.refl r s) fun _ h => h
      obtain ⟨hwr, -⟩ := cplWrite_oneRing
        (s.setRing r { s.ring r with held := (s.ring r).held.filter (·.idx ≠ c.idx) }) r c
      exact (hset.trans hwr).trans (ih _)

/-- The completion of the one descriptor of a ring, in its turn, leaves the ring without descriptors. -/
theorem complete_last {d : Desc} (hr : r < 32) (houts : (s.ring r).outs = [d])
    (hci : s.get (R.HOST_RING_CI r) = d.idx) (status result flags : Nat) :
    OneRing r s (s.complete r d.idx status result flags) ∧
      ((s.complete r d.idx status result flags).ring r).outs = [] := by
  have hdesc : s.desc? r d.idx = some d := by simp [desc?, houts]
  have hring : ¬ Config.rings ≤ r := Nat.not_le.2 hr
  simp only [complete, hdesc, cpl, if_neg hring, hci, ne_eq, not_true_eq_false, decide_false,
    Bool.and_false, Bool.false_eq_true, if_false]
  obtain ⟨hone, hgone⟩ := cplWrite_oneRing s r
    ⟨d.idx, d.tag, d.irq, if status = 0 && d.cancelLate then 5 else status, result, flags, true⟩
  generalize s.cplWrite r _ = u at hone hgone ⊢
  have hall := hone.trans (cplRelease_oneRing (u.ring r).held.length u r)
  refine ⟨hall, List.eq_nil_iff_forall_not_mem.2 fun e he => ?_⟩
  have hold := (cplRelease_oneRing (u.ring r).held.length u r).outs e he
  have hmem := hall.outs e he
  rw [houts, List.mem_singleton] at hmem
  exact hgone e hold (hmem ▸ rfl)

/-! ## Flash (R550) -/

theorem flPut_apart (d : Bytes) (m : Sparse Byte) (a x : Nat) (h : x < a ∨ a + d.length ≤ x) :
    sget (flPut m a d) 0xFF x = sget m 0xFF x := by
  induction d generalizing m a with
  | nil => rfl
  | cons b d ih =>
    rw [List.length_cons] at h
    rw [flPut, ih _ _ (by omega), sget_sput_ne _ _ _ _ (by omega)]

theorem flPut_inside (d : Bytes) (m : Sparse Byte) (a i : Nat) (h : i < d.length) :
    sget (flPut m a d) 0xFF (a + i) = nth d 0 i := by
  induction d generalizing m a i with
  | nil => exact absurd h (Nat.not_lt_zero i)
  | cons b d ih =>
    rw [flPut]
    cases i with
    | zero => exact (flPut_apart d _ _ a (.inl (Nat.lt_succ_self a))).trans (sget_sput_same ..)
    | succ i =>
      rw [show a + (i + 1) = a + 1 + i by omega, ih _ _ _ (Nat.lt_of_succ_lt_succ h)]
      rfl

theorem length_flRd (s : State) (a k : Nat) : (s.flRd a k).length = k := by simp [flRd]

theorem nth_flRd (s : State) (a : Nat) {i k : Nat} (h : i < k) : nth (s.flRd a k) 0 i = s.flByte (a + i) := by
  simp [nth, flRd, h]

/-- What has been written into the flash reads back. -/
theorem flRd_flWr (s : State) (a : Nat) (d : Bytes) : (s.flWr a d).flRd a d.length = d := by
  refine List.ext_getElem (length_flRd _ _ _) fun i _ hi => ?_
  have hput : sget (flPut s.img.flash a d) 0xFF (a + i) = nth d 0 i := flPut_inside d _ a i hi
  simp only [flRd, List.getElem_map, List.getElem_range]
  exact hput.trans (by simp [nth, hi])

theorem flProg_inside (s : State) (a : Nat) (d : Bytes) {i : Nat} (h : i < d.length) :
    (s.flProg a d).flByte (a + i) = s.flByte (a + i) &&& nth d 0 i := by
  have hlen : ((s.flRd a d.length).zipWith (· &&& ·) d).length = d.length := by
    rw [List.length_zipWith, length_flRd, Nat.min_self]
  have hput : (s.flProg a d).flByte (a + i) = nth ((s.flRd a d.length).zipWith (· &&& ·) d) 0 i :=
    flPut_inside _ _ a i (by rwa [hlen])
  rw [hput]
  simp [nth, h, flRd]

theorem flProg_apart (s : State) (a : Nat) (d : Bytes) {x : Nat} (h : x < a ∨ a + d.length ≤ x) :
    (s.flProg a d).flByte x = s.flByte x := by
  refine flPut_apart _ _ _ _ ?_
  rwa [List.length_zipWith, length_flRd, Nat.min_self]

/-- An entry taken out by its key alone reads the default. -/
theorem sget_filter_key {α : Type} (m : Sparse α) (d : α) (p : Nat → Bool) (a : Nat) :
    sget (m.filter (fun e => p e.1)) d a = if p a then sget m d a else d := by
  induction m with
  | nil => simp [sget]
  | cons e m ih =>
    obtain ⟨k, v⟩ := e
    by_cases hk : k = a
    · subst hk
      cases hp : p k
      · simpa [hp] using ih
      · simp [hp, sget]
    · cases hp : p k
      · simpa [hp, sget, hk] using ih
      · simpa [hp, sget, hk] using ih

theorem flErase_byte (s : State) (k a : Nat) : (s.flErase k).flByte a =
    if a < slotBase k ∨ slotBase k + slotSize ≤ a then s.flByte a else 0xFF := by
  refine (sget_filter_key s.img.flash 0xFF
    (fun x => decide (x < slotBase k) || decide (slotBase k + slotSize ≤ x)) a).trans ?_
  simp only [Bool.or_eq_true, decide_eq_true_eq]
  rfl

/-! ## Commit records (R551) -/

end State

/-- The fields of a record fit their places in its STATE. -/
def CRec.Fits (r : CRec) : Prop := r.active < 2 ∧ r.sa < 4 ∧ r.sb < 4

namespace State

variable {s t u : State}

theorem flRd_congr (h : t.img.flash = s.img.flash) (a k : Nat) : t.flRd a k = s.flRd a k := by
  unfold flRd flByte
  rw [h]

theorem recOf_congr (h : t.img.flash = s.img.flash) (c : Nat) : t.recOf c = s.recOf c := by
  rw [recOf, recOf, flRd_congr h]

theorem newest_congr (h : t.img.flash = s.img.flash) : t.newest = s.newest := by
  rw [newest, newest, recOf_congr h, recOf_congr h]

theorem recOf_fits {c : Nat} {r : CRec} (h : s.recOf c = some r) : r.Fits := by
  simp only [recOf] at h
  split at h
  · cases h
    exact ⟨bits_lt _ _ _, bits_lt _ _ _, bits_lt _ _ _⟩
  · cases h

theorem newest_recOf {o : CRec} {c : Nat} (h : s.newest = some (o, c)) : s.recOf c = some o ∧ c < 2 := by
  have hpick {p : Prop} [Decidable p] {x y : Option (CRec × Nat)}
      (hx : x = some (o, c) → s.recOf c = some o ∧ c < 2)
      (hy : y = some (o, c) → s.recOf c = some o ∧ c < 2)
      (h : (if p then x else y) = some (o, c)) : s.recOf c = some o ∧ c < 2 := by
    split at h
    · exact hx h
    · exact hy h
  have hfound {a : CRec} {k : Nat} (hk : k < 2) (ha : s.recOf k = some a)
      (h : some (a, k) = some (o, c)) : s.recOf c = some o ∧ c < 2 := by
    cases h
    exact ⟨ha, hk⟩
  unfold newest at h
  split at h
  next => cases h
  next ha _ => exact hfound (by decide) ha h
  next hb => exact hfound (by decide) hb h
  next ha hb =>
    have hfst := hfound (show 0 < 2 by decide) ha
    have hsnd := hfound (show 1 < 2 by decide) hb
    exact hpick hsnd (hpick hfst (hpick hsnd hfst)) h

/-- Record r with a SEQ into a copy; DEV_IMG shows it. -/
def putRec (s : State) (seq copy : Nat) (r : CRec) : State :=
  { (s.flWr (0x1000 * copy) (withCrc32 (toLE 4 0x52435850 ++ toLE 4 seq ++
    toLE 4 (r.active + r.sa * 2 + r.sb * 8)))).showRec r with free := s.free + 1 }

/-- A new record goes into the copy that does not hold the newest one, with the next SEQ. -/
theorem writeRec_newest {o : CRec} {c : Nat} (h : s.newest = some (o, c)) (r : CRec) :
    s.writeRec r = s.putRec (o.seq + 1) (1 - c) r := by
  simp only [writeRec, h]
  rfl

theorem writeRec_putRec (s : State) (r : CRec) : ∃ seq c, s.writeRec r = s.putRec seq c r := by
  rcases h : s.newest with _ | ⟨o, c⟩
  · refine ⟨Config.freeValue s.free, 0, ?_⟩
    simp only [writeRec, h]
    rfl
  · exact ⟨_, _, writeRec_newest h r⟩

/-- A record reads back from its copy (R551). -/
theorem recOf_putRec (s : State) (seq copy : Nat) {r : CRec} (hr : r.Fits) :
    (s.putRec seq copy r).recOf copy = some { r with seq := seq % 2 ^ 32 } := by
  obtain ⟨ha, hsa, hsb⟩ := hr
  generalize hst : r.active + r.sa * 2 + r.sb * 8 = st
  have hst32 : st % 2 ^ (8 * 4) = st := Nat.mod_eq_of_lt (by omega)
  generalize hb : toLE 4 0x52435850 ++ toLE 4 seq ++ toLE 4 st = b
  have hlen : b.length = 12 := by simp [← hb]
  have hread : (s.putRec seq copy r).flRd (0x1000 * copy) 16 = withCrc32 b := by
    have h := flRd_flWr s (0x1000 * copy) (withCrc32 b)
    rw [length_withCrc32, hlen] at h
    rw [← h]
    refine flRd_congr ?_ _ _
    rw [← hb, ← hst]
    rfl
  have hmagic : fieldLE (withCrc32 b) 0 4 = 0x52435850 :=
    hb ▸ (fieldLE_withCrc32 [] (toLE 4 seq ++ toLE 4 st) 4 0x52435850)
  have hseq : fieldLE (withCrc32 b) 4 4 = seq % 2 ^ 32 :=
    hb ▸ (fieldLE_withCrc32 (toLE 4 0x52435850) (toLE 4 st) 4 seq)
  have hstate : fieldLE (withCrc32 b) 8 4 = st := by
    have h := fieldLE_withCrc32 (toLE 4 0x52435850 ++ toLE 4 seq) [] 4 st
    rw [List.append_nil, hb, hst32] at h
    exact h
  have hcrc : fieldLE (withCrc32 b) 12 4 = crc32 b := by
    have h := fieldLE_toLE b [] 4 (crc32 b)
    rw [List.append_nil, hlen] at h
    exact h.trans (Nat.mod_eq_of_lt (crc32_lt b))
  have htake : (withCrc32 b).take 12 = b := List.take_left' hlen
  have hactive : bits st 0 1 = r.active := by
    simp only [bits, Nat.shiftRight_eq_div_pow]
    omega
  have hsa' : bits st 1 2 = r.sa := by
    simp only [bits, Nat.shiftRight_eq_div_pow]
    omega
  have hsb' : bits st 3 2 = r.sb := by
    simp only [bits, Nat.shiftRight_eq_div_pow]
    omega
  simp only [recOf, hread, hmagic, hseq, hstate, hcrc, htake, hactive, hsa', hsb', decide_true,
    Bool.and_self, if_true]

/-- DEV_IMG shows the slot states of a record. -/
theorem showRec_shows (s : State) {r : CRec} (hr : r.Fits) :
    (s.showRec r).get F.DEV_IMG_STATE_A = r.sa ∧ (s.showRec r).get F.DEV_IMG_STATE_B = r.sb := by
  obtain ⟨-, hsa, hsb⟩ := hr
  have hfit : F.DEV_IMG_STATE_A.lo + F.DEV_IMG_STATE_A.w ≤ 32 ∧ F.DEV_IMG_STATE_B.lo + F.DEV_IMG_STATE_B.w ≤ 32 := by
    decide
  have hapart : F.DEV_IMG_STATE_B.Apart F.DEV_IMG_STATE_A := ⟨rfl, rfl, .inr (by decide)⟩
  rw [showRec, get_set_apart _ _ _ _ hfit.2 hapart, get_set _ _ _ hfit.1, get_set _ _ _ hfit.2]
  exact ⟨Nat.mod_eq_of_lt hsa, Nat.mod_eq_of_lt hsb⟩

theorem putRec_shows (s : State) (seq copy : Nat) {r : CRec} (hr : r.Fits) {k : Nat} (hk : k < 2) :
    (s.putRec seq copy r).get (if k = 0 then F.DEV_IMG_STATE_A else F.DEV_IMG_STATE_B) = r.slot k := by
  have hshow (f : Fld) : (s.putRec seq copy r).get f = ((s.flWr (0x1000 * copy) (withCrc32
      (toLE 4 0x52435850 ++ toLE 4 seq ++ toLE 4 (r.active + r.sa * 2 + r.sb * 8)))).showRec r).get f := rfl
  rw [hshow]
  generalize s.flWr _ _ = u
  obtain ⟨ha, hb⟩ := showRec_shows u hr
  obtain rfl | rfl : k = 0 ∨ k = 1 := by omega
  · exact ha
  · exact hb

theorem putRec_ringsKept (s : State) (seq copy : Nat) (r : CRec) : RingsKept s (s.putRec seq copy r) := by
  generalize hb : withCrc32 (toLE 4 0x52435850 ++ toLE 4 seq ++ toLE 4 (r.active + r.sa * 2 + r.sb * 8)) = b
  have hshow : RingsKept s ((s.flWr (0x1000 * copy) b).showRec r) := by
    rw [showRec]
    have hwr : RingsKept s (s.flWr (0x1000 * copy) b) := ⟨rfl, fun _ _ _ => rfl⟩
    exact (hwr.set (by decide)).set (by decide)
  rw [putRec, hb]
  exact ⟨hshow.rings, hshow.regs⟩

end State

/-- A record with the state of a slot changed. -/
theorem CRec.put_slot (r : CRec) {k : Nat} (hk : k < 2) (v : Nat) :
    (r.put k v).slot k = v ∧ (r.put k v).slot (1 - k) = r.slot (1 - k) ∧
      (r.put k v).active = r.active ∧ (r.put k v).seq = r.seq := by
  obtain rfl | rfl : k = 0 ∨ k = 1 := by omega
  · exact ⟨rfl, rfl, rfl, rfl⟩
  · exact ⟨rfl, rfl, rfl, rfl⟩

theorem CRec.Fits.put {r : CRec} (h : r.Fits) (k : Nat) {v : Nat} (hv : v < 4) : (r.put k v).Fits := by
  obtain ⟨ha, hsa, hsb⟩ := h
  unfold CRec.put
  split
  · exact ⟨ha, hv, hsb⟩
  · exact ⟨ha, hsa, hv⟩

namespace State

variable {s t u : State} {r : Nat} {d : Desc}

theorem record_newest {o : CRec} {c : Nat} (h : s.newest = some (o, c)) : s.record = o := by
  rw [record, h]

theorem record_fits (h : s.newest ≠ none) : s.record.Fits := by
  obtain ⟨⟨o, c⟩, ho⟩ := Option.ne_none_iff_exists'.1 h
  rw [record_newest ho]
  exact recOf_fits (newest_recOf ho).1

/-- A new record for slot k, of which everything but SEQ is given. -/
theorem writeRec_recOf {o q : CRec} {c : Nat} (ho : s.newest = some (o, c)) (hq : q.Fits) :
    (s.writeRec q).recOf (1 - c) = some { q with seq := (o.seq + 1) % 2 ^ 32 } := by
  rw [writeRec_newest ho]
  exact recOf_putRec s _ _ hq

/-! ## The turn of the steps of the IMG rings (R558) -/

/-- No step of an IMG ring runs. -/
def ImgFree (s : State) : Prop :=
  ∀ q ∈ s.ringNos, s.rtype q = .img → (s.ring q).outs.any (·.busy) = false

section
variable (hfree : s.ImgFree) (houts : (s.ring r).outs = [d]) (hstart : d.started = true)
include hfree houts hstart

/-- A step whose failure is known completes at once. -/
theorem imgBegin_fails {c : Nat} (hc : s.imgCause d = some c) :
    s.imgBegin r 1 = s.complete r d.idx 1 c 0 := by
  have hnone : ¬ (s.ringNos.any fun q => s.rtype q = .img && (s.ring q).outs.any (·.busy)) = true := by
    simpa [ImgFree, List.any_eq_true] using hfree
  rw [imgBegin, if_neg hnone, houts]
  simp only [List.find?_cons, hstart, hc, imgBegin]

/-- A step without a cause of failure begins: its descriptor is busy, ERASE and PROGRAM take the
slot's VERIFY away, ERASE marks the slot UPDATING. -/
theorem imgBegin_begins (hc : s.imgCause d = none) : s.imgBegin r 1 =
    ((s.updDesc r d.idx (fun e => { e with busy := true })).when (d.op = 1 || d.op = 2) (fun t =>
      { t with img := { t.img with verified := setBit t.img.verified (fieldLE d.bytes 8 1 % 2) false } })).when
        (d.op = 1) (fun t => t.writeRec (t.record.put (fieldLE d.bytes 8 1 % 2) 2)) := by
  have hnone : ¬ (s.ringNos.any fun q => s.rtype q = .img && (s.ring q).outs.any (·.busy)) = true := by
    simpa [ImgFree, List.any_eq_true] using hfree
  rw [imgBegin, if_neg hnone, houts]
  simp only [List.find?_cons, hstart, hc]

end

/-- With no descriptor outstanding on any of the rings no step begins. -/
theorem imgBegin_none (l : List Nat) (h : ∀ q ∈ l, (s.ring q).outs = []) :
    l.foldr (fun q t => t.imgBegin q (t.ring q).outs.length) s = s := by
  induction l with
  | nil => rfl
  | cons q l ih =>
    rw [List.foldr_cons, ih fun p hp => h p (List.mem_cons_of_mem q hp), h q (List.mem_cons_self ..)]
    rfl

/-- Of work that is busy on the ring itself it is the ring that is meant, not what a link reset left
(R360). -/
theorem workRing_busy (hr : r < 32) (h : (s.ring r).outs.any (·.busy) = true) : s.workRing r = r := by
  have hfind : (List.range 32).find? (fun q => q % Config.rings = r && (s.ring q).outs.any (·.busy)) =
      some r := by
    refine List.find?_range_eq_some.2 ⟨?_, List.mem_range.2 hr, fun q hq => ?_⟩
    · simp [Config.rings, Nat.mod_eq_of_lt hr, h]
    · have hne : ¬ q % Config.rings = r := by
        change ¬ q % 32 = r
        omega
      simp [hne]
  rw [workRing, ringNos, List.find?_append]
  change (((List.range 32).find? _).or _).getD r = r
  rw [hfind]
  rfl

theorem workRing_free (h : ∀ q ∈ s.ringNos, q % 32 = r → (s.ring q).outs.any (·.busy) = false) :
    s.workRing r = r := by
  have hnone : s.ringNos.find? (fun q => q % Config.rings = r && (s.ring q).outs.any (·.busy)) = none := by
    refine List.find?_eq_none.2 fun q hq hp => ?_
    rw [Bool.and_eq_true, decide_eq_true_eq] at hp
    exact Bool.false_ne_true ((h q hq hp.1).symm.trans hp.2)
  rw [workRing, hnone]
  rfl

/-- A ring that is none of the part's own and has no entry holds nothing. -/
theorem ring_unlisted {q : Nat} (h : q ∉ s.ringNos) : s.ring q = {} := by
  have hkeys : q ∉ s.host.rings.map (·.1) := by
    intro hq
    refine h ?_
    by_cases hlt : q < 32
    · exact List.mem_append_left _ (List.mem_range.2 hlt)
    · exact List.mem_append_right _ (List.mem_filter.2 ⟨hq, decide_eq_true (Nat.le_of_not_lt hlt)⟩)
  have hdefault (l : Sparse RingS) (hl : q ∉ l.map (·.1)) : sget l {} q = {} := by
    induction l with
    | nil => rfl
    | cons p l ih =>
      rw [List.map_cons, List.mem_cons, not_or] at hl
      rw [sget, if_neg (Ne.symm hl.1), ih hl.2]
  exact hdefault _ hkeys

/-- What stands when the step of ring r, the one descriptor of all IMG rings, ends. -/
structure LastStep (s : State) (r : Nat) (d : Desc) : Prop where
  ring : r < 32
  type : s.rtype r = .img
  outs : (s.ring r).outs = [d]
  busy : d.busy = true
  turn : s.get (R.HOST_RING_CI r) = d.idx
  alone : ∀ q ∈ s.ringNos, q ≠ r → s.rtype q = .img → (s.ring q).outs = []

/-- After its completion no step begins. -/
theorem LastStep.imgBegin_none (h : LastStep s r d) (hu : RingsKept s u) {status result flags : Nat}
    (hv : t = u.complete r d.idx status result flags) :
    (t.ringNos.filter fun q => t.rtype q = .img).foldr (fun q t => t.imgBegin q (t.ring q).outs.length) t = t := by
  have hci : u.get (R.HOST_RING_CI r) = d.idx := by
    have hr := h.ring
    refine (hu.regs _ ?_ ?_).trans h.turn
    · show 0x21000 ≤ 0x21014 + 0x40 * r
      omega
    · show 0x21014 + 0x40 * r < 0x22000
      omega
  obtain ⟨hone, hempty⟩ := complete_last h.ring ((congrArg RingS.outs (hu.ring r)).trans h.outs) hci
    status result flags
  rw [← hv] at hone hempty
  have hall := OneRing.trans (.kept (.refl r s) hu) hone
  refine State.imgBegin_none _ fun q hq => ?_
  by_cases hqr : q = r
  · rw [hqr, hempty]
  · have htype : s.rtype q = .img := by
      rw [← hall.types h.ring q]
      simpa using (List.mem_filter.1 hq).2
    rw [hall.others q hqr]
    by_cases hin : q ∈ s.ringNos
    · exact h.alone q hin hqr htype
    · rw [ring_unlisted hin]

/-- The end of the step: its completion, and nothing begins. -/
theorem LastStep.imgDone (h : LastStep s r d) {hm : HostMem} (hu : RingsKept s u) {st res : Nat}
    (heff : (if d.op = 2 then s.imgProgram r d hm else
      (s.imgEffect d).2.2.complete r d.idx (s.imgEffect d).1 (s.imgEffect d).2.1 0) = u.complete r d.idx st res 0) :
    s.imgDone r hm = u.complete r d.idx st res 0 := by
  have hwork : s.workRing r = r := workRing_busy h.ring (by simp [h.outs, h.busy])
  have hbusy : (s.ring r).outs.find? (·.busy) = some d := by simp [h.outs, h.busy]
  have hlast := h.imgBegin_none hu (status := st) (result := res) (flags := 0) rfl
  simp only [State.imgDone, hwork, hbusy, h.type, ne_eq, not_true_eq_false, if_false]
  rw [heff]
  exact hlast

end State
namespace State

variable {s t u : State} {r : Nat} {d : Desc}

theorem imgProgram_read {hm : HostMem} {b : Bytes}
    (hrd : s.hostRd hm (ringReq r) (pagesOf (fieldLE d.bytes 24 8) (fieldLE d.bytes 16 4)) (fieldLE d.bytes 24 8)
      (fieldLE d.bytes 16 4) = (b, none, u)) {a : Nat}
    (ha : a = slotBase (fieldLE d.bytes 8 1 % 2) + fieldLE d.bytes 12 4) :
    s.imgProgram r d hm = (u.flProg a b).complete r d.idx
      (if (u.flProg a b).flRd a (fieldLE d.bytes 16 4) = b then 0 else 1)
      (if (u.flProg a b).flRd a (fieldLE d.bytes 16 4) = b then 0 else 4) 0 := by
  subst ha
  simp only [imgProgram, hrd]
  split <;> rfl

/-- A completion leaves the flash and all else of the images, and the device. -/
theorem complete_img (s : State) (r idx status result flags : Nat) :
    (s.complete r idx status result flags).img = s.img ∧ (s.complete r idx status result flags).dev = s.dev := by
  have h := (complete_outward s r idx status result flags).inward
  exact ⟨(congrArg State.img h : State.img (inward _) = State.img (inward _)),
    (congrArg State.dev h : State.dev (inward _) = State.dev (inward _))⟩

theorem complete_flByte (s : State) (r idx status result flags a : Nat) :
    (s.complete r idx status result flags).flByte a = s.flByte a := by
  rw [flByte, flByte, (complete_img ..).1]

/-- A step that takes the VERIFY of its slot away is busy. -/
def unverified (s : State) (r : Nat) (d : Desc) (k : Nat) : State :=
  let t := s.updDesc r d.idx (fun e => { e with busy := true })
  { t with img := { t.img with verified := setBit t.img.verified k false } }

theorem unverified_shows (k : Nat) (houts : (s.ring r).outs = [d]) :
    bit (s.unverified r d k).img.verified k = false ∧ ((s.unverified r d k).ring r).outs = [{ d with busy := true }] ∧
      (s.unverified r d k).img.flash = s.img.flash := by
  refine ⟨(testBit_setBit _ _ _ _).trans (if_pos rfl), ?_, rfl⟩
  show ((s.updDesc r d.idx (fun e => { e with busy := true })).ring r).outs = _
  simp [updDesc, houts]

theorem commitRec_shows {o : CRec} {c k : Nat} (ho : s.newest = some (o, c)) (hk : k < 2)
    (hold : o.active = 1 - k) : ∃ q, (s.commitRec k).recOf (1 - c) = some q ∧
      q.seq = (o.seq + 1) % 2 ^ 32 ∧ q.active = k ∧ q.slot k = 1 ∧ q.slot (1 - k) = 1 := by
  have hfits := recOf_fits (newest_recOf ho).1
  have hnew : ({ ((o.put o.active 1).put k 1) with active := k } : CRec).Fits := by
    obtain ⟨-, hsa, hsb⟩ := (hfits.put o.active (v := 1) (by decide)).put k (v := 1) (by decide)
    exact ⟨hk, hsa, hsb⟩
  refine ⟨_, by rw [commitRec, record_newest ho]; exact writeRec_recOf ho hnew, rfl, rfl, ?_⟩
  rw [hold]
  obtain rfl | rfl : k = 0 ∨ k = 1 := by omega
  · exact ⟨rfl, rfl⟩
  · exact ⟨rfl, rfl⟩

theorem commitRec_ringsKept (s : State) (k : Nat) : RingsKept s (s.commitRec k) := by
  obtain ⟨seq, c, hput⟩ := writeRec_putRec s
    { ((s.record.put s.record.active 1).put k 1) with active := k }
  rw [commitRec, hput]
  exact putRec_ringsKept _ _ _ _

theorem LastStep.imgDone_effect (h : LastStep s r d) {hm : HostMem} (hop : d.op ≠ 2) {st res : Nat}
    (heff : s.imgEffect d = (st, res, u)) (hu : RingsKept s u) :
    s.imgDone r hm = u.complete r d.idx st res 0 :=
  h.imgDone hu (by rw [if_neg hop, heff])

/-- A VERIFY that passes is noted. -/
theorem imgEffect_verified (hop : d.op = 3) (hgood : s.imgBad (fieldLE d.bytes 8 1 % 2) false = none) :
    ∃ u, s.imgEffect d = (0, 0, u) ∧ RingsKept s u ∧ bit u.img.verified (fieldLE d.bytes 8 1 % 2) = true ∧
      u.img.flash = s.img.flash := by
  generalize hk : fieldLE d.bytes 8 1 % 2 = k at hgood ⊢
  refine ⟨{ s with img := { s.img with verified := setBit s.img.verified k true } }, ?_,
    ⟨rfl, fun _ _ _ => rfl⟩, (testBit_setBit _ _ _ _).trans (if_pos rfl), rfl⟩
  simp only [imgEffect, hop, hk, hgood]

theorem imgEffect_commit (s : State) (hop : d.op = 4) : ∃ u, s.imgEffect d = (0, 0, u) ∧ RingsKept s u ∧
    u.dev.committed = true ∧ u.img = (s.commitRec (fieldLE d.bytes 8 1 % 2)).img := by
  have hkept := s.commitRec_ringsKept (fieldLE d.bytes 8 1 % 2)
  have heff : s.imgEffect d = (0, 0, { s.commitRec (fieldLE d.bytes 8 1 % 2) with
      dev := { (s.commitRec (fieldLE d.bytes 8 1 % 2)).dev with committed := true } }) := by
    simp only [imgEffect, hop]
  refine ⟨_, heff, ?_⟩
  generalize s.commitRec (fieldLE d.bytes 8 1 % 2) = t at hkept
  exact ⟨⟨hkept.rings, hkept.regs⟩, rfl, rfl⟩

/-- What stands after the begin of an ERASE. -/
def eraseBegun (s : State) (r : Nat) (d : Desc) : State :=
  (s.unverified r d (fieldLE d.bytes 8 1 % 2)).writeRec
    ((s.unverified r d (fieldLE d.bytes 8 1 % 2)).record.put (fieldLE d.bytes 8 1 % 2) 2)

theorem eraseBegun_shows (s : State) (houts : (s.ring r).outs = [d]) :
    bit (s.eraseBegun r d).img.verified (fieldLE d.bytes 8 1 % 2) = false ∧
      ((s.eraseBegun r d).ring r).outs = [{ d with busy := true }] ∧
      ∀ o copy, s.newest = some (o, copy) → ∃ q, (s.eraseBegun r d).recOf (1 - copy) = some q ∧
        q.seq = (o.seq + 1) % 2 ^ 32 ∧ q.slot (fieldLE d.bytes 8 1 % 2) = 2 ∧
        q.slot (1 - fieldLE d.bytes 8 1 % 2) = o.slot (1 - fieldLE d.bytes 8 1 % 2) ∧ q.active = o.active ∧
        (s.eraseBegun r d).get (if fieldLE d.bytes 8 1 % 2 = 0 then F.DEV_IMG_STATE_A
          else F.DEV_IMG_STATE_B) = 2 := by
  have hk : fieldLE d.bytes 8 1 % 2 < 2 := Nat.mod_lt _ (by decide)
  unfold eraseBegun
  generalize fieldLE d.bytes 8 1 % 2 = k at hk ⊢
  obtain ⟨hver, hring, hflash⟩ := unverified_shows k houts
  generalize s.unverified r d k = v at hver hring hflash ⊢
  obtain ⟨seq, c, hput⟩ := writeRec_putRec v (v.record.put k 2)
  refine ⟨?_, ?_, fun o copy ho => ?_⟩
  · rw [hput]
    exact hver
  · rw [hput, (putRec_ringsKept v seq c _).ring]
    exact hring
  · have hv : v.newest = some (o, copy) := (newest_congr hflash).trans ho
    have hfits := (recOf_fits (newest_recOf ho).1).put k (v := 2) (by decide)
    obtain ⟨hslot, hother, hactive, -⟩ := o.put_slot hk 2
    rw [record_newest hv]
    refine ⟨_, writeRec_recOf hv hfits, rfl, ?_, ?_, hactive, ?_⟩
    · exact hslot
    · exact hother
    · rw [writeRec_newest hv, putRec_shows _ _ _ hfits hk, hslot]

/-! ## OTP key slots (R556, R557) -/

/-- A command of DEV_OTP_CMD. -/
def otpCmd (s : State) (c k : Nat) : State :=
  match c with
  | 1 => s.otpProgram k
  | 2 => s.otpRevoke k
  | _ => s.flag F.DEV_OTP_STAT_OTP_REJ

theorem hostW_otp (hs : s.Awake) {c k : Nat} (hc : c < 4) (hk : k < 8) :
    s.hostW R.DEV_OTP_CMD.addr (c + 4 * k) = s.otpCmd c k := by
  have hd : c + 4 * k < 2 ^ 32 := by omega
  have hbus : R.DEV_OTP_CMD.addr ≠ R.ETH_STEP_CMD.addr := by decide
  have hcmd : (c + 4 * k) % 4 = c := by omega
  have hslot : bits (c + 4 * k) 2 3 = k := by
    simp only [bits, Nat.shiftRight_eq_div_pow]
    omega
  rw [hostW_awake s hs rfl hd, busW_eq_busW1 s (wholeWrite R.DEV_OTP_CMD.addr _) hbus,
    busW1_dev s _ (by decide), wrDev, wholeWrite_a, if_neg (by decide), if_neg (by decide), if_pos rfl,
    wholeWrite_cmd _ hd, hcmd, hslot]
  rfl

theorem exec_otpProgram (hs : s.Awake) {k : Nat} (hk : k < 8) :
    exec (.otpProgram k) s = .next (s.otpProgram k) := by
  have hcmd : s.hostW R.DEV_OTP_CMD.addr (1 + 4 * k) = s.otpProgram k := hostW_otp hs (by decide) hk
  rw [← hcmd]
  exact if_pos (decide_eq_true hk)

theorem exec_otpRevoke (hs : s.Awake) {k : Nat} (hk : k < 8) :
    exec (.otpRevoke k) s = .next (s.otpRevoke k) := by
  have hcmd : s.hostW R.DEV_OTP_CMD.addr (2 + 4 * k) = s.otpRevoke k := hostW_otp hs (by decide) hk
  rw [← hcmd]
  exact if_pos (decide_eq_true hk)

theorem otpProgram_refused {k : Nat}
    (h : s.gst ≠ .config ∨ s.on F.DEV_OTP_STAT_OTP_BUSY = true ∨ bit s.img.prog k = true) :
    s.otpProgram k = s.set F.DEV_OTP_STAT_OTP_REJ 1 := by
  rw [otpProgram, if_pos, flag]
  rcases h with h | h | h <;> simp [h]

/-- Another key slot that is programmed and not revoked. -/
def OtherSlot (s : State) (k : Nat) : Prop :=
  ∃ j, j < 8 ∧ j ≠ k ∧ bit s.img.prog j = true ∧ bit s.img.revoked j = false

theorem otherSlot_iff (s : State) (k : Nat) : s.OtherSlot k ↔ ¬ ((List.range 8).filter (fun j =>
    j ≠ k && bit s.img.prog j && !bit s.img.revoked j)).isEmpty = true := by
  simp [OtherSlot, List.filter_eq_nil_iff, and_assoc]

theorem otpRevoke_refused {k : Nat} (h : s.get F.DEV_IMG_KEYSLOT = k ∨ ¬ s.OtherSlot k) :
    s.otpRevoke k = s.set F.DEV_OTP_STAT_OTP_REJ 1 := by
  rw [otherSlot_iff, not_not] at h
  rw [otpRevoke, if_pos, flag]
  rcases h with h | h <;> simp only [h, decide_true, Bool.or_true, Bool.true_or]

theorem otpRevoke_taken {k : Nat} (hst : s.gst = .config) (hidle : s.on F.DEV_OTP_STAT_OTP_BUSY = false)
    (hrun : s.get F.DEV_IMG_KEYSLOT ≠ k) (h : s.OtherSlot k) : s.otpRevoke k =
      ({ s with img := { s.img with revoked := setBit s.img.revoked k true } } : State).otpShow := by
  rw [otherSlot_iff, Bool.not_eq_true] at h
  rw [otpRevoke, if_neg]
  simp only [h, hst, hidle, hrun, decide_false, Bool.or_false, ne_eq, not_true_eq_false, Bool.false_eq_true,
    not_false_eq_true]

/-- OTP_STAT shows the key slots, bit by bit. -/
theorem otpShow_shows (s : State) {k : Nat} (hk : k < 8) :
    s.otpShow.bitOf F.DEV_OTP_STAT_PROG k = bit s.img.prog k ∧
      s.otpShow.bitOf F.DEV_OTP_STAT_REVOKED k = bit s.img.revoked k := by
  have hfit : F.DEV_OTP_STAT_PROG.lo + F.DEV_OTP_STAT_PROG.w ≤ 32 ∧
      F.DEV_OTP_STAT_REVOKED.lo + F.DEV_OTP_STAT_REVOKED.w ≤ 32 := by decide
  have hapart : F.DEV_OTP_STAT_REVOKED.Apart F.DEV_OTP_STAT_PROG := ⟨rfl, rfl, .inr (by decide)⟩
  have hbit (v : Nat) : (v % 2 ^ 8).testBit k = bit v k := by
    rw [Nat.testBit_mod_two_pow, decide_eq_true hk, Bool.true_and, bit]
  rw [bitOf, bitOf, otpShow, get_set_apart _ _ _ _ hfit.2 hapart, get_set _ _ _ hfit.1, get_set _ _ _ hfit.2]
  exact ⟨hbit _, hbit _⟩

/-- After the end of a PROGRAM: the slot is programmed with what it reads back (R556). -/
theorem otpDone_shows {k : Nat} {h : Bytes} (back : Bytes) (hotp : s.img.otp = some (k, h)) (hk : k < 8) :
    (s.otpDone back).img.otp = none ∧ bit (s.otpDone back).img.prog k = true ∧
      (s.otpDone back).bitOf F.DEV_OTP_STAT_PROG k = true ∧
      (s.otpDone back).on F.DEV_OTP_STAT_OTP_BUSY = false ∧
      sget (s.otpDone back).img.hash [] k = slice back 0 32 ∧
      (slice back 0 32 ≠ h → (s.otpDone back).on F.DEV_OTP_STAT_OTP_ERR = true) := by
  have hset : bit (setBit s.img.prog k true) k = true := (testBit_setBit _ _ _ _).trans (if_pos rfl)
  generalize hu : ({ s with img := { s.img with
    otp := none, prog := setBit s.img.prog k true, hash := sput s.img.hash [] k (slice back 0 32) } } : State) = u
  have hdone : s.otpDone back = (u.otpShow.set F.DEV_OTP_STAT_OTP_BUSY 0).when (slice back 0 32 ≠ h)
      (·.flag F.DEV_OTP_STAT_OTP_ERR) := by
    rw [← hu]
    simp only [otpDone, hotp]
  have himg : u.img = { s.img with
      otp := none, prog := setBit s.img.prog k true, hash := sput s.img.hash [] k (slice back 0 32) } := by
    rw [← hu]
  obtain ⟨hprog, -⟩ := otpShow_shows u hk
  have hfit : F.DEV_OTP_STAT_OTP_BUSY.lo + F.DEV_OTP_STAT_OTP_BUSY.w ≤ 32 ∧
      F.DEV_OTP_STAT_OTP_ERR.lo + F.DEV_OTP_STAT_OTP_ERR.w ≤ 32 := by decide
  have hbusy : F.DEV_OTP_STAT_OTP_BUSY.Apart F.DEV_OTP_STAT_PROG := ⟨rfl, rfl, .inr (by decide)⟩
  have herr : F.DEV_OTP_STAT_OTP_ERR.Apart F.DEV_OTP_STAT_PROG ∧
      F.DEV_OTP_STAT_OTP_ERR.Apart F.DEV_OTP_STAT_OTP_BUSY :=
    ⟨⟨rfl, rfl, .inr (by decide)⟩, ⟨rfl, rfl, by decide⟩⟩
  have hshow : (u.otpShow.set F.DEV_OTP_STAT_OTP_BUSY 0).bitOf F.DEV_OTP_STAT_PROG k = true := by
    rw [bitOf, get_set_apart _ _ _ _ hfit.1 hbusy]
    exact hprog.trans (by rw [himg]; exact hset)
  have hidle : (u.otpShow.set F.DEV_OTP_STAT_OTP_BUSY 0).on F.DEV_OTP_STAT_OTP_BUSY = false :=
    on_cleared _ rfl (by decide)
  have hkept : (u.otpShow.set F.DEV_OTP_STAT_OTP_BUSY 0).img = u.img := rfl
  rw [hdone]
  generalize u.otpShow.set F.DEV_OTP_STAT_OTP_BUSY 0 = v at hshow hidle hkept
  have hall (w : State) (hw : w.img = v.img) (hp : w.get F.DEV_OTP_STAT_PROG = v.get F.DEV_OTP_STAT_PROG)
      (hb : w.get F.DEV_OTP_STAT_OTP_BUSY = v.get F.DEV_OTP_STAT_OTP_BUSY) :
      w.img.otp = none ∧ bit w.img.prog k = true ∧ w.bitOf F.DEV_OTP_STAT_PROG k = true ∧
        w.on F.DEV_OTP_STAT_OTP_BUSY = false ∧ sget w.img.hash [] k = slice back 0 32 := by
    rw [hw, hkept, himg, bitOf, hp, on_congr hb]
    exact ⟨rfl, hset, hshow, hidle, sget_sput_same ..⟩
  by_cases hsame : slice back 0 32 = h
  · obtain ⟨h1, h2, h3, h4, h5⟩ := hall v rfl rfl rfl
    simp only [hsame, ne_eq, not_true_eq_false, decide_false, when_false]
    exact ⟨h1, h2, h3, h4, hsame ▸ h5, fun hne => hne.elim⟩
  · have hprog' : (v.set F.DEV_OTP_STAT_OTP_ERR 1).get F.DEV_OTP_STAT_PROG = v.get F.DEV_OTP_STAT_PROG :=
      get_set_apart v _ _ 1 hfit.2 herr.1
    have hbusy' : (v.set F.DEV_OTP_STAT_OTP_ERR 1).get F.DEV_OTP_STAT_OTP_BUSY = v.get F.DEV_OTP_STAT_OTP_BUSY :=
      get_set_apart v _ _ 1 hfit.2 herr.2
    obtain ⟨h1, h2, h3, h4, h5⟩ := hall (v.set F.DEV_OTP_STAT_OTP_ERR 1) (set_img ..) hprog' hbusy'
    rw [decide_eq_true hsame, when_true]
    exact ⟨h1, h2, h3, h4, h5, fun _ => on_flag v rfl (by decide)⟩

end State

/-- Settles O60, by the facts about the begin and the end of a step, commit records and the key slots. -/
theorem imageUpdatesAndKeySlots : Obligations.ImageUpdatesAndKeySlots := by
  refine ⟨?start, ?done, ?free, ?otp, ?otpDone⟩
  case start =>
    rintro s r hm d u op c hr hop hfetch houts hidle hfree rfl
    have hstart : (s.see hm).imgStart r op hm = u.imgBegin r 1 := by
      rw [State.imgStart, hfetch]
      dsimp only
      rw [houts]
      rfl
    have hexec : exec (if op = 1 then Instr.imgErase r hm else if op = 2 then .imgProgram r hm
        else if op = 3 then .imgVerify r hm else .imgCommit r hm) s = .next (u.imgBegin r 1) := by
      rw [← hstart]
      simp only [List.mem_cons, List.not_mem_nil, or_false] at hop
      rcases hop with rfl | rfl | rfl | rfl <;> exact gate_ring hr _
    refine ⟨fun k hc hst => ?_, ?_⟩
    · rw [hexec, State.imgBegin_fails hfree houts hst hc]
    · rintro k v hc hst hdop rfl rfl
      rw [State.Gives, hexec, State.imgBegin_begins hfree houts hst hc, hdop]
      refine ⟨fun h => ?_, ?_, ?_⟩
      · have h1 : op ≠ 1 := by omega
        have h2 : op ≠ 2 := by omega
        simp [h1, h2]
      · rintro rfl
        rfl
      · rintro rfl
        refine ⟨u.eraseBegun r d, ?_, State.eraseBegun_shows u houts⟩
        simp only [decide_true, Bool.true_or, State.when_true]
        rfl
  case done =>
    rintro s r hm d _ hr htype houts hbusy hci rfl halone
    have hlast : State.LastStep (s.see hm) r d := ⟨hr, htype, houts, hbusy, hci, halone⟩
    have hexec (u : State) (h : (s.see hm).imgDone r hm = u) : exec (.imgStepDone r hm) s = .next u := by
      rw [← h]
      exact gate_ring hr _
    refine ⟨fun hop => ?_, fun hop b u a len ha hlen hrd hb => ?_, fun hop => ⟨fun c hbad => ?_, fun hgood => ?_⟩,
      fun hop => ?_⟩
    · have heff : (s.see hm).imgEffect d = (0, 0, (s.see hm).flErase (fieldLE d.bytes 8 1 % 2)) := by
        simp only [State.imgEffect, hop]
      refine ⟨_, hexec _ (hlast.imgDone_effect (by omega) heff ⟨rfl, fun _ _ _ => rfl⟩), rfl, ?_⟩
      generalize fieldLE d.bytes 8 1 % 2 = k
      have hbyte (a : Nat) : ((((s.see hm).flErase k).complete r d.idx 0 0 0).flByte a) =
          if a < slotBase k ∨ slotBase k + slotSize ≤ a then s.flByte a else 0xFF :=
        (State.complete_flByte ..).trans ((s.see hm).flErase_byte k a)
      exact ⟨fun a hlo hhi => (hbyte a).trans (if_neg (by omega)), fun a ha => (hbyte a).trans (if_pos ha)⟩
    · subst hlen
      have hnoted : State.Noted (s.see hm) u := by
        have h := (s.see hm).hostRd_noted (pagesOf (fieldLE d.bytes 24 8) (fieldLE d.bytes 16 4)) hm
          (ringReq r) (fieldLE d.bytes 24 8) (fieldLE d.bytes 16 4)
        rwa [hrd] at h
      have hkept : State.RingsKept (s.see hm) (u.flProg a b) :=
        ⟨hnoted.rings, hnoted.ringsKept.regs⟩
      refine ⟨_, hexec _ (hlast.imgDone hkept ((if_pos hop).trans (State.imgProgram_read hrd ha))), ?_⟩
      have hflash (i : Nat) : u.flByte i = s.flByte i := by
        have himg : u.img = s.img :=
          (congrArg State.img hnoted.unnoted : u.unnoted.img = (s.see hm).unnoted.img)
        rw [State.flByte, State.flByte, himg]
      refine ⟨fun i hi => ?_, fun i hi => ?_, rfl⟩
      · rw [State.complete_flByte, State.flProg_inside u a b (by omega), hflash]
      · rw [State.complete_flByte, State.flProg_apart u a b (by omega), hflash]
    · have hnone : (s.see hm).imgEffect d = (1, 5 + c * 0x100, s.see hm) := by
        have hbad : (s.see hm).imgBad (fieldLE d.bytes 8 1 % 2) false = some c := hbad
        simp only [State.imgEffect, hop, hbad]
      exact hexec _ (hlast.imgDone_effect (by omega) hnone ⟨rfl, fun _ _ _ => rfl⟩)
    · obtain ⟨u, heff, hkept, hver, hflash⟩ := State.imgEffect_verified (s := s.see hm) hop hgood
      refine ⟨_, hexec _ (hlast.imgDone_effect (by omega) heff hkept), ?_⟩
      show bit (u.complete r d.idx 0 0 0).img.verified _ = true ∧ (u.complete r d.idx 0 0 0).img.flash = _
      rw [(State.complete_img ..).1]
      exact ⟨hver, hflash⟩
    · have hk : fieldLE d.bytes 8 1 % 2 < 2 := Nat.mod_lt _ (by decide)
      obtain ⟨u, heff, hkept, hdone, himg⟩ := State.imgEffect_commit (s.see hm) hop
      obtain ⟨himg', hdev⟩ := u.complete_img r d.idx 0 0 0
      have hcommitted : (u.complete r d.idx 0 0 0).dev.committed = true := by rw [hdev, hdone]
      refine ⟨_, hexec _ (hlast.imgDone_effect (by omega) heff hkept), hcommitted, fun o copy ho hold => ?_⟩
      have hflash : (u.complete r d.idx 0 0 0).img.flash =
          ((s.see hm).commitRec (fieldLE d.bytes 8 1 % 2)).img.flash := by
        rw [himg', himg]
      have hnew : (s.see hm).newest = some (o, copy) :=
        (State.newest_congr (s := s) (t := s.see hm) rfl).trans ho
      rw [State.recOf_congr hflash]
      exact State.commitRec_shows hnew hk hold
  case free =>
    intro s r hm hr hfree
    have hwork : (s.see hm).workRing r = r := State.workRing_free hfree
    have hnone : (s.ring r).outs.any (·.busy) = false :=
      hfree r (List.mem_append_left _ (List.mem_range.2 hr)) (Nat.mod_eq_of_lt hr)
    have hfind : ((s.see hm).ring r).outs.find? (·.busy) = none := by
      rw [List.find?_eq_none]
      exact fun d hd => by simpa using List.any_eq_false.1 hnone d hd
    have hdone : (s.see hm).imgDone r hm = s.see hm := by
      simp only [State.imgDone, hwork, hfind]
    rw [← hdone]
    exact gate_ring hr _
  case otp =>
    intro s k hk hs
    rw [State.exec_otpProgram hs hk, State.exec_otpRevoke hs hk]
    refine ⟨fun h => by rw [State.otpProgram_refused h], fun hst hidle hfree => ?_, fun h => ?_,
      fun hst hidle hrun hother => ?_⟩
    · refine ⟨_, State.exec_otpProgram hs hk, ?_⟩
      rw [State.otpProgram, if_neg (by simp [hst, hidle, hfree])]
      exact ⟨State.on_flag _ rfl (by decide), rfl⟩
    · rw [State.otpRevoke_refused (h.imp_right fun hall hother => ?_)]
      obtain ⟨j, hj, hne, hprog, hnot⟩ := hother
      exact Bool.false_ne_true (hnot.symm.trans (hall j hj hne hprog))
    · refine ⟨_, State.exec_otpRevoke hs hk, ?_⟩
      rw [State.otpRevoke_taken hst hidle hrun hother]
      have hbit (j : Nat) : bit (setBit s.img.revoked k true) j = if j = k then true else bit s.img.revoked j :=
        testBit_setBit _ _ _ _
      obtain ⟨-, hshow⟩ := State.otpShow_shows
        { s with img := { s.img with revoked := setBit s.img.revoked k true } } hk
      exact ⟨(hbit k).trans (if_pos rfl), hshow.trans ((hbit k).trans (if_pos rfl)),
        fun j hj => (hbit j).trans (if_neg hj)⟩
  case otpDone =>
    refine fun s back => ⟨fun hotp => ?_, fun k h hotp hk => ?_⟩
    · have hsame : s.otpDone back = s := by simp only [State.otpDone, hotp]
      exact congrArg Host.Outcome.next hsame
    · exact ⟨_, rfl, State.otpDone_shows back hotp hk⟩

end Sys2Proof.Machine
end

section
/-! SUPPORT. What 13_pair.md has refuted: ActClaimsAndHandover. -/

namespace Sys2Proof.Machine

open Sys2Proof

/-! ## A claim lost while an auto-tune stands -/

/-- The slot of the control engine whose CENG_OUT would lie at PAIR_FLAG. No part has it (R220), but
the statement speaks of every state. -/
def strayTune : TuneS := { slot := 0x8F01, entry := 0 }

theorem strayTune_addr : (R.CENG_OUT strayTune.slot).addr = R.PAIR_FLAG.addr := rfl

/-- A claimant of side B, in a part whose auto-tune is at work on the stray slot. -/
def strayClaim : State :=
  { State.reset with
    straps := { State.reset.straps with side := true }
    ceng := { tune := some strayTune }
    pair := { State.reset.pair with claim := .confirm } }

/-- The loss of the claim sets CLAIM_LOST and then, as the role becomes NIGHTWATCH, ends the auto-tune,
whose bias goes to the stray CENG_OUT. -/
theorem strayClaim_flag : strayClaim.actHigh.on F.PAIR_FLAG_CLAIM_LOST = false := by decide +kernel

/-- Refutes O50: ACT_IN high at a claimant of side B ends an auto-tune of any slot that the state names,
and the statement does not keep these to the slots that a part has, so a stray one clears CLAIM_LOST. -/
theorem not_actClaimsAndHandover : ¬ Obligations.ActClaimsAndHandover := by
  rintro ⟨hhigh, -⟩
  obtain ⟨-, hlost, -⟩ := hhigh strayClaim _ rfl
  obtain ⟨t, hexec, -, hflag, -⟩ := hlost rfl (.inl rfl)
  have ht : t = strayClaim.actHigh := (Host.Outcome.next.inj hexec).symm
  rw [ht, strayClaim_flag] at hflag
  exact Bool.false_ne_true hflag

end Sys2Proof.Machine
end

section
/-! SUPPORT. What 15_station_logic.md has refuted: LogicEngineCommandsAndCycles. -/

namespace Sys2Proof.Machine

open Sys2Proof

/-! ## A cycle skipped while time passes -/

/-- The trim channel number whose MOD_TRIM_STAT would lie at LOGIC_CNT_OVR. No part has it (R186), but
the statement speaks of every state. -/
def overrunTrim : Nat := 0xBE55

theorem overrunTrim_addr : (R.MOD_TRIM_STAT overrunTrim).addr = R.LOGIC_CNT_OVR.addr := rfl

/-- The logic engine of a holder in RUN, in a cycle still running at the boundary of period 0, while the
stray channel's counter stands at its PER. -/
def overrunState : State :=
  { ((({ State.reset with dev := { State.reset.dev with inReset := false } }.set
      F.DEV_STATE_STATE 4).set F.TIME_STATUS_PE_RUN 1).set F.PAIR_STAT_ROLE 2).set
      F.LOGIC_STAT_LSTATE 2 with
    logic := { State.reset.logic with inCycle := true }
    modu := { trims := [(overrunTrim, { running := true, count := 5000 })] } }

/-- The nanoseconds up to the boundary's offset wrap the stray counter, whose PER_FOLD is then bit 25 of
LOGIC_CNT_OVR; the skipped cycle is counted from there. -/
theorem overrunState_count : overrunState.cycleStart.get R.LOGIC_CNT_OVR = 2 ^ 25 + 1 := by
  decide +kernel

/-- Refutes O54: the time that passes up to a cycle boundary runs every trim counter that the state holds,
and the statement does not keep these to the channels that a part has, so a stray one changes the count of
skipped cycles before the skip does. -/
theorem not_logicEngineCommandsAndCycles : ¬ Obligations.LogicEngineCommandsAndCycles := by
  rintro ⟨-, -, -, -, hcycle⟩
  obtain ⟨-, hskip, -⟩ := hcycle overrunState
  obtain ⟨t, hexec, -, hcount, -⟩ := hskip (by decide) (by decide) (by decide)
  have ht : t = overrunState.cycleStart := (Host.Outcome.next.inj hexec).symm
  rw [ht, overrunState_count] at hcount
  exact absurd hcount (by decide)

end Sys2Proof.Machine
end

section
/-! SUPPORT. What 18_ethernet.md has refuted: EthernetPortsAndTimeBase. -/

namespace Sys2Proof.Machine

open Sys2Proof

/-! ## A pulse missed while time passes -/

/-- The trim channel number whose MOD_TRIM_STAT would lie at ETH_PPS_CFG. No part has it (R186), but the
statement speaks of every state. -/
def pulseTrim : Nat := 0x17E4A

theorem pulseTrim_addr : (R.MOD_TRIM_STAT pulseTrim).addr = F.ETH_PPS_CFG_PPS_OUT_EN.addr := rfl

/-- A part outside RESET with PPS_OUT enabled, a whole second before its next pulse, in which the stray
channel's counter stands at its PER. -/
def pulseState : State :=
  { ({ State.reset with dev := { State.reset.dev with inReset := false } }).set
      F.ETH_PPS_CFG_PPS_OUT_EN 1 with
    eth := { State.reset.eth with ppsAt := some 0 }
    modu := { trims := [(pulseTrim, { running := true, count := 5000 })] } }

theorem pulseState_due : pulseState.ppsDue = 1000000000 := by decide +kernel

theorem pulseState_room : pulseState.room 1000000000 = 1000000000 := by decide +kernel

/-- The second wraps the stray counter, whose PER_FOLD is then bit 13 of OUT_OFS, which puts the pulse
off: nothing comes out. -/
theorem pulseState_out :
    ((pulseState.pass 1000000000).ppsOut).out.length = (pulseState.pass 1000000000).out.length := by
  decide +kernel

/-- Refutes O58: the time that passes up to a pulse of PPS_OUT runs every trim counter that the state
holds, and the statement does not keep these to the channels that a part has, so a stray one moves
OUT_OFS before the pulse is due. -/
theorem not_ethernetPortsAndTimeBase : ¬ Obligations.EthernetPortsAndTimeBase := by
  rintro ⟨-, -, -, -, -, -, -, -, -, hpps, -⟩
  obtain ⟨-, hpulse, -⟩ := hpps pulseState rfl
  obtain ⟨t, hexec, -, hout, -⟩ := hpulse 1000000000 (by decide +kernel) pulseState_due.symm
    pulseState_room (by decide)
  have ht : t = (pulseState.pass 1000000000).ppsOut := by
    rw [← pulseState_room, ← pulseState_due]
    exact (Host.Outcome.next.inj hexec).symm
  rw [ht] at hout
  have hlength := congrArg List.length hout
  rw [pulseState_out, List.length_append] at hlength
  simp at hlength

end Sys2Proof.Machine
end

section
/-! SUPPORT. Writes that bring what stands there, the registers of a CAN controller, its queue, its error
states, its filters and its FIFO. Then what 19_can.md has proved: CanControllersAndTheirBuses. -/

namespace Sys2Proof.Machine

open Sys2Proof

/-! ## A write that brings what stands there -/

/-- A field written with the bits that it holds stays, but for one that a 1 clears (R6). -/
theorem FAcc.write_same {f : FAcc} (hacc : f.acc ≠ .W1C) (config : Bool) (v : Via) {mask data old : Nat}
    (h : ∀ i, mask.testBit i = true → data.testBit i = old.testBit i) :
    f.write config v mask data old = old := by
  have hbit (i : Nat) : (bits data f.lo f.w &&& bits mask f.lo f.w).testBit i =
      (bits old f.lo f.w &&& bits mask f.lo f.w).testBit i := by
    simp only [Nat.testBit_and, testBit_bits]
    cases hm : mask.testBit (f.lo + i)
    · simp
    · rw [h _ hm]
  have hsame : bits data f.lo f.w &&& bits mask f.lo f.w = bits old f.lo f.w &&& bits mask f.lo f.w :=
    Nat.eq_of_testBit_eq hbit
  have hor : bits old f.lo f.w ||| (bits old f.lo f.w &&& bits mask f.lo f.w) = bits old f.lo f.w := by
    refine Nat.eq_of_testBit_eq fun i => ?_
    simp only [Nat.testBit_or, Nat.testBit_and]
    cases (bits old f.lo f.w).testBit i <;> rfl
  have hmerge : (bits old f.lo f.w &&& (bits mask f.lo f.w ^^^ (2 ^ f.w - 1))) |||
      (bits old f.lo f.w &&& bits mask f.lo f.w) = bits old f.lo f.w := by
    refine Nat.eq_of_testBit_eq fun i => ?_
    simp only [Nat.testBit_or, Nat.testBit_and, Nat.testBit_xor, Nat.testBit_two_pow_sub_one, testBit_bits]
    cases decide (i < f.w) <;> cases old.testBit (f.lo + i) <;> cases mask.testBit (f.lo + i) <;> rfl
  unfold FAcc.write
  simp only [hsame, hmerge, hor, setBits_bits, ite_self]
  split
  · rfl
  · split
    next hc => exact absurd hc hacc
    · rfl
    · rfl

/-- A register written with the bits that it holds stays, where no field is cleared by a 1. -/
theorem RegRow.write_same {r : RegRow} (hacc : ∀ f ∈ r.fields, f.acc ≠ .W1C) (config : Bool) (v : Via)
    {mask data old : Nat} (h : ∀ i, mask.testBit i = true → data.testBit i = old.testBit i) :
    r.write config v mask data old = old := by
  unfold RegRow.write
  generalize r.fields = l at hacc
  induction l with
  | nil => rfl
  | cons f l ih =>
    rw [List.foldl_cons, FAcc.write_same (hacc f (List.mem_cons_self ..)) config v h]
    exact ih fun g hg => hacc g (List.mem_cons_of_mem _ hg)

/-- Such a write of a whole register leaves its word. -/
theorem State.plain_same (s : State) {w : BusWr} {r : RegRow} {f : Fld} (hrow : regRow? w.a = some r)
    (ha : f.addr = w.a) (hrst : f.rst = r.rst) (hacc : ∀ g ∈ r.fields, g.acc ≠ .W1C)
    (horg : orgOf w.a w.org = 0)
    (h : ∀ i, w.mask.testBit i = true → w.data.testBit i = (s.word f).testBit i) :
    (s.plain w).word f = s.word f := by
  have hf (t : State) : t.word f = t.word (rawFld w.a 0 r) :=
    State.word_congr t (by simp [rawFld, ha]) hrst
  rw [hf] at h
  unfold State.plain
  rw [hrow]
  simp only [horg]
  rw [RegRow.write_same hacc _ _ h, hf, hf, State.word_set _ _ _ (by simp [rawFld])]
  refine Nat.eq_of_testBit_eq fun i => ?_
  rw [testBit_setBits]
  simp [rawFld]

/-! ## The registers of a controller -/

/-- A field of a register of controller n with reset value 0, at an offset in the controller's block. -/
def canFld (n o lo w : Nat) : Fld := ⟨0xc0100 + o + 0x400 * n, 0, lo, w⟩

@[simp] theorem canCtrl_en (n : Nat) : F.CAN_CTRL_EN n = canFld n 0 0 1 := rfl
@[simp] theorem canCtrl_listen (n : Nat) : F.CAN_CTRL_LISTEN n = canFld n 0 1 1 := rfl
@[simp] theorem canCtrl_fdEn (n : Nat) : F.CAN_CTRL_FD_EN n = canFld n 0 2 1 := rfl
@[simp] theorem canCtrl_triple (n : Nat) : F.CAN_CTRL_TRIPLE n = canFld n 0 3 1 := rfl
@[simp] theorem canCtrl_abort (n : Nat) : F.CAN_CTRL_ABORT_ON_ALONE n = canFld n 0 4 1 := rfl
@[simp] theorem canStat_state (n : Nat) : F.CAN_STAT_STATE n = canFld n 0x10 0 2 := rfl
@[simp] theorem canStat_noAck (n : Nat) : F.CAN_STAT_NO_ACK_ALONE n = canFld n 0x10 2 1 := rfl
@[simp] theorem canStat_recovering (n : Nat) : F.CAN_STAT_RECOVERING n = canFld n 0x10 3 1 := rfl
@[simp] theorem canStat_tec (n : Nat) : F.CAN_STAT_TEC n = canFld n 0x10 4 8 := rfl
@[simp] theorem canStat_rec (n : Nat) : F.CAN_STAT_REC n = canFld n 0x10 12 8 := rfl
@[simp] theorem canStat_txq (n : Nat) : F.CAN_STAT_TXQ n = canFld n 0x10 20 6 := rfl
@[simp] theorem canStat_busOff (n : Nat) : F.CAN_STAT_BUSOFF_SEEN n = canFld n 0x10 27 1 := rfl
@[simp] theorem canStat_enRej (n : Nat) : F.CAN_STAT_EN_REJ n = canFld n 0x10 28 1 := rfl
@[simp] theorem canStat_code (n : Nat) : F.CAN_STAT_CODE n = canFld n 0x10 29 3 := rfl
@[simp] theorem canCnt_txOk (n : Nat) : R.CAN_CNT_TXOK n = canFld n 0x20 0 32 := rfl
@[simp] theorem canCnt_rxOk (n : Nat) : R.CAN_CNT_RXOK n = canFld n 0x24 0 32 := rfl
@[simp] theorem canCnt_rxOvf (n : Nat) : R.CAN_CNT_RXOVF n = canFld n 0x28 0 32 := rfl
@[simp] theorem canCnt_rxNoMatch (n : Nat) : R.CAN_CNT_RXNOMATCH n = canFld n 0x2c 0 32 := rfl
@[simp] theorem canCnt_busOff (n : Nat) : R.CAN_CNT_BUSOFF n = canFld n 0x30 0 32 := rfl

namespace State

variable {s t u : State} {n : Nat}

/-- The written field reads what was written, in its width. -/
@[simp] theorem get_set_canFld (s : State) (n o v : Nat) {lo w : Nat} (h : lo + w ≤ 32) :
    (s.set (canFld n o lo w) v).get (canFld n o lo w) = v % 2 ^ w :=
  get_set s _ v h

/-- A field of the same controller in another register, or beside the written one, stays. -/
@[simp] theorem get_set_canFld_apart (s : State) (n v : Nat) {o lo w o' lo' w' : Nat}
    (h : o ≠ o' ∨ lo + w ≤ 32 ∧ (lo + w ≤ lo' ∨ lo' + w' ≤ lo)) :
    (s.set (canFld n o lo w) v).get (canFld n o' lo' w') = s.get (canFld n o' lo' w') := by
  by_cases ho : o = o'
  · subst ho
    obtain h | ⟨hfit, h⟩ := h
    · exact absurd rfl h
    · exact get_set_apart s _ _ v hfit ⟨rfl, rfl, h⟩
  · refine get_set_ne s _ _ v ?_
    show 0xc0100 + o' + 0x400 * n ≠ 0xc0100 + o + 0x400 * n
    omega

theorem get_set_canFld_ne (s : State) (v : Nat) {o lo w : Nat} {f : Fld} (h : f.addr < 0xc0100) :
    (s.set (canFld n o lo w) v).get f = s.get f := by
  refine get_set_ne s _ _ v ?_
  show f.addr ≠ 0xc0100 + o + 0x400 * n
  omega

@[simp] theorem can_set (s : State) (f : Fld) (v k : Nat) : (s.set f v).can k = s.can k := rfl
@[simp] theorem can_emit (s : State) (o : Out) (k : Nat) : (s.emit o).can k = s.can k := rfl
@[simp] theorem can_fresh (s : State) (k : Nat) : s.fresh.2.can k = s.can k := rfl
@[simp] theorem get_fresh (s : State) (f : Fld) : s.fresh.2.get f = s.get f := rfl

@[simp] theorem can_setCan (s : State) (n : Nat) (x : CanS) : (s.setCan n x).can n = x :=
  sget_sput_same s.cans _ _ _

theorem setCan_eq (s : State) (n : Nat) (x : CanS) : s.setCan n x =
    ({ s with cans := sput s.cans {} n x } : State).set (canFld n 0x10 20 6) x.queue.length := by
  rw [setCan, canStat_txq]

@[simp] theorem get_setCan_txq (s : State) (n : Nat) (x : CanS) :
    (s.setCan n x).get (canFld n 0x10 20 6) = x.queue.length % 64 := by
  rw [setCan_eq, get_set_canFld _ _ _ _ (by decide)]
  rfl

@[simp] theorem get_setCan (s : State) (n : Nat) (x : CanS) {o lo w : Nat}
    (h : 0x10 ≠ o ∨ lo + w ≤ 20 ∨ 26 ≤ lo) :
    (s.setCan n x).get (canFld n o lo w) = s.get (canFld n o lo w) := by
  rw [setCan_eq, get_set_canFld_apart _ _ _ (h.imp_right fun h => ⟨by decide, h.symm⟩)]
  rfl

/-- The state without its registers, the CAN controllers, what has been sent and the choice of free
values. -/
def uncanned (s : State) : State := { s with regs := [], cans := [], out := [], free := 0 }

/-- From s to t nothing but the controllers, their registers and the choice of free values has changed,
and frames have been sent. -/
structure CanKept (s t : State) : Prop where
  rest : t.uncanned = s.uncanned
  get : ∀ f : Fld, f.addr < 0xc0100 → t.get f = s.get f
  sends : Sends s t

namespace CanKept

theorem refl (s : State) : CanKept s s := ⟨rfl, fun _ _ => rfl, .refl s⟩

theorem trans (h : CanKept s t) (k : CanKept t u) : CanKept s u :=
  ⟨k.rest.trans h.rest, fun f hf => (k.get f hf).trans (h.get f hf), h.sends.trans k.sends⟩

theorem set (h : CanKept s t) {o lo w : Nat} (n v : Nat) : CanKept s (t.set (canFld n o lo w) v) :=
  h.trans ⟨rfl, fun _ hf => get_set_canFld_ne t v hf, .same (.refl t) rfl⟩

theorem setCan (h : CanKept s t) (n : Nat) (x : CanS) : CanKept s (t.setCan n x) := by
  have hput : CanKept t { t with cans := sput t.cans {} n x } := ⟨rfl, fun _ _ => rfl, .same (.refl t) rfl⟩
  rw [setCan_eq]
  exact h.trans (hput.set n _)

theorem emit (h : CanKept s t) (o : Out) : CanKept s (t.emit o) :=
  h.trans ⟨rfl, fun _ _ => rfl, .emit (.refl t) o⟩

end CanKept

/-! ### Completions of a controller's frames -/

theorem Outward.can (h : Outward s t) (k : Nat) : t.can k = s.can k := by
  have hcans : t.cans = s.cans := (congrArg State.cans h.inward : t.inward.cans = s.inward.cans)
  show sget t.cans {} k = sget s.cans {} k
  rw [hcans]

theorem Outward.canFld (h : Outward s t) (hn : n < 2) {o lo w : Nat} (ho : o < 0x400) :
    t.get (canFld n o lo w) = s.get (canFld n o lo w) := by
  refine h.get _ (.inr (.inl ?_))
  show 0x30000 ≤ 0xc0100 + o + 0x400 * n ∧ 0xc0100 + o + 0x400 * n < 0xe0000
  omega

/-- The counts of the logic engine's frames (R459). -/
def canCount (status : Nat) : Fld := if status = 0 then R.LOGIC_CNT_CANOK else R.LOGIC_CNT_CANERR

theorem canComplete_none {e : CanTx} (h : e.ring = none) (s : State) (status result : Nat) :
    s.canComplete e status result = s.inc (canCount status) := by
  unfold canComplete canCount
  rw [h, apply_ite s.inc]

theorem canComplete_some {e : CanTx} {r idx : Nat} (h : e.ring = some (r, idx)) (s : State)
    (status result : Nat) : s.canComplete e status result = s.complete r idx status result 0 := by
  unfold canComplete
  rw [h]

theorem canCount_addr (status : Nat) : (canCount status).addr < 0x80070 := by
  unfold canCount
  split <;> decide

theorem cpl_sends (s : State) (r : Nat) (c : Cpl) : Sends s (s.cpl r c) :=
  .ite (setRing_sends _ _ _) (.ite (setRing_sends _ _ _)
    (.trans (.trans (hostWr_sends ..) (cplWrite_sends ..)) (cplRelease_sends _ _ _)))

theorem complete_sends (s : State) (r idx status result flags : Nat) :
    Sends s (s.complete r idx status result flags) := by
  unfold complete
  split
  · exact .refl s
  · exact cpl_sends s r _

/-- A completion leaves the controllers and their registers. -/
theorem canComplete_kept (s : State) (e : CanTx) (status result : Nat) :
    (∀ k, (s.canComplete e status result).can k = s.can k) ∧
    (∀ n o lo w, n < 2 → o < 0x400 →
      (s.canComplete e status result).get (canFld n o lo w) = s.get (canFld n o lo w)) ∧
    Sends s (s.canComplete e status result) := by
  rcases hr : e.ring with _ | ⟨r, idx⟩
  · rw [canComplete_none hr]
    refine ⟨fun _ => rfl, fun n o lo w _ _ => get_set_ne s _ _ _ ?_, .set (.refl s) _ _⟩
    have := canCount_addr status
    show 0xc0100 + o + 0x400 * n ≠ (canCount status).addr
    omega
  · rw [canComplete_some hr]
    have hout := complete_outward s r idx status result 0
    exact ⟨hout.can, fun n o lo w hn ho => hout.canFld hn ho, complete_sends ..⟩

theorem canCancelAll_kept (l : List CanTx) (s : State) :
    (∀ k, (s.canCancelAll l).can k = s.can k) ∧
    (∀ n o lo w, n < 2 → o < 0x400 →
      (s.canCancelAll l).get (canFld n o lo w) = s.get (canFld n o lo w)) := by
  induction l generalizing s with
  | nil => exact ⟨fun _ => rfl, fun _ _ _ _ _ _ => rfl⟩
  | cons e l ih =>
    obtain ⟨hcan, hget, -⟩ := canComplete_kept s e 4 0
    obtain ⟨icans, iget⟩ := ih (s.canComplete e 4 0)
    exact ⟨fun k => (icans k).trans (hcan k),
      fun n o lo w hn ho => (iget n o lo w hn ho).trans (hget n o lo w hn ho)⟩

/-! ### Error states (R538) -/

theorem canTec_lt (s : State) (n : Nat) : s.get (canFld n 0x10 4 8) < 256 := s.get_lt _

/-- TEC and REC of a controller that stays on the bus, with the error state that they call for. -/
def canJudged (s : State) (n tec r : Nat) : State :=
  ((s.set (canFld n 0x10 4 8) tec).set (canFld n 0x10 12 8) (min r 255)).set (canFld n 0x10 0 2)
    (if 127 < tec ∨ 127 < r then 2 else 1)

theorem canJudge_low (s : State) (n r : Nat) {tec : Nat} (h : tec ≤ 255) :
    s.canJudge n tec r = s.canJudged n tec r := by
  simp only [canJudge, if_neg (Nat.not_lt.2 h), canStat_tec, canStat_rec, canStat_state, canJudged,
    Bool.or_eq_true, decide_eq_true_eq, gt_iff_lt]

/-- A controller whose TEC passes 255 is bus-off, with a free TEC. -/
theorem canJudge_high (s : State) (n r : Nat) {tec : Nat} (h : 255 < tec) : s.canJudge n tec r =
    (((s.fresh.2.set (canFld n 0x10 4 8) (s.fresh.1 % 256)).set (canFld n 0x10 0 2) 3).flag
      (canFld n 0x10 27 1)).inc (canFld n 0x30 0 32) := by
  simp only [canJudge, if_pos h, canStat_tec, canStat_state, canStat_busOff, canCnt_busOff]

@[simp] theorem canJudged_can (s : State) (n tec r k : Nat) : (s.canJudged n tec r).can k = s.can k := rfl

@[simp] theorem canJudged_tec (s : State) (n r : Nat) {tec : Nat} (h : tec ≤ 255) :
    (s.canJudged n tec r).get (canFld n 0x10 4 8) = tec := by
  simp [canJudged, Nat.mod_eq_of_lt (Nat.lt_succ_of_le h)]

@[simp] theorem canJudged_rec (s : State) (n tec r : Nat) :
    (s.canJudged n tec r).get (canFld n 0x10 12 8) = min r 255 := by
  simp [canJudged]

@[simp] theorem canJudged_state (s : State) (n tec r : Nat) :
    (s.canJudged n tec r).get (canFld n 0x10 0 2) = if 127 < tec ∨ 127 < r then 2 else 1 := by
  simp only [canJudged, get_set_canFld _ _ _ _ (show 0 + 2 ≤ 32 by decide)]
  split <;> rfl

/-- What is neither STATE nor TEC nor REC stays. -/
@[simp] theorem canJudged_get (s : State) (n tec r : Nat) {o lo w : Nat}
    (h : 0x10 ≠ o ∨ 20 ≤ lo ∨ 2 ≤ lo ∧ lo + w ≤ 4) :
    (s.canJudged n tec r).get (canFld n o lo w) = s.get (canFld n o lo w) := by
  unfold canJudged
  rw [get_set_canFld_apart, get_set_canFld_apart, get_set_canFld_apart] <;> omega

theorem canJudged_kept (s : State) (n tec r : Nat) : CanKept s (s.canJudged n tec r) :=
  .set (.set (.set (.refl s) _ _) _ _) _ _

/-- A frame acknowledged (R538). -/
theorem canTxGood_eq (s : State) (n : Nat) : s.canTxGood n =
    ((s.setCan n { s.can n with acks := 0 }).set (canFld n 0x10 2 1) 0).canJudged n
      (s.get (canFld n 0x10 4 8) - 1) (s.get (canFld n 0x10 12 8)) := by
  have htec := s.canTec_lt n
  unfold canTxGood
  extract_lets x u
  have ht : u.get (canFld n 0x10 4 8) = s.get (canFld n 0x10 4 8) := get_setCan s n _ (by decide)
  have hr : u.get (canFld n 0x10 12 8) = s.get (canFld n 0x10 12 8) := get_setCan s n _ (by decide)
  rw [canStat_noAck, canStat_tec, canStat_rec, ht, hr, canJudge_low _ _ _ (by omega)]

/-- The end of a frame takes no controller off the bus that is not to leave it (R540). -/
theorem canEnd_stays (h : (s.can n).ending = false) : s.canEnd n = s := by
  rw [canEnd, h, if_neg Bool.false_ne_true]

theorem canPop_cons {e : CanTx} {rest : List CanTx} (h : (s.can n).queue = e :: rest) (status result : Nat) :
    s.canPop n status result = (s.setCan n { s.can n with queue := rest }).canComplete e
      (if status = 0 && e.cancelled then 5 else status) result := by
  rw [canPop, h]


/-! ### Frames sent (R535, R536) -/

theorem canTxGood_can (s : State) (n : Nat) : (s.canTxGood n).can n = { s.can n with acks := 0 } := by
  rw [canTxGood_eq, canJudged_can, can_set, can_setCan]

theorem canTxGood_tec (s : State) (n : Nat) :
    (s.canTxGood n).get (canFld n 0x10 4 8) = s.get (canFld n 0x10 4 8) - 1 := by
  have := s.canTec_lt n
  rw [canTxGood_eq, canJudged_tec _ _ _ (by omega)]

theorem canTxGood_noAck (s : State) (n : Nat) : (s.canTxGood n).on (canFld n 0x10 2 1) = false := by
  rw [on, canTxGood_eq, canJudged_get _ _ _ _ (by decide), get_set_canFld _ _ _ _ (by decide)]
  rfl

theorem canTxGood_get (s : State) (n : Nat) {o lo w : Nat} (h : 0x10 ≠ o) :
    (s.canTxGood n).get (canFld n o lo w) = s.get (canFld n o lo w) := by
  rw [canTxGood_eq, canJudged_get _ _ _ _ (.inl h), get_set_canFld_apart _ _ _ (.inl h),
    get_setCan _ _ _ (.inl h)]

theorem canTxGood_kept (s : State) (n : Nat) : CanKept s (s.canTxGood n) := by
  rw [canTxGood_eq]
  exact (CanKept.set (.setCan (.refl s) _ _) _ _).trans (canJudged_kept ..)

theorem canInc_get (s : State) (n o : Nat) : (s.inc (canFld n o 0 32)).get (canFld n o 0 32) =
    satInc 32 (s.get (canFld n o 0 32)) := by
  rw [inc, get_set_canFld _ _ _ _ (by decide)]
  exact Nat.mod_eq_of_lt (satInc_lt 32 _)

theorem canSent_ignored (h : s.canOn n = false ∨ s.on (F.CAN_CTRL_LISTEN n) = true) (sync : Bool) (ago : Nat) :
    s.canSent n sync ago = s := by
  unfold canSent
  rcases h with h | h <;> simp only [h, Bool.not_true, Bool.and_false, Bool.false_and,
    Bool.false_eq_true, if_false]

/-- A waiting SYNC frame sent, up to its acknowledgement. -/
def canSyncOut (s : State) (n id : Nat) : State :=
  ((s.setCan n { s.can n with sync := none }).inc (canFld n 0x20 0 32)).emit (.can n id 0 [])

theorem canSyncOut_can (s : State) (n id : Nat) :
    (s.canSyncOut n id).can n = { s.can n with sync := none } := by
  rw [canSyncOut, can_emit, inc, can_set, can_setCan]

/-- The head of the queue sent, up to its acknowledgement. -/
def canHeadOut (s : State) (n : Nat) (e : CanTx) : State :=
  (s.inc (canFld n 0x20 0 32)).emit (.can n e.id e.fmt e.data)

/-- What a completion reads of a ring is no part of a controller. -/
theorem CanKept.ringView (h : CanKept s t) {r : Nat} (hr : r < 32) (idx tag status result : Nat) :
    t.desc? r idx = s.desc? r idx ∧ t.slotAt r idx = s.slotAt r idx ∧
    (∀ pidx, t.cplArea r tag status result pidx 0 = s.cplArea r tag status result pidx 0) ∧
    t.rtype r = s.rtype r ∧ t.pidx32 = s.pidx32 ∧
    t.on F.IOMMU_CTRL_MODE = s.on F.IOMMU_CTRL_MODE := by
  have hhost : t.host = s.host := (congrArg State.host h.rest : t.uncanned.host = s.uncanned.host)
  have htime : t.time = s.time := (congrArg State.time h.rest : t.uncanned.time = s.uncanned.time)
  have hring (base : Nat) (rst lo w : Nat) (hb : base < 0x22000) :
      t.get ⟨base + 0x40 * r, rst, lo, w⟩ = s.get ⟨base + 0x40 * r, rst, lo, w⟩ :=
    h.get _ (show base + 0x40 * r < 0xc0100 by omega)
  have hon (f : Fld) (hf : f.addr < 0xc0100) : t.on f = s.on f := on_congr (h.get f hf)
  have htype : t.rtype r = s.rtype r := by
    have hcode : t.get (F.HOST_RING_CFG_TYPE r) = s.get (F.HOST_RING_CFG_TYPE r) :=
      hring 0x21000 0x100 2 4 (by decide)
    have hlt : r < Config.rings := hr
    rw [rtype, rtype, rtypeCode, rtypeCode, if_pos hlt, if_pos hlt, hcode]
  have habi : t.abi = s.abi := by
    rw [abi, abi, abi?, abi?, hon _ (by decide), h.get _ (by decide)]
  refine ⟨by rw [desc?, desc?, ring, ring, hhost], ?_, fun pidx => ?_, htype, ?_, hon _ (by decide)⟩
  · have hhi : t.get (R.HOST_RING_BASE_HI r) = s.get (R.HOST_RING_BASE_HI r) :=
      hring 0x21008 0 0 32 (by decide)
    have hlo : t.get (R.HOST_RING_BASE_LO r) = s.get (R.HOST_RING_BASE_LO r) :=
      hring 0x21004 0 0 32 (by decide)
    have hsize : t.get (F.HOST_RING_CFG_SIZE r) = s.get (F.HOST_RING_CFG_SIZE r) :=
      hring 0x21000 0x100 6 5 (by decide)
    rw [slotAt, slotAt, hhi, hlo, hsize]
  · have hsub : t.get (F.HOST_RING_CFG_SUB r) = s.get (F.HOST_RING_CFG_SUB r) :=
      hring 0x21000 0x100 11 3 (by decide)
    rw [cplArea, cplArea, ringSrc, ringSrc, htype, hsub, habi, h.get _ (by decide)]
  · rw [pidx32, pidx32, peRun, peRun, hon _ (by decide), htime]

section
variable (hon : s.canOn n = true) (hl : s.on (F.CAN_CTRL_LISTEN n) = false)
  (hend : (s.can n).ending = false)
include hon hl hend

theorem canSent_sync {id : Nat} (h : (s.can n).sync = some id) (ago : Nat) :
    s.canSent n true ago = (s.canSyncOut n id).canTxGood n := by
  have hstays : (((s.canSyncOut n id).canTxGood n).can n).ending = false := by
    rw [canTxGood_can, canSyncOut_can]
    exact hend
  rw [← canEnd_stays hstays]
  simp only [canSent, hon, hl, h, canCnt_txOk, canSyncOut, Bool.not_false, Bool.and_self, if_true]

theorem canSent_head {e : CanTx} {rest : List CanTx} (h : (s.can n).queue = e :: rest) (ago : Nat) :
    s.canSent n false ago = (((s.canHeadOut n e).canTxGood n).setCan n
      { s.can n with acks := 0, queue := rest }).canComplete e (if e.cancelled then 5 else 0)
        ((s.canCnt + 2 ^ 32 - ago % 2 ^ 32) % 2 ^ 32) := by
  have hcan : ((s.canHeadOut n e).canTxGood n).can n = { s.can n with acks := 0 } := canTxGood_can _ n
  have hpop := canPop_cons (s := (s.canHeadOut n e).canTxGood n) (n := n) (e := e) (rest := rest)
    (by rw [hcan]; exact h) 0 ((s.canCnt + 2 ^ 32 - ago % 2 ^ 32) % 2 ^ 32)
  rw [hcan] at hpop
  simp only [decide_true, Bool.true_and] at hpop
  rw [← hpop]
  have hstays : ((((s.canHeadOut n e).canTxGood n).canPop n 0
      ((s.canCnt + 2 ^ 32 - ago % 2 ^ 32) % 2 ^ 32)).can n).ending = false := by
    rw [hpop, (canComplete_kept ..).1, can_setCan]
    exact hend
  rw [← canEnd_stays hstays]
  simp only [canSent, hon, hl, h, canCnt_txOk, canHeadOut, Bool.not_false, Bool.and_self, if_true,
    Bool.false_eq_true, if_false]

/-- A SYNC frame sent: its slot is free, the frame is out, counted, TEC lower (R535). -/
theorem canSent_sync_facts {id : Nat} (h : (s.can n).sync = some id) (ago : Nat) :
    ((s.canSent n true ago).can n).sync = none ∧ ((s.canSent n true ago).can n).queue = (s.can n).queue ∧
    ((s.canSent n true ago).can n).acks = 0 ∧ Out.can n id 0 [] ∈ (s.canSent n true ago).out ∧
    (s.canSent n true ago).get (R.CAN_CNT_TXOK n) = satInc 32 (s.get (R.CAN_CNT_TXOK n)) ∧
    (s.canSent n true ago).get (F.CAN_STAT_TEC n) = s.get (F.CAN_STAT_TEC n) - 1 ∧
    (s.canSent n true ago).on (F.CAN_STAT_NO_ACK_ALONE n) = false := by
  rw [canSent_sync hon hl hend h, canTxGood_can, canSyncOut_can]
  refine ⟨rfl, rfl, rfl, (canTxGood_kept _ n).sends.mem ?_, ?_, ?_, canTxGood_noAck _ n⟩
  · rw [canSyncOut]
    exact List.mem_append_right _ (List.mem_singleton_self _)
  · rw [canCnt_txOk, canTxGood_get _ _ (by decide), canSyncOut, get_emit, canInc_get,
      get_setCan _ _ _ (by decide)]
  · rw [canStat_tec, canTxGood_tec, canSyncOut, get_emit, inc, get_set_canFld_apart _ _ _ (by decide),
      get_setCan _ _ _ (by decide)]

/-- The head of the queue before it completes: sent, acknowledged, taken out. -/
def canHeadGone (s : State) (n : Nat) (e : CanTx) (rest : List CanTx) : State :=
  ((s.canHeadOut n e).canTxGood n).setCan n { s.can n with acks := 0, queue := rest }

omit hon hl hend in
theorem canHeadGone_kept (s : State) (n : Nat) (e : CanTx) (rest : List CanTx) :
    CanKept s (s.canHeadGone n e rest) :=
  .setCan (.trans (.emit (.set (.refl s) _ _) _) (canTxGood_kept ..)) _ _

theorem canSent_head_facts (hn : n < 2) {e : CanTx} {rest : List CanTx} (h : (s.can n).queue = e :: rest)
    (ago : Nat) :
    ((s.canSent n false ago).can n).queue = rest ∧ ((s.canSent n false ago).can n).acks = 0 ∧
    Out.can n e.id e.fmt e.data ∈ (s.canSent n false ago).out ∧
    (s.canSent n false ago).get (F.CAN_STAT_TXQ n) = rest.length % 64 ∧
    (s.canSent n false ago).get (R.CAN_CNT_TXOK n) = satInc 32 (s.get (R.CAN_CNT_TXOK n)) ∧
    (s.canSent n false ago).get (F.CAN_STAT_TEC n) = s.get (F.CAN_STAT_TEC n) - 1 ∧
    (s.canSent n false ago).on (F.CAN_STAT_NO_ACK_ALONE n) = false := by
  obtain ⟨hcan, hget, hsends⟩ := canComplete_kept (s.canHeadGone n e rest) e (if e.cancelled then 5 else 0)
    ((s.canCnt + 2 ^ 32 - ago % 2 ^ 32) % 2 ^ 32)
  rw [canSent_head hon hl hend h, ← canHeadGone]
  generalize (s.canHeadGone n e rest).canComplete e _ _ = t at hcan hget hsends
  rw [hcan, canCnt_txOk, canStat_txq, canStat_tec, canStat_noAck, hget n _ _ _ hn (by decide),
    hget n _ _ _ hn (by decide), hget n _ _ _ hn (by decide), on, hget n _ _ _ hn (by decide), canHeadGone,
    can_setCan, get_setCan_txq]
  refine ⟨rfl, rfl, hsends.mem ?_, rfl, ?_, ?_, ?_⟩
  · have hout : Out.can n e.id e.fmt e.data ∈ (s.canHeadOut n e).out :=
      List.mem_append_right _ (List.mem_singleton_self _)
    exact (CanKept.setCan (canTxGood_kept _ n) _ _).sends.mem hout
  · rw [get_setCan _ _ _ (by decide), canTxGood_get _ _ (by decide), canHeadOut, get_emit, canInc_get]
  · rw [get_setCan _ _ _ (by decide), canTxGood_tec, canHeadOut, get_emit, inc,
      get_set_canFld_apart _ _ _ (by decide)]
  · rw [get_setCan _ _ _ (by decide)]
    exact canTxGood_noAck _ n

/-- A frame of the logic engine sent counts there (R459). -/
theorem canSent_logic {e : CanTx} {rest : List CanTx} (h : (s.can n).queue = e :: rest) (ago : Nat)
    (hring : e.ring = none) (hc : e.cancelled = false) :
    (s.canSent n false ago).get R.LOGIC_CNT_CANOK = satInc 32 (s.get R.LOGIC_CNT_CANOK) := by
  rw [canSent_head hon hl hend h, ← canHeadGone, canComplete_none hring, hc, inc,
    (canHeadGone_kept s n e rest).get _ (by decide)]
  exact (get_set _ R.LOGIC_CNT_CANOK _ (by decide)).trans (Nat.mod_eq_of_lt (satInc_lt 32 _))

/-- A frame of a ring sent completes its SEND with its stamp (R534). -/
theorem canSent_ring {e : CanTx} {rest : List CanTx} (h : (s.can n).queue = e :: rest) (ago : Nat)
    {r idx : Nat} {d : Desc} (hring : e.ring = some (r, idx)) (hd : s.desc? r idx = some d)
    (horder : (s.rtype r).inOrder = false) (hlate : d.cancelLate = false)
    (hmode : s.on F.IOMMU_CTRL_MODE = false) (hr : r < 32) (hpage : (s.slotAt r idx + 48) % 4096 ≤ 4080) :
    Out.host (s.slotAt r idx + 48) (s.cplArea r d.tag (if e.cancelled then 5 else 0)
      ((s.canCnt + 2 ^ 32 - ago % 2 ^ 32) % 2 ^ 32) s.pidx32 0) ∈ (s.canSent n false ago).out := by
  rw [canSent_head hon hl hend h, ← canHeadGone, canComplete_some hring]
  have hkept := canHeadGone_kept s n e rest
  generalize s.canHeadGone n e rest = u at hkept
  generalize (s.canCnt + 2 ^ 32 - ago % 2 ^ 32) % 2 ^ 32 = stamp
  generalize (if e.cancelled then 5 else 0) = st
  obtain ⟨hdu, hslot, harea, hrt, hpidx, hm⟩ := hkept.ringView hr idx d.tag st stamp
  rw [← harea, ← hslot, ← hpidx]
  refine complete_writes_area stamp 0 hr (hdu.trans hd) (by rw [hrt]; exact horder) hlate
    (by rw [hslot]; exact hpage) ?_
  rw [xlate, hm, hmode]
  rfl

end


/-! ### Errors on the bus (R537 to R539) -/

@[simp] theorem canJudge_can (s : State) (n tec r k : Nat) : (s.canJudge n tec r).can k = s.can k := by
  by_cases h : tec ≤ 255
  · rw [canJudge_low _ _ _ h, canJudged_can]
  · rw [canJudge_high _ _ _ (Nat.lt_of_not_le h), inc, can_set, flag, can_set, can_set, can_set, can_fresh]

theorem canJudge_tec (s : State) (n r : Nat) {tec : Nat} (h : tec ≤ 255) :
    (s.canJudge n tec r).get (canFld n 0x10 4 8) = tec := by
  rw [canJudge_low _ _ _ h, canJudged_tec _ _ _ h]

theorem canJudge_state (s : State) (n r : Nat) {tec : Nat} (h : tec ≤ 255) :
    (s.canJudge n tec r).get (canFld n 0x10 0 2) = if 127 < tec ∨ 127 < r then 2 else 1 := by
  rw [canJudge_low _ _ _ h, canJudged_state]

/-- Bus-off is a state, a flag and a count (R538). -/
theorem canJudge_busOff (s : State) (n r : Nat) {tec : Nat} (h : 255 < tec) :
    (s.canJudge n tec r).get (canFld n 0x10 0 2) = 3 ∧ (s.canJudge n tec r).on (canFld n 0x10 27 1) = true ∧
    (s.canJudge n tec r).get (canFld n 0x30 0 32) = satInc 32 (s.get (canFld n 0x30 0 32)) := by
  rw [canJudge_high _ _ _ h]
  refine ⟨?_, ?_, ?_⟩
  · rw [inc, flag, get_set_canFld_apart _ _ _ (by decide), get_set_canFld_apart _ _ _ (by decide),
      get_set_canFld _ _ _ _ (by decide)]
    rfl
  · rw [on, inc, flag, get_set_canFld_apart _ _ _ (by decide), get_set_canFld _ _ _ _ (by decide)]
    rfl
  · rw [canInc_get, flag, get_set_canFld_apart _ _ _ (by decide), get_set_canFld_apart _ _ _ (by decide),
      get_set_canFld_apart _ _ _ (by decide), get_fresh]

/-- The controller with a count of consecutive acknowledgement errors. -/
def canAcks (s : State) (n a : Nat) : State := s.setCan n { s.can n with acks := a }

theorem canAcks_can (s : State) (n a : Nat) : (s.canAcks n a).can n = { s.can n with acks := a } :=
  can_setCan ..

/-- The controller after an error of one kind on its frame. -/
def canErred (s : State) (n : Nat) : CanTxErr → State
  | .lost => s
  | .error => (s.canAcks n 0).canJudge n (s.get (canFld n 0x10 4 8) + 8) (s.get (canFld n 0x10 12 8))
  | .noAck =>
    if s.get (canFld n 0x10 0 2) = 2 then s.canAcks n ((s.can n).acks + 1)
    else (s.canAcks n ((s.can n).acks + 1)).canJudge n (s.get (canFld n 0x10 4 8) + 8)
      (s.get (canFld n 0x10 12 8))

/-- The count of consecutive acknowledgement errors after an error of one kind. -/
def canAcksAfter (a : Nat) : CanTxErr → Nat
  | .lost => a
  | .error => 0
  | .noAck => a + 1

theorem canErred_can (s : State) (n : Nat) (k : CanTxErr) :
    (s.canErred n k).can n = { s.can n with acks := canAcksAfter (s.can n).acks k } := by
  cases k with
  | lost => rfl
  | error => rw [canErred, canJudge_can, canAcks_can, canAcksAfter]
  | noAck =>
    rw [canErred, apply_ite (State.can · n), canJudge_can, ite_self, canAcks_can, canAcksAfter]

/-- Without a frame there is no error on one. -/
theorem canTxError_idle (hq : (s.can n).queue = []) (hsync : (s.can n).sync = none) (k : CanTxErr) :
    s.canTxError n k = s := by
  simp [canTxError, hq, hsync]

/-- An error on the head of the queue, for which no cancel waits. -/
theorem canTxError_head {e : CanTx} {rest : List CanTx} (hon : s.canOn n = true)
    (hl : s.on (F.CAN_CTRL_LISTEN n) = false) (hend : (s.can n).ending = false)
    (hq : (s.can n).queue = e :: rest) (hc : e.cancelled = false) (k : CanTxErr) :
    s.canTxError n k = s.canErred n k := by
  have hcan := s.canErred_can n k
  have hqueue : ((s.canErred n k).can n).queue = e :: rest := by rw [hcan]; exact hq
  have hstays : ((s.canErred n k).can n).ending = false := by rw [hcan]; exact hend
  have hbusy : (s.canOn n && !s.on (F.CAN_CTRL_LISTEN n) &&
      ((s.can n).sync.isSome || decide ((s.can n).queue ≠ []))) = true := by
    rw [hon, hl, hq]
    simp
  rw [← canEnd_stays hstays, canTxError]
  simp only [hbusy, if_true, canStat_state, canStat_tec, canStat_rec]
  cases k with
  | lost => simp only [hq, hc, Bool.false_eq_true, if_false, canErred]
  | error =>
    simp only [canJudge_can, can_setCan, hq, hc, Bool.false_eq_true, if_false, canErred, canAcks]
  | noAck =>
    by_cases hpas : s.get (canFld n 0x10 0 2) = 2
    · simp only [hpas, if_true, can_setCan, hq, hc, Bool.false_eq_true, if_false, canErred, canAcks]
    · simp only [hpas, if_false, canJudge_can, can_setCan, hq, hc, Bool.false_eq_true, canErred, canAcks]

theorem canTxError_facts {e : CanTx} {rest : List CanTx} (hon : s.canOn n = true)
    (hl : s.on (F.CAN_CTRL_LISTEN n) = false) (hend : (s.can n).ending = false)
    (hq : (s.can n).queue = e :: rest) (hc : e.cancelled = false) :
    s.canTxError n .lost = s ∧
    (((s.canTxError n .error).can n).queue = e :: rest ∧ ((s.canTxError n .error).can n).acks = 0 ∧
      (s.get (F.CAN_STAT_TEC n) + 8 ≤ 255 →
        (s.canTxError n .error).get (F.CAN_STAT_TEC n) = s.get (F.CAN_STAT_TEC n) + 8 ∧
        (s.canTxError n .error).get (F.CAN_STAT_STATE n) =
          (if 127 < s.get (F.CAN_STAT_TEC n) + 8 ∨ 127 < s.get (F.CAN_STAT_REC n) then 2 else 1)) ∧
      (255 < s.get (F.CAN_STAT_TEC n) + 8 → (s.canTxError n .error).get (F.CAN_STAT_STATE n) = 3 ∧
        (s.canTxError n .error).on (F.CAN_STAT_BUSOFF_SEEN n) = true ∧
        (s.canTxError n .error).get (R.CAN_CNT_BUSOFF n) = satInc 32 (s.get (R.CAN_CNT_BUSOFF n)))) ∧
    ((s.canTxError n .noAck).can n).queue = e :: rest ∧
      ((s.canTxError n .noAck).can n).acks = (s.can n).acks + 1 ∧
      (s.get (F.CAN_STAT_STATE n) = 2 →
        (s.canTxError n .noAck).get (F.CAN_STAT_TEC n) = s.get (F.CAN_STAT_TEC n)) ∧
      (s.get (F.CAN_STAT_STATE n) = 1 → s.get (F.CAN_STAT_TEC n) + 8 ≤ 255 →
        (s.canTxError n .noAck).get (F.CAN_STAT_TEC n) = s.get (F.CAN_STAT_TEC n) + 8) := by
  have hhead := canTxError_head hon hl hend hq hc
  simp only [hhead, canErred_can, canStat_tec, canStat_state, canStat_rec, canStat_busOff, canCnt_busOff]
  refine ⟨rfl, ⟨hq, rfl, fun htec => ?_, fun htec => ?_⟩, hq, rfl, fun hpas => ?_, fun hact htec => ?_⟩
  · rw [canErred, canJudge_tec _ _ _ htec, canJudge_state _ _ _ htec]
    exact ⟨rfl, rfl⟩
  · obtain ⟨hstate, hseen, hcount⟩ := canJudge_busOff (s.canAcks n 0) n (s.get (canFld n 0x10 12 8)) htec
    exact ⟨hstate, hseen, hcount.trans (congrArg _ (get_setCan _ _ _ (by decide)))⟩
  · rw [canErred, if_pos hpas]
    exact get_setCan _ _ _ (by decide)
  · rw [canErred, if_neg (by rw [hact]; decide), canJudge_tec _ _ _ htec]


/-! ### Sixteen acknowledgement errors (R539) -/

/-- From s to t controller k and its registers have not changed. -/
def CanSame (k : Nat) (s t : State) : Prop :=
  t.can k = s.can k ∧ ∀ o lo w, o < 0x400 → t.get (canFld k o lo w) = s.get (canFld k o lo w)

namespace CanSame

variable {k : Nat}

theorem refl (k : Nat) (s : State) : CanSame k s s := ⟨rfl, fun _ _ _ _ => rfl⟩

theorem trans (h : CanSame k s t) (g : CanSame k t u) : CanSame k s u :=
  ⟨g.1.trans h.1, fun o lo w ho => (g.2 o lo w ho).trans (h.2 o lo w ho)⟩

theorem set (h : CanSame k s t) (hk : k ≠ n) {o lo w : Nat} (ho : o < 0x400) (v : Nat) :
    CanSame k s (t.set (canFld n o lo w) v) := by
  refine h.trans ⟨rfl, fun o' lo' w' ho' => get_set_ne t _ _ v ?_⟩
  show 0xc0100 + o' + 0x400 * k ≠ 0xc0100 + o + 0x400 * n
  omega

theorem setCan (h : CanSame k s t) (hk : k ≠ n) (x : CanS) : CanSame k s (t.setCan n x) := by
  have hput : CanSame k t { t with cans := sput t.cans {} n x } :=
    ⟨sget_sput_ne t.cans _ _ _ hk, fun _ _ _ _ => rfl⟩
  rw [setCan_eq]
  exact h.trans (hput.set hk (by decide) _)

theorem complete (h : CanSame k s t) (hk : k < 2) (e : CanTx) (status result : Nat) :
    CanSame k s (t.canComplete e status result) := by
  obtain ⟨hcan, hget, -⟩ := canComplete_kept t e status result
  exact h.trans ⟨hcan k, fun o lo w ho => hget k o lo w hk ho⟩

theorem on (h : CanSame k s t) {o : Nat} (ho : o < 0x400) (lo w : Nat) :
    t.on (canFld k o lo w) = s.on (canFld k o lo w) :=
  on_congr (h.2 o lo w ho)

end CanSame

theorem canPop_same {k : Nat} (hk : k ≠ n) (hk2 : k < 2) (s : State) (status result : Nat) :
    CanSame k s (s.canPop n status result) := by
  rcases hq : (s.can n).queue with _ | ⟨e, rest⟩
  · rw [canPop, hq]
    exact .refl k s
  · rw [canPop_cons hq]
    exact .complete (.setCan (.refl k s) hk _) hk2 _ _ _

/-- The head leaves the queue; the flags of the controller stay. -/
theorem canPop_own (hn : n < 2) (s : State) (status result : Nat) :
    ((s.canPop n status result).can n).queue = (s.can n).queue.tail ∧
    (s.canPop n status result).on (canFld n 0x10 2 1) = s.on (canFld n 0x10 2 1) := by
  rcases hq : (s.can n).queue with _ | ⟨e, rest⟩
  · rw [canPop, hq]
    exact ⟨hq, rfl⟩
  · obtain ⟨hcan, hget, -⟩ := canComplete_kept (s.setCan n { s.can n with queue := rest }) e
      (if status = 0 && e.cancelled then 5 else status) result
    rw [canPop_cons hq, hcan, can_setCan, on_congr (hget n 0x10 2 1 hn (by decide)),
      on_congr (get_setCan s n _ (by decide))]
    exact ⟨rfl, rfl⟩

theorem canAlone_same {k : Nat} (hk : k ≠ n) (hk2 : k < 2) (s : State) : CanSame k s (s.canAlone n) := by
  have hflag : CanSame k s (s.flag (canFld n 0x10 2 1)) := .set (.refl k s) hk (by decide) 1
  unfold canAlone
  rw [canStat_noAck, canCtrl_abort]
  split
  · dsimp only
    split
    · exact hflag.trans (canPop_same hk hk2 _ 8 0)
    · exact hflag
  · exact .refl k s

theorem canAlone_few (h : (s.can n).acks < 16) : s.canAlone n = s := by
  rw [canAlone, decide_eq_false (Nat.not_le.2 h : ¬ (s.can n).acks ≥ 16), Bool.false_and,
    if_neg Bool.false_ne_true]

theorem canAlone_own (hn : n < 2) (h : 16 ≤ (s.can n).acks) (hflag : s.on (canFld n 0x10 2 1) = false) :
    (s.canAlone n).on (canFld n 0x10 2 1) = true ∧
    (s.on (canFld n 0 4 1) = true → ((s.canAlone n).can n).queue = (s.can n).queue.tail) ∧
    (s.on (canFld n 0 4 1) = false → (s.canAlone n).can n = s.can n) := by
  have hset : (s.flag (canFld n 0x10 2 1)).on (canFld n 0x10 2 1) = true := on_flag s rfl (by decide : 2 < 32)
  have habort : (s.flag (canFld n 0x10 2 1)).on (canFld n 0 4 1) = s.on (canFld n 0 4 1) :=
    on_congr (get_set_canFld_apart s n 1 (by decide))
  obtain ⟨hqueue, hon⟩ := canPop_own hn (s.flag (canFld n 0x10 2 1)) 8 0
  have hpast : (decide ((s.can n).acks ≥ 16) && !s.on (canFld n 0x10 2 1)) = true := by
    rw [decide_eq_true h, hflag]
    rfl
  rw [canAlone, canStat_noAck, canCtrl_abort, if_pos hpast]
  dsimp only
  rw [habort]
  cases s.on (canFld n 0 4 1)
  · exact ⟨hset, nofun, fun _ => rfl⟩
  · exact ⟨hon.trans hset, fun _ => hqueue, nofun⟩

/-! ### Frames and errors received (R538, R541) -/

theorem canRxError_eq (hon : s.canOn n = true) (hl : s.on (F.CAN_CTRL_LISTEN n) = false)
    (hend : (s.can n).ending = false) (dominant : Bool) : s.canRxError n dominant =
      s.canJudged n (s.get (canFld n 0x10 4 8)) (s.get (canFld n 0x10 12 8) + if dominant then 8 else 1) := by
  have htec := s.canTec_lt n
  have hstays (r : Nat) : ((s.canJudge n (s.get (canFld n 0x10 4 8)) r).can n).ending = false := by
    rw [canJudge_can]
    exact hend
  rw [canRxError, hon, hl, canStat_tec, canStat_rec, Bool.not_false, Bool.and_self, if_pos rfl,
    canEnd_stays (hstays _), canJudge_low _ _ _ (by omega)]

theorem canRecovered_eq (h : s.on (F.CAN_STAT_RECOVERING n) = true) : s.canRecovered n =
    (((s.set (canFld n 0x10 3 1) 0).set (canFld n 0x10 4 8) 0).set (canFld n 0x10 12 8) 0).set
      (canFld n 0x10 0 2) 1 := by
  rw [canRecovered, h, if_pos rfl]
  rfl

/-- The controller after a frame received well, before its filters (R538). -/
def canHeard (s : State) (n : Nat) : State :=
  let s := ((s.inc (R.CAN_CNT_RXOK n)).set (F.CAN_STAT_NO_ACK_ALONE n) 0).canRxGood n
  s.setCan n { s.can n with acks := 0 }

theorem canRxGood_can (s : State) (n k : Nat) : (s.canRxGood n).can k = s.can k := by
  unfold canRxGood
  split
  · rfl
  · dsimp only
    split
    · dsimp only
      rw [canJudge_can, can_fresh]
    · dsimp only
      rw [canJudge_can]

/-- Reception moves REC and the error state alone. -/
theorem canRxGood_get (s : State) (n : Nat) {o lo w : Nat} (h : 0x10 ≠ o ∨ 20 ≤ lo) :
    (s.canRxGood n).get (canFld n o lo w) = s.get (canFld n o lo w) := by
  have htec := s.canTec_lt n
  have hjudge (u : State) (r : Nat) : (u.canJudge n (s.get (canFld n 0x10 4 8)) r).get (canFld n o lo w) =
      u.get (canFld n o lo w) := by
    rw [canJudge_low _ _ _ (by omega), canJudged_get _ _ _ _ (by omega)]
  unfold canRxGood
  rw [canStat_tec]
  split
  · rfl
  · dsimp only
    split
    · exact (hjudge _ _).trans (get_fresh _ _)
    · exact hjudge _ _

theorem canRxGood_rec (s : State) (n : Nat) :
    (s.on (F.CAN_CTRL_LISTEN n) = false → s.get (canFld n 0x10 12 8) ≤ 127 →
      (s.canRxGood n).get (canFld n 0x10 12 8) = s.get (canFld n 0x10 12 8) - 1) ∧
    (s.on (F.CAN_CTRL_LISTEN n) = true →
      (s.canRxGood n).get (canFld n 0x10 12 8) = s.get (canFld n 0x10 12 8)) := by
  have htec := s.canTec_lt n
  refine ⟨fun hl hrec => ?_, fun hl => by rw [canRxGood, hl, if_pos rfl]⟩
  simp only [canRxGood, hl, Bool.false_eq_true, if_false, canStat_rec, gt_iff_lt,
    if_neg (Nat.not_lt.2 hrec), canStat_tec]
  rw [canJudge_low _ _ _ (by omega), canJudged_rec]
  omega

theorem can_inc (s : State) (f : Fld) (k : Nat) : (s.inc f).can k = s.can k := rfl

theorem canHeard_eq (s : State) (n : Nat) : s.canHeard n =
    (((s.inc (canFld n 0x24 0 32)).set (canFld n 0x10 2 1) 0).canRxGood n).setCan n
      { s.can n with acks := 0 } := by
  simp only [canHeard, canRxGood_can, can_set, can_inc, canCnt_rxOk, canStat_noAck]

theorem canHeard_can (s : State) (n : Nat) : (s.canHeard n).can n = { s.can n with acks := 0 } := by
  rw [canHeard_eq, can_setCan]

theorem canHeard_get (s : State) (n : Nat) {o lo w : Nat} (h : 0x10 ≠ o) (h' : 0x24 ≠ o) :
    (s.canHeard n).get (canFld n o lo w) = s.get (canFld n o lo w) := by
  rw [canHeard_eq, get_setCan _ _ _ (.inl h), canRxGood_get _ _ (.inl h), get_set_canFld_apart _ _ _ (.inl h),
    inc, get_set_canFld_apart _ _ _ (.inl h')]

theorem canHeard_count (s : State) (n : Nat) : (s.canHeard n).get (canFld n 0x24 0 32) =
    satInc 32 (s.get (canFld n 0x24 0 32)) := by
  rw [canHeard_eq, get_setCan _ _ _ (by decide), canRxGood_get _ _ (by decide),
    get_set_canFld_apart _ _ _ (by decide), canInc_get]

theorem canHeard_rec (s : State) (n : Nat) :
    (s.on (F.CAN_CTRL_LISTEN n) = false → s.get (canFld n 0x10 12 8) ≤ 127 →
      (s.canHeard n).get (canFld n 0x10 12 8) = s.get (canFld n 0x10 12 8) - 1) ∧
    (s.on (F.CAN_CTRL_LISTEN n) = true →
      (s.canHeard n).get (canFld n 0x10 12 8) = s.get (canFld n 0x10 12 8)) := by
  have hu := canRxGood_rec ((s.inc (canFld n 0x24 0 32)).set (canFld n 0x10 2 1) 0) n
  have hl : ((s.inc (canFld n 0x24 0 32)).set (canFld n 0x10 2 1) 0).on (F.CAN_CTRL_LISTEN n) =
      s.on (F.CAN_CTRL_LISTEN n) := by
    refine on_congr ?_
    rw [canCtrl_listen, get_set_canFld_apart _ _ _ (by decide), inc, get_set_canFld_apart _ _ _ (by decide)]
  have hr : ((s.inc (canFld n 0x24 0 32)).set (canFld n 0x10 2 1) 0).get (canFld n 0x10 12 8) =
      s.get (canFld n 0x10 12 8) := by
    rw [get_set_canFld_apart _ _ _ (by decide), inc, get_set_canFld_apart _ _ _ (by decide)]
  rw [hl, hr] at hu
  rw [canHeard_eq, get_setCan _ _ _ (by decide)]
  exact hu

/-- A field of a filter of a controller. -/
theorem canFilt_eq (n f k rst lo w : Nat) :
    (⟨0xc0200 + k + 0x400 * n + 0x8 * f, rst, lo, w⟩ : Fld) =
      ⟨0xc0100 + (0x100 + k + 0x8 * f) + 0x400 * n, rst, lo, w⟩ := by
  rw [Fld.mk.injEq]
  omega

theorem canHeard_filt (s : State) (n f k lo w : Nat) :
    (s.canHeard n).get ⟨0xc0200 + k + 0x400 * n + 0x8 * f, 0, lo, w⟩ =
      s.get ⟨0xc0200 + k + 0x400 * n + 0x8 * f, 0, lo, w⟩ := by
  rw [canFilt_eq]
  exact canHeard_get s n (o := 0x100 + k + 0x8 * f) (by omega) (by omega)

theorem canHeard_filter (s : State) (n id : Nat) : (s.canHeard n).canFilter n id = s.canFilter n id := by
  have hen (f : Nat) : (s.canHeard n).on (F.CAN_FILT_MASK_EN n f) = s.on (F.CAN_FILT_MASK_EN n f) :=
    on_congr (canHeard_filt s n f 4 29 1)
  have hide (f : Nat) : (s.canHeard n).get (F.CAN_FILT_ID_IDE n f) = s.get (F.CAN_FILT_ID_IDE n f) :=
    canHeard_filt s n f 0 29 1
  have hid (f : Nat) : (s.canHeard n).get (F.CAN_FILT_ID_ID n f) = s.get (F.CAN_FILT_ID_ID n f) :=
    canHeard_filt s n f 0 0 29
  have hmask (f : Nat) : (s.canHeard n).get (F.CAN_FILT_MASK_MASK n f) = s.get (F.CAN_FILT_MASK_MASK n f) :=
    canHeard_filt s n f 4 0 29
  simp only [canFilter, hen, hide, hid, hmask]

/-- A received frame goes into the FIFO where its filter says so and the FIFO has room (R541). -/
def canStored (s : State) (n f : Nat) (x : Bytes) : State :=
  if s.on (F.CAN_FILT_ID_RING n f) then
    (if (s.can n).fifo.length ≥ 64 then s.inc (R.CAN_CNT_RXOVF n)
    else s.setCan n { s.can n with fifo := (s.can n).fifo ++ [x] })
  else s

/-- A received frame goes into the mailbox of its filter where that says so. -/
def canMailed (s : State) (n f : Nat) (b : Bytes) : State :=
  if s.on (F.CAN_FILT_ID_LOGIC n f) then
    s.setCan n { s.can n with mail := sput (s.can n).mail [] f (slice b 0 8) }
  else s

/-- The bytes of a received frame in the FIFO: header and data (Receive header). -/
def canHeader (id fmt f k stamp : Nat) : Bytes :=
  toLE 4 (id % 2 ^ 31) ++ toLE 1 (fmt % 128) ++ toLE 1 f ++ toLE 2 k ++ toLE 4 stamp ++ [0, 0, 0, 0]

theorem canStored_can (s : State) (n f : Nat) (x : Bytes) : (s.canStored n f x).can n =
    { s.can n with fifo := if s.on (F.CAN_FILT_ID_RING n f) = true ∧ (s.can n).fifo.length < 64 then
      (s.can n).fifo ++ [x] else (s.can n).fifo } := by
  unfold canStored
  split
  next hring =>
    split
    next hfull => rw [if_neg (fun h => Nat.not_lt.2 hfull h.2)]; rfl
    next hfree => rw [if_pos ⟨hring, Nat.lt_of_not_le hfree⟩, can_setCan]
  next hring => rw [if_neg (fun h => hring h.1)]

theorem canMailed_can (s : State) (n f : Nat) (b : Bytes) : (s.canMailed n f b).can n =
    { s.can n with mail := if s.on (F.CAN_FILT_ID_LOGIC n f) then sput (s.can n).mail [] f (slice b 0 8)
      else (s.can n).mail } := by
  unfold canMailed
  split
  · rw [can_setCan]
  · rfl

/-- Counts and error state of a controller stay where a frame is stored, but for the count of lost ones. -/
theorem canStored_get (s : State) (n f : Nat) (x : Bytes) {o lo w : Nat} (ho : 0x10 ≠ o ∨ lo + w ≤ 20)
    (hov : 0x28 ≠ o) : (s.canStored n f x).get (canFld n o lo w) = s.get (canFld n o lo w) := by
  unfold canStored
  split
  · split
    · rw [canCnt_rxOvf]
      exact get_set_canFld_apart _ _ _ (.inl hov)
    · exact get_setCan _ _ _ (by omega)
  · rfl

theorem canMailed_get (s : State) (n f : Nat) (b : Bytes) {o lo w : Nat} (ho : 0x10 ≠ o ∨ lo + w ≤ 20) :
    (s.canMailed n f b).get (canFld n o lo w) = s.get (canFld n o lo w) := by
  unfold canMailed
  split
  · exact get_setCan _ _ _ (by omega)
  · rfl

theorem canStored_filt (s : State) (n f : Nat) (x : Bytes) :
    (s.canStored n f x).on (F.CAN_FILT_ID_LOGIC n f) = s.on (F.CAN_FILT_ID_LOGIC n f) := by
  refine on_congr ?_
  have heq : F.CAN_FILT_ID_LOGIC n f = canFld n (0x100 + 0 + 0x8 * f) 31 1 := canFilt_eq n f 0 0 31 1
  rw [heq]
  exact canStored_get s n f x (by omega) (by omega)

section
variable {id fmt : Nat} (hend : (s.can n).ending = false) (hon : s.canOn n = true)
  (hfd : bit fmt 4 = true → s.on (F.CAN_CTRL_FD_EN n) = true)
include hend hon hfd

omit hend in
theorem canReceive_taken : (s.canOn n && !(bit fmt 4 && !s.on (F.CAN_CTRL_FD_EN n))) = true := by
  rw [hon]
  cases hb : bit fmt 4
  · rfl
  · rw [hfd hb]
    rfl

/-- A frame that no filter takes is counted (R541). -/
theorem canReceive_none (hf : s.canFilter n id = none) (data : Bytes) (ago : Nat) :
    s.canReceive n id fmt data ago = (s.canHeard n).inc (canFld n 0x2c 0 32) := by
  have hstays : (((s.canHeard n).inc (canFld n 0x2c 0 32)).can n).ending = false := by
    rw [can_inc, canHeard_can]
    exact hend
  have hheard : s.canHeard n = _ := canHeard.eq_1 s n
  simp only at hheard
  rw [← canEnd_stays hstays, canReceive, if_pos (canReceive_taken hon hfd)]
  simp only [← hheard, canHeard_filter, hf, canCnt_rxNoMatch]

/-- A frame that a filter takes. -/
theorem canReceive_some {f : Nat} (hf : s.canFilter n id = some f) (data : Bytes) (ago : Nat) {k : Nat}
    {b : Bytes} (hk : k = if bit id 30 then 0 else dlcBytes (bit fmt 4) (fmt % 16)) (hb : b = slice data 0 k) :
    s.canReceive n id fmt data ago = ((s.canHeard n).canStored n f
      (canHeader id fmt f k ((s.canCnt + 2 ^ 32 - ago % 2 ^ 32) % 2 ^ 32) ++ b)).canMailed n f b := by
  have hstays : ((((s.canHeard n).canStored n f
      (canHeader id fmt f k ((s.canCnt + 2 ^ 32 - ago % 2 ^ 32) % 2 ^ 32) ++ b)).canMailed n f b).can
        n).ending = false := by
    rw [canMailed_can, canStored_can, canHeard_can]
    exact hend
  have hheard : s.canHeard n = _ := canHeard.eq_1 s n
  simp only at hheard
  rw [← canEnd_stays hstays, canReceive, if_pos (canReceive_taken hon hfd)]
  simp only [← hheard, canHeard_filter, hf, hb, hk, canMailed, canStored, canHeader]

end


/-! ### The CTRL register of a controller (R530, R538, R540) -/

/-- A write of CTRL but for its bits EN and RECOVER. -/
def canCtrlPlain (s : State) (n data : Nat) : State :=
  s.plain ((wholeWrite (R.CAN_CTRL n).addr data).without 0x41)

/-- What a write of EN does. -/
def canEnWrite (s : State) (n data : Nat) : State :=
  if bit data 0 && !s.on (canFld n 0 0 1) then s.canEnable n
  else if !bit data 0 && s.on (canFld n 0 0 1) then s.canDisable n else s

theorem busW1_can (s : State) {a : Nat} (data : Nat) (h : a / 0x10000 = 12) :
    s.busW1 (wholeWrite a data) = s.wrCan (wholeWrite a data) := by
  simp [busW1, h, below_lanes_of_block h (by decide)]

/-- A host's write of a register of CAN reaches the controllers. -/
theorem hostW_can (hs : s.Awake) {a data : Nat} (ha : a % 4 = 0) (hb : a / 0x10000 = 12)
    (hd : data < 2 ^ 32) : s.hostW a data = s.wrCan (wholeWrite a data) := by
  have hstep : a ≠ R.ETH_STEP_CMD.addr := by
    have : R.ETH_STEP_CMD.addr = 0xb0024 := rfl
    omega
  rw [hostW_awake s hs ha hd, busW_eq_busW1 s _ hstep, busW1_can _ _ hb]

theorem hostW_canCtrl (hs : s.Awake) (hn : n < 2) {data : Nat} (hd : data < 2 ^ 32) :
    s.hostW (R.CAN_CTRL n).addr data =
      ((s.canCtrlPlain n data).canEnWrite n data).when (bit data 6) (·.canRecover n) := by
  have ha : (R.CAN_CTRL n).addr = 0xc0100 + 0x400 * n := rfl
  have hix : ix (R.CAN_CTRL n).addr 0xC0100 0x400 2 = some n := by
    have hq : ((R.CAN_CTRL n).addr - 0xC0100) / 0x400 = n := by omega
    have hr : ((R.CAN_CTRL n).addr - 0xC0100) % 0x400 = 0 := by omega
    rw [ix, hq, hr, ha]
    simp [hn]
  have hcorr : R.CAN_CORR_CMD.addr = 0xc0008 := rfl
  have hclr : R.CAN_CNT_CLR.addr = 0xc0018 := rfl
  have hmask : bit (wholeWrite (R.CAN_CTRL n).addr data).mask 0 = true := by
    show Nat.testBit 0xFFFFFFFF 0 = true
    decide
  rw [hostW_can hs (by omega) (by omega) hd, wrCan, wholeWrite_a, if_neg (by omega), if_neg (by omega), hix]
  unfold canEnWrite canCtrlPlain
  simp only [hmask, wholeWrite_cmd _ hd, Bool.true_and, wholeWrite_data, canCtrl_en]

/-- The row of CTRL. -/
def canCtrlRow : RegRow :=
  ⟨0xc0100, 0x0, [(0x400, 2)],
    [⟨0, 1, .RW, 0, 1⟩, ⟨1, 1, .RW, 0, 1⟩, ⟨2, 1, .RWL, 0, 1⟩, ⟨3, 1, .RWL, 0, 1⟩,
      ⟨4, 1, .RW, 0, 1⟩, ⟨5, 1, .RW, 0, 1⟩, ⟨6, 1, .W1S, 0, 1⟩]⟩

theorem regRow?_canCtrl : ∀ n < 2, regRow? (R.CAN_CTRL n).addr = some canCtrlRow := by
  decide +kernel

/-- CTRL written with its own bits beside EN and RECOVER stays. -/
theorem canCtrlPlain_get (hn : n < 2) (s : State) {data : Nat}
    (hd : ∀ i, i ≠ 0 → i ≠ 6 → data.testBit i = (s.word (R.CAN_CTRL n)).testBit i) (lo w : Nat) :
    (s.canCtrlPlain n data).get (canFld n 0 lo w) = s.get (canFld n 0 lo w) := by
  have hword : (s.canCtrlPlain n data).word (R.CAN_CTRL n) = s.word (R.CAN_CTRL n) := by
    refine s.plain_same (regRow?_canCtrl n hn) rfl rfl (by decide) (ite_self 0) fun i hi => ?_
    have hmask : (0xFFFFFFFF &&& (0x41 ^^^ 0xFFFFFFFF)).testBit i = true := hi
    refine hd i ?_ ?_ <;> rintro rfl <;> exact absurd hmask (by decide)
  have hsame (t : State) : t.word (canFld n 0 lo w) = t.word (R.CAN_CTRL n) := t.word_congr rfl rfl
  rw [get, get, hsame, hsame, hword]

theorem canCtrlPlain_regsOnly (s : State) (n data : Nat) :
    RegsOnly [(R.CAN_CTRL n).addr] s (s.canCtrlPlain n data) :=
  s.plain_regsOnly _ rfl

/-- Every register of a controller reads as before. -/
theorem canCtrlPlain_fld (hn : n < 2) (s : State) {data : Nat}
    (hd : ∀ i, i ≠ 0 → i ≠ 6 → data.testBit i = (s.word (R.CAN_CTRL n)).testBit i) {f : Fld}
    (hf : f.addr = (R.CAN_CTRL n).addr → f.rst = 0) : (s.canCtrlPlain n data).get f = s.get f := by
  by_cases ha : f.addr = (R.CAN_CTRL n).addr
  · have hfld : f = canFld n 0 f.lo f.w := by
      cases f
      rw [canFld, Fld.mk.injEq]
      exact ⟨ha, hf ha, rfl, rfl⟩
    rw [hfld]
    exact canCtrlPlain_get hn s hd _ _
  · exact (s.canCtrlPlain_regsOnly n data).get (by simpa using ha)

/-- The write that EN or RECOVER of CTRL takes. -/
theorem canData_bits (s : State) (n : Nat) {lo : Nat} (hlo : lo = 0 ∨ lo = 6) (v : Nat) :
    ∀ i, i ≠ 0 → i ≠ 6 → (setBits (s.word (canFld n 0 lo 1)) lo 1 v).testBit i =
      (s.word (R.CAN_CTRL n)).testBit i := by
  intro i h0 h6
  rw [testBit_setBits, if_neg (by omega)]
  rfl

/-- What follows a write of RECOVER: RECOVERING in bus-off, nothing else (R538). -/
theorem canRecover_when (s : State) (n : Nat) (b : Bool) :
    (s.when b (·.canRecover n)).cans = s.cans ∧
    (∀ o lo w, 0x10 ≠ o ∨ lo + w ≤ 3 ∨ 4 ≤ lo →
      (s.when b (·.canRecover n)).get (canFld n o lo w) = s.get (canFld n o lo w)) ∧
    RegsOnly [(R.CAN_STAT n).addr] s (s.when b (·.canRecover n)) := by
  have hkeep : s.cans = s.cans ∧ (∀ o lo w, 0x10 ≠ o ∨ lo + w ≤ 3 ∨ 4 ≤ lo →
      s.get (canFld n o lo w) = s.get (canFld n o lo w)) ∧ RegsOnly [(R.CAN_STAT n).addr] s s :=
    ⟨rfl, fun _ _ _ _ => rfl, .refl _ s⟩
  refine when_of s b _ (fun t => t.cans = s.cans ∧ (∀ o lo w, 0x10 ≠ o ∨ lo + w ≤ 3 ∨ 4 ≤ lo →
    t.get (canFld n o lo w) = s.get (canFld n o lo w)) ∧ RegsOnly [(R.CAN_STAT n).addr] s t) hkeep ?_
  rw [canRecover, canStat_recovering]
  split
  · refine ⟨rfl, fun o lo w h => get_set_canFld_apart s n 1 (by omega), ?_⟩
    exact set_regsOnly s _ 1
  · exact hkeep


/-! ### Enabling (R530, R540) -/

/-- The conditions of EN = 1 read the bit timing and two bits of CTRL. -/
theorem canEnCode_congr (h : ∀ f : Fld, (f.addr = (R.CAN_CTRL n).addr → f.rst = 0) → t.get f = s.get f) :
    t.canEnCode n = s.canEnCode n := by
  have hnbt (lo w : Nat) : t.get ⟨0xc0104 + 0x400 * n, 0x830e07, lo, w⟩ =
      s.get ⟨0xc0104 + 0x400 * n, 0x830e07, lo, w⟩ := by
    refine h _ fun (ha : 0xc0104 + 0x400 * n = 0xc0100 + 0x400 * n) => ?_
    omega
  have hdbt (lo w : Nat) : t.get ⟨0xc0108 + 0x400 * n, 0x5ccd40, lo, w⟩ =
      s.get ⟨0xc0108 + 0x400 * n, 0x5ccd40, lo, w⟩ := by
    refine h _ fun (ha : 0xc0108 + 0x400 * n = 0xc0100 + 0x400 * n) => ?_
    omega
  have hctrl (lo w : Nat) : t.on (canFld n 0 lo w) = s.on (canFld n 0 lo w) := on_congr (h _ fun _ => rfl)
  have hbrp : t.get (F.CAN_NBT_BRP n) = s.get (F.CAN_NBT_BRP n) := hnbt 0 8
  have hseg1 : t.get (F.CAN_NBT_TSEG1 n) = s.get (F.CAN_NBT_TSEG1 n) := hnbt 8 8
  have hseg2 : t.get (F.CAN_NBT_TSEG2 n) = s.get (F.CAN_NBT_TSEG2 n) := hnbt 16 7
  have hsjw : t.get (F.CAN_NBT_SJW n) = s.get (F.CAN_NBT_SJW n) := hnbt 23 7
  have hdbrp : t.get (F.CAN_DBT_BRP n) = s.get (F.CAN_DBT_BRP n) := hdbt 0 5
  have hdseg1 : t.get (F.CAN_DBT_TSEG1 n) = s.get (F.CAN_DBT_TSEG1 n) := hdbt 5 5
  have hdseg2 : t.get (F.CAN_DBT_TSEG2 n) = s.get (F.CAN_DBT_TSEG2 n) := hdbt 10 4
  have hdsjw : t.get (F.CAN_DBT_SJW n) = s.get (F.CAN_DBT_SJW n) := hdbt 14 4
  have hnom : t.canNom n = s.canNom n := by rw [canNom, canNom, hbrp, hseg1, hseg2]
  have hdata : t.canData n = s.canData n := by rw [canData, canData, hdbrp, hdseg1, hdseg2]
  rw [canEnCode, canEnCode, hnom, hdata, hsjw, hseg2, hdsjw, hdseg2, canCtrl_fdEn, canCtrl_triple, hctrl, hctrl]

/-- The registers of a controller that goes onto the bus. -/
def canOnBus (s : State) (n st : Nat) : State :=
  (((s.set (canFld n 0 0 1) 1).set (canFld n 0x10 4 8) 0).set (canFld n 0x10 12 8) 0).set (canFld n 0x10 0 2) st

theorem canOnBus_facts (s : State) (n st : Nat) :
    (s.canOnBus n st).get (canFld n 0 0 1) = 1 ∧ (s.canOnBus n st).get (canFld n 0x10 4 8) = 0 ∧
    (s.canOnBus n st).get (canFld n 0x10 12 8) = 0 ∧ (s.canOnBus n st).get (canFld n 0x10 0 2) = st % 4 := by
  unfold canOnBus
  refine ⟨?_, ?_, ?_, get_set_canFld _ _ _ _ (by decide)⟩
  · rw [get_set_canFld_apart _ _ _ (by decide), get_set_canFld_apart _ _ _ (by decide),
      get_set_canFld_apart _ _ _ (by decide)]
    exact get_set_canFld _ _ _ _ (by decide)
  · rw [get_set_canFld_apart _ _ _ (by decide), get_set_canFld_apart _ _ _ (by decide)]
    exact get_set_canFld _ _ _ _ (by decide)
  · rw [get_set_canFld_apart _ _ _ (by decide)]
    exact get_set_canFld _ _ _ _ (by decide)

theorem canEnable_taken (hs : s.Awake) (hen : s.on (canFld n 0 0 1) = false) (hc : s.canEnCode n = 0) :
    s.canEnable n = (s.canOnBus n (if (s.can n).wasOff then 3 else 1)).setCan n
      { s.can n with ending := false, acks := 0, wasOff := false } := by
  have hnot : ¬ (s.dev.inReset || s.on (canFld n 0 0 1)) = true := by
    rw [hs, hen]
    exact Bool.false_ne_true
  unfold canOnBus
  rw [canEnable, canCtrl_en, if_neg hnot]
  simp only [hc, if_true, canStat_tec, canStat_rec, canStat_state, can_set, flag]
  rfl

theorem canEnable_good (hs : s.Awake) (hen : s.on (canFld n 0 0 1) = false) (hc : s.canEnCode n = 0) :
    (s.canEnable n).on (canFld n 0 0 1) = true ∧ (s.canEnable n).get (canFld n 0x10 4 8) = 0 ∧
    (s.canEnable n).get (canFld n 0x10 12 8) = 0 ∧
    (s.canEnable n).get (canFld n 0x10 0 2) = (if (s.can n).wasOff then 3 else 1) ∧
    ((s.canEnable n).can n).queue = (s.can n).queue := by
  obtain ⟨hon, htec, hrec, hstate⟩ := s.canOnBus_facts n (if (s.can n).wasOff then 3 else 1)
  rw [canEnable_taken hs hen hc, can_setCan, on, get_setCan _ _ _ (by decide), get_setCan _ _ _ (by decide),
    get_setCan _ _ _ (by decide), get_setCan _ _ _ (by decide), hon]
  refine ⟨rfl, htec, hrec, hstate.trans ?_, rfl⟩
  split <;> rfl

theorem canEnable_refused (hs : s.Awake) (hen : s.on (canFld n 0 0 1) = false) (hc : s.canEnCode n ≠ 0) :
    s.canEnable n = (s.set (canFld n 0x10 29 3) (s.canEnCode n)).set (canFld n 0x10 28 1) 1 := by
  have hnot : ¬ (s.dev.inReset || s.on (canFld n 0 0 1)) = true := by
    rw [hs, hen]
    exact Bool.false_ne_true
  rw [canEnable, canCtrl_en, if_neg hnot]
  simp only [hc, if_false, canStat_code, canStat_enRej, flag]

theorem canEnCode_lt (s : State) (n : Nat) : s.canEnCode n < 4 := by
  unfold canEnCode
  split
  · decide
  · split
    · decide
    · split <;> decide

/-- A controller off the bus. -/
theorem canOff_facts (hn : n < 2) (s : State) : ((s.canOff n).can n).queue = [] ∧
    ((s.canOff n).can n).sync = none ∧ (s.canOff n).get (canFld n 0x10 20 6) = 0 ∧
    (s.canOff n).get (canFld n 0x10 0 2) = 0 ∧
    (s.canOff n).get (canFld n 0 0 1) = s.get (canFld n 0 0 1) := by
  unfold canOff
  extract_lets q x u v
  obtain ⟨hcan, hget⟩ := canCancelAll_kept q v
  have hv : v = ((u.set (canFld n 0x10 0 2) 0).set (canFld n 0x10 2 1) 0).set (canFld n 0x10 3 1) 0 := rfl
  rw [hcan, hget _ _ _ _ hn (by decide), hget _ _ _ _ hn (by decide), hget _ _ _ _ hn (by decide), hv,
    can_set, can_set, can_set, can_setCan]
  refine ⟨rfl, rfl, ?_, ?_, ?_⟩
  · rw [get_set_canFld_apart _ _ _ (by decide), get_set_canFld_apart _ _ _ (by decide),
      get_set_canFld_apart _ _ _ (by decide), get_setCan_txq]
    rfl
  · rw [get_set_canFld_apart _ _ _ (by decide), get_set_canFld_apart _ _ _ (by decide),
      get_set_canFld _ _ _ _ (by decide)]
    rfl
  · rw [get_set_canFld_apart _ _ _ (by decide), get_set_canFld_apart _ _ _ (by decide),
      get_set_canFld_apart _ _ _ (by decide), get_setCan _ _ _ (by decide)]

theorem canDisable_facts (hn : n < 2) (hen : s.on (canFld n 0 0 1) = true) :
    (s.canDisable n).on (canFld n 0 0 1) = false ∧
    (s.canOn n = false → (s.canDisable n).get (canFld n 0x10 0 2) = 0 ∧ ((s.canDisable n).can n).queue = [] ∧
      ((s.canDisable n).can n).sync = none ∧ (s.canDisable n).get (canFld n 0x10 20 6) = 0) ∧
    (s.canOn n = true →
      (((s.canDisable n).can n).ending = true ∧ ((s.canDisable n).can n).queue = (s.can n).queue ∧
        (s.canDisable n).get (canFld n 0x10 0 2) = s.get (canFld n 0x10 0 2)) ∨
      ((s.canDisable n).get (canFld n 0x10 0 2) = 0 ∧ ((s.canDisable n).can n).queue = [])) := by
  have hoff (t : State) (h : t.get (canFld n 0 0 1) = 0) : (t.canOff n).on (canFld n 0 0 1) = false := by
    rw [on, (canOff_facts hn t).2.2.2.2, h]
    rfl
  have hset : (s.set (canFld n 0 0 1) 0).get (canFld n 0 0 1) = 0 := get_set_canFld _ _ _ _ (by decide)
  have hon : (s.set (canFld n 0 0 1) 0).canOn n = s.canOn n := by
    rw [canOn, canOn, canStat_state, get_set_canFld_apart _ _ _ (by decide)]
  have hnot : ¬ (!s.on (canFld n 0 0 1)) = true := by
    rw [hen]
    exact Bool.false_ne_true
  rw [canDisable, canCtrl_en, if_neg hnot]
  simp only [hon]
  cases s.canOn n with
  | false =>
    obtain ⟨hqueue, hsync, htxq, hstate, -⟩ := canOff_facts hn (s.set (canFld n 0 0 1) 0)
    exact ⟨hoff _ hset, fun _ => ⟨hstate, hqueue, hsync, htxq⟩, nofun⟩
  | true =>
    simp only [if_true]
    split
    · refine ⟨?_, nofun, fun _ => .inl ?_⟩
      · rw [on, get_setCan _ _ _ (by decide), get_fresh, hset]
        rfl
      · rw [can_setCan, get_setCan _ _ _ (by decide), get_fresh, get_set_canFld_apart _ _ _ (by decide)]
        exact ⟨rfl, rfl, rfl⟩
    · obtain ⟨hqueue, hsync, htxq, hstate, -⟩ := canOff_facts hn (s.set (canFld n 0 0 1) 0).fresh.2
      exact ⟨hoff _ hset, nofun, fun _ => .inr ⟨hstate, hqueue⟩⟩

end State

section

variable {s t u : State}

theorem RegsOnly.awake {as : List Nat} (h : RegsOnly as s t) (hs : s.Awake) : t.Awake := by
  obtain ⟨hrest, -⟩ := h
  rw [hrest]
  exact hs

theorem RegsOnly.cans {as : List Nat} (h : RegsOnly as s t) : t.cans = s.cans := by
  obtain ⟨hrest, -⟩ := h
  rw [hrest]

theorem RegsOnly.mono {as bs : List Nat} (h : RegsOnly as s t) (hsub : as ⊆ bs) : RegsOnly bs s t :=
  ⟨h.1, fun a ha => h.2 a fun hin => ha (hsub hin)⟩

theorem RegsOnly.trans {as bs : List Nat} (h : RegsOnly as s t) (k : RegsOnly bs t u) :
    RegsOnly (as ++ bs) s u := by
  obtain ⟨hrest, hregs⟩ := h
  obtain ⟨krest, kregs⟩ := k
  refine ⟨?_, fun a ha d => ?_⟩
  · rw [krest, hrest]
  · rw [List.mem_append, not_or] at ha
    rw [kregs a ha.2, hregs a ha.1]

/-- A write of STAT of a controller. -/
theorem RegsOnly.canStat {n : Nat} (h : RegsOnly [(R.CAN_STAT n).addr] s t) (lo w v : Nat) :
    RegsOnly [(R.CAN_STAT n).addr] s (t.set (canFld n 0x10 lo w) v) :=
  h.set v (List.mem_singleton.2 rfl)

end

namespace State

variable {s t u : State} {n : Nat}

/-! ### The commands of a controller -/

/-- EN or RECOVER written, with the rest of CTRL as it reads. -/
theorem hostF_can (hs : s.Awake) (hn : n < 2) {lo : Nat} (hlo : lo = 0 ∨ lo = 6) (v : Nat) :
    ∃ (t : State) (data : Nat) (b : Bool),
      s.hostF (canFld n 0 lo 1) v = (t.canEnWrite n data).when b (·.canRecover n) ∧
      data = setBits (s.word (canFld n 0 lo 1)) lo 1 v ∧ b = bit data 6 ∧
      RegsOnly [(R.CAN_CTRL n).addr] s t ∧
      (∀ f : Fld, (f.addr = (R.CAN_CTRL n).addr → f.rst = 0) → t.get f = s.get f) := by
  have hd : setBits (s.word (canFld n 0 lo 1)) lo 1 v < 2 ^ 32 :=
    s.fieldData_lt (canFld n 0 lo 1) v (show lo + 1 ≤ 32 by omega)
  have hbits := s.canData_bits n hlo v
  generalize hdata : setBits (s.word (canFld n 0 lo 1)) lo 1 v = data at hd hbits
  have haddr : (canFld n 0 lo 1).addr = (R.CAN_CTRL n).addr := rfl
  have hlow : (canFld n 0 lo 1).lo = lo := rfl
  have hwidth : (canFld n 0 lo 1).w = 1 := rfl
  refine ⟨s.canCtrlPlain n data, data, bit data 6, ?_, rfl, rfl, s.canCtrlPlain_regsOnly n data,
    fun f hf => canCtrlPlain_fld hn s hbits hf⟩
  rw [hostF, haddr, hlow, hwidth, hdata]
  exact hostW_canCtrl hs hn hd

theorem canEnWrite_on (hen : s.on (canFld n 0 0 1) = false) {data : Nat} (hd : bit data 0 = true) :
    s.canEnWrite n data = s.canEnable n := by
  rw [canEnWrite, hen, hd, Bool.not_false, Bool.and_self, if_pos rfl]

theorem canEnWrite_off (hen : s.on (canFld n 0 0 1) = true) {data : Nat} (hd : bit data 0 = false) :
    s.canEnWrite n data = s.canDisable n := by
  rw [canEnWrite, hen, hd, Bool.false_and, if_neg Bool.false_ne_true, Bool.not_false, Bool.and_self, if_pos rfl]

theorem canEnWrite_same {data : Nat} (hd : bit data 0 = s.on (canFld n 0 0 1)) :
    s.canEnWrite n data = s := by
  rw [canEnWrite, hd, Bool.and_not_self, Bool.not_and_self, if_neg Bool.false_ne_true,
    if_neg Bool.false_ne_true]

theorem bit_setBits_one (x lo v : Nat) : bit (setBits x lo 1 v) lo = decide (v % 2 = 1) := by
  rw [bit, testBit_setBits, if_pos ⟨Nat.le_refl _, Nat.lt_succ_self _⟩, Nat.sub_self, Nat.testBit_zero]

theorem can_congr (h : t.cans = s.cans) (k : Nat) : t.can k = s.can k := by rw [can, can, h]

theorem hostF_enable (hs : s.Awake) (hn : n < 2) (hen : s.on (canFld n 0 0 1) = false) :
    (s.canEnCode n = 0 →
      (s.hostF (canFld n 0 0 1) 1).on (canFld n 0 0 1) = true ∧
      (s.hostF (canFld n 0 0 1) 1).get (canFld n 0x10 4 8) = 0 ∧
      (s.hostF (canFld n 0 0 1) 1).get (canFld n 0x10 12 8) = 0 ∧
      (s.hostF (canFld n 0 0 1) 1).get (canFld n 0x10 0 2) = (if (s.can n).wasOff then 3 else 1) ∧
      ((s.hostF (canFld n 0 0 1) 1).can n).queue = (s.can n).queue) ∧
    (s.canEnCode n ≠ 0 →
      (s.hostF (canFld n 0 0 1) 1).on (canFld n 0 0 1) = false ∧
      (s.hostF (canFld n 0 0 1) 1).get (canFld n 0x10 29 3) = s.canEnCode n ∧
      (s.hostF (canFld n 0 0 1) 1).on (canFld n 0x10 28 1) = true ∧
      (s.hostF (canFld n 0 0 1) 1).cans = s.cans ∧
      RegsOnly [(R.CAN_CTRL n).addr, (R.CAN_STAT n).addr] s (s.hostF (canFld n 0 0 1) 1)) := by
  obtain ⟨t, data, b, hwrite, hdata, -, honly, hget⟩ := hostF_can hs hn (.inl rfl) 1
  have hte : t.on (canFld n 0 0 1) = false := (on_congr (hget _ fun _ => rfl)).trans hen
  have hcode : t.canEnCode n = s.canEnCode n := canEnCode_congr hget
  have hcan : t.can n = s.can n := can_congr honly.cans n
  have hd : bit data 0 = true := by
    rw [hdata, bit_setBits_one]
    rfl
  rw [hwrite, canEnWrite_on hte hd]
  obtain ⟨hcans, hkeep, hstat⟩ := canRecover_when (t.canEnable n) n b
  refine ⟨fun hc => ?_, fun hc => ?_⟩
  · obtain ⟨hon, htec, hrec, hstate, hqueue⟩ := canEnable_good (honly.awake hs) hte (hcode.trans hc)
    rw [hcan] at hstate hqueue
    refine ⟨(on_congr (hkeep _ _ _ (by decide))).trans hon, (hkeep _ _ _ (by decide)).trans htec,
      (hkeep _ _ _ (by decide)).trans hrec, (hkeep _ _ _ (by decide)).trans hstate, ?_⟩
    rw [can_congr hcans]
    exact hqueue
  · have href := canEnable_refused (honly.awake hs) hte (hcode.trans_ne hc)
    have hlt := s.canEnCode_lt n
    rw [hcode] at href
    have hset : RegsOnly [(R.CAN_STAT n).addr] t (t.canEnable n) := by
      rw [href]
      exact .canStat (.canStat (.refl _ t) ..) ..
    refine ⟨(on_congr (hkeep _ _ _ (by decide))).trans ?_, (hkeep _ _ _ (by decide)).trans ?_,
      (on_congr (hkeep _ _ _ (by decide))).trans ?_, hcans.trans (hset.cans.trans honly.cans), ?_⟩
    · rw [href, on, get_set_canFld_apart _ _ _ (by decide), get_set_canFld_apart _ _ _ (by decide)]
      exact hte
    · rw [href, get_set_canFld_apart _ _ _ (by decide), get_set_canFld _ _ _ _ (by decide)]
      exact Nat.mod_eq_of_lt (by omega)
    · rw [href, on, get_set_canFld _ _ _ _ (by decide)]
      rfl
    · exact (honly.trans (hset.trans hstat)).mono (by simp)

theorem hostF_disable (hs : s.Awake) (hn : n < 2) (hen : s.on (canFld n 0 0 1) = true) :
    ∃ t, s.hostF (canFld n 0 0 1) 0 = t ∧ t.on (canFld n 0 0 1) = false ∧
    (s.canOn n = false → t.get (canFld n 0x10 0 2) = 0 ∧ (t.can n).queue = [] ∧ (t.can n).sync = none ∧
      t.get (canFld n 0x10 20 6) = 0) ∧
    (s.canOn n = true → ((t.can n).ending = true ∧ (t.can n).queue = (s.can n).queue ∧
        t.get (canFld n 0x10 0 2) = s.get (canFld n 0x10 0 2)) ∨
      (t.get (canFld n 0x10 0 2) = 0 ∧ (t.can n).queue = [])) := by
  obtain ⟨t, data, b, hwrite, hdata, -, honly, hget⟩ := hostF_can hs hn (.inl rfl) 0
  have hte : t.on (canFld n 0 0 1) = true := (on_congr (hget _ fun _ => rfl)).trans hen
  have hcan : t.can n = s.can n := can_congr honly.cans n
  have hstate : t.get (canFld n 0x10 0 2) = s.get (canFld n 0x10 0 2) := hget _ fun _ => rfl
  have honbus : t.canOn n = s.canOn n := by rw [canOn, canOn, canStat_state, hstate]
  have hd : bit data 0 = false := by
    rw [hdata, bit_setBits_one]
    rfl
  obtain ⟨hoff, hidle, hbusy⟩ := canDisable_facts hn hte
  rw [honbus, hcan, hstate] at hbusy
  rw [honbus] at hidle
  obtain ⟨hcans, hkeep, -⟩ := canRecover_when (t.canDisable n) n b
  refine ⟨_, hwrite.trans (by rw [canEnWrite_off hte hd]),
    (on_congr (hkeep _ _ _ (by decide))).trans hoff, ?_, ?_⟩
  · rw [can_congr hcans, hkeep _ _ _ (by decide), hkeep _ _ _ (by decide)]
    exact hidle
  · rw [can_congr hcans, hkeep _ _ _ (by decide)]
    exact hbusy

theorem hostF_recover (hs : s.Awake) (hn : n < 2) :
    (s.hostF (canFld n 0 6 1) 1).cans = s.cans ∧
    (s.hostF (canFld n 0 6 1) 1).on (canFld n 0x10 3 1) =
      (decide (s.get (canFld n 0x10 0 2) = 3) || s.on (canFld n 0x10 3 1)) ∧
    RegsOnly [(R.CAN_CTRL n).addr, (R.CAN_STAT n).addr] s (s.hostF (canFld n 0 6 1) 1) := by
  obtain ⟨t, data, b, hwrite, hdata, hb, honly, hget⟩ := hostF_can hs hn (.inr rfl) 1
  have hd : bit data 0 = t.on (canFld n 0 0 1) := by
    rw [on_congr (hget (canFld n 0 0 1) fun _ => rfl), ← bit_word s (f := canFld n 0 0 1) rfl, hdata, bit,
      testBit_setBits]
    rfl
  have hset : b = true := by
    rw [hb, hdata, bit_setBits_one]
    rfl
  have hstate : t.get (canFld n 0x10 0 2) = s.get (canFld n 0x10 0 2) := hget _ fun _ => rfl
  have hrec : t.on (canFld n 0x10 3 1) = s.on (canFld n 0x10 3 1) := on_congr (hget _ fun _ => rfl)
  obtain ⟨hcans, -, hstat⟩ := canRecover_when t n b
  rw [hwrite, canEnWrite_same hd]
  refine ⟨hcans.trans honly.cans, ?_, (honly.trans hstat).mono (by simp)⟩
  rw [hset, when_true, canRecover, canStat_state, canStat_recovering, hstate, ← hrec]
  split
  next h => rw [h, on_flag t rfl (by decide : 3 < 32)]; rfl
  next h => rw [decide_eq_false h, Bool.false_or]

/-! ### Correlation (R543) -/

theorem canCorr_facts (s : State) (cnt ns sec : Nat) (hc : cnt < 2 ^ 32) (hns : ns < 2 ^ 32)
    (hsec : sec < 2 ^ 32) :
    (((s.set R.CAN_CORR_CNT cnt).set R.CAN_CORR_NS ns).set R.CAN_CORR_SEC sec).get R.CAN_CORR_CNT = cnt ∧
    (((s.set R.CAN_CORR_CNT cnt).set R.CAN_CORR_NS ns).set R.CAN_CORR_SEC sec).get R.CAN_CORR_NS = ns ∧
    (((s.set R.CAN_CORR_CNT cnt).set R.CAN_CORR_NS ns).set R.CAN_CORR_SEC sec).get R.CAN_CORR_SEC = sec ∧
    RegsOnly [R.CAN_CORR_CNT.addr, R.CAN_CORR_NS.addr, R.CAN_CORR_SEC.addr] s
      (((s.set R.CAN_CORR_CNT cnt).set R.CAN_CORR_NS ns).set R.CAN_CORR_SEC sec) := by
  refine ⟨?_, ?_, ?_, ?_⟩
  · rw [get_set_ne _ _ _ _ (by decide), get_set_ne _ _ _ _ (by decide), get_set _ _ _ (by decide)]
    exact Nat.mod_eq_of_lt hc
  · rw [get_set_ne _ _ _ _ (by decide), get_set _ _ _ (by decide)]
    exact Nat.mod_eq_of_lt hns
  · rw [get_set _ _ _ (by decide)]
    exact Nat.mod_eq_of_lt hsec
  · exact .set (.set (.set (.refl _ s) _ (by decide)) _ (by decide)) _ (by decide)

theorem hostW_canTake (hs : s.Awake) : s.hostW R.CAN_CORR_CMD.addr 1 = s.canCorr :=
  hostW_can hs (by decide) (by decide) (by decide)


/-! ### SENDs fetched and frames taken (R536, R541) -/

theorem canSend_full {r : Nat} {hm : HostMem} (h : 32 ≤ (s.can (s.get (F.HOST_RING_CFG_SUB r))).queue.length) :
    s.canSend r hm = s := by
  simp only [canSend, ge_iff_le, h, if_true]

section
variable {r : Nat} {hm : HostMem} {d : Desc}
  (hfree : (s.can (s.get (F.HOST_RING_CFG_SUB r))).queue.length < 32)
  (hfetch : s.fetchEvent r hm (wantOp s r .canTx 1) = (.start d, u))
include hfree hfetch

theorem canSend_bad (hbad : u.canSendBad (s.get (F.HOST_RING_CFG_SUB r)) d.bytes = true) :
    s.canSend r hm = u.complete r d.idx 1 0 0 := by
  simp only [canSend, ge_iff_le, Nat.not_le.2 hfree, if_false, hfetch, hbad, if_true]

/-- A SEND whose data have been read joins the queue. -/
theorem canSend_good {id fmt k n : Nat} {b : Bytes} {v : State} (hn : n = s.get (F.HOST_RING_CFG_SUB r))
    (hgood : u.canSendBad n d.bytes = false) (hid : id = fieldLE d.bytes 8 4 % 2 ^ 31)
    (hfmt : fmt = fieldLE d.bytes 12 1 % 64)
    (hk : k = (if bit id 30 then 0 else dlcBytes (bit fmt 4) (fmt % 16)))
    (hnone : k = 0 → b = [] ∧ v = u)
    (hread : k ≠ 0 → u.hostRd hm (ringReq r) (pagesOf (fieldLE d.bytes 16 8) k) (fieldLE d.bytes 16 8) k =
      (b, none, v)) :
    s.canSend r hm = v.setCan n { v.can n with
      queue := (v.can n).queue ++ [⟨some (r, d.idx), id, fmt, b, false⟩] } := by
  rw [← hn] at hfree
  simp only [canSend, ge_iff_le, hfetch, Bool.false_eq_true, ← hn,
    Nat.not_le.2 hfree, if_false, hgood, ← hid, ← hfmt, ← hk]
  by_cases hz : k = 0
  · obtain ⟨rfl, rfl⟩ := hnone hz
    simp only [hz, if_true]
  · simp only [hz, if_false, hread hz]

end

/-- A BUF fetched. -/
theorem canBuf_fetched {r : Nat} {hm : HostMem} {d : Desc} (htype : s.rtype r = .canRx)
    (hidle : (s.ring r).outs.any (fun d => d.started && d.op = 1) = false)
    (hfetch : s.fetchEvent r hm (wantOp s r .canRx 1) = (.start d, u)) :
    (fieldLE d.bytes 16 2 < 80 → s.canBuf r hm = u.complete r d.idx 1 0 0) ∧
    (80 ≤ fieldLE d.bytes 16 2 → s.canBuf r hm = u.canDrain r hm) := by
  have hbuf : s.canBuf r hm =
      if fieldLE d.bytes 16 2 < 80 then u.complete r d.idx 1 0 0 else u.canDrain r hm := by
    simp only [canBuf, htype, ne_eq, not_true_eq_false, if_false, hidle, Bool.false_eq_true, hfetch]
  exact ⟨fun h => hbuf.trans (if_pos h), fun h => hbuf.trans (if_neg (Nat.not_lt.2 h))⟩

theorem canDrain_empty {r : Nat} {hm : HostMem} (h : (s.can (s.get (F.HOST_RING_CFG_SUB r))).fifo = []) :
    s.canDrain r hm = s := by
  unfold canDrain
  simp only [h]
  split
  next hf => cases hf
  next => rfl

/-- The oldest frame goes into the BUF that waits. -/
theorem canBuf_waiting {r k : Nat} {hm : HostMem} {d : Desc} {f : Bytes} {rest : List Bytes}
    (htype : s.rtype r = .canRx) (hn : n = s.get (F.HOST_RING_CFG_SUB r))
    (hwait : (s.ring r).outs.find? (fun d => d.started && d.op = 1) = some d)
    (hfifo : (s.can n).fifo = f :: rest)
    (hwr : (s.setCan n { s.can n with fifo := rest }).hostWr hm (ringReq r)
      (pagesOf (fieldLE d.bytes 8 8) f.length) (fieldLE d.bytes 8 8) f = (k, true, u)) :
    s.canBuf r hm = u.complete r d.idx 0 f.length 0 := by
  have hany : (s.ring r).outs.any (fun d => d.started && d.op = 1) = true := by
    have hd := List.find?_some hwait
    exact List.any_eq_true.2 ⟨d, List.mem_of_find?_eq_some hwait, hd⟩
  subst hn
  simp only [canBuf, htype, ne_eq, not_true_eq_false, if_false, hany, if_true, canDrain, hwait, hfifo, hwr]

/-! ### A frame received, by its filter (R541) -/

section
variable {id fmt : Nat} (hend : (s.can n).ending = false) (hon : s.canOn n = true)
  (hfd : bit fmt 4 = true → s.on (F.CAN_CTRL_FD_EN n) = true)
include hend hon hfd

/-- What a reception does whatever the filter. -/
theorem canReceive_heard (data : Bytes) (ago : Nat) :
    ((s.canReceive n id fmt data ago).can n).queue = (s.can n).queue ∧
    (s.canReceive n id fmt data ago).get (canFld n 0x24 0 32) = satInc 32 (s.get (canFld n 0x24 0 32)) ∧
    (s.canReceive n id fmt data ago).get (canFld n 0x10 12 8) = (s.canHeard n).get (canFld n 0x10 12 8) := by
  rcases hf : s.canFilter n id with _ | f
  · rw [canReceive_none hend hon hfd hf, can_inc, canHeard_can, inc, get_set_canFld_apart _ _ _ (by decide),
      get_set_canFld_apart _ _ _ (by decide), canHeard_count]
    exact ⟨rfl, rfl, rfl⟩
  · rw [canReceive_some hend hon hfd hf data ago rfl rfl, canMailed_can, canStored_can, canHeard_can,
      canMailed_get _ _ _ _ (by decide), canStored_get _ _ _ _ (by decide) (by decide), canHeard_count,
      canMailed_get _ _ _ _ (by decide), canStored_get _ _ _ _ (by decide) (by decide)]
    exact ⟨rfl, rfl, rfl⟩

theorem canReceive_lost (hf : s.canFilter n id = none) (data : Bytes) (ago : Nat) :
    (s.canReceive n id fmt data ago).get (canFld n 0x2c 0 32) = satInc 32 (s.get (canFld n 0x2c 0 32)) ∧
    ((s.canReceive n id fmt data ago).can n).fifo = (s.can n).fifo ∧
    ((s.canReceive n id fmt data ago).can n).mail = (s.can n).mail := by
  rw [canReceive_none hend hon hfd hf, canInc_get, canHeard_get _ _ (by decide) (by decide), can_inc,
    canHeard_can]
  exact ⟨rfl, rfl, rfl⟩

theorem canReceive_filtered {f k : Nat} {b : Bytes} (hf : s.canFilter n id = some f) (data : Bytes) (ago : Nat)
    (hk : k = if bit id 30 then 0 else dlcBytes (bit fmt 4) (fmt % 16)) (hb : b = slice data 0 k) :
    (s.on (F.CAN_FILT_ID_RING n f) = true → (s.can n).fifo.length < 64 →
      ((s.canReceive n id fmt data ago).can n).fifo = (s.can n).fifo ++
        [canHeader id fmt f k ((s.canCnt + 2 ^ 32 - ago % 2 ^ 32) % 2 ^ 32) ++ b]) ∧
    (s.on (F.CAN_FILT_ID_RING n f) = true → 64 ≤ (s.can n).fifo.length →
      ((s.canReceive n id fmt data ago).can n).fifo = (s.can n).fifo ∧
      (s.canReceive n id fmt data ago).get (canFld n 0x28 0 32) = satInc 32 (s.get (canFld n 0x28 0 32))) ∧
    (s.on (F.CAN_FILT_ID_RING n f) = false →
      ((s.canReceive n id fmt data ago).can n).fifo = (s.can n).fifo) ∧
    (s.on (F.CAN_FILT_ID_LOGIC n f) = true →
      (s.canReceive n id fmt data ago).canMail n f = slice (slice b 0 8) 0 8) ∧
    (s.on (F.CAN_FILT_ID_LOGIC n f) = false →
      ((s.canReceive n id fmt data ago).can n).mail = (s.can n).mail) := by
  have hring : (s.canHeard n).on (F.CAN_FILT_ID_RING n f) = s.on (F.CAN_FILT_ID_RING n f) :=
    on_congr (canHeard_filt s n f 0 30 1)
  have hlogic : (s.canHeard n).on (F.CAN_FILT_ID_LOGIC n f) = s.on (F.CAN_FILT_ID_LOGIC n f) :=
    on_congr (canHeard_filt s n f 0 31 1)
  rw [canReceive_some hend hon hfd hf data ago hk hb]
  generalize canHeader id fmt f k ((s.canCnt + 2 ^ 32 - ago % 2 ^ 32) % 2 ^ 32) ++ b = x
  rw [canMail, canMailed_can, canStored_can, canHeard_can, hring, canStored_filt, hlogic]
  refine ⟨fun h hroom => if_pos ⟨h, hroom⟩, fun h hfull => ⟨if_neg fun h' => Nat.not_lt.2 hfull h'.2, ?_⟩,
    fun h => if_neg fun h' => Bool.false_ne_true (h.symm.trans h'.1), fun h => ?_, fun h => ?_⟩
  · have hfull' : ((s.canHeard n).can n).fifo.length ≥ 64 := by
      rw [canHeard_can]
      exact hfull
    rw [canMailed_get _ _ _ _ (by decide), canStored, hring, if_pos h, if_pos hfull', canCnt_rxOvf, canInc_get,
      canHeard_get _ _ (by decide) (by decide)]
  · simp only [h, if_true, sget_sput_same]
  · simp only [h, Bool.false_eq_true, if_false]

end

/-! ### What the error states show -/

theorem canRecovered_facts (h : s.on (F.CAN_STAT_RECOVERING n) = true) :
    (s.canRecovered n).get (canFld n 0x10 0 2) = 1 ∧ (s.canRecovered n).get (canFld n 0x10 4 8) = 0 ∧
    (s.canRecovered n).get (canFld n 0x10 12 8) = 0 ∧ (s.canRecovered n).on (canFld n 0x10 3 1) = false ∧
    RegsOnly [(R.CAN_STAT n).addr] s (s.canRecovered n) := by
  rw [canRecovered_eq h]
  refine ⟨get_set_canFld _ _ _ _ (by decide), ?_, ?_, ?_,
    .canStat (.canStat (.canStat (.canStat (.refl _ s) ..) ..) ..) ..⟩
  · rw [get_set_canFld_apart _ _ _ (by decide), get_set_canFld_apart _ _ _ (by decide)]
    exact get_set_canFld _ _ _ _ (by decide)
  · rw [get_set_canFld_apart _ _ _ (by decide)]
    exact get_set_canFld _ _ _ _ (by decide)
  · rw [on, get_set_canFld_apart _ _ _ (by decide), get_set_canFld_apart _ _ _ (by decide),
      get_set_canFld_apart _ _ _ (by decide), get_set_canFld _ _ _ _ (by decide)]
    rfl

/-- The one controller is judged between what the other's judgement leaves of it. -/
theorem canAlone_facts (hn : n < 2) (hpre : CanSame n s t) (hpost : CanSame n (t.canAlone n) u) :
    (16 ≤ (s.can n).acks → s.on (canFld n 0x10 2 1) = false → u.on (canFld n 0x10 2 1) = true ∧
      (s.on (canFld n 0 4 1) = true → (u.can n).queue = (s.can n).queue.tail) ∧
      (s.on (canFld n 0 4 1) = false → u.can n = s.can n)) ∧
    ((s.can n).acks < 16 → u.can n = s.can n ∧ u.on (canFld n 0x10 2 1) = s.on (canFld n 0x10 2 1)) := by
  rw [hpost.on (by decide), hpost.1, ← hpre.on (by decide), ← hpre.on (by decide), ← hpre.1]
  refine ⟨fun h hflag => canAlone_own hn h hflag, fun h => ?_⟩
  rw [canAlone_few h]
  exact ⟨rfl, rfl⟩

theorem canReceive_ignored {id fmt : Nat}
    (h : s.canOn n = false ∨ (bit fmt 4 = true ∧ s.on (F.CAN_CTRL_FD_EN n) = false))
    (data : Bytes) (ago : Nat) : s.canReceive n id fmt data ago = s := by
  refine if_neg ?_
  rcases h with h | ⟨h, hfd⟩
  · rw [h, Bool.false_and]
    exact Bool.false_ne_true
  · rw [h, hfd, Bool.not_false, Bool.true_and, Bool.not_true, Bool.and_false]
    exact Bool.false_ne_true

theorem canRxError_ignored (h : s.canOn n = false ∨ s.on (F.CAN_CTRL_LISTEN n) = true) (dominant : Bool) :
    s.canRxError n dominant = s := by
  refine if_neg ?_
  rcases h with h | h
  · rw [h, Bool.false_and]
    exact Bool.false_ne_true
  · rw [h, Bool.not_true, Bool.and_false]
    exact Bool.false_ne_true

theorem canRxError_facts (hon : s.canOn n = true) (hl : s.on (F.CAN_CTRL_LISTEN n) = false)
    (hend : (s.can n).ending = false) (dominant : Bool) :
    (s.canRxError n dominant).get (canFld n 0x10 12 8) =
      min (s.get (canFld n 0x10 12 8) + (if dominant then 8 else 1)) 255 ∧
    (s.canRxError n dominant).get (canFld n 0x10 4 8) = s.get (canFld n 0x10 4 8) ∧
    (s.canRxError n dominant).cans = s.cans ∧
    (127 < s.get (canFld n 0x10 12 8) + (if dominant then 8 else 1) →
      (s.canRxError n dominant).get (canFld n 0x10 0 2) = 2) := by
  have htec := s.canTec_lt n
  rw [canRxError_eq hon hl hend dominant]
  refine ⟨canJudged_rec .., canJudged_tec _ _ _ (by omega), rfl, fun h => ?_⟩
  rw [canJudged_state, if_pos (.inr h)]

end State

/-- Settles O59, by the facts about each operation of a controller. -/
theorem canControllersAndTheirBuses : Obligations.CanControllersAndTheirBuses := by
  refine ⟨fun s n hn hs => ?_, fun s r hm d u n hr hsub => ?_, fun s n sync ago hn hend => ?_,
    fun s n kind hn hend => ?_, fun s => ?_, fun s n id fmt data ago hn hend => ?_,
    fun s r hm d u n hr htype hsub hidle hfetch => ?_,
    fun s r hm d n f rest k v hr htype hsub hwait hfifo hwr => ?_, fun s hs hns => ?_, fun s => ?_,
    fun s n dominant hn hend => ?_⟩
  · have hok : okCan n = true := decide_eq_true hn
    refine ⟨fun hen hc => State.gives_of (t := s.hostF (canFld n 0 0 1) 1) rfl hok ?_,
      fun hen hc => State.gives_of (t := s.hostF (canFld n 0 0 1) 1) rfl hok ?_, fun hen hoff => ?_,
      fun hen hon => ?_, State.gives_of (t := s.hostF (canFld n 0 6 1) 1) rfl hok ?_,
      fun hrec => State.gives_of (t := s.canRecovered n) rfl hok ?_, fun hrec => ?_⟩
    · exact (State.hostF_enable hs hn hen).1 hc
    · exact (State.hostF_enable hs hn hen).2 hc
    · obtain ⟨t, ht, hflag, hidle, -⟩ := State.hostF_disable hs hn hen
      obtain ⟨hstate, hqueue, hsync, htxq⟩ := hidle hoff
      refine State.gives_of (t := s.hostF (canFld n 0 0 1) 0) rfl hok ?_
      rw [ht]
      exact ⟨hflag, hstate, hqueue, hsync, htxq⟩
    · obtain ⟨t, ht, hflag, -, hbusy⟩ := State.hostF_disable hs hn hen
      refine State.gives_of (t := s.hostF (canFld n 0 0 1) 0) rfl hok ?_
      rw [ht]
      exact ⟨hflag, hbusy hon⟩
    · exact State.hostF_recover hs hn
    · exact State.canRecovered_facts hrec
    · have hstay : s.canRecovered n = s := by rw [State.canRecovered, hrec, if_neg Bool.false_ne_true]
      exact (if_pos hok).trans (congrArg _ hstay)
  · have hok : okRing r = true := decide_eq_true hr
    have hsub' : n = (s.see hm).get (F.HOST_RING_CFG_SUB r) := hsub
    refine ⟨fun hfull => ?_, fun hfree hfetch =>
      ⟨fun hbad => ?_, fun hgood id fmt k b v hid hfmt hk hnone hread => ?_⟩⟩
    · exact (if_pos hok).trans (congrArg _ (State.canSend_full (s := s.see hm) (hsub' ▸ hfull)))
    · exact (if_pos hok).trans (congrArg _ (State.canSend_bad (s := s.see hm) (hsub' ▸ hfree) hfetch
        (hsub' ▸ hbad)))
    · exact (if_pos hok).trans (congrArg _ (State.canSend_good (s := s.see hm) (hsub' ▸ hfree) hfetch hsub'
        hgood hid hfmt hk hnone hread))
  · have hok : okCan n = true := decide_eq_true hn
    refine ⟨fun hoff => ?_, fun hon hl => ⟨fun id hsync hid => ?_, fun e rest stamp hsync hq hstamp => ?_⟩⟩
    · exact (if_pos hok).trans (congrArg _ (State.canSent_ignored hoff sync ago))
    · subst hsync
      exact State.gives_of (t := s.canSent n true ago) rfl hok (State.canSent_sync_facts hon hl hend hid ago)
    · subst hsync hstamp
      refine State.gives_of (t := s.canSent n false ago) rfl hok ?_
      obtain ⟨hqueue, hacks, hout, htxq, hcount, htec, hflag⟩ := State.canSent_head_facts hon hl hend hn hq ago
      exact ⟨hqueue, hacks, hout, htxq, hcount, htec, hflag,
        fun hring hc => State.canSent_logic hon hl hend hq ago hring hc,
        fun r idx d hring hd horder hlate hmode hr hpage =>
          State.canSent_ring hon hl hend hq ago hring hd horder hlate hmode hr hpage⟩
  · have hok : okCan n = true := decide_eq_true hn
    refine ⟨fun ⟨hq, hsync⟩ => ?_, fun hon hl e rest hq hc => ?_⟩
    · exact (if_pos hok).trans (congrArg _ (State.canTxError_idle hq hsync kind))
    · obtain ⟨hlost, herror, hnoAck⟩ := State.canTxError_facts hon hl hend hq hc
      exact ⟨(if_pos hok).trans (congrArg _ hlost), State.gives_of (t := s.canTxError n .error) rfl hok herror,
        State.gives_of (t := s.canTxError n .noAck) rfl hok hnoAck⟩
  · refine State.gives_of (t := (s.canAlone 0).canAlone 1) rfl rfl fun n hn => ?_
    obtain rfl | rfl : n = 0 ∨ n = 1 := by omega
    · exact State.canAlone_facts hn (.refl 0 s) (State.canAlone_same (by decide) hn _)
    · exact State.canAlone_facts hn (State.canAlone_same (by decide) hn s) (.refl 1 _)
  · have hok : okCan n = true := decide_eq_true hn
    refine ⟨fun h => ?_, fun hon hfd => ?_⟩
    · exact (if_pos hok).trans (congrArg _ (State.canReceive_ignored h data ago))
    · refine State.gives_of (t := s.canReceive n id fmt data ago) rfl hok ?_
      obtain ⟨hqueue, hcount, hrec⟩ := State.canReceive_heard hend hon hfd data ago
      obtain ⟨hactive, hlisten⟩ := s.canHeard_rec n
      exact ⟨hcount, hqueue, fun hl h => hrec.trans (hactive hl h), fun hl => hrec.trans (hlisten hl),
        fun hf => State.canReceive_lost hend hon hfd hf data ago,
        fun f k b hf hk hb => State.canReceive_filtered hend hon hfd hf data ago hk hb⟩
  · have hok : okRing r = true := decide_eq_true hr
    obtain ⟨hshort, hlong⟩ := State.canBuf_fetched (s := s.see hm) htype hidle hfetch
    refine ⟨fun h => (if_pos hok).trans (congrArg _ (hshort h)), fun h hfifo hsame => ?_⟩
    exact (if_pos hok).trans (congrArg _ ((hlong h).trans (State.canDrain_empty (hsame.symm ▸ hfifo))))
  · have hok : okRing r = true := decide_eq_true hr
    exact (if_pos hok).trans (congrArg _
      (State.canBuf_waiting (s := s.see hm) htype hsub hwait hfifo hwr))
  · refine State.gives_of (t := s.hostW R.CAN_CORR_CMD.addr 1) rfl rfl ?_
    rw [State.hostW_canTake hs]
    exact s.canCorr_facts _ _ _ (Nat.mod_lt _ (by decide)) hns (Nat.mod_lt _ (by decide))
  · refine State.gives_of (t := s.canLatch) rfl rfl ?_
    obtain ⟨hcnt, hns, hsec, honly⟩ := s.canCorr_facts ((s.time.canNs - s.time.ns) * 2 / 25 % 2 ^ 32) 0
      (s.time.sec % 2 ^ 32) (Nat.mod_lt _ (by decide)) (by decide) (Nat.mod_lt _ (by decide))
    exact ⟨hns, hsec, hcnt, honly⟩
  · have hok : okCan n = true := decide_eq_true hn
    refine ⟨fun h => ?_, fun hon hl => State.gives_of (t := s.canRxError n dominant) rfl hok ?_⟩
    · exact (if_pos hok).trans (congrArg _ (State.canRxError_ignored h dominant))
    · exact State.canRxError_facts hon hl hend dominant

end Sys2Proof.Machine
end

section
/-! SUPPORT. What a step of the island writes: its record, its registers, the permit lines outside it; its
states, functions, readbacks and evaluations. Then what 14_safety_island.md has proved:
IslandStatesAndFunctions. -/

namespace Sys2Proof.Machine

open Sys2Proof

/-! ## What a step of the island writes -/

theorem State.ist_congr {s t : State} (hes : t.straps = s.straps)
    (h : t.get F.SAFE_STAT_ISTATE = s.get F.SAFE_STAT_ISTATE) : t.ist = s.ist := by
  rw [ist, ist, hes, h]

/-- From s to t the island wrote its own record and at most the listed fields. -/
structure IslandWrites (fs : List Fld) (s t : State) : Prop where
  rest : t = { s with safe := t.safe, regs := t.regs }
  get (f : Fld) (h : ∀ g ∈ fs, g.Clear f) : t.get f = s.get f

namespace IslandWrites

open State

variable {fs gs : List Fld} {s t u : State}

theorem refl (fs : List Fld) (s : State) : IslandWrites fs s s := ⟨rfl, fun _ _ => rfl⟩

theorem trans (h : IslandWrites fs s t) (k : IslandWrites fs t u) : IslandWrites fs s u := by
  refine ⟨?_, fun f hf => (k.get f hf).trans (h.get f hf)⟩
  rw [k.rest, h.rest]

theorem mono (h : IslandWrites fs s t) (hsub : ∀ f ∈ fs, f ∈ gs) : IslandWrites gs s t :=
  ⟨h.rest, fun f hf => h.get f fun g hg => hf g (hsub g hg)⟩

theorem set (h : IslandWrites fs s t) {f : Fld} (v : Nat) (hf : f ∈ fs) :
    IslandWrites fs s (t.set f v) :=
  h.trans ⟨rfl, fun _ hg => get_set_clear t v (hg f hf)⟩

/-- The island's record changed alone. -/
theorem record (h : IslandWrites fs s t) (x : SafeS) : IslandWrites fs s { t with safe := x } :=
  h.trans ⟨rfl, fun _ _ => rfl⟩

theorem ite (c : Prop) [Decidable c] (h : IslandWrites fs s t) (k : IslandWrites fs s u) :
    IslandWrites fs s (if c then t else u) := by
  split
  · exact h
  · exact k

theorem when (c : Bool) {f : State → State} (h : IslandWrites fs s t)
    (k : IslandWrites fs t (f t)) : IslandWrites fs s (t.when c f) := by
  cases c
  · exact h
  · exact h.trans k

theorem foldl {α : Type} (l : List α) {f : State → α → State}
    (hf : ∀ u a, IslandWrites fs u (f u a)) (s : State) : IslandWrites fs s (l.foldl f s) :=
  List.foldlRecOn (motive := IslandWrites fs s) l f (.refl fs s) fun u hu a _ => hu.trans (hf u a)

theorem straps (h : IslandWrites fs s t) : t.straps = s.straps := by rw [h.rest]
theorem elapsed (h : IslandWrites fs s t) : t.elapsed = s.elapsed := by rw [h.rest]
theorem on (h : IslandWrites fs s t) (f : Fld) (hf : ∀ g ∈ fs, g.Clear f) : t.on f = s.on f :=
  on_congr (h.get f hf)
theorem ist (h : IslandWrites fs s t) (hf : ∀ g ∈ fs, g.Clear F.SAFE_STAT_ISTATE) : t.ist = s.ist :=
  ist_congr h.straps (h.get _ hf)

end IslandWrites

namespace State

variable {s t : State}

/-! ## The island's state and its image -/

theorem act_congr (h : t.safe.active = s.safe.active) (f : Fld) : t.act f = s.act f := by
  rw [act, act, h]

theorem actOn_congr (h : t.safe.active = s.safe.active) (f : Fld) : t.actOn f = s.actOn f := by
  rw [actOn, actOn, act_congr h]

theorem armLow_congr (hist : t.ist = s.ist) (hsvb : t.on F.SAFE_STAT_SVB = s.on F.SAFE_STAT_SVB)
    (hact : t.safe.active = s.safe.active) (a : Nat) : t.armLow a = s.armLow a := by
  rw [armLow, armLow, hist, hsvb, act_congr hact]

/-! ## The permit lines outside the island -/

/-- SVB_DEM written, and the ARM_RUN bits of a demand that begins cleared. -/
def demShown (s : State) (dem : Nat) : State :=
  (s.set F.TRIP_STAT_SVB_DEM dem).armRunClr (dem &&& (s.get F.TRIP_STAT_SVB_DEM ^^^ 0x3F))

/-- The SVB requests of the strings' lanes brought up to the permit lines. -/
def blkShown (s : State) (on : Bool) (g : Nat) : State :=
  (List.range Config.strings).foldl (fun t n =>
    let a := t.strArm n
    let m := if on && (t.allLow || (a < 6 && t.armLow a)) then g else 0
    if (t.str n).blkSvb = m then t
    else (t.setStr n { t.str n with blkSvb := m }).blkTrim n) s

theorem svbLines_eq (hes : s.straps.es = true) : s.svbLines =
    (s.demShown (ofBits Config.arms fun a => s.armLow a || s.allLow)).blkShown true
      ((s.demShown (ofBits Config.arms fun a => s.armLow a || s.allLow)).act F.SAFE_SVB_CFG_G) := by
  unfold svbLines blkShown
  simp only [hes]
  rfl

theorem blkShown_keeps {a : Nat} (ha : a < 0x200000) (s : State) (on : Bool) (g : Nat) :
    Keeps a s (s.blkShown on g) := by
  refine .foldl _ (fun u n _ => .ite (.refl a u) ?_) (.refl a s)
  have hblk : (F.STR_BLK_G_TX n).addr = 0x200034 + 0x2000 * n := rfl
  exact .set (.same (.refl a u) rfl rfl) (by omega)

/-- SVB_DEM shows the demand of each arm (R416, R430). -/
theorem get_svbLines_dem (hes : s.straps.es = true) :
    s.svbLines.get F.TRIP_STAT_SVB_DEM = ofBits Config.arms fun a => s.armLow a || s.allLow := by
  have hw : ofBits Config.arms (fun a => s.armLow a || s.allLow) < 2 ^ F.TRIP_STAT_SVB_DEM.w := ofBits_lt _ _
  rw [svbLines_eq hes, (blkShown_keeps (a := F.TRIP_STAT_SVB_DEM.addr) (by decide) _ _ _).get _ rfl, demShown,
    get_armRunClr _ _ (by decide) (by decide), get_set _ _ _ (by decide), Nat.mod_eq_of_lt hw]

/-- Outside OPERATE every arm is held low (R416). -/
theorem get_svbLines_dem_off (hes : s.straps.es = true) (h : s.ist ≠ .operate) :
    s.svbLines.get F.TRIP_STAT_SVB_DEM = 63 := by
  have hall : (fun a => s.armLow a || s.allLow) = fun _ => true := by
    funext a
    simp [armLow, h]
  rw [get_svbLines_dem hes, hall]
  rfl

theorem bitOf_svbLines_dem (hes : s.straps.es = true) {k : Nat} (hk : k < 6) (h : s.armLow k = true) :
    s.svbLines.bitOf F.TRIP_STAT_SVB_DEM k = true := by
  rw [bitOf, get_svbLines_dem hes, testBit_ofBits, h]
  rw [decide_eq_true (show k < Config.arms from hk)]
  rfl

/-- Every other register of the island, its record and the time stay. -/
theorem get_svbLines {f : Fld} (h : f.addr / 0x10000 = 7) (s : State) : s.svbLines.get f = s.get f := by
  have harm : R.TRIP_ARM.addr = 0x60018 := rfl
  have hstat : R.TRIP_STAT.addr = 0x60008 := rfl
  exact (svbLines_keeps (a := f.addr) (by omega) (by omega) s).get f rfl

theorem blkShown_safe (s : State) (on : Bool) (g : Nat) : (s.blkShown on g).safe = s.safe :=
  List.foldlRecOn (motive := fun t : State => t.safe = s.safe) _ _ rfl fun u hu _ _ =>
    (apply_ite State.safe _ _ _).trans ((ite_self u.safe).trans hu)

theorem svbLines_safe (hes : s.straps.es = true) : s.svbLines.safe = s.safe := by
  rw [svbLines_eq hes, blkShown_safe, demShown, armRunClr, armBlkUpd, set_safe, clrF, set_safe, set_safe]

@[simp] theorem svbLines_ist (s : State) : s.svbLines.ist = s.ist :=
  ist_congr (svbLines_straps s) (get_svbLines (by decide) s)

theorem svbLines_armLow (hes : s.straps.es = true) (a : Nat) : s.svbLines.armLow a = s.armLow a :=
  armLow_congr (svbLines_ist s) (on_congr (get_svbLines (by decide) s)) (by rw [svbLines_safe hes]) a

/-! ## The drives of the outputs -/

theorem safeDrive_writes (s : State) : IslandWrites [F.SAFE_OUT_STATE] s s.safeDrive :=
  .set (.record (.refl _ s) _) _ (List.mem_singleton.mpr rfl)

/-- Only the drives and when they changed. -/
theorem safeDrive_safe (s : State) : s.safeDrive.safe =
    { s.safe with drive := s.safeDrive.safe.drive, driveAt := s.safeDrive.safe.driveAt } := rfl

/-- What functions and faults ask of output o (R432, R433, R436). -/
def wantsOut (s : State) (o : Nat) : Bool :=
  decide (s.ist = .operate) && !bit s.safe.flt o &&
    ((bit (s.act F.SAFE_SBT_CFG_OUTS) o && !s.on F.SAFE_STAT_SBT &&
        decide (s.safe.flt &&& s.act F.SAFE_SBT_CFG_OUTS = 0)) ||
      (bit (s.act F.SAFE_SAP_CFG_OUTS) o && s.on F.SAFE_STAT_SAP_ON &&
        decide (s.safe.flt &&& s.act F.SAFE_SAP_CFG_OUTS = 0)))

theorem safeDrive_drive (s : State) : s.safeDrive.safe.drive = ofBits 8 s.wantsOut := rfl

theorem bit_drive (s : State) {o : Nat} (ho : o < 8) : bit s.safeDrive.safe.drive o = s.wantsOut o := by
  rw [safeDrive_drive, bit, testBit_ofBits, decide_eq_true ho, Bool.true_and]

/-- Outside OPERATE no output is energised (R418). -/
theorem safeDrive_off (h : s.ist ≠ .operate) : s.safeDrive.safe.drive = 0 := by
  have hnone : s.wantsOut = fun _ => false := by
    funext o
    rw [wantsOut, decide_eq_false h, Bool.false_and, Bool.false_and]
  rw [safeDrive_drive, hnone]
  rfl

@[simp] theorem safeDrive_ist (s : State) : s.safeDrive.ist = s.ist :=
  (safeDrive_writes s).ist (by decide)

theorem on_safeDrive (s : State) {f : Fld} (h : F.SAFE_OUT_STATE.Clear f) : s.safeDrive.on f = s.on f :=
  (safeDrive_writes s).on f (by simpa using h)

/-! ## A state entered -/

/-- The state's code, and outside OPERATE no SAP. -/
def stateShown (s : State) (x : IState) : State :=
  if x = .operate then s.set F.SAFE_STAT_ISTATE x.code
  else ({ s.set F.SAFE_STAT_ISTATE x.code with safe := { s.safe with sapFrom :=
      none } }).set F.SAFE_STAT_SAP_ON 0

theorem setIst_eq (s : State) (x : IState) : s.setIst x = (s.stateShown x).safeDrive.svbLines := rfl

theorem stateShown_writes (s : State) (x : IState) :
    IslandWrites [F.SAFE_STAT_ISTATE, F.SAFE_STAT_SAP_ON] s (s.stateShown x) := by
  have hcode := IslandWrites.set (.refl [F.SAFE_STAT_ISTATE, F.SAFE_STAT_SAP_ON] s) x.code
    (f := F.SAFE_STAT_ISTATE) (by simp)
  exact .ite _ hcode (.set (.record hcode _) _ (by simp))

theorem stateShown_ist (hes : s.straps.es = true) {x : IState} (hx : x ≠ .disabled) :
    (s.stateShown x).ist = x := by
  have hcode : (s.stateShown x).get F.SAFE_STAT_ISTATE = x.code := by
    have hset (t : State) : (t.set F.SAFE_STAT_ISTATE x.code).get F.SAFE_STAT_ISTATE = x.code := by
      rw [get_set _ _ _ (by decide)]
      cases x <;> rfl
    unfold stateShown
    split
    · exact hset s
    · rw [get_set_clear _ _ (by decide)]
      exact hset s
  rw [ist, (stateShown_writes s x).straps, hes, hcode]
  cases x
  case disabled => exact absurd rfl hx
  all_goals rfl

/-- The record of the island but for its drives and SAP's delay. -/
theorem stateShown_safe (s : State) (x : IState) :
    (s.stateShown x).safe = { s.safe with sapFrom := (s.stateShown x).safe.sapFrom } := by
  unfold stateShown
  split <;> rfl

theorem setIst_ist (hes : s.straps.es = true) {x : IState} (hx : x ≠ .disabled) : (s.setIst x).ist = x := by
  rw [setIst_eq, svbLines_ist, safeDrive_ist, stateShown_ist hes hx]

theorem get_setIst (s : State) (x : IState) {f : Fld} (h7 : f.addr / 0x10000 = 7)
    (h : ∀ g ∈ [F.SAFE_STAT_ISTATE, F.SAFE_STAT_SAP_ON, F.SAFE_OUT_STATE], g.Clear f) :
    (s.setIst x).get f = s.get f := by
  rw [setIst_eq, get_svbLines h7, (safeDrive_writes _).get f (fun g hg => h g (List.mem_append_right [_,
      _] hg)),
    (stateShown_writes s x).get f fun g hg => h g (List.mem_append_left [_] hg)]

theorem on_setIst (s : State) (x : IState) {f : Fld} (h7 : f.addr / 0x10000 = 7)
    (h : ∀ g ∈ [F.SAFE_STAT_ISTATE, F.SAFE_STAT_SAP_ON, F.SAFE_OUT_STATE], g.Clear f) :
    (s.setIst x).on f = s.on f := on_congr (get_setIst s x h7 h)

/-- The record but for drives and SAP's delay. -/
theorem setIst_safe (hes : s.straps.es = true) (x : IState) :
    (s.setIst x).safe = { s.safe with sapFrom := (s.setIst x).safe.sapFrom,
                                      drive := (s.setIst x).safe.drive,
                                      driveAt := (s.setIst x).safe.driveAt } := by
  have hes' : (s.stateShown x).safeDrive.straps.es = true := by
    rw [(safeDrive_writes _).straps, (stateShown_writes s x).straps, hes]
  rw [setIst_eq, svbLines_safe hes', safeDrive_safe, stateShown_safe]

/-- Outside OPERATE the island holds the safe state (R418). -/
theorem setIst_off (hes : s.straps.es = true) {x : IState} (hd : x ≠ .disabled) (ho : x ≠ .operate) :
    (s.setIst x).safe.drive = 0 ∧ (s.setIst x).get F.TRIP_STAT_SVB_DEM = 63 := by
  have hist : (s.stateShown x).ist ≠ .operate := by rwa [stateShown_ist hes hd]
  have hes' : (s.stateShown x).safeDrive.straps.es = true := by
    rw [(safeDrive_writes _).straps, (stateShown_writes s x).straps, hes]
  rw [setIst_eq, svbLines_safe hes', safeDrive_off hist]
  exact ⟨rfl, get_svbLines_dem_off hes' (by rwa [safeDrive_ist])⟩

/-- FAULT with a cause (R418, R438). -/
theorem setIst_faulted (hes : s.straps.es = true) (cause : Nat) :
    IslandFaulted (cause % 2 ^ F.SAFE_CHK_FCAUSE.w) ((s.set F.SAFE_CHK_FCAUSE cause).setIst .fault) := by
  have hes' : (s.set F.SAFE_CHK_FCAUSE cause).straps.es = true := hes
  obtain ⟨hdrive, hdem⟩ := setIst_off hes' (x := .fault) (by decide) (by decide)
  refine ⟨setIst_ist hes' (by decide), ?_, hdrive, hdem⟩
  rw [get_setIst _ _ (by decide) (by decide), get_set _ _ _ (by decide)]

theorem islandFault_faulted (hes : s.straps.es = true) (h : s.ist = .unconf ∨ s.ist = .operate)
    {cause : Nat} (hc : cause < 16) : IslandFaulted cause (s.islandFault cause) := by
  have hmod : cause % 2 ^ F.SAFE_CHK_FCAUSE.w = cause := Nat.mod_eq_of_lt hc
  have hf := setIst_faulted hes cause
  rw [hmod] at hf
  rw [islandFault, if_pos (by simpa using h)]
  exact hf

/-! ## Functions that latch and reset -/

theorem inc_writes (s : State) (f : Fld) : IslandWrites [f] s (s.inc f) :=
  .set (.refl _ s) _ (List.mem_singleton.mpr rfl)

theorem flag_writes (s : State) (f : Fld) : IslandWrites [f] s (s.flag f) :=
  .set (.refl _ s) _ (List.mem_singleton.mpr rfl)

theorem fnLatch_writes (s : State) (f : Fld) : IslandWrites [f, R.SAFE_CNT_DEM] s (s.fnLatch f) :=
  .ite _ (.refl _ s) ((flag_writes s f).mono (by simp) |>.trans ((inc_writes _ _).mono (by simp)))

theorem fnLatch_safe (s : State) (f : Fld) : (s.fnLatch f).safe = s.safe :=
  (apply_ite State.safe _ _ _).trans (ite_self s.safe)

theorem on_fnLatch (s : State) {f : Fld} (hw : f.w = 1) (hl : f.lo < 32) (hc : R.SAFE_CNT_DEM.Clear f) :
    (s.fnLatch f).on f = true := by
  unfold fnLatch
  split
  · assumption
  · exact (on_congr (get_set_clear _ _ hc)).trans (on_flag s hw hl)

theorem fnLatchAll_writes (s : State) :
    IslandWrites [F.SAFE_STAT_SVB, F.SAFE_STAT_SBT, R.SAFE_CNT_DEM] s s.fnLatchAll :=
  .record (((fnLatch_writes s _).mono (by simp)).trans ((fnLatch_writes _ _).mono (by simp))) _

theorem fnLatchAll_safe (s : State) : s.fnLatchAll.safe = { s.safe with fresh := true, sapFrom := none } := by
  rw [fnLatchAll, fnLatch_safe, fnLatch_safe]

/-- Both functions are latched (R418, R428). -/
theorem fnLatchAll_on (s : State) :
    s.fnLatchAll.on F.SAFE_STAT_SVB = true ∧ s.fnLatchAll.on F.SAFE_STAT_SBT = true := by
  have hsvb : (s.fnLatch F.SAFE_STAT_SVB).on F.SAFE_STAT_SVB = true :=
    on_fnLatch s rfl (by decide) (by decide)
  exact ⟨((fnLatch_writes _ F.SAFE_STAT_SBT).on _ (by decide)).trans hsvb,
    on_fnLatch (s.fnLatch F.SAFE_STAT_SVB) rfl (by decide) (by decide)⟩

/-- What a demand and a reset of SVB rest on in the island's record. -/
def demands (s : State) : Sparse Word × Nat × Nat × Nat × Bool × Bool :=
  (s.safe.active, s.safe.ca, s.safe.cb, s.safe.faults, s.safe.fresh, s.safe.reqIn)

theorem sinState_congr (h : t.demands = s.demands) (i : Nat) : t.sinState i = s.sinState i := by
  simp only [demands, Prod.mk.injEq] at h
  obtain ⟨hact, hca, hcb, hfaults, -, -⟩ := h
  have hnormal (b : Bool) : t.sinNormal i b = s.sinNormal i b := by
    rw [sinNormal, sinNormal, act_congr hact, hca, hcb]
  rw [sinState, sinState, act_congr hact, hfaults, hnormal, hnormal]

theorem svbWanted_congr (h : t.demands = s.demands)
    (hwd : t.on F.SAFE_STAT_WD_EXP = s.on F.SAFE_STAT_WD_EXP) : t.svbWanted = s.svbWanted := by
  have hact : t.safe.active = s.safe.active := congrArg Prod.fst h
  have hsin : t.sinState = s.sinState := funext (sinState_congr h)
  rw [svbWanted, svbWanted, hsin, hwd, act_congr hact, actOn_congr hact]

theorem fnDemand_writes (s : State) :
    IslandWrites [F.SAFE_STAT_SVB, F.SAFE_STAT_SBT, R.SAFE_CNT_DEM] s s.fnDemand :=
  .ite _ (.when _ (.when _ (.refl _ s) ((fnLatch_writes _ _).mono (by simp)))
    ((fnLatch_writes _ _).mono (by simp))) (.refl _ s)

theorem when_safe (c : Bool) {f : State → State} (h : (f s).safe = s.safe) : (s.when c f).safe = s.safe := by
  cases c
  · rfl
  · exact h

theorem fnDemand_safe (s : State) : s.fnDemand.safe = s.safe := by
  unfold fnDemand
  split
  · extract_lets u
    exact (when_safe (s := u) _ (fnLatch_safe u _)).trans (when_safe (s := s) _ (fnLatch_safe s _))
  · rfl

/-- In OPERATE SVB is latched after its demand, or where it was (R426). -/
theorem on_fnDemand (h : s.ist = .operate) :
    s.fnDemand.on F.SAFE_STAT_SVB = (s.svbWanted || s.on F.SAFE_STAT_SVB) := by
  have hsbt (u : State) (c : Bool) :
      (u.when c (·.fnLatch F.SAFE_STAT_SBT)).on F.SAFE_STAT_SVB = u.on F.SAFE_STAT_SVB :=
    (IslandWrites.when c (.refl _ u) (fnLatch_writes u F.SAFE_STAT_SBT)).on _ (by decide)
  rw [fnDemand, if_pos h, hsbt]
  cases s.svbWanted
  · rfl
  · exact on_fnLatch s rfl (by decide) (by decide)

/-- SVB, or SBT, resets on the request that waits. -/
def svbResets (s : State) : Bool :=
  s.fnResets F.SAFE_STAT_SVB s.svbWanted (s.actOn F.SAFE_SVB_CFG_RST_HOST) 0
def sbtResets (s : State) : Bool :=
  s.fnResets F.SAFE_STAT_SBT s.sbtWanted (s.actOn F.SAFE_SBT_CFG_RST_HOST) (s.act F.SAFE_SBT_CFG_OUTS)

/-- A function reset and counted. -/
def fnCleared (s : State) (f : Fld) : State := (s.set f 0).inc R.SAFE_CNT_RST

/-- Both functions as the request leaves them. -/
def fnsReset (s : State) : State :=
  (s.when s.svbResets (·.fnCleared F.SAFE_STAT_SVB)).when s.sbtResets (·.fnCleared F.SAFE_STAT_SBT)

/-- The faults that a reset clears, or the refusal of the request (R424, R436). -/
def resetNoted (s : State) (any : Bool) (sbt : Nat) : State :=
  if any then
    { s with safe := { s.safe with
        faults := ofBits 16 (fun i => bit s.safe.faults i && !(s.sinNormal i false && s.sinNormal i true)),
        flt := s.safe.flt &&& ((s.act F.SAFE_SAP_CFG_OUTS ||| sbt) ^^^ 0xFF) } }
  else s.flag F.SAFE_FLAG_RST_REJ

/-- The request taken. -/
def requestTaken (s : State) : State :=
  s.fnsReset.resetNoted (s.svbResets || s.sbtResets) (if s.sbtResets then s.act F.SAFE_SBT_CFG_OUTS else 0)

theorem fnRequest_eq (h : (s.safe.reqIn || s.safe.reqHost) = true) : s.fnRequest =
    { s.requestTaken with safe := { s.requestTaken.safe with reqIn := false, reqHost := false } } := by
  have hc : ¬(!s.safe.reqIn && !s.safe.reqHost) = true := by
    rw [← Bool.not_or, h]
    decide
  unfold fnRequest
  rw [if_neg hc]
  rfl

theorem fnRequest_none (h : ¬(s.safe.reqIn || s.safe.reqHost) = true) : s.fnRequest = s := by
  unfold fnRequest
  exact if_pos (by simpa using h)

theorem fnCleared_writes (s : State) (f : Fld) : IslandWrites [f, R.SAFE_CNT_RST] s (s.fnCleared f) :=
  .set (.set (.refl _ s) _ (by simp)) _ (by simp)

theorem fnCleared_safe (s : State) (f : Fld) : (s.fnCleared f).safe = s.safe := rfl

theorem fnsReset_writes (s : State) :
    IslandWrites [F.SAFE_STAT_SVB, F.SAFE_STAT_SBT, R.SAFE_CNT_RST] s s.fnsReset :=
  .when _ (.when _ (.refl _ s) ((fnCleared_writes s _).mono (by simp)))
    ((fnCleared_writes _ _).mono (by simp))

theorem fnsReset_safe (s : State) : s.fnsReset.safe = s.safe :=
  (when_safe _ (fnCleared_safe _ _)).trans (when_safe _ (fnCleared_safe s F.SAFE_STAT_SVB))

theorem resetNoted_writes (s : State) (any : Bool) (sbt : Nat) :
    IslandWrites [F.SAFE_FLAG_RST_REJ] s (s.resetNoted any sbt) :=
  .ite _ (.record (.refl _ s) _) (flag_writes s _)

theorem resetNoted_active (s : State) (any : Bool) (sbt : Nat) :
    (s.resetNoted any sbt).safe.active = s.safe.active := by
  cases any <;> rfl

/-- A request writes the functions, their count and its flag. -/
theorem fnRequest_writes (s : State) : IslandWrites
    [F.SAFE_STAT_SVB, F.SAFE_STAT_SBT, R.SAFE_CNT_RST, F.SAFE_FLAG_RST_REJ] s s.fnRequest := by
  by_cases h : (s.safe.reqIn || s.safe.reqHost) = true
  · rw [fnRequest_eq h]
    exact .record (((fnsReset_writes s).mono (by simp)).trans ((resetNoted_writes _ _ _).mono (by simp))) _
  · rw [fnRequest_none h]
    exact .refl _ s

theorem fnRequest_active (s : State) : s.fnRequest.safe.active = s.safe.active := by
  by_cases h : (s.safe.reqIn || s.safe.reqHost) = true
  · rw [fnRequest_eq h, requestTaken, resetNoted_active, fnsReset_safe]
  · rw [fnRequest_none h]

theorem fnRequest_reqIn (s : State) : s.fnRequest.safe.reqIn = false := by
  by_cases h : (s.safe.reqIn || s.safe.reqHost) = true
  · rw [fnRequest_eq h]
  · rw [fnRequest_none h]
    simpa using (Bool.or_eq_false_iff.mp (Bool.not_eq_true _ ▸ h)).1

/-- A request resets SVB where its conditions hold, and else leaves it (R427, R428). -/
theorem on_fnRequest (s : State) :
    s.fnRequest.on F.SAFE_STAT_SVB = (s.on F.SAFE_STAT_SVB && !s.svbResets) := by
  by_cases h : (s.safe.reqIn || s.safe.reqHost) = true
  · have hend : s.fnRequest.on F.SAFE_STAT_SVB = s.requestTaken.on F.SAFE_STAT_SVB := by
      rw [fnRequest_eq h]
      rfl
    have hsbt (u : State) (c : Bool) :
        (u.when c (·.fnCleared F.SAFE_STAT_SBT)).on F.SAFE_STAT_SVB = u.on F.SAFE_STAT_SVB :=
      (IslandWrites.when c (.refl _ u) (fnCleared_writes u F.SAFE_STAT_SBT)).on _ (by decide)
    rw [hend, requestTaken, (resetNoted_writes _ _ _).on _ (by decide), fnsReset, hsbt]
    cases s.svbResets
    · rw [Bool.not_false, Bool.and_true, when_false]
    · rw [Bool.not_true, Bool.and_false, when_true, fnCleared, inc, on, get_set_clear _ _ (by decide),
        get_set _ _ _ (by decide)]
      rfl
  · have hno : s.safe.reqIn = false ∧ s.safe.reqHost = false :=
      Bool.or_eq_false_iff.mp (Bool.not_eq_true _ ▸ h)
    rw [fnRequest_none h]
    simp [svbResets, fnResets, hno]

theorem sapTrack_writes (s : State) : IslandWrites [F.SAFE_STAT_SAP_ON] s s.sapTrack :=
  .ite _ (.ite _ (.refl _ s) (.record (.refl _ s) _)) (.set (.record (.refl _ s) _) _ (by simp))

theorem sapTrack_safe (s : State) : s.sapTrack.safe = { s.safe with sapFrom := s.sapTrack.safe.sapFrom } := by
  unfold sapTrack
  split
  · split <;> rfl
  · rfl

theorem sapTrack_active (s : State) : s.sapTrack.safe.active = s.safe.active := by rw [sapTrack_safe]
theorem sapTrack_reqIn (s : State) : s.sapTrack.safe.reqIn = s.safe.reqIn := by rw [sapTrack_safe]

/-! ## Readbacks -/

theorem outFault_writes (s : State) (o : Nat) : IslandWrites [F.SAFE_FLAG_OUT_FLT] s (s.outFault o) :=
  .set (.record (.refl _ s) _) _ (by simp)

theorem readbacks_writes (s : State) (a b : Nat) : IslandWrites [F.SAFE_FLAG_OUT_FLT] s (s.readbacks a b)
    := by
  refine IslandWrites.trans (.record (.refl _ s) _) (.foldl _ (fun u o => ?_) _)
  exact .ite _ (.refl _ u) (.ite _ (.trans (.record (.refl _ u) _) (outFault_writes _ o))
      (.record (.refl _ u) _))

theorem readbacks_demands (s : State) (a b : Nat) : (s.readbacks a b).demands = s.demands :=
  List.foldlRecOn (motive := fun t : State => t.demands = s.demands) _ _ rfl fun u hu _ _ =>
    (apply_ite demands _ _ _).trans (by
      rw [apply_ite demands]
      exact (ite_congr rfl (fun _ => rfl) fun _ => ite_self _).trans ((ite_self u.demands).trans hu))

/-! ## An evaluation -/

/-- What an evaluation has judged and latched before it drives outputs and permit lines. -/
def judged (s : State) (a b : Nat) : State := (s.safeIn.readbacks a b).fnDemand.fnRequest.sapTrack
def evaluated (s : State) (a b : Nat) : State :=
  { s.judged a b with safe := { (s.judged a b).safe with fresh := false } }

theorem islandEval_operate (h : s.ist = .operate) {a b p : Nat} (hp : p % 128 = s.permits) :
    s.islandEval a b p = (s.evaluated a b).safeDrive.svbLines := by
  unfold islandEval
  rw [h]
  simp only
  rw [if_neg (not_not.mpr hp), evaluated, judged]

theorem islandEval_permits (h : s.ist = .operate) {a b p : Nat} (hp : p % 128 ≠ s.permits) :
    s.islandEval a b p = s.islandFault 6 := by
  unfold islandEval
  rw [h]
  simp only
  rw [if_pos hp]

/-- The fields that judging and latching write. -/
abbrev evalFields : List Fld :=
  [F.SAFE_IN_STATE, F.SAFE_FLAG_OUT_FLT, F.SAFE_STAT_SVB, F.SAFE_STAT_SBT, R.SAFE_CNT_DEM, R.SAFE_CNT_RST,
    F.SAFE_FLAG_RST_REJ, F.SAFE_STAT_SAP_ON]

/-- The inputs and readbacks as an evaluation takes them. -/
theorem sensed_writes (s : State) (a b : Nat) :
    IslandWrites [F.SAFE_IN_STATE, F.SAFE_FLAG_OUT_FLT] s (s.safeIn.readbacks a b) :=
  .trans (.set (.refl _ s) _ (by simp)) ((readbacks_writes _ a b).mono (by simp))

theorem evaluated_writes (s : State) (a b : Nat) : IslandWrites evalFields s (s.evaluated a b) :=
  .record (((((sensed_writes s a b).mono (by simp)).trans ((fnDemand_writes _).mono (by simp))).trans
    ((fnRequest_writes _).mono (by simp))).trans ((sapTrack_writes _).mono (by simp))) _

theorem evaluated_active (s : State) (a b : Nat) : (s.evaluated a b).safe.active = s.safe.active := by
  have hread : (s.safeIn.readbacks a b).safe.active = s.safe.active := by
    have h := readbacks_demands s.safeIn a b
    rw [demands, demands, Prod.mk.injEq] at h
    exact h.1
  have hend : (s.evaluated a b).safe.active = (s.judged a b).safe.active := by rw [evaluated]
  rw [hend, judged, sapTrack_active, fnRequest_active, fnDemand_safe, hread]

theorem evaluated_ist (s : State) (a b : Nat) : (s.evaluated a b).ist = s.ist :=
  (evaluated_writes s a b).ist (by decide)

theorem evaluated_reqIn (s : State) (a b : Nat) : (s.evaluated a b).safe.reqIn = false := by
  have hend : (s.evaluated a b).safe.reqIn = (s.judged a b).safe.reqIn := by rw [evaluated]
  rw [hend, judged, sapTrack_reqIn, fnRequest_reqIn]

/-- SVB after an evaluation: latched by a demand; without one a request that waits resets it where
the demand is not fresh. -/
theorem on_evaluated (h : s.ist = .operate) (a b : Nat) : (s.evaluated a b).on F.SAFE_STAT_SVB =
    (s.svbWanted || (s.on F.SAFE_STAT_SVB && !(s.safeIn.readbacks a b).fnDemand.svbResets)) := by
  have hsense := sensed_writes s a b
  have hdem : (s.safeIn.readbacks a b).demands = s.demands := readbacks_demands s.safeIn a b
  have hwanted : (s.safeIn.readbacks a b).svbWanted = s.svbWanted :=
    svbWanted_congr hdem (hsense.on _ (by decide))
  have hwanted' : (s.safeIn.readbacks a b).fnDemand.svbWanted = s.svbWanted :=
    (svbWanted_congr (by simp only [demands, fnDemand_safe])
        ((fnDemand_writes _).on _ (by decide))).trans hwanted
  have hon : (s.evaluated a b).on F.SAFE_STAT_SVB =
      (s.safeIn.readbacks a b).fnDemand.fnRequest.on F.SAFE_STAT_SVB := by
    rw [evaluated, judged]
    exact (IslandWrites.record (sapTrack_writes _) _).on _ (by decide)
  rw [hon, on_fnRequest, on_fnDemand ((hsense.ist (by decide)).trans h), hwanted, hsense.on _ (by decide)]
  cases hw : s.svbWanted
  · rw [Bool.false_or, Bool.false_or]
  · rw [svbResets, fnResets, hwanted', hw]
    simp

/-! ## VDDSAFE and the self-test -/

theorem vddUp_powerup (hes : s.straps.es = true) (h : s.ist = .powerup) :
    s.vddUp = { s with safe := { s.safe with vdd := true, testing := true } } := by
  have hist : ({ s with safe := { s.safe with vdd := true } } : State).ist = .powerup := h
  unfold vddUp
  rw [if_neg (by simp [hes])]
  exact if_pos hist

theorem vddUp_other (hes : s.straps.es = true) (h : s.ist ≠ .powerup) :
    s.vddUp = { s with safe := { s.safe with vdd := true } } := by
  have hist : ({ s with safe := { s.safe with vdd := true } } : State).ist ≠ .powerup := h
  unfold vddUp
  rw [if_neg (by simp [hes])]
  exact if_neg hist

/-- The island without power: its record and registers gone. -/
def unpowered (s : State) : State :=
  { s with safe := {}, regs := s.regs.filter (fun p => decide (p.1 < 0x70000 ∨ 0x80000 ≤ p.1)) }

theorem vddLoss_eq (hes : s.straps.es = true) : s.vddLoss = s.unpowered.setIst .powerup := by
  unfold vddLoss
  rw [if_neg (by simp [hes])]
  rfl

/-- Without power the island stands in POWERUP in the safe state (R418). -/
theorem vddLoss_powerup (hes : s.straps.es = true) : s.vddLoss.ist = .powerup ∧
    s.vddLoss.safe.committed = false ∧ s.vddLoss.safe.active = [] ∧ s.vddLoss.safe.drive = 0 ∧
    s.vddLoss.safe.vdd = false ∧ s.vddLoss.get F.TRIP_STAT_SVB_DEM = 63 := by
  have hes' : s.unpowered.straps.es = true := hes
  obtain ⟨hdrive, hdem⟩ := setIst_off hes' (x := .powerup) (by decide) (by decide)
  have hrec := setIst_safe hes' .powerup
  rw [vddLoss_eq hes]
  exact ⟨setIst_ist hes' (by decide), by rw [hrec]; rfl, by rw [hrec]; rfl, hdrive, by rw [hrec]; rfl, hdem⟩

/-- The self-test no longer runs. -/
def tested (s : State) : State := { s with safe := { s.safe with testing := false } }

/-- The configuration image back at its reset values. -/
def imageCleared (s : State) : State :=
  { s with safe := { s.safe with active := [], committed := false },
           regs := s.regs.filter (fun p => !(safeImage.any (fun f => decide (f.addr = p.1)))) }

theorem selftestDone_powerup (ht : s.safe.testing = true) (h : s.ist = .powerup) (pass : Bool) (cause : Nat) :
    s.selftestDone pass cause = if pass then s.tested.imageCleared.setIst .unconf
      else (s.tested.set F.SAFE_CHK_FCAUSE cause).setIst .fault := by
  have hist : s.tested.ist = .powerup := h
  unfold selftestDone
  rw [if_neg (by simp [ht])]
  show (match s.tested.ist with | .powerup => _ | .fault => _ | _ => _) = _
  rw [hist]
  rfl

theorem selftestDone_fault (ht : s.safe.testing = true) (h : s.ist = .fault)
    (hc : s.safe.committed = false) (cause : Nat) :
    s.selftestDone true cause = s.tested.fnLatchAll.setIst .unconf := by
  have hist : s.tested.ist = .fault := h
  have hcrc : ¬(s.tested.safe.committed && decide (s.tested.activeCrc = s.tested.safe.crc)) = true := by
    rw [show s.tested.safe.committed = false from hc, Bool.false_and]
    exact Bool.false_ne_true
  unfold selftestDone
  rw [if_neg (by simp [ht])]
  show (match s.tested.ist with | .powerup => _ | .fault => _ | _ => _) = _
  rw [hist]
  exact (if_neg (by decide)).trans (if_neg hcrc)

/-- A passed self-test leads out of POWERUP to UNCONF, a failed one to FAULT (R418, R439). -/
theorem selftestDone_ends (hes : s.straps.es = true) (ht : s.safe.testing = true) (h : s.ist = .powerup)
    (cause : Nat) :
    ((s.selftestDone true cause).ist = .unconf ∧ (s.selftestDone true cause).safe.testing = false ∧
      (s.selftestDone true cause).safe.drive = 0) ∧
    IslandFaulted (cause % 2 ^ F.SAFE_CHK_FCAUSE.w) (s.selftestDone false cause) ∧
      (s.selftestDone false cause).safe.testing = false := by
  have hclear : s.tested.imageCleared.straps.es = true := hes
  have hcause : (s.tested.set F.SAFE_CHK_FCAUSE cause).straps.es = true := hes
  rw [selftestDone_powerup ht h, selftestDone_powerup ht h, if_pos rfl, if_neg Bool.false_ne_true]
  exact ⟨⟨setIst_ist hclear (by decide), by rw [setIst_safe hclear]; rfl,
    (setIst_off hclear (by decide) (by decide)).1⟩, setIst_faulted (s := s.tested) hes cause,
    by rw [setIst_safe hcause]; rfl⟩

/-- Out of FAULT a passed self-test latches both functions (R428). -/
theorem selftestDone_latches (hes : s.straps.es = true) (ht : s.safe.testing = true) (h : s.ist = .fault)
    (hc : s.safe.committed = false) (cause : Nat) : (s.selftestDone true cause).ist = .unconf ∧
    (s.selftestDone true cause).on F.SAFE_STAT_SVB = true ∧
    (s.selftestDone true cause).on F.SAFE_STAT_SBT = true := by
  obtain ⟨hsvb, hsbt⟩ := fnLatchAll_on s.tested
  have hes' : s.tested.fnLatchAll.straps.es = true := by rw [(fnLatchAll_writes _).straps]; exact hes
  rw [selftestDone_fault ht h hc]
  exact ⟨setIst_ist hes' (by decide), (on_setIst _ _ (by decide) (by decide)).trans hsvb,
    (on_setIst _ _ (by decide) (by decide)).trans hsbt⟩

/-! ## The commands -/

theorem hostW_safeCmd (hs : s.Awake) {v : Nat} (hv : v < 16) : s.hostW R.SAFE_CMD.addr v = s.safeCmd v := by
  have hne : R.SAFE_CMD.addr ≠ R.ETH_STEP_CMD.addr := by decide
  have hd : v < 2 ^ 32 := by omega
  rw [hostW_awake s hs rfl hd, busW_eq_busW1 s _ hne, busW1_safe s _ (by decide), wrSafe,
    wholeWrite_a, if_pos rfl, wholeWrite_cmd _ hd, Nat.mod_eq_of_lt hv]

/-- What a table made of a list's keys, all different, holds under one of them. -/
theorem sget_of_map {α : Type} (l : List Fld) (v : Fld → α) (d : α) (hnd : (l.map Fld.addr).Nodup)
    {f : Fld} (hf : f ∈ l) : sget (l.map fun f => (f.addr, v f)) d f.addr = v f := by
  induction l with
  | nil => exact absurd hf (List.not_mem_nil)
  | cons g l ih =>
    rw [List.map_cons, List.nodup_cons] at hnd
    obtain ⟨hnew, hrest⟩ := hnd
    rw [List.map_cons, sget]
    rcases List.mem_cons.mp hf with rfl | hin
    · rw [if_pos rfl]
    · have hne : g.addr ≠ f.addr := fun h => hnew (h ▸ List.mem_map_of_mem hin)
      rw [if_neg hne, ih hrest hin]

/-- The registers of the image are whole, and none is SAFE_CHK. -/
theorem safeImage_whole : ∀ f ∈ safeImage, f.lo = 0 ∧ f.w = 32 ∧ f.addr ≠ F.SAFE_CHK_CODE.addr := by decide

/-- The staged image as it is committed. -/
def stagedWords (s : State) : Sparse Word := safeImage.map fun f => (f.addr, BitVec.ofNat 32 (s.word f))

theorem act_stagedWords (h : t.safe.active = s.stagedWords) {f : Fld} (hf : f ∈ safeImage) :
    t.act f = s.word f := by
  obtain ⟨hlo, hw, -⟩ := safeImage_whole f hf
  have hlt : s.word f < 2 ^ 32 := (sget s.regs _ f.addr).isLt
  rw [act, h, stagedWords, sget_of_map _ _ _ (by decide) hf, hlo, hw, BitVec.toNat_ofNat, bits,
    Nat.shiftRight_zero, Nat.mod_mod, Nat.mod_eq_of_lt hlt]

/-- The code of the check shown. -/
def commitChecked (s : State) : State := s.set F.SAFE_CHK_CODE s.commitCode

/-- The staged image made the active one (R420). -/
def imageTaken (s : State) : State :=
  (({ s with safe := { s.safe with active := s.stagedWords, crc := s.get R.SAFE_CRC, committed :=
      true } }).set
    R.SAFE_CRC_CUR (s.get R.SAFE_CRC)).set F.SAFE_STAT_STAGED 0

/-- A commit but for the state it enters. -/
def committing (s : State) : State := s.imageTaken.wdOff.fnLatchAll.set F.SAFE_STAT_SAP_ON 0

theorem safeCommit_sound (h : s.ist = .unconf ∨ s.ist = .operate) (hc : s.commitCode = 0) :
    s.safeCommit = s.commitChecked.committing.setIst .operate := by
  unfold safeCommit
  rw [if_pos (by simpa using h)]
  dsimp only
  rw [if_neg (by simp [hc])]
  rfl

theorem safeCommit_refused (h : s.ist = .unconf ∨ s.ist = .operate) (hc : s.commitCode ≠ 0) :
    s.safeCommit = (s.set F.SAFE_CHK_CODE s.commitCode).set F.SAFE_FLAG_CRC_REJ 1 := by
  unfold safeCommit
  rw [if_pos (by simpa using h)]
  exact if_pos hc

theorem wdOff_safe (s : State) : s.wdOff.safe = { s.safe with wdLast := none, wdGood := 0 } := rfl

theorem committing_safe (s : State) : s.committing.safe =
    { s.safe with active := s.stagedWords, crc := s.get R.SAFE_CRC, committed := true, wdLast := none,
                  wdGood := 0, fresh := true, sapFrom := none } := by
  rw [committing, set_safe, fnLatchAll_safe, wdOff_safe]
  rfl

/-- A sound image is active, in OPERATE, with both functions latched (R420, R428). -/
theorem safeCommit_operates (hes : s.straps.es = true) (h : s.ist = .unconf ∨ s.ist = .operate)
    (hc : s.commitCode = 0) : s.safeCommit.ist = .operate ∧ s.safeCommit.safe.committed = true ∧
    s.safeCommit.on F.SAFE_STAT_SVB = true ∧ s.safeCommit.on F.SAFE_STAT_SBT = true ∧
    s.safeCommit.safe.crc = s.get R.SAFE_CRC ∧ ∀ f ∈ safeImage, s.safeCommit.act f = s.word f := by
  have hes' : s.commitChecked.committing.straps.es = true := by
    rw [committing, set_straps, (fnLatchAll_writes _).straps]
    exact hes
  obtain ⟨hsvb, hsbt⟩ := fnLatchAll_on s.commitChecked.imageTaken.wdOff
  have hrec := setIst_safe hes' .operate
  rw [committing_safe] at hrec
  rw [safeCommit_sound h hc]
  refine ⟨setIst_ist hes' (by decide), by rw [hrec], ?_, ?_, ?_, fun f hf => ?_⟩
  · rw [on_setIst _ _ (by decide) (by decide), committing, on_congr (get_set_clear _ _ (by decide))]
    exact hsvb
  · rw [on_setIst _ _ (by decide) (by decide), committing, on_congr (get_set_clear _ _ (by decide))]
    exact hsbt
  · rw [hrec]
    exact get_set_ne _ _ _ _ (by decide)
  · have hact : (s.commitChecked.committing.setIst .operate).safe.active = s.commitChecked.stagedWords := by
      rw [hrec]
    rw [act_stagedWords hact hf]
    exact word_set_ne _ _ _ _ (safeImage_whole f hf).2.2

theorem safeReset_asks (h : s.ist = .unconf ∨ s.ist = .operate) :
    s.safeReset = { s with safe := { s.safe with reqHost := true } } := if_pos (by simpa using h)

/-- FAULT ignores a RESET (R427). -/
theorem safeReset_fault (h : s.ist = .fault) : s.safeReset = s := if_neg (by simp [h])

theorem safeFreset_refused (hes : s.straps.es = true) (h : s.ist ≠ .fault) :
    s.safeFreset = s.set F.SAFE_FLAG_CMD_REJ 1 := by
  unfold safeFreset
  rw [if_neg (by simp [hes]), if_neg (by simp [h])]
  rfl

theorem safeFreset_tests (hes : s.straps.es = true) (h : s.ist = .fault) (hv : s.safe.vdd = true) :
    s.safeFreset = { s with safe := { s.safe with testing := true } } := by
  unfold safeFreset
  rw [if_neg (by simp [hes]), if_pos (by simp [h, hv])]

/-! ## Inputs -/

theorem contact_short {n held : Nat} (h : held < s.debounce n) (b level : Bool) :
    s.contact n b level held = s := by
  unfold contact
  exact if_pos (by simp [h])

/-- A contact's debounced level noted. -/
def contactNoted (s : State) (n : Nat) (b level : Bool) : State :=
  { s with safe := if b then { s.safe with cb := setBit s.safe.cb n level }
                   else { s.safe with ca := setBit s.safe.ca n level } }

theorem contact_noted (hes : s.straps.es = true) (hv : s.safe.vdd = true) {n held : Nat}
    (h3 : s.act (F.SAFE_SIN_CFG_TYPE n) ≠ 3) (h : s.debounce n ≤ held) (b level : Bool) :
    s.contact n b level held =
      if bit (if b then s.safe.cb else s.safe.ca) n = level then s else s.contactNoted n b level := by
  have hact : (s.contactNoted n b level).act (F.SAFE_SIN_CFG_TYPE n) ≠ 3 := by
    rw [act_congr (s := s) (by cases b <;> rfl)]
    exact h3
  unfold contact
  by_cases hl : bit (if b then s.safe.cb else s.safe.ca) n = level
  · rw [if_pos hl]
    exact if_pos (by rw [decide_eq_true hl, Bool.or_true])
  · rw [if_neg hl, if_neg (by rw [decide_eq_false hl, decide_eq_false (Nat.not_lt.mpr h), hes, hv]; decide)]
    exact if_pos hact

theorem contactNoted_spec (s : State) (n : Nat) (b level : Bool) :
    bit (if b then (s.contactNoted n b level).safe.cb else (s.contactNoted n b level).safe.ca) n = level ∧
    (s.contactNoted n b level).safe = { s.safe with ca := (s.contactNoted n b level).safe.ca,
                                                     cb := (s.contactNoted n b level).safe.cb } := by
  have hset (x : Nat) : bit (setBit x n level) n = level := (testBit_setBit x n n level).trans (if_pos rfl)
  cases b
  · exact ⟨hset _, rfl⟩
  · exact ⟨hset _, rfl⟩

/-- An input's fault. -/
def inputFault (s : State) (n : Nat) : State :=
  ({ s with safe := { s.safe with faults := setBit s.safe.faults n true } }).flag F.SAFE_FLAG_DISC

theorem ist_ne_disabled (hes : s.straps.es = true) : s.ist ≠ .disabled := by
  unfold ist
  rw [if_neg (by simp [hes])]
  split <;> simp

theorem inputDisc_eq (hes : s.straps.es = true) {n held : Nat}
    (ht : s.act (F.SAFE_SIN_CFG_TYPE n) = 1 ∨ s.act (F.SAFE_SIN_CFG_TYPE n) = 2)
    (hd : s.sinNormal n false ≠ s.sinNormal n true) : s.inputDisc n held =
      if 160000 * max 1 (s.act (F.SAFE_SIN_CFG_DISC n)) ≤ held then s.inputFault n else s := by
  unfold inputDisc
  refine if_congr ?_ rfl rfl
  simp only [Bool.and_eq_true, Bool.or_eq_true, decide_eq_true_eq]
  exact ⟨fun h => h.1.1.2, fun h => ⟨⟨⟨ht, h⟩, hd⟩, ist_ne_disabled hes⟩⟩

theorem inputFault_spec (s : State) {n : Nat}
    (ht : s.act (F.SAFE_SIN_CFG_TYPE n) = 1 ∨ s.act (F.SAFE_SIN_CFG_TYPE n) = 2) :
    (s.inputFault n).sinState n = 2 ∧ (s.inputFault n).on F.SAFE_FLAG_DISC = true ∧
    RegsOnly [F.SAFE_FLAG_DISC.addr] { s with safe := (s.inputFault n).safe } (s.inputFault n) := by
  have hact : (s.inputFault n).act (F.SAFE_SIN_CFG_TYPE n) = s.act (F.SAFE_SIN_CFG_TYPE n) := act_congr rfl _
  have hbit : bit (s.inputFault n).safe.faults n = true :=
    (testBit_setBit s.safe.faults n n true).trans (if_pos rfl)
  refine ⟨?_, on_flag _ rfl (by decide), set_regsOnly _ _ _⟩
  unfold sinState
  rw [hact]
  dsimp only
  rw [if_neg (by simpa [← Decidable.or_iff_not_imp_left] using ht), if_pos hbit]

/-- A command whose operands pass answers the state that it leads to. -/
theorem answers {i : Instr} {c : Bool} {u : State} (hexec : exec i s = gate c u) (hc : c = true) (h : u = t) :
    exec i s = .next t := hexec.trans ((if_pos hc).trans (congrArg _ h))

/-! ## Evaluations -/

/-- An evaluation in OPERATE with true permit lines. -/
theorem islandEval_spec (hes : s.straps.es = true) (h : s.ist = .operate) {a b p : Nat}
    (hp : p % 128 = s.permits) :
    (s.islandEval a b p).ist = .operate ∧
    (s.islandEval a b p).on F.SAFE_STAT_SVB = (s.evaluated a b).on F.SAFE_STAT_SVB ∧
    (s.islandEval a b p).safe.reqIn = false ∧
    ∀ k, k < 6 → bit (s.act F.SAFE_SVB_CFG_ARMS) k = true → (s.evaluated a b).on F.SAFE_STAT_SVB = true →
      (s.islandEval a b p).armLow k = true ∧ (s.islandEval a b p).bitOf F.TRIP_STAT_SVB_DEM k = true := by
  have hes' : (s.evaluated a b).safeDrive.straps.es = true := by
    rw [(safeDrive_writes _).straps, (evaluated_writes s a b).straps, hes]
  have hon := on_safeDrive (s.evaluated a b) (f := F.SAFE_STAT_SVB) (by decide)
  rw [islandEval_operate h hp]
  refine ⟨?_, (on_congr (get_svbLines (by decide) _)).trans hon, ?_, fun k hk harm hsvb => ?_⟩
  · rw [svbLines_ist, safeDrive_ist, evaluated_ist, h]
  · rw [svbLines_safe hes', safeDrive_safe, evaluated_reqIn]
  · have hact : (s.evaluated a b).safeDrive.act F.SAFE_SVB_CFG_ARMS = s.act F.SAFE_SVB_CFG_ARMS := by
      refine act_congr ?_ _
      rw [safeDrive_safe, evaluated_active]
    have hlow : (s.evaluated a b).safeDrive.armLow k = true := by
      rw [armLow, hact, hon, hsvb, harm]
      simp
    exact ⟨(svbLines_armLow hes' k).trans hlow, bitOf_svbLines_dem hes' hk hlow⟩

/-- With a request at an input and no demand that is fresh, SVB resets. -/
theorem svbResets_true (h : s.ist = .operate) (hw : s.svbWanted = false)
    (hon : s.on F.SAFE_STAT_SVB = true) (hf : s.safe.fresh = false) (hr : s.safe.reqIn = true) :
    s.svbResets = true := by
  simp [svbResets, fnResets, h, hw, hon, hf, hr]

theorem evaluated_resets (h : s.ist = .operate) (hw : s.svbWanted = false)
    (hon : s.on F.SAFE_STAT_SVB = true) (hf : s.safe.fresh = false) (hr : s.safe.reqIn = true) (a b : Nat) :
    (s.evaluated a b).on F.SAFE_STAT_SVB = false := by
  have hsense := sensed_writes s a b
  have hdem : (s.safeIn.readbacks a b).demands = s.demands := readbacks_demands s.safeIn a b
  have hwanted : (s.safeIn.readbacks a b).svbWanted = false :=
    (svbWanted_congr hdem (hsense.on _ (by decide))).trans hw
  have hist : (s.safeIn.readbacks a b).ist = .operate := (hsense.ist (by decide)).trans h
  have hfields := hdem
  rw [demands, demands] at hfields
  simp only [Prod.mk.injEq] at hfields
  obtain ⟨-, -, -, -, hfresh, hreq⟩ := hfields
  have hreset : (s.safeIn.readbacks a b).fnDemand.svbResets = true := by
    refine svbResets_true (((fnDemand_writes _).ist (by decide)).trans hist) ?_ ?_ ?_ ?_
    · exact (svbWanted_congr (by rw [demands, demands, fnDemand_safe])
        ((fnDemand_writes _).on _ (by decide))).trans hwanted
    · rw [on_fnDemand hist, hsense.on _ (by decide), hon, Bool.or_true]
    · rw [fnDemand_safe, hfresh, hf]
    · rw [fnDemand_safe, hreq, hr]
  rw [on_evaluated h, hw, hreset, hon]
  rfl

/-- What an evaluation shows in FAULT (R439). -/
def faultShown (s : State) (a b : Nat) : State :=
  { s.safeIn with safe := { s.safe with rba := a % 256, rbb := b % 256 } }

theorem islandEval_fault (h : s.ist = .fault) (a b p : Nat) :
    s.islandEval a b p = (s.faultShown a b).safeDrive := by
  unfold islandEval
  rw [h]
  rfl

theorem islandEval_fault_spec (h : s.ist = .fault) {a b : Nat} (ha : a < 256) (hb : b < 256) (p : Nat) :
    (s.islandEval a b p).ist = .fault ∧ (s.islandEval a b p).safe.drive = 0 ∧
    (s.islandEval a b p).safe.rba = a ∧ (s.islandEval a b p).safe.rbb = b ∧
    (s.islandEval a b p).on F.SAFE_STAT_SVB = s.on F.SAFE_STAT_SVB ∧
    (s.islandEval a b p).on F.SAFE_STAT_SBT = s.on F.SAFE_STAT_SBT := by
  have hshown : IslandWrites [F.SAFE_IN_STATE] s (s.faultShown a b) :=
      .record (.set (.refl _ s) _ (by simp)) _
  have hist : (s.faultShown a b).ist = .fault := (hshown.ist (by decide)).trans h
  rw [islandEval_fault h]
  exact ⟨(safeDrive_ist _).trans hist, safeDrive_off (by rw [hist]; decide), Nat.mod_eq_of_lt ha,
    Nat.mod_eq_of_lt hb, (on_safeDrive _ (by decide)).trans (hshown.on _ (by decide)),
    (on_safeDrive _ (by decide)).trans (hshown.on _ (by decide))⟩

/-! ## Outputs -/

theorem sapHolds_operate (h : s.sapHolds = true) : s.ist = .operate := by
  simp only [sapHolds, Bool.and_eq_true, decide_eq_true_eq] at h
  exact h.1.1.1.1

theorem sapExpiry_eq (h : s.sapHolds = true) {b : Nat} (hb : s.safe.sapFrom = some b) : s.sapExpiry =
    if b + 1000000000 * max 1 (s.act F.SAFE_SAP_CFG_DLY) ≤ s.elapsed then
        (s.flag F.SAFE_STAT_SAP_ON).safeDrive
    else s := by
  unfold sapExpiry
  rw [hb]
  refine if_congr ?_ rfl rfl
  rw [h, Bool.true_and, decide_eq_true_eq]

/-- With no output faulted SAP energises its outputs. -/
theorem sapOn_drives (h : s.sapHolds = true) (hf : s.safe.flt = 0) {o : Nat} (ho : o < 8)
    (hout : bit (s.act F.SAFE_SAP_CFG_OUTS) o = true) :
    bit (s.flag F.SAFE_STAT_SAP_ON).safeDrive.safe.drive o = true := by
  have hist : (s.flag F.SAFE_STAT_SAP_ON).ist = .operate :=
    ((flag_writes s _).ist (by decide)).trans (sapHolds_operate h)
  have hact : (s.flag F.SAFE_STAT_SAP_ON).act F.SAFE_SAP_CFG_OUTS = s.act F.SAFE_SAP_CFG_OUTS :=
      act_congr rfl _
  have hflt : (s.flag F.SAFE_STAT_SAP_ON).safe.flt = 0 := hf
  rw [bit_drive _ ho, wantsOut, hist, hact, hflt, hout, on_flag s rfl (by decide)]
  simp [bit]

theorem offPulse_eq (h : s.ist = .operate) {o : Nat} (hd : bit s.safe.drive o = true)
    (hen : s.actOn (F.SAFE_SOUT_CFG_OPT_EN o) = true) (bad : Nat) : s.offPulse o bad =
      if 2 ≤ bad then ((s.inc R.SAFE_CNT_OP).outFault o).safeDrive else s.inc R.SAFE_CNT_OP := by
  unfold offPulse
  exact if_pos (by rw [h, hd, hen]; rfl)

theorem offPulse_bad (s : State) {o : Nat} (ho : o < 8) :
    bit ((s.inc R.SAFE_CNT_OP).outFault o).safeDrive.safe.flt o = true ∧
    bit ((s.inc R.SAFE_CNT_OP).outFault o).safeDrive.safe.drive o = false ∧
    ((s.inc R.SAFE_CNT_OP).outFault o).safeDrive.on F.SAFE_FLAG_OUT_FLT = true ∧
    ((s.inc R.SAFE_CNT_OP).outFault o).safeDrive.get R.SAFE_CNT_OP = satInc 32 (s.get R.SAFE_CNT_OP) := by
  have hflt : bit ((s.inc R.SAFE_CNT_OP).outFault o).safe.flt o = true :=
    (testBit_setBit s.safe.flt o o true).trans (if_pos rfl)
  refine ⟨hflt, ?_, ?_, ?_⟩
  · rw [bit_drive _ ho, wantsOut, hflt, Bool.not_true, Bool.and_false, Bool.false_and]
  · exact (on_safeDrive _ (by decide)).trans (on_flag _ rfl (by decide))
  · rw [(safeDrive_writes _).get _ (by decide), (outFault_writes _ o).get _ (by decide), inc,
      get_set s R.SAFE_CNT_OP _ (by decide)]
    exact Nat.mod_eq_of_lt (satInc_lt 32 _)

/-! ## The watchdog -/

theorem wdTimeout_eq (harm : s.on F.SAFE_STAT_WD_ARMED = true) (h : s.ist = .operate) {b : Nat}
    (hb : s.safe.wdLast = some b) : s.wdTimeout =
      if b + 100 * s.act F.SAFE_WD_WD_MAX < s.elapsed then s.wdExpire F.SAFE_FLAG_WD_LATE else s := by
  unfold wdTimeout
  rw [hb]
  refine if_congr ?_ rfl rfl
  rw [harm, h]
  simp

/-- The expiry shown. -/
def wdShown (s : State) (flag : Fld) : State :=
  ((({ s with safe := { s.safe with wdGood :=
      0 } }).flag flag).flag F.SAFE_STAT_WD_EXP).set F.SAFE_STAT_WD_ARMED 0

theorem wdExpire_eq (s : State) (flag : Fld) :
    s.wdExpire flag = (s.wdShown flag).fnDemand.safeDrive.svbLines := rfl

theorem wdShown_writes (s : State) (flag : Fld) :
    IslandWrites [flag, F.SAFE_STAT_WD_EXP, F.SAFE_STAT_WD_ARMED] s (s.wdShown flag) :=
  .set (.set (.set (.record (.refl _ s) _) _ (by simp)) _ (by simp)) _ (by simp)

theorem on_wdExpire (s : State) (flag : Fld) {f : Fld} (h7 : f.addr / 0x10000 = 7)
    (h : ∀ g ∈ [F.SAFE_STAT_SVB, F.SAFE_STAT_SBT, R.SAFE_CNT_DEM, F.SAFE_OUT_STATE], g.Clear f) :
    (s.wdExpire flag).on f = (s.wdShown flag).on f := by
  rw [wdExpire_eq, on_congr (get_svbLines h7 _), on_safeDrive _ (h _ (by simp)),
    (fnDemand_writes _).on f fun g hg => h g (List.mem_append_left [_] hg)]

/-- The watchdog expires late: its flags, and SVB where it is a source of SVB (R437). -/
theorem wdExpire_spec (h : s.ist = .operate) :
    (s.wdExpire F.SAFE_FLAG_WD_LATE).on F.SAFE_STAT_WD_EXP = true ∧
    (s.wdExpire F.SAFE_FLAG_WD_LATE).on F.SAFE_STAT_WD_ARMED = false ∧
    (s.wdExpire F.SAFE_FLAG_WD_LATE).on F.SAFE_FLAG_WD_LATE = true ∧
    (s.actOn F.SAFE_SVB_SRC_WD = true → (s.wdExpire F.SAFE_FLAG_WD_LATE).on F.SAFE_STAT_SVB = true) := by
  have hexp : (s.wdShown F.SAFE_FLAG_WD_LATE).on F.SAFE_STAT_WD_EXP = true :=
    (on_congr (get_set_clear _ _ (by decide))).trans (on_flag _ rfl (by decide))
  refine ⟨?_, ?_, ?_, fun hsrc => ?_⟩
  · rw [on_wdExpire _ _ (by decide) (by decide), hexp]
  · rw [on_wdExpire _ _ (by decide) (by decide), wdShown, on, get_set _ _ _ (by decide)]
    rfl
  · rw [on_wdExpire _ _ (by decide) (by decide), wdShown, on_congr (get_set_clear _ _ (by decide)), flag,
      on_congr (get_set_clear _ _ (by decide))]
    exact on_flag _ rfl (by decide)
  · have hist : (s.wdShown F.SAFE_FLAG_WD_LATE).ist = .operate :=
        ((wdShown_writes s _).ist (by decide)).trans h
    have hact : (s.wdShown F.SAFE_FLAG_WD_LATE).actOn F.SAFE_SVB_SRC_WD = true :=
        (actOn_congr rfl _).trans hsrc
    rw [wdExpire_eq, on_congr (get_svbLines (by decide) _), on_safeDrive _ (by decide), on_fnDemand hist,
      svbWanted, hact, hexp, Bool.and_true, Bool.or_true, Bool.true_or]

/-! ## Diagnostics -/

theorem crcCheck_unflipped (s : State) (w : Nat) : s.crcCheck w 0 =
    if (s.ist = .unconf || s.ist = .operate) && s.safe.committed && s.activeCrc ≠ s.safe.crc then
        s.islandFault 4
    else s := rfl

theorem crcCheck_good (h : s.activeCrc = s.safe.crc) (w : Nat) : s.crcCheck w 0 = s := by
  rw [crcCheck_unflipped, if_neg (by simp [h])]

theorem crcCheck_bad (hi : s.ist = .unconf ∨ s.ist = .operate) (hc : s.safe.committed = true)
    (h : s.activeCrc ≠ s.safe.crc) (w : Nat) : s.crcCheck w 0 = s.islandFault 4 := by
  rw [crcCheck_unflipped, if_pos (by simp [hi, hc, h])]

theorem vddRange_eq (hes : s.straps.es = true) :
    s.vddRange = ({ s with safe := { s.safe with vdd := false } } : State).islandFault 1 := by
  unfold vddRange
  rw [if_neg (by simp [hes])]

theorem islandFault_vdd (hes : s.straps.es = true) (hv : s.safe.vdd = false) (cause : Nat) :
    (s.islandFault cause).safe.vdd = false := by
  have hes' : (s.set F.SAFE_CHK_FCAUSE cause).straps.es = true := hes
  unfold islandFault
  split
  · rw [setIst_safe hes']
    exact hv
  · exact hv

end State

/-- Settles O52: a change of the island's state shows in its registers and the permit lines, which the
lemmas above give once for all; each command is then one change of state or one evaluation. -/
theorem islandStatesAndFunctions : Obligations.IslandStatesAndFunctions := by
  intro s hes
  refine ⟨fun h => State.answers (u := s.vddUp) rfl rfl (State.vddUp_powerup hes h),
    fun h => State.answers (u := s.vddUp) rfl rfl (State.vddUp_other hes h),
    State.gives_of (t := s.vddLoss) rfl rfl (State.vddLoss_powerup hes), fun cause hc ht h => ?_,
    fun cause hc ht h hcom => ?_, fun hs h => ?_, fun hs h hv => ?_, fun n b level held hn hv h3 => ?_,
    fun n held hn ht hd => ?_, fun a b p ha hb h => ?_, fun a b p ha hb h => ?_, fun b h hb => ?_,
    fun o bad ho h hd hen => ?_, fun b harm h hb => ?_, fun h => ?_⟩
  · obtain ⟨hpass, hfail⟩ := State.selftestDone_ends hes ht h cause
    exact ⟨State.gives_of (t := s.selftestDone true cause) rfl (by simpa [okU8] using hc) hpass,
      State.gives_of (t := s.selftestDone false cause) rfl (by simpa [okU8] using hc) hfail⟩
  · exact State.gives_of (t := s.selftestDone true cause) rfl (by simpa [okU8] using hc)
      (State.selftestDone_latches hes ht h hcom cause)
  · have hcommit : s.hostW R.SAFE_CMD.addr 1 = s.safeCommit := State.hostW_safeCmd hs (by decide)
    have hreset : s.hostW R.SAFE_CMD.addr 2 = s.safeReset := State.hostW_safeCmd hs (by decide)
    have hfreset : s.hostW R.SAFE_CMD.addr 3 = s.safeFreset := State.hostW_safeCmd hs (by decide)
    refine ⟨fun hc => State.gives_of rfl rfl (hcommit ▸ State.safeCommit_operates hes h hc),
      fun hc => State.answers rfl rfl (hcommit.trans (State.safeCommit_refused h hc)),
      State.answers rfl rfl (hreset.trans (State.safeReset_asks h)),
      State.answers rfl rfl (hfreset.trans (State.safeFreset_refused hes (by rcases h with h | h <;> simp
          [h])))⟩
  · have hreset : s.hostW R.SAFE_CMD.addr 2 = s.safeReset := State.hostW_safeCmd hs (by decide)
    have hfreset : s.hostW R.SAFE_CMD.addr 3 = s.safeFreset := State.hostW_safeCmd hs (by decide)
    exact ⟨State.answers rfl rfl (hreset.trans (State.safeReset_fault h)),
      State.answers rfl rfl (hfreset.trans (State.safeFreset_tests hes h hv))⟩
  · have hok : okSin n = true := by simpa [okSin] using hn
    refine ⟨fun hheld => State.answers rfl hok (State.contact_short hheld b level),
      fun hheld => State.gives_of (t := s.contact n b level held) rfl hok ?_⟩
    rw [State.contact_noted hes hv h3 hheld]
    by_cases hl : bit (if b then s.safe.cb else s.safe.ca) n = level
    · rw [if_pos hl]
      exact ⟨hl, rfl, rfl⟩
    · rw [if_neg hl]
      obtain ⟨hbit, hsafe⟩ := State.contactNoted_spec s n b level
      exact ⟨hbit, hsafe, rfl⟩
  · have hok : okSin n = true := by simpa [okSin] using hn
    have heq := State.inputDisc_eq hes (held := held) ht hd
    refine ⟨fun hheld => State.answers rfl hok (heq.trans (if_neg (Nat.not_le.mpr hheld))),
      fun hheld => State.gives_of (t := s.inputDisc n held) rfl hok ?_⟩
    rw [heq, if_pos hheld]
    exact State.inputFault_spec s ht
  · have hok : (okU8 a && okU8 b) = true := by simp [okU8, ha, hb]
    refine ⟨fun hp => ?_, fun hp hw => ?_, fun hp hw hon hf hr => ?_⟩
    · refine State.gives_of (t := s.islandEval a b p) rfl hok ?_
      rw [State.islandEval_permits h hp]
      exact State.islandFault_faulted hes (.inr h) (by omega)
    · obtain ⟨hist, hsvb, -, harm⟩ := State.islandEval_spec hes h (a := a) (b := b) hp
      have hev : (s.evaluated a b).on F.SAFE_STAT_SVB = true := by
        rw [State.on_evaluated h, hw, Bool.true_or]
      exact State.gives_of (t := s.islandEval a b p) rfl hok
        ⟨hsvb.trans hev, hist, fun k hk hbit => harm k hk hbit hev⟩
    · obtain ⟨hist, hsvb, hreq, -⟩ := State.islandEval_spec hes h (a := a) (b := b) hp
      exact State.gives_of (t := s.islandEval a b p) rfl hok
        ⟨hsvb.trans (State.evaluated_resets h hw hon hf hr a b), hreq, hist⟩
  · exact State.gives_of (t := s.islandEval a b p) rfl (by simp [okU8, ha, hb])
      (State.islandEval_fault_spec h ha hb p)
  · have heq := State.sapExpiry_eq h hb
    refine ⟨fun hlt => State.answers rfl rfl (heq.trans (if_neg (Nat.not_le.mpr hlt))),
      fun hle => State.gives_of (t := s.sapExpiry) rfl rfl ?_⟩
    rw [heq, if_pos hle]
    exact ⟨(State.on_safeDrive _ (by decide)).trans (State.on_flag s rfl (by decide)),
      fun hf o ho hout => State.sapOn_drives h hf ho hout⟩
  · have hok : okSout o = true := by simpa [okSout] using ho
    have heq := State.offPulse_eq h hd hen bad
    refine ⟨fun hlt => State.answers rfl hok (heq.trans (if_neg (Nat.not_le.mpr hlt))),
      fun hle => State.gives_of (t := s.offPulse o bad) rfl hok ?_⟩
    rw [heq, if_pos hle]
    exact State.offPulse_bad s ho
  · have heq := State.wdTimeout_eq harm h hb
    refine ⟨fun hle => State.answers rfl rfl (heq.trans (if_neg (Nat.not_lt.mpr hle))),
      fun hlt => State.gives_of (t := s.wdTimeout) rfl rfl ?_⟩
    rw [heq, if_pos hlt]
    exact State.wdExpire_spec h
  · have hfault {cause : Nat} (hc : cause < 16) := State.islandFault_faulted hes h hc
    have hword {w : Nat} (hw : w < 31) : (okImgWord w && okU32 0) = true := by
      rw [okImgWord, decide_eq_true hw]
      rfl
    refine ⟨fun w hw hgood => State.answers rfl (hword hw) (State.crcCheck_good hgood w),
      fun w hw hcom hbad => ⟨s.islandFault 4,
        State.answers rfl (hword hw) (State.crcCheck_bad h hcom hbad w), hfault (by omega)⟩,
      fun err => ⟨fun hlt => ⟨s.islandFault 2,
          State.answers rfl rfl (if_pos (decide_eq_true hlt)), hfault (by omega)⟩,
        fun hle => State.answers rfl rfl (if_neg (by simpa using hle))⟩,
      State.gives_of (t := s.marchTest false) rfl rfl (hfault (by omega)), rfl,
      State.gives_of (t := s.patternTest false) rfl rfl (hfault (by omega)), rfl,
      State.gives_of (t := s.vddRange) rfl rfl ?_⟩
    rw [State.vddRange_eq hes]
    exact ⟨State.islandFault_faulted (s := { s with safe := { s.safe with vdd := false } }) hes h (by omega),
      State.islandFault_vdd (s := { s with safe := { s.safe with vdd := false } }) hes rfl 1⟩

end Sys2Proof.Machine
end

section
/-! SUPPORT. What an access to memory changes; what a segment of the recorder changes and what its
triggers rest on; ticks, trigger units, commands and registers of a segment; the readout of a record. Then
what 16_vesper_recorder.md has proved: RecorderSegmentsAndTriggers. -/

namespace Sys2Proof.Machine

open Sys2Proof

/-! ## What an access to memory changes -/

/-- The state without what an access to memory changes: memory and its codes, what notes a bad word, the
marks of granules, and the registers. -/
def State.memless (s : State) : State := { s.unnoted with mem := [], synd := [], pair := {}, dev := {} }

/-- A register outside HOST before the rings' and outside MEM. -/
abbrev UntouchedReg (a : Nat) : Prop := a < 0x20000 ∨ 0x21000 ≤ a ∧ a < 0xe0000

/-- From s to t nothing but that has changed. -/
structure State.Touched (s t : State) : Prop where
  memless : t.memless = s.memless
  regs : ∀ a, UntouchedReg a → ∀ d, sget t.regs d a = sget s.regs d a

namespace State

variable {s t u : State}

namespace Touched

theorem refl (s : State) : Touched s s := ⟨rfl, fun _ _ _ => rfl⟩

theorem trans (h : Touched s t) (k : Touched t u) : Touched s u :=
  ⟨k.memless.trans h.memless, fun a ha d => (k.regs a ha d).trans (h.regs a ha d)⟩

theorem same (h : Touched s t) (hu : u.memless = t.memless) (hr : u.regs = t.regs) : Touched s u :=
  h.trans ⟨hu, fun _ _ _ => by rw [hr]⟩

theorem set (h : Touched s t) {f : Fld} {v : Nat} (hf : ¬ UntouchedReg f.addr) : Touched s (t.set f v) :=
  h.trans ⟨rfl, fun _ ha d => sget_sput_ne t.regs _ d _ (fun he => hf (he ▸ ha))⟩

theorem when (h : Touched s t) {c : Bool} {f : State → State} (hf : Touched t (f t)) :
    Touched s (t.when c f) :=
  when_of t c f (Touched s) h (h.trans hf)

theorem ite {c : Prop} [Decidable c] (ht : Touched s t) (hu : Touched s u) :
    Touched s (if c then t else u) := by
  split
  · exact ht
  · exact hu

theorem get (h : Touched s t) (f : Fld) (hf : UntouchedReg f.addr) : t.get f = s.get f := by
  rw [State.get, State.get, word, word, h.regs _ hf]

theorem word (h : Touched s t) (f : Fld) (hf : UntouchedReg f.addr) : t.word f = s.word f := by
  rw [State.word, State.word, h.regs _ hf]

theorem on (h : Touched s t) (f : Fld) (hf : UntouchedReg f.addr) : t.on f = s.on f := on_congr (h.get f hf)

theorem vsp (h : Touched s t) : t.vsp = s.vsp := (congrArg State.vsp h.memless :
    t.memless.vsp = s.memless.vsp)
theorem adc (h : Touched s t) : t.adc = s.adc := (congrArg State.adc h.memless :
    t.memless.adc = s.memless.adc)
theorem time (h : Touched s t) : t.time = s.time :=
  (congrArg State.time h.memless : t.memless.time = s.memless.time)
theorem elapsed (h : Touched s t) : t.elapsed = s.elapsed :=
  (congrArg State.elapsed h.memless : t.memless.elapsed = s.memless.elapsed)
theorem rings (h : Touched s t) : t.host.rings = s.host.rings :=
  (congrArg (fun x => x.host.rings) h.memless : t.memless.host.rings = s.memless.host.rings)

theorem ringsKept (h : Touched s t) : RingsKept s t :=
  ⟨h.rings, fun f _ _ => h.get f (by unfold UntouchedReg; omega)⟩

end Touched

theorem Noted.touched (h : Noted s t) : Touched s t := by
  refine ⟨congrArg (fun x => ({ x with mem := [], synd := [], pair := {}, dev := {} } : State)) h.unnoted,
    fun a ha => h.regs a ?_⟩
  unfold UntouchedReg at ha
  unfold UnnotedReg
  omega

/-! ### Reads and writes through the code -/

/-- The counters of a class of memory lie in MEM. -/
theorem touched_family {base : Nat} (n : Nat) (h : 0xe0000 ≤ base) : ¬ UntouchedReg (base + n) := by
  unfold UntouchedReg
  omega

theorem ceCount_touched (s : State) (cls : Nat) : Touched s (s.ceCount cls) := by
  unfold ceCount
  extract_lets u n m w lim m' x
  have hu : Touched s u := .set (.refl s) (touched_family _ (by decide))
  clear_value u
  have hw : Touched s w := hu.same rfl rfl
  clear_value w
  have hx : Touched w x := .same (.refl w) rfl rfl
  clear_value x
  refine .ite ?_ hw
  exact .trans (.set (hw.trans hx) (by decide)) (faultLog_noted _ _ _ _ _ _ _).touched

theorem faultAddr_touched (s : State) (a : Nat) : Touched s (s.faultAddr a).2 := by
  unfold faultAddr
  split
  · exact .refl s
  · exact .same (.refl s) rfl rfl

theorem poisonLog_touched (s : State) (a req : Nat) : Touched s (s.poisonLog a req) := by
  unfold poisonLog
  exact (faultAddr_touched s a).trans (faultLog_noted _ _ _ _ _ _ _).touched

theorem eccRd_touched (s : State) (a req : Nat) : Touched s (s.eccRd a req).2.2 := by
  unfold eccRd
  extract_lets d y cls
  split
  case h_1 => exact .refl s
  case h_2 =>
    dsimp only
    refine .trans ?_ (ceCount_touched _ _)
    exact .same (.refl s) rfl rfl
  case h_3 =>
    dsimp only
    refine .trans ?_ (ceCount_touched _ _)
    exact .same (.refl s) rfl rfl
  case h_4 => exact .set (.refl s) (touched_family _ (by decide))
  case h_5 =>
    rename_i s1 s2 _ _
    have hpoison : Touched s s1 := .same (.refl s) rfl rfl
    have hnote : Touched s s2 := hpoison.when (.same (.refl s1) rfl rfl)
    have haddr := hnote.trans (faultAddr_touched s2 a)
    rcases hf : s2.faultAddr a with ⟨p, s3⟩
    simp only [hf] at haddr ⊢
    refine .trans ?_ (faultLog_noted _ _ _ _ _ _ _).touched
    refine .set ?_ (touched_family _ (by decide))
    exact haddr.same rfl rfl

theorem eccRdF_touched (s : State) (a req : Nat) : Touched s (s.eccRdF a req).2.2 := by
  rw [eccRdF_state]
  exact .when (eccRd_touched s a req) (poisonLog_touched _ _ _)

theorem eccRds_touched (n : Nat) (s : State) (a req : Nat) : Touched s (s.eccRds a req n).2.2 := by
  induction n generalizing s a with
  | zero => exact .refl s
  | succ n ih =>
    have hrd := eccRdF_touched s a req
    unfold eccRds
    simp only
    split
    · exact hrd
    · exact hrd.trans (ih _ _)

theorem eccRdB_touched (s : State) (a k req : Nat) : Touched s (s.eccRdB a k req).2.2 :=
  eccRds_touched _ s _ req

theorem wr32_touched (s : State) (a v : Nat) : Touched s (s.wr32 a v) := by
  have hmark : Touched s (s.mark a) := by
    unfold mark
    split
    · exact .same (.refl s) rfl rfl
    · exact .refl s
  refine .ite (.set ?_ ?_) (.same hmark rfl rfl)
  · exact .same hmark rfl rfl
  · decide

theorem wrPart_touched (s : State) (a k v req : Nat) : Touched s (s.wrPart a k v req).2 := by
  have hrd := eccRd_touched s (a / 4 * 4) req
  unfold wrPart
  simp only
  split
  · exact hrd
  · exact hrd.trans (wr32_touched _ _ _)

/-! ### A halfword written into sound memory -/

/-- Every word of memory is sound and no injection is armed. -/
structure Sound (s : State) : Prop where
  mode : s.get F.MEM_INJ_MODE = 0
  synd : s.synd = []

theorem wr32_sound (h : s.Sound) (a v : Nat) : (s.wr32 a v).Sound := by
  refine ⟨(get_congr_regs _ (wr32_frame s a v h.mode).1).trans h.mode, ?_⟩
  rw [wr32_synd s a v h.mode, h.synd]
  rfl

theorem wrPart_sound_eq (h : s.Sound) (a k v req : Nat) : (s.wrPart a k v req).2 =
    s.wr32 (a / 4 * 4) (setBits (s.rd32 (a / 4 * 4)) (8 * (a % 4)) (8 * k) v) := by
  have hclean : sget s.synd 0 (a / 4 * 4 / 4) = 0 := by rw [h.synd]; rfl
  unfold wrPart
  rw [eccRd_clean hclean]
  rfl

/-- A halfword written at an even address reads back, and the other bytes stay. -/
theorem wrPart_halfword (h : s.Sound) {a v : Nat} (ha : a % 2 = 0) (hv : v < 65536) (req : Nat) :
    (s.wrPart a 2 v req).2.Sound ∧ (s.wrPart a 2 v req).2.rdN a 2 = v ∧
    ∀ q, q < a ∨ a + 2 ≤ q → memGet (s.wrPart a 2 v req).2.mem q = memGet s.mem q := by
  rw [wrPart_sound_eq h]
  have hsound := wr32_sound h (a / 4 * 4) (setBits (s.rd32 (a / 4 * 4)) (8 * (a % 4)) (8 * 2) v)
  have hrd := rd32_of_mem _ s.mem _ _
    (wr32_frame s (a / 4 * 4) (setBits (s.rd32 (a / 4 * 4)) (8 * (a % 4)) (8 * 2) v) h.mode).2
  have hout := (wr32_frame s (a / 4 * 4) (setBits (s.rd32 (a / 4 * 4)) (8 * (a % 4)) (8 * 2) v) h.mode).2
  generalize s.wr32 (a / 4 * 4) (setBits (s.rd32 (a / 4 * 4)) (8 * (a % 4)) (8 * 2) v) = t at hsound hrd hout
  have hbyte (k i : Nat) (hk : k < 4) (hi : i < 8) : (memGet t.mem (a / 4 * 4 + k)).getLsbD i =
      (setBits (s.rd32 (a / 4 * 4)) (8 * (a % 4)) (8 * 2) v).testBit (8 * k + i) := by
    rw [← testBit_rd32 t _ hk hi, hrd, Nat.testBit_mod_two_pow, decide_eq_true (by omega), Bool.true_and]
  refine ⟨hsound, ?_, fun q hq => ?_⟩
  · have hlow : t.rdN a 2 < 2 ^ 16 := by
      rw [rdN]
      exact leNat_lt _
    refine Nat.eq_of_testBit_eq fun i => ?_
    by_cases hi : i < 16
    · have hk : i / 8 < 2 := by omega
      have hsplit : i = 8 * (i / 8) + i % 8 := by omega
      have hin : 8 * (a % 4 + i / 8) + i % 8 = 8 * (a % 4) + i := by omega
      have hrdn : (t.rdN a 2).testBit i = (memGet t.mem (a / 4 * 4 + (a % 4 + i / 8))).getLsbD (i % 8) := by
        conv_lhs => rw [hsplit]
        rw [rdN, testBit_leNat _ _ (by omega), rdB, nth, List.getElem?_map, List.getElem?_range hk,
          Option.map_some, Option.getD_some, ← Nat.add_assoc, Nat.div_add_mod' a 4]
      rw [hrdn, hbyte _ _ (by omega) (by omega), hin, testBit_setBits, if_pos (by omega),
        Nat.add_sub_cancel_left]
    · have hpow : 2 ^ 16 ≤ 2 ^ i := Nat.pow_le_pow_right (by omega) (by omega)
      rw [Nat.testBit_lt_two_pow (Nat.lt_of_lt_of_le hlow hpow),
        Nat.testBit_lt_two_pow (Nat.lt_of_lt_of_le hv hpow)]
  · by_cases hin : a / 4 * 4 ≤ q ∧ q < a / 4 * 4 + 4
    · have hq4 : q = a / 4 * 4 + (q - a / 4 * 4) := by omega
      refine BitVec.eq_of_getLsbD_eq fun i hi => ?_
      rw [hq4, hbyte _ _ (by omega) hi, testBit_setBits, if_neg (by omega), testBit_rd32 s _ (by omega) hi]
    · rw [hout]
      exact memGet_memPuts_out _ _ _ _ (by rw [length_toLE]; omega)

end State

/-! ## What a segment of the recorder changes -/

/-- A register that triggers and states of segment g write: VSP_STAT and its own beyond its command. -/
abbrev SegReg (g a : Nat) : Prop := a = 0x9000c ∨ 0x9021c + 0x40 * g ≤ a ∧ a < 0x90240 + 0x40 * g

theorem segReg_family {base : Nat} (g : Nat) (h : 0x9021c ≤ base ∧ base < 0x90240) :
    SegReg g (base + 0x40 * g) := by
  unfold SegReg
  omega

/-- From s to t segment g has changed alone, and its registers. -/
structure State.SegOnly (g : Nat) (s t : State) : Prop where
  rest : t = { s with regs := t.regs, vsp := { s.vsp with segs := t.vsp.segs } }
  others : ∀ h, h ≠ g → t.seg h = s.seg h
  regs : ∀ a, ¬ SegReg g a → ∀ d, sget t.regs d a = sget s.regs d a

/-- From s to t segment g and its configuration are as they were, and so is time. -/
structure State.SegAims (g : Nat) (s t : State) : Prop where
  seg : t.seg g = s.seg g
  time : t.time = s.time
  elapsed : t.elapsed = s.elapsed
  cfg : ∀ a, a / 0x10000 = 1 ∨ 0x90200 + 0x40 * g ≤ a ∧ a < 0x90218 + 0x40 * g →
    ∀ d, sget t.regs d a = sget s.regs d a

/-- And all its registers too. -/
structure State.SegSame (g : Nat) (s t : State) : Prop extends State.SegAims g s t where
  stat : ∀ a, 0x9021c + 0x40 * g ≤ a ∧ a < 0x90240 + 0x40 * g → ∀ d, sget t.regs d a = sget s.regs d a

namespace State

variable {s t u : State} {g : Nat}

namespace SegOnly

theorem refl (g : Nat) (s : State) : SegOnly g s s := ⟨rfl, fun _ _ => rfl, fun _ _ _ => rfl⟩

theorem trans (h : SegOnly g s t) (k : SegOnly g t u) : SegOnly g s u := by
  refine ⟨?_, fun i hi => (k.others i hi).trans (h.others i hi),
    fun a ha d => (k.regs a ha d).trans (h.regs a ha d)⟩
  rw [k.rest, h.rest]

theorem set (h : SegOnly g s t) {f : Fld} (v : Nat) (hf : SegReg g f.addr) : SegOnly g s (t.set f v) :=
  h.trans ⟨rfl, fun _ _ => rfl, fun _ ha d => sget_sput_ne t.regs _ d _ (fun he => ha (he ▸ hf))⟩

theorem setSeg (h : SegOnly g s t) (x : SegS) : SegOnly g s (t.setSeg g x) :=
  h.trans ⟨rfl, fun _ hi => sget_sput_ne _ _ _ _ hi, fun _ _ _ => rfl⟩

theorem ite (c : Prop) [Decidable c] (ht : SegOnly g s t) (hu : SegOnly g s u) :
    SegOnly g s (if c then t else u) := by
  split
  · exact ht
  · exact hu

theorem get (h : SegOnly g s t) (f : Fld) (hf : ¬ SegReg g f.addr) : t.get f = s.get f := by
  rw [State.get, State.get, word, word, h.regs _ hf]

theorem on (h : SegOnly g s t) (f : Fld) (hf : ¬ SegReg g f.addr) : t.on f = s.on f := on_congr (h.get f hf)

theorem tus (h : SegOnly g s t) : t.vsp.tus = s.vsp.tus := by rw [h.rest]

/-- What a trigger rests on is as it was, where the segment itself is. -/
theorem aims (h : SegOnly g s t) {i : Nat} (hi : t.seg i = s.seg i) : SegAims i s t := by
  refine ⟨hi, by rw [h.rest], by rw [h.rest], fun a ha d => h.regs a ?_ d⟩
  unfold SegReg
  omega

/-- The other segments are as they were. -/
theorem same (h : SegOnly g s t) {i : Nat} (hi : i ≠ g) : SegSame i s t := by
  refine ⟨h.aims (h.others i hi), fun a ha d => h.regs a ?_ d⟩
  unfold SegReg
  omega

end SegOnly

namespace SegAims

theorem word (h : SegAims g s t) {base : Nat} (rst lo w : Nat) (hb : 0x90200 ≤ base ∧ base < 0x90218) :
    t.word ⟨base + 0x40 * g, rst, lo, w⟩ = s.word ⟨base + 0x40 * g, rst, lo, w⟩ := by
  rw [State.word, State.word, h.cfg _ (.inr (by dsimp only; omega))]

theorem get (h : SegAims g s t) {base : Nat} (rst lo w : Nat) (hb : 0x90200 ≤ base ∧ base < 0x90218) :
    t.get ⟨base + 0x40 * g, rst, lo, w⟩ = s.get ⟨base + 0x40 * g, rst, lo, w⟩ := by
  rw [State.get, State.get, h.word rst lo w hb]

theorem post (h : SegAims g s t) : t.get (F.VSP_SEG_POST_POST g) = s.get (F.VSP_SEG_POST_POST g) :=
  h.get 0 0 23 (by decide)
theorem fullpre (h : SegAims g s t) : t.on (F.VSP_SEG_CFG_FULLPRE g) = s.on (F.VSP_SEG_CFG_FULLPRE g) :=
  on_congr (h.get 0 0 1 (by decide))
theorem tbase (h : SegAims g s t) : t.on (F.VSP_SEG_CFG_TBASE g) = s.on (F.VSP_SEG_CFG_TBASE g) :=
  on_congr (h.get 0 1 1 (by decide))
theorem units (h : SegAims g s t) : t.get (F.VSP_SEG_TRIG_UNITS g) = s.get (F.VSP_SEG_TRIG_UNITS g) :=
  h.get 0 0 8 (by decide)

theorem now16 (h : SegAims g s t) : t.now16 = s.now16 := by rw [State.now16, State.now16, now, now, h.time]
theorem now (h : SegAims g s t) : t.now = s.now := by rw [State.now, State.now, h.time]
theorem P (h : SegAims g s t) : t.P = s.P := by rw [State.P, State.P, h.time]
theorem tApply (h : SegAims g s t) : t.tApply = s.tApply := by rw [State.tApply, State.tApply, h.now, h.time]
theorem peRun (h : SegAims g s t) : t.peRun = s.peRun := by
  rw [State.peRun, State.peRun, State.on, State.on, State.get, State.get, State.word, State.word,
    h.cfg _ (.inl (by decide))]

theorem segCh (h : SegAims g s t) : t.segCh g = s.segCh g := by
  have hlo : t.word (R.VSP_SEG_CHLO g) = s.word (R.VSP_SEG_CHLO g) := h.word 0 0 32 (by decide)
  have hhi : t.word (R.VSP_SEG_CHHI g) = s.word (R.VSP_SEG_CHHI g) := h.word 0 0 32 (by decide)
  rw [State.segCh, State.segCh, hlo, hhi]

theorem segSize (h : SegAims g s t) : t.segSize g = s.segSize g := by
  have hlen : t.get (F.VSP_SEG_MEM_LEN g) = s.get (F.VSP_SEG_MEM_LEN g) := h.get 0 16 12 (by decide)
  rw [State.segSize, State.segSize, segBytes, segBytes, hlen, h.segCh]

theorem segDiv (h : SegAims g s t) : t.segDiv g = s.segDiv g := by
  have hdiv : t.get (F.VSP_SEG_CFG_DIV g) = s.get (F.VSP_SEG_CFG_DIV g) := h.get 0 16 16 (by decide)
  rw [State.segDiv, State.segDiv, hdiv]

theorem segTick (h : SegAims g s t) : t.segTick g = s.segTick g := by
  rw [State.segTick, State.segTick, h.tbase, h.P, h.segDiv]

theorem segAt (h : SegAims g s t) (j : Nat) : t.segAt g j = s.segAt g j := by
  rw [State.segAt, State.segAt, h.seg, h.tApply, h.P, h.time, h.segTick]

theorem segIndex (h : SegAims g s t) (inst : Nat) : t.segIndex g inst = s.segIndex g inst := by
  rw [State.segIndex, State.segIndex, h.segAt, h.segTick]

end SegAims

namespace SegSame

theorem refl (g : Nat) (s : State) : SegSame g s s := ⟨⟨rfl, rfl, rfl, fun _ _ _ => rfl⟩, fun _ _ _ => rfl⟩

theorem trans (h : SegSame g s t) (k : SegSame g t u) : SegSame g s u :=
  ⟨⟨k.seg.trans h.seg, k.time.trans h.time, k.elapsed.trans h.elapsed,
    fun a ha d => (k.cfg a ha d).trans (h.cfg a ha d)⟩, fun a ha d => (k.stat a ha d).trans (h.stat a ha d)⟩

theorem get (h : SegSame g s t) {base : Nat} (rst lo w : Nat) (hb : 0x9021c ≤ base ∧ base < 0x90240) :
    t.get ⟨base + 0x40 * g, rst, lo, w⟩ = s.get ⟨base + 0x40 * g, rst, lo, w⟩ := by
  rw [State.get, State.get, State.word, State.word, h.stat _ (by dsimp only; omega)]

theorem segState (h : SegSame g s t) : t.segState g = s.segState g := h.get 0 0 3 (by decide)
theorem missed (h : SegSame g s t) : t.get (R.VSP_SEG_MISSED g) = s.get (R.VSP_SEG_MISSED g) :=
  h.get 0 0 32 (by decide)
theorem masked (h : SegSame g s t) : t.get (R.VSP_SEG_MASKED g) = s.get (R.VSP_SEG_MASKED g) :=
  h.get 0 0 32 (by decide)
theorem miss (h : SegSame g s t) : t.on (F.VSP_SEG_STAT_MISS g) = s.on (F.VSP_SEG_STAT_MISS g) :=
  on_congr (h.get 0 9 1 (by decide))
end SegSame

/-- What a trigger does rests on the segment as it was. -/
theorem SegTriggered_from {inst tsrc : Nat} (h : SegSame g s t) (k : SegTriggered t u g inst tsrc) :
    SegTriggered s u g inst tsrc := by
  unfold SegTriggered SegTaken SegMissed at k ⊢
  rw [h.segState, h.seg, h.elapsed, h.fullpre, h.segSize, h.post, h.masked, h.missed, h.segIndex] at k
  exact k

/-- And shows in the segment as it is. -/
theorem SegTriggered_upto {inst tsrc : Nat} (h : SegSame g t u) (k : SegTriggered s t g inst tsrc) :
    SegTriggered s u g inst tsrc := by
  unfold SegTriggered SegTaken SegMissed at k ⊢
  rw [h.segState, h.seg, h.masked, h.missed, h.miss]
  exact k

/-! ## States of a segment -/

@[simp] theorem seg_set (s : State) (f : Fld) (v h : Nat) : (s.set f v).seg h = s.seg h := rfl
@[simp] theorem seg_setSeg (s : State) (g : Nat) (x : SegS) : (s.setSeg g x).seg g = x :=
    sget_sput_same _ _ _ _
@[simp] theorem get_setSeg (s : State) (g : Nat) (x : SegS) (f : Fld) : (s.setSeg g x).get f = s.get f := rfl
@[simp] theorem seg_segGoto (s : State) (g st h : Nat) : (s.segGoto g st).seg h = s.seg h := rfl

theorem segGoto_only (s : State) (g st : Nat) : SegOnly g s (s.segGoto g st) :=
  .set (.set (.set (.refl g s) _ (segReg_family g (by decide))) _ (.inl rfl)) _ (.inl rfl)

/-- STATE of a segment does not lie in VSP_STAT. -/
theorem seg_ne_stat (base g : Nat) (h : 0x90200 ≤ base) : base + 0x40 * g ≠ 0x9000c := by omega

theorem segState_segGoto (s : State) (g : Nat) {st : Nat} (hst : st < 8) :
    (s.segGoto g st).segState g = st := by
  have hne : (F.VSP_SEG_STAT_STATE g).addr ≠ 0x9000c := seg_ne_stat 0x9021c g (by decide)
  rw [segState, segGoto, get_set_ne _ F.VSP_STAT_ARMED _ _ hne, get_set_ne _ F.VSP_STAT_DONE _ _ hne,
    get_set _ (F.VSP_SEG_STAT_STATE g) _ (show 0 + 3 ≤ 32 by decide)]
  exact Nat.mod_eq_of_lt hst

theorem done_segGoto (s : State) {g : Nat} (hg : g < 16) (st : Nat) :
    (s.segGoto g st).bitOf F.VSP_STAT_DONE g = decide (st = 3) := by
  rw [bitOf, segGoto, get_set_clear _ _ (by decide), get_set _ _ _ (by decide), Nat.testBit_mod_two_pow,
    testBit_setBit, if_pos rfl, decide_eq_true (show g < F.VSP_STAT_DONE.w from hg), Bool.true_and]

theorem armed_segGoto (s : State) {g : Nat} (hg : g < 16) (st : Nat) :
    (s.segGoto g st).bitOf F.VSP_STAT_ARMED g = decide (st = 1) := by
  rw [bitOf, segGoto, get_set _ _ _ (by decide), Nat.testBit_mod_two_pow,
    testBit_setBit, if_pos rfl, decide_eq_true (show g < F.VSP_STAT_ARMED.w from hg), Bool.true_and]

/-- Other fields of the segment's status stay. -/
theorem on_miss_segGoto (s : State) (g st : Nat) :
    (s.segGoto g st).on (F.VSP_SEG_STAT_MISS g) = s.on (F.VSP_SEG_STAT_MISS g) := by
  have hne : (F.VSP_SEG_STAT_MISS g).addr ≠ 0x9000c := seg_ne_stat 0x9021c g (by decide)
  rw [on, on, segGoto, get_set_ne _ F.VSP_STAT_ARMED _ _ hne, get_set_ne _ F.VSP_STAT_DONE _ _ hne,
    get_set_apart _ (F.VSP_SEG_STAT_STATE g) (F.VSP_SEG_STAT_MISS g) _ (show 0 + 3 ≤ 32 by decide)
      ⟨rfl, rfl, .inl (show 0 + 3 ≤ 9 by decide)⟩]

/-! ## Records that close -/

theorem tpl_apart (g : Nat) : ¬ SegReg g F.VSP_DONE_TPL_EN.addr := by
  have h : F.VSP_DONE_TPL_EN.addr = 0x90014 := rfl
  unfold SegReg
  omega

/-- The segment with its record closed. -/
def closedSeg (s : State) (g post : Nat) (trunc : Bool) (hdr : Bytes) : SegS :=
  { s.seg g with post := post, trunc := trunc, seq := ((s.seg g).seq + 1) % 65536, hdr := hdr }

/-- With no submission at DONE a record closes in DONE (R480, R485). -/
theorem segClose_eq {i j : Nat} (htpl : s.on F.VSP_DONE_TPL_EN = false) (h : (s.seg g).trig = some (i, j))
    (post : Nat) (trunc : Bool) :
    ∃ hdr, s.segClose g post trunc = (s.setSeg g (s.closedSeg g post trunc hdr)).segGoto g 3 := by
  unfold segClose
  extract_lets x
  split
  next hx => exact absurd (h.symm.trans hx) (by simp)
  next =>
    extract_lets data inv short t0 sec hd s1 s2
    have htpl' : s2.on F.VSP_DONE_TPL_EN = false := by
      rw [(segGoto_only s1 g 3).on _ (tpl_apart g)]
      exact htpl
    exact ⟨_, if_neg (by rw [htpl']; exact Bool.false_ne_true)⟩

/-- The record closed once POST samples stand after the trigger sample, else the segment as it was. -/
theorem segCheckDone_eq {i j : Nat} (htpl : s.on F.VSP_DONE_TPL_EN = false) (h : (s.seg g).trig = some (i, j))
    (h2 : s.segState g = 2) : ∃ hdr, s.segCheckDone g =
      if j + s.get (F.VSP_SEG_POST_POST g) ≤ (s.seg g).cnt then
        (s.setSeg g (s.closedSeg g (s.get (F.VSP_SEG_POST_POST g)) false hdr)).segGoto g 3
      else s := by
  obtain ⟨hdr, hclose⟩ := segClose_eq htpl h (s.get (F.VSP_SEG_POST_POST g)) false
  refine ⟨hdr, ?_⟩
  unfold segCheckDone
  rw [h, ← hclose]
  refine if_congr ?_ rfl rfl
  rw [h2]
  simp

theorem segCheckDone_only (htpl : s.on F.VSP_DONE_TPL_EN = false) : SegOnly g s (s.segCheckDone g) := by
  unfold segCheckDone
  split
  next i j h =>
    obtain ⟨hdr, hclose⟩ := segClose_eq htpl h (s.get (F.VSP_SEG_POST_POST g)) false
    rw [hclose]
    exact .ite _ ((SegOnly.setSeg (.refl g s) _).trans (segGoto_only _ g 3)) (.refl g s)
  next => exact .refl g s

/-! ## Triggers -/

theorem segLatch_only (s : State) (g inst tsrc : Nat) (ip : Bool) : SegOnly g s (s.segLatch g inst tsrc ip) :=
  (SegOnly.setSeg (.refl g s) _).trans (segGoto_only _ g 2)

/-- The trigger latched. -/
theorem segLatch_seg (s : State) (g inst tsrc : Nat) (ip : Bool) : (s.segLatch g inst tsrc ip).seg g =
    { s.seg g with trig := some (inst, s.segIndex g inst), tsrc := tsrc, interp := ip,
                   pidx := ((s.segLatch g inst tsrc ip).seg g).pidx,
                   pre := min (s.segIndex g inst) (s.segSize g - s.get (F.VSP_SEG_POST_POST g)),
                   latchAt := some s.elapsed } := by
  unfold segLatch
  simp only [seg_segGoto, seg_setSeg]

/-- A trigger latched and its record closed where its samples are written is taken. -/
theorem segLatch_taken (htpl : s.on F.VSP_DONE_TPL_EN = false) (inst tsrc : Nat) (ip : Bool) :
    SegTaken s ((s.segLatch g inst tsrc ip).segCheckDone g) g inst tsrc := by
  have honly := segLatch_only s g inst tsrc ip
  have hseg := segLatch_seg s g inst tsrc ip
  have hstate : (s.segLatch g inst tsrc ip).segState g = 2 := segState_segGoto _ g (by decide)
  have hpost : (s.segLatch g inst tsrc ip).get (F.VSP_SEG_POST_POST g) = s.get (F.VSP_SEG_POST_POST g) := by
    have haddr : (F.VSP_SEG_POST_POST g).addr = 0x90210 + 0x40 * g := rfl
    exact honly.get _ (by unfold SegReg; omega)
  generalize s.segLatch g inst tsrc ip = t at honly hseg hstate hpost
  have htrig : (t.seg g).trig = some (inst, s.segIndex g inst) := by rw [hseg]
  have hcnt : (t.seg g).cnt = (s.seg g).cnt := by rw [hseg]
  have hsrc : (t.seg g).tsrc = tsrc := by rw [hseg]
  have hpre : (t.seg g).pre = min (s.segIndex g inst) (s.segSize g - s.get (F.VSP_SEG_POST_POST g)) :=
      by rw [hseg]
  obtain ⟨hdr, hdone⟩ := segCheckDone_eq ((honly.on _ (tpl_apart g)).trans htpl) htrig hstate
  rw [hdone, hpost, hcnt]
  unfold SegTaken
  split
  · rw [seg_segGoto, seg_setSeg, segState_segGoto _ g (by decide)]
    exact ⟨htrig, hsrc, hpre, rfl⟩
  · exact ⟨htrig, hsrc, hpre, hstate⟩

theorem segMiss_only (s : State) (g inst : Nat) : SegOnly g s (s.segMiss g inst) := by
  have hmissed : SegOnly g s (s.inc (R.VSP_SEG_MISSED g)) := .set (.refl g s) _ (segReg_family g (by decide))
  unfold segMiss
  refine .ite _ hmissed (.set (.set (.set hmissed _ ?_) _ ?_) _ ?_)
  · exact segReg_family g (by decide)
  · exact segReg_family g (by decide)
  · exact segReg_family g (by decide)

theorem segMiss_seg (s : State) (g inst : Nat) : (s.segMiss g inst).seg g = s.seg g := by
  unfold segMiss
  dsimp only
  split
  · rw [inc, seg_set]
  · rw [flag, seg_set, seg_set, seg_set, inc, seg_set]

/-- What stands in SEG_STAT beside MISS stays when a trigger is missed. -/
theorem segMiss_state (s : State) (g inst : Nat) : (s.segMiss g inst).segState g = s.segState g := by
  have hne {base : Nat} (h : base ≠ 0x9021c) : (F.VSP_SEG_STAT_STATE g).addr ≠ base + 0x40 * g := by
    have haddr : (F.VSP_SEG_STAT_STATE g).addr = 0x9021c + 0x40 * g := rfl
    omega
  have hmissed : (s.inc (R.VSP_SEG_MISSED g)).segState g = s.segState g :=
    get_set_ne _ (R.VSP_SEG_MISSED g) _ _ (hne (by decide))
  unfold segMiss
  dsimp only
  split
  · exact hmissed
  · rw [segState, flag, get_set_apart _ (F.VSP_SEG_STAT_MISS g) (F.VSP_SEG_STAT_STATE g) _
      (show 9 + 1 ≤ 32 by decide) ⟨rfl, rfl, .inr (show 0 + 3 ≤ 9 by decide)⟩,
      get_set_ne _ (R.VSP_SEG_MISS_SEC g) _ _ (hne (by decide)),
      get_set_ne _ (R.VSP_SEG_MISS_NS g) _ _ (hne (by decide))]
    exact hmissed

/-- The trigger is counted and MISS stands. -/
theorem segMiss_missed (s : State) (g inst : Nat) : SegMissed s (s.segMiss g inst) g := by
  have hcount : (s.inc (R.VSP_SEG_MISSED g)).get (R.VSP_SEG_MISSED g)
      = satInc 32 (s.get (R.VSP_SEG_MISSED g)) := by
    rw [inc, get_set _ (R.VSP_SEG_MISSED g) _ (show 0 + 32 ≤ 32 by decide)]
    exact Nat.mod_eq_of_lt (satInc_lt 32 _)
  have hne {base : Nat} (h : base ≠ 0x90220) : (R.VSP_SEG_MISSED g).addr ≠ base + 0x40 * g := by
    have haddr : (R.VSP_SEG_MISSED g).addr = 0x90220 + 0x40 * g := rfl
    omega
  unfold segMiss SegMissed
  dsimp only
  split
  next h => exact ⟨h, hcount⟩
  next =>
    refine ⟨on_flag _ rfl (show 9 < 32 by decide), ?_⟩
    rw [flag, get_set_ne _ (F.VSP_SEG_STAT_MISS g) _ _ (hne (by decide)),
      get_set_ne _ (R.VSP_SEG_MISS_SEC g) _ _ (hne (by decide)),
      get_set_ne _ (R.VSP_SEG_MISS_NS g) _ _ (hne (by decide))]
    exact hcount

/-- What a trigger writes stays in the segment. -/
theorem segTrig_only (htpl : s.on F.VSP_DONE_TPL_EN = false) (g inst tsrc : Nat) (ip : Bool) :
    SegOnly g s (s.segTrig g inst tsrc ip) := by
  have htaken (u : State) (hu : SegOnly g s u) : SegOnly g s ((u.segLatch g inst tsrc ip).segCheckDone g)
      := by
    have hlatch := segLatch_only u g inst tsrc ip
    refine (hu.trans hlatch).trans (segCheckDone_only ?_)
    rw [hlatch.on _ (tpl_apart g), hu.on _ (tpl_apart g), htpl]
  unfold segTrig
  extract_lets x
  split
  · exact .ite _ (.refl g s) (.ite _ (.set (.refl g s) _ (segReg_family g (by decide)))
        (htaken s (.refl g s)))
  · split
    · exact .ite _ (htaken _ (segMiss_only s g _)) (segMiss_only s g _)
    · exact .refl g s
  · exact .refl g s
  · exact segMiss_only s g _

theorem segTrig_armed {inst tsrc : Nat} {ip : Bool} (h : s.segState g = 1) : s.segTrig g inst tsrc ip =
    if (s.seg g).armAt = some s.elapsed then s
    else if s.on (F.VSP_SEG_CFG_FULLPRE g) && (s.seg g).cnt < s.segSize g - s.get (F.VSP_SEG_POST_POST g) then
      s.inc (R.VSP_SEG_MASKED g)
    else (s.segLatch g inst tsrc ip).segCheckDone g := by
  unfold segTrig
  rw [h]
  rfl

theorem segTrig_post {inst tsrc old j : Nat} {ip : Bool} (h : s.segState g = 2)
    (ht : (s.seg g).trig = some (old, j)) : s.segTrig g inst tsrc ip =
    if (s.seg g).latchAt = some s.elapsed &&
        (inst < old || (inst = old && tsrcRank tsrc < tsrcRank (s.seg g).tsrc)) then
      ((s.segMiss g old).segLatch g inst tsrc ip).segCheckDone g
    else s.segMiss g inst := by
  unfold segTrig
  rw [h]
  dsimp only
  rw [ht]
  rfl

theorem segTrig_idle {inst tsrc : Nat} {ip : Bool} (h : s.segState g = 0) : s.segTrig g inst tsrc ip = s := by
  unfold segTrig
  rw [h]
  rfl

theorem segTrig_over {inst tsrc : Nat} {ip : Bool} (h : 3 ≤ s.segState g) :
    s.segTrig g inst tsrc ip = s.segMiss g inst := by
  unfold segTrig
  split
  next h1 => omega
  next h2 => omega
  next h0 => omega
  next => rfl

/-- A missed trigger stays counted when another is latched. -/
theorem missed_segGoto (s : State) (g st : Nat) :
    (s.segGoto g st).get (R.VSP_SEG_MISSED g) = s.get (R.VSP_SEG_MISSED g) := by
  have hne : (R.VSP_SEG_MISSED g).addr ≠ 0x9000c := seg_ne_stat 0x90220 g (by decide)
  have hstat : (R.VSP_SEG_MISSED g).addr ≠ (F.VSP_SEG_STAT_STATE g).addr := by
    show 0x90220 + 0x40 * g ≠ 0x9021c + 0x40 * g
    omega
  rw [segGoto, get_set_ne _ F.VSP_STAT_ARMED _ _ hne, get_set_ne _ F.VSP_STAT_DONE _ _ hne,
    get_set_ne _ _ _ _ hstat]

theorem SegMissed_goto (h : SegMissed s t g) (x : SegS) (st : Nat) :
    SegMissed s ((t.setSeg g x).segGoto g st) g := by
  unfold SegMissed
  rw [on_miss_segGoto, missed_segGoto]
  exact h

/-- A trigger that takes the place of one of its own cycle (R483). -/
theorem segMiss_taken (htpl : s.on F.VSP_DONE_TPL_EN = false) (old inst tsrc : Nat) (ip : Bool) :
    SegTaken s (((s.segMiss g old).segLatch g inst tsrc ip).segCheckDone g) g inst tsrc ∧
    SegMissed s (((s.segMiss g old).segLatch g inst tsrc ip).segCheckDone g) g := by
  have honly := segMiss_only s g old
  have haims := honly.aims (segMiss_seg s g old)
  have hmissed := segMiss_missed s g old
  have htpl' : (s.segMiss g old).on F.VSP_DONE_TPL_EN = false := (honly.on _ (tpl_apart g)).trans htpl
  generalize s.segMiss g old = u at haims hmissed htpl'
  have htaken := segLatch_taken (g := g) htpl' inst tsrc ip
  unfold SegTaken at htaken ⊢
  rw [haims.segIndex, haims.segSize, haims.post, haims.seg] at htaken
  refine ⟨htaken, ?_⟩
  have hlatched : SegMissed s (u.segLatch g inst tsrc ip) g := SegMissed_goto hmissed _ 2
  obtain ⟨hdr, hdone⟩ := segCheckDone_eq
    (((segLatch_only u g inst tsrc ip).on _ (tpl_apart g)).trans htpl')
    (congrArg SegS.trig (segLatch_seg u g inst tsrc ip)) (segState_segGoto _ g (by decide))
  rw [hdone]
  split
  · exact SegMissed_goto hlatched _ 3
  · exact hlatched

theorem SegTriggered_segTrig (htpl : s.on F.VSP_DONE_TPL_EN = false) (g inst tsrc : Nat) (ip : Bool) :
    SegTriggered s (s.segTrig g inst tsrc ip) g inst tsrc := by
  have hmissed (i : Nat) : (s.segMiss g i).segState g = s.segState g ∧ (s.segMiss g i).seg g = s.seg g ∧
      SegMissed s (s.segMiss g i) g := ⟨segMiss_state s g i, segMiss_seg s g i, segMiss_missed s g i⟩
  refine ⟨fun h => ?_, fun h hat => ?_, fun h hat => ⟨fun hfull hroom => ?_, fun hgo => ?_⟩,
    fun old j h ht => ⟨fun hearly => ?_, fun hlate => ?_⟩, fun h => ?_⟩
  · rw [segTrig_idle h]
    exact ⟨h, rfl⟩
  · rw [segTrig_armed h, if_pos hat]
    exact ⟨h, rfl⟩
  · rw [segTrig_armed h, if_neg hat, if_pos (by simp [hfull, hroom])]
    refine ⟨?_, rfl, ?_⟩
    · refine (get_set_ne _ (R.VSP_SEG_MASKED g) (F.VSP_SEG_STAT_STATE g) _ ?_).trans h
      show 0x9021c + 0x40 * g ≠ 0x90224 + 0x40 * g
      omega
    · rw [inc, get_set _ (R.VSP_SEG_MASKED g) _ (show 0 + 32 ≤ 32 by decide)]
      exact Nat.mod_eq_of_lt (satInc_lt 32 _)
  · rw [segTrig_armed h, if_neg hat, if_neg (by
      rcases hgo with hgo | hgo
      · simp [hgo]
      · simp [Nat.not_lt.mpr hgo])]
    exact segLatch_taken htpl inst tsrc ip
  · obtain ⟨hat, hearly⟩ := hearly
    obtain ⟨hstate, hseg, hmiss⟩ := hmissed old
    rw [segTrig_post h ht, if_pos (by simpa [hat] using hearly)]
    exact segMiss_taken htpl old inst tsrc ip
  · obtain ⟨hstate, hseg, hmiss⟩ := hmissed inst
    rw [segTrig_post h ht, if_neg (by
      simp only [Bool.and_eq_true, Bool.or_eq_true, decide_eq_true_eq]
      rintro ⟨hat, hearly⟩
      rcases hlate with hlate | hlate
      · exact hlate hat
      · omega)]
    exact ⟨hstate.trans h, hseg, hmiss⟩
  · rw [segTrig_over h]
    exact hmissed inst

/-! ## Triggers of several segments -/

/-- Steps that each keep to one segment of a list without repetition: a segment outside it stays, and one
inside it takes its step on a state in which it stands as before. -/
theorem foldl_segs {f : State → Nat → State}
    (hf : ∀ t h, t.on F.VSP_DONE_TPL_EN = false → SegOnly h t (f t h)) (g : Nat) (l : List Nat) :
    ∀ s : State, l.Nodup → s.on F.VSP_DONE_TPL_EN = false →
      (g ∉ l → SegSame g s (l.foldl f s)) ∧
      (g ∈ l → ∃ u, SegSame g s u ∧ SegSame g (f u g) (l.foldl f s) ∧ u.on F.VSP_DONE_TPL_EN = false) := by
  induction l with
  | nil => exact fun s _ _ => ⟨fun _ => .refl g s, fun h => absurd h List.not_mem_nil⟩
  | cons h l ih =>
    intro s hnd htpl
    obtain ⟨hnew, hrest⟩ := List.nodup_cons.mp hnd
    have honly := hf s h htpl
    obtain ⟨hout, hin⟩ := ih (f s h) hrest ((honly.on _ (tpl_apart h)).trans htpl)
    refine ⟨fun hg => ?_, fun hg => ?_⟩
    · obtain ⟨hne, hnot⟩ := not_or.mp (List.mem_cons.not.mp hg)
      exact (honly.same hne).trans (hout hnot)
    · by_cases he : g = h
      · subst he
        exact ⟨s, .refl g s, hout hnew, htpl⟩
      · obtain ⟨u, hsame, hend, hu⟩ := hin ((List.mem_cons.mp hg).resolve_left he)
        exact ⟨u, (honly.same he).trans hsame, hend, hu⟩

/-- Steps on the 16 segments leave the trigger units and their registers. -/
theorem foldl_segs_units {f : State → Nat → State}
    (hf : ∀ t h, t.on F.VSP_DONE_TPL_EN = false → SegOnly h t (f t h)) (l : List Nat) :
    ∀ s : State, (∀ h ∈ l, h < 16) → s.on F.VSP_DONE_TPL_EN = false → (l.foldl f s).vsp.tus = s.vsp.tus ∧
      ∀ x : Fld, 0x90600 ≤ x.addr → (l.foldl f s).word x = s.word x := by
  induction l with
  | nil => exact fun s _ _ => ⟨rfl, fun _ _ => rfl⟩
  | cons h l ih =>
    intro s hl htpl
    have honly := hf s h htpl
    have hh : h < 16 := hl h (List.mem_cons_self ..)
    obtain ⟨htus, hword⟩ := ih (f s h) (fun i hi => hl i (List.mem_cons_of_mem _ hi))
      ((honly.on _ (tpl_apart h)).trans htpl)
    refine ⟨htus.trans honly.tus, fun x hx => (hword x hx).trans ?_⟩
    rw [word, word, honly.regs _ (by unfold SegReg; omega)]

/-- One segment's part in the firing of unit u. -/
def segFire (u inst : Nat) (ip : Bool) (s : State) (g : Nat) : State :=
  if bit (s.get (F.VSP_SEG_TRIG_UNITS g)) u then s.segTrig g inst u ip else s

theorem tuTrig_eq (s : State) (u inst : Nat) (ip : Bool) :
    s.tuTrig u inst ip = (List.range 16).foldl (segFire u inst ip) s := rfl

theorem segFire_only (inst : Nat) (ip : Bool) {u : Nat} (s : State) (h : Nat)
    (htpl : s.on F.VSP_DONE_TPL_EN = false) : SegOnly h s (segFire u inst ip s h) :=
  .ite _ (segTrig_only htpl h inst u ip) (.refl h s)

/-- The firing of a unit reaches the segments that name it, and no other (R479). -/
theorem tuTrig_segs (htpl : s.on F.VSP_DONE_TPL_EN = false) (u inst : Nat) (ip : Bool) (hg : g < 16) :
    (bit (s.get (F.VSP_SEG_TRIG_UNITS g)) u = true → SegTriggered s (s.tuTrig u inst ip) g inst u) ∧
    (bit (s.get (F.VSP_SEG_TRIG_UNITS g)) u = false → SegSame g s (s.tuTrig u inst ip)) := by
  obtain ⟨v, hsame, hend, hv⟩ := (foldl_segs (segFire_only inst ip (u := u)) g (List.range 16) s
    List.nodup_range htpl).2 (List.mem_range.mpr hg)
  rw [← tuTrig_eq] at hend
  have hunits : bit (v.get (F.VSP_SEG_TRIG_UNITS g)) u = bit (s.get (F.VSP_SEG_TRIG_UNITS g)) u := by
    rw [hsame.units]
  refine ⟨fun h => ?_, fun h => ?_⟩
  · rw [segFire, hunits, if_pos h] at hend
    exact SegTriggered_from hsame (SegTriggered_upto hend (SegTriggered_segTrig hv g inst u ip))
  · rw [segFire, hunits, if_neg (by rw [h]; exact Bool.false_ne_true)] at hend
    exact hsame.trans hend

theorem tuTrig_units (htpl : s.on F.VSP_DONE_TPL_EN = false) (u inst : Nat) (ip : Bool) :
    (s.tuTrig u inst ip).vsp.tus = s.vsp.tus ∧
      ∀ x : Fld, 0x90600 ≤ x.addr → (s.tuTrig u inst ip).word x = s.word x := by
  rw [tuTrig_eq]
  exact foldl_segs_units (segFire_only inst ip) _ s (fun h hh => List.mem_range.mp hh) htpl

theorem segSoft_only (s : State) (h : Nat) (htpl : s.on F.VSP_DONE_TPL_EN = false) :
    SegOnly h s (s.segSoft h) := segTrig_only htpl h s.now16 8 false

/-- A write of VSP_CMD triggers the segments of its bits, and no other (R479). -/
theorem vspSoft_segs (htpl : s.on F.VSP_DONE_TPL_EN = false) (m : Nat) (hg : g < 16) :
    (bit m g = true → SegTriggered s (s.vspSoft m) g s.now16 8) ∧
    (bit m g = false → SegSame g s (s.vspSoft m)) := by
  have hmem : g ∈ bitList 16 m ↔ bit m g = true := by
    rw [bitList, List.mem_filter, List.mem_range]
    exact and_iff_right hg
  obtain ⟨hout, hin⟩ := foldl_segs segSoft_only g (bitList 16 m) s (List.nodup_range.filter _) htpl
  refine ⟨fun h => ?_, fun h => hout (fun hc => by rw [hmem.mp hc] at h; exact absurd h (by decide))⟩
  obtain ⟨v, hsame, hend, hv⟩ := hin (hmem.mpr h)
  have htrig := SegTriggered_segTrig hv g v.now16 8 false
  rw [hsame.now16] at htrig
  rw [segSoft, hsame.now16] at hend
  exact SegTriggered_from hsame (SegTriggered_upto hend htrig)

/-! ## Units that fire and units that time out -/

/-- Of the steps of n units that do nothing but for one, that one remains. -/
theorem each_one {f : State → Nat → State} {n k : Nat} (hk : k < n) (hbefore : ∀ i, i < n → i ≠ k → f s i = s)
    (hafter : ∀ i, i < n → i ≠ k → f (f s k) i = f s k) : s.each n f = f s k := by
  have hfix {l : List Nat} {t : State} (h : ∀ i ∈ l, f t i = t) : l.foldl f t = t := by
    induction l with
    | nil => rfl
    | cons i l ih =>
      rw [List.foldl_cons, h i (List.mem_cons_self ..)]
      exact ih fun j hj => h j (List.mem_cons_of_mem _ hj)
  have hsplit : List.range n = List.range k ++ k :: (List.range (n - (k + 1))).map (k + 1 + ·) := by
    have h := List.range_add (n := k + 1) (m := n - (k + 1))
    rw [Nat.add_sub_cancel' (by omega), List.range_succ, List.append_assoc] at h
    exact h
  have hpre : (List.range k).foldl f s = s := hfix fun i hi => by
    have hi' := List.mem_range.mp hi
    exact hbefore i (by omega) (by omega)
  unfold each
  rw [hsplit, List.foldl_append, List.foldl_cons, hpre]
  refine hfix fun i hi => ?_
  obtain ⟨j, hj, rfl⟩ := List.mem_map.mp hi
  have hj' := List.mem_range.mp hj
  exact hafter _ (by omega) (by omega)

@[simp] theorem tu_setTu (s : State) (u : Nat) (x : TuS) : (s.setTu u x).tu u = x := sget_sput_same _ _ _ _

theorem tu_setTu_ne (s : State) {u v : Nat} (x : TuS) (h : v ≠ u) : (s.setTu u x).tu v = s.tu v :=
  sget_sput_ne _ _ _ _ h

theorem setTu_same (s : State) (u : Nat) (x : TuS) (g : Nat) : SegSame g s (s.setTu u x) :=
  ⟨⟨rfl, rfl, rfl, fun _ _ _ => rfl⟩, fun _ _ _ => rfl⟩

theorem tuFire_eq {u i : Nat} {ip : Bool} {rest : List (Nat × Bool)} (h : (s.tu u).fires = (i, ip) :: rest) :
    s.tuFire u = (s.setTu u { s.tu u with fires := rest }).tuTrig u i ip := by
  unfold tuFire
  rw [h]

/-- The oldest trigger of a unit fires (R478, R479). -/
theorem tuFire_spec (htpl : s.on F.VSP_DONE_TPL_EN = false) {u i : Nat} {ip : Bool} {rest : List (Nat × Bool)}
    (h : (s.tu u).fires = (i, ip) :: rest) : ((s.tuFire u).tu u).fires = rest ∧
    ∀ g, g < 16 → (bit (s.get (F.VSP_SEG_TRIG_UNITS g)) u = true → SegTriggered s (s.tuFire u) g i u) ∧
      (bit (s.get (F.VSP_SEG_TRIG_UNITS g)) u = false → SegSame g s (s.tuFire u)) := by
  have hset := setTu_same s u { s.tu u with fires := rest }
  have htpl' : (s.setTu u { s.tu u with fires := rest }).on F.VSP_DONE_TPL_EN = false := htpl
  rw [tuFire_eq h]
  refine ⟨?_, fun g hg => ?_⟩
  · rw [tu, (tuTrig_units htpl' u i ip).1]
    exact congrArg TuS.fires (tu_setTu s u _)
  · obtain ⟨hin, hout⟩ := tuTrig_segs htpl' u i ip hg
    exact ⟨fun hb => SegTriggered_from (hset g) (hin hb), fun hb => (hset g).trans (hout hb)⟩

/-- The timeout of a unit noted. -/
def timedOut (s : State) (u : Nat) : State := s.setTu u { s.tu u with timed := true }

theorem tuTimeout_none {u : Nat} (h : s.tuDue u = none) : s.tuTimeout u = s := by
  unfold tuTimeout
  rw [h]

theorem tuTimeout_due {u i : Nat} (h : s.tuDue u = some i) (hi : i ≤ s.now16)
    (hw : s.on (F.VSP_TU_CFG_SRC u) = true ∨ s.chWait (s.get (F.VSP_TU_CFG_INDEX u)) i = false) :
    ∃ ip, s.tuTimeout u = (s.timedOut u).tuTrig u i ip := by
  refine ⟨decide (s.get (F.VSP_TU_CFG_SRC u) = 1), ?_⟩
  unfold tuTimeout
  rw [h]
  refine if_pos ?_
  rcases hw with hw | hw <;> simp [hw, hi]

theorem tuDue_congr {v : Nat} (htu : t.tu v = s.tu v) (hword : ∀ x : Fld,
    0x90600 ≤ x.addr → t.word x = s.word x) :
    t.tuDue v = s.tuDue v := by
  have haddr {base : Nat} (h : 0x90600 ≤ base) : 0x90600 ≤ base + 0x10 * v := by omega
  have hen : t.on (F.VSP_TU_CFG_EN v) = s.on (F.VSP_TU_CFG_EN v) := by
    rw [on, on, get, get, hword _ (haddr (by decide))]
  have htype : t.get (F.VSP_TU_CFG_TYPE v) = s.get (F.VSP_TU_CFG_TYPE v) := by
    rw [get, get, hword _ (haddr (by decide))]
  rw [tuDue, tuDue, htu, hen, htype, hword _ (haddr (by decide))]

/-- Of the units one alone times out (R478). -/
theorem tuTimeouts_eq (htpl : s.on F.VSP_DONE_TPL_EN = false) {u i : Nat} {ip : Bool} (hu : u < 8)
    (heq : s.tuTimeout u = (s.timedOut u).tuTrig u i ip) (hv : ∀ v, v < 8 → v ≠ u → s.tuDue v = none) :
    s.each 8 tuTimeout = (s.timedOut u).tuTrig u i ip := by
  obtain ⟨htus, hword⟩ := tuTrig_units (s := s.timedOut u) htpl u i ip
  rw [each_one hu (fun v hv8 hne => tuTimeout_none (hv v hv8 hne)) fun v hv8 hne => ?_, heq]
  rw [heq]
  refine tuTimeout_none ((tuDue_congr (s := s) ?_ hword).trans (hv v hv8 hne))
  rw [tu, htus]
  exact tu_setTu_ne s _ hne

theorem tuTimeouts_spec (htpl : s.on F.VSP_DONE_TPL_EN = false) (u i : Nat) (ip : Bool) :
    (((s.timedOut u).tuTrig u i ip).tu u).timed = true ∧
    ∀ g, g < 16 → bit (s.get (F.VSP_SEG_TRIG_UNITS g)) u = true →
      SegTriggered s ((s.timedOut u).tuTrig u i ip) g i u := by
  refine ⟨?_, fun g hg hb => ?_⟩
  · rw [tu, (tuTrig_units (s := s.timedOut u) htpl u i ip).1]
    exact congrArg TuS.timed (tu_setTu s u _)
  · exact SegTriggered_from (setTu_same s u _ g) ((tuTrig_segs (s := s.timedOut u) htpl u i ip hg).1 hb)

end State

/-! ## Channel values -/

theorem us_lt (w : Nat) (i : Int) : us w i < 2 ^ w := by
  have hpos : ((2 ^ w : Nat) : Int) ≠ 0 := Int.ofNat_ne_zero.mpr (Nat.two_pow_pos w).ne'
  have hlo := Int.emod_nonneg i hpos
  have hhi := Int.emod_lt_of_pos i (b := ((2 ^ w : Nat) : Int)) (Int.natCast_pos.mpr (Nat.two_pow_pos w))
  unfold us
  omega

theorem recWord_lt (v : Option Int) : recWord v < 65536 := by
  cases v
  · exact Nat.lt_of_sub_pos (by decide)
  · exact us_lt 16 _

namespace State

variable {s t u : State} {g : Nat}

theorem fresh_touched (s : State) : Touched s s.fresh.2 := .same (.refl s) rfl rfl

/-- A channel's value changes no more than the choice of a free value. -/
theorem chValue_touched (s : State) (c tick : Nat) : Touched s (s.chValue c tick).2 := by
  unfold chValue
  extract_lets i sel sh t16
  split
  · exact .refl s
  · exact .refl s
  · exact .refl s
  · exact .refl s
  · split
    · exact .refl s
    · exact fresh_touched s
  · exact fresh_touched s

/-- The type of a channel whose value comes from a converter, the control engine or the observer. -/
abbrev Given (s : State) (c : Nat) : Prop := s.get (F.VSP_CH_CFG_TYPE c) ∈ ([1, 2, 3, 4] : List Nat)

theorem get_channel (h : Touched s t) {c : Nat} (hc : c < 64) (rst lo w : Nat) :
    t.get ⟨0x90100 + 0x4 * c, rst, lo, w⟩ = s.get ⟨0x90100 + 0x4 * c, rst, lo, w⟩ :=
  h.get _ (.inr (by dsimp only; omega))

theorem cvAt_touched (h : Touched s t) (c t16 : Nat) : t.cvAt c t16 = s.cvAt c t16 := by
  rw [cvAt, cvAt, cv, cv, h.adc]

theorem word_ceng (h : Touched s t) {base i : Nat} (hb : 0x41000 ≤ base ∧ base < 0x42000) (hi : i < 32) :
    t.word ⟨base + 0x10 * i, 0, 0, 32⟩ = s.word ⟨base + 0x10 * i, 0, 0, 32⟩ :=
  h.word _ (.inr (by dsimp only; omega))

/-- The values of the slots of the control engine that a channel may show. -/
theorem slotWord_touched (h : Touched s t) {i : Nat} (hi : i < 32) (sel : Nat) :
    (match sel with
      | 0 => t.word (R.CENG_OUT i)
      | 1 => t.word (R.CENG_INT i)
      | 2 => t.word (R.CENG_ERR i)
      | _ => t.word (R.CENG_GAIN i)) =
    match sel with
      | 0 => s.word (R.CENG_OUT i)
      | 1 => s.word (R.CENG_INT i)
      | 2 => s.word (R.CENG_ERR i)
      | _ => s.word (R.CENG_GAIN i) := by
  have hout : t.word (R.CENG_OUT i) = s.word (R.CENG_OUT i) := word_ceng h (by decide) hi
  have hint : t.word (R.CENG_INT i) = s.word (R.CENG_INT i) := word_ceng h (by decide) hi
  have herr : t.word (R.CENG_ERR i) = s.word (R.CENG_ERR i) := word_ceng h (by decide) hi
  have hgain : t.word (R.CENG_GAIN i) = s.word (R.CENG_GAIN i) := word_ceng h (by decide) hi
  rw [hout, hint, herr, hgain]

/-- Such a value has 16 bits, is read without change, and stays where memory alone is touched. -/
theorem chValue_given (h : Touched s t) {c : Nat} (hc : c < 64) (hgiven : s.Given c) (z : Nat) :
    (t.chValue c z).2 = t ∧ (t.chValue c z).1 = (s.chValue c z).1 ∧ (t.chValue c z).1 < 65536 := by
  have hindex : t.get (F.VSP_CH_CFG_INDEX c) = s.get (F.VSP_CH_CFG_INDEX c) := get_channel h hc 0 3 5
  have hsel : t.get (F.VSP_CH_CFG_SEL c) = s.get (F.VSP_CH_CFG_SEL c) := get_channel h hc 0 8 4
  have hshift : t.get (F.VSP_CH_CFG_SHIFT c) = s.get (F.VSP_CH_CFG_SHIFT c) := get_channel h hc 0 12 6
  have htype : t.get (F.VSP_CH_CFG_TYPE c) = s.get (F.VSP_CH_CFG_TYPE c) := get_channel h hc 0 0 3
  have hlt : s.get (F.VSP_CH_CFG_INDEX c) < 32 := get_lt s _
  unfold chValue
  rw [hindex, hsel, hshift, htype, h.vsp]
  simp only [cvAt_touched h]
  have hcases : s.get (F.VSP_CH_CFG_TYPE c) = 1 ∨ s.get (F.VSP_CH_CFG_TYPE c) = 2 ∨
      s.get (F.VSP_CH_CFG_TYPE c) = 3 ∨ s.get (F.VSP_CH_CFG_TYPE c) = 4 := by simpa using hgiven
  rcases hcases with hk | hk | hk | hk <;> rw [hk]
  · exact ⟨rfl, rfl, recWord_lt _⟩
  · exact ⟨rfl, rfl, recWord_lt _⟩
  · refine ⟨rfl, ?_, recWord_lt _⟩
    exact congrArg (fun w => recWord (floatRound w _)) (slotWord_touched h hlt _)
  · exact ⟨rfl, rfl, recWord_lt _⟩

/-! ## A sample stored -/

/-- The value of one channel stored at its place. -/
def storeCh (chs : List Nat) (base z : Nat) (s : State) (k : Nat) : State :=
  ((s.chValue (nth chs 0 k) z).2.wrPart (base + 2 * k) 2 (s.chValue (nth chs 0 k) z).1 0x33).2

/-- One value of each channel of segment g stored at the next place. -/
def sampleStored (s : State) (g z : Nat) : State :=
  (List.range (s.segCh g).length).foldl (storeCh (s.segCh g) (s.segAddr g (s.seg g).cnt) z) s

/-- The segment with one more sample. -/
def sampledSeg (s : State) (g z : Nat) : SegS :=
  { s.seg g with cnt := (s.seg g).cnt + 1, first := some ((s.seg g).first.getD z),
                 nextP := (s.seg g).nextP + (s.sampleStored g z).segDiv g }

/-- The sample stored and counted. -/
def sampled (s : State) (g z : Nat) : State :=
  ((s.sampleStored g z).setSeg g (s.sampledSeg g z)).set (R.VSP_SEG_WR g) (min ((s.seg g).cnt + 1)
      (2 ^ 32 - 1))

theorem segSample_eq (s : State) (g z : Nat) : s.segSample g z = (s.sampled g z).segCheckDone g := rfl

theorem storeCh_touched (chs : List Nat) (base z : Nat) (s : State) (k : Nat) :
    Touched s (storeCh chs base z s k) := (chValue_touched s _ z).trans (wrPart_touched _ _ _ _ _)

theorem sampleStored_touched (s : State) (g z : Nat) : Touched s (s.sampleStored g z) :=
  List.foldlRecOn (motive := Touched s) _ _ (.refl s) fun u hu k _ => hu.trans (storeCh_touched _ _ _ u k)

/-- Halfwords stored one after another from an even address all read back. -/
theorem storeChs_read {chs : List Nat} {base : Nat} (z : Nat) (h : s.Sound) (hbase : base % 2 = 0)
    (hchs : ∀ k, k < chs.length → nth chs 0 k < 64 ∧ s.Given (nth chs 0 k)) :
    ∀ n, n ≤ chs.length → ((List.range n).foldl (storeCh chs base z) s).Sound ∧
      ∀ k, k < n → ((List.range n).foldl (storeCh chs base z) s).rdN (base + 2 * k) 2 =
        (s.chValue (nth chs 0 k) z).1 := by
  intro n
  induction n with
  | zero => exact fun _ => ⟨h, fun k hk => absurd hk (Nat.not_lt_zero k)⟩
  | succ n ih =>
    intro hn
    obtain ⟨hsound, hread⟩ := ih (by omega)
    have htouch : Touched s ((List.range n).foldl (storeCh chs base z) s) :=
      List.foldlRecOn (motive := Touched s) _ _ (.refl s) fun u hu k _ => hu.trans (storeCh_touched _ _ _ u k)
    obtain ⟨hlt, hgiven⟩ := hchs n (by omega)
    rw [List.range_succ, List.foldl_append]
    generalize (List.range n).foldl (storeCh chs base z) s = t at hsound hread htouch
    obtain ⟨hsame, hval, hbits⟩ := chValue_given htouch hlt hgiven z
    obtain ⟨hs', hnew, hold⟩ := wrPart_halfword hsound (a := base + 2 * n) (by omega) hbits 0x33
    rw [List.foldl_cons, List.foldl_nil, storeCh, hsame]
    refine ⟨hs', fun k hk => ?_⟩
    by_cases hkn : k = n
    · subst hkn
      exact hnew.trans hval
    · refine Eq.trans ?_ (hread k (by omega))
      rw [rdN, rdN, rdB, rdB]
      refine congrArg leNat (List.map_congr_left fun i hi => hold _ (.inl ?_))
      have hi' := List.mem_range.mp hi
      omega

theorem segCh_lt {c : Nat} (h : c ∈ s.segCh g) : c < 64 := by
  rw [segCh, bitList, List.mem_filter, List.mem_range] at h
  exact h.1

theorem segAddr_even (s : State) (g i : Nat) : s.segAddr g i % 2 = 0 := by
  unfold segAddr
  rw [Nat.mul_assoc 2]
  have hbase : vspBase = 0x2800000 := rfl
  omega

/-- The sample of a sound memory reads back at its place (R474). -/
theorem sampleStored_read (h : s.Sound) (hgiven : ∀ c ∈ s.segCh g, s.Given c) (z : Nat) {k : Nat}
    (hk : k < (s.segCh g).length) :
    (s.sampleStored g z).rdN (s.segAddr g (s.seg g).cnt + 2 * k) 2 = (s.chValue (nth (s.segCh g) 0 k)
        z).1 := by
  refine (storeChs_read z h (segAddr_even s g _) (fun j hj => ?_) _ (Nat.le_refl _)).2 k hk
  have hmem : nth (s.segCh g) 0 j ∈ s.segCh g := by
    rw [nth, List.getElem?_eq_getElem hj, Option.getD_some]
    exact List.getElem_mem hj
  exact ⟨segCh_lt hmem, hgiven _ hmem⟩

/-! ## Ticks -/

theorem get_sampled (s : State) (g z : Nat) {f : Fld} (hu : UntouchedReg f.addr)
    (hf : f.addr ≠ (R.VSP_SEG_WR g).addr) : (s.sampled g z).get f = s.get f := by
  rw [sampled, get_set_ne _ _ _ _ hf, get_setSeg, (sampleStored_touched s g z).get f hu]

theorem sampled_state (s : State) (hg : g < 16) (z : Nat) : (s.sampled g z).segState g = s.segState g := by
  have haddr : (F.VSP_SEG_STAT_STATE g).addr = 0x9021c + 0x40 * g := rfl
  have hwr : (R.VSP_SEG_WR g).addr = 0x90230 + 0x40 * g := rfl
  exact get_sampled s g z (.inr (by omega)) (by omega)

theorem sampled_post (s : State) (hg : g < 16) (z : Nat) :
    (s.sampled g z).get (F.VSP_SEG_POST_POST g) = s.get (F.VSP_SEG_POST_POST g) := by
  have haddr : (F.VSP_SEG_POST_POST g).addr = 0x90210 + 0x40 * g := rfl
  have hwr : (R.VSP_SEG_WR g).addr = 0x90230 + 0x40 * g := rfl
  exact get_sampled s g z (.inr (by omega)) (by omega)

theorem sampled_tpl (s : State) (g z : Nat) :
    (s.sampled g z).on F.VSP_DONE_TPL_EN = s.on F.VSP_DONE_TPL_EN := by
  have haddr : F.VSP_DONE_TPL_EN.addr = 0x90014 := rfl
  have hwr : (R.VSP_SEG_WR g).addr = 0x90230 + 0x40 * g := rfl
  exact on_congr (get_sampled s g z (.inr (by omega)) (by omega))

theorem sampled_seg (s : State) (g z : Nat) : (s.sampled g z).seg g = s.sampledSeg g z := by
  rw [sampled, seg_set, seg_setSeg]

theorem sampledSeg_fields (s : State) (g z : Nat) : (s.sampledSeg g z).cnt = (s.seg g).cnt + 1 ∧
    (s.sampledSeg g z).trig = (s.seg g).trig ∧ (s.sampledSeg g z).seq = (s.seg g).seq := ⟨rfl, rfl, rfl⟩

theorem mem_setSeg (s : State) (g : Nat) (x : SegS) : (s.setSeg g x).mem = s.mem := rfl

theorem sampled_mem (s : State) (g z : Nat) : (s.sampled g z).mem = (s.sampleStored g z).mem := by
  unfold sampled
  generalize min ((s.seg g).cnt + 1) (2 ^ 32 - 1) = n
  rw [set_mem, mem_setSeg]

theorem sampled_wr (s : State) (g z : Nat) :
    (s.sampled g z).get (R.VSP_SEG_WR g) = min ((s.seg g).cnt + 1) (2 ^ 32 - 1) := by
  have hlt : min ((s.seg g).cnt + 1) (2 ^ 32 - 1) < 2 ^ 32 := by omega
  unfold sampled
  generalize min ((s.seg g).cnt + 1) (2 ^ 32 - 1) = n at hlt
  rw [get_set _ (R.VSP_SEG_WR g) _ (show 0 + 32 ≤ 32 by decide)]
  exact Nat.mod_eq_of_lt hlt

/-- Outside POST no record closes. -/
theorem segCheckDone_other (h : s.segState g ≠ 2) : s.segCheckDone g = s := by
  unfold segCheckDone
  split
  · exact if_neg (by simp [h])
  · rfl

/-- A sample in ARMED (R473, R474). -/
theorem segSample_armed (hg : g < 16) (h : s.segState g = 1) (z : Nat) :
    ((s.segSample g z).seg g).cnt = (s.seg g).cnt + 1 ∧
    (s.segSample g z).get (R.VSP_SEG_WR g) = min ((s.seg g).cnt + 1) (2 ^ 32 - 1) ∧
    (s.segSample g z).segState g = 1 ∧ (s.segSample g z).mem = (s.sampleStored g z).mem := by
  have hstate := (sampled_state s hg z).trans h
  rw [segSample_eq, segCheckDone_other (by omega)]
  exact ⟨by rw [sampled_seg, (sampledSeg_fields s g z).1], sampled_wr s g z, hstate, sampled_mem s g z⟩

/-- The last sample of POST closes the record (R480). -/
theorem segSample_closes (hg : g < 16) (h : s.segState g = 2) (htpl : s.on F.VSP_DONE_TPL_EN = false)
    {i j : Nat}
    (ht : (s.seg g).trig = some (i, j)) (hpost : j + s.get (F.VSP_SEG_POST_POST g) = (s.seg g).cnt + 1)
        (z : Nat) :
    (s.segSample g z).segState g = 3 ∧
    ((s.segSample g z).seg g).post = s.get (F.VSP_SEG_POST_POST g) ∧
    ((s.segSample g z).seg g).seq = ((s.seg g).seq + 1) % 65536 ∧
    (s.segSample g z).bitOf F.VSP_STAT_DONE g = true := by
  obtain ⟨hcnt, htrig, hseq⟩ := sampledSeg_fields s g z
  rw [← sampled_seg] at hcnt htrig hseq
  rw [ht] at htrig
  obtain ⟨hdr, hdone⟩ := segCheckDone_eq ((sampled_tpl s g z).trans htpl)
      htrig ((sampled_state s hg z).trans h)
  rw [segSample_eq, hdone, sampled_post s hg, hcnt, if_pos (by omega), segState_segGoto _ g (by decide),
    done_segGoto _ hg, seg_segGoto, seg_setSeg, closedSeg, hseq]
  exact ⟨rfl, rfl, rfl, rfl⟩

theorem vspTick_none (h : s.segDue g = none) : s.vspTick g = s := by
  unfold vspTick
  rw [h]

theorem vspTick_due {z : Nat} (h : s.segDue g = some z) (hz : z ≤ s.now)
    (hw : ∀ c ∈ s.segCh g, s.chWait c (z * 2 ^ 16) = false) : s.vspTick g = s.segSample g z := by
  have hany : (s.segCh g).any (fun c => s.chWait c (z * 2 ^ 16)) = false :=
    List.any_eq_false.mpr fun c hc => by rw [hw c hc]; exact Bool.false_ne_true
  unfold vspTick
  rw [h]
  exact if_pos (by rw [hany, decide_eq_true hz]; rfl)

/-- Of the segments one alone has a tick due (R473). -/
theorem vspTicks_eq {z : Nat} (hg : g < 16) (h : s.segDue g = some z) (hz : z ≤ s.now)
    (hw : ∀ c ∈ s.segCh g, s.chWait c (z * 2 ^ 16) = false)
    (hbefore : ∀ h, h < 16 → h ≠ g → s.segDue h = none)
    (hafter : ∀ h, h < 16 → h ≠ g → (s.segSample g z).segDue h = none) :
    s.each 16 vspTick = s.segSample g z := by
  have htick := vspTick_due h hz hw
  rw [each_one hg (fun i hi hne => vspTick_none (hbefore i hi hne)) fun i hi hne => ?_, htick]
  rw [htick]
  exact vspTick_none (hafter i hi hne)

/-! ## Commands -/

theorem segArm_seg (s : State) (g : Nat) : (s.segArm g).seg g =
    { seq := (s.seg g).seq, first := ((s.segArm g).seg g).first, nextP := ((s.segArm g).seg g).nextP,
      armAt := some s.elapsed } := by
  unfold segArm
  simp only [seg_segGoto, seg_set, seg_setSeg]

theorem segArm_spec (s : State) (hg : g < 16) : (s.segArm g).segState g = 1 ∧
    (s.segArm g).get (R.VSP_SEG_WR g) = 0 ∧ (s.segArm g).bitOf F.VSP_STAT_ARMED g = true := by
  have hne : (R.VSP_SEG_WR g).addr ≠ 0x9000c := seg_ne_stat 0x90230 g (by decide)
  have hstat : (R.VSP_SEG_WR g).addr ≠ (F.VSP_SEG_STAT_STATE g).addr := by
    show 0x90230 + 0x40 * g ≠ 0x9021c + 0x40 * g
    omega
  unfold segArm
  refine ⟨segState_segGoto _ g (by decide), ?_, armed_segGoto _ hg 1⟩
  rw [segGoto, get_set_ne _ F.VSP_STAT_ARMED _ _ hne, get_set_ne _ F.VSP_STAT_DONE _ _ hne,
    get_set_ne _ _ _ _ hstat, get_set _ (R.VSP_SEG_WR g) _ (show 0 + 32 ≤ 32 by decide), Nat.zero_mod]

/-- A segment whose record is discarded. -/
theorem segDrop_goto (s : State) (hg : g < 16) {st : Nat} (hst : st < 8) :
    ((s.segDrop g).segGoto g st).segState g = st ∧
    ((s.segDrop g).segGoto g st).seg g = { seq := (s.seg g).seq } ∧
    ((s.segDrop g).segGoto g st).bitOf F.VSP_STAT_ARMED g = decide (st = 1) ∧
    ((s.segDrop g).segGoto g st).bitOf F.VSP_STAT_DONE g = decide (st = 3) := by
  refine ⟨segState_segGoto _ g hst, ?_, armed_segGoto _ hg st, done_segGoto _ hg st⟩
  rw [seg_segGoto, segDrop, seg_setSeg]

end State

/-! ## Registers written whole -/

/-- A field that any write takes, over its whole range. -/
abbrev FAcc.Plain (f : FAcc) : Prop := f.acc = .RW ∧ f.lo + f.w ≤ 32 ∧ f.min = 0 ∧ f.max = 2 ^ f.w - 1

theorem FAcc.write_plain {f : FAcc} (h : f.Plain) (config : Bool) (data old : Nat) :
    f.write config .direct 0xFFFFFFFF data old = setBits old f.lo f.w (bits data f.lo f.w) := by
  obtain ⟨hacc, hfit, hmin, hmax⟩ := h
  have hmask : bits 0xFFFFFFFF f.lo f.w = 2 ^ f.w - 1 := by
    refine Nat.eq_of_testBit_eq fun i => ?_
    rw [testBit_bits, show 0xFFFFFFFF = 2 ^ 32 - 1 from rfl, Nat.testBit_two_pow_sub_one,
      Nat.testBit_two_pow_sub_one]
    by_cases hi : i < f.w
    · rw [decide_eq_true (show f.lo + i < 32 by omega), Bool.and_true]
    · rw [decide_eq_false hi, Bool.false_and]
  have htakes : f.takes config .direct = true := by rw [FAcc.takes, hacc]
  have hdata : bits data f.lo f.w &&& (2 ^ f.w - 1) = bits data f.lo f.w := by
    rw [Nat.and_two_pow_sub_one_eq_mod, bits, Nat.mod_mod]
  have hlt : bits data f.lo f.w < 2 ^ f.w := Nat.mod_lt _ (Nat.two_pow_pos _)
  rw [FAcc.write, htakes, hmask]
  simp only [Nat.xor_self, Nat.and_zero, Nat.zero_or, hdata, if_true, hmin, hmax]
  exact if_pos (by simp; omega)

/-- Fields of a register that share no bit. -/
abbrev FAcc.Beside (f g : FAcc) : Prop := f.lo + f.w ≤ g.lo ∨ g.lo + g.w ≤ f.lo

/-- A whole write brings the data into each of a register's fields. -/
theorem RegRow.write_plain (r : RegRow) (h : ∀ f ∈ r.fields, f.Plain) (hp : r.fields.Pairwise FAcc.Beside)
    (config : Bool) (data old : Nat) {f : FAcc} (hf : f ∈ r.fields) :
    bits (r.write config .direct 0xFFFFFFFF data old) f.lo f.w = bits data f.lo f.w := by
  unfold RegRow.write
  generalize r.fields = l at h hp hf
  have hbeside {l : List FAcc} (hl : ∀ g ∈ l, g.Plain) (hb : ∀ g ∈ l, f.Beside g) (old : Nat) :
      bits (l.foldl (fun w f => f.write config .direct 0xFFFFFFFF data w) old)
          f.lo f.w = bits old f.lo f.w := by
    induction l generalizing old with
    | nil => rfl
    | cons g l ih =>
      have hg : g.lo + g.w ≤ f.lo ∨ f.lo + f.w ≤ g.lo := (hb g (List.mem_cons_self ..)).symm
      rw [List.foldl_cons, ih (fun k hk => hl k (List.mem_cons_of_mem _ hk))
        (fun k hk => hb k (List.mem_cons_of_mem _ hk)), FAcc.write_plain (hl g (List.mem_cons_self ..)),
        bits_setBits_apart _ _ _ _ _ _ hg]
  induction l generalizing old with
  | nil => exact absurd hf List.not_mem_nil
  | cons g l ih =>
    obtain ⟨hgl, hrest⟩ := List.pairwise_cons.mp hp
    have hl : ∀ k ∈ l, k.Plain := fun k hk => h k (List.mem_cons_of_mem _ hk)
    rw [List.foldl_cons]
    rcases List.mem_cons.mp hf with rfl | hin
    · rw [hbeside hl hgl, FAcc.write_plain (h f (List.mem_cons_self ..)), bits_setBits_same]
      exact Nat.mod_mod _ _
    · exact ih _ hl hrest hin

namespace State

variable {s t u : State} {g : Nat}

/-- A field of a register read after a whole write of the register. -/
theorem get_plain_whole (s : State) {a data : Nat} {r : RegRow} {f : Fld} (hrow : regRow? a = some r)
    (ha : f.addr = a) (hrst : f.rst = r.rst) (hfit : f.lo + f.w ≤ 32) :
    (s.plain (wholeWrite a data)).get f = bits (r.write (s.gst = .config) .direct 0xFFFFFFFF data
      (s.word (rawFld a 0 r))) f.lo f.w := by
  have horg : orgOf a 0 = 0 := by rw [orgOf, ite_self]
  have hplain : s.plain (wholeWrite a data) = s.set (rawFld a 0 r)
      (r.write (s.gst = .config) .direct 0xFFFFFFFF data (s.word (rawFld a 0 r))) := by
    rw [plain, wholeWrite_a, hrow]
    change s.set (rawFld _ (orgOf _ 0) _) (r.write _ _ _ _ (s.word (rawFld _ (orgOf _ 0) _))) = _
    rw [horg]
    rfl
  rw [hplain, get, word_congr _ (f := f) (g := rawFld a 0 r) (ha.trans rfl) hrst,
    word_set _ _ _ (show 0 + 32 ≤ 32 by decide)]
  exact bits_setBits_inside _ 32 _ _ _ hfit

/-! ## The registers of a segment's configuration -/

/-- The rows of CFG, MEM, CHLO, CHHI, POST and TRIG. -/
def segRow (k : Nat) : RegRow :=
  ⟨0x90200 + 4 * k, 0x0, [(0x40, 16)],
    match k with
    | 0 => [⟨0, 1, .RW, 0, 1⟩, ⟨1, 1, .RW, 0, 1⟩, ⟨16, 16, .RW, 0, 0xffff⟩]
    | 1 => [⟨0, 11, .RW, 0, 0x7ff⟩, ⟨16, 12, .RW, 0, 0xfff⟩]
    | 2 => [⟨0, 32, .RW, 0, 0xffffffff⟩]
    | 3 => [⟨0, 32, .RW, 0, 0xffffffff⟩]
    | 4 => [⟨0, 23, .RW, 0, 0x7fffff⟩]
    | _ => [⟨0, 8, .RW, 0, 0xff⟩, ⟨8, 1, .RW, 0, 1⟩]⟩

theorem regRow?_seg : ∀ g < 16, ∀ k < 6, regRow? (segReg g k) = some (segRow k) := by
  decide +kernel

theorem segRow_plain : ∀ k < 6, (∀ f ∈ (segRow k).fields, f.Plain) ∧
    (segRow k).fields.Pairwise FAcc.Beside := by
  decide

theorem segReg_eq (g : Nat) : ∀ k < 6, segReg g k = 0x90200 + 4 * k + 0x40 * g := by
  intro k hk
  have hcases : k = 0 ∨ k = 1 ∨ k = 2 ∨ k = 3 ∨ k = 4 ∨ k = 5 := by omega
  rcases hcases with rfl | rfl | rfl | rfl | rfl | rfl <;> rfl

/-- A field of a segment's configuration after a whole write of its register. -/
theorem get_segWritten (s : State) (hg : g < 16) {k data : Nat} (hk : k < 6) {f : Fld} (ha :
    f.addr = segReg g k)
    (hrst : f.rst = 0) {c : FAcc} (hc : c ∈ (segRow k).fields) (hlo : f.lo = c.lo) (hw : f.w = c.w) :
    (s.plain (wholeWrite (segReg g k) data)).get f = bits data f.lo f.w := by
  obtain ⟨hplain, hpair⟩ := segRow_plain k hk
  have hfit := (hplain c hc).2.1
  rw [get_plain_whole s (regRow?_seg g hg k hk) ha hrst (by omega), hlo, hw]
  exact RegRow.write_plain _ hplain hpair _ _ _ hc

/-! ## Writes of the host -/

theorem busW1_vsp (s : State) {a : Nat} (data : Nat) (h : a / 0x10000 = 9) :
    s.busW1 (wholeWrite a data) = s.wrVsp (wholeWrite a data) := by
  simp [State.busW1, h, below_lanes_of_block h (by decide)]

theorem hostW_vsp (hs : s.Awake) {a data : Nat} (ha : a % 4 = 0) (hb : a / 0x10000 = 9) (hd : data < 2 ^ 32) :
    s.hostW a data = s.wrVsp (wholeWrite a data) := by
  have hstep : a ≠ R.ETH_STEP_CMD.addr := by
    have : R.ETH_STEP_CMD.addr = 0xb0024 := rfl
    omega
  rw [hostW_awake s hs ha hd, busW_eq_busW1 s _ hstep, busW1_vsp _ _ hb]

theorem hostW_vspCmd (hs : s.Awake) {m : Nat} (hm : m < 65536) : s.hostW R.VSP_CMD.addr m = s.vspSoft m := by
  have hd : m < 2 ^ 32 := by omega
  rw [hostW_vsp hs (by decide) (by decide) hd, wrVsp, wholeWrite_a, if_pos rfl, wholeWrite_cmd _ hd,
    Nat.mod_eq_of_lt hm]

/-- R475 refuses writes of a segment's configuration registers while it is not IDLE, and of no other of
its registers. -/
theorem vspGate_seg (s : State) (hg : g < 16) {o : Nat} (ho : o < 0x40) :
    s.vspGate (0x90200 + o + 0x40 * g) = (decide (s.segState g ≠ 0) && decide (o ≤ 0x14)) := by
  have hq : (0x90200 + o + 0x40 * g - 0x90200) / 0x40 = g := by omega
  have hr : (0x90200 + o + 0x40 * g - 0x90200) % 0x40 = o := by omega
  unfold vspGate
  simp only
  rw [if_neg (by simp; omega), if_pos (by simp; omega), hq, hr]

theorem hostW_segCmd (hs : s.Awake) (hg : g < 16) {v : Nat} (hv : v < 8) :
    s.hostW (R.VSP_SEG_CMD g).addr v = s.segCmd g v := by
  have haddr : (R.VSP_SEG_CMD g).addr = 0x90200 + 0x18 + 0x40 * g := rfl
  have hd : v < 2 ^ 32 := by omega
  have hcmd : R.VSP_CMD.addr = 0x90010 := rfl
  have hclr : R.VSP_CNT_CLR.addr = 0x9001c := rfl
  have hix : ix (0x90200 + 0x18 + 0x40 * g) 0x90218 0x40 16 = some g := by
    have hq : (0x90200 + 0x18 + 0x40 * g - 0x90218) / 0x40 = g := by omega
    have hr : (0x90200 + 0x18 + 0x40 * g - 0x90218) % 0x40 = 0 := by omega
    unfold ix
    rw [hq, hr]
    exact if_pos (by simp; omega)
  rw [hostW_vsp hs (by omega) (by omega) hd, wrVsp, wholeWrite_a, haddr, if_neg (by omega), if_neg (by omega),
    vspGate_seg s hg (by decide), decide_eq_false (show ¬0x18 ≤ 0x14 by decide), Bool.and_false,
    if_neg Bool.false_ne_true, hix]
  show s.segCmd g ((wholeWrite _ v).cmd % 8) = _
  rw [wholeWrite_cmd _ hd, Nat.mod_eq_of_lt hv]

theorem hostW_segReg (hs : s.Awake) (hg : g < 16) {k data : Nat} (hk : k < 6) (hd : data < 2 ^ 32) :
    s.hostW (segReg g k) data =
      if s.segState g = 0 then s.plain (wholeWrite (segReg g k) data) else s.set F.VSP_FLAG_CFG_WREJ 1 := by
  have haddr := segReg_eq g k hk
  have hcmd : R.VSP_CMD.addr = 0x90010 := rfl
  have hclr : R.VSP_CNT_CLR.addr = 0x9001c := rfl
  have hgate : s.vspGate (segReg g k) = decide (s.segState g ≠ 0) := by
    rw [haddr, vspGate_seg s hg (by omega), decide_eq_true (show 4 * k ≤ 0x14 by omega), Bool.and_true]
  have hix : ix (segReg g k) 0x90218 0x40 16 = none := by
    unfold ix
    exact if_neg (by simp; omega)
  rw [hostW_vsp hs (by omega) (by omega) hd, wrVsp, wholeWrite_a, if_neg (by omega), if_neg (by omega),
      hgate, hix]
  by_cases h : s.segState g = 0
  · rw [if_neg (by simp [h]), if_pos h]
  · rw [if_pos (by simp [h]), if_neg h]
    rfl


variable {n : Nat}

/-! ## Edges of a comparator -/

/-- An event of a unit changes no register, and not the unit's level. -/
theorem tuEvent_level (s : State) (n t : Nat) (ip : Bool) (e : TuEvent) :
    (s.tuEvent n t ip e).regs = s.regs ∧ ((s.tuEvent n t ip e).tu n).level = (s.tu n).level := by
  unfold tuEvent
  extract_lets e' typ x fire
  have hset (y : TuS) (hy : y.level = x.level) :
      (s.setTu n y).regs = s.regs ∧ ((s.setTu n y).tu n).level = (s.tu n).level :=
    ⟨rfl, by rw [tu_setTu]; exact hy⟩
  cases e'
  · exact hset _ rfl
  · exact ⟨rfl, rfl⟩
  · exact hset _ rfl
  · exact hset _ rfl

/-- The first enter HIGH is kept (R478). -/
theorem tuEvent_enterHigh (hpol : s.on (F.VSP_TU_CFG_POL n) = false) (t : Nat) (ip : Bool) :
    ((s.tuEvent n t ip .enterHigh).tu n).high = some ((s.tu n).high.getD t) := by
  unfold tuEvent
  rw [hpol, if_neg Bool.false_ne_true]
  exact congrArg TuS.high (tu_setTu s n _)

/-- A pulse ends and fires where its time fits (R478). -/
theorem tuEvent_enterLow (hpol : s.on (F.VSP_TU_CFG_POL n) = false) (htype : s.get (F.VSP_TU_CFG_TYPE n) = 0)
    {p : Nat} (hp : (s.tu n).high = some p) (t : Nat) (ip : Bool) :
    ((s.tuEvent n t ip .enterLow).tu n).high = none ∧ ((s.tuEvent n t ip .enterLow).tu n).fires =
      (s.tu n).fires ++ (if s.tuCond n (t - p) then [(t, ip)] else []) := by
  unfold tuEvent
  rw [hpol, if_neg Bool.false_ne_true]
  refine ⟨congrArg TuS.high (tu_setTu s n _), (congrArg TuS.fires (tu_setTu s n _)).trans ?_⟩
  rw [htype, hp]
  cases hc : s.tuCond n (t - p) <;> cases (s.tu n).left <;> simp [hc]

/-- The level of the comparator noted, and the event that it makes. -/
def edgeLevel (hi up : Bool) : Nat := if hi then (if up then 2 else 1) else (if up then 1 else 0)
def edgeEvent (hi up : Bool) : TuEvent :=
  if hi then (if up then .enterHigh else .leaveHigh) else (if up then .leaveLow else .enterLow)
def levelled (s : State) (n level : Nat) : State := s.setTu n { s.tu n with level := some level }

theorem comparator_eq (hen : s.on (F.VSP_TU_CFG_EN n) = true) (hsrc : s.on (F.VSP_TU_CFG_SRC n) = true)
    (hi up : Bool) (z : Nat) : s.comparator n hi up z =
      (s.levelled n (edgeLevel hi up)).tuEvent n (z * 1024) true (edgeEvent hi up) := by
  have hget : s.get (F.VSP_TU_CFG_SRC n) = 1 := of_decide_eq_true hsrc
  unfold comparator
  rw [hen, hget]
  rfl

theorem comparator_off (h : s.on (F.VSP_TU_CFG_EN n) = false ∨ s.on (F.VSP_TU_CFG_SRC n) = false)
    (hi up : Bool) (z : Nat) : s.comparator n hi up z = s := by
  unfold comparator
  refine if_neg ?_
  rcases h with h | h
  · simp [h]
  · have hget : s.get (F.VSP_TU_CFG_SRC n) ≠ 1 := of_decide_eq_false h
    simp [hget]

/-! ## Readout -/

theorem imageWord_touched (s : State) (g i : Nat) : Touched s (s.imageWord g i).2 := by
  obtain ⟨read, hread⟩ : ∃ f, State.eccRdB = f := ⟨_, rfl⟩
  have htouch (v : State) (a : Nat) : Touched v (read v a 2 0x33).2.2 := hread ▸ eccRdB_touched v a 2 0x33
  have hsnd {v : State} {p : Option Bytes × State} {o : Option Bytes} {w : State} (h : Touched v p.2)
      (hp : p = (o, w)) : Touched v w := by
    rw [hp] at h
    exact h
  unfold imageWord
  rw [hread]
  extract_lets x
  split
  · exact .refl s
  next n j one _ =>
    have hone (k : Nat) (v : State) : Touched v (one k v).2 := htouch v _
    clear_value one
    split
    next h0 => exact hsnd (hone 0 s) h0
    next v h0 =>
      have hfirst := hsnd (hone 0 s) h0
      split
      next h1 => exact hfirst.trans (hsnd (hone 1 v) h1)
      next h1 => exact hfirst.trans (hsnd (hone 1 v) h1)

theorem imageRead_touched (n : Nat) (s : State) (g i : Nat) : Touched s (s.imageRead g i n).2.2 := by
  induction n generalizing s i with
  | zero => exact .refl s
  | succ n ih =>
    have hw := imageWord_touched s g i
    unfold imageRead
    split
    next v hv =>
      rw [hv] at hw
      exact hw
    next w v hv =>
      rw [hv] at hw
      exact hw.trans (ih v _)

theorem segRelease_host (s : State) (g : Nat) : (s.segRelease g).host = s.host := by
  unfold segRelease
  split <;> rfl

/-- The one READ of a ring, in its turn. -/
structure LastRead (s : State) (r : Nat) (d : Desc) : Prop where
  ring : r < 32
  type : s.rtype r = .vsp
  outs : (s.ring r).outs = [d]
  busy : d.busy = true
  turn : s.get (R.HOST_RING_CI r) = d.idx

/-- After its completion the ring holds nothing. -/
theorem LastRead.complete_empty {r : Nat} {d : Desc} (h : LastRead s r d) (hu : RingsKept s u) (st res :
    Nat) :
    ((u.complete r d.idx st res 0).ring r).outs = [] := by
  have hr := h.ring
  have haddr : (R.HOST_RING_CI r).addr = 0x21014 + 0x40 * r := rfl
  have hci : u.get (R.HOST_RING_CI r) = d.idx := (hu.regs _ (by omega) (by omega)).trans h.turn
  have houts : (u.ring r).outs = [d] := by
    rw [State.ring, hu.rings]
    exact h.outs
  exact (complete_last h.ring houts hci st res 0).2

/-- The next READ of an empty ring is none. -/
theorem nextRead_none {r : Nat} (h : (s.ring r).outs = []) :
    (match (s.ring r).outs.find? (fun e => e.op = 1 && e.started) with
      | some e => s.updDesc r e.idx (fun x => { x with busy := true })
      | none => s) = s := by
  rw [h]
  rfl

theorem vspReadDone_outside {r : Nat} {d : Desc} (h : LastRead s r d) (hm : HostMem)
    (hbad : s.readOk d.bytes = false) : s.vspReadDone r hm = s.complete r d.idx 1 0 0 := by
  have hwork : s.workRing r = r := workRing_busy h.ring (by simp [h.outs, h.busy])
  have hbusy : (s.ring r).outs.find? (·.busy) = some d := by simp [h.outs, h.busy]
  unfold vspReadDone
  simp only [hwork, h.type, ne_eq, not_true_eq_false, if_false, hbusy, hbad, Bool.not_false, if_true]
  exact nextRead_none (h.complete_empty ⟨rfl, fun _ _ _ => rfl⟩ 1 0)

theorem vspReadDone_moved {r g k : Nat} {d : Desc} {b : Bytes} {v : State} (h : LastRead s r d) (hm : HostMem)
    (hok : s.readOk d.bytes = true) (hlate : d.cancelLate = false) (hg : g = fieldLE d.bytes 8 1 % 16)
    (hrd : s.imageRead g (fieldLE d.bytes 12 4) (fieldLE d.bytes 16 4 / 4) = (b, false, u))
    (hwr : u.hostWr hm (ringReq r) (pagesOf (fieldLE d.bytes 24 8) (fieldLE d.bytes 16 4))
        (fieldLE d.bytes 24 8) b =
      (k, true, v)) : s.vspReadDone r hm =
      if bit (fieldLE d.bytes 9 1) 0 then (v.complete r d.idx 0 (fieldLE d.bytes 16 4) 0).segRelease g
      else v.complete r d.idx 0 (fieldLE d.bytes 16 4) 0 := by
  have hwork : s.workRing r = r := workRing_busy h.ring (by simp [h.outs, h.busy])
  have hbusy : (s.ring r).outs.find? (·.busy) = some d := by simp [h.outs, h.busy]
  have hkept : RingsKept s v := by
    have hread := imageRead_touched (fieldLE d.bytes 16 4 / 4) s g (fieldLE d.bytes 12 4)
    rw [hrd] at hread
    have hwrite := hostWr_noted (pagesOf (fieldLE d.bytes 24 8) (fieldLE d.bytes 16 4)) u hm (ringReq r)
      (fieldLE d.bytes 24 8) b
    rw [hwr] at hwrite
    exact (hread.trans hwrite.touched).ringsKept
  have hempty := h.complete_empty hkept 0 (fieldLE d.bytes 16 4)
  unfold vspReadDone
  simp only [hwork, h.type, ne_eq, not_true_eq_false, if_false, hbusy, hok, ← hg, hrd, hwr, hlate,
      Bool.not_true,
    Bool.false_eq_true, Bool.not_false, Bool.and_true]
  generalize v.complete r d.idx 0 (fieldLE d.bytes 16 4) 0 = q at hempty
  cases bit (fieldLE d.bytes 9 1) 0
  · exact nextRead_none hempty
  · refine nextRead_none ?_
    rw [ring, when_true, segRelease_host]
    exact hempty

end State

namespace State

variable {s : State} {g : Nat}

theorem exec_segCmd (hg : g < 16) (hs : s.Awake) {v : Nat} (hv : v < 8) {i : Instr}
    (hexec : exec i s = gate (okSeg g) (s.hostW (R.VSP_SEG_CMD g).addr v)) :
        exec i s = .next (s.segCmd g v) :=
  answers hexec (decide_eq_true hg) (hostW_segCmd hs hg hv)

theorem arm'_good (h : s.armCode g = 0) : s.segCmd g 1 = s.segArm g := if_pos h

theorem arm'_bad (h : s.armCode g ≠ 0) : s.segCmd g 1 =
    (s.set (F.VSP_SEG_STAT_CODE g) (s.armCode g)).set (F.VSP_SEG_STAT_ARM_REJ g) 1 := if_neg h

theorem on_eq_bit (data lo : Nat) : decide (bits data lo 1 = 1) = bit data lo := by
  rw [bits_one, bit]
  cases data.testBit lo <;> rfl

/-- The fields of a configuration register after a write of it in IDLE (R475). -/
theorem segConfig_written (s : State) (hg : g < 16) {k : Nat} (hk : k < 6) {data : Nat} (hd : data < 2 ^ 32) :
    ∀ t, t = s.plain (wholeWrite (segReg g k) data) →
      (k = 0 → t.on (F.VSP_SEG_CFG_FULLPRE g) = bit data 0 ∧ t.on (F.VSP_SEG_CFG_TBASE g) = bit data 1 ∧
        t.get (F.VSP_SEG_CFG_DIV g) = bits data 16 16) ∧
      (k = 1 → t.get (F.VSP_SEG_MEM_BASE g) = bits data 0 11 ∧ t.get (F.VSP_SEG_MEM_LEN g)
          = bits data 16 12) ∧
      (k = 2 → t.get (R.VSP_SEG_CHLO g) = data) ∧ (k = 3 → t.get (R.VSP_SEG_CHHI g) = data) ∧
      (k = 4 → t.get (F.VSP_SEG_POST_POST g) = bits data 0 23) ∧
      (k = 5 → t.get (F.VSP_SEG_TRIG_UNITS g) = bits data 0 8 ∧ t.on (F.VSP_SEG_TRIG_TRIP g)
          = bit data 8) := by
  rintro t rfl
  have hget {f : Fld} {c : FAcc} := get_segWritten s hg (data := data) hk (f := f) (c := c)
  have hwhole : bits data 0 32 = data := Nat.mod_eq_of_lt hd
  refine ⟨?_, ?_, ?_, ?_, ?_, ?_⟩
  · rintro rfl
    refine ⟨?_, ?_, hget rfl rfl (c := ⟨16, 16, .RW, 0, 0xffff⟩) (by decide) rfl rfl⟩
    · rw [on, hget (f := F.VSP_SEG_CFG_FULLPRE g) rfl rfl (c := ⟨0, 1, .RW, 0, 1⟩) (by decide) rfl rfl]
      exact on_eq_bit data 0
    · rw [on, hget (f := F.VSP_SEG_CFG_TBASE g) rfl rfl (c := ⟨1, 1, .RW, 0, 1⟩) (by decide) rfl rfl]
      exact on_eq_bit data 1
  · rintro rfl
    exact ⟨hget rfl rfl (c := ⟨0, 11, .RW, 0, 0x7ff⟩) (by decide) rfl rfl,
      hget rfl rfl (c := ⟨16, 12, .RW, 0, 0xfff⟩) (by decide) rfl rfl⟩
  · rintro rfl
    exact (hget rfl rfl (c := ⟨0, 32, .RW, 0, 0xffffffff⟩) (by decide) rfl rfl).trans hwhole
  · rintro rfl
    exact (hget rfl rfl (c := ⟨0, 32, .RW, 0, 0xffffffff⟩) (by decide) rfl rfl).trans hwhole
  · rintro rfl
    exact hget rfl rfl (c := ⟨0, 23, .RW, 0, 0x7fffff⟩) (by decide) rfl rfl
  · rintro rfl
    refine ⟨hget rfl rfl (c := ⟨0, 8, .RW, 0, 0xff⟩) (by decide) rfl rfl, ?_⟩
    rw [on, hget (f := F.VSP_SEG_TRIG_TRIP g) rfl rfl (c := ⟨8, 1, .RW, 0, 1⟩) (by decide) rfl rfl]
    exact on_eq_bit data 8

end State

/-- Settles O55: a tick touches memory alone before it counts; a trigger of one segment leaves the others,
so that of several each takes its own on the state before; a READ leaves its ring empty. -/
theorem recorderSegmentsAndTriggers : Obligations.RecorderSegmentsAndTriggers := by
  refine ⟨?tick, ?fire, ?idle, ?timeout, ?soft, ?commands, ?config, ?edge, ?read, ?done⟩
  case tick =>
    intro s g z hg hdue hz hw hbefore hafter
    refine ⟨State.answers (u := s.each 16 State.vspTick)
        rfl rfl (State.vspTicks_eq hg hdue hz hw hbefore hafter),
      fun h => ?_, fun i j h htpl ht hpost => State.segSample_closes hg h htpl ht hpost z⟩
    obtain ⟨hcnt, hwr, hstate, hmem⟩ := State.segSample_armed hg h z
    refine ⟨hcnt, hwr, hstate, fun hmode hsynd hgiven k hk => ?_⟩
    have hread := State.sampleStored_read ⟨hmode, hsynd⟩ hgiven z hk
    rw [State.rdN, State.rdB, hmem]
    exact hread
  case fire =>
    intro s u i ip rest hu hnext hfires htpl
    have hdue : s.fireDue = s.tuFire u := by rw [State.fireDue, hnext]
    obtain ⟨hrest, hsegs⟩ := State.tuFire_spec htpl hfires
    refine ⟨s.tuFire u, State.answers (u := s.fireDue) rfl rfl hdue, hrest, fun g hg => ?_⟩
    obtain ⟨hin, hout⟩ := hsegs g hg
    exact ⟨hin, fun h => ⟨(hout h).seg, (hout h).segState⟩⟩
  case idle =>
    intro s hnext
    exact State.answers (u := s.fireDue) rfl rfl (by rw [State.fireDue, hnext])
  case timeout =>
    intro s u i hu hdue hi hw hv htpl
    obtain ⟨ip, heq⟩ := State.tuTimeout_due hdue hi hw
    exact ⟨_, State.answers (u := s.each 8 State.tuTimeout) rfl rfl (State.tuTimeouts_eq htpl hu heq hv),
      State.tuTimeouts_spec htpl u i ip⟩
  case soft =>
    intro s m hm hs htpl
    refine ⟨s.vspSoft m, State.answers (u := s.hostW R.VSP_CMD.addr m) rfl (decide_eq_true hm)
      (State.hostW_vspCmd hs hm), fun g hg => ?_⟩
    obtain ⟨hin, hout⟩ := State.vspSoft_segs htpl m hg
    exact ⟨hin, fun h => ⟨(hout h).seg, (hout h).segState⟩⟩
  case commands =>
    intro s g hg hs
    have hsoft : exec (.soft g) s = .next (s.segSoft g) := State.exec_segCmd hg hs (v := 4) (by decide) rfl
    have harm : exec (.arm g) s = .next (s.segCmd g 1) := State.exec_segCmd hg hs (by decide) rfl
    have hdisarm : exec (.disarm g) s = .next (s.disarm g) := State.exec_segCmd hg hs (v := 2) (by decide) rfl
    have hrelease : exec (.release g) s = .next (s.segRelease g) := State.exec_segCmd hg hs (v :=
        3) (by decide) rfl
    have hrearm : exec (.rearmDone g) s = .next (s.rearmDone g) :=
      State.answers (u := s.rearmDone g) rfl (decide_eq_true hg) rfl
    refine ⟨fun htpl => ⟨_, hsoft, State.SegTriggered_segTrig htpl g s.now16 8 false⟩, fun h => ?_,
        fun h => ?_,
      fun h => ?_, fun h => ?_, fun h => ?_, fun h => ?_, fun h => ?_, fun h => ?_⟩
    · obtain ⟨hstate, hwr, harmed⟩ := State.segArm_spec s hg
      exact ⟨s.segArm g, harm.trans (congrArg _ (State.arm'_good h)), hstate, State.segArm_seg s g, hwr,
          harmed⟩
    · exact harm.trans (congrArg _ (State.arm'_bad h))
    · obtain ⟨hstate, hseg, harmed, hdone⟩ := State.segDrop_goto s hg (st := 0) (by decide)
      exact ⟨_, hdisarm.trans (congrArg _ (if_neg h)), hstate, hseg, harmed, hdone⟩
    · exact hdisarm.trans (congrArg _ (if_pos h))
    · obtain ⟨hstate, hseg, -, hdone⟩ := State.segDrop_goto s hg (st := 4) (by decide)
      exact ⟨_, hrelease.trans (congrArg _ (if_pos h)), hstate, hseg, hdone⟩
    · exact hrelease.trans (congrArg _ (if_neg h))
    · obtain ⟨hstate, -, -⟩ := State.segArm_spec s hg
      refine ⟨s.segArm g, hrearm.trans (congrArg _ (if_pos h)), hstate, ?_⟩
      rw [State.segArm_seg]
      exact ⟨rfl, rfl, rfl⟩
    · exact hrearm.trans (congrArg _ (if_neg h))
  case config =>
    intro s g k data hg hk hd hs
    have hok : (okSeg g && okSegReg k && okU32 data) = true := by
      rw [okSeg, okSegReg, decide_eq_true hg, decide_eq_true hk]
      exact decide_eq_true hd
    have hwrite := State.hostW_segReg hs hg hk hd
    refine ⟨fun h => State.answers (u := s.hostW (segReg g k) data) rfl hok (hwrite.trans (if_neg h)),
      fun h => ⟨_, State.answers (u := s.hostW (segReg g k) data) rfl hok (hwrite.trans (if_pos h)),
        s.plain_regsOnly _ rfl, State.segConfig_written s hg hk hd _ rfl⟩⟩
  case edge =>
    intro s u hi up z hu
    have hok : okTu u = true := decide_eq_true hu
    refine ⟨fun h => State.answers (u := s.comparator u hi up z) rfl hok (State.comparator_off h hi up z),
      fun hen hsrc => ⟨_, State.answers (u := s.comparator u hi up z)
          rfl hok (State.comparator_eq hen hsrc hi up z),
        ?_⟩⟩
    obtain ⟨hregs, hlevel⟩ :=
      State.tuEvent_level (s.levelled u (State.edgeLevel hi up)) u (z * 1024) true (State.edgeEvent hi up)
    have hnoted : (s.levelled u (State.edgeLevel hi up)).tu u =
        { s.tu u with level := some (State.edgeLevel hi up) } := State.tu_setTu s u _
    refine ⟨hregs, hlevel.trans (congrArg TuS.level hnoted), fun hpol hhi hup hnone => ?_,
      fun p hpol htype hhi hup hp => ?_⟩
    · subst hhi hup
      refine (State.tuEvent_enterHigh (s := s.levelled u 2) hpol (z * 1024) true).trans ?_
      rw [show ((s.levelled u 2).tu u).high = none from (congrArg TuS.high hnoted).trans hnone]
      rfl
    · subst hhi hup
      obtain ⟨hnone, hfires⟩ := State.tuEvent_enterLow (s := s.levelled u 0) hpol htype
        ((congrArg TuS.high hnoted).trans hp) (z * 1024) true
      refine ⟨hnone, hfires.trans ?_⟩
      rw [show ((s.levelled u 0).tu u).fires = (s.tu u).fires from (congrArg TuS.fires hnoted).trans rfl]
      rfl
  case read =>
    intro s r hm d u hr hfetch
    have hread : (s.see hm).vspRead r hm = if (u.ring r).outs.any (·.busy) then u
        else u.updDesc r d.idx (fun e => { e with busy := true }) := by
      rw [State.vspRead, hfetch]
    refine ⟨fun h => (gate_ring hr _).trans (congrArg _ (hread.trans (if_pos h))),
      fun h => (gate_ring hr _).trans (congrArg _ (hread.trans (if_neg (by rw [h]; exact
          Bool.false_ne_true))))⟩
  case done =>
    intro s r hm d g hr htype houts hbusy hstarted hlate hci hg
    have hlast : State.LastRead (s.see hm) r d := ⟨hr, htype, houts, hbusy, hci⟩
    refine ⟨fun hbad => (gate_ring hr _).trans (congrArg _ (State.vspReadDone_outside hlast hm hbad)), ?_⟩
    rintro hok b u k v hrd hwr q rfl
    exact (gate_ring hr _).trans (congrArg _ (State.vspReadDone_moved hlast hm hok hlate hg hrd hwr))

end Sys2Proof.Machine
end

section
/-! SUPPORT. Operands of the station logic engine's instructions and ACC as a word; its halts, the records
of its timers, counters and edge detectors, and its accesses to registers; the end sequence. Then what
15_station_logic.md has proved: StationLogicInstructions. -/

namespace Sys2Proof.Machine

open Sys2Proof

/-! ## A row of the table of instructions -/

/-- An instruction of the engine has the meaning of what its model does after the fetch. -/
theorem logicRow_of {i : Instr} {op n : Nat} {f : Nat → State → State} {P : Nat → State → State → Prop}
    (hexec : ∀ s, exec i s = gate true (s.lInstr op n f)) (h : ∀ w u, P w u (f w u)) : LogicRow i op n P := by
  intro s w u hat hop
  obtain ⟨hrun, hcycle, v, hread, rfl⟩ := hat
  refine State.gives_of (hexec s) rfl ?_
  unfold State.lInstr
  rw [if_pos (by rw [hrun, hcycle]; rfl), hread]
  simp only [hop, if_true]
  exact h w _

namespace State

variable {s t u : State} {w : Nat}

/-! ## Operands -/

/-- A read that is not bad leaves the engine's own state as it is. -/
theorem lRead_logic {a d : Nat} (h : s.lRead a = (some d, t)) : t.logic = s.logic := by
  have hrd := eccRd_touched s a 0x34
  unfold lRead at h
  rcases hf : s.eccRd a 0x34 with ⟨d', bad, s'⟩
  rw [hf] at hrd
  simp only [hf] at h
  split at h
  · cases h
  · cases h
    exact (congrArg State.logic hrd.memless : t.memless.logic = s.memless.logic)

theorem lWord_logic {o d : Nat} (h : s.lWord o = (some d, t)) : t.logic = s.logic := by
  unfold lWord at h
  rcases hf : s.lRead (logicBase + o) with ⟨d', s'⟩
  simp only [hf] at h
  cases d' with
  | none => cases h
  | some x =>
    cases h
    exact lRead_logic hf

/-- LD to XOR read their bit into LA. -/
theorem lBitRd_reads (f : Bool → Bool → Bool) (w : Nat) (u : State) : ReadsBit f w u (u.lBitRd w f) := by
  refine ⟨fun o b d v hat hrd => ?_, fun o b v hat hrd => ?_, fun hat => ?_⟩
  · unfold lBitRd
    simp only [hat, hrd]
    rw [lWord_logic hrd]
    rfl
  · unfold lBitRd
    simp only [hat, hrd]
  · refine ⟨decide (Config.freeValue u.free % 2 = 1), ?_⟩
    unfold lBitRd
    simp only [hat]
    rfl

/-- ST to RST write their bit. -/
theorem lBitWr_writes (val : Bool) (w : Nat) (u : State) : WritesBit val w u (u.lBitWr w val) := by
  refine ⟨fun o b d v hat hmay hrd => ?_, fun o b v hat hmay hrd => ?_, fun hno => ?_⟩
  · unfold lBitWr lPutBits
    simp only [hat, hmay, if_true, hrd]
    rfl
  · unfold lBitWr lPutBits
    simp only [hat, hmay, if_true, hrd]
  · unfold lBitWr
    split
    · rfl
    next hat =>
      rw [hat] at hno
      rw [if_neg]
      rcases hno with hno | hno
      · exact absurd hno (by simp)
      · rw [hno]
        decide

/-- A word operand is read into what is done with it. -/
theorem lWordRd_reads {f : Nat → State → State} {P : Nat → State → State → Prop} (h : ∀ d v, P d v (f d v))
    (w : Nat) (u : State) : ReadsWord P w u (u.lWordRd w f) := by
  refine ⟨fun o d v hat hrd => ?_, fun o v hat hrd => ?_, fun hat => ?_⟩
  · unfold lWordRd
    simp only [hat, hrd]
    exact h d v
  · unfold lWordRd
    simp only [hat, hrd]
  · refine ⟨Config.freeValue u.free % 2 ^ 32, Nat.mod_lt _ (by decide), ?_⟩
    unfold lWordRd
    simp only [hat]
    exact h _ _

/-- STW and STWC write their word. -/
theorem lWordWr_writes (val w : Nat) (u : State) : WritesWord val w u (u.lWordWr w val) := by
  refine ⟨fun o hat hmay => ?_, fun hno => ?_⟩
  · unfold lWordWr
    simp only [hat, hmay, if_true]
    rfl
  · unfold lWordWr
    split
    · rfl
    next hat =>
      rw [hat] at hno
      rw [if_neg]
      rcases hno with hno | hno
      · exact absurd hno (by simp)
      · rw [hno]
        decide

/-- ACC set to a value whose word it is. -/
theorem setAcc_withAcc (u : State) {x y : Nat} (h : x % 2 ^ 32 = y) : u.WithAcc (u.setAcc x) y := by
  subst h
  rfl

/-- What is done where LA is set alone. -/
theorem when_la (u : State) (f : State → State) (P : State → Prop) (h : P (f u)) :
    if u.logic.la then P (u.when u.logic.la f) else u.when u.logic.la f = u := by
  split
  next hla => rwa [hla, when_true]
  next hla => rw [Bool.eq_false_iff.mpr hla, when_false]

/-- A jump to its target, where it is taken (R451). -/
theorem lJump_row (u : State) (w : Nat) (taken : Bool) : u.lJump w taken =
    if taken then { u with logic := { u.logic with pc := w % 65536, clocks :=
        u.logic.clocks + 11 } } else u := rfl

/-! ## ACC as a word -/

theorem toNat_accBv (s : State) : s.accBv.toNat = s.logic.acc % 2 ^ 32 := BitVec.toNat_ofNat _ _

/-- A number read as a signed word is its bit vector read so. -/
theorem sx_eq_toInt (x : Nat) : sx 32 x = (BitVec.ofNat 32 x).toInt := by
  rw [BitVec.toInt_eq_toNat_cond, BitVec.toNat_ofNat]
  unfold sx
  extract_lets y
  have hy : y = x % 2 ^ 32 := rfl
  rw [← hy]
  clear_value y
  split <;> split <;> omega

theorem us_eq_toNat (i : Int) : us 32 i = (BitVec.ofInt 32 i).toNat := by
  rw [BitVec.toNat_ofInt]
  rfl

theorem sx16_eq_toInt (w : Nat) : sx 16 (lIdx w) = ((BitVec.ofNat 16 w).signExtend 32).toInt := by
  rw [BitVec.toInt_signExtend_of_le (by decide), BitVec.toInt_eq_toNat_cond, BitVec.toNat_ofNat]
  unfold sx lIdx bits
  rw [Nat.shiftRight_zero]
  extract_lets y
  have hy : y = w % 2 ^ 16 := Nat.mod_mod _ _
  rw [hy]
  generalize w % 2 ^ 16 = z
  split <;> split <;> omega

/-- The immediate of LDI and ADDI, sign extended. -/
theorem us_sx16 (w : Nat) : us 32 (sx 16 (lIdx w)) = ((BitVec.ofNat 16 w).signExtend 32).toNat := by
  rw [sx16_eq_toInt, us_eq_toNat, BitVec.ofInt_toInt]

theorem toNat_lt32 (x : BitVec 32) : x.toNat % 2 ^ 32 = x.toNat := Nat.mod_eq_of_lt x.isLt

theorem lIdx_mod32 (w : Nat) : lIdx w % 32 = w % 32 := by
  unfold lIdx bits
  rw [Nat.shiftRight_zero]
  omega

theorem acc_add (s : State) (d : Nat) : (s.logic.acc + d) % 2 ^ 32 = (s.accBv + BitVec.ofNat 32 d).toNat := by
  rw [BitVec.toNat_add, toNat_accBv, BitVec.toNat_ofNat, ← Nat.add_mod]

theorem acc_mul (s : State) (d : Nat) : (s.logic.acc * d) % 2 ^ 32 = (s.accBv * BitVec.ofNat 32 d).toNat := by
  rw [BitVec.toNat_mul, toNat_accBv, BitVec.toNat_ofNat, ← Nat.mul_mod]

theorem acc_sub (s : State) (d : Nat) :
    us 32 ((s.logic.acc : Int) - d) % 2 ^ 32 = (s.accBv - BitVec.ofNat 32 d).toNat := by
  have h : BitVec.ofInt 32 ((s.logic.acc : Int) - d) = s.accBv - BitVec.ofNat 32 d := by
    apply BitVec.eq_of_toInt_eq
    rw [BitVec.toInt_sub, accBv, BitVec.toInt_ofInt, ← BitVec.ofInt_natCast, ← BitVec.ofInt_natCast,
      BitVec.toInt_ofInt, BitVec.toInt_ofInt, Int.sub_bmod_bmod, Int.bmod_sub_bmod]
  rw [us_eq_toNat, h, toNat_lt32]

theorem acc_and (s : State) (d : Nat) : (s.logic.acc &&& d) % 2 ^ 32 = (s.accBv &&&
    BitVec.ofNat 32 d).toNat := by
  rw [BitVec.toNat_and, toNat_accBv, BitVec.toNat_ofNat, Nat.and_mod_two_pow]

theorem acc_or (s : State) (d : Nat) : (s.logic.acc ||| d)
    % 2 ^ 32 = (s.accBv ||| BitVec.ofNat 32 d).toNat := by
  rw [BitVec.toNat_or, toNat_accBv, BitVec.toNat_ofNat, Nat.or_mod_two_pow]

theorem acc_xor (s : State) (d : Nat) : (s.logic.acc ^^^ d)
    % 2 ^ 32 = (s.accBv ^^^ BitVec.ofNat 32 d).toNat := by
  rw [BitVec.toNat_xor, toNat_accBv, BitVec.toNat_ofNat, Nat.xor_mod_two_pow]

theorem acc_ldih (s : State) (w : Nat) :
    setBits s.logic.acc 16 16 (lIdx w) % 2 ^ 32 = s.logic.acc % 65536 + 65536 * (w % 65536) := by
  generalize s.logic.acc = a
  unfold setBits bits lIdx bits
  rw [Nat.shiftRight_zero, Nat.shiftRight_eq_div_pow]
  omega

theorem acc_shl (s : State) (w : Nat) :
    shl32 s.logic.acc (lIdx w) % 2 ^ 32 = (s.accBv <<< (w % 32)).toNat := by
  unfold shl32
  rw [lIdx_mod32, BitVec.toNat_shiftLeft, toNat_accBv, Nat.mod_mod, Nat.shiftLeft_eq, Nat.shiftLeft_eq,
    Nat.mod_mul_mod]

theorem acc_shr {s : State} (h : s.logic.acc < 2 ^ 32) (w : Nat) :
    shr32 s.logic.acc (lIdx w) % 2 ^ 32 = (s.accBv >>> (w % 32)).toNat := by
  unfold shr32
  rw [lIdx_mod32, BitVec.toNat_ushiftRight, toNat_accBv, Nat.mod_eq_of_lt h,
    Nat.mod_eq_of_lt (lt_of_le_of_lt (Nat.shiftRight_le _ _) h)]

theorem acc_sar (s : State) (w : Nat) :
    sar32 s.logic.acc (lIdx w) % 2 ^ 32 = (s.accBv.sshiftRight (w % 32)).toNat := by
  have h : BitVec.ofInt 32 (s.accBv.toInt / ((2 ^ (w % 32) : Nat) : Int)) = s.accBv.sshiftRight (w % 32) := by
    unfold BitVec.sshiftRight
    rw [Int.shiftRight_eq_div_pow]
  unfold sar32
  rw [lIdx_mod32, sx_eq_toInt, us_eq_toNat]
  change (BitVec.ofInt 32 (s.accBv.toInt / _)).toNat % 2 ^ 32 = _
  rw [h, toNat_lt32]

theorem acc_addi (s : State) (w : Nat) : (s.logic.acc + us 32 (sx 16 (lIdx w))) % 2 ^ 32 =
    (s.accBv + (BitVec.ofNat 16 w).signExtend 32).toNat := by
  rw [us_sx16, BitVec.toNat_add, toNat_accBv, Nat.mod_add_mod]

/-- An arithmetic or logical instruction on ACC and a word operand. -/
theorem lAcc_reads {f : Nat → Nat → Nat} {g : State → Nat → Nat}
    (h : ∀ (v : State) d, f v.logic.acc d % 2 ^ 32 = g v d) (w : Nat) (u : State) :
    ReadsWord (fun d v t => v.WithAcc t (g v d)) w u (u.lAcc w f) :=
  lWordRd_reads (P := fun d v t => v.WithAcc t (g v d)) (fun d v => setAcc_withAcc v (h v d)) w u

/-- A comparison of ACC and a word operand. -/
theorem lCmp_reads {f : Int → Int → Bool} {g : BitVec 32 → BitVec 32 → Bool}
    (h : ∀ x y : BitVec 32, f x.toInt y.toInt = g x y) (w : Nat) (u : State) :
    ReadsWord (fun d v t => v.WithLa t (g v.accBv (BitVec.ofNat 32 d))) w u (u.lCmp w f) := by
  refine lWordRd_reads (fun d v => ?_) w u
  rw [sx_eq_toInt, sx_eq_toInt, h]
  rfl

/-! ## A change of the engine's state -/

/-- Fields outside LSTATE and STOP_PEND stay as the engine changes state. -/
theorem setLgst_get (s : State) (x : LogState) {f : Fld} (hreg : UntouchedReg f.addr)
    (hstate : F.LOGIC_STAT_LSTATE.Clear f) (hstop : F.LOGIC_STAT_STOP_PEND.Clear f) :
    (s.setLgst x).get f = s.get f := by
  unfold setLgst
  extract_lets was s1 s2 s3
  have h1 : s1.get f = s.get f := get_set_clear _ _ hstate
  have h2 : s2.get f = s1.get f := (Touched.ite (.refl s1) (wr32_touched _ _ _)).get f hreg
  split
  · exact (get_set_clear s2 _ hstop).trans (h2.trans h1)
  · exact h2.trans h1

/-- The engine is in the state it changed to. -/
theorem setLgst_lgst (s : State) (x : LogState) : (s.setLgst x).lgst = x := by
  have hget : (s.setLgst x).get F.LOGIC_STAT_LSTATE = x.code := by
    unfold setLgst
    extract_lets was s1 s2 s3
    have h1 : s1.get F.LOGIC_STAT_LSTATE = x.code := by
      rw [get_set _ _ _ (by decide)]
      cases x <;> rfl
    have h2 : s2.get F.LOGIC_STAT_LSTATE = s1.get F.LOGIC_STAT_LSTATE :=
      (Touched.ite (.refl s1) (wr32_touched _ _ _)).get _ (by decide)
    split
    · exact (get_set_clear s2 _ (by decide)).trans (h2.trans h1)
    · exact h2.trans h1
  unfold lgst
  rw [hget]
  cases x <;> rfl

/-- An overflow of the stack halts the engine with its cause (R453). -/
theorem lStack_halts (s : State) : s.lStack.lgst = .halt ∧ s.lStack.get F.LOGIC_STAT_HCAUSE = 1 := by
  unfold lStack lHalt
  refine ⟨setLgst_lgst _ _, ?_⟩
  rw [setLgst_get _ _ (by decide) (by decide) (by decide), get_set _ _ _ (by decide)]
  rfl

theorem lPush_row (isAnd : Bool) (u : State) :
    (u.logic.stack.length < 16 → u.lPush isAnd =
      { u with logic := { u.logic with stack := (u.logic.la, isAnd) :: u.logic.stack, la := isAnd } }) ∧
    (16 ≤ u.logic.stack.length → (u.lPush isAnd).lgst = .halt ∧
        (u.lPush isAnd).get F.LOGIC_STAT_HCAUSE = 1) := by
  unfold lPush
  refine ⟨fun h => ?_, fun h => ?_⟩
  · rw [if_neg (by omega)]
    rfl
  · rw [if_pos h]
    exact lStack_halts u

theorem lPop_row (u : State) :
    (∀ r op rest, u.logic.stack = (r, op) :: rest → u.lPop =
      { u with logic := { u.logic with stack := rest, la :=
          if op then r && u.logic.la else r || u.logic.la } }) ∧
    (u.logic.stack = [] → u.lPop.lgst = .halt ∧ u.lPop.get F.LOGIC_STAT_HCAUSE = 1) := by
  unfold lPop
  refine ⟨fun r op rest h => ?_, fun h => ?_⟩
  · rw [h]
    rfl
  · rw [h]
    exact lStack_halts u

/-! ## Words of sound memory -/

theorem lRead_sound (h : s.Sound) (a : Nat) : s.lRead a = (some (s.rd32 a), s) := by
  have hclean : sget s.synd 0 (a / 4) = 0 := by
    rw [h.synd]
    rfl
  unfold lRead
  rw [eccRd_clean hclean]
  rfl

theorem lWord_sound (h : s.Sound) (o : Nat) : s.lWord o = (some (s.lView o (s.rd32 (logicBase + o))), s) := by
  unfold lWord
  rw [lRead_sound h]
  rfl

theorem lWords_sound (h : s.Sound) (o n : Nat) : (s.lWords o n).2 = s := by
  induction n generalizing o with
  | zero => rfl
  | succ n ih =>
    unfold lWords
    rw [lWord_sound h]
    dsimp only
    have hrest := ih (o + 4)
    split
    next hf => rwa [hf] at hrest
    next hf => rwa [hf] at hrest

/-- Without a force a word is seen as it is. -/
theorem lView_unforced (h : s.logic.forces = []) (o d : Nat) : s.lView o d = d % 2 ^ 32 := by
  unfold lView
  rw [h]
  change (d &&& (0 ^^^ (2 ^ 32 - 1))) ||| 0 = _
  rw [Nat.zero_xor, Nat.or_zero, Nat.and_two_pow_sub_one_eq_mod]

/-- Sound memory, and no force in effect. -/
structure LogicPlain (s : State) : Prop where
  sound : s.Sound
  forces : s.logic.forces = []

theorem wr32_logic (s : State) (a v : Nat) : (s.wr32 a v).logic = s.logic := by
  have h := wr32_touched s a v
  exact (congrArg State.logic h.memless : (s.wr32 a v).memless.logic = s.memless.logic)

theorem lPut_logic (s : State) (o v : Nat) : (s.lPut o v).logic = s.logic := wr32_logic _ _ _

theorem LogicPlain.lPut (h : s.LogicPlain) (o v : Nat) : (s.lPut o v).LogicPlain :=
  ⟨wr32_sound h.sound _ _, by rw [lPut_logic, h.forces]⟩

/-- A word the program writes reads back. -/
theorem LogicPlain.rd32_lPut (h : s.LogicPlain) (o v : Nat) : (s.lPut o v).rd32 (logicBase + o)
    = v % 2 ^ 32 := by
  rw [State.lPut, rd32_of_mem _ _ _ _ (wr32_frame s _ _ h.sound.mode).2, lView_unforced h.forces,
    Nat.mod_mod, Nat.mod_mod]

/-- Other words stay under a write. -/
theorem LogicPlain.rd32_lPut_apart (h : s.LogicPlain) {o p : Nat} (hp :
    p + 4 ≤ logicBase + o ∨ logicBase + o + 4 ≤ p)
    (v : Nat) : (s.lPut o v).rd32 p = s.rd32 p := by
  refine rd32_congr fun k hk => ?_
  rw [State.lPut, (wr32_frame s _ _ h.sound.mode).2]
  refine memGet_memPuts_out _ _ _ _ ?_
  rw [length_toLE]
  omega

theorem rd32_setLa (s : State) (b : Bool) (a : Nat) : (s.setLa b).rd32 a = s.rd32 a := rfl

/-! ## Edge detectors, counters and timers -/

theorem setBit_lt {x i n : Nat} (b : Bool) (hi : i < n) (hx : x < 2 ^ n) : setBit x i b < 2 ^ n :=
  setBits_lt _ _ _ _ _ hi hx

theorem lEdge_row (falling : Bool) (w : Nat) (u : State) : EdgeRow falling w u (u.lEdge w falling) := by
  intro o w0 v ho hmode hsynd hrd hlt hforces
  have hplain : u.LogicPlain := ⟨⟨hmode, hsynd⟩, hforces⟩
  have hv : v = u := by
    rw [lWord_sound hplain.sound] at hrd
    exact (congrArg Prod.snd hrd).symm
  subst v ho
  have hword := hplain.rd32_lPut (0xA400 + 4 * lSlot w) (setBit (setBit w0 0 u.logic.la) 1 false)
  rw [Nat.mod_eq_of_lt (setBit_lt _ (by decide) (setBit_lt _ (by decide) hlt))] at hword
  unfold lEdge LClass.record
  simp only [hrd]
  exact ⟨rfl, hword⟩

/-- Q, the input noted and INIT clear in a record's first word. -/
abbrev recordWord (w0 : Nat) (q x : Bool) : Nat := setBit (setBit (setBit w0 0 q) 1 x) 2 false

theorem recordWord_lt {w0 : Nat} (h : w0 < 2 ^ 32) (q x : Bool) : recordWord w0 q x < 2 ^ 32 :=
  setBit_lt _ (by decide) (setBit_lt _ (by decide) (setBit_lt _ (by decide) h))

theorem bit_recordWord {w0 : Nat} (q x : Bool) : bit (recordWord w0 q x % 2 ^ 32) 0 = q := by
  unfold bit recordWord
  rw [Nat.testBit_mod_two_pow, testBit_setBit, testBit_setBit, testBit_setBit]
  rfl

theorem lCounter_row (up : Bool) (w : Nat) (u : State) : CounterRow up w u (u.lCounter w up) := by
  intro o w0 pv cv v ho hmode hsynd hrd hlt hforces x cm c q hx hcm hc hq
  have hplain : u.LogicPlain := ⟨⟨hmode, hsynd⟩, hforces⟩
  have hv : v = u := by
    have hs := lWords_sound hplain.sound o 3
    rw [hrd] at hs
    exact hs
  subst v ho
  generalize ho : 0x9400 + 16 * (lSlot w % 256) = o at hrd ⊢
  have h1 := hplain.lPut o (recordWord w0 q x)
  have h2 := h1.lPut (o + 8) (us 32 c)
  unfold lCounter LClass.record
  simp only [ho, hrd]
  rw [← hx, ← hcm, ← hc, ← hq]
  refine ⟨?_, ?_, ?_⟩
  · change bit _ 0 = q
    rw [lView_unforced h2.forces]
    exact bit_recordWord q x
  · rw [rd32_setLa, h1.rd32_lPut_apart (by omega), hplain.rd32_lPut, Nat.mod_eq_of_lt (recordWord_lt hlt _ _)]
  · rw [rd32_setLa, Nat.add_assoc, h1.rd32_lPut, Nat.mod_eq_of_lt (us_lt 32 c)]

theorem lTimer_row (kind w : Nat) (u : State) : TimerRow kind w u (u.lTimer w kind) := by
  intro o w0 pt et last rem v ho hmode hsynd hrd hlt hk x pin last' rem' ns r hx hpin hlast hrem hns hr
      hforces
  have hplain : u.LogicPlain := ⟨⟨hmode, hsynd⟩, hforces⟩
  have hv : v = u := by
    have hs := lWords_sound hplain.sound o 5
    rw [hrd] at hs
    exact hs
  subst v ho
  generalize ho : 0x5400 + 32 * (lSlot w % 512) = o at hrd ⊢
  obtain ⟨q, et', rem2⟩ := r
  have h1 := hplain.lPut o (recordWord w0 q x)
  have h2 := h1.lPut (o + 8) et'
  have h3 := h2.lPut (o + 12) u.logic.k
  have h4 := h3.lPut (o + 16) rem2
  unfold lTimer LClass.record
  simp only [ho, hrd]
  rw [← hx, ← hpin, ← hlast, ← hrem, ← hns, ← hr]
  simp only [lPut_logic]
  refine ⟨?_, ?_, ?_, ?_, ?_⟩
  · change bit _ 0 = q
    rw [lView_unforced h4.forces]
    exact bit_recordWord q x
  · rw [rd32_setLa, h3.rd32_lPut_apart (by omega), h2.rd32_lPut_apart (by omega),
      h1.rd32_lPut_apart (by omega), hplain.rd32_lPut, Nat.mod_eq_of_lt (recordWord_lt hlt _ _)]
  · rw [rd32_setLa, h3.rd32_lPut_apart (by omega), h2.rd32_lPut_apart (by omega), Nat.add_assoc, h1.rd32_lPut]
  · rw [rd32_setLa, h3.rd32_lPut_apart (by omega), Nat.add_assoc, h2.rd32_lPut, Nat.mod_eq_of_lt hk]
  · rw [rd32_setLa, Nat.add_assoc, h3.rd32_lPut]

/-- CRST brings a counter to its start. -/
theorem lCrst_row (w : Nat) (u : State) : (u.logic.la = false → u.lCrst w = u) ∧
    (u.logic.la = true → ∀ o w0 pv v, o = 0x9400 + 16 * (lSlot w % 256) → u.lWords o 2 = (some [w0, pv], v) →
      u.lCrst w = v.wr32 (logicBase + (o + 8)) (v.lView (o + 8) ((if bits w0 4 3 = 5 then pv else 0)
          % 2 ^ 32))) := by
  unfold lCrst LClass.record
  refine ⟨fun h => ?_, fun h o w0 pv v ho hrd => ?_⟩
  · rw [h]
    rfl
  · subst ho
    simp only [h, if_true, hrd]
    rfl

/-! ## Access to registers by the program -/

theorem lAccRej_row (s : State) : s.lAccRej.on F.LOGIC_FLAG_ACC_REJ = true ∧
    s.lAccRej.get R.LOGIC_CNT_ACCREJ = satInc 32 (s.get R.LOGIC_CNT_ACCREJ) := by
  unfold lAccRej
  refine ⟨?_, ?_⟩
  · unfold inc
    rw [on_congr (get_set_clear _ _ (by decide))]
    exact on_flag s rfl (by decide)
  · unfold inc
    rw [get_set _ _ _ (by decide), flag, get_set_clear _ _ (by decide)]
    exact Nat.mod_eq_of_lt (satInc_lt _ _)

theorem lRdr_row (w : Nat) (u : State) : ReadsWord (fun a v t => ∃ c, c < 25 ∧
    ∀ z, z = { v with free := v.free + 1, logic := { v.logic with clocks := v.logic.clocks + c } } →
    (rdrOk a = false → t.logic.acc = 0 ∧ t.on F.LOGIC_FLAG_ACC_REJ = true ∧
      t.get R.LOGIC_CNT_ACCREJ = satInc 32 (v.get R.LOGIC_CNT_ACCREJ)) ∧
    (rdrOk a = true → ∀ d y, z.busR a logicOrg 0x34 = (d, false, y) → y.WithAcc t (d % 2 ^ 32))) w u
    (u.lRdr w) := by
  refine lWordRd_reads (fun a v => ?_) w u
  refine ⟨Config.freeValue v.free % 25, Nat.mod_lt _ (by decide), fun z hz => ?_⟩
  have hwait : v.lWait 25 = z := hz.symm
  rw [hwait]
  unfold lBar0
  refine ⟨fun hno => ?_, fun hok d y hrd => ?_⟩
  · rw [hno]
    have hrej := lAccRej_row z
    subst z
    exact ⟨rfl, hrej⟩
  · rw [hok, hrd]
    rfl

theorem lWrrOp_row (w : Nat) (u : State) : if u.logic.la then ReadsWord (fun a v t =>
    (wrrOk a = true → t = v.busW
      { a := a, mask := 0xFFFFFFFF, data := v.logic.acc, org := logicOrg, via := .direct }) ∧
    (wrrOk a = false → t.on F.LOGIC_FLAG_ACC_REJ = true ∧ t.mem = v.mem ∧
      t.get R.LOGIC_CNT_ACCREJ = satInc 32 (v.get R.LOGIC_CNT_ACCREJ))) w u (u.lWrrOp w)
    else u.lWrrOp w = u := by
  unfold lWrrOp
  split
  case isFalse h => rfl
  refine lWordRd_reads (fun a v => ?_) w u
  unfold lWrr
  refine ⟨fun hok => if_pos hok, fun hno => ?_⟩
  rw [hno, if_neg (by decide)]
  obtain ⟨hflag, hcount⟩ := lAccRej_row v
  refine when_of _ _ _ (fun t => t.on F.LOGIC_FLAG_ACC_REJ = true ∧ t.mem = v.mem ∧
    t.get R.LOGIC_CNT_ACCREJ = satInc 32 (v.get R.LOGIC_CNT_ACCREJ)) ⟨hflag, rfl, hcount⟩ ⟨?_, rfl, ?_⟩
  · exact (on_congr (get_set_clear _ _ (by decide))).trans hflag
  · exact (get_set_clear _ _ (by decide)).trans hcount

theorem lSubm_row (w : Nat) (u : State) : if u.logic.la then ReadsWord (fun a v t => ∃ c, c < 4 ∧
    ∀ z, z = { v with free := v.free + 1, logic := { v.logic with clocks := v.logic.clocks + c } } →
    (a % 32 = 0 → memClass a = some 0 → t = z.submitTpl 0x17 (a - sramBase) none) ∧
    ((a % 32 ≠ 0 ∨ memClass a ≠ some 0) → t.on F.LOGIC_FLAG_ACC_REJ = true ∧ t.mem = v.mem)) w u (u.lSubm w)
    else u.lSubm w = u := by
  unfold lSubm
  split
  case isFalse h => rfl
  refine lWordRd_reads (fun a v => ?_) w u
  refine ⟨Config.freeValue v.free % 4, Nat.mod_lt _ (by decide), fun z hz => ?_⟩
  have hwait : v.lWait 4 = z := hz.symm
  rw [hwait]
  refine ⟨fun halign hcls => ?_, fun hbad => ?_⟩
  · exact if_pos (by rw [decide_eq_true halign, decide_eq_true hcls]; rfl)
  · rw [if_neg]
    · refine ⟨(lAccRej_row z).1, ?_⟩
      subst z
      rfl
    · intro h
      rw [Bool.and_eq_true, decide_eq_true_eq, decide_eq_true_eq] at h
      rcases hbad with hbad | hbad
      · exact hbad h.1
      · exact hbad h.2

end State

/-! ## The end sequence -/

/-- A field that the end sequence reads or leaves: in LOGIC_STAT beside RET_BUSY, BANK and VALID, or
LOGIC_TEXEC_LAST. -/
abbrev EndField (f : Fld) : Prop :=
  (f.addr = 0x80014 ∨ f.addr = 0x80040) ∧ F.LOGIC_STAT_RET_BUSY.Clear f ∧ F.LOGIC_STAT_BANK.Clear f ∧
    F.LOGIC_STAT_VALID.Clear f

/-- From s to t memory has stayed sound, the field f, the choice of copy and the mark of a running cycle as
they were. -/
structure State.EndKept (f : Fld) (s t : State) : Prop where
  sound : t.Sound
  get : t.get f = s.get f
  copy : t.logic.copy = s.logic.copy
  inCycle : t.logic.inCycle = s.logic.inCycle

namespace State

variable {s t u : State} {f : Fld}

theorem Sound.set (h : s.Sound) {g : Fld} (hmem : F.MEM_INJ_MODE.addr ≠ g.addr) (v : Nat) :
    (s.set g v).Sound :=
  ⟨(get_set_ne s g _ v hmem).trans h.mode, h.synd⟩

namespace EndKept

theorem refl (h : s.Sound) : EndKept f s s := ⟨h, rfl, rfl, rfl⟩

theorem trans (h : EndKept f s t) (k : EndKept f t u) : EndKept f s u :=
  ⟨k.sound, k.get.trans h.get, k.copy.trans h.copy, k.inCycle.trans h.inCycle⟩

theorem set (h : EndKept f s t) {g : Fld} (hg : g.Clear f) (hmem : F.MEM_INJ_MODE.addr ≠ g.addr) (v : Nat) :
    EndKept f s (t.set g v) :=
  ⟨h.sound.set hmem v, (get_set_clear t v hg).trans h.get, h.copy,
    h.inCycle⟩

theorem lg (h : EndKept f s t) {g : LogicS → LogicS} (hcopy : (g t.logic).copy = t.logic.copy)
    (hcycle : (g t.logic).inCycle = t.logic.inCycle) : EndKept f s (t.lg g) :=
  ⟨⟨h.sound.mode, h.sound.synd⟩, h.get, hcopy.trans h.copy, hcycle.trans h.inCycle⟩

theorem wr32 (h : EndKept f s t) (hf : EndField f) (a v : Nat) : EndKept f s (t.wr32 a v) := by
  refine ⟨wr32_sound h.sound a v, ((wr32_touched t a v).get f ?_).trans h.get, ?_, ?_⟩
  · unfold UntouchedReg
    omega
  · rw [wr32_logic, h.copy]
  · rw [wr32_logic, h.inCycle]

theorem when (h : EndKept f s t) {c : Bool} {g : State → State} (hg : EndKept f s (g t)) :
    EndKept f s (t.when c g) := when_of t c g (EndKept f s) h hg

theorem ite {c : Prop} [Decidable c] (ht : EndKept f s t) (hu : EndKept f s u) :
    EndKept f s (if c then t else u) := by
  split
  · exact ht
  · exact hu

theorem foldl {α : Type} {g : State → α → State} (l : List α)
    (hg : ∀ t, ∀ x ∈ l, EndKept f s t → EndKept f s (g t x)) (h : EndKept f s t) :
    EndKept f s (l.foldl g t) := by
  induction l generalizing t with
  | nil => exact h
  | cons x l ih =>
    exact ih (fun t y hy => hg t y (List.mem_cons_of_mem _ hy)) (hg t x (List.mem_cons_self ..) h)

theorem wrWords (h : EndKept f s t) (hf : EndField f) (a : Nat) (ws : List Nat) :
    EndKept f s (t.wrWords a ws) := by
  induction ws generalizing t a with
  | nil => exact h
  | cons v ws ih => exact ih (h.wr32 hf a v) _

/-- A bit of the flags or of the table of forces. -/
theorem set_other (h : EndKept f s t) (hf : EndField f) {g : Fld}
    (hg : g.addr = 0x80018 ∨ g.addr = 0x80058 ∨ 0x80800 ≤ g.addr ∧ g.addr < 0x81000) (v : Nat) :
    EndKept f s (t.set g v) := by
  refine h.set (.inl ?_) ?_ v
  · omega
  · have : F.MEM_INJ_MODE.addr ≥ 0xe0000 := by decide
    omega

end EndKept

theorem lgst_congr (h : t.get F.LOGIC_STAT_LSTATE = s.get F.LOGIC_STAT_LSTATE) : t.lgst = s.lgst := by
  rw [lgst, lgst, h]

theorem retPoint_kept (h : s.Sound) (hf : EndField f) : EndKept f s s.retPoint := by
  have hs : EndKept f s s := .refl h
  unfold retPoint
  split
  case isFalse => exact hs
  extract_lets n s1 d
  split
  case isFalse => exact hs.lg rfl rfl
  have h1 : EndKept f s s1 := hs.lg rfl rfl
  clear_value s1
  split
  · exact h1.set_other hf (.inl rfl) _
  · split
    obtain ⟨-, hbusy, -, -⟩ := hf
    exact (h1.lg rfl rfl).set hbusy (by decide) _

theorem eccTouchIn_sound (h : s.Sound) (a n req : Nat) : s.eccTouchIn a n req = s := by
  unfold eccTouchIn
  rw [h.synd]
  rfl

theorem lBankRead_sound (h : s.Sound) (b : Nat) : s.lBankRead b = s := by
  unfold lBankRead
  rw [eccTouchIn_sound h, eccTouchIn_sound h]

theorem lScan_sound (h : s.Sound) (lo len : Nat) : s.lScan lo len = (false, s) := by
  unfold lScan
  rw [h.synd]
  rfl

theorem forceJudge_kept (h : EndKept f s t) (hf : EndField f) : EndKept f s t.forceJudge := by
  unfold forceJudge
  refine h.foldl _ (fun t i hi ht => ?_)
  have hentry : 0x80800 ≤ 0x80800 + 0x8 * i ∧ 0x80800 + 0x8 * i < 0x81000 := by
    have := List.mem_range.mp hi
    omega
  refine .ite (.ite ?_ (.ite ?_ ?_)) ht
  · exact ((ht.set_other hf (.inr (.inr hentry)) _).set_other hf (.inr (.inr hentry)) _).set_other hf
      (.inl rfl) _
  · exact (ht.set_other hf (.inr (.inr hentry)) _).set_other hf (.inl rfl) _
  · exact ht.set_other hf (.inr (.inr hentry)) _

/-- An exchange clears XPEND and leaves the other fields. -/
theorem exchangeNow_kept (h : s.Sound) (hf : EndField f) :
    EndKept f (((s.set F.LOGIC_STAT_BANK (1 - s.lActive)).set F.LOGIC_STAT_VALID 0).set F.LOGIC_STAT_XPEND 0)
      s.exchangeNow := by
  unfold exchangeNow
  rw [lBankRead_sound h, lBankRead_sound h, eccTouchIn_sound h]
  extract_lets s0 old s1 s2 s3 s4 s5
  have h2 : EndKept f s2 s2 := .refl (((h.set (by decide) _).set (by decide) _).set (by decide) _)
  change EndKept f s2 _
  clear_value s2
  have h3 : EndKept f s2 s3 := h2.foldl _ (fun t x _ ht => ht.wr32 hf _ _)
  clear_value s3
  have h4 : EndKept f s2 s4 := h3.foldl _ (fun t x _ ht => ht.wrWords hf _ _)
  clear_value s4
  have h5 : EndKept f s2 s5 := h4.lg rfl rfl
  exact (forceJudge_kept h5 hf).set_other (g := R.LOGIC_CNT_XCHG) hf (.inr (.inl rfl)) _

/-- The copy of the images at a cycle's end goes into the other copy. -/
theorem lEndCopy_sound (h : s.Sound) : s.lEndCopy.Sound ∧ s.lEndCopy.logic.copy = 1 - s.logic.copy % 2 ∧
    ∀ f, EndField f → s.lEndCopy.get f = s.get f := by
  unfold lEndCopy
  rw [lScan_sound h]
  extract_lets c
  dsimp -zeta only
  rw [if_neg (by decide)]
  extract_lets s1 s2 r mine s3
  have h1 (f : Fld) : EndKept f s s1 := by
    refine ⟨⟨h.mode, ?_⟩, rfl, rfl, rfl⟩
    change s.synd.filter _ = []
    rw [h.synd]
    rfl
  have h2 (f : Fld) (hf : EndField f) : EndKept f s s2 := (h1 f).wr32 hf _ _
  have hsound : s2.Sound := (h2 F.LOGIC_STAT_LSTATE (by decide)).sound
  clear_value s2
  exact ⟨⟨hsound.mode, hsound.synd⟩, rfl, fun f hf => (h2 f hf).get⟩

/-- An exchange leaves the other fields and clears XPEND. -/
theorem exchangeNow_rest (h : s.Sound) (hf : EndField f) (hx : F.LOGIC_STAT_XPEND.Clear f) :
    EndKept f s s.exchangeNow := by
  have hrest := exchangeNow_kept h hf
  obtain ⟨-, -, hbank, hvalid⟩ := hf
  have hbank := (EndKept.refl h).set hbank (by decide) (1 - s.lActive)
  exact ((hbank.set hvalid (by decide) 0).set hx (by decide) 0).trans hrest

theorem exchangeNow_xpend (h : s.Sound) : s.exchangeNow.get F.LOGIC_STAT_XPEND = 0 := by
  rw [(exchangeNow_kept h (by decide)).get, get_set _ _ _ (by decide)]
  rfl

/-- Out of RUN into STOP the cycle in progress ends. -/
theorem setLgst_stop (h : s.lgst = .run) :
    (s.setLgst .stop).logic.inCycle = false ∧ (s.setLgst .stop).logic.copy = s.logic.copy := by
  unfold setLgst
  extract_lets was s1 s2 s3
  rw [if_pos (by rw [show was = .run from h]; rfl)]
  have h2 : s2.logic = s.logic := by
    change (if _ then s1 else s1.wr32 _ _).logic = _
    rw [if_neg (by decide), wr32_logic]
    rfl
  refine ⟨rfl, ?_⟩
  change s2.logic.copy = _
  rw [h2]

/-- The retention point and the exchange that waits for the cycle's end. -/
theorem exchange_at_end (h : s.Sound) {p q : State} (hp : p = s.retPoint)
    (hq : q = p.when (p.on F.LOGIC_STAT_XPEND) exchangeNow) : q.on F.LOGIC_STAT_XPEND = false ∧
      ∀ f, EndField f → F.LOGIC_STAT_XPEND.Clear f → EndKept f s q := by
  have h1 (f : Fld) (hf : EndField f) : EndKept f s p := hp ▸ retPoint_kept h hf
  have hsound : p.Sound := (h1 F.LOGIC_STAT_LSTATE (by decide)).sound
  subst hq
  refine ⟨?_, fun f hf hx => (h1 f hf).when ((h1 f hf).trans (exchangeNow_rest hsound hf hx))⟩
  cases hx : p.on F.LOGIC_STAT_XPEND with
  | false => rwa [when_false]
  | true =>
    rw [when_true, on, exchangeNow_xpend hsound]
    rfl

/-- The end sequence after the copy of the images: a stop that waits takes the engine to STOP. -/
theorem stop_at_end (hrun : s.lgst = .run) (hcycle : s.logic.inCycle = false) {t : State}
    (ht : t = s.when (s.on F.LOGIC_STAT_STOP_PEND) (·.setLgst .stop)) :
    t.logic.inCycle = false ∧ t.logic.copy = s.logic.copy ∧
    t.lgst = (if s.on F.LOGIC_STAT_STOP_PEND then .stop else .run) ∧
    ∀ f ∈ [R.LOGIC_TEXEC_LAST, F.LOGIC_STAT_XPEND], t.get f = s.get f := by
  subst ht
  cases s.on F.LOGIC_STAT_STOP_PEND with
  | false => exact ⟨hcycle, rfl, hrun, fun _ _ => rfl⟩
  | true =>
    obtain ⟨hend, hcopy⟩ := setLgst_stop hrun
    refine ⟨hend, hcopy, setLgst_lgst _ _, fun f hf => ?_⟩
    obtain ⟨hreg, hstate, hstop⟩ :
        UntouchedReg f.addr ∧ F.LOGIC_STAT_LSTATE.Clear f ∧ F.LOGIC_STAT_STOP_PEND.Clear f := by
      revert f hf
      decide
    exact setLgst_get _ _ hreg hstate hstop

theorem lEnd_row (u : State) :
    (u.logic.stack ≠ [] → u.lEnd.lgst = .halt ∧ u.lEnd.get F.LOGIC_STAT_HCAUSE = 1) ∧
    (u.logic.stack = [] → u.get F.MEM_INJ_MODE = 0 → u.synd = [] → u.lgst = .run →
      u.lEnd.get R.LOGIC_TEXEC_LAST = min u.logic.clocks (2 ^ 32 - 1) ∧ u.lEnd.logic.inCycle = false ∧
      u.lEnd.logic.copy = 1 - u.logic.copy % 2 ∧ u.lEnd.on F.LOGIC_STAT_XPEND = false ∧
      u.lEnd.lgst = (if u.on F.LOGIC_STAT_STOP_PEND then .stop else .run)) := by
  refine ⟨fun hstack => ?_, fun hstack hmode hsynd hrun => ?_⟩
  · unfold lEnd
    rw [if_pos hstack]
    exact lStack_halts u
  unfold lEnd
  rw [if_neg (not_not_intro hstack)]
  extract_lets n s1 s2 s3 s4 s5 s6
  have hlast : s2.get R.LOGIC_TEXEC_LAST = min n (2 ^ 32 - 1) := by
    rw [get_set_clear _ _ (by decide), get_set _ _ _ (by decide)]
    exact Nat.mod_eq_of_lt (show min n (2 ^ 32 - 1) < 2 ^ 32 by omega)
  have hstat (f : Fld) (hf : f.addr = 0x80014) : s2.get f = u.get f := by
    rw [get_set_ne _ _ _ _ (by rw [hf]; decide), get_set_ne _ _ _ _ (by rw [hf]; decide)]
  have hsound : s2.Sound := .set (.set ⟨hmode, hsynd⟩ (by decide) _) (by decide) _
  have hcopy2 : s2.logic.copy = u.logic.copy := rfl
  clear_value s2
  obtain ⟨hs3, hcopy3, hget3⟩ : s3.Sound ∧ s3.logic.copy = 1 - s2.logic.copy % 2 ∧
    ∀ f, EndField f → s3.get f = s2.get f := lEndCopy_sound hsound
  clear_value s3
  have hrun3 : s3.lgst = .run := by
    rw [lgst_congr ((hget3 _ (by decide)).trans (hstat _ rfl)), hrun]
  rw [if_neg (not_not_intro hrun3)]
  obtain ⟨hx, hkept⟩ := exchange_at_end (s := s4) (p := s5) (q := s6) ⟨hs3.mode, hs3.synd⟩ rfl rfl
  have hget (f : Fld) (hf : EndField f) (hclear : F.LOGIC_STAT_XPEND.Clear f) : s6.get f = s2.get f :=
    (hkept f hf hclear).get.trans (hget3 f hf)
  have hrun6 : s6.lgst = .run := by
    rw [lgst_congr ((hget _ (by decide) (by decide)).trans (hstat _ rfl)), hrun]
  have hstop : s6.on F.LOGIC_STAT_STOP_PEND = u.on F.LOGIC_STAT_STOP_PEND :=
    on_congr ((hget _ (by decide) (by decide)).trans (hstat _ rfl))
  obtain ⟨-, -, hcopy, hcycle⟩ := hkept F.LOGIC_STAT_LSTATE (by decide) (by decide)
  have hcopy4 : s4.logic.copy = s3.logic.copy := rfl
  have hcycle4 : s4.logic.inCycle = false := rfl
  clear_value s6
  obtain ⟨hend, hcopy7, hlgst, hfields⟩ := stop_at_end hrun6 (hcycle.trans hcycle4) rfl
  refine ⟨?_, hend, ?_, ?_, ?_⟩
  · rw [hfields _ (by simp), hget _ (by decide) (by decide), hlast]
  · rw [hcopy7, hcopy, hcopy4, hcopy3, hcopy2]
  · exact (on_congr (hfields _ (by simp))).trans hx
  · rw [hlgst, hstop]

end State

/-! ## The obligation -/

open State in
/-- Settles O53: every instruction is fetched by one rule, and what it does then is the model's own function
for it, which reads its operand, evaluates its record or ends the cycle. -/
theorem stationLogicInstructions : Obligations.StationLogicInstructions := by
  unfold Obligations.StationLogicInstructions
  refine ⟨?ld, ?ldn, ?and, ?andn, ?or, ?orn, ?xor, ?st, ?stn, ?set, ?rst, ?not, ?pusha, ?pusho, ?pop,
    ?re, ?fe, ?ton, ?tof, ?tp, ?ctu, ?ctd, ?crst, ?ldw, ?ldi, ?ldih, ?stw, ?stwc, ?add, ?sub, ?mul, ?andw, ?orw, ?xorw,
    ?addi, ?shl, ?shr, ?sar, ?ceq, ?cgt, ?clt, ?bit, ?jmp, ?jt, ?jf, ?fin, ?rdr, ?wrr, ?subm, ?nop⟩
  case ld => exact logicRow_of (fun _ => rfl) (lBitRd_reads _)
  case ldn => exact logicRow_of (fun _ => rfl) (lBitRd_reads _)
  case and => exact logicRow_of (fun _ => rfl) (lBitRd_reads _)
  case andn => exact logicRow_of (fun _ => rfl) (lBitRd_reads _)
  case or => exact logicRow_of (fun _ => rfl) (lBitRd_reads _)
  case orn => exact logicRow_of (fun _ => rfl) (lBitRd_reads _)
  case xor => exact logicRow_of (fun _ => rfl) (lBitRd_reads xor)
  case st => exact logicRow_of (fun _ => rfl) (fun w u => lBitWr_writes _ w u)
  case stn => exact logicRow_of (fun _ => rfl) (fun w u => lBitWr_writes _ w u)
  case set =>
    exact logicRow_of (fun _ => rfl) (fun w u => when_la u _ (WritesBit true w u) (lBitWr_writes _ w u))
  case rst =>
    exact logicRow_of (fun _ => rfl) (fun w u => when_la u _ (WritesBit false w u) (lBitWr_writes _ w u))
  case not => exact logicRow_of (fun _ => rfl) (fun _ _ => rfl)
  case pusha => exact logicRow_of (fun _ => rfl) (fun _ u => lPush_row true u)
  case pusho => exact logicRow_of (fun _ => rfl) (fun _ u => lPush_row false u)
  case pop => exact logicRow_of (fun _ => rfl) (fun _ u => lPop_row u)
  case re => exact logicRow_of (fun _ => rfl) (lEdge_row false)
  case fe => exact logicRow_of (fun _ => rfl) (lEdge_row true)
  case ton => exact logicRow_of (fun _ => rfl) (lTimer_row 1)
  case tof => exact logicRow_of (fun _ => rfl) (lTimer_row 2)
  case tp => exact logicRow_of (fun _ => rfl) (lTimer_row 3)
  case ctu => exact logicRow_of (fun _ => rfl) (lCounter_row true)
  case ctd => exact logicRow_of (fun _ => rfl) (lCounter_row false)
  case crst => exact logicRow_of (fun _ => rfl) lCrst_row
  case ldw => exact logicRow_of (fun _ => rfl) (lWordRd_reads (fun _ _ => rfl))
  case ldi => exact logicRow_of (fun _ => rfl) (fun w u => setAcc_withAcc u (by rw [us_sx16, toNat_lt32]))
  case ldih => exact logicRow_of (fun _ => rfl) (fun w u => setAcc_withAcc u (acc_ldih u w))
  case stw => exact logicRow_of (fun _ => rfl) (fun w u => lWordWr_writes _ w u)
  case stwc =>
    exact logicRow_of (fun _ => rfl)
      (fun w u => when_la u _ (WritesWord u.logic.acc w u) (lWordWr_writes _ w u))
  case add => exact logicRow_of (fun _ => rfl) (lAcc_reads acc_add)
  case sub => exact logicRow_of (fun _ => rfl) (lAcc_reads acc_sub)
  case mul => exact logicRow_of (fun _ => rfl) (lAcc_reads acc_mul)
  case andw => exact logicRow_of (fun _ => rfl) (lAcc_reads acc_and)
  case orw => exact logicRow_of (fun _ => rfl) (lAcc_reads acc_or)
  case xorw => exact logicRow_of (fun _ => rfl) (lAcc_reads acc_xor)
  case addi => exact logicRow_of (fun _ => rfl) (fun w u => setAcc_withAcc u (acc_addi u w))
  case shl => exact logicRow_of (fun _ => rfl) (fun w u => setAcc_withAcc u (acc_shl u w))
  case shr => exact logicRow_of (fun _ => rfl) (fun w u h => setAcc_withAcc u (acc_shr h w))
  case sar => exact logicRow_of (fun _ => rfl) (fun w u => setAcc_withAcc u (acc_sar u w))
  case ceq =>
    have hceq (x y : BitVec 32) : decide (x.toInt = y.toInt) = decide (x = y) :=
      decide_eq_decide.mpr BitVec.toInt_inj
    exact logicRow_of (fun _ => rfl) (lCmp_reads (g := fun x y => decide (x = y)) hceq)
  case cgt =>
    have hcgt (x y : BitVec 32) : decide (x.toInt > y.toInt) = y.slt x := BitVec.slt_eq_decide.symm
    exact logicRow_of (fun _ => rfl) (lCmp_reads (g := fun x y => y.slt x) hcgt)
  case clt =>
    have hclt (x y : BitVec 32) : decide (x.toInt < y.toInt) = x.slt y := BitVec.slt_eq_decide.symm
    exact logicRow_of (fun _ => rfl) (lCmp_reads (g := BitVec.slt) hclt)
  case bit =>
    refine logicRow_of (fun _ => rfl) (fun w u => ?_)
    rw [lIdx_mod32]
    rfl
  case jmp => exact logicRow_of (fun _ => rfl) (fun w u => lJump_row u w true)
  case jt => exact logicRow_of (fun _ => rfl) (fun w u => lJump_row u w u.logic.la)
  case jf =>
    refine logicRow_of (fun _ => rfl) (fun w u => (lJump_row u w (!u.logic.la)).trans ?_)
    cases u.logic.la <;> rfl
  case fin => exact logicRow_of (fun _ => rfl) (fun _ u => lEnd_row u)
  case rdr => exact logicRow_of (fun _ => rfl) lRdr_row
  case wrr => exact logicRow_of (fun _ => rfl) lWrrOp_row
  case subm => exact logicRow_of (fun _ => rfl) lSubm_row
  case nop => exact logicRow_of (fun _ => rfl) (fun _ _ => rfl)

end Sys2Proof.Machine
end
